-- ==== Sys2Proof/Word.lean ====
section
/-! DEFINITION. The word types of the device and their plainest arithmetic (R12, R14): nothing here
depends on the machine. -/

namespace Sys2Proof

/-- A BAR0 register word (R14). -/
abbrev Word := BitVec 32
/-- One byte of a descriptor, a barge, a record or device memory. -/
abbrev Byte := BitVec 8
/-- A time-stamp, a host address or another 64-bit quantity (R12). -/
abbrev Word64 := BitVec 64

/-- The bits [lo + n - 1 : lo] of a number. -/
def bitsAt (x lo n : Nat) : Nat := (x >>> lo) % 2 ^ n

/-- The field [lo + n - 1 : lo] of a word, as a number. -/
def Word.get (w : Word) (lo n : Nat) : Nat := bitsAt w.toNat lo n

/-- Bit `i` of a word. -/
def Word.bit (w : Word) (i : Nat) : Bool := w.getLsbD i

/-- The word with the field [lo + n - 1 : lo] replaced by `v`. -/
def Word.put (w : Word) (lo n v : Nat) : Word :=
  BitVec.ofNat 32 (w.toNat - (Word.get w lo n) * 2 ^ lo + (v % 2 ^ n) * 2 ^ lo)

/-- The word with bit `i` set to `b`. -/
def Word.putBit (w : Word) (i : Nat) (b : Bool) : Word := Word.put w i 1 (if b then 1 else 0)

/-- The number a truth value stands for in a register bit. -/
def bitOf (b : Bool) : Nat := if b then 1 else 0

/-- `x` read as an `n`-bit two's complement number. -/
def signed (n x : Nat) : Int :=
  if 2 ^ (n - 1) ≤ x % 2 ^ n then (x % 2 ^ n : Int) - (2 ^ n : Int) else (x % 2 ^ n : Int)

/-- `v` written in `n` bits of two's complement. -/
def unsigned (n : Nat) (v : Int) : Nat := (v % (2 ^ n : Int)).toNat

/-- `v` brought into lo … hi. -/
def clampInt (lo hi v : Int) : Int := if v < lo then lo else if hi < v then hi else v

/-- `v` brought into lo … hi. -/
def clampNat (lo hi v : Nat) : Nat := if v < lo then lo else if hi < v then hi else v

/-- Saturating increment of a 32-bit counter. -/
def satInc (w : Word) (k : Nat) : Word := BitVec.ofNat 32 (Nat.min 0xFFFF_FFFF (w.toNat + k))

/-- The bytes of `x`, least significant first (R14: little-endian). -/
def leBytes : Nat → Nat → List Byte
  | 0, _ => []
  | n + 1, x => BitVec.ofNat 8 x :: leBytes n (x / 256)

/-- The number that little-endian bytes spell. -/
def leNat : List Byte → Nat
  | [] => 0
  | b :: bs => b.toNat + 256 * leNat bs

/-- The number that big-endian bytes spell. -/
def beNat (bs : List Byte) : Nat := bs.foldl (fun a b => a * 256 + b.toNat) 0

/-- The bytes of `x`, most significant first. -/
def beBytes (n x : Nat) : List Byte := (leBytes n x).reverse

/-- `n` bytes at offset `o` of a block, as a little-endian number; bytes past the end read zero. -/
def bytesAt (bs : List Byte) (o n : Nat) : Nat := leNat ((bs.drop o).take n)

/-- `n` bytes at offset `o`, two's complement. -/
def intAt (bs : List Byte) (o n : Nat) : Int := signed (8 * n) (bytesAt bs o n)

/-- Every byte of a list is zero. -/
def allZero (bs : List Byte) : Bool := bs.all (· == 0)

/-- Integer square root, rounded down, by binary digits: `fuel` digits. -/
def isqrtAux (x : Nat) : Nat → Nat → Nat
  | 0, r => r
  | k + 1, r => isqrtAux x k (let t := r + 2 ^ k; if t * t ≤ x then t else r)

/-- Integer square root, rounded down, of a number below 2^256. -/
def isqrt (x : Nat) : Nat := isqrtAux x 128 0

/-- Quotient rounded to nearest, ties away from zero; zero for a zero divisor. -/
def divRound (a b : Int) : Int :=
  if b = 0 then 0 else
    let n := a.natAbs; let d := b.natAbs
    let q : Int := ((2 * n + d) / (2 * d) : Nat)
    if (a < 0) = (b < 0) then q else -q

/-- `x / y` rounded up. -/
def ceilDiv (x y : Nat) : Nat := if y = 0 then 0 else (x + y - 1) / y

/-- The list with element `i` replaced. -/
def setAt {α : Type} (l : List α) (i : Nat) (a : α) : List α := l.set i a

/-- The indices of the set bits of `x` below `n`. -/
def bitList (n x : Nat) : List Nat := (List.range n).filter (fun i => x.testBit i)

end Sys2Proof
end

