-- ==== Sys2Proof/Syntax.lean ====
section
/-! DEFINITION. The commands the device takes: one constructor of `Instr` for each row of
spec/opcode_table.json, with the operands of the row. What the outside world answers while a command
runs (a host read, a sensor, a measurement) is an operand of the command too. -/

namespace Sys2Proof

/-- A submission descriptor as the device holds it once started (R83): its ring, its submission index,
and its fields. -/
structure Req where
  ring : Nat
  idx : Nat
  op : Nat
  flags : Nat
  tag : Nat
  a0 : Word
  a1 : Word
  a2 : Word
  a3 : Word
  a4 : Word
  a5 : Word
  dataAddr : Nat
  dataLen : Nat
  resultLen : Nat
  resultAddr : Nat
  deriving DecidableEq, Repr

/-- What one exchange with the MRAM answers (R503): done and verified, not verified on read-back, or
no response within 1 ms. -/
inductive Xspi where
  | ok | badVerify | noResponse
  deriving DecidableEq, Repr

/-- How a host memory read fails (R84 check 9). -/
inductive ReadFail where
  | urCa | poisoned | timeout
  deriving DecidableEq, Repr

/-- What the outside answers while a command runs. The fields a command does not use are ignored. -/
structure Env where
  /-- the input data at DATA_ADDR, as far as it arrived -/
  data : List Byte
  dataFail : Option ReadFail
  /-- bytes a query reads from a unit outside the model's registers -/
  blob : List Byte
  /-- values measured for the command, in the order its routine takes them -/
  vals : List Int
  /-- a physical act of the command succeeded (a fuse burned, a lane locked, a head answered) -/
  ok : Bool
  /-- ports or lanes that answered in time -/
  mask : BitVec 64
  xspi : Xspi
  deriving DecidableEq, Repr

/-- What the ROM boot finds (R61, R365, R497, R531). -/
structure BootEnv where
  /-- the DEV_ID straps -/
  straps : BitVec 3
  /-- MRAM density in MiB from the SFDP table; none when the table is unreadable -/
  mramMib : Option Nat
  /-- the SRAM repair copy as read from MRAM -/
  repair : List Byte
  /-- levels of ILK_N and PFAIL_N -/
  ilk : Bool
  deriving DecidableEq, Repr

/-- What an ECC-protected read meets (R359, R361). -/
inductive Ecc where
  | clean | corrected | uncorrectable
  deriving DecidableEq, Repr

/-- A fault that its source reports to the collector (R465). -/
structure FaultReport where
  src : BitVec 6
  cause : BitVec 8
  payload : Word
  deriving DecidableEq, Repr

/-- What a supervisor pair reports (R468). -/
inductive SupFault where
  | disagree | eccCorr | eccUe
  deriving DecidableEq, Repr

/-- The host read that ran into its completion timeout (R71). -/
inductive HostRead where
  | doorbell
  | desc (n : Fin 64)
  | data (n : Fin 64) (idx : BitVec 16)
  | firmware
  | repairMap
  deriving DecidableEq, Repr

/-- What a strobe meets: laser outputs whose DAC readback deviates by more than 2 % (R334). -/
structure TickEnv where
  dac : BitVec 16
  deriving DecidableEq, Repr

/-- What one photodiode input shows in the window of a tick (R267, R269, R270): the differential voltage at five sample
instants in nV, late conversion, the channel-fault flag. -/
structure PdIn where
  nv : List Int
  late : Bool
  fault : Bool
  deriving DecidableEq, Repr

/-- The melt band and the second band in the window of a tick, and whether the two power datapaths disagree (R163). -/
structure PdEnv where
  melt : PdIn
  second : PdIn
  mismatch : Bool
  deriving DecidableEq, Repr

/-- Where an island ECC error struck (R164): corrected; uncorrectable in vector record k of those the engine holds, its
planned units first; uncorrectable in program memory or the tick queue. -/
inductive IslandEcc where
  | corrected | record (k : Nat) | program
  deriving DecidableEq, Repr

/-- A CSI-2 long packet as it is received (R291): virtual channel, data type, an uncorrectable header
error, a payload CRC failure, and one line of pixel codes. -/
structure CsiPacket where
  vc : Nat
  dt : Nat
  hdrBad : Bool
  crcBad : Bool
  px : List Nat
  deriving DecidableEq, Repr

/-- A feedback frame of a head (R317): its bytes, and whether every symbol and the framing decoded. -/
structure FbFrame where
  bytes : List Byte
  symbolsOk : Bool
  deriving DecidableEq, Repr

/-- A port that trains: scanner or Byoft (R321). -/
inductive PortRef where
  | scn (b : Fin 16)
  | byf (p : Fin 4)
  deriving DecidableEq, Repr

/-- What a training finds: the receive lanes inverted (R321; a scanner port has lane 0), and on a Byoft port the
received lane ID of each physical lane, 2 bits each (R368). -/
structure TrainInfo where
  polInv : BitVec 4
  laneMap : BitVec 8
  deriving DecidableEq, Repr

/-- What a DRAM training finds (R362): the failing subchannel and byte lane, whether the memory did not answer
as DRAM_GEOM describes, and the result words DRAM_TRAINs_l, lane by lane. -/
structure DramTrain where
  fail : Option (Fin 4 × Fin 5)
  geomBad : Bool
  results : List Word
  deriving DecidableEq, Repr

/-- What a DRAM access is for, where its address does not say it (R361): a record of a barge by its index, a
ledger tile or directory entry, a grid node, a parameter table slot, a profile copy, a spill area, Woram
staging, or none of these. -/
inductive DramUse where
  | basin (layer barge idx : Nat)
  | ledger
  | grid
  | table (slot : Fin 4)
  | profile (b : Fin 16)
  | spill
  | staging
  | other
  deriving DecidableEq, Repr

/-- A request to the DRAM controller (R351 to R353, R358): its class, the engine of a class 0 request, its offset, the bytes of a write, its use, and what the ECC of the burst and of its
mirror copy finds. -/
structure DramReq where
  prio : Fin 4
  engine : Fin 18
  addr : BitVec 36
  data : Option (List Byte)
  use : DramUse
  ecc : Ecc
  mirror : Ecc
  deriving DecidableEq, Repr

/-- A TOPO message (R371, R377, R378): the device it tells of, whether that is the peer on the port itself and
then its port, ID_PART, the peer of each trained port of it, its cross-device lock definitions (index, vertices, peer it
names), whether it is in STANDBY or admitted, and whether it has no open layer. -/
structure TopoMsg where
  dev : Fin 8
  part : Word
  direct : Option (Fin 4)
  nbrs : List (Fin 8)
  locks : List (Fin 64 × List (Int × Int) × Fin 8)
  ready : Bool
  idle : Bool
  /-- the device the message is for, as the flit's ROUTE says (R369) -/
  dst : Fin 8
  deriving DecidableEq, Repr

/-- The devices a message is from and for, as its flit's ROUTE says (R369). -/
structure Route where
  src : Fin 8
  dst : Fin 8
  deriving DecidableEq, Repr

/-- The port a message comes in on, and the device it is for. -/
structure Inlet where
  port : Fin 4
  dst : Fin 8
  deriving DecidableEq, Repr

/-- An entry a peer assigns to a beam of this device (R225): its layer, barge and the index of its first record
there, the beam, the lock, the start point, the 32-byte vector records with their eligible sets resolved, and the
half of a stitch it is (0 or 1), with the split record's position, p, the overlap and the other half's beam. -/
structure XAssign where
  layer : Nat
  barge : Nat
  idx : Nat
  beam : Fin 16
  lock : Fin 64
  sx : Int
  sy : Int
  recs : List Byte
  half : Option (Fin 2)
  splitAt : Nat
  p : Nat
  ovl : Nat
  partner : Nat
  /-- assignment time-stamp and stitch sequence number (R225) -/
  t : Nat
  seq : Nat
  deriving DecidableEq, Repr

/-- A track a peer asks about (R225, R382): the unit's vector, its first tick, the target of each tick in bu with
the emitting flag, and the revisit time in µs. -/
structure XTrack where
  vec : Word
  first : Nat
  pts : List (Int × Int × Bool)
  revisit : Nat
  /-- time-stamp of the request (R225) -/
  t : Nat
  deriving DecidableEq, Repr

/-- A forwarded event (R384, R493). -/
structure FwdEvent where
  t : Word64
  src : BitVec 6
  code : BitVec 8
  flags : BitVec 8
  payload : List Byte
  deriving DecidableEq, Repr

/-- A RESID message (R371, R385): a point for the peer to probe, the positions it measured by beam, the entry
written, or the lock whose entry a grid commit made stale. -/
inductive XResid where
  | ask (lock : Fin 64) (point : Nat) (x y : Int) (table : Word) (set : BitVec 8) (frames : Nat)
  | answer (lock : Fin 64) (point : Nat) (got : List (Nat × Option (Int × Int)))
  | entry (lock : Fin 64) (max rms points : Word)
  | stale (lock : Fin 64)
  deriving DecidableEq, Repr

/-- A Sync with its Follow_Up where two-step (R400 to R403): the port, the domain, the grandmaster with its
dataset, the PTP time of its launch in seconds and 62.5 ps units, the mean path delay the firmware has measured
in 62.5 ps units, and whether the Follow_Up of a two-step Sync came. -/
structure PtpSync where
  port : Fin 2
  domain : BitVec 8
  gm : Word64
  prio1 : BitVec 8
  prio2 : BitVec 8
  cls : BitVec 8
  accuracy : BitVec 8
  sec : BitVec 48
  sub : Nat
  delay : Nat
  followUp : Bool
  /-- link speed: true for 10GBASE-R -/
  fast : Bool
  deriving DecidableEq, Repr

/-- A switch input of an axis (R415). -/
inductive AxInput where
  | limp | limn | home
  deriving DecidableEq, Repr

/-- What a non-PTP Ethernet frame asks (R401): an IPv4 address by ARP, an IPv6 address by neighbour discovery,
or anything else; and the link speed, true for 10GBASE-R. -/
structure EthFrame where
  arp : Option (List Byte)
  nd : Option (List Byte)
  fast : Bool
  deriving DecidableEq, Repr


/-- The commands, in the order of the opcode table. -/
inductive Instr where
  /-- POWER_ON_RESET (R57) -/
  | powerOnReset
  /-- RST_N_RESET (R57) -/
  | rstNReset (lowNs : Nat)
  /-- PERST_N_RESET (R57) -/
  | perstNReset
  /-- SOFT_KEY (R59) -/
  | softKey (key : BitVec 16)
  /-- SOFTWARE_RESET_FIRE (R59) -/
  | softwareResetFire
  /-- RESET_RELEASE_BOOT (R61) -/
  | resetReleaseBoot (b : BootEnv)
  /-- CAUSE_CLR (R57) -/
  | causeClr (hwSet : BitVec 4)
  /-- SAFE_REQ (R48) -/
  | safeReq
  /-- FW_LOAD_START (R67) -/
  | fwLoadStart (ctrl : Word)
  /-- FW_LOAD_DONE (R65) -/
  | fwLoadDone (image : Option (List Byte))
  /-- REGISTER_WRITE (R47) -/
  | registerWrite (off : BitVec 25) (val : Word) (hwMask hwVal : Word)
  /-- W1C_CLEAR (R15) -/
  | w1cClear (off : BitVec 25) (val : Word) (hwSet : Word)
  /-- LOST_CLEAR_CLR (R43) -/
  | lostClearClr (off : BitVec 25) (val : Word) (inc : Nat) (lastBit : Fin 32)
  /-- LOW_WORD_READ (R44) -/
  | lowWordRead (off : BitVec 25)
  /-- BAR0_BAD_REQUEST (R14) -/
  | bar0BadRequest (isWrite : Bool)
  /-- BAR2_READ (R72) -/
  | bar2Read (addr : BitVec 26) (len : Nat) (ecc : Ecc)
  /-- BAR2_WRITE (R72) -/
  | bar2Write (addr : BitVec 26) (bytes : List Byte)
  /-- RING_ENABLE (R73) -/
  | ringEnable (n : Fin 64) (type : Fin 4)
  /-- RING_DISABLE (R102) -/
  | ringDisable (n : Fin 64)
  /-- RING_RESET (R102) -/
  | ringReset (n : Fin 64)
  /-- BARRIER_ACK (R87) -/
  | barrierAck (n : Fin 64) (e : Env)
  /-- DOORBELL_POLL (R80) -/
  | doorbellPoll (page : Option (List Word64)) (e : Env)
  /-- DESCRIPTOR_READ_DONE (R84) -/
  | descriptorReadDone (n : Fin 64) (desc : Option (List Byte)) (e : Env)
  /-- DATA_READ_DONE (R84) -/
  | dataReadDone (n : Fin 64) (idx : BitVec 16) (e : Env)
  /-- PCIE_LINK_DOWN (R82) -/
  | pcieLinkDown
  /-- COALESCE_TIMEOUT (R100) -/
  | coalesceTimeout (n : Fin 64)
  /-- STREAM_FLUSH_TIMEOUT (R97) -/
  | streamFlushTimeout (n : Fin 64)
  /-- BUFFER_DESCRIPTOR (R96) -/
  | bufferDescriptor (r : Req) (e : Env)
  /-- MODE_SET (R48) -/
  | modeSet (r : Req) (e : Env)
  /-- MODE_SET_WAIT_RELEASE (R52) -/
  | modeSetWaitRelease (e : Env)
  /-- FINISH_LIMIT_EXPIRY (R54) -/
  | finishLimitExpiry
  /-- SAFE_POINT_REACHED (R54) -/
  | safePointReached (e : Env)
  /-- LAYER_OPEN (R106) -/
  | layerOpen (r : Req) (e : Env)
  /-- LAYER_OPEN_WAIT_RELEASE (R107) -/
  | layerOpenWaitRelease (n : Fin 64) (e : Env)
  /-- LAYER_START (R110) -/
  | layerStart (r : Req) (e : Env)
  /-- LAYER_START_TICK (R110) -/
  | layerStartTick
  /-- START_WAIT_TIMEOUT (R111) -/
  | startWaitTimeout
  /-- LAYER_END (R112) -/
  | layerEnd
  /-- BARGE_WAIT_TIMEOUT (R113) -/
  | bargeWaitTimeout
  /-- LAYER_DISCARD (R114) -/
  | layerDiscard (r : Req) (e : Env)
  /-- LAYER_QUERY (R106) -/
  | layerQuery (r : Req) (e : Env)
  /-- BARGE (R126) -/
  | barge (r : Req) (e : Env)
  /-- BASIN_SPACE_FETCH (R20) -/
  | basinSpaceFetch (n : Fin 64) (idx : BitVec 16) (e : Env)
  /-- BARGE_DISPATCH (R205) -/
  | bargeDispatch
  /-- LOCK_QUEUE_ROOM (R205) -/
  | lockQueueRoom (i : Fin 64)
  /-- PTAB_LOAD (R130) -/
  | ptabLoad (r : Req) (e : Env)
  /-- PTAB_DROP (R129) -/
  | ptabDrop (r : Req) (e : Env)
  /-- PTAB_QUERY (R129) -/
  | ptabQuery (r : Req) (e : Env)
  /-- BEN_MAP_WRITE (R137) -/
  | benMapWrite (n : Fin 18) (val : Word)
  /-- RAMP_TABLE_WRITE (R170) -/
  | rampTableWrite (n : Fin 18) (t : Fin 32) (i : Fin 33) (val : Word)
  /-- BEN_CNT_CLR (R166) -/
  | benCntClr (n : Fin 18) (val : Word)
  /-- MP_CNT_CLR (R288) -/
  | mpCntClr (n : Fin 18) (val : Word)
  /-- TICK_STROBE (R30) -/
  | tickStrobe (t : TickEnv)
  /-- FB_CUTOFF (R144) -/
  | fbCutoff (n : Fin 18) (p : PdEnv)
  /-- ENGINE_PLAN (R143) -/
  | enginePlan (n : Fin 18) (k : Nat)
  /-- RESIDUE_MISMATCH (R162) -/
  | residueMismatch (n : Fin 18)
  /-- ISLAND_ECC_ERROR (R164) -/
  | islandEccError (n : Fin 18) (kind : IslandEcc)
  /-- BARRIER_RELEASE (R124) -/
  | barrierRelease
  /-- VECTOR_OUTCOME (R247) -/
  | vectorOutcome (n : Fin 18)
  /-- DRY_TIME_REPORT (R207) -/
  | dryTimeReport (n : Fin 18)
  /-- SPARE_TAKEOVER_DONE (R140) -/
  | spareTakeoverDone (b : Fin 16)
  /-- LK_CYCLE (R208) -/
  | lkCycle
  /-- UNIT_COMMIT (R220) -/
  | unitCommit (n : Fin 18)
  /-- HALF1_COMMIT (R214) -/
  | half1Commit (n : Fin 18)
  /-- TRACK_EXPIRY (R218) -/
  | trackExpiry
  /-- LOCK_DEFINE (R200) -/
  | lockDefine (i : Fin 64) (val : Word)
  /-- FADE_WRITE (R236) -/
  | fadeWrite (i : Fin 32) (val : Word)
  /-- LK_CNT_CLR (R234) -/
  | lkCntClr (val : Word)
  /-- REPLAY_LAYER (R228) -/
  | replayLayer (r : Req) (e : Env)
  /-- LOOKAHEAD_READ (R250) -/
  | lookaheadRead (n : Fin 18)
  /-- LEDGER_UPDATE (R246) -/
  | ledgerUpdate (n : Fin 18)
  /-- LEDGER_LOSS_NOTICE (R248) -/
  | ledgerLossNotice (n : Fin 18)
  /-- EPOCH_START (R239) -/
  | epochStart
  /-- LDG_CNT_CLR (R265) -/
  | ldgCntClr (val : Word)
  /-- LEDGER_CLEAR (R259) -/
  | ledgerClear (r : Req) (e : Env)
  /-- LEDGER_READ (R260) -/
  | ledgerRead (r : Req) (e : Env)
  /-- FEATURE_ARRIVAL (R273) -/
  | featureArrival (p : Fin 16)
  /-- GRID_LOAD (R182) -/
  | gridLoad (r : Req) (e : Env)
  /-- GRID_COMMIT (R183) -/
  | gridCommit (b : Fin 16)
  /-- CAL_MARK (R188) -/
  | calMark (r : Req) (e : Env)
  /-- CAL_PROBE (R190) -/
  | calProbe (r : Req) (e : Env)
  /-- CAL_EDGE (R191) -/
  | calEdge (r : Req) (e : Env)
  /-- CAL_RESID (R193) -/
  | calResid (r : Req) (e : Env)
  /-- GRID_QUERY (R180) -/
  | gridQuery (r : Req) (e : Env)
  /-- RESID_QUERY (R194) -/
  | residQuery (r : Req) (e : Env)
  /-- CAMERA_TRIGGER (R292) -/
  | cameraTrigger (p : Fin 20)
  /-- CSI_FRAME_START (R306) -/
  | csiFrameStart (p : Fin 20)
  /-- CSI_LONG_PACKET (R291) -/
  | csiLongPacket (p : Fin 20) (k : CsiPacket)
  /-- CSI_FRAME_END (R293) -/
  | csiFrameEnd (p : Fin 20)
  /-- FRAME_TIMEOUT (R293) -/
  | frameTimeout (p : Fin 20)
  /-- FRAME_START_TIMEOUT (R306) -/
  | frameStartTimeout (p : Fin 20)
  /-- I2C_WRITE_START (R301) -/
  | i2cWriteStart (c : Fin 4)
  /-- I2C_WRITE_END (R302) -/
  | i2cWriteEnd (c : Fin 4) (nack : Option Nat)
  /-- I2C_SET_TIMEOUT (R301) -/
  | i2cSetTimeout (c : Fin 4)
  /-- CAM_SENSOR_SET (R301) -/
  | camSensorSet (r : Req) (e : Env)
  /-- CAM_PIPE_SET (R302) -/
  | camPipeSet (r : Req) (e : Env)
  /-- CAM_DEFECT_LOAD (R308) -/
  | camDefectLoad (r : Req) (e : Env)
  /-- CAM_TRIGGER (R308) -/
  | camTrigger (r : Req) (e : Env)
  /-- CAM_TAP_SET (R300) -/
  | camTapSet (r : Req) (e : Env)
  /-- CAM_QUERY (R308) -/
  | camQuery (r : Req) (e : Env)
  /-- CAM_I2C_READ (R308) -/
  | camI2cRead (r : Req) (e : Env)
  /-- VIS_CNT_CLR (R306) -/
  | visCntClr (val : Word)
  /-- FEEDBACK_FRAME (R317) -/
  | feedbackFrame (b : Fin 16) (f : FbFrame)
  /-- FEEDBACK_WINDOW_END (R318) -/
  | feedbackWindowEnd (b : Fin 16)
  /-- TRAINING_COMPLETE (R321) -/
  | trainingComplete (p : PortRef) (t : TrainInfo)
  /-- TRAINING_TIMEOUT (R321) -/
  | trainingTimeout (p : PortRef)
  /-- HEAD_RESPONSE (R323) -/
  | headResponse (b : Fin 16) (rsp : BitVec 8) (data : List Byte)
  /-- HEAD_CMD_TIMEOUT (R320) -/
  | headCmdTimeout (b : Fin 16)
  /-- ENUM_RETRY (R324) -/
  | enumRetry (b : Fin 16)
  /-- WAKE_COMPLETE (R326) -/
  | wakeComplete (b : Fin 16) (ok : Bool)
  /-- HEAD_JOG (R338) -/
  | headJog (r : Req) (e : Env)
  /-- HEAD_MOOR (R338) -/
  | headMoor (r : Req) (e : Env)
  /-- PORT_SLEEP (R338) -/
  | portSleep (r : Req) (e : Env)
  /-- PORT_QUERY (R338) -/
  | portQuery (r : Req) (e : Env)
  /-- LANE_TEST (R340) -/
  | laneTest (r : Req) (e : Env)
  /-- LANE_INJECT (R341) -/
  | laneInject (l : Fin 64)
  /-- LANE_CFG_WRITE (R340) -/
  | laneCfgWrite (l : Fin 64) (val : Word)
  /-- SCN_CNT_CLR (R318) -/
  | scnCntClr (val : Word)
  /-- LAS_CNT_CLR (R332) -/
  | lasCntClr (val : Word)
  /-- SAFE_MOOR_HOLD_EXPIRY (R329) -/
  | safeMoorHoldExpiry
  /-- ILK_N_LOW (R336) -/
  | ilkNLow
  /-- ILK_N_HIGH (R469) -/
  | ilkNHigh
  /-- EMIT_READBACK (R468) -/
  | emitReadback (b : Fin 16) (level : Bool)
  /-- DRAM_TRAIN (R362) -/
  | dramTrain
  /-- DRAM_TRAIN_DONE (R362) -/
  | dramTrainDone (t : DramTrain)
  /-- DRAM_REQUEST (R352) -/
  | dramRequest (arrive : List DramReq) (sc : Fin 4)
  /-- DRAM_TIMEOUT (R364) -/
  | dramTimeout (sc : Fin 4)
  /-- REFRESH (R355) -/
  | refresh (r : Fin 8)
  /-- MR4_POLL (R356) -/
  | mr4Poll (hot : Bool)
  /-- POWER_DOWN_ENTRY (R357) -/
  | powerDownEntry (r : Fin 8)
  /-- SCRUB_READ (R360) -/
  | scrubRead (off : BitVec 36) (ecc : Ecc)
  /-- DRAM_CNT_CLR (R364) -/
  | dramCntClr (val : Word)
  /-- TOPO (R377) -/
  | topo (p : Fin 4) (t : TopoMsg)
  /-- MEMBER_LOST (R380) -/
  | memberLost (d : Fin 8)
  /-- TIME_SYNC_INTERVAL (R374) -/
  | timeSyncInterval
  /-- TIME_SYNC (R374) -/
  | timeSync (via : Inlet) (t1 : Word64) (step : Option (Int × Nat))
  /-- TIME_REPLY (R374) -/
  | timeReply (p : Fin 4) (t1 t2 t3 t4 : Word64)
  /-- MODE_NOTE (R383) -/
  | modeNote (via : Route) (m : BitVec 3) (cause : BitVec 8)
  /-- QTIME (R225) -/
  | qtime (via : Route) (q : List (Fin 16 × Word))
  /-- XASSIGN (R225) -/
  | xassign (via : Route) (x : XAssign)
  /-- XACK (R225) -/
  | xack (via : Route) (vec : Word)
  /-- XDEV_ACK_TIMEOUT (R225) -/
  | xdevAckTimeout (d : Fin 8) (vec : Word)
  /-- XSYNC (R225) -/
  | xsync (via : Route) (vec : Word) (t : Word64)
  /-- XCOMMIT_REQ (R382) -/
  | xcommitReq (via : Route) (x : XTrack)
  /-- XCOMMIT_RSP (R382) -/
  | xcommitRsp (via : Route) (vec : Word) (shift : Word)
  /-- XPROGRESS (R380) -/
  | xprogress (via : Route) (vec arc : Word) (t : Word64) (final : Option (BitVec 8))
  /-- BAND_UPD (R258) -/
  | bandUpd (via : Route) (x y : Int) (nj : Word) (t : Word64)
  /-- BAND_LOSS (R258) -/
  | bandLoss (via : Route) (x y : Int)
  /-- FORWARDED_EVENT (R384) -/
  | forwardedEvent (via : Route) (v : FwdEvent)
  /-- PROGRESS (R384) -/
  | progress (via : Route) (t : Word64)
  /-- TEST_REQ (R387) -/
  | testReq (p : Fin 4) (l : Fin 4) (answer : Option Bool)
  /-- RESID (R385) -/
  | resid (via : Route) (x : XResid)
  /-- FLIT_NAK (R370) -/
  | flitNak (p : Fin 4) (sent : Bool) (seq : BitVec 12)
  /-- FLIT_REPLAY_TIMEOUT (R370) -/
  | flitReplayTimeout (p : Fin 4) (seq : BitVec 12)
  /-- LINK_RETRAIN (R391) -/
  | linkRetrain (r : Req) (e : Env)
  /-- CAL_XRESID (R385) -/
  | calXresid (r : Req) (e : Env)
  /-- LINK_QUERY (R391) -/
  | linkQuery (r : Req) (e : Env)
  /-- BYF_CNT_CLR (R370) -/
  | byfCntClr (val : Word)
  /-- TB3_COMPARE (R397) -/
  | tb3Compare (peersOpen : Bool)
  /-- TB3_STEP_APPLY (R398) -/
  | tb3StepApply
  /-- PTP_SYNC (R403) -/
  | ptpSync (p : PtpSync)
  /-- PTP_SYNC_LOSS (R403) -/
  | ptpSyncLoss
  /-- GM_SETTLE_EXPIRY (R404) -/
  | gmSettleExpiry
  /-- ETH_LINK_LOSS (R401) -/
  | ethLinkLoss (p : Fin 2)
  /-- TOUT_EDGE (R405) -/
  | toutEdge (i : Fin 8)
  /-- TCAP_EDGE (R409) -/
  | tcapEdge (i : Fin 8) (rising : Bool) (sub : Nat) (stepped : Bool)
  /-- TIME_SNAP (R392) -/
  | timeSnap
  /-- TIME_CNT_CLR (R410) -/
  | timeCntClr (val : Word)
  /-- REFCLK_BAD (R414) -/
  | refclkBad
  /-- TIME_BUILD_START (R395) -/
  | timeBuildStart (r : Req) (e : Env)
  /-- TIME_TOUT_ARM (R405) -/
  | timeToutArm (r : Req) (e : Env)
  /-- TIME_TOUT_STOP (R411) -/
  | timeToutStop (r : Req) (e : Env)
  /-- TIME_TB1_SET (R411) -/
  | timeTb1Set (r : Req) (e : Env)
  /-- PTP_ADDR_SET (R401) -/
  | ptpAddrSet (r : Req) (e : Env)
  /-- TIME_QUERY (R411) -/
  | timeQuery (r : Req) (e : Env)
  /-- PROFILE_UPDATE (R424) -/
  | profileUpdate
  /-- CHOPPER_CROSSING (R419) -/
  | chopperCrossing (a : Fin 8) (ph : Fin 2) (upper : Bool) (ns : Nat) (first : Bool)
  /-- PHASE_OPEN (R421) -/
  | phaseOpen (a : Fin 8) (ph : Fin 2)
  /-- HOLD_CURRENT_TIMER (R421) -/
  | holdCurrentTimer (a : Fin 8)
  /-- DEBOUNCED_INPUT_EDGE (R429) -/
  | debouncedInputEdge (a : Fin 8) (k : AxInput) (level : Bool) (chatter : Bool)
  /-- COARSE_STEP_EDGE (R423) -/
  | coarseStepEdge (a : Fin 8) (dir : Bool) (ns : Nat)
  /-- ENCODER_CHECK (R432) -/
  | encoderCheck (a : Fin 2)
  /-- RECOAT_STEP_START (R433) -/
  | recoatStepStart
  /-- MOT_MOVE (R424) -/
  | motMove (r : Req) (e : Env)
  /-- MOT_RETUNE (R426) -/
  | motRetune (r : Req) (e : Env)
  /-- MOT_STOP (R435) -/
  | motStop (r : Req) (e : Env)
  /-- MOT_HOME (R431) -/
  | motHome (r : Req) (e : Env)
  /-- MOT_ENABLE (R435) -/
  | motEnable (r : Req) (e : Env)
  /-- MOT_RECOAT_SET (R433) -/
  | motRecoatSet (r : Req) (e : Env)
  /-- MOT_RECOAT_RUN (R433) -/
  | motRecoatRun (r : Req) (e : Env)
  /-- MOT_QUERY (R435) -/
  | motQuery (r : Req) (e : Env)
  /-- SINE_TABLE_WRITE (R440) -/
  | sineTableWrite (a : Fin 8) (i : Fin 256) (val : Word)
  /-- LED_PERIOD_START (R442) -/
  | ledPeriodStart (c : Fin 12)
  /-- BLOOM_UPDATE (R444) -/
  | bloomUpdate (k : Fin 2)
  /-- STROBE_WINDOW (R443) -/
  | strobeWindow (c : Fin 12) (opens : Bool)
  /-- LED_DERATE (R445) -/
  | ledDerate (c : Fin 12)
  /-- LED_DIAGNOSTIC (R446) -/
  | ledDiagnostic (c : Fin 12) (onSample offSample : BitVec 10)
  /-- LED_SET (R449) -/
  | ledSet (r : Req) (e : Env)
  /-- BLOOM_SET (R449) -/
  | bloomSet (r : Req) (e : Env)
  /-- LED_REARM (R449) -/
  | ledRearm (r : Req) (e : Env)
  /-- LED_QUERY (R449) -/
  | ledQuery (r : Req) (e : Env)
  /-- BANDGAP_COMPARE (R458) -/
  | bandgapCompare (mv2 : List Int)
  /-- NTC_CONVERT (R459) -/
  | ntcConvert (n : Fin 4) (code : BitVec 12)
  /-- TRIM_RUN (R455) -/
  | trimRun (r : Req) (e : Env)
  /-- TRIM_COMMIT (R454) -/
  | trimCommit (r : Req) (e : Env)
  /-- TRIM_LOAD (R462) -/
  | trimLoad (r : Req) (e : Env)
  /-- TRIM_READ (R461) -/
  | trimRead (r : Req) (e : Env)
  /-- FAULT_DETECTED (R465) -/
  | faultDetected (f : FaultReport)
  /-- SAFE_WORK_SETTLE (R477) -/
  | safeWorkSettle
  /-- GHOST_TRAFFIC (R483) -/
  | ghostTraffic (u : Fin 22) (count : Nat)
  /-- ERR_N_PULSE_END (R474) -/
  | errNPulseEnd
  /-- THERMAL_SAMPLE (R550) -/
  | thermalSample (t : List Int)
  /-- SUPPLY (R538) -/
  | supply (r : Fin 8) (mv low high : Nat)
  /-- PFAIL_N_LOW (R499) -/
  | pfailNLow
  /-- PFAIL_N_HIGH (R469) -/
  | pfailNHigh
  /-- LOCKSTEP (R468) -/
  | lockstep (pair : Fin 2) (kind : SupFault)
  /-- WATCHDOG (R468) -/
  | watchdog
  /-- HIST_SELECT (R473) -/
  | histSelect (k : Fin 32)
  /-- FAULT_INJECT_FIRE (R485) -/
  | faultInjectFire (realToo : Option FaultReport)
  /-- FAULT_ACK (R470) -/
  | faultAck (r : Req) (e : Env)
  /-- FAULT_CLEAR (R471) -/
  | faultClear (r : Req) (e : Env)
  /-- FAULT_INJECT (R485) -/
  | faultInject (r : Req) (e : Env)
  /-- FENCE_LIFT (R484) -/
  | fenceLift (r : Req) (e : Env)
  /-- ERR_LEVEL (R474) -/
  | errLevel (r : Req) (e : Env)
  /-- FAULT_QUERY (R489) -/
  | faultQuery (r : Req) (e : Env)
  /-- HIST_READ (R489) -/
  | histRead (r : Req) (e : Env)
  /-- EVENT_MERGE_RELEASE (R35) -/
  | eventMergeRelease
  /-- NOTE_FLUSH_TIMER (R495) -/
  | noteFlushTimer
  /-- FLUSH_COMPLETE (R498) -/
  | flushComplete (x : Xspi)
  /-- REC_SRAM_FAIL (R503) -/
  | recSramFail (word : BitVec 29)
  /-- REC_CURSOR_LOAD (R501) -/
  | recCursorLoad (idx : Word)
  /-- REC_WIN7_READ (R501) -/
  | recWin7Read
  /-- REC_SHADOW_SELECT (R503) -/
  | recShadowSelect (k : Fin 16)
  /-- MONITOR_SAMPLE (R515) -/
  | monitorSample (slot : Fin 32) (v : Int)
  /-- REC_FLUSH (R518) -/
  | recFlush (r : Req) (e : Env)
  /-- REC_CLEAR (R502) -/
  | recClear (r : Req) (e : Env)
  /-- MON_SET (R518) -/
  | monSet (r : Req) (e : Env)
  /-- MON_CAPTURE (R517) -/
  | monCapture (r : Req) (e : Env)
  /-- LIFE_RESET (R514) -/
  | lifeReset (r : Req) (e : Env)
  /-- REC_READ (R518) -/
  | recRead (r : Req) (e : Env)
  /-- LIFE_READ (R513) -/
  | lifeRead (r : Req) (e : Env)
  /-- WORAM_QUERY (R518) -/
  | woramQuery (r : Req) (e : Env)
  /-- LC_ADVANCE (R523) -/
  | lcAdvance (r : Req) (e : Env)
  /-- MBIST_RUN (R529) -/
  | mbistRun (r : Req) (e : Env)
  /-- REPAIR_STORE (R531) -/
  | repairStore (r : Req) (e : Env)
  /-- BIST_QUERY (R532) -/
  | bistQuery (r : Req) (e : Env)
  /-- REPAIR_APPLY (R531) -/
  | repairApply (map : Option (List Byte))
  /-- BIST_MEM_SELECT (R529) -/
  | bistMemSelect (id : BitVec 10)
  /-- SCANNER_SYMBOL_LOCK_LOSS (R320) -/
  | scannerSymbolLockLoss (b : Fin 16)
  /-- BYOFT_PORT_FAIL (R379) -/
  | byoftPortFail (p : Fin 4) (ecc : Bool)
  /-- LANE_ERR (R311) -/
  | laneErr (p : Fin 20)
  /-- PCIE_LINK_UP (R556) -/
  | pcieLinkUp (speed : Fin 6) (width : Fin 9)
  /-- SUPPLY_RESTORED (R469) -/
  | supplyRestored (r : Fin 8) (mv : Nat)
  /-- REFCLK_RESTORED (R469) -/
  | refclkRestored
  /-- HOST_READ_TIMEOUT (R71) -/
  | hostReadTimeout (w : HostRead)
  /-- MSIX_UNMASK (R101) -/
  | msixUnmask (v : Fin 256)
  /-- PRBS_CHECKER_LOCK (R339) -/
  | prbsCheckerLock (l : Fin 64) (errors bits : Nat)
  /-- QUADRATURE_EDGE (R432) -/
  | quadratureEdge (a : Fin 2) (ch : Bool) (up : Bool) (both : Bool)
  /-- ETH_FRAME_RECEIVED (R401) -/
  | ethFrameReceived (p : Fin 2) (k : EthFrame)
  /-- PTP_TX_INTERVAL (R400) -/
  | ptpTxInterval
  deriving DecidableEq, Repr

end Sys2Proof
end

