-- ==== Sys2Proof/Decode.lean ====
section
/-! DEFINITION. Commands spelled by a word of the opcode table. No row of spec/opcode_table.json gives bits
(every row's list of fields is empty): the commands are pins, bus accesses and descriptors, not words. -/

namespace Sys2Proof

/-- The command a word spells: none, since no row of the table gives bits. -/
def decodeTableWord (_nbits _w : Nat) : Option Instr := none

end Sys2Proof
end

