-- ==== Sys2Proof/Config.lean ====
section
/-! DEFINITION. What one part fixes at manufacture, and the values the spec leaves open. Each constant
here has no body: no proof can see its value. -/

namespace Sys2Proof.Config

/-- The variants of the family (R3). -/
inductive Variant where
  | pq16 | pq12 | pq8
  deriving DecidableEq, Repr

/-- The free values of the model, one for each count of `State.freeCtr` (log entry 2). -/
opaque free : Nat → BitVec 64

/-- The vendor key hash in the life-cycle fuses (R65, check 4). -/
opaque vendorKeyHash : BitVec 384

/-- The identity public key, affine X and Y (R509). -/
opaque pubX : BitVec 384
opaque pubY : BitVec 384

/-- The identity key's signature over a digest, r then s, 48 bytes each (R506). -/
opaque sign : BitVec 384 → BitVec 768

/-- BIST_MEM_INFO of a memory ID: the spec gives the layout of the word, not the memories (R530). -/
opaque memInfo : Nat → Word

/-- The course of a profile too short for its exit speed, by what is asked, length, entry and exit speed,
acceleration, jerk and time (log entry 77). -/
opaque shortProfile : Nat → Nat → Nat → Nat → Nat → Nat → Nat → Nat

/-- A bu that the open targets of both halves of a stitch share, by layer, barge, place, tick and axis (R145, R215; log
entry 94). -/
opaque stitchErr : Nat → Nat → Nat → Nat → Nat → Bool

/-- What the link does not tell of a beam of a peer (log entry 95): whether a point lies in its extent, by global beam;
the arcs of a record at which a point set off from them does, by global beam, record and twice the offset; and the jump
term to an entry at a tick, in seconds times 2^512. -/
opaque peerInside : Nat → Int → Int → Bool
opaque peerRange : Nat → Int → Int → Int → Int → Int → Option (Nat × Nat)
opaque peerJump : Nat → Nat → Nat

/-- The beam whose conflict decided a peer's shift, if one did, by device, vector ID and shift (log entry 96). -/
opaque peerCause : Nat → Nat → Nat → Option (Fin 16)

end Sys2Proof.Config
end

