-- ==== Sys2Proof/Machine/Regs.lean ====
section
/-! DEFINITION. The register map of BAR0: for every register of the spec its offset, its array strides,
its reset value, its writable fields with their access types and limits (R15, R18, R19), and the unit
whose absence makes it read zero (R9). -/

namespace Sys2Proof.Machine

open Sys2Proof.Config (Variant)

/-- The access types of R15 that a write acts on; RO, RS and RSV fields ignore a write. -/
inductive Acc where
  | rw | w1c | wo
  deriving DecidableEq, Repr

/-- What a register table says of a written value that is out of a field's range. -/
inductive Clamp where
  /-- every value is stored -/
  | any
  /-- a value outside lo … hi is stored as the nearer limit -/
  | range (lo hi : Nat)
  /-- a value above n is stored as n -/
  | upTo (n : Nat)
  /-- 0 is stored as n -/
  | zeroIs (n : Nat)
  /-- a two-bit code whose value 3 is stored as 2 -/
  | threeTwo
  /-- SQ_LOG2 of R74: 1 to 3 are stored as 4 and 0 means 16 -/
  | sqLog2
  /-- four two-bit speed codes; 3 in any of them is stored as 2 -/
  | i2cSpeeds
  deriving DecidableEq, Repr

/-- A writable field: its lowest bit, its width, its access and its limit. -/
structure Field where
  lo : Nat
  width : Nat
  acc : Acc
  clamp : Clamp
  deriving DecidableEq, Repr

/-- How a register gets its reset value. -/
inductive ResetRule where
  | const (v : Nat)
  | idPart | capUnits | capStages | dramHash | beMap | fade | visNr | ccm | tone | sine
  deriving DecidableEq, Repr

/-- The unit a register belongs to, by the first array index. -/
inductive UnitKind where
  | always | engine | beam | visPort | bedColour | pdin | axis | led | adcRef | byfPort | byoft | lane
  deriving DecidableEq, Repr

/-- One row of a register table: page offset, first array (count, stride), second array (count,
stride), reset rule, writable fields, whether a lost-clear counter stands at offset + 0x8000 (R19),
and the unit. -/
structure RegRow where
  off : Nat
  n1 : Nat
  s1 : Nat
  n2 : Nat
  s2 : Nat
  reset : ResetRule
  fields : List Field
  lc : Bool
  kind : UnitKind
  deriving DecidableEq, Repr

/-! The counts of the variants (R3, ID_CAP_UNITS, ID_CAP_STAGES). -/

def nBeams : Variant → Nat | .pq16 => 16 | .pq12 => 12 | .pq8 => 8
def nSpares : Variant → Nat | .pq16 => 2 | .pq12 => 1 | .pq8 => 1
def nMpCams : Variant → Nat | .pq16 => 16 | .pq12 => 12 | .pq8 => 8
def nBedCams : Variant → Nat | .pq16 => 4 | .pq12 => 2 | .pq8 => 2
def nPdin : Variant → Nat | .pq16 => 32 | .pq12 => 24 | .pq8 => 16
def nByoft : Variant → Nat | .pq16 => 4 | .pq12 => 2 | .pq8 => 0
def nAxes : Variant → Nat | .pq16 => 8 | .pq12 => 8 | .pq8 => 4
def nLeds : Variant → Nat | .pq16 => 12 | .pq12 => 12 | .pq8 => 8
/-- The physical engines present (R8). -/
def nEngines (v : Variant) : Nat := nBeams v + nSpares v
/-- Camera port p is present: 0 to 15 melt-pool, 16 to 19 bed (R289). -/
def visPresent (v : Variant) (p : Nat) : Bool :=
  decide (p < nMpCams v) || (decide (16 ≤ p) && decide (p - 16 < nBedCams v))
/-- Every variant has four vision engines and four I2C controllers (R3). -/
def visEngPresent (_v : Variant) (k : Nat) : Bool := decide (k < 4)
/-- The lane of R339 belongs to a present port. -/
def lanePresent (v : Variant) (l : Nat) : Bool :=
  if l < 32 then decide (l % 16 < nBeams v) else decide ((l - 32) % 16 / 4 < nByoft v)
/-- The colour stages exist on the bed ports (ID_CAP_STAGES). -/
def hasColour : Variant → Bool | .pq8 => false | _ => true
def idPart : Variant → Nat | .pq16 => 0x50511010 | .pq12 => 0x50510C10 | .pq8 => 0x50510810
def capUnits : Variant → Nat | .pq16 => 0xC8904850 | .pq12 => 0xC84C262C | .pq8 => 0x84082428
def capStages : Variant → Nat | .pq8 => 0x180 | _ => 0x1FF

/-! Identity and capability (00, 01) -/
def ID_PART : Nat := 0x0
def ID_CAP_UNITS : Nat := 0x4
def ID_CAP_STAGES : Nat := 0x8
def ID_LOSTCLR_SUM : Nat := 0x10
def ID_LOSTCLR_BE : Nat := 0x14
/-! Mode and reset control (02) -/
def MODE_STATUS : Nat := 0x10000
def MODE_READY : Nat := 0x10004
def MODE_RST_CAUSE : Nat := 0x10008
def MODE_CTRL : Nat := 0x1000C
def MODE_FW_ADDR_LO : Nat := 0x10010
def MODE_FW_ADDR_HI : Nat := 0x10014
def MODE_FW_LEN : Nat := 0x10018
def MODE_FW_CTRL : Nat := 0x1001C
def MODE_FW_STATUS : Nat := 0x10020
def MODE_FW_VER (i : Nat) : Nat := 0x10024 + i * 0x4
def MODE_HOLD_CFG : Nat := 0x10030
def MODE_WD_CFG : Nat := 0x10034
def MODE_WD_STATUS : Nat := 0x10038
/-! Clocks, power and thermal (21) -/
def CLK_STATUS : Nat := 0x20000
def CLK_TJ (i : Nat) : Nat := 0x20004 + i * 0x4
def CLK_TJ_MAX : Nat := 0x20014
/-- DEDUCED (log entry 5). -/
def CLK_REFMON : Nat := 0x20030
/-- DEDUCED (log entry 5). -/
def CLK_RAIL (i : Nat) : Nat := 0x20020 + i * 0x4
def CLK_ERR : Nat := 0x20040
def CLK_RAIL_EXC : Nat := 0x20044
/-! Host interface set-up (03) -/
def HIF_LINK_STATUS : Nat := 0x30000
def HIF_DB_ADDR_LO : Nat := 0x30004
def HIF_DB_ADDR_HI : Nat := 0x30008
def HIF_DB_CTRL : Nat := 0x3000C
def HIF_BAR2_BASE_LO : Nat := 0x30010
def HIF_BAR2_BASE_HI : Nat := 0x30014
def HIF_MSIX_MAP : Nat := 0x30018
def HIF_ERR_STATUS : Nat := 0x30040
def HIF_BARRIER_STOP (i : Nat) : Nat := 0x30044 + i * 0x4
def HIF_RING_CTRL (i : Nat) : Nat := 0x31000 + i * 0x40
def HIF_RING_SIZE (i : Nat) : Nat := 0x31004 + i * 0x40
def HIF_RING_SQ_BASE_LO (i : Nat) : Nat := 0x31008 + i * 0x40
def HIF_RING_SQ_BASE_HI (i : Nat) : Nat := 0x3100C + i * 0x40
def HIF_RING_CQ_BASE_LO (i : Nat) : Nat := 0x31010 + i * 0x40
def HIF_RING_CQ_BASE_HI (i : Nat) : Nat := 0x31014 + i * 0x40
def HIF_RING_OPT (i : Nat) : Nat := 0x31018 + i * 0x40
def HIF_RING_STREAM (i : Nat) : Nat := 0x3101C + i * 0x40
def HIF_RING_STATUS (i : Nat) : Nat := 0x31020 + i * 0x40
def HIF_RING_CQ_TAIL (i : Nat) : Nat := 0x31024 + i * 0x40
def HIF_RING_SPILL (i : Nat) : Nat := 0x31028 + i * 0x40
def HIF_RING_DROP (i : Nat) : Nat := 0x3102C + i * 0x40
def HIF_RING_INFLIGHT (i : Nat) : Nat := 0x31030 + i * 0x40
/-! DRAM controller (12) -/
def DRAM_STATUS : Nat := 0x40000
def DRAM_GEOM : Nat := 0x40004
def DRAM_CTRL : Nat := 0x40008
def DRAM_BASIN_BASE_LO : Nat := 0x4000C
def DRAM_BASIN_BASE_HI : Nat := 0x40010
def DRAM_BASIN_SIZE : Nat := 0x40014
def DRAM_HASH (i : Nat) : Nat := 0x40100 + i * 0x4
def DRAM_SCHED : Nat := 0x40030
def DRAM_PWR : Nat := 0x40034
def DRAM_SCRUB : Nat := 0x40038
def DRAM_ERR : Nat := 0x40040
def DRAM_CE_CNT : Nat := 0x40044
def DRAM_UE_CNT : Nat := 0x40048
def DRAM_UE_ADDR_LO : Nat := 0x4004C
def DRAM_UE_ADDR_HI : Nat := 0x40050
def DRAM_CNT_CLR : Nat := 0x40054
def DRAM_TRAIN (i j : Nat) : Nat := 0x41000 + i * 0x40 + j * 0x4
/-! Beam engine BEn (05, 06, 09); one page per engine, 0x008 + n -/
def BE_STATUS (n : Nat) : Nat := 0x80000 + n * 0x10000
def BE_BUF (n : Nat) : Nat := 0x80004 + n * 0x10000
def BE_MAP (n : Nat) : Nat := 0x80008 + n * 0x10000
def BE_POS_VEC (n : Nat) : Nat := 0x8000C + n * 0x10000
def BE_POS_ARC (n : Nat) : Nat := 0x80010 + n * 0x10000
def BE_ERR (n : Nat) : Nat := 0x80040 + n * 0x10000
/-- BEn_RETRY_CNT, BEn_CLAMP_CNT, BEn_CLIP_CNT -/
def BE_CNT (n i : Nat) : Nat := 0x80044 + n * 0x10000 + i * 0x4
def BE_CNT_CLR (n : Nat) : Nat := 0x80050 + n * 0x10000
def BE_GRID_ACT (n : Nat) : Nat := 0x80060 + n * 0x10000
def BE_GRID_PEND (n : Nat) : Nat := 0x80064 + n * 0x10000
def BE_GRID_STATUS (n : Nat) : Nat := 0x80068 + n * 0x10000
def BE_MP_STATUS (n : Nat) : Nat := 0x80080 + n * 0x10000
def BE_PD_LIVE (n : Nat) : Nat := 0x80084 + n * 0x10000
def BE_FB_INT (n : Nat) : Nat := 0x80088 + n * 0x10000
def BE_CAM_LAST (n : Nat) : Nat := 0x8008C + n * 0x10000
def BE_MP_ERR (n : Nat) : Nat := 0x800C0 + n * 0x10000
/-- BEn_PD_SAT_CNT, BEn_PD_LATE_CNT, BEn_CAM_MISS_CNT, BEn_CAM_USED_CNT -/
def BE_MP_CNT (n i : Nat) : Nat := 0x800C4 + n * 0x10000 + i * 0x4
def BE_MP_CNT_CLR (n : Nat) : Nat := 0x800D4 + n * 0x10000
def BE_TRK_C1 (n i : Nat) : Nat := 0x81000 + n * 0x10000 + i * 0x10
def BE_TRK_C2 (n i : Nat) : Nat := 0x81004 + n * 0x10000 + i * 0x10
def BE_TRK_DLY (n i : Nat) : Nat := 0x81008 + n * 0x10000 + i * 0x10
def BE_LAS_ON_DLY (n : Nat) : Nat := 0x81040 + n * 0x10000
def BE_LAS_OFF_DLY (n : Nat) : Nat := 0x81044 + n * 0x10000
def BE_PLIN_STEP (n : Nat) : Nat := 0x81048 + n * 0x10000
def BE_MOVE_CFG (n : Nat) : Nat := 0x8104C + n * 0x10000
def BE_CAL_CEIL (n : Nat) : Nat := 0x81050 + n * 0x10000
def BE_CAL_M (n i : Nat) : Nat := 0x81054 + n * 0x10000 + i * 0x4
def BE_CAL_PP (n : Nat) : Nat := 0x81064 + n * 0x10000
def BE_PD_CFG (n : Nat) : Nat := 0x81080 + n * 0x10000
def BE_MP_CFG (n : Nat) : Nat := 0x81084 + n * 0x10000
def BE_PD2_LIM (n : Nat) : Nat := 0x81088 + n * 0x10000
def BE_PD_DARK (n : Nat) : Nat := 0x8108C + n * 0x10000
def BE_PD_DARK_PMIN (n : Nat) : Nat := 0x81090 + n * 0x10000
def BE_CAM_CFG (n : Nat) : Nat := 0x81094 + n * 0x10000
def BE_PLIN (n i : Nat) : Nat := 0x81100 + n * 0x10000 + i * 0x4
def BE_SPOT_Z (n i : Nat) : Nat := 0x81200 + n * 0x10000 + i * 0x8
def BE_SPOT_AUX (n i : Nat) : Nat := 0x81204 + n * 0x10000 + i * 0x8
def BE_RAMP (n i j : Nat) : Nat := 0x82000 + n * 0x10000 + i * 0x100 + j * 0x4
/-! Lock keeper (07) -/
def LK_STATUS : Nat := 0x200000
def LK_ASSIGN_CFG : Nat := 0x200004
def LK_PLUME_CFG : Nat := 0x200008
def LK_PLUME_LEN : Nat := 0x20000C
def LK_PLUME_WID : Nat := 0x200010
def LK_STITCH_CFG : Nat := 0x200014
def LK_WAIT_CFG : Nat := 0x200018
def LK_XDEV_CFG : Nat := 0x20001C
def LK_ERR : Nat := 0x200040
/-- LK_ASSIGN_CNT, LK_STITCH_CNT, LK_PWAIT_CNT, LK_RWAIT_CNT, LK_RETURN_CNT -/
def LK_CNT (i : Nat) : Nat := 0x200044 + i * 0x4
def LK_CNT_CLR : Nat := 0x200058
def LK_FADE (i : Nat) : Nat := 0x200100 + i * 0x4
def LK_QTIME (i : Nat) : Nat := 0x200200 + i * 0x4
def LK_LOCK_CTRL (i : Nat) : Nat := 0x201000 + i * 0x100
def LK_LOCK_XDEV (i : Nat) : Nat := 0x201004 + i * 0x100
def LK_LOCK_STATUS (i : Nat) : Nat := 0x201008 + i * 0x100
def LK_LOCK_VX (i j : Nat) : Nat := 0x201010 + i * 0x100 + j * 0x8
def LK_LOCK_VY (i j : Nat) : Nat := 0x201014 + i * 0x100 + j * 0x8
/-! Heat ledger (08) -/
def LDG_STATUS : Nat := 0x210000
def LDG_CFG : Nat := 0x210004
def LDG_ORG_X : Nat := 0x210008
def LDG_ORG_Y : Nat := 0x21000C
def LDG_SIZE : Nat := 0x210010
def LDG_BASE_LO : Nat := 0x210014
def LDG_BASE_HI : Nat := 0x210018
def LDG_RBASE_LO : Nat := 0x21001C
def LDG_RBASE_HI : Nat := 0x210020
def LDG_DOSE_LSB : Nat := 0x210024
def LDG_TAU : Nat := 0x210028
def LDG_LA : Nat := 0x21002C
def LDG_NBR : Nat := 0x210030
def LDG_EPOCH : Nat := 0x210034
def LDG_EPOCH_T_LO : Nat := 0x210038
def LDG_EPOCH_T_HI : Nat := 0x21003C
def LDG_ERR : Nat := 0x210040
/-- LDG_LATE_CNT, LDG_LOST_CNT, LDG_SAT_CNT, LDG_OUT_CNT -/
def LDG_CNT (i : Nat) : Nat := 0x210044 + i * 0x4
def LDG_CNT_CLR : Nat := 0x210054
def LDG_W (i : Nat) : Nat := 0x210100 + i * 0x4
def LDG_CSTEP (i : Nat) : Nat := 0x210200 + i * 0x4
def LDG_CURVE (i j : Nat) : Nat := 0x211000 + i * 0x100 + j * 0x4
/-! Scanner ports (11) -/
def SCN_STATUS : Nat := 0x220000
def SCN_CFG : Nat := 0x220004
def SCN_ERR : Nat := 0x220040
def SCN_HEAD_CHG : Nat := 0x220044
def SCN_CNT_CLR : Nat := 0x220050
/-- DEDUCED (log entry 33). -/
def SCN_PORT_CFG (i : Nat) : Nat := 0x221000 + i * 0x40
def SCN_PORT_STATE (i : Nat) : Nat := 0x221004 + i * 0x40
def SCN_PORT_HEAD_ID (i : Nat) : Nat := 0x221008 + i * 0x40
/-- SCN_PORTb_MOOR_X, _Y, _Z -/
def SCN_PORT_MOOR (i j : Nat) : Nat := 0x22100C + i * 0x40 + j * 0x4
def SCN_PORT_MOOR_STEP (i : Nat) : Nat := 0x221018 + i * 0x40
/-- SCN_PORTb_ENC_X, _Y, _Z -/
def SCN_PORT_ENC (i j : Nat) : Nat := 0x22101C + i * 0x40 + j * 0x4
def SCN_PORT_TEMP (i : Nat) : Nat := 0x221028 + i * 0x40
/-- SCN_PORTb_TXBAD_CNT, _RXBAD_CNT, _RETRAIN_CNT -/
def SCN_PORT_CNT (i j : Nat) : Nat := 0x22102C + i * 0x40 + j * 0x4
/-! Laser outputs (11) -/
def LAS_STATUS : Nat := 0x240000
def LAS_ERR : Nat := 0x240040
def LAS_CNT_CLR : Nat := 0x240050
def LAS_CFG (i : Nat) : Nat := 0x241000 + i * 0x40
def LAS_CEIL (i : Nat) : Nat := 0x241004 + i * 0x40
def LAS_CODE_MAX (i : Nat) : Nat := 0x241008 + i * 0x40
def LAS_EMIT_VEC (i : Nat) : Nat := 0x24100C + i * 0x40
def LAS_EMIT_ARC (i : Nat) : Nat := 0x241010 + i * 0x40
def LAS_EMIT_TICK_LO (i : Nat) : Nat := 0x241014 + i * 0x40
def LAS_EMIT_TICK_HI (i : Nat) : Nat := 0x241018 + i * 0x40
def LAS_LAST (i : Nat) : Nat := 0x24101C + i * 0x40
/-- LASb_CLAMP_CNT, LASb_NARROW_CNT -/
def LAS_CNT (i j : Nat) : Nat := 0x241020 + i * 0x40 + j * 0x4
/-! Vision pipeline (10) -/
def VIS_STATUS : Nat := 0x260000
def VIS_CFG_BAD : Nat := 0x260004
def VIS_I2C_CFG : Nat := 0x260008
def VIS_ERR : Nat := 0x260040
def VIS_CNT_CLR : Nat := 0x260050
def VIS_PORT_CFG (i : Nat) : Nat := 0x261000 + i * 0x40
def VIS_PORT_SIZE (i : Nat) : Nat := 0x261004 + i * 0x40
def VIS_PORT_TRIG (i : Nat) : Nat := 0x261008 + i * 0x40
def VIS_PORT_PERIOD (i : Nat) : Nat := 0x26100C + i * 0x40
def VIS_PORT_TMO (i : Nat) : Nat := 0x261010 + i * 0x40
def VIS_PORT_SENSOR (i : Nat) : Nat := 0x261014 + i * 0x40
def VIS_PORT_STROBE (i : Nat) : Nat := 0x261018 + i * 0x40
def VIS_PORT_SEQ (i : Nat) : Nat := 0x26101C + i * 0x40
def VIS_PORT_TAG (i : Nat) : Nat := 0x261020 + i * 0x40
/-- VIS_PORTp_SUPP_CNT, _TRUNC_CNT, _MISS_CNT -/
def VIS_PORT_CNT (i j : Nat) : Nat := 0x261024 + i * 0x40 + j * 0x4
def VIS_PORT_PHASE (i : Nat) : Nat := 0x261030 + i * 0x40
def VIS_PORT_DISC_CNT (i : Nat) : Nat := 0x262000 + i * 0x4
def VIS_P_BLACK (i : Nat) : Nat := 0x270000 + i * 0x200
def VIS_P_DPC (i : Nat) : Nat := 0x270004 + i * 0x200
def VIS_P_NR (i : Nat) : Nat := 0x270008 + i * 0x200
def VIS_P_THRESH (i : Nat) : Nat := 0x27000C + i * 0x200
def VIS_P_ROI_POS (i : Nat) : Nat := 0x270010 + i * 0x200
def VIS_P_ROI_SIZE (i : Nat) : Nat := 0x270014 + i * 0x200
def VIS_P_WB_RG (i : Nat) : Nat := 0x272018 + i * 0x200
def VIS_P_WB_B (i : Nat) : Nat := 0x27201C + i * 0x200
def VIS_P_CCM (i j : Nat) : Nat := 0x272020 + i * 0x200 + j * 0x4
def VIS_P_TONE (i j : Nat) : Nat := 0x272080 + i * 0x200 + j * 0x4
/-! Analog trim (17); shadow page at + 0x1_0000 (R453) -/
def ANA_STATUS : Nat := 0x280000
def ANA_TOL : Nat := 0x280004
def ANA_TOL2 : Nat := 0x280008
def ANA_REF_CFG : Nat := 0x28000C
def ANA_REF_STATUS : Nat := 0x280010
def ANA_NTC_CFG (i : Nat) : Nat := 0x280020 + i * 0x4
def ANA_ERR : Nat := 0x280040
def ANA_REJECT_CNT : Nat := 0x280044
def ANA_COMMIT_CNT : Nat := 0x280048
def ANA_PD_OFS (i j : Nat) : Nat := 0x281000 + i * 0x20 + j * 0x4
def ANA_PD_GAIN (i : Nat) : Nat := 0x281010 + i * 0x20
def ANA_DAC_OFS (i : Nat) : Nat := 0x281800 + i * 0x10
def ANA_DAC_GAIN (i : Nat) : Nat := 0x281804 + i * 0x10
def ANA_DAC_SEG (i : Nat) : Nat := 0x281808 + i * 0x10
def ANA_CMP (i j : Nat) : Nat := 0x281A00 + i * 0x10 + j * 0x4
def ANA_LEDS (i : Nat) : Nat := 0x281B00 + i * 0x4
def ANA_BG (i : Nat) : Nat := 0x281C00 + i * 0x4
def ANA_ADCREF (i : Nat) : Nat := 0x281C10 + i * 0x4
def ANA_SH_PD_OFS (i j : Nat) : Nat := 0x291000 + i * 0x20 + j * 0x4
def ANA_SH_PD_GAIN (i : Nat) : Nat := 0x291010 + i * 0x20
def ANA_SH_DAC_OFS (i : Nat) : Nat := 0x291800 + i * 0x10
def ANA_SH_DAC_GAIN (i : Nat) : Nat := 0x291804 + i * 0x10
def ANA_SH_DAC_SEG (i : Nat) : Nat := 0x291808 + i * 0x10
def ANA_SH_CMP (i j : Nat) : Nat := 0x291A00 + i * 0x10 + j * 0x4
def ANA_SH_LEDS (i : Nat) : Nat := 0x291B00 + i * 0x4
def ANA_SH_BG (i : Nat) : Nat := 0x291C00 + i * 0x4
def ANA_SH_ADCREF (i : Nat) : Nat := 0x291C10 + i * 0x4
/-! Motion (15) -/
def MOT_STATUS : Nat := 0x2A0000
def MOT_CFG : Nat := 0x2A0004
def MOT_ERR : Nat := 0x2A0040
def MOT_AX_CFG (i : Nat) : Nat := 0x2A1000 + i * 0x80
def MOT_AX_SCALE (i : Nat) : Nat := 0x2A1004 + i * 0x80
def MOT_AX_VMAX (i : Nat) : Nat := 0x2A1008 + i * 0x80
def MOT_AX_ACC (i : Nat) : Nat := 0x2A100C + i * 0x80
def MOT_AX_EDEC (i : Nat) : Nat := 0x2A1010 + i * 0x80
def MOT_AX_CUR (i : Nat) : Nat := 0x2A1014 + i * 0x80
def MOT_AX_CHOP (i : Nat) : Nat := 0x2A1018 + i * 0x80
def MOT_AX_CHOP2 (i : Nat) : Nat := 0x2A101C + i * 0x80
def MOT_AX_DEB (i : Nat) : Nat := 0x2A1020 + i * 0x80
def MOT_AX_HOME (i : Nat) : Nat := 0x2A1024 + i * 0x80
def MOT_AX_POS (i : Nat) : Nat := 0x2A1028 + i * 0x80
def MOT_AX_VEL (i : Nat) : Nat := 0x2A102C + i * 0x80
def MOT_AX_STATE (i : Nat) : Nat := 0x2A1030 + i * 0x80
def MOT_AX_OFS (i : Nat) : Nat := 0x2A1034 + i * 0x80
def MOT_AX_OVERSHOOT (i : Nat) : Nat := 0x2A1038 + i * 0x80
def MOT_AX_ENC (i : Nat) : Nat := 0x2A103C + i * 0x80
def MOT_AX_ENC_SCALE (i : Nat) : Nat := 0x2A1040 + i * 0x80
def MOT_AX_FE_LIM (i : Nat) : Nat := 0x2A1044 + i * 0x80
def MOT_AX_HOLD (i : Nat) : Nat := 0x2A1048 + i * 0x80
def MOT_AX_SIN (i j : Nat) : Nat := 0x2A4000 + i * 0x400 + j * 0x4
/-! Illumination (16) -/
def ILL_STATUS : Nat := 0x2B0000
def ILL_DERATE : Nat := 0x2B0004
def ILL_SAFE_BLOOM : Nat := 0x2B0008
def ILL_NTC (i : Nat) : Nat := 0x2B0010 + i * 0x4
def ILL_ERR : Nat := 0x2B0040
def ILL_CH_CFG (i : Nat) : Nat := 0x2B1000 + i * 0x20
def ILL_CH_LEVEL (i : Nat) : Nat := 0x2B1004 + i * 0x20
def ILL_CH_TARGET (i : Nat) : Nat := 0x2B1008 + i * 0x20
def ILL_CH_SAFE (i : Nat) : Nat := 0x2B100C + i * 0x20
def ILL_CH_SENSE (i : Nat) : Nat := 0x2B1010 + i * 0x20
def ILL_BLOOM_MODE (i : Nat) : Nat := 0x2B2000 + i * 0x10
def ILL_BLOOM_LEVEL (i : Nat) : Nat := 0x2B2004 + i * 0x10
def ILL_BLOOM_PERIOD (i : Nat) : Nat := 0x2B2008 + i * 0x10
/-! Time and PTP (14) -/
def TIME_STATUS : Nat := 0x2C0000
def TIME_CFG : Nat := 0x2C0004
def TIME_PTP_INTV : Nat := 0x2C0008
def TIME_PTP_GM : Nat := 0x2C000C
def TIME_STEP_LIM : Nat := 0x2C0010
def TIME_LOCK_LIM : Nat := 0x2C0014
def TIME_TB1_FREQ : Nat := 0x2C0018
def TIME_TB1_EPOCH_LO : Nat := 0x2C001C
def TIME_TB1_EPOCH_HI : Nat := 0x2C0020
/-- TIME_SNAP -/
def TIME_SNAP_CTRL : Nat := 0x2C0024
def TIME_ERR : Nat := 0x2C0040
def TIME_CNT_CLR : Nat := 0x2C0050
def TIME_TB_LO (i : Nat) : Nat := 0x2C0100 + i * 0x8
def TIME_TB_HI (i : Nat) : Nat := 0x2C0104 + i * 0x8
def TIME_SNAP_LO (i : Nat) : Nat := 0x2C0120 + i * 0x8
def TIME_SNAP_HI (i : Nat) : Nat := 0x2C0124 + i * 0x8
def TIME_ETH_STATUS (i : Nat) : Nat := 0x2C0200 + i * 0x20
def TIME_ETH_ING_LAT (i : Nat) : Nat := 0x2C0204 + i * 0x20
def TIME_ETH_EGR_LAT (i : Nat) : Nat := 0x2C0208 + i * 0x20
def TIME_ETH_ASYM (i : Nat) : Nat := 0x2C020C + i * 0x20
def TIME_TOUT_CFG (i : Nat) : Nat := 0x2C1000 + i * 0x20
def TIME_TOUT_NEXT_LO (i : Nat) : Nat := 0x2C1004 + i * 0x20
def TIME_TOUT_NEXT_HI (i : Nat) : Nat := 0x2C1008 + i * 0x20
def TIME_TOUT_PERIOD (i : Nat) : Nat := 0x2C100C + i * 0x20
def TIME_TOUT_WIDTH (i : Nat) : Nat := 0x2C1010 + i * 0x20
def TIME_TOUT_SKIP_CNT (i : Nat) : Nat := 0x2C1014 + i * 0x20
def TIME_TCAP_CFG (i : Nat) : Nat := 0x2C1100 + i * 0x20
/-- TIME_TCAPi_LAST_TB3_LO -/
def TIME_TCAP_TB3_LO (i : Nat) : Nat := 0x2C1104 + i * 0x20
def TIME_TCAP_TB3_HI (i : Nat) : Nat := 0x2C1108 + i * 0x20
def TIME_TCAP_TB1_LO (i : Nat) : Nat := 0x2C110C + i * 0x20
def TIME_TCAP_TB1_HI (i : Nat) : Nat := 0x2C1110 + i * 0x20
def TIME_TCAP_DROP_CNT (i : Nat) : Nat := 0x2C1114 + i * 0x20
/-! Byoft link (13) -/
def BYF_STATUS : Nat := 0x2D0000
def BYF_CFG : Nat := 0x2D0004
def BYF_TIME_CFG : Nat := 0x2D0008
def BYF_TIME_OFS : Nat := 0x2D000C
def BYF_ERR : Nat := 0x2D0040
def BYF_JOIN : Nat := 0x2D0044
def BYF_CNT_CLR : Nat := 0x2D0050
def BYF_PORT_STATE (i : Nat) : Nat := 0x2D1000 + i * 0x40
def BYF_PORT_DELAY (i : Nat) : Nat := 0x2D1004 + i * 0x40
def BYF_PORT_RETRY_CNT (i : Nat) : Nat := 0x2D1008 + i * 0x40
def BYF_PORT_CRC_CNT (i : Nat) : Nat := 0x2D100C + i * 0x40
def BYF_PORT_RETRAIN_CNT (i : Nat) : Nat := 0x2D1010 + i * 0x40
/-! Fault collection (18) -/
def FLT_LIVE (i : Nat) : Nat := 0x2E0000 + i * 0x4
def FLT_FENCED : Nat := 0x2E0008
def FLT_ERR_CFG : Nat := 0x2E000C
def FLT_HIST_SEL : Nat := 0x2E0010
def FLT_HIST_D (i : Nat) : Nat := 0x2E0014 + i * 0x4
def FLT_HIST_CNT : Nat := 0x2E0028
def FLT_PROMOTE0 : Nat := 0x2E002C
def FLT_PROMOTE1 : Nat := 0x2E0030
def FLT_INJ_STATUS : Nat := 0x2E0034
def FLT_GHOST_CNT : Nat := 0x2E0038
def FLT_STATUS : Nat := 0x2E0040
def FLT_SEEN (i : Nat) : Nat := 0x2E0044 + i * 0x4
def FLT_FIRST_SAFE : Nat := 0x2E004C
def FLT_FIRST_HOLD : Nat := 0x2E0050
/-! Event recorder (19) -/
def REC_STATUS : Nat := 0x2F0000
def REC_WPTR : Nat := 0x2F0004
def REC_AREA : Nat := 0x2F0008
def REC_CFG : Nat := 0x2F000C
def REC_SRC_MASK0 : Nat := 0x2F0010
def REC_SRC_MASK1 : Nat := 0x2F0014
def REC_CURSOR : Nat := 0x2F0018
def REC_DROP_CNT : Nat := 0x2F001C
def REC_ERR : Nat := 0x2F0040
def REC_WIN (i : Nat) : Nat := 0x2F0100 + i * 0x4
def REC_SHADOW_SEL : Nat := 0x2F0200
def REC_SHADOW_D (i : Nat) : Nat := 0x2F0204 + i * 0x4
def REC_SHADOW_CNT : Nat := 0x2F0210
/-! BIST and life-cycle (20) -/
def BIST_LC : Nat := 0x300000
def BIST_REPAIR_ADDR_LO : Nat := 0x300004
def BIST_REPAIR_ADDR_HI : Nat := 0x300008
def BIST_REPAIR_LEN : Nat := 0x30000C
def BIST_REPAIR_CTRL : Nat := 0x300010
def BIST_REPAIR_STATUS : Nat := 0x300014
def BIST_LBIST_CFG : Nat := 0x300018
def BIST_LBIST_STATUS : Nat := 0x30001C
def BIST_LBIST_RUN : Nat := 0x300020
def BIST_LBIST_FAIL : Nat := 0x300024
def BIST_MBIST_STATUS : Nat := 0x300028
def BIST_MEM_SEL : Nat := 0x300030
def BIST_MEM_INFO : Nat := 0x300034
def BIST_ERR : Nat := 0x300040
/-! Monitors and lifetime counters (19) -/
def MON_CFG (i : Nat) : Nat := 0x311000 + i * 0x40
def MON_LO (i : Nat) : Nat := 0x311004 + i * 0x40
def MON_SAMPLE (i : Nat) : Nat := 0x311008 + i * 0x40
def MON_MIN (i : Nat) : Nat := 0x31100C + i * 0x40
def MON_MAX (i : Nat) : Nat := 0x311010 + i * 0x40
def MON_COUNT_LO (i : Nat) : Nat := 0x311014 + i * 0x40
def MON_COUNT_HI (i : Nat) : Nat := 0x311018 + i * 0x40
def MON_SUM_LO (i : Nat) : Nat := 0x31101C + i * 0x40
def MON_SUM_HI (i : Nat) : Nat := 0x311020 + i * 0x40
def MON_BIN (i j : Nat) : Nat := 0x314000 + i * 0x100 + j * 0x4
/-! Lane test (11) -/
def LT_CFG (i : Nat) : Nat := 0x321000 + i * 0x20
def LT_ERR (i : Nat) : Nat := 0x321004 + i * 0x20
def LT_BITS_LO (i : Nat) : Nat := 0x321008 + i * 0x20
def LT_BITS_HI (i : Nat) : Nat := 0x32100C + i * 0x20
def LT_STATUS (i : Nat) : Nat := 0x321010 + i * 0x20
/-! Measurement and signing (19) -/
def MEAS_STATUS : Nat := 0x330000
def MEAS_WORAM_SEQ : Nat := 0x330004
def MEAS_FW (i j : Nat) : Nat := 0x330100 + i * 0x40 + j * 0x4
def MEAS_PUBX (i : Nat) : Nat := 0x330200 + i * 0x4
def MEAS_PUBY (i : Nat) : Nat := 0x330240 + i * 0x4
def MEAS_DEVID (i : Nat) : Nat := 0x330280 + i * 0x4

/-! The register tables, one list of rows per block. -/

def page00 : List RegRow := [
  ⟨0x0, 1, 0x4, 1, 0x4, .idPart, [], false, .always⟩,
  ⟨0x4, 1, 0x4, 1, 0x4, .capUnits, [], false, .always⟩,
  ⟨0x8, 1, 0x4, 1, 0x4, .capStages, [], false, .always⟩,
  ⟨0x10, 1, 0x4, 1, 0x4, .const 0, [], false, .always⟩,
  ⟨0x14, 1, 0x4, 1, 0x4, .const 0, [], false, .always⟩]

def page01_0 : List RegRow := [
  ⟨0x0, 1, 0x4, 1, 0x4, .const 0, [], false, .always⟩,
  ⟨0x4, 1, 0x4, 1, 0x4, .const 0, [], false, .always⟩,
  ⟨0x8, 1, 0x4, 1, 0x4, .const 0, [], true, .always⟩,
  ⟨0xC, 1, 0x4, 1, 0x4, .const 0, [⟨16, 16, .wo, .any⟩, ⟨2, 1, .wo, .any⟩, ⟨1, 1, .wo, .any⟩], false, .always⟩,
  ⟨0x10, 1, 0x4, 1, 0x4, .const 0, [⟨12, 20, .rw, .any⟩], false, .always⟩,
  ⟨0x14, 1, 0x4, 1, 0x4, .const 0, [⟨0, 32, .rw, .any⟩], false, .always⟩,
  ⟨0x18, 1, 0x4, 1, 0x4, .const 0, [⟨0, 23, .rw, .any⟩], false, .always⟩,
  ⟨0x1C, 1, 0x4, 1, 0x4, .const 0, [⟨31, 1, .wo, .any⟩, ⟨0, 2, .rw, .any⟩], false, .always⟩,
  ⟨0x20, 1, 0x4, 1, 0x4, .const 0, [], false, .always⟩,
  ⟨0x24, 3, 0x4, 1, 0x4, .const 0, [], false, .always⟩,
  ⟨0x30, 1, 0x4, 1, 0x4, .const 0x7D0, [⟨0, 16, .rw, .range 0 10000⟩], false, .always⟩,
  ⟨0x34, 1, 0x4, 1, 0x4, .const 3, [⟨2, 1, .rw, .any⟩, ⟨1, 1, .rw, .any⟩, ⟨0, 1, .rw, .any⟩], false, .always⟩]

def page01_1 : List RegRow := [
  ⟨0x38, 1, 0x4, 1, 0x4, .const 0, [], false, .always⟩]

def page01 : List RegRow := page01_0 ++ page01_1

def page02 : List RegRow := [
  ⟨0x0, 1, 0x4, 1, 0x4, .const 0, [], false, .always⟩,
  ⟨0x4, 4, 0x4, 1, 0x4, .const 0, [], false, .always⟩,
  ⟨0x14, 1, 0x4, 1, 0x4, .const 0, [], false, .always⟩,
  ⟨0x30, 1, 0x4, 1, 0x4, .const 0, [⟨2, 1, .rw, .any⟩, ⟨0, 2, .rw, .any⟩], false, .always⟩,
  ⟨0x20, 8, 0x4, 1, 0x4, .const 0, [], false, .always⟩,
  ⟨0x40, 1, 0x4, 1, 0x4, .const 0, [⟨0, 4, .w1c, .any⟩], true, .always⟩,
  ⟨0x44, 1, 0x4, 1, 0x4, .const 0, [⟨0, 8, .w1c, .any⟩], true, .always⟩]

def page03_0 : List RegRow := [
  ⟨0x0, 1, 0x4, 1, 0x4, .const 0, [], false, .always⟩,
  ⟨0x4, 1, 0x4, 1, 0x4, .const 0, [⟨9, 23, .rw, .any⟩], false, .always⟩,
  ⟨0x8, 1, 0x4, 1, 0x4, .const 0, [⟨0, 32, .rw, .any⟩], false, .always⟩,
  ⟨0xC, 1, 0x4, 1, 0x4, .const 0x3E8, [⟨31, 1, .rw, .any⟩, ⟨0, 17, .rw, .range 250 100000⟩], false, .always⟩,
  ⟨0x10, 1, 0x4, 1, 0x4, .const 0, [⟨26, 6, .rw, .any⟩], false, .always⟩,
  ⟨0x14, 1, 0x4, 1, 0x4, .const 0, [⟨0, 4, .rw, .any⟩], false, .always⟩,
  ⟨0x18, 1, 0x4, 1, 0x4, .const 0, [⟨24, 8, .rw, .any⟩, ⟨16, 8, .rw, .any⟩, ⟨8, 8, .rw, .any⟩, ⟨0, 8, .rw, .any⟩], false, .always⟩,
  ⟨0x40, 1, 0x4, 1, 0x4, .const 0, [⟨0, 11, .w1c, .any⟩], true, .always⟩,
  ⟨0x44, 2, 0x4, 1, 0x4, .const 0, [⟨0, 32, .w1c, .any⟩], true, .always⟩,
  ⟨0x1000, 64, 0x40, 1, 0x4, .const 0, [⟨31, 1, .rw, .any⟩, ⟨30, 1, .wo, .any⟩, ⟨0, 2, .rw, .any⟩], false, .always⟩,
  ⟨0x1004, 64, 0x40, 1, 0x4, .const 0x604, [⟨8, 5, .rw, .range 6 20⟩, ⟨0, 4, .rw, .sqLog2⟩], false, .always⟩,
  ⟨0x1008, 64, 0x40, 1, 0x4, .const 0, [⟨12, 20, .rw, .any⟩], false, .always⟩]

def page03_1 : List RegRow := [
  ⟨0x100C, 64, 0x40, 1, 0x4, .const 0, [⟨0, 32, .rw, .any⟩], false, .always⟩,
  ⟨0x1010, 64, 0x40, 1, 0x4, .const 0, [⟨12, 20, .rw, .any⟩], false, .always⟩,
  ⟨0x1014, 64, 0x40, 1, 0x4, .const 0, [⟨0, 32, .rw, .any⟩], false, .always⟩,
  ⟨0x1018, 64, 0x40, 1, 0x4, .const 0, [⟨24, 8, .rw, .any⟩, ⟨16, 8, .rw, .any⟩, ⟨8, 8, .rw, .any⟩, ⟨1, 1, .rw, .any⟩, ⟨0, 1, .rw, .any⟩], false, .always⟩,
  ⟨0x101C, 64, 0x40, 1, 0x4, .const 0, [⟨16, 16, .rw, .any⟩, ⟨8, 8, .rw, .any⟩, ⟨0, 4, .rw, .any⟩], false, .always⟩,
  ⟨0x1020, 64, 0x40, 1, 0x4, .const 0, [], false, .always⟩,
  ⟨0x1024, 64, 0x40, 1, 0x4, .const 0, [], false, .always⟩,
  ⟨0x1028, 64, 0x40, 1, 0x4, .const 0, [], false, .always⟩,
  ⟨0x102C, 64, 0x40, 1, 0x4, .const 0, [], false, .always⟩,
  ⟨0x1030, 64, 0x40, 1, 0x4, .const 0, [], false, .always⟩]

def page03 : List RegRow := page03_0 ++ page03_1

def page04_0 : List RegRow := [
  ⟨0x0, 1, 0x4, 1, 0x4, .const 0, [], false, .always⟩,
  ⟨0x4, 1, 0x4, 1, 0x4, .const 0, [⟨4, 2, .rw, .threeTwo⟩, ⟨3, 1, .rw, .any⟩, ⟨1, 1, .rw, .any⟩, ⟨0, 1, .rw, .any⟩], false, .always⟩,
  ⟨0x8, 1, 0x4, 1, 0x4, .const 0, [⟨31, 1, .wo, .any⟩], false, .always⟩,
  ⟨0xC, 1, 0x4, 1, 0x4, .const 0x20000000, [⟨20, 12, .rw, .any⟩], false, .always⟩,
  ⟨0x10, 1, 0x4, 1, 0x4, .const 0, [⟨0, 32, .rw, .any⟩], false, .always⟩,
  ⟨0x14, 1, 0x4, 1, 0x4, .const 0x400, [⟨0, 15, .rw, .any⟩], false, .always⟩,
  ⟨0x100, 7, 0x4, 1, 0x4, .dramHash, [⟨0, 17, .rw, .any⟩], false, .always⟩,
  ⟨0x30, 1, 0x4, 1, 0x4, .const 0x28, [⟨0, 6, .rw, .range 20 40⟩], false, .always⟩,
  ⟨0x34, 1, 0x4, 1, 0x4, .const 0x400, [⟨0, 16, .rw, .any⟩], false, .always⟩,
  ⟨0x38, 1, 0x4, 1, 0x4, .const 0x80000018, [⟨31, 1, .rw, .any⟩, ⟨0, 8, .rw, .zeroIs 1⟩], false, .always⟩,
  ⟨0x40, 1, 0x4, 1, 0x4, .const 0, [⟨0, 7, .w1c, .any⟩], true, .always⟩,
  ⟨0x44, 1, 0x4, 1, 0x4, .const 0, [], false, .always⟩]

def page04_1 : List RegRow := [
  ⟨0x48, 1, 0x4, 1, 0x4, .const 0, [], false, .always⟩,
  ⟨0x4C, 1, 0x4, 1, 0x4, .const 0, [], false, .always⟩,
  ⟨0x50, 1, 0x4, 1, 0x4, .const 0, [], false, .always⟩,
  ⟨0x54, 1, 0x4, 1, 0x4, .const 0, [⟨0, 2, .wo, .any⟩], false, .always⟩,
  ⟨0x1000, 4, 0x40, 5, 0x4, .const 0, [], false, .always⟩]

def page04 : List RegRow := page04_0 ++ page04_1

def page08_0 : List RegRow := [
  ⟨0x0, 1, 0x4, 1, 0x4, .const 0, [], false, .engine⟩,
  ⟨0x4, 1, 0x4, 1, 0x4, .const 0, [], false, .engine⟩,
  ⟨0x8, 1, 0x4, 1, 0x4, .beMap, [⟨31, 1, .rw, .any⟩, ⟨8, 1, .rw, .any⟩, ⟨0, 5, .rw, .any⟩], false, .engine⟩,
  ⟨0xC, 1, 0x4, 1, 0x4, .const 0, [], false, .engine⟩,
  ⟨0x10, 1, 0x4, 1, 0x4, .const 0, [], false, .engine⟩,
  ⟨0x40, 1, 0x4, 1, 0x4, .const 0, [⟨0, 9, .w1c, .any⟩], true, .engine⟩,
  ⟨0x44, 3, 0x4, 1, 0x4, .const 0, [], false, .engine⟩,
  ⟨0x50, 1, 0x4, 1, 0x4, .const 0, [⟨2, 1, .wo, .any⟩, ⟨1, 1, .wo, .any⟩, ⟨0, 1, .wo, .any⟩], false, .engine⟩,
  ⟨0x60, 1, 0x4, 1, 0x4, .const 0, [], false, .engine⟩,
  ⟨0x64, 1, 0x4, 1, 0x4, .const 0, [], false, .engine⟩,
  ⟨0x68, 1, 0x4, 1, 0x4, .const 0, [⟨2, 3, .w1c, .any⟩], true, .engine⟩,
  ⟨0x80, 1, 0x4, 1, 0x4, .const 0, [], false, .engine⟩]

def page08_1 : List RegRow := [
  ⟨0x84, 1, 0x4, 1, 0x4, .const 0, [], false, .engine⟩,
  ⟨0x88, 1, 0x4, 1, 0x4, .const 0, [], false, .engine⟩,
  ⟨0x8C, 1, 0x4, 1, 0x4, .const 0, [], false, .engine⟩,
  ⟨0xC0, 1, 0x4, 1, 0x4, .const 0, [⟨0, 6, .w1c, .any⟩], true, .engine⟩,
  ⟨0xC4, 4, 0x4, 1, 0x4, .const 0, [], false, .engine⟩,
  ⟨0xD4, 1, 0x4, 1, 0x4, .const 0, [⟨0, 4, .wo, .any⟩], false, .engine⟩,
  ⟨0x1000, 3, 0x10, 1, 0x4, .const 0, [⟨0, 32, .rw, .any⟩], false, .engine⟩,
  ⟨0x1004, 3, 0x10, 1, 0x4, .const 0, [⟨0, 32, .rw, .any⟩], false, .engine⟩,
  ⟨0x1008, 3, 0x10, 1, 0x4, .const 0, [⟨0, 10, .rw, .any⟩], false, .engine⟩,
  ⟨0x1040, 1, 0x4, 1, 0x4, .const 0, [⟨0, 20, .rw, .any⟩], false, .engine⟩,
  ⟨0x1044, 1, 0x4, 1, 0x4, .const 0, [⟨0, 20, .rw, .any⟩], false, .engine⟩,
  ⟨0x1048, 1, 0x4, 1, 0x4, .const 0, [⟨0, 24, .rw, .any⟩], false, .engine⟩]

def page08_2 : List RegRow := [
  ⟨0x104C, 1, 0x4, 1, 0x4, .const 0, [⟨16, 8, .rw, .any⟩, ⟨8, 8, .rw, .any⟩, ⟨0, 8, .rw, .any⟩], false, .engine⟩,
  ⟨0x1050, 1, 0x4, 1, 0x4, .const 0, [⟨0, 24, .rw, .any⟩], false, .engine⟩,
  ⟨0x1054, 4, 0x4, 1, 0x4, .const 0, [⟨0, 32, .rw, .any⟩], false, .engine⟩,
  ⟨0x1064, 1, 0x4, 1, 0x4, .const 0, [⟨16, 16, .rw, .any⟩, ⟨0, 16, .rw, .any⟩], false, .engine⟩,
  ⟨0x1080, 1, 0x4, 1, 0x4, .const 0xC0000000, [⟨31, 1, .rw, .any⟩, ⟨30, 1, .rw, .any⟩, ⟨4, 2, .rw, .any⟩, ⟨0, 2, .rw, .any⟩], false, .engine⟩,
  ⟨0x1084, 1, 0x4, 1, 0x4, .const 0x00041003, [⟨31, 1, .rw, .any⟩, ⟨30, 1, .rw, .any⟩, ⟨24, 4, .rw, .any⟩, ⟨16, 8, .rw, .any⟩, ⟨8, 8, .rw, .zeroIs 1⟩, ⟨0, 8, .rw, .zeroIs 1⟩], false, .engine⟩,
  ⟨0x1088, 1, 0x4, 1, 0x4, .const 0x10003FFF, [⟨16, 16, .rw, .any⟩, ⟨0, 14, .rw, .any⟩], false, .engine⟩,
  ⟨0x108C, 1, 0x4, 1, 0x4, .const 0x002800C8, [⟨16, 8, .rw, .any⟩, ⟨0, 14, .rw, .any⟩], false, .engine⟩,
  ⟨0x1090, 1, 0x4, 1, 0x4, .const 0xC350, [⟨0, 24, .rw, .any⟩], false, .engine⟩,
  ⟨0x1094, 1, 0x4, 1, 0x4, .const 0x10001AF4, [⟨16, 16, .rw, .any⟩, ⟨0, 16, .rw, .range 1000 60000⟩], false, .engine⟩,
  ⟨0x1100, 33, 0x4, 1, 0x4, .const 0, [⟨0, 16, .rw, .any⟩], false, .engine⟩,
  ⟨0x1200, 16, 0x8, 1, 0x4, .const 0, [⟨0, 24, .rw, .any⟩], false, .engine⟩]

def page08_3 : List RegRow := [
  ⟨0x1204, 16, 0x8, 1, 0x4, .const 0, [⟨0, 16, .rw, .any⟩], false, .engine⟩,
  ⟨0x2000, 32, 0x100, 33, 0x4, .const 0x8000, [⟨0, 16, .rw, .upTo 0x8000⟩], false, .engine⟩]

def page08 : List RegRow := page08_0 ++ page08_1 ++ page08_2 ++ page08_3

def page20_0 : List RegRow := [
  ⟨0x0, 1, 0x4, 1, 0x4, .const 0, [], false, .always⟩,
  ⟨0x4, 1, 0x4, 1, 0x4, .const 0x00400400, [⟨16, 16, .rw, .any⟩, ⟨0, 16, .rw, .range 400 16384⟩], false, .always⟩,
  ⟨0x8, 1, 0x4, 1, 0x4, .const 0x80000014, [⟨31, 1, .rw, .any⟩, ⟨30, 1, .rw, .any⟩, ⟨0, 16, .rw, .any⟩], false, .always⟩,
  ⟨0xC, 1, 0x4, 1, 0x4, .const 0x9C40, [⟨0, 24, .rw, .any⟩], false, .always⟩,
  ⟨0x10, 1, 0x4, 1, 0x4, .const 0x1F40, [⟨0, 24, .rw, .any⟩], false, .always⟩,
  ⟨0x14, 1, 0x4, 1, 0x4, .const 0, [⟨0, 1, .rw, .any⟩], false, .always⟩,
  ⟨0x18, 1, 0x4, 1, 0x4, .const 0x2710, [⟨0, 24, .rw, .any⟩], false, .always⟩,
  ⟨0x1C, 1, 0x4, 1, 0x4, .const 0x64, [⟨0, 16, .rw, .any⟩], false, .always⟩,
  ⟨0x40, 1, 0x4, 1, 0x4, .const 0, [⟨0, 10, .w1c, .any⟩], true, .always⟩,
  ⟨0x44, 5, 0x4, 1, 0x4, .const 0, [], false, .always⟩,
  ⟨0x58, 1, 0x4, 1, 0x4, .const 0, [⟨0, 5, .wo, .any⟩], false, .always⟩,
  ⟨0x100, 32, 0x4, 1, 0x4, .fade, [⟨0, 16, .rw, .any⟩], false, .always⟩]

def page20_1 : List RegRow := [
  ⟨0x200, 16, 0x4, 1, 0x4, .const 0xFFFFFFFF, [], false, .always⟩,
  ⟨0x1000, 64, 0x100, 1, 0x4, .const 0, [⟨31, 1, .rw, .any⟩, ⟨20, 4, .rw, .any⟩, ⟨0, 16, .rw, .any⟩], false, .always⟩,
  ⟨0x1004, 64, 0x100, 1, 0x4, .const 0, [⟨31, 1, .rw, .any⟩, ⟨24, 3, .rw, .any⟩, ⟨0, 16, .rw, .any⟩], false, .always⟩,
  ⟨0x1008, 64, 0x100, 1, 0x4, .const 0, [], false, .always⟩,
  ⟨0x1010, 64, 0x100, 16, 0x8, .const 0, [⟨0, 32, .rw, .any⟩], false, .always⟩,
  ⟨0x1014, 64, 0x100, 16, 0x8, .const 0, [⟨0, 32, .rw, .any⟩], false, .always⟩]

def page20 : List RegRow := page20_0 ++ page20_1

def page21_0 : List RegRow := [
  ⟨0x0, 1, 0x4, 1, 0x4, .const 0, [], false, .always⟩,
  ⟨0x4, 1, 0x4, 1, 0x4, .const 2, [⟨31, 1, .rw, .any⟩, ⟨0, 3, .rw, .any⟩], false, .always⟩,
  ⟨0x8, 1, 0x4, 1, 0x4, .const 0, [⟨0, 32, .rw, .any⟩], false, .always⟩,
  ⟨0xC, 1, 0x4, 1, 0x4, .const 0, [⟨0, 32, .rw, .any⟩], false, .always⟩,
  ⟨0x10, 1, 0x4, 1, 0x4, .const 0, [⟨16, 15, .rw, .any⟩, ⟨0, 15, .rw, .any⟩], false, .always⟩,
  ⟨0x14, 1, 0x4, 1, 0x4, .const 0, [⟨20, 12, .rw, .any⟩], false, .always⟩,
  ⟨0x18, 1, 0x4, 1, 0x4, .const 0, [⟨0, 32, .rw, .any⟩], false, .always⟩,
  ⟨0x1C, 1, 0x4, 1, 0x4, .const 0, [⟨20, 12, .rw, .any⟩], false, .always⟩,
  ⟨0x20, 1, 0x4, 1, 0x4, .const 0, [⟨0, 32, .rw, .any⟩], false, .always⟩,
  ⟨0x24, 1, 0x4, 1, 0x4, .const 0x3E8, [⟨0, 32, .rw, .zeroIs 1⟩], false, .always⟩,
  ⟨0x28, 1, 0x4, 1, 0x4, .const 0x4E20, [⟨0, 32, .rw, .any⟩], false, .always⟩,
  ⟨0x2C, 1, 0x4, 1, 0x4, .const 0x40000FA0, [⟨16, 16, .rw, .upTo 0x8000⟩, ⟨0, 16, .rw, .any⟩], false, .always⟩]

def page21_1 : List RegRow := [
  ⟨0x30, 1, 0x4, 1, 0x4, .const 0, [⟨12, 4, .rw, .any⟩, ⟨8, 4, .rw, .any⟩, ⟨4, 4, .rw, .any⟩, ⟨0, 4, .rw, .any⟩], false, .always⟩,
  ⟨0x34, 1, 0x4, 1, 0x4, .const 0, [], false, .always⟩,
  ⟨0x38, 1, 0x4, 1, 0x4, .const 0, [], false, .always⟩,
  ⟨0x3C, 1, 0x4, 1, 0x4, .const 0, [], false, .always⟩,
  ⟨0x40, 1, 0x4, 1, 0x4, .const 0, [⟨0, 7, .w1c, .any⟩], true, .always⟩,
  ⟨0x44, 4, 0x4, 1, 0x4, .const 0, [], false, .always⟩,
  ⟨0x54, 1, 0x4, 1, 0x4, .const 0, [⟨0, 4, .wo, .any⟩], false, .always⟩,
  ⟨0x100, 25, 0x4, 1, 0x4, .const 0, [⟨0, 16, .rw, .any⟩], false, .always⟩,
  ⟨0x200, 16, 0x4, 1, 0x4, .const 0x100, [⟨0, 24, .rw, .any⟩], false, .always⟩,
  ⟨0x1000, 16, 0x100, 33, 0x4, .const 0x4000, [⟨0, 16, .rw, .any⟩], false, .always⟩]

def page21 : List RegRow := page21_0 ++ page21_1

def page22_0 : List RegRow := [
  ⟨0x0, 1, 0x4, 1, 0x4, .const 0, [], false, .always⟩,
  ⟨0x4, 1, 0x4, 1, 0x4, .const 0x3E8, [⟨0, 16, .rw, .any⟩], false, .always⟩,
  ⟨0x40, 1, 0x4, 1, 0x4, .const 0, [⟨0, 7, .w1c, .any⟩], true, .always⟩,
  ⟨0x44, 1, 0x4, 1, 0x4, .const 0, [⟨0, 16, .w1c, .any⟩], true, .always⟩,
  ⟨0x50, 1, 0x4, 1, 0x4, .const 0, [⟨0, 16, .wo, .any⟩], false, .always⟩,
  ⟨0x1000, 16, 0x40, 1, 0x4, .const 0x2064, [⟨31, 1, .rw, .any⟩, ⟨30, 1, .rw, .any⟩, ⟨16, 2, .rw, .threeTwo⟩, ⟨0, 16, .rw, .any⟩], false, .beam⟩,
  ⟨0x1004, 16, 0x40, 1, 0x4, .const 0, [], false, .beam⟩,
  ⟨0x1008, 16, 0x40, 1, 0x4, .const 0, [], false, .beam⟩,
  ⟨0x100C, 16, 0x40, 3, 0x4, .const 0, [⟨0, 24, .rw, .any⟩], false, .beam⟩,
  ⟨0x1018, 16, 0x40, 1, 0x4, .const 0x100, [⟨0, 16, .rw, .zeroIs 1⟩], false, .beam⟩,
  ⟨0x101C, 16, 0x40, 3, 0x4, .const 0, [], false, .beam⟩,
  ⟨0x1028, 16, 0x40, 1, 0x4, .const 0, [], false, .beam⟩]

def page22_1 : List RegRow := [
  ⟨0x102C, 16, 0x40, 3, 0x4, .const 0, [], false, .beam⟩]

def page22 : List RegRow := page22_0 ++ page22_1

def page24 : List RegRow := [
  ⟨0x0, 1, 0x4, 1, 0x4, .const 0, [], false, .always⟩,
  ⟨0x40, 1, 0x4, 1, 0x4, .const 0, [⟨0, 4, .w1c, .any⟩], true, .always⟩,
  ⟨0x50, 1, 0x4, 1, 0x4, .const 0, [⟨0, 16, .wo, .any⟩], false, .always⟩,
  ⟨0x1000, 16, 0x40, 1, 0x4, .const 0, [⟨31, 1, .rw, .any⟩, ⟨30, 1, .rw, .any⟩, ⟨0, 16, .rw, .any⟩], false, .beam⟩,
  ⟨0x1004, 16, 0x40, 1, 0x4, .const 0, [⟨0, 24, .rw, .any⟩], false, .beam⟩,
  ⟨0x1008, 16, 0x40, 1, 0x4, .const 0xFFFF, [⟨0, 16, .rw, .any⟩], false, .beam⟩,
  ⟨0x100C, 16, 0x40, 1, 0x4, .const 0, [], false, .beam⟩,
  ⟨0x1010, 16, 0x40, 1, 0x4, .const 0, [], false, .beam⟩,
  ⟨0x1014, 16, 0x40, 1, 0x4, .const 0, [], false, .beam⟩,
  ⟨0x1018, 16, 0x40, 1, 0x4, .const 0, [], false, .beam⟩,
  ⟨0x101C, 16, 0x40, 1, 0x4, .const 0, [], false, .beam⟩,
  ⟨0x1020, 16, 0x40, 2, 0x4, .const 0, [], false, .beam⟩]

def page26_0 : List RegRow := [
  ⟨0x0, 1, 0x4, 1, 0x4, .const 0, [], false, .always⟩,
  ⟨0x4, 1, 0x4, 1, 0x4, .const 0, [], false, .always⟩,
  ⟨0x8, 1, 0x4, 1, 0x4, .const 0x03E80055, [⟨16, 16, .rw, .any⟩, ⟨0, 8, .rw, .i2cSpeeds⟩], false, .always⟩,
  ⟨0x40, 1, 0x4, 1, 0x4, .const 0, [⟨0, 8, .w1c, .any⟩], true, .always⟩,
  ⟨0x50, 1, 0x4, 1, 0x4, .const 0, [⟨0, 20, .wo, .any⟩], false, .always⟩,
  ⟨0x1000, 20, 0x40, 1, 0x4, .const 0, [⟨31, 1, .rw, .any⟩, ⟨12, 2, .rw, .any⟩, ⟨8, 4, .rw, .any⟩, ⟨0, 6, .rw, .any⟩], false, .visPort⟩,
  ⟨0x1004, 20, 0x40, 1, 0x4, .const 0, [⟨16, 16, .rw, .any⟩, ⟨0, 16, .rw, .any⟩], false, .visPort⟩,
  ⟨0x1008, 20, 0x40, 1, 0x4, .const 0xA, [⟨30, 2, .rw, .any⟩, ⟨29, 1, .rw, .any⟩, ⟨0, 16, .rw, .any⟩], false, .visPort⟩,
  ⟨0x100C, 20, 0x40, 1, 0x4, .const 0, [⟨0, 32, .rw, .any⟩], false, .visPort⟩,
  ⟨0x1010, 20, 0x40, 1, 0x4, .const 0x00640A14, [⟨16, 16, .rw, .any⟩, ⟨8, 8, .rw, .any⟩, ⟨0, 8, .rw, .any⟩], false, .visPort⟩,
  ⟨0x1014, 20, 0x40, 1, 0x4, .const 0, [⟨0, 2, .rw, .any⟩], false, .visPort⟩,
  ⟨0x1018, 20, 0x40, 1, 0x4, .const 0, [⟨31, 1, .rw, .any⟩, ⟨24, 7, .rw, .any⟩, ⟨12, 12, .rw, .any⟩, ⟨0, 12, .rw, .any⟩], false, .visPort⟩]

def page26_1 : List RegRow := [
  ⟨0x101C, 20, 0x40, 1, 0x4, .const 0, [], false, .visPort⟩,
  ⟨0x1020, 20, 0x40, 1, 0x4, .const 0, [], false, .visPort⟩,
  ⟨0x1024, 20, 0x40, 3, 0x4, .const 0, [], false, .visPort⟩,
  ⟨0x1030, 20, 0x40, 1, 0x4, .const 0, [⟨0, 32, .rw, .any⟩], false, .visPort⟩,
  ⟨0x2000, 20, 0x4, 1, 0x4, .const 0, [], false, .visPort⟩,
  ⟨0x10000, 20, 0x200, 1, 0x4, .const 0, [], false, .visPort⟩,
  ⟨0x10004, 20, 0x200, 1, 0x4, .const 0x4000, [], false, .visPort⟩,
  ⟨0x10008, 20, 0x200, 1, 0x4, .visNr, [], false, .visPort⟩,
  ⟨0x1000C, 16, 0x200, 1, 0x4, .const 0x00040200, [], false, .visPort⟩,
  ⟨0x10010, 16, 0x200, 1, 0x4, .const 0, [], false, .visPort⟩,
  ⟨0x10014, 16, 0x200, 1, 0x4, .const 0x00400040, [], false, .visPort⟩,
  ⟨0x12018, 4, 0x200, 1, 0x4, .const 0x10001000, [], false, .bedColour⟩]

def page26_2 : List RegRow := [
  ⟨0x1201C, 4, 0x200, 1, 0x4, .const 0x1000, [], false, .bedColour⟩,
  ⟨0x12020, 4, 0x200, 9, 0x4, .ccm, [], false, .bedColour⟩,
  ⟨0x12080, 4, 0x200, 33, 0x4, .tone, [], false, .bedColour⟩]

def page26 : List RegRow := page26_0 ++ page26_1 ++ page26_2

def page28_0 : List RegRow := [
  ⟨0x0, 1, 0x4, 1, 0x4, .const 0, [], false, .always⟩,
  ⟨0x4, 1, 0x4, 1, 0x4, .const 0x04040404, [⟨24, 8, .rw, .any⟩, ⟨16, 8, .rw, .any⟩, ⟨8, 8, .rw, .any⟩, ⟨0, 8, .rw, .any⟩], false, .always⟩,
  ⟨0x8, 1, 0x4, 1, 0x4, .const 0x0404, [⟨8, 8, .rw, .any⟩, ⟨0, 8, .rw, .any⟩], false, .always⟩,
  ⟨0xC, 1, 0x4, 1, 0x4, .const 8, [⟨8, 2, .rw, .threeTwo⟩, ⟨0, 8, .rw, .any⟩], false, .always⟩,
  ⟨0x10, 1, 0x4, 1, 0x4, .const 0, [], false, .always⟩,
  ⟨0x20, 4, 0x4, 1, 0x4, .const 0x01000D6B, [⟨16, 16, .rw, .any⟩, ⟨0, 16, .rw, .any⟩], false, .always⟩,
  ⟨0x40, 1, 0x4, 1, 0x4, .const 0, [⟨0, 6, .w1c, .any⟩], true, .always⟩,
  ⟨0x44, 1, 0x4, 1, 0x4, .const 0, [], false, .always⟩,
  ⟨0x48, 1, 0x4, 1, 0x4, .const 0, [], false, .always⟩,
  ⟨0x1000, 32, 0x20, 4, 0x4, .const 0, [], false, .pdin⟩,
  ⟨0x1010, 32, 0x20, 1, 0x4, .const 0x800, [], false, .pdin⟩,
  ⟨0x1800, 16, 0x10, 1, 0x4, .const 0, [], false, .beam⟩]

def page28_1 : List RegRow := [
  ⟨0x1804, 16, 0x10, 1, 0x4, .const 0x800, [], false, .beam⟩,
  ⟨0x1808, 16, 0x10, 1, 0x4, .const 0, [], false, .beam⟩,
  ⟨0x1A00, 8, 0x10, 2, 0x4, .const 0x00800000, [], false, .axis⟩,
  ⟨0x1B00, 12, 0x4, 1, 0x4, .const 0, [], false, .led⟩,
  ⟨0x1C00, 3, 0x4, 1, 0x4, .const 0, [], false, .always⟩,
  ⟨0x1C10, 4, 0x4, 1, 0x4, .const 0, [], false, .adcRef⟩,
  ⟨0x11000, 32, 0x20, 4, 0x4, .const 0, [⟨0, 12, .rw, .any⟩], false, .pdin⟩,
  ⟨0x11010, 32, 0x20, 1, 0x4, .const 0x800, [⟨0, 12, .rw, .any⟩], false, .pdin⟩,
  ⟨0x11800, 16, 0x10, 1, 0x4, .const 0, [⟨0, 10, .rw, .any⟩], false, .beam⟩,
  ⟨0x11804, 16, 0x10, 1, 0x4, .const 0x800, [⟨0, 12, .rw, .any⟩], false, .beam⟩,
  ⟨0x11808, 16, 0x10, 1, 0x4, .const 0, [⟨0, 4, .rw, .any⟩], false, .beam⟩,
  ⟨0x11A00, 8, 0x10, 2, 0x4, .const 0x00800000, [⟨16, 8, .rw, .any⟩, ⟨0, 9, .rw, .any⟩], false, .axis⟩]

def page28_2 : List RegRow := [
  ⟨0x11B00, 12, 0x4, 1, 0x4, .const 0, [⟨0, 8, .rw, .any⟩], false, .led⟩,
  ⟨0x11C00, 3, 0x4, 1, 0x4, .const 0, [⟨0, 8, .rw, .any⟩], false, .always⟩,
  ⟨0x11C10, 4, 0x4, 1, 0x4, .const 0, [⟨0, 10, .rw, .any⟩], false, .adcRef⟩]

def page28 : List RegRow := page28_0 ++ page28_1 ++ page28_2

def page2A_0 : List RegRow := [
  ⟨0x0, 1, 0x4, 1, 0x4, .const 0, [], false, .always⟩,
  ⟨0x4, 1, 0x4, 1, 0x4, .const 0, [⟨31, 1, .rw, .any⟩], false, .always⟩,
  ⟨0x40, 1, 0x4, 1, 0x4, .const 0, [⟨0, 11, .w1c, .any⟩], true, .always⟩,
  ⟨0x1000, 8, 0x80, 1, 0x4, .const 0, [⟨31, 1, .rw, .any⟩, ⟨29, 2, .rw, .any⟩, ⟨28, 1, .rw, .any⟩, ⟨27, 1, .rw, .any⟩, ⟨26, 1, .rw, .any⟩, ⟨24, 2, .rw, .threeTwo⟩, ⟨20, 4, .rw, .any⟩, ⟨0, 3, .rw, .any⟩], false, .axis⟩,
  ⟨0x1004, 8, 0x80, 1, 0x4, .const 0x10000, [⟨0, 32, .rw, .any⟩], false, .axis⟩,
  ⟨0x1008, 8, 0x80, 1, 0x4, .const 10000, [⟨0, 32, .rw, .any⟩], false, .axis⟩,
  ⟨0x100C, 8, 0x80, 1, 0x4, .const 100, [⟨0, 32, .rw, .any⟩], false, .axis⟩,
  ⟨0x1010, 8, 0x80, 1, 0x4, .const 1000, [⟨0, 32, .rw, .any⟩], false, .axis⟩,
  ⟨0x1014, 8, 0x80, 1, 0x4, .const 0, [⟨0, 10, .rw, .any⟩, ⟨10, 10, .rw, .any⟩, ⟨20, 10, .rw, .any⟩], false, .axis⟩,
  ⟨0x1018, 8, 0x80, 1, 0x4, .const 0x8320C808, [⟨31, 1, .rw, .any⟩, ⟨20, 8, .rw, .any⟩, ⟨8, 12, .rw, .any⟩, ⟨0, 8, .rw, .any⟩], false, .axis⟩,
  ⟨0x101C, 8, 0x80, 1, 0x4, .const 0x01F4012C, [⟨16, 16, .rw, .any⟩, ⟨0, 16, .rw, .any⟩], false, .axis⟩,
  ⟨0x1020, 8, 0x80, 1, 0x4, .const 0x0A0401F4, [⟨24, 8, .rw, .any⟩, ⟨16, 8, .rw, .any⟩, ⟨0, 16, .rw, .any⟩], false, .axis⟩]

def page2A_1 : List RegRow := [
  ⟨0x1024, 8, 0x80, 1, 0x4, .const 0, [⟨0, 32, .rw, .any⟩], false, .axis⟩,
  ⟨0x1028, 8, 0x80, 1, 0x4, .const 0, [], false, .axis⟩,
  ⟨0x102C, 8, 0x80, 1, 0x4, .const 0, [], false, .axis⟩,
  ⟨0x1030, 8, 0x80, 1, 0x4, .const 0, [], false, .axis⟩,
  ⟨0x1034, 8, 0x80, 1, 0x4, .const 0, [], false, .axis⟩,
  ⟨0x1038, 8, 0x80, 1, 0x4, .const 0, [], false, .axis⟩,
  ⟨0x103C, 8, 0x80, 1, 0x4, .const 0, [], false, .axis⟩,
  ⟨0x1040, 8, 0x80, 1, 0x4, .const 0x10000, [⟨0, 32, .rw, .any⟩], false, .axis⟩,
  ⟨0x1044, 8, 0x80, 1, 0x4, .const 256, [⟨0, 32, .rw, .any⟩], false, .axis⟩,
  ⟨0x1048, 8, 0x80, 1, 0x4, .const 200, [⟨0, 16, .rw, .any⟩], false, .axis⟩,
  ⟨0x4000, 8, 0x400, 256, 0x4, .sine, [⟨0, 16, .rw, .any⟩], false, .axis⟩]

def page2A : List RegRow := page2A_0 ++ page2A_1

def page2B_0 : List RegRow := [
  ⟨0x0, 1, 0x4, 1, 0x4, .const 0, [], false, .always⟩,
  ⟨0x4, 1, 0x4, 1, 0x4, .const 0x40643C64, [⟨24, 8, .rw, .any⟩, ⟨16, 8, .rw, .any⟩, ⟨8, 8, .rw, .any⟩, ⟨0, 8, .rw, .zeroIs 1⟩], false, .always⟩,
  ⟨0x8, 1, 0x4, 1, 0x4, .const 0, [⟨0, 32, .rw, .any⟩], false, .always⟩,
  ⟨0x10, 4, 0x4, 1, 0x4, .const 0, [], false, .always⟩,
  ⟨0x40, 1, 0x4, 1, 0x4, .const 0, [⟨0, 4, .w1c, .any⟩], true, .always⟩,
  ⟨0x1000, 12, 0x20, 1, 0x4, .const 0x019003E8, [⟨31, 1, .rw, .any⟩, ⟨30, 1, .rw, .any⟩, ⟨28, 2, .rw, .any⟩, ⟨26, 2, .rw, .any⟩, ⟨16, 10, .rw, .any⟩, ⟨0, 16, .rw, .any⟩], false, .led⟩,
  ⟨0x1004, 12, 0x20, 1, 0x4, .const 0, [], false, .led⟩,
  ⟨0x1008, 12, 0x20, 1, 0x4, .const 0, [], false, .led⟩,
  ⟨0x100C, 12, 0x20, 1, 0x4, .const 0, [⟨0, 16, .rw, .any⟩], false, .led⟩,
  ⟨0x1010, 12, 0x20, 1, 0x4, .const 0, [], false, .led⟩,
  ⟨0x2000, 2, 0x10, 1, 0x4, .const 0, [], false, .always⟩,
  ⟨0x2004, 2, 0x10, 1, 0x4, .const 0, [], false, .always⟩]

def page2B_1 : List RegRow := [
  ⟨0x2008, 2, 0x10, 1, 0x4, .const 0, [], false, .always⟩]

def page2B : List RegRow := page2B_0 ++ page2B_1

def page2C_0 : List RegRow := [
  ⟨0x0, 1, 0x4, 1, 0x4, .const 0, [], false, .always⟩,
  ⟨0x4, 1, 0x4, 1, 0x4, .const 0x01000032, [⟨31, 1, .rw, .any⟩, ⟨30, 1, .rw, .any⟩, ⟨29, 1, .rw, .any⟩, ⟨28, 1, .rw, .any⟩, ⟨26, 2, .rw, .threeTwo⟩, ⟨25, 1, .rw, .any⟩, ⟨24, 1, .rw, .any⟩, ⟨16, 8, .rw, .any⟩, ⟨0, 8, .rw, .zeroIs 1⟩], false, .always⟩,
  ⟨0x8, 1, 0x4, 1, 0x4, .const 0xFC00030A, [⟨24, 8, .rw, .any⟩, ⟨16, 8, .rw, .any⟩, ⟨8, 8, .rw, .any⟩, ⟨0, 8, .rw, .any⟩], false, .always⟩,
  ⟨0xC, 1, 0x4, 1, 0x4, .const 0xFFFFF8FE, [⟨24, 8, .rw, .any⟩, ⟨16, 8, .rw, .any⟩, ⟨8, 8, .rw, .any⟩, ⟨0, 8, .rw, .any⟩], false, .always⟩,
  ⟨0x10, 1, 0x4, 1, 0x4, .const 1000000, [⟨0, 32, .rw, .any⟩], false, .always⟩,
  ⟨0x14, 1, 0x4, 1, 0x4, .const 100, [⟨0, 32, .rw, .any⟩], false, .always⟩,
  ⟨0x18, 1, 0x4, 1, 0x4, .const 0, [], false, .always⟩,
  ⟨0x1C, 1, 0x4, 1, 0x4, .const 0, [⟨0, 32, .rw, .any⟩], false, .always⟩,
  ⟨0x20, 1, 0x4, 1, 0x4, .const 0, [⟨0, 16, .rw, .any⟩], false, .always⟩,
  ⟨0x24, 1, 0x4, 1, 0x4, .const 0, [⟨0, 1, .wo, .any⟩], false, .always⟩,
  ⟨0x40, 1, 0x4, 1, 0x4, .const 0, [⟨8, 1, .w1c, .any⟩, ⟨0, 8, .w1c, .any⟩], true, .always⟩,
  ⟨0x50, 1, 0x4, 1, 0x4, .const 0, [⟨8, 8, .wo, .any⟩, ⟨0, 8, .wo, .any⟩], false, .always⟩]

def page2C_1 : List RegRow := [
  ⟨0x100, 4, 0x8, 1, 0x4, .const 0, [], false, .always⟩,
  ⟨0x104, 4, 0x8, 1, 0x4, .const 0, [], false, .always⟩,
  ⟨0x120, 4, 0x8, 1, 0x4, .const 0, [], false, .always⟩,
  ⟨0x124, 4, 0x8, 1, 0x4, .const 0, [], false, .always⟩,
  ⟨0x200, 2, 0x20, 1, 0x4, .const 0, [], false, .always⟩,
  ⟨0x204, 2, 0x20, 1, 0x4, .const 0, [⟨0, 16, .rw, .any⟩], false, .always⟩,
  ⟨0x208, 2, 0x20, 1, 0x4, .const 0, [⟨0, 16, .rw, .any⟩], false, .always⟩,
  ⟨0x20C, 2, 0x20, 1, 0x4, .const 0, [⟨0, 32, .rw, .any⟩], false, .always⟩,
  ⟨0x1000, 8, 0x20, 1, 0x4, .const 0, [⟨0, 1, .rw, .any⟩], false, .always⟩,
  ⟨0x1004, 8, 0x20, 1, 0x4, .const 0, [], false, .always⟩,
  ⟨0x1008, 8, 0x20, 1, 0x4, .const 0, [], false, .always⟩,
  ⟨0x100C, 8, 0x20, 1, 0x4, .const 0, [], false, .always⟩]

def page2C_2 : List RegRow := [
  ⟨0x1010, 8, 0x20, 1, 0x4, .const 0, [], false, .always⟩,
  ⟨0x1014, 8, 0x20, 1, 0x4, .const 0, [], false, .always⟩,
  ⟨0x1100, 8, 0x20, 1, 0x4, .const 0, [⟨0, 2, .rw, .any⟩], false, .always⟩,
  ⟨0x1104, 8, 0x20, 1, 0x4, .const 0, [], false, .always⟩,
  ⟨0x1108, 8, 0x20, 1, 0x4, .const 0, [], false, .always⟩,
  ⟨0x110C, 8, 0x20, 1, 0x4, .const 0, [], false, .always⟩,
  ⟨0x1110, 8, 0x20, 1, 0x4, .const 0, [], false, .always⟩,
  ⟨0x1114, 8, 0x20, 1, 0x4, .const 0, [], false, .always⟩]

def page2C : List RegRow := page2C_0 ++ page2C_1 ++ page2C_2

def page2D : List RegRow := [
  ⟨0x0, 1, 0x4, 1, 0x4, .const 0, [], false, .byoft⟩,
  ⟨0x4, 1, 0x4, 1, 0x4, .const 0xC0000000, [⟨31, 1, .rw, .any⟩, ⟨30, 1, .rw, .any⟩, ⟨29, 1, .rw, .any⟩, ⟨0, 2, .rw, .threeTwo⟩], false, .byoft⟩,
  ⟨0x8, 1, 0x4, 1, 0x4, .const 0x000A0030, [⟨16, 16, .rw, .any⟩, ⟨0, 8, .rw, .any⟩], false, .byoft⟩,
  ⟨0xC, 1, 0x4, 1, 0x4, .const 0, [], false, .byoft⟩,
  ⟨0x40, 1, 0x4, 1, 0x4, .const 0, [⟨0, 11, .w1c, .any⟩], true, .byoft⟩,
  ⟨0x44, 1, 0x4, 1, 0x4, .const 0, [⟨0, 8, .w1c, .any⟩], true, .byoft⟩,
  ⟨0x50, 1, 0x4, 1, 0x4, .const 0, [⟨0, 4, .wo, .any⟩], false, .byoft⟩,
  ⟨0x1000, 4, 0x40, 1, 0x4, .const 0, [], false, .byfPort⟩,
  ⟨0x1004, 4, 0x40, 1, 0x4, .const 0, [], false, .byfPort⟩,
  ⟨0x1008, 4, 0x40, 1, 0x4, .const 0, [], false, .byfPort⟩,
  ⟨0x100C, 4, 0x40, 1, 0x4, .const 0, [], false, .byfPort⟩,
  ⟨0x1010, 4, 0x40, 1, 0x4, .const 0, [], false, .byfPort⟩]

def page2E_0 : List RegRow := [
  ⟨0x0, 2, 0x4, 1, 0x4, .const 0, [], false, .always⟩,
  ⟨0x8, 1, 0x4, 1, 0x4, .const 0, [], false, .always⟩,
  ⟨0xC, 1, 0x4, 1, 0x4, .const 0xA, [⟨0, 10, .rw, .range 2 1000⟩], false, .always⟩,
  ⟨0x10, 1, 0x4, 1, 0x4, .const 0, [⟨0, 5, .wo, .any⟩], false, .always⟩,
  ⟨0x14, 5, 0x4, 1, 0x4, .const 0, [], false, .always⟩,
  ⟨0x28, 1, 0x4, 1, 0x4, .const 0, [], false, .always⟩,
  ⟨0x2C, 1, 0x4, 1, 0x4, .const 0, [⟨0, 32, .rw, .any⟩], false, .always⟩,
  ⟨0x30, 1, 0x4, 1, 0x4, .const 0, [⟨0, 7, .rw, .any⟩], false, .always⟩,
  ⟨0x34, 1, 0x4, 1, 0x4, .const 0, [], false, .always⟩,
  ⟨0x38, 1, 0x4, 1, 0x4, .const 0, [], false, .always⟩,
  ⟨0x40, 1, 0x4, 1, 0x4, .const 0, [⟨0, 6, .w1c, .any⟩], true, .always⟩,
  ⟨0x44, 2, 0x4, 1, 0x4, .const 0, [], true, .always⟩]

def page2E_1 : List RegRow := [
  ⟨0x4C, 1, 0x4, 1, 0x4, .const 0, [], true, .always⟩,
  ⟨0x50, 1, 0x4, 1, 0x4, .const 0, [], true, .always⟩]

def page2E : List RegRow := page2E_0 ++ page2E_1

def page2F_0 : List RegRow := [
  ⟨0x0, 1, 0x4, 1, 0x4, .const 0, [], true, .always⟩,
  ⟨0x4, 1, 0x4, 1, 0x4, .const 0, [], false, .always⟩,
  ⟨0x8, 1, 0x4, 1, 0x4, .const 0, [], false, .always⟩,
  ⟨0xC, 1, 0x4, 1, 0x4, .const 10, [⟨0, 16, .rw, .any⟩], false, .always⟩,
  ⟨0x10, 1, 0x4, 1, 0x4, .const 0, [⟨0, 32, .rw, .any⟩], false, .always⟩,
  ⟨0x14, 1, 0x4, 1, 0x4, .const 0, [⟨0, 7, .rw, .any⟩], false, .always⟩,
  ⟨0x18, 1, 0x4, 1, 0x4, .const 0, [⟨0, 32, .rw, .any⟩], false, .always⟩,
  ⟨0x1C, 1, 0x4, 1, 0x4, .const 0, [], false, .always⟩,
  ⟨0x40, 1, 0x4, 1, 0x4, .const 0, [⟨0, 5, .w1c, .any⟩], true, .always⟩,
  ⟨0x100, 8, 0x4, 1, 0x4, .const 0, [], false, .always⟩,
  ⟨0x200, 1, 0x4, 1, 0x4, .const 0, [⟨0, 4, .wo, .any⟩], false, .always⟩,
  ⟨0x204, 3, 0x4, 1, 0x4, .const 0, [], false, .always⟩]

def page2F_1 : List RegRow := [
  ⟨0x210, 1, 0x4, 1, 0x4, .const 0, [], false, .always⟩]

def page2F : List RegRow := page2F_0 ++ page2F_1

def page30_0 : List RegRow := [
  ⟨0x0, 1, 0x4, 1, 0x4, .const 0, [], false, .always⟩,
  ⟨0x4, 1, 0x4, 1, 0x4, .const 0, [⟨6, 26, .rw, .any⟩], false, .always⟩,
  ⟨0x8, 1, 0x4, 1, 0x4, .const 0, [⟨0, 32, .rw, .any⟩], false, .always⟩,
  ⟨0xC, 1, 0x4, 1, 0x4, .const 0, [⟨0, 14, .rw, .any⟩], false, .always⟩,
  ⟨0x10, 1, 0x4, 1, 0x4, .const 0, [⟨31, 1, .wo, .any⟩], false, .always⟩,
  ⟨0x14, 1, 0x4, 1, 0x4, .const 0, [], false, .always⟩,
  ⟨0x18, 1, 0x4, 1, 0x4, .const 16, [⟨0, 5, .rw, .range 10 20⟩], false, .always⟩,
  ⟨0x1C, 1, 0x4, 1, 0x4, .const 0, [], false, .always⟩,
  ⟨0x20, 1, 0x4, 1, 0x4, .const 0, [], false, .always⟩,
  ⟨0x24, 1, 0x4, 1, 0x4, .const 0, [], false, .always⟩,
  ⟨0x28, 1, 0x4, 1, 0x4, .const 0, [], false, .always⟩,
  ⟨0x30, 1, 0x4, 1, 0x4, .const 0, [⟨0, 10, .wo, .any⟩], false, .always⟩]

def page30_1 : List RegRow := [
  ⟨0x34, 1, 0x4, 1, 0x4, .const 0, [], false, .always⟩,
  ⟨0x40, 1, 0x4, 1, 0x4, .const 0, [⟨0, 4, .w1c, .any⟩], true, .always⟩]

def page30 : List RegRow := page30_0 ++ page30_1

def page31 : List RegRow := [
  ⟨0x1000, 32, 0x40, 1, 0x4, .const 0, [⟨31, 1, .rw, .any⟩, ⟨16, 8, .rw, .any⟩, ⟨8, 5, .rw, .any⟩, ⟨0, 5, .rw, .any⟩], false, .always⟩,
  ⟨0x1004, 32, 0x40, 1, 0x4, .const 0, [⟨0, 32, .rw, .any⟩], false, .always⟩,
  ⟨0x1008, 32, 0x40, 1, 0x4, .const 1000, [⟨0, 32, .rw, .any⟩], false, .always⟩,
  ⟨0x100C, 32, 0x40, 1, 0x4, .const 0x7FFFFFFF, [], false, .always⟩,
  ⟨0x1010, 32, 0x40, 1, 0x4, .const 0x80000000, [], false, .always⟩,
  ⟨0x1014, 32, 0x40, 1, 0x4, .const 0, [], false, .always⟩,
  ⟨0x1018, 32, 0x40, 1, 0x4, .const 0, [], false, .always⟩,
  ⟨0x101C, 32, 0x40, 1, 0x4, .const 0, [], false, .always⟩,
  ⟨0x1020, 32, 0x40, 1, 0x4, .const 0, [], false, .always⟩,
  ⟨0x4000, 32, 0x100, 64, 0x4, .const 0, [], false, .always⟩]

def page32 : List RegRow := [
  ⟨0x1000, 64, 0x20, 1, 0x4, .const 0, [⟨31, 1, .rw, .any⟩, ⟨30, 1, .wo, .any⟩, ⟨28, 2, .rw, .any⟩, ⟨27, 1, .rw, .any⟩, ⟨8, 8, .rw, .upTo 64⟩], false, .lane⟩,
  ⟨0x1004, 64, 0x20, 1, 0x4, .const 0, [], false, .lane⟩,
  ⟨0x1008, 64, 0x20, 1, 0x4, .const 0, [], false, .lane⟩,
  ⟨0x100C, 64, 0x20, 1, 0x4, .const 0, [], false, .lane⟩,
  ⟨0x1010, 64, 0x20, 1, 0x4, .const 0, [], false, .lane⟩]

def page33 : List RegRow := [
  ⟨0x0, 1, 0x4, 1, 0x4, .const 0, [], false, .always⟩,
  ⟨0x4, 1, 0x4, 1, 0x4, .const 0, [], false, .always⟩,
  ⟨0x100, 3, 0x40, 12, 0x4, .const 0, [], false, .always⟩,
  ⟨0x200, 12, 0x4, 1, 0x4, .const 0, [], false, .always⟩,
  ⟨0x240, 12, 0x4, 1, 0x4, .const 0, [], false, .always⟩,
  ⟨0x280, 4, 0x4, 1, 0x4, .const 0, [], false, .always⟩]

/-- The rows of the block a page lies in, with the first page of the block. -/
def pageRows (page : Nat) : Nat × List RegRow :=
  if page = 0x00 then (0x00, page00) else
  if page = 0x01 then (0x01, page01) else
  if page = 0x02 then (0x02, page02) else
  if page = 0x03 then (0x03, page03) else
  if 0x04 ≤ page ∧ page ≤ 0x07 then (0x04, page04) else
  if 0x08 ≤ page ∧ page ≤ 0x19 then (page, page08) else
  if page = 0x20 then (0x20, page20) else
  if page = 0x21 then (0x21, page21) else
  if 0x22 ≤ page ∧ page ≤ 0x23 then (0x22, page22) else
  if 0x24 ≤ page ∧ page ≤ 0x25 then (0x24, page24) else
  if 0x26 ≤ page ∧ page ≤ 0x27 then (0x26, page26) else
  if 0x28 ≤ page ∧ page ≤ 0x29 then (0x28, page28) else
  if page = 0x2A then (0x2A, page2A) else
  if page = 0x2B then (0x2B, page2B) else
  if page = 0x2C then (0x2C, page2C) else
  if page = 0x2D then (0x2D, page2D) else
  if page = 0x2E then (0x2E, page2E) else
  if page = 0x2F then (0x2F, page2F) else
  if page = 0x30 then (0x30, page30) else
  if page = 0x31 then (0x31, page31) else
  if page = 0x32 then (0x32, page32) else
  if page = 0x33 then (0x33, page33) else
  (0, [])

/-! The sine table of an axis at reset: round(32768 sin(i 90/256 degrees)) (15_motion, MOT_AXa_SINi). -/
def sineRow0 : List Nat := [0, 201, 402, 603, 804, 1005, 1206, 1407, 1608, 1809, 2009, 2210, 2411, 2611, 2811, 3012, 3212, 3412, 3612, 3812, 4011, 4211, 4410, 4609, 4808, 5007, 5205, 5404, 5602, 5800, 5998, 6195]
def sineRow1 : List Nat := [6393, 6590, 6787, 6983, 7180, 7376, 7571, 7767, 7962, 8157, 8351, 8546, 8740, 8933, 9127, 9319, 9512, 9704, 9896, 10088, 10279, 10469, 10660, 10850, 11039, 11228, 11417, 11605, 11793, 11980, 12167, 12354]
def sineRow2 : List Nat := [12540, 12725, 12910, 13095, 13279, 13463, 13646, 13828, 14010, 14192, 14373, 14553, 14733, 14912, 15091, 15269, 15447, 15624, 15800, 15976, 16151, 16326, 16500, 16673, 16846, 17018, 17190, 17361, 17531, 17700, 17869, 18037]
def sineRow3 : List Nat := [18205, 18372, 18538, 18703, 18868, 19032, 19195, 19358, 19520, 19681, 19841, 20001, 20160, 20318, 20475, 20632, 20788, 20943, 21097, 21251, 21403, 21555, 21706, 21856, 22006, 22154, 22302, 22449, 22595, 22740, 22884, 23028]
def sineRow4 : List Nat := [23170, 23312, 23453, 23593, 23732, 23870, 24008, 24144, 24279, 24414, 24548, 24680, 24812, 24943, 25073, 25202, 25330, 25457, 25583, 25708, 25833, 25956, 26078, 26199, 26320, 26439, 26557, 26674, 26791, 26906, 27020, 27133]
def sineRow5 : List Nat := [27246, 27357, 27467, 27576, 27684, 27791, 27897, 28002, 28106, 28209, 28311, 28411, 28511, 28610, 28707, 28803, 28899, 28993, 29086, 29178, 29269, 29359, 29448, 29535, 29622, 29707, 29792, 29875, 29957, 30038, 30118, 30196]
def sineRow6 : List Nat := [30274, 30350, 30425, 30499, 30572, 30644, 30715, 30784, 30853, 30920, 30986, 31050, 31114, 31177, 31238, 31298, 31357, 31415, 31471, 31527, 31581, 31634, 31686, 31737, 31786, 31834, 31881, 31927, 31972, 32015, 32058, 32099]
def sineRow7 : List Nat := [32138, 32177, 32214, 32251, 32286, 32319, 32352, 32383, 32413, 32442, 32470, 32496, 32522, 32546, 32568, 32590, 32610, 32629, 32647, 32664, 32679, 32693, 32706, 32718, 32729, 32738, 32746, 32753, 32758, 32762, 32766, 32767]
def sineTable : List Nat := sineRow0 ++ sineRow1 ++ sineRow2 ++ sineRow3 ++ sineRow4 ++ sineRow5 ++ sineRow6 ++ sineRow7

/-- The table row a page offset falls in, with its two array indices. -/
def RegRow.index? (r : RegRow) (d : Nat) : Option (Nat × Nat) :=
  if d < r.off then none else
    let e := d - r.off
    let i := e / r.s1
    let k := e % r.s1
    let j := k / r.s2
    if i < r.n1 ∧ j < r.n2 ∧ k % r.s2 = 0 then some (i, j) else none

/-- The row of a block that a page offset falls in. -/
def findRow : List RegRow → Nat → Option (RegRow × Nat × Nat)
  | [], _ => none
  | r :: rs, d =>
    match r.index? d with
    | some (i, j) => some (r, i, j)
    | none => findRow rs d

/-- The row of a BAR0 offset; for an engine page the first index is taken as the engine number. -/
def regRow (off : Nat) : Option (RegRow × Nat × Nat) :=
  let page := off / 0x10000
  let (base, rows) := pageRows page
  findRow rows (off - base * 0x10000)

/-- The unit instance a row at this offset belongs to is present in the variant (R9). -/
def RegRow.present (v : Variant) (r : RegRow) (off i : Nat) : Bool :=
  match r.kind with
  | .always => true
  | .engine => decide (off / 0x10000 - 8 < nEngines v)
  | .beam => decide (i < nBeams v)
  | .visPort => visPresent v i
  | .bedColour => hasColour v && decide (i < nBedCams v)
  | .pdin => decide (i < nPdin v)
  | .axis => decide (i < nAxes v)
  | .led => decide (i < nLeds v)
  | .adcRef => decide (i * 8 < nPdin v)
  | .byfPort => decide (i < nByoft v)
  | .byoft => decide (0 < nByoft v)
  | .lane => lanePresent v i

/-- The value a reset rule gives at array indices i, j of a register at BAR0 offset `off`. -/
def ResetRule.value (v : Variant) (off i j : Nat) : ResetRule → Nat
  | .const k => k
  | .idPart => Machine.idPart v
  | .capUnits => Machine.capUnits v
  | .capStages => Machine.capStages v
  | .dramHash => [0x1111, 0x2222, 0x4444, 0x8888, 0x1000F, 0xF0, 0xF00].getD i 0
  | .beMap => let n := off / 0x10000 - 8; if n < nBeams v then 0x80000000 + n else 0x100
  | .fade => (0x8000 * (31 - i)) / 31
  | .visNr => if i < 16 then 0x40408010 else 0xC0408010
  | .ccm => if j % 4 = 0 then 0x1000 else 0
  | .tone => Nat.min (j * 2048) 0xFFFF
  | .sine => sineTable.getD j 0

/-- The reset value of the word at a BAR0 offset: zero where no register is listed, where the unit is
absent, and in every lost-clear counter (R9, R14, R19). -/
def resetOf (v : Variant) (off : Nat) : Word :=
  match regRow off with
  | none => 0
  | some (r, i, j) => if r.present v off i then BitVec.ofNat 32 (r.reset.value v off i j) else 0

/-- The offset is that of a lost-clear counter of a present register (R19). -/
def isLostClear (v : Variant) (off : Nat) : Bool :=
  decide (0x8000 ≤ off % 0x10000) &&
    match regRow (off - 0x8000) with
    | some (r, i, _) => r.lc && r.present v (off - 0x8000) i
    | none => false

end Sys2Proof.Machine
end

