-- ==== Sys2Proof/Machine/Types.lean ====
section
/-! DEFINITION. The parts the state is made of: plain data, one group of structures per chapter. -/

namespace Sys2Proof.Machine

/-! ## Modes (02) -/

/-- The eight modes of R46. -/
inductive Mode where
  | configure | standby | calibrate | build | hold | safe | service | windDown
  deriving DecidableEq, Repr

/-- The mode code of R46. -/
def Mode.code : Mode → Nat
  | .configure => 0 | .standby => 1 | .calibrate => 2 | .build => 3
  | .hold => 4 | .safe => 5 | .service => 6 | .windDown => 7

/-- The mode a three-bit code names. -/
def Mode.ofCode : Nat → Mode
  | 0 => .configure | 1 => .standby | 2 => .calibrate | 3 => .build
  | 4 => .hold | 5 => .safe | 6 => .service | _ => .windDown

/-- The state of mode control, boot and firmware (R46 to R69). -/
structure ModeCtl where
  cur : Mode
  prev : Mode
  /-- boot step reached: 0 while in reset or ROM start (R61) -/
  boot : Nat
  lastCause : Nat
  changing : Bool
  /-- the mode HOLD was entered from (R48) -/
  holdFrom : Mode
  /-- TB3 at the hold trigger -/
  holdAt : Nat
  /-- LAST_CAUSE code of the hold trigger -/
  holdTrig : Nat
  /-- the run to the safe point ends only with the layer (R82) -/
  holdAtLayerEnd : Bool
  /-- entry to HOLD is not told to the peers: a PEER_HOLD caused it (R383) -/
  quiet : Bool
  /-- the MODE_SET HOLD that waits for the safe point -/
  holdReq : Option Req
  /-- the MODE_SET STANDBY that ends CALIBRATE once every engine has stopped (R188) -/
  leaveReq : Option Req
  /-- the MODE_SET that waits for scanner ports to wake, with its target (R327) -/
  wakeReq : Option (Req × Mode)
  /-- MODE_SETs that wait while a transition is in progress, oldest first (R52) -/
  waiters : List Req
  fwSup : Bool
  fwBe : Bool
  fwVis : Bool
  dram : Bool
  repair : Bool
  /-- the program memories: the body of the image in force, by type 1 to 3 (R66) -/
  programs : List (List Byte)
  /-- the type of a firmware load in progress -/
  fwLoad : Option Nat
  /-- a software reset has been written and fires 10 µs later (R59) -/
  softPending : Bool
  /-- SAFE_N asserted in WIND-DOWN after a SAFE-class fault (R475) -/
  wdSafe : Bool
  deriving DecidableEq, Repr

/-! ## Rings (03) -/

/-- A completion entry before it is written: the fields of R89 but PHASE and SQ_HEAD, which it takes
when it is written. -/
structure Cqe where
  tag : Nat
  idx : Nat
  status : Nat
  kind : Nat
  irq : Bool
  spilled : Bool
  last : Bool
  info : Nat
  body : List Byte
  deriving DecidableEq, Repr

/-- A posted stream buffer (R96, R97). -/
structure Buf where
  idx : Nat
  tag : Nat
  irq : Bool
  addr : Nat
  len : Nat
  used : Nat
  recs : Nat
  firstSeq : Nat
  deriving DecidableEq, Repr

/-- One stream record held for a ring: its bytes, whether it ends a unit of output, whether it may be
dropped. -/
structure StreamRec where
  bytes : List Byte
  ends : Bool
  droppable : Bool
  deriving DecidableEq, Repr

/-- One ring: positions modulo twice the queue size (R81), work fetched and in flight, the spill area
and the stream buffers. -/
structure Ring where
  sqHead : Nat
  sqTail : Nat
  cqTail : Nat
  cqHead : Nat
  /-- the invalid half last seen, so that it raises no second fault (R81) -/
  badSq : Option Nat
  badCq : Option Nat
  /-- descriptors fetched and not started: submission index and bytes (R22: at most 16) -/
  prefetch : List (Nat × List Byte)
  inflight : List Req
  spill : List Cqe
  /-- entries written and not signalled (R100) -/
  unsig : Nat
  /-- the barrier descriptor in flight (R87) -/
  barrier : Option Req
  bufs : List Buf
  /-- sequence number of the next stream record (R97) -/
  seq : Nat
  /-- stream records held in the spill area -/
  held : List StreamRec
  /-- records dropped since the previous buffer (R89, KIND 2) -/
  dropSince : Nat
  /-- TB3 of the last HIF_ERROR for STREAM_DROP on this ring (R468) -/
  dropAt : Option Nat
  /-- an entry of the spill area is lost: the ring fetches nothing until ring reset (R361) -/
  stopped : Bool
  /-- a descriptor read failed, and is read again after the next poll (R82) -/
  retry : Bool
  deriving DecidableEq, Repr, Inhabited

/-- The host interface beside the rings. -/
structure Hif where
  /-- commands whose input data is being read (R84 check 9) -/
  waitData : List Req
  /-- consecutive failed doorbell polls and descriptor reads (R82) -/
  fails : Nat
  linkUp : Bool
  linkSpeed : Nat
  linkWidth : Nat
  /-- the ring in turn, and the descriptors taken from it in this turn (R88) -/
  turn : Nat
  taken : Nat
  msixMask : BitVec 256
  msixPend : BitVec 256
  /-- by vector: TB3 of the last message of a device-wide source (R101) -/
  sigAt : List (Nat × Nat)
  deriving DecidableEq, Repr

/-! ## Events, recorder, records (19) -/

/-- An event record (R493) without its merge sequence number. -/
structure Event where
  t : Nat
  dev : Nat
  src : Nat
  code : Nat
  flags : Nat
  payload : List Byte
  deriving DecidableEq, Repr

/-- An entry of the shadow log (R503). -/
structure Shadow where
  t : Nat
  kind : Nat
  addr : Nat
  deriving DecidableEq, Repr

/-- A pointer slot of the MRAM (R498). -/
structure Pointer where
  gen : Nat
  wptr : Nat
  full : Bool
  valid : Bool
  deriving DecidableEq, Repr

/-- Lifetime quantities (R513): of the image, or not yet flushed. The Tj histogram counts 10 µs samples. -/
structure Life where
  seconds : Nat
  boots : Nat
  layers : Nat
  flushes : Nat
  pfails : Nat
  laser : List Nat
  travel : List Nat
  lanes : List Nat
  tjHist : List Nat
  supply : List Nat
  classes : List Nat
  sources : List Nat
  deriving DecidableEq, Repr, Inhabited

/-- The external MRAM (R497): it keeps its contents through every reset. -/
structure Mram where
  /-- usable since boot: the SFDP table reads and the density is in 2 to 32 MiB -/
  usable : Bool
  /-- capacity in MiB -/
  mib : Nat
  /-- the record area, from record 0 -/
  recs : List (List Byte)
  slot0 : Pointer
  slot1 : Pointer
  lifeGen : Nat
  /-- the lifetime image as last written (R513) -/
  life : Life
  /-- the SRAM repair copy (R531) -/
  repairCopy : List Byte
  deriving DecidableEq, Repr

/-- The event recorder (R494 to R503). -/
structure Recorder where
  /-- events not yet released by the merge, in the order of R34 -/
  waiting : List Event
  /-- merge sequence number of the next event released -/
  seq : Nat
  /-- buffered records not yet in MRAM -/
  buf : List (List Byte)
  /-- records at the front of `buf` that the running flush is writing -/
  writing : Nat
  wptr : Nat
  full : Bool
  flushing : Bool
  again : Bool
  /-- power-fail flush due or running (R499) -/
  pfail : Bool
  /-- TB3 at which the last flush began -/
  flushAt : Nat
  noteDue : Bool
  bypass : Bool
  shadow : List Shadow
  /-- discards since the previous REC_DROP event -/
  dropped : Nat
  /-- REC_FLUSH commands that wait for the running flush, and for the one after it -/
  flushReqs : List Req
  nextReqs : List Req
  /-- a REC_CLEAR that waits for the running flush (R520) -/
  clearReq : Option Req
  /-- a REC_CLEAR whose CLEARED event the merge has still to release (R518) -/
  clearing : Option Req
  /-- TB3 of the last CLEARED event (R502) -/
  clearedAt : Option Nat
  mram : Mram
  deriving DecidableEq, Repr

/-- The Woram record being built (R504 to R508). -/
structure Woram where
  layer : Nat
  entry : Nat
  ptab : Nat
  flowX : Nat
  flowY : Nat
  start : Nat
  recSeq : Nat
  flags : Nat
  /-- items in order: TYPE and body -/
  items : List (Nat × List Byte)
  /-- discards counted when the record opened (item END) -/
  drops : Nat
  /-- the TB3 at which its layer closed, and the items of the close -/
  closed : Option Nat
  tail : List (Nat × List Byte)
  deriving DecidableEq, Repr

/-- A segment of a closed record that waits in staging, with the rings that have taken it (R511). -/
structure Seg where
  bytes : List Byte
  last : Bool
  sentTo : List Nat
  deriving DecidableEq, Repr

/-! ## Faults (18) -/

/-- The classes of R465, in rising order. -/
inductive Cls where
  | note | fence | hold | safe
  deriving DecidableEq, Repr

def Cls.code : Cls → Nat | .note => 0 | .fence => 1 | .hold => 2 | .safe => 3

/-- An entry of the fault history queue (R472). -/
structure Hist where
  t : Nat
  src : Nat
  cause : Nat
  cls : Cls
  dev : Nat
  injected : Bool
  forwarded : Bool
  promoted : Bool
  acked : Bool
  payload : Word
  seq : Nat
  deriving DecidableEq, Repr

/-- A live cause (R470). -/
structure Live where
  src : Nat
  cause : Nat
  cls : Cls
  ended : Bool
  acked : Bool
  deriving DecidableEq, Repr

/-- Ghost traffic of a fenced unit not yet reported (R483). -/
structure Ghost where
  unit : Nat
  count : Nat
  last : Option Nat
  deriving DecidableEq, Repr

/-- An armed injection (R485). -/
structure Inject where
  src : Nat
  cause : Nat
  at_ : Nat
  payload : Word
  req : Req
  deriving DecidableEq, Repr

/-- What a fence has taken of a unit: its number, the TB3 of the fence, and the words of an engine's block (R26). -/
structure Snap where
  unit : Nat
  at_ : Nat
  words : List (Nat × Word)
  deriving DecidableEq, Repr
/-- The fault collector. -/
structure Faults where
  /-- newest first, at most 32 -/
  hist : List Hist
  /-- sequence number of the newest fault admitted -/
  seq : Nat
  live : List Live
  /-- fenced units: 0 to 17 engines, 18 to 21 vision engines -/
  fenced : List Nat
  /-- by fenced unit, what stood in the cycle of fencing -/
  snaps : List Snap
  /-- end of the ERR_N pulse -/
  pulse : Option Nat
  /-- the software level of ERR_N, and the ERR_LEVELs that wait for the end of a pulse (R489) -/
  level : Bool
  levels : List Req
  inj : Option Inject
  injCount : Nat
  injSrc : Nat
  injCause : Nat
  /-- per unit: ghost transactions since its last FENCED_SPEAK, and the time of that (R483) -/
  ghosts : List Ghost
  /-- SAFE-class work waits to be settled (R477) -/
  settleDue : Bool
  /-- the SAFE entry came from a real power failure (R478) -/
  pfail : Bool
  deriving DecidableEq, Repr

/-! ## BIST and life-cycle (20) -/

/-- The life-cycle fuse groups (R522). -/
structure Fuses where
  manuf : Bool
  deploy : Bool
  retire : Bool
  entries : Nat
  returns : Nat
  deriving DecidableEq, Repr

/-- BIST and life-cycle: the fuses as burnt and as latched at boot step 1, the repair map in force and
the results of memory BIST. -/
structure Bist where
  fuses : Fuses
  latched : Fuses
  map : List Byte
  mbist : List (List Byte)
  /-- an MBIST_RUN in progress, with the failures it finds (R529, R533) -/
  run : Option (Req × List Byte)
  deriving DecidableEq, Repr

/-! ## Layers, barges and parameter tables (04) -/

/-- A vector record (R118) with its start point (R120) and its resolved eligible set (R122). -/
structure Rec where
  sx : Int
  sy : Int
  x : Int
  y : Int
  vecId : Nat
  earliest : Nat
  focus : Int
  elig : Nat
  pset : Nat
  type : Nat
  flags : Nat
  duration : Nat
  deriving DecidableEq, Repr, Inhabited

/-- An outcome of a record, or of one half of a record split at a stitch (R93, R95). -/
structure VOut where
  status : Nat
  /-- none for a record that no beam exposed -/
  beam : Option Nat
  split : Bool
  half : Nat
  arc : Nat
  t : Nat
  peerLost : Bool
  deriving DecidableEq, Repr

/-- A record in the basin with the outcomes it has so far. -/
structure VRec where
  r : Rec
  split : Bool
  outs : List VOut
  deriving DecidableEq, Repr, Inhabited

/-- An accepted barge. -/
structure Barge where
  req : Req
  id : Nat
  bytes : Nat
  recs : List VRec
  digest : List Byte
  dispatched : Bool
  /-- status of its summary once it has completed -/
  done : Option Nat
  /-- the first record that a poisoned basin read keeps from starting, with all later ones (R361) -/
  lostFrom : Option Nat
  deriving DecidableEq, Repr

/-- An open layer. -/
structure Layer where
  num : Nat
  count : Nat
  ptab : Nat
  flowX : Int
  flowY : Int
  bargeWait : Nat
  entry : Nat
  barges : List Barge
  startReq : Option Req
  recoatWait : Bool
  startWait : Nat
  /-- the layer-start tick, once it is fixed -/
  startTick : Option Nat
  /-- the layer-start tick has come -/
  started : Bool
  /-- LASb_EMIT_VEC of each beam at the layer-start tick (R478) -/
  emitVecs : List Word
  deriving DecidableEq, Repr

/-- A parameter table in its slot: ID, sets of 128 bytes and the digest of the whole table. -/
structure Table where
  id : Nat
  sets : List (List Byte)
  digest : List Byte
  deriving DecidableEq, Repr

/-- The layers, the four table slots and the active table (R107, R129, R134). -/
structure Layers where
  opened : List Layer
  /-- the number of the layer that closed last, and the entry count a re-entry of it takes (R108) -/
  lastClosed : Option (Nat × Nat)
  slots : List (Option Table)
  active : Option Table
  /-- barges that wait for basin space -/
  basinWait : List Req
  deriving DecidableEq, Repr

/-! ## Work units, runs and engines (05, 07) -/

/-- A commit unit, a dwell or a lock entry: one record, a chain, or a half of a stitched chain
(R121, R212, R218). Arcs are in bu times 2^24. -/
structure WUnit where
  layer : Nat
  barge : Nat
  /-- record indices in the barge -/
  idxs : List Nat
  recs : List Rec
  /-- where emission starts on the first record, and ends on the last: zero and none for whole records -/
  startArc : Nat
  endArc : Option Nat
  /-- resumed at a stop point after a hold (R55) -/
  resumed : Bool
  /-- none, or the half of a stitch -/
  half : Option Nat
  /-- position in the chain of the split record -/
  splitAt : Nat
  p : Nat
  ovl : Nat
  /-- global beam of the other half -/
  partner : Nat
  lock : Option Nat
  /-- place in layer order (R116) -/
  order : Nat
  qpos : Nat
  /-- tick on which the unit reached its engine (R555) -/
  reach : Nat
  /-- the device that owns the entry (R225) -/
  owner : Nat
  /-- global beams excluded after an unanswered assignment -/
  excluded : List Nat
  /-- the CAL_MARK the unit belongs to: its ring and submission index (R188) -/
  cal : Option (Nat × Nat)
  /-- a half 1 returned after its half 0 had started runs solo (R226) -/
  solo : Bool
  /-- the first vector of a unit that resumes behind it (R285) -/
  lead : Option Nat
  deriving DecidableEq, Repr, Inhabited

/-- One piece of a planned path: a hold (length zero) or a straight profile, placed in the run's time.
Positions in bu times 2^24, times in seconds times 2^80, lengths in bu times 2^80, speeds in bu/s times
2^40. -/
structure Piece where
  t0 : Nat
  dur : Nat
  ax : Int
  ay : Int
  bx : Int
  by_ : Int
  len : Nat
  v0 : Nat
  vp : Nat
  v1 : Nat
  a : Nat
  j : Nat
  /-- index of the record traversed, none for a move, a settle, a run-up or a lag -/
  rec_ : Option Nat
  /-- arc on that record at the start of the piece -/
  arc0 : Nat
  /-- the set whose speed and ramps apply -/
  pset : Nat
  deriving DecidableEq, Repr, Inhabited

/-- A linear move of the focus target (R151): its first tick as a TB3, and the values before it and after
it in µm times 2^24. -/
structure Ramp where
  t0 : Nat
  from_ : Int
  to_ : Int
  deriving DecidableEq, Repr, Inhabited

/-- A planned run of a unit. -/
structure Run where
  unit : WUnit
  /-- tick of the first piece -/
  start : Nat
  pieces : List Piece
  /-- emission interval in run time; equal where the run does not emit -/
  tOn : Nat
  tOff : Nat
  /-- run time of the end of the path -/
  tEnd : Nat
  /-- index of the piece before which hold ticks are inserted -/
  holdAt : Nat
  /-- the inserted hold in time-stamp ticks -/
  hold : Nat
  committed : Bool
  /-- delays put in for EARLIEST or EN_LEAD: kind and ticks (R554) -/
  delays : List (Nat × Nat)
  /-- T_sync as a time-stamp, of a half 0 (R214) -/
  sync : Nat
  /-- focus targets in µm with the run times from which they apply; the ramp in force before them -/
  foc : List (Nat × Int)
  focus : Ramp
  /-- emission has begun; the end of emission has been handled -/
  started : Bool
  ended : Bool
  /-- records whose outcome has been given -/
  given : Nat
  /-- the run was ended early: status of what is cut (R54, R165) -/
  cut : Bool
  /-- look-ahead answers in force: point and ff; points read; late once (R249, R252) -/
  ffs : List (Nat × Nat)
  served : Nat
  late : Bool
  /-- number of the unit on its engine, for its ledger updates (R247) -/
  seq : Nat
  /-- the move of a half 1 to its run-up point, where it waits for half 0 (R214) -/
  pre : Bool
  /-- a long chain is committed up to this tick (R224) -/
  upTo : Option Nat
  deriving DecidableEq, Repr, Inhabited

/-- The MOD interval of a unit, as time-stamps, with its pulses (R161). -/
structure ModIv where
  rise : Nat
  fall : Nat
  pulsed : Bool
  period : Nat
  width : Nat
  deriving DecidableEq, Repr, Inhabited

/-- A tick entry (R144), with what the final stage and the output stage need. -/
structure TickEntry where
  tick : Nat
  x : Int
  y : Int
  z : Int
  aux0 : Nat
  /-- P_plan in mW, and the fade, ramp and feed-forward it holds -/
  plan : Nat
  /-- ceiling of the set -/
  weir : Nat
  /-- emission interval met with the tick, as time-stamps in target time -/
  emitFrom : Nat
  emitTo : Nat
  /-- MOD at the strobe, and its edges in the tick, in time-stamp ticks (R161) -/
  modHigh : Bool
  rise : Option Nat
  fall : Option Nat
  pulsed : Bool
  /-- the MOD intervals of units that meet the tick, oldest first -/
  mods : List ModIv
  /-- X or Y left the range of step 4 of R155; the target lies outside the field extent (R177) -/
  clip : Bool
  outExt : Bool
  vec : Nat
  arc : Nat
  pset : Nat
  /-- the unit's number on its engine; 0 between units -/
  seq : Nat
  /-- neither ramp nor fade acts on this tick and the one before, and emission covers what R276 asks -/
  cruise : Bool
  /-- first and last tick of the unit's emission -/
  first : Bool
  last : Bool
  /-- power code and power in mW once the final stage has run -/
  code : Option Nat
  power : Nat
  deriving DecidableEq, Repr, Inhabited

/-- An outcome an engine has to report (R93), after the updates of unit `seq` are in the ledger. -/
structure Done where
  unit : WUnit
  /-- index in `unit.recs` -/
  i : Nat
  status : Nat
  arc : Nat
  t : Nat
  peerLost : Bool
  seq : Nat
  /-- global beam that exposed it -/
  beam : Nat
  deriving DecidableEq, Repr

/-- A vector held at the finish limit, by an underrun or by a link fault (R54, R165, R320). -/
structure Held where
  unit : WUnit
  /-- record in which emission stopped, exposed arc of it in bu, stop time -/
  i : Nat
  arc : Nat
  t : Nat
  deriving DecidableEq, Repr

/-- A ledger update (R245), with the units whose energy it carries: more than one where the local store
merged updates (R248). -/
structure LUpd where
  cx : Nat
  cy : Nat
  nj : Nat
  t : Nat
  seqs : List Nat
  deriving DecidableEq, Repr

/-- Energy gathered for one cell and not yet sent, in mW times 62.5 ps times 2^-32 (R245). -/
structure Gather where
  cx : Int
  cy : Int
  /-- exact energy: a fraction of mW times 62.5 ps -/
  e : Nat
  den : Nat
  ticks : Nat
  t : Nat
  seq : Nat
  deriving DecidableEq, Repr

/-- A feature record as the law uses it (R271). -/
structure Feat where
  trig : Nat
  end_ : Nat
  seq : Nat
  tag : Nat
  flags : Nat
  area : Nat
  bytes : List Byte
  /-- the time at which it arrived at its engine -/
  came : Nat
  deriving DecidableEq, Repr, Inhabited

/-- The correction law of a beam (R278 to R285). -/
structure Law where
  ipd : Int
  icam : Int
  ppd : Int
  pcam : Int
  pdHeld : Bool
  camHeld : Bool
  frozen : Bool
  ceilPrev : Bool
  fb : Int
  /-- what has dropped the photodiode term; then what has dropped the camera term (R282) -/
  pdDark : Bool
  pdLost : Bool
  pdFault : Bool
  camDrop : Bool
  late : Nat
  onTime : Nat
  clear : Nat
  sat : Nat
  dark : Nat
  dis : Nat
  agree : Nat
  /-- frames triggered on loop-active ticks since the last usable record -/
  stale : Nat
  /-- usable records that have arrived and not entered -/
  waiting : List Feat
  /-- TAG of the previous usable record of the unit -/
  tag : Option Nat
  /-- figures of the unit for CORR -/
  lo : Int
  hi : Int
  sum : Int
  active : Nat
  clamped : Nat
  /-- the unit `clamped` counts for -/
  clampSeq : Nat
  marks : Nat
  /-- emitting ticks of the unit so far; the unit -/
  emitted : Nat
  seq : Nat
  /-- faults raised once per unit: bit c for cause 0x0C + c -/
  raised : Nat
  /-- loop-active ticks as intervals of a unit: its run, first and last tick, newest first -/
  hist : List (Nat × Nat × Nat)
  /-- the time of the camera term's latest drop (R284) -/
  camAt : Nat
  /-- the unit has had an emitting tick, so that `lo` and `hi` hold an fb -/
  figured : Bool
  /-- the run whose CORR has gone -/
  told : Nat
  /-- the terms were enabled on the previous emitting tick of the unit; a joint's set cleared them (R280) -/
  pdEn : Bool
  camEn : Bool
  pdOff : Bool
  camOff : Bool
  deriving DecidableEq, Repr, Inhabited

/-- A beam engine. -/
structure Engine where
  /-- units assigned and not planned, oldest first -/
  queue : List WUnit
  /-- planned runs, oldest first: committed ones, then at most one that waits for its commit -/
  runs : List Run
  tickQ : List TickEntry
  /-- the next tick to plan -/
  next : Nat
  /-- rest position in bu times 2^24, and the last focus ramp -/
  px : Int
  py : Int
  focus : Ramp
  /-- no run starts before this tick (R555) -/
  notBefore : Nat
  /-- tick since which the engine waits at a barrier (R124) -/
  barrier : Option Nat
  done : List Done
  held : List Held
  /-- commit units taken so far, by layer (R209) -/
  qpos : List (Nat × Nat)
  /-- number of the last unit planned -/
  seq : Nat
  gather : Option Gather
  writes : List LUpd
  store : List LUpd
  /-- updates lost, whose notices the ledger has not taken (R248) -/
  notices : List LUpd
  law : Law
  /-- residue mismatches, by the layer and vector ID of the segment's record (R42) -/
  retries : List ((Nat × Nat) × Nat)
  /-- the previous setpoint released -/
  lx : Int
  ly : Int
  lz : Int
  /-- CLIP_EMIT and OUT_EXT runs in progress, by unit; 0 for none (R155, R177) -/
  clipRun : Nat
  extRun : Nat
  /-- taking over (R140), and from which engine -/
  taking : Bool
  takeFrom : Nat
  /-- the tick of the fence -/
  takeTick : Nat
  /-- the run to the safe point has been worked out (R54) -/
  stopping : Bool
  /-- the segment no tick is planned for, since a node of its grid is lost: layer and vector ID (R197) -/
  stuck : Option (Nat × Nat)
  deriving DecidableEq, Repr, Inhabited

/-- One committed track in the keeper's store (R218). -/
structure Track where
  /-- global beam -/
  beam : Nat
  run : Run
  deriving DecidableEq, Repr

/-- A lock's queue and memory. -/
structure LockQ where
  queue : List WUnit
  /-- entries that wait for room (R205) -/
  wait : List WUnit
  /-- global beam that took the previous entry (R208) -/
  prev : Option Nat
  /-- entries dispatched for each open layer, and layers for which LOCK_OVERFLOW was raised -/
  counts : List (Nat × Nat)
  ovr : List Nat
  deriving DecidableEq, Repr, Inhabited

/-- An entry sent to a peer beam (R225). -/
structure Sent where
  dev : Nat
  vec : Nat
  beam : Nat
  unit : WUnit
  acked : Bool
  /-- the record in emission with its arc and TB3, from the last XPROGRESS; records with an outcome (R380) -/
  prog : Option (Nat × Nat × Nat)
  given : List Nat
  deriving DecidableEq, Repr

/-- A cross-device commit that waits for the peer's answer (R382). -/
structure XWait where
  dev : Nat
  vec : Nat
  engine : Nat
  /-- greatest shift found so far -/
  shift : Nat
  tries : Nat
  /-- time-stamp of the request (R225) -/
  t : Nat
  /-- beam of the first conflict that decided the shift (R227) -/
  conflict : Option Nat
  /-- 0 the unit as it stands, 1 a half 1 that would co-move, 2 a further unit of a long chain (R214, R224) -/
  kind : Nat
  deriving DecidableEq, Repr

/-- A stitch half that is to enter an engine's queue in the order of R225's key. -/
structure XHalf where
  /-- the key: assignment time-stamp, owner, stitch sequence number -/
  t : Nat
  dev : Nat
  seq : Nat
  engine : Nat
  unit : WUnit
  /-- for an own half: the lock and the beam's dry time at the decision (R227) -/
  told : Option (Nat × Nat)
  deriving DecidableEq, Repr

/-- The lock keeper. -/
structure Keeper where
  locks : List LockQ
  tracks : List Track
  /-- T_sync by layer and vector ID of the split record (R214) -/
  syncs : List (Nat × Nat × Nat)
  /-- dry times and queue ends of peer beams, by global beam -/
  peerQ : List (Nat × Nat)
  sent : List Sent
  xwait : List XWait
  /-- stitch halves of cross-device locks on their way into engine queues (R216, R225) -/
  halves : List XHalf
  /-- number of the stitch decided last (R225) -/
  stitches : Nat
  /-- requests of peers that wait for an earlier one of this device, with the peer (R223) -/
  xreqs : List (Nat × XTrack)
  /-- STATE_LOST: the track store and the queues are to be rebuilt (R235) -/
  lost : Bool
  deriving DecidableEq, Repr, Inhabited

/-! ## Heat ledger (08) -/

/-- A tile: its directory entry and its cells that are not cold with dose 0, as the words of R238
(R240). -/
structure Tile where
  empty : Bool
  gen : Nat
  poison : Bool
  inexact : Bool
  cells : List (Nat × Nat)
  deriving DecidableEq, Repr, Inhabited

/-- One copy of the ledger: the tiles written or marked since the clear, by tile number. -/
structure LCopy where
  tiles : List (Nat × Tile)
  gen : Nat
  layerGen : Nat
  /-- TB3 starts of the latest 256 epochs: generation and start -/
  starts : List (Nat × Nat)
  /-- layer-start tick, as TB3, of the latest layer since allocation or clear -/
  layerStart : Option Nat
  deriving DecidableEq, Repr, Inhabited

/-- The heat ledger. -/
structure Ledger where
  copy : Option LCopy
  replay : Option LCopy
  satRaised : Bool
  bandLost : List Nat
  /-- the tile cache, most recently used first: twice the tile number, plus 1 for the replay copy; whether the cached
  tile is newer than DRAM (R243) -/
  cache : List (Nat × Bool)
  deriving DecidableEq, Repr, Inhabited

/-! ## Calibration commands in flight (06) -/

/-- What a CAL_EDGE watches for (R191): the threshold and direction, the group delay in time-stamp ticks,
and the samples of the input from its first sample instant in emission. -/
structure EdgeReq where
  th : Nat
  falling : Bool
  delay : Nat
  samples : List Int
  deriving DecidableEq, Repr

/-- A CAL_MARK or CAL_EDGE in flight: its request, table, barge and start tick. -/
structure CalJob where
  req : Req
  sets : List (List Byte)
  recs : List VRec
  id : Nat
  start : Nat
  edge : Option EdgeReq
  /-- the beginning of the emission of an edge's line, and the crossing found: arc, X and Y -/
  edgeOn : Option Nat
  found : Option (Int × Int × Int)
  deriving DecidableEq, Repr

/-- One probe of one beam at a point (R190). -/
structure Probe where
  point : Nat
  beam : Nat
  x : Int
  y : Int
  deriving DecidableEq, Repr

/-- A CAL_PROBE, CAL_RESID, CAL_XRESID or a peer's RESID in flight (R190, R193, R385). -/
structure ProbeJob where
  req : Req
  sets : List (List Byte)
  pset : Nat
  frames : Nat
  /-- points of the command -/
  points : Nat
  /-- the probes still to make, the first of them in progress -/
  todo : List Probe
  /-- the frames of the probe in progress have been triggered; those not ended -/
  asked : Bool
  left : Nat
  /-- frames used and the sums of their centroids, unsigned Q12.4 pixels -/
  used : Nat
  sumX : Nat
  sumY : Nat
  /-- positions measured: point, global beam, X and Y; a point not found has none -/
  got : List (Nat × Nat × Option (Int × Int))
  /-- the lock of a residual, and the peer whose positions it spans -/
  lock : Option Nat
  peer : Option Nat
  /-- points whose positions the peer has not returned -/
  away : List Nat
  /-- the job serves a peer's RESID: nothing completes here but the answer -/
  serves : Bool
  deriving DecidableEq, Repr

/-! ## Scanner ports and laser outputs (11) -/

/-- A scanner port. -/
structure Port where
  /-- 0 off, 1 training, 2 trained, 3 ready, 4 test -/
  state : Nat
  txSleep : Bool
  rxSleep : Bool
  polInv : Bool
  linkFault : Bool
  cap : Nat
  headId : Nat
  /-- HEAD_ID of the previous READY head since reset -/
  prevHead : Option Nat
  badRun : Nat
  /-- consecutive bad feedback frames; a good one, a bad one came in this window -/
  bad : Nat
  good : Bool
  badIn : Bool
  /-- the first encoder position reported since training, and whether any was -/
  hx : Int
  hy : Int
  hz : Int
  seen : Bool
  /-- head command in flight, 0 none, and its argument -/
  cmd : Nat
  arg : Nat
  /-- mooring generator -/
  gx : Int
  gy : Int
  gz : Int
  /-- the engine is the source in STANDBY after a HEAD_JOG (R329) -/
  jog : Bool
  /-- the generator moves a head that has become READY in HOLD to the held setpoint (R325) -/
  return_ : Bool
  /-- last released setpoint -/
  lx : Int
  ly : Int
  lz : Int
  /-- TB3 of the last BAD_FRAME (R320) -/
  badAt : Option Nat
  /-- ENUM: 0 to be sent, 1 sent, 2 failed and to be retried, 3 settled until STANDBY (R324) -/
  enum : Nat
  /-- the changed HEAD_ID last reported -/
  chgId : Option Nat
  /-- the head reports FAULT, and OVERTEMP -/
  fault : Bool
  hot : Bool
  /-- the port wakes a direction -/
  wakeTx : Bool
  wakeRx : Bool
  deriving DecidableEq, Repr, Inhabited

/-- A PORT_SLEEP in flight: the ports whose head has still to sleep, and those still to wake. -/
structure SleepJob where
  req : Req
  sleeps : List Nat
  wakes : List Nat
  deriving DecidableEq, Repr

/-- A laser output. -/
structure Laser where
  /-- EMIT_EN at the pin, and the time it last rose -/
  emit : Bool
  rose : Nat
  /-- consecutive ticks with a DAC deviation -/
  dac : Nat
  /-- CODE_CLAMP and MOD_NARROW raised in this layer -/
  clampRaised : Bool
  narrowRaised : Bool
  deriving DecidableEq, Repr, Inhabited

/-- The ports and outputs. -/
structure Scanner where
  ports : List Port
  lasers : List Laser
  ilk : Bool
  latch : Bool
  /-- HEAD_MOOR commands in flight -/
  moors : List Req
  /-- HEAD_JOGs in flight: engine, and the number of the move on it -/
  jogs : List (Req × Nat × Nat)
  sleeps : List SleepJob
  /-- SAFE hold before mooring has expired -/
  moorOk : Bool
  /-- lane tests: generator bits in flight end at this TB3 -/
  burst : List (Nat × Nat)
  deriving DecidableEq, Repr, Inhabited

/-! ## Correction grids (06) -/

/-- A correction grid (R178). -/
structure Grid where
  beam : Nat
  nx : Nat
  ny : Nat
  id : Nat
  x0 : Int
  y0 : Int
  px : Nat
  py : Nat
  cx : Int
  cy : Int
  radius : Nat
  zgain : Int
  /-- the 64 bytes of the header as loaded -/
  header : List Byte
  /-- the node records, 16 bytes each -/
  nodes : List Byte
  digest : List Byte
  deriving DecidableEq, Repr

/-- The grids of one beam (R171). -/
structure BeamGrids where
  active : Option Grid
  pending : Option Grid
  /-- GRID_LOST has struck and the grid has not been reloaded (R197) -/
  lost : Bool
  /-- the pending grid's commit is outstanding: no layer starts before it (R183, R184) -/
  due : Bool
  /-- TB3 of the last commit (R184) -/
  commitAt : Option Nat
  deriving DecidableEq, Repr, Inhabited

/-- A residual table entry (R194, R195). -/
structure Resid where
  valid : Bool
  max : Nat
  rms : Nat
  r2 : Nat
  r3 : Nat
  /-- the entry has been written since it was emptied -/
  made : Bool
  deriving DecidableEq, Repr, Inhabited

/-! ## Time (14) -/

/-- The programme of a timed output (R405), in units of its base. -/
structure Tout where
  next : Nat
  period : Nat
  width : Nat
  /-- end of the pulse in progress, in TB0 -/
  pulse : Option Nat
  deriving DecidableEq, Repr, Inhabited

/-- The time unit beside its registers and TB0 and TB3. -/
structure TimeCtl where
  tb1 : Nat
  tb2 : Nat
  tb2Run : Bool
  /-- the TB3 instant at which TB2 starts (R395) -/
  build : Option Nat
  /-- remainders carried: of TB0 for a TB1 advance, of TB1 for a REFCLK cycle, of the slew (R393) -/
  rem0 : Nat
  rem1 : Nat
  remSlew : Nat
  /-- TB3 takes its time from the upstream neighbour (R372), and the correction still to slew out (R374) -/
  follows : Bool
  corr : Int
  /-- the announced TB3 step: its tick as TB3, and its size (R398) -/
  stepAt : Option (Nat × Int)
  /-- TB3_APART has been raised since the window closed -/
  apart : Bool
  /-- the selected grandmaster; consecutive Syncs within and above LOCK_LIM; GM_SETTLE runs (R403, R404) -/
  gm : Option Nat
  good : Nat
  bad : Nat
  settle : Bool
  outs : List Tout
  /-- per capture input: TB0 of the last captured edge; TB3 of its last TCAP_DROP -/
  caps : List (Option Nat)
  capFault : List (Option Nat)
  /-- the 64 bytes of PTP_ADDR_SET -/
  addrs : List Byte
  /-- TIME_TOUT_STOPs that wait for a pulse to end -/
  stops : List Req
  deriving DecidableEq, Repr, Inhabited

/-! ## Axis motion (15) -/

/-- A part of a trapezoid: its duration in TB3 units times 2^20, the speeds at its start and end in µm/s times
2^40, between which the speed is linear. -/
structure Phase where
  dur : Nat
  v : Nat
  w : Nat
  deriving DecidableEq, Repr

/-- A target given to an axis: microsteps, speed in µm/s, acceleration in mm/s². -/
structure Goal where
  tgt : Int
  v : Nat
  a : Nat
  req : Option Req
  deriving DecidableEq, Repr

/-- The move in progress on an axis. -/
structure Move where
  goal : Goal
  /-- its start in TB3, and there the position in µm times 2^40; the start of the whole move -/
  t0 : Nat
  p0 : Int
  org : Int
  plus : Bool
  phases : List Phase
  /-- speed at the end, which a queued move takes over (R427) -/
  vEnd : Nat
  /-- a step of the recoat sequence -/
  seq : Bool
  /-- homing: HOME_POS in µm, and whether the home edge has come (R431) -/
  home : Option Int
  latched : Bool
  /-- stopping: status and XSTATUS of the end, and the deceleration in mm/s² -/
  stop : Option (Nat × Nat × Nat)
  /-- after the full stop of R428 the axis turns to its target; the overshoot in µm -/
  turn : Bool
  ovr : Nat
  /-- a MOT_RETUNE that waits for the next update: speed, acceleration -/
  retune : Option (Nat × Nat × Req)
  /-- STEP_CLAMP has still to be raised, at this speed in µm/s (R422) -/
  clamp : Option Nat
  deriving DecidableEq, Repr

/-- One phase's chopper: ns of the last rise, the target at the previous lower crossing and at the upper one,
OFS in 1/64 code, cycles in succession with an early upper crossing (R420, R421). -/
structure Chop where
  tr : Nat
  mLow : Option Nat
  mUp : Option Nat
  ofs : Int
  early : Nat
  deriving DecidableEq, Repr, Inhabited

/-- The emission of interpolated microsteps (R423): its start, the position there, the backlog sent at 4 MHz,
then the group and the interval it is spread over. -/
structure Emission where
  t0 : Nat
  base : Int
  fast : Int
  slow : Int
  ovr : Nat
  deriving DecidableEq, Repr

/-- An axis. -/
structure Axis where
  on : Bool
  /-- PHASE_SHORT: gates low until MOT_ENABLE -/
  faulted : Bool
  /-- microsteps at rest -/
  us : Int
  mv : Option Move
  queue : List Goal
  homed : Bool
  /-- debounced levels of LIMP, LIMN, HOME; none before the first -/
  inp : List (Option Bool)
  /-- current level: 0 I_RUN, 1 I_HOLD, 2 I_SAFE (R421) -/
  level : Nat
  chop : List Chop
  /-- TB3 and direction of the last coarse edge, and what is being emitted -/
  coarseAt : Option Nat
  coarseUp : Bool
  emission : Option Emission
  deriving DecidableEq, Repr, Inhabited

/-- A running recoat sequence (R433): its steps (axis, WAIT, distance in µm), the next to start, the axes still
moving, the steps done, its command, and the layer boundary it started in. -/
structure RecoatSeq where
  steps : List (Nat × Bool × Int)
  next : Nat
  left : List Nat
  done : Nat
  req : Option Req
  epoch : Nat
  deriving DecidableEq, Repr

/-- The motion unit. -/
structure Motion where
  axes : List Axis
  prog : List (Nat × Bool × Int)
  seq : Option RecoatSeq
  /-- layer boundaries and entries to BUILD so far (R434) -/
  epoch : Nat
  /-- MOT_STOPs in flight with their masks -/
  stops : List (Nat × Req)
  deriving DecidableEq, Repr, Inhabited

/-! ## Byoft link (13) -/

/-- A message in a flit (R369, R371): sequence number, channel, TYPE, the devices it is for and from, and its payload, whose
layout in bytes the spec does not give, as numbers. -/
structure Flit where
  seq : Nat
  vc : Nat
  type : Nat
  dst : Nat
  src : Nat
  content : List Int
  deriving DecidableEq, Repr, Inhabited

/-- A Byoft port: 0 off, 1 training, 2 trained, 4 test. -/
structure BPort where
  state : Nat
  polInv : Nat
  laneMap : Nat
  /-- DEV_ID and port of the peer, once its TOPO has come -/
  peer : Option (Nat × Nat)
  /-- replays of one flit in succession, and that flit; TB3 of the last FLIT_RETRY (R370) -/
  run : Nat
  last : Option Nat
  retryAt : Option Nat
  /-- the next flit's sequence number, and the replay buffer: the flits sent last, oldest first (R369, R370) -/
  seq : Nat
  sent : List Flit
  deriving DecidableEq, Repr, Inhabited

/-- What is known of another device from its TOPO. -/
structure Node where
  dev : Nat
  nbrs : List Nat
  locks : List (Nat × List (Int × Int) × Nat)
  ready : Bool
  idle : Bool
  deriving DecidableEq, Repr

/-- The link beside its registers and the members. -/
structure Byoft where
  ports : List BPort
  nodes : List Node
  /-- this device is admitted; the topology stands refused -/
  inside : Bool
  refused : Bool
  /-- per member: consecutive unanswered messages, mode, TB3 of its last progress -/
  missed : List (Nat × Nat)
  modes : List (Nat × Nat)
  heard : List (Nat × Nat)
  /-- locks for which LOCK_MISMATCH has been raised; TIME_ALIGN stands -/
  mismatch : List Nat
  align : Bool
  /-- LINK_RETRAINs in flight: ports not yet trained, and the start -/
  retrains : List (Req × List Nat × Nat)
  /-- a LANE_TEST that waits for the peer (R387) -/
  tests : List (Nat × Req)
  /-- what this device's TOPO told last (R371) -/
  told : List Int
  deriving DecidableEq, Repr, Inhabited

/-! ## DRAM controller (12) -/

/-- A request that waits in the controller, with the time it reached it. -/
structure DramWait where
  req : DramReq
  at_ : Nat
  deriving DecidableEq, Repr

/-- The DRAM controller beside its registers. Rank-subchannel r is subchannel r mod 4 of rank r / 4. -/
structure Dram where
  training : Bool
  /-- requests that wait, oldest first -/
  queue : List DramWait
  /-- open rows by bank (R352) -/
  open_ : List (Nat × Nat)
  /-- by subchannel: interval of RES_PERIOD of the last command, plus one; engine of the last reserved slot -/
  slot : List Nat
  lastEng : List Nat
  /-- by rank-subchannel: in power-down; end of the refresh in progress; next refresh (R355, R357) -/
  down : List Bool
  refUntil : List Nat
  refAt : List Nat
  deriving DecidableEq, Repr, Inhabited

/-! ## Camera inputs and image pipeline (10) -/

/-- A frame that is open: from its trigger to its end (R293). `rows` are the lines received, in pixel
codes. -/
structure Frame where
  seq : Nat
  trig : Nat
  tag : Nat
  /-- the mode in which it triggered (R309) -/
  mode : Mode
  started : Bool
  trunc : Bool
  crcErr : Bool
  ovr : Bool
  tnrReset : Bool
  /-- triggered by a camera probe (R190) -/
  probe : Bool
  rows : List (List Nat)
  deriving DecidableEq, Repr

/-- A settings change of a port (R301 to R303). -/
structure Change where
  req : Req
  tag : Nat
  /-- the frame it takes effect at on its own, once known; the effective frame, once known -/
  raw : Option Nat
  eff : Option Nat
  /-- shadow writes into pipeline registers, and the defect list it replaces -/
  writes : List (Nat × Word)
  defects : Option (List (Nat × Nat))
  deriving DecidableEq, Repr

/-- A raw tap (R300). -/
structure Tap where
  on : Bool
  point : Nat
  every : Nat
  lines : Nat
  deriving DecidableEq, Repr, Inhabited

/-- A CAM_TRIGGER in flight (R308). -/
structure HostTrig where
  /-- none for the frames of a camera probe -/
  req : Option Req
  left : Nat
  spacing : Nat
  nextAt : Nat
  first : Option Nat
  last : Nat
  deriving DecidableEq, Repr

/-- A camera port. -/
structure Cam where
  on : Bool
  /-- triggers since reset: the next one's frame, whose sequence number is this modulo 2^32 -/
  seq : Nat
  frame : Option Frame
  /-- TB3 of the last frame's end -/
  lastEnd : Option Nat
  /-- an unsolicited frame is being discarded (R306) -/
  unsol : Bool
  defects : List (Nat × Nat)
  /-- changes that have not taken effect, in the order of issue -/
  changes : List Change
  /-- tag in force -/
  tag : Nat
  tap : Tap
  tapReqs : List (Req × Tap)
  hosts : List HostTrig
  /-- scheduled instants before this have been served -/
  schedFrom : Nat
  /-- a scheduled trigger waits for the end of a sensor write (R301) -/
  delayed : Bool
  /-- layer-mode trigger instant (R292, mode 3 of bed ports) -/
  dueAt : Option Nat
  /-- strobe requests: opening and closing instants (R307) -/
  strobes : List (Nat × Nat)
  /-- the temporal filter: stage-4 output of the previous frame; it resets on the next frame (R305) -/
  prev : List (List Nat)
  prevTag : Nat
  prevBad : Bool
  /-- SEQ and tag of the last frame ended -/
  ended : Nat × Nat
  /-- TB3 of the last fault of each cause of R306 -/
  faultAt : List (Nat × Nat)
  deriving DecidableEq, Repr, Inhabited

/-- A sensor write on an I2C controller (R301). -/
structure I2cJob where
  port : Nat
  req : Req
  entries : List (List Byte)
  /-- predicted time in time-stamp ticks -/
  dur : Nat
  hold : Bool
  issued : Nat
  started : Bool
  deriving DecidableEq, Repr

/-- The vision block: 20 ports and 4 I2C controllers. -/
structure Vis where
  cams : List Cam
  i2c : List (List I2cJob)
  /-- CAM_I2C_READs that wait for a common blanking -/
  reads : List (Req × Env)
  deriving DecidableEq, Repr

/-! ## Illumination (16) -/

/-- A lamp channel beside its registers. -/
structure Lamp where
  /-- the host level of LED_SET (R447) -/
  host : Nat
  /-- LED_SETs not yet in force, oldest first: D, SET, STROBE_SET and the MOT cycle they came in (R450) -/
  next : List (Nat × Nat × Nat × Nat)
  /-- the gate is low until the next period (R448) -/
  dark : Bool
  /-- the end of the strobe window in progress -/
  win : Option Nat
  /-- f of R445 as a fraction, and whether it is below 1 -/
  fNum : Nat
  fDen : Nat
  below : Bool
  /-- the findings of the previous diagnosis: open, short; MOT cycle of the last LED_SHORT -/
  wasOpen : Bool
  wasShort : Bool
  shortAt : Option Nat
  deriving DecidableEq, Repr, Inhabited

/-- A bloom engine beside its registers: TB3 at which its programme was set, and the D of each member. -/
structure Bloom where
  start : Nat
  vals : List (Nat × Nat)
  deriving DecidableEq, Repr, Inhabited

/-- The illumination unit. -/
structure Illum where
  lamps : List Lamp
  blooms : List Bloom
  /-- LED_SETs in flight: the channels still to start a period, and the MOT cycle it came in -/
  sets : List (Req × Nat × Nat)
  /-- NTC inputs whose NTC_BAD has been raised -/
  ntcBad : Nat
  deriving DecidableEq, Repr, Inhabited

/-! ## Analog trim (17) -/

/-- The trim unit beside its registers. -/
structure TrimCtl where
  /-- TRIM_RUNs and TRIM_LOADs not yet run, in the order of their start (R453) -/
  queue : List (Req × Env)
  /-- commits that wait (R454) -/
  commits : List Req
  /-- per bandgap: consecutive comparisons it agreed with both others on (R458) -/
  agree : List Nat
  /-- no pair of bandgaps agreed at the last comparison -/
  lost : Bool
  deriving DecidableEq, Repr, Inhabited

/-! ## Replay (07) -/

/-- A replay in progress (R228, R230), and what it set aside. -/
structure Replay where
  req : Req
  /-- the recorded events ASSIGN, STITCH, PLUME_WAIT and REVISIT_WAIT not yet imposed, in the record's order -/
  script : List (List Byte)
  /-- the recorded queue positions, with their global beams -/
  places : List (Nat × Nat)
  imposed : Nat
  diverged : Nat
  skipped : Nat
  opened : List Layer
  active : Option Table
  engines : List Engine
  keeper : Keeper
  deriving DecidableEq, Repr

end Sys2Proof.Machine
end

