-- ==== Sys2Proof/Machine/Law.lean ====
section
/-! DEFINITION. The correction law of a beam (R276 to R284), over its own state alone. -/

namespace Sys2Proof.Machine

/-- The coefficients of a set the law uses (R132, R278). -/
structure LawSet where
  kpPd : Int
  kiPd : Int
  kpCam : Int
  kiCam : Int
  fbMin : Int
  fbMax : Int

/-- What a cut-off brings to the law. -/
structure LawTick where
  active : Bool
  ePd : Int
  saturated : Bool
  newFeature : Bool
  eCam : Int
  tagChanged : Bool
  pdOn : Bool
  camOn : Bool

/-- The photodiode, the camera term is dropped. -/
def Law.pdDropped (l : Law) : Bool := l.pdDark || l.pdLost || l.pdFault || l.pdOff
def Law.camDropped (l : Law) : Bool := l.camDrop || l.camOff

/-- The contributions at a drop (R282). -/
def Law.cPd (l : Law) : Int := l.ppd + l.ipd / 2 ^ 8
def Law.cCam (l : Law) : Int := l.pcam + l.icam / 2 ^ 8

/-- The causes that drop the photodiode term change: at its drop a negative contribution is held and any other goes to
zero; with no cause left it restarts from zero; one cause that follows another leaves it as it is (R282, R284). -/
def Law.flagPd (l : Law) (f : Law → Law) : Law :=
  let m := f l
  match l.pdDropped, m.pdDropped with
  | false, true => if l.cPd < 0 then { m with pdHeld := true, marks := m.marks ||| 1 }
    else { m with ipd := 0, ppd := 0, marks := m.marks ||| 1 }
  | true, false => { m with pdHeld := false, ipd := 0, ppd := 0 }
  | _, _ => m

/-- The causes that drop the camera term change. -/
def Law.flagCam (l : Law) (f : Law → Law) : Law :=
  let m := f l
  match l.camDropped, m.camDropped with
  | false, true => if l.cCam < 0 then { m with camHeld := true, marks := m.marks ||| 2 }
    else { m with icam := 0, pcam := 0, marks := m.marks ||| 2 }
  | true, false => { m with camHeld := false, icam := 0, pcam := 0 }
  | _, _ => m

/-- What a tick finds of the photodiode channels: a channel fault, a late window, a dark run at its end, an emitting
tick, the photodiode term enabled. -/
structure PdTick where
  fault : Bool
  late : Bool
  dark : Bool
  emit : Bool
  pd : Bool

/-- The photodiode term on a tick (R280, R282): each cause of a drop comes and goes by itself; where one comes in the
tick in which another would end, the drop wins and the other counts anew (R284). -/
def Law.sense (l : Law) (k : PdTick) : Law :=
  let clear := if k.fault then 0 else l.clear + 1
  let late := if k.late then l.late + 1 else 0
  let onTime := if k.late then 0 else l.onTime + 1
  let comes := (k.fault && !l.pdFault) || (decide (8 ≤ late) && !l.pdLost) || (k.dark && !l.pdDark)
    || (k.emit && l.pdEn && !k.pd && !l.pdOff)
  let faultEnds := l.pdFault && decide (64 ≤ clear)
  let lostEnds := l.pdLost && decide (64 ≤ onTime)
  l.flagPd (fun l => { l with
    clear := if comes && faultEnds then 0 else clear
    late := late
    onTime := if comes && lostEnds then 0 else onTime
    pdFault := k.fault || (l.pdFault && (!faultEnds || comes))
    pdLost := decide (8 ≤ late) || (l.pdLost && (!lostEnds || comes))
    pdDark := l.pdDark || k.dark
    pdOff := if k.emit then !k.pd && (l.pdOff || l.pdEn) else l.pdOff
    pdEn := if k.emit then k.pd else l.pdEn })

/-- The camera term on an emitting tick: a joint whose set clears its enable drops it, one that sets it brings it back
(R280). -/
def Law.senseCam (l : Law) (cam : Bool) : Law :=
  l.flagCam (fun l => { l with camOff := !cam && (l.camOff || l.camEn), camEn := cam })

/-- The camera term drops at a time, until a usable record enters (R282). -/
def Law.dropCam (l : Law) (t : Nat) : Law := l.flagCam (fun l => { l with camDrop := true, camAt := t })

/-- FROZEN and the held flags clear; a held part and its integrator go to zero with its flag (R280). -/
def Law.clearHeld (l : Law) : Law :=
  { l with
    frozen := false, pdHeld := false, camHeld := false
    ipd := if l.pdHeld then 0 else l.ipd
    ppd := if l.pdHeld then 0 else l.ppd
    icam := if l.camHeld then 0 else l.icam
    pcam := if l.camHeld then 0 else l.pcam }

/-- The state of the terms at zero. -/
def Law.zero (l : Law) : Law := { l with ipd := 0, icam := 0, ppd := 0, pcam := 0 }

/-- The first emitting tick of a commit unit (R280). A resumed unit keeps its state and its figures; blanking applies
again. DESIGN CHOICE (log entry 100). -/
def Law.firstTick (l : Law) (carry resumed : Bool) (seq : Nat) : Law :=
  if resumed then { l with
    emitted := 0, seq := seq, clampSeq := if l.clampSeq = l.seq then seq else l.clampSeq
    hist := l.hist.map (fun h => if h.1 = l.seq then (seq, h.2) else h) }
  else
    let l := l.clearHeld
    let l := if carry then l else l.zero
    { l with
      pdDark := false, pdOff := false, camOff := false, pdEn := false, camEn := false, dark := 0, sat := 0
      tag := none, lo := 0, hi := 0, sum := 0, active := 0, emitted := 0, seq := seq
      raised := 0, figured := false
      marks := bitOf (l.pdLost || l.pdFault) + 2 * bitOf l.camDrop }

/-- fb_tick of R278. -/
def Law.fbTick (l : Law) (s : LawSet) (k : LawTick) : Law :=
  let lo := s.fbMin * 2 ^ 8
  let hi := s.fbMax * 2 ^ 8
  let runPd := k.active && !l.frozen && k.pdOn
  let runCam := k.active && !l.frozen && k.camOn
  let ppd := if runPd then s.kpPd * k.ePd / 2 ^ 11 else l.ppd
  let pPd := if runPd || l.frozen || l.pdHeld then ppd else 0
  let diPd0 := if runPd then s.kiPd * k.ePd / 2 ^ 3 else 0
  let diPd := if k.saturated ∧ 0 < diPd0 then 0 else diPd0
  let pcam := if runCam && k.newFeature then s.kpCam * k.eCam / 2 ^ 9 else l.pcam
  let pCam := if runCam || l.frozen || l.camHeld then pcam else 0
  let diCam := if runCam && k.newFeature && !k.tagChanged then s.kiCam * k.eCam / 2 else 0
  let ipd := clampInt lo hi (l.ipd + diPd)
  let icam := clampInt lo hi (l.icam + diCam)
  let u := pPd + pCam + (ipd + icam) / 2 ^ 8
  let up := decide (s.fbMax < u) || l.ceilPrev
  let dn := decide (u < s.fbMin)
  let ipd := if (up ∧ 0 < diPd) ∨ (dn ∧ diPd < 0) then l.ipd else ipd
  let icam := if (up ∧ 0 < diCam) ∨ (dn ∧ diCam < 0) then l.icam else icam
  { l with
    ipd := ipd, icam := icam, ppd := ppd, pcam := pcam
    fb := clampInt s.fbMin s.fbMax (pPd + pCam + (ipd + icam) / 2 ^ 8) }

/-- A tick joins the loop-active ticks of the unit. -/
def Law.note (l : Law) (m : Nat) : Law :=
  match l.hist with
  | (u, a, b) :: rest =>
    if u = l.seq ∧ b + 1 = m then { l with hist := (u, a, m) :: rest } else { l with hist := (l.seq, m, m) :: l.hist }
  | [] => { l with hist := [(l.seq, m, m)] }

/-- The unit in which a tick was loop-active. -/
def Law.activeIn (l : Law) (m : Nat) : Option Nat :=
  (l.hist.find? (fun p => decide (p.2.1 ≤ m) && decide (m ≤ p.2.2))).map (fun p => p.1)

end Sys2Proof.Machine
end

