-- ==== Sys2Proof/Machine/Bank.lean ====
section
/-! DEFINITION. Sparse data by key: a list of key and value pairs in rising order of key. The register
bank and the memory are such lists. -/

namespace Sys2Proof.Machine

/-- The value listed for a key. -/
def bankGet {α : Type} : List (Nat × α) → Nat → Option α
  | [], _ => none
  | (j, b) :: l, k => if j = k then some b else bankGet l k

/-- The list with the value of a key set. -/
def bankSet {α : Type} : List (Nat × α) → Nat → α → List (Nat × α)
  | [], k, a => [(k, a)]
  | (j, b) :: l, k, a =>
    if k < j then (k, a) :: (j, b) :: l
    else if j = k then (k, a) :: l
    else (j, b) :: bankSet l k a

/-- The list without a key. -/
def bankDel {α : Type} : List (Nat × α) → Nat → List (Nat × α)
  | [], _ => []
  | (j, b) :: l, k => if j = k then bankDel l k else (j, b) :: bankDel l k

/-- The list with a key set, or absent where the value is the one an unlisted key reads as. -/
def bankPut {α : Type} [DecidableEq α] (l : List (Nat × α)) (k : Nat) (dflt a : α) : List (Nat × α) :=
  if a = dflt then bankDel l k else bankSet l k a

/-- The keys rise strictly. -/
def bankSorted {α : Type} : List (Nat × α) → Bool
  | [] => true
  | [_] => true
  | (i, _) :: (j, b) :: l => decide (i < j) && bankSorted ((j, b) :: l)

/-- The canonical form: keys rise, and no entry equals what its key reads as when unlisted. -/
def bankWf {α : Type} [DecidableEq α] (dflt : Nat → α) (l : List (Nat × α)) : Bool :=
  bankSorted l && l.all (fun p => p.2 != dflt p.1)

end Sys2Proof.Machine
end

