-- ==== Sys2Proof/Machine/State.lean ====
section
/-! DEFINITION. The state of the block. -/

namespace Sys2Proof.Machine

open Sys2Proof.Config (Variant)

/-- A symbol of the 8b/10b code: a control symbol Kx.y, or a data byte. -/
inductive Symbol where
  | k (x y : Nat)
  | d (b : Byte)
  deriving DecidableEq, Repr

/-- What leaves the device. DESIGN CHOICE (log entry 75). -/
inductive Output where
  /-- a completion entry written to slot `slot` of ring `ring` (R89, R91) -/
  | cqe (ring slot : Nat) (bytes : List Byte)
  /-- data written to host memory: a result buffer or a stream buffer -/
  | hostWrite (addr : Nat) (bytes : List Byte)
  /-- an MSI-X message -/
  | msix (vector : Nat)
  /-- the symbols of one tick on a scanner port's data lane: a setpoint frame and the commas after it (R314, R315) -/
  | frame (port : Nat) (symbols : List Symbol)
  /-- other symbols on a lane of a scanner port, else of a Byoft port: a training block, the entry to sleep (R321, R326) -/
  | symbols (scn : Bool) (port lane : Nat) (symbols : List Symbol)
  /-- the PRBS generator of a lane starts with a pattern, PRBS7, 15, 23 or 31 (R339) -/
  | prbs (lane pattern : Nat)
  /-- consecutive bits of a lane's generator are inverted (R341) -/
  | prbsInvert (lane bits : Nat)
  /-- power code and MOD edges of a laser output at a strobe (R330) -/
  | laser (beam code : Nat) (high : Bool) (rise fall : Option Nat)
  /-- a trigger pulse of a camera port: its edge, width in µs, and polarity (R292) -/
  | trigger (port t width : Nat) (low : Bool)
  /-- the entries of a sensor write as sent on an I2C controller (R301) -/
  | i2c (ctrl : Nat) (entries : List (List Byte))
  /-- EMIT_EN of a laser output changes -/
  | emitEn (beam : Nat) (on : Bool)
  /-- a flit on a Byoft port (R369) -/
  | flit (port : Nat) (f : Flit)
  /-- a NAK on a Byoft port (R370) -/
  | nak (port seq : Nat)
  /-- an active edge of a timed output: base, its programmed count, width in TB0 units, polarity (R405) -/
  | tout (i base count width : Nat) (low : Bool)
  /-- a timed output disarms to a level (R408) -/
  | toutLevel (i : Nat) (high : Bool)
  /-- a PTP message leaves a port: its message type and the time-stamp in it or taken of it (R402) -/
  | ptp (port type stamp : Nat)
  /-- an answer to ARP or neighbour discovery on an Ethernet port (R401) -/
  | ethReply (port : Nat) (v6 : Bool)
  /-- a phase's bridge: driving or in decay, the leg its sign selects, the DAC threshold awaited in 1/64 code (R418, R419) -/
  | bridge (axis phase : Nat) (drive plus : Bool) (threshold : Int)
  /-- STEP pulses of an axis, negative against DIR, and their high time in ns (R422) -/
  | steps (axis : Nat) (n : Int) (high : Nat)
  /-- ENABLE, or the gates, of an axis (R415) -/
  | axisEn (axis : Nat) (on : Bool)
  /-- a lamp period: the on-time of each slice in MOT cycles, and the effective target (R442) -/
  | lamp (c : Nat) (slices : List Nat) (target : Nat)
  /-- a lamp gate rises fully on for a strobe window, or falls at its end (R443) -/
  | lampWindow (c target : Nat) (on : Bool)
  /-- a lamp gate goes low -/
  | lampOff (c : Nat)
  /-- the completion of a BAR0 read -/
  | regRead (off : Nat) (w : Word)
  /-- the completion of a BAR2 read; none: poisoned (R72) -/
  | barRead (off : Nat) (bytes : Option (List Byte))
  /-- a BAR0 read that ends with Unsupported Request status (R14) -/
  | unsupported
  /-- a report through AER: a failed read of host memory, else an Unsupported Request (R14, R71) -/
  | aer (read : Bool)
  deriving DecidableEq, Repr

/-- The device: everything but its memory and the commands that wait. -/
structure Dev where
  variant : Variant
  devId : Nat
  /-- the registers whose value differs from reset, by BAR0 offset, in rising order -/
  regs : List (Nat × Word)
  /-- the holding copies of 64-bit pairs, by the offset of the high word (R44) -/
  copies : List (Nat × Word)
  /-- the TB0 and TB3 counts (R392) -/
  tb0 : Nat
  tb3 : Nat
  mode : ModeCtl
  rings : List Ring
  hif : Hif
  rcd : Recorder
  life : Life
  woram : Option Woram
  /-- records of closed layers that wait for the merge to release their last events, oldest first (R35, R507) -/
  closing : List Woram
  staged : List Seg
  /-- REC_SEQ of the next record (R505) -/
  recSeq : Nat
  lay : Layers
  grids : List BeamGrids
  resids : List Resid
  flt : Faults
  /-- the rail words of CLK_RAILr: MV, LOW, HIGH (R538) -/
  rails : List Nat
  bist : Bist
  engines : List Engine
  keeper : Keeper
  replay : Option Replay
  ldg : Ledger
  /-- feature records on their way to the engines, by melt-pool port (R22, R273) -/
  feats : List (List Feat)
  /-- the DRAM copy of each beam's profile: page offsets and words (R139) -/
  profiles : List (Option (List (Nat × Word)))
  cals : List CalJob
  probes : List ProbeJob
  /-- calibration commands that wait for a beam (R189) -/
  calWait : List (Req × Env)
  scn : Scanner
  vis : Vis
  dram : Dram
  time : TimeCtl
  byf : Byoft
  mot : Motion
  ill : Illum
  trim : TrimCtl
  /-- a field correction grid has been committed (R183): the count of commits -/
  gridCommits : Nat
  /-- the layer-boundary recoat sequence is complete (R110, R433) -/
  recoated : Bool
  /-- the admitted members of the topology, this device apart (R377) -/
  members : List Nat
  out : List Output
  freeCtr : Nat
  deriving DecidableEq, Repr

/-- The faults of the model: none, because every command has an effect the spec gives. -/
inductive Fault where
  deriving DecidableEq, Repr

inductive Refusal where
  | notModelled (mnemonic : String)
  deriving DecidableEq, Repr

structure State where
  dev : Dev
  mem : List Host.Cell
  pending : List Instr
  deriving DecidableEq, Repr

/-! ## Reset (R57, R58, R492, R519)

Every part as a reset leaves it. Where the spec gives no value the part is empty or zero (log entry 3). -/

def ModeCtl.reset : ModeCtl where
  cur := .configure
  prev := .configure
  boot := 0
  lastCause := 0
  changing := false
  holdFrom := .build
  holdAt := 0
  holdTrig := 0
  holdAtLayerEnd := false
  quiet := false
  holdReq := none
  leaveReq := none
  wakeReq := none
  waiters := []
  fwSup := false
  fwBe := false
  fwVis := false
  dram := false
  repair := false
  programs := List.replicate 3 []
  fwLoad := none
  softPending := false
  wdSafe := false

/-- MSI-X vectors are masked, as PCIe leaves them. PRESUMED (log entry 4). -/
def Hif.reset : Hif where
  waitData := []
  fails := 0
  linkUp := false
  linkSpeed := 0
  linkWidth := 0
  turn := 0
  taken := 0
  msixMask := BitVec.allOnes 256
  msixPend := 0
  sigAt := []

/-- No lifetime quantity accumulated. -/
def Life.zero : Life where
  seconds := 0
  boots := 0
  layers := 0
  flushes := 0
  pfails := 0
  laser := List.replicate 16 0
  travel := List.replicate 16 0
  lanes := List.replicate 64 0
  tjHist := List.replicate 32 0
  supply := List.replicate 16 0
  classes := List.replicate 4 0
  sources := List.replicate 39 0

/-- An MRAM as the board supplies it: nothing written, both pointer slots invalid. DESIGN CHOICE (log entry 3). -/
def Mram.blank : Mram where
  usable := false
  mib := 0
  recs := []
  slot0 := ⟨0, 0, false, false⟩
  slot1 := ⟨0, 0, false, false⟩
  lifeGen := 0
  life := Life.zero
  repairCopy := []

def Recorder.reset (m : Mram) (shadow : List Shadow) : Recorder where
  waiting := []
  seq := 0
  buf := []
  writing := 0
  wptr := 0
  full := false
  flushing := false
  again := false
  pfail := false
  flushAt := 0
  noteDue := false
  bypass := false
  shadow := shadow
  dropped := 0
  flushReqs := []
  nextReqs := []
  clearReq := none
  clearing := none
  clearedAt := none
  mram := m

/-- The fault collector: the history queue and its sequence number are retained. DESIGN CHOICE (log entry 3). -/
def Faults.reset (hist : List Hist) (seq : Nat) : Faults where
  hist := hist
  seq := seq
  live := []
  fenced := []
  snaps := []
  pulse := none
  level := true
  levels := []
  inj := none
  injCount := 0
  injSrc := 0
  injCause := 0
  ghosts := []
  settleDue := false
  pfail := false

/-- DESIGN CHOICE (log entry 3). -/
def Fuses.blank : Fuses where
  manuf := false
  deploy := false
  retire := false
  entries := 0
  returns := 0

def Bist.reset (f : Fuses) : Bist where
  fuses := f
  latched := f
  map := []
  mbist := []
  run := none

def Layers.reset : Layers where
  opened := []
  lastClosed := none
  slots := List.replicate 4 none
  active := none
  basinWait := []

def Keeper.reset : Keeper where
  locks := List.replicate 64 default
  tracks := []
  syncs := []
  peerQ := []
  sent := []
  xwait := []
  halves := []
  stitches := 0
  xreqs := []
  lost := false

def Ledger.reset : Ledger where
  copy := none
  replay := none
  satRaised := false
  bandLost := []
  cache := []

/-- The ports and outputs; the level of ILK_N is that of the pin. -/
def Scanner.reset (ilk : Bool) : Scanner where
  ports := List.replicate 16 default
  lasers := List.replicate 16 default
  ilk := ilk
  latch := false
  moors := []
  jogs := []
  sleeps := []
  moorOk := false
  burst := []

def Vis.reset : Vis where
  cams := List.replicate 20 default
  i2c := List.replicate 4 []
  reads := []

def Dram.reset : Dram where
  training := false
  queue := []
  open_ := []
  slot := List.replicate 4 0
  lastEng := List.replicate 4 0
  down := List.replicate 8 false
  refUntil := List.replicate 8 0
  refAt := List.replicate 8 0

def TimeCtl.reset : TimeCtl where
  tb1 := 0
  tb2 := 0
  tb2Run := false
  build := none
  rem0 := 0
  rem1 := 0
  remSlew := 0
  follows := false
  corr := 0
  stepAt := none
  apart := false
  gm := none
  good := 0
  bad := 0
  settle := false
  outs := List.replicate 8 default
  caps := List.replicate 8 none
  capFault := List.replicate 8 none
  addrs := List.replicate 64 0
  stops := []

def Byoft.reset : Byoft where
  ports := List.replicate 4 default
  nodes := []
  inside := false
  refused := false
  missed := []
  modes := []
  heard := []
  mismatch := []
  align := false
  retrains := []
  tests := []
  told := []

/-- DESIGN CHOICE (log entry 3). -/
def Axis.reset : Axis where
  on := false
  faulted := false
  us := 0
  mv := none
  queue := []
  homed := false
  inp := List.replicate 3 none
  level := 1
  chop := List.replicate 2 default
  coarseAt := none
  coarseUp := false
  emission := none

def Motion.reset : Motion where
  axes := List.replicate 8 Axis.reset
  prog := []
  seq := none
  epoch := 0
  stops := []

/-- DESIGN CHOICE (log entry 3). -/
def Illum.reset : Illum where
  lamps := List.replicate 12 { (default : Lamp) with fNum := 1, fDen := 1 }
  blooms := List.replicate 2 default
  sets := []
  ntcBad := 0

def TrimCtl.reset : TrimCtl where
  queue := []
  commits := []
  agree := List.replicate 3 0
  lost := false

/-- The device after a power-on reset of a part of variant `v` with fuses `f` (R57, R58).
DESIGN CHOICE (log entry 3). -/
def Dev.powerOn (v : Variant) (f : Fuses) (m : Mram) (ilk : Bool) : Dev where
  variant := v
  devId := 0
  regs := [(0x10008, 1)]
  copies := []
  tb0 := 0
  tb3 := 0
  mode := ModeCtl.reset
  rings := List.replicate 64 default
  hif := Hif.reset
  rcd := Recorder.reset m []
  life := Life.zero
  woram := none
  closing := []
  staged := []
  recSeq := 0
  lay := Layers.reset
  grids := List.replicate 16 default
  resids := List.replicate 64 default
  flt := Faults.reset [] 0
  rails := List.replicate 8 0
  bist := Bist.reset f
  engines := List.replicate 18 default
  keeper := Keeper.reset
  replay := none
  ldg := Ledger.reset
  feats := List.replicate 16 []
  profiles := List.replicate 16 none
  cals := []
  probes := []
  calWait := []
  scn := Scanner.reset ilk
  vis := Vis.reset
  dram := Dram.reset
  time := TimeCtl.reset
  byf := Byoft.reset
  mot := Motion.reset
  ill := Illum.reset
  trim := TrimCtl.reset
  gridCommits := 0
  recoated := false
  members := []
  out := []
  freeCtr := 0

/-- The machine right after a power-on reset: a blank PQ16, with nothing waiting (log entry 3).
DESIGN CHOICE (log entry 3). -/
def State.reset : State where
  dev := Dev.powerOn .pq16 Fuses.blank Mram.blank false
  mem := []
  pending := []

end Sys2Proof.Machine
end

