-- ==== Sys2Proof/Machine/Ops.lean ====
section
/-! DEFINITION. The operations every command is written over: registers, free values, events, streams,
completion entries and interrupts. -/

namespace Sys2Proof.Machine

open Sys2Proof.Config (Variant)

/-! ## Plain helpers -/

/-- The list with element `i` changed by `f`. -/
def modAt {α : Type} (l : List α) (i : Nat) (f : α → α) : List α :=
  match l[i]? with
  | some a => l.set i (f a)
  | none => l

/-- `f` applied `n` times. -/
def iter {α : Type} (f : α → α) : Nat → α → α
  | 0, a => a
  | n + 1, a => iter f n (f a)

/-- 1 µs in time-stamp ticks of 62.5 ps (R12). -/
def perUs : Nat := 16000
/-- 1 ms in time-stamp ticks. -/
def perMs : Nat := 16000000
/-- One 500 ns tick in time-stamp ticks (R30). -/
def perTick : Nat := 8000

/-- A free value: the next value of the opaque sequence (log entry 2). DESIGN CHOICE (log entry 2). -/
def Dev.free (d : Dev) : Nat × Dev :=
  ((Config.free d.freeCtr).toNat, { d with freeCtr := d.freeCtr + 1 })

/-- A free whole number within ±k of zero. DESIGN CHOICE (log entry 2), DESIGN CHOICE (log entry 37). -/
def Dev.freeErr (d : Dev) (k : Nat) : Int × Dev :=
  let (x, d) := d.free
  (((x % (2 * k + 1) : Nat) : Int) - (k : Int), d)

/-- A length in bu times 2^80 as whole bu; which way a fraction is rounded is free. DESIGN CHOICE (log entry 79). -/
def Dev.wholeBu (d : Dev) (x : Nat) : Nat × Dev :=
  if x % 2 ^ 80 = 0 then (x / 2 ^ 80, d) else let (k, d) := d.free; (x / 2 ^ 80 + k % 2, d)

/-! ## Registers (R14, R15, R43) -/

/-- The word held at a BAR0 offset: the value written, or the reset value. -/
def Dev.rd (d : Dev) (off : Nat) : Word := (bankGet d.regs off).getD (resetOf d.variant off)

/-- The word at a BAR0 offset set. -/
def Dev.wr (d : Dev) (off : Nat) (w : Word) : Dev :=
  { d with regs := bankPut d.regs off (resetOf d.variant off) w }

/-- A field of a register, as a number. -/
def Dev.fld (d : Dev) (off lo n : Nat) : Nat := (d.rd off).get lo n

/-- A bit of a register. -/
def Dev.bit (d : Dev) (off i : Nat) : Bool := (d.rd off).bit i

/-- A field of a register set. -/
def Dev.setFld (d : Dev) (off lo n v : Nat) : Dev := d.wr off ((d.rd off).put lo n v)

/-- A bit of a register set or cleared. -/
def Dev.setBit (d : Dev) (off i : Nat) (b : Bool) : Dev := d.wr off ((d.rd off).putBit i b)

/-- A whole register set to a number. -/
def Dev.wrN (d : Dev) (off v : Nat) : Dev := d.wr off (BitVec.ofNat 32 v)

/-- A register read as a signed number. -/
def Dev.rdI (d : Dev) (off : Nat) : Int := signed 32 (d.rd off).toNat

/-- A 64-bit quantity held in a low and a high register. -/
def Dev.rd64 (d : Dev) (lo hi : Nat) : Nat := (d.rd lo).toNat + (d.rd hi).toNat * 2 ^ 32

/-- A 64-bit quantity written to a low and a high register. -/
def Dev.wr64 (d : Dev) (lo hi v : Nat) : Dev := (d.wrN lo v).wrN hi (v / 2 ^ 32)

/-- A saturating 32-bit count register advanced by k. -/
def Dev.count (d : Dev) (off k : Nat) : Dev := d.wr off (satInc (d.rd off) k)

/-- `n` more lost clears or writes of the register at `off`, the latest at bit `b` (R43). -/
def Dev.lostClear (d : Dev) (off n b : Nat) : Dev :=
  if n = 0 then d else
    let c := d.rd (off + 0x8000)
    d.wr (off + 0x8000) ((c.put 0 16 (Nat.min 0xFFFF (c.get 0 16 + n))).put 16 5 b)

/-- The lowest set bit of a word, 32 when none is set. -/
def lowBit (w : Word) : Nat := ((List.range 32).find? (fun i => w.bit i)).getD 32

/-- The number of set bits of a word. -/
def popCount (w : Word) : Nat := ((List.range 32).filter (fun i => w.bit i)).length

/-- The value a write stores in a field, by the field's limit. -/
def Clamp.store (width : Nat) (v : Nat) : Clamp → Nat
  | .any => v
  | .range lo hi => clampNat lo hi v
  | .upTo n => Nat.min v n
  | .zeroIs n => if v = 0 then n else v
  | .threeTwo => if v = 3 then 2 else v
  | .sqLog2 => if 1 ≤ v ∧ v ≤ 3 then 4 else v
  | .i2cSpeeds => (List.range (width / 2)).foldl
      (fun a i => let c := bitsAt v (2 * i) 2; a + (if c = 3 then 2 else c) * 4 ^ i) 0

/-! ## The time bases (R392, R393, R396, R397) -/

/-- 2^41 + FREQ: TB1 units for 2^41 units of TB0. -/
def Dev.rate1 (d : Dev) : Nat := (2 ^ 41 + d.rdI TIME_TB1_FREQ).toNat

/-- The slew limit in ppm: to TB1 on a single device and the master, to the upstream neighbour else.
DEDUCED (log entry 56). -/
def Dev.slewPpm (d : Dev) : Nat := if d.time.follows then 200 else Nat.max 1 (d.fld TIME_CFG 0 8)

/-- What TB3 has still to gain (R396, R374). -/
def Dev.tb3Gap (d : Dev) : Int := if d.time.follows then d.time.corr else (d.time.tb1 : Int) - d.tb3

/-- TB2 after TB3 has reached `t` and TB1 has gone `run` units on (R392, R395). -/
def TimeCtl.tb2Go (c : TimeCtl) (t run : Nat) : TimeCtl :=
  if c.tb2Run then { c with tb2 := c.tb2 + run }
  else match c.build with
    | some b => if b ≤ t then { c with tb2 := t - b, tb2Run := true, build := none } else c
    | none => c

/-- The bases go on: TB0 by `z`, TB1 by `run`, TB3 by `run` and the slew `s`. -/
def Dev.pass (d : Dev) (z run : Nat) (s : Int) : Dev :=
  let t := ((d.tb3 + run : Nat) : Int) + s
  { d with
    tb0 := d.tb0 + z, tb3 := t.toNat
    time := { d.time.tb2Go t.toNat run with
      tb1 := (d.time.tb1 + run) % 2 ^ 64, corr := if d.time.follows then d.time.corr - s else 0 } }

/-- Time goes on to a TB3 instant that is not past, TB3 slewing on its way. DEDUCED (log entry 56). -/
def Dev.advanceTo (d : Dev) (t : Nat) : Dev :=
  let dt := t - d.tb3
  if dt = 0 then d
  else
    let gap := d.tb3Gap
    let acc := d.time.remSlew + dt * d.slewPpm
    let s := clampInt (-((acc / 1000000 : Nat) : Int)) (acc / 1000000 : Nat) gap
    let run := ((dt : Int) - s).toNat
    let acc0 := d.time.rem0 + run * 2 ^ 41
    let d := d.pass (acc0 / d.rate1) run s
    { d with time := { d.time with
      rem0 := acc0 % d.rate1, remSlew := if gap = 0 then 0 else acc % 1000000 } }

/-! ## Device memory (R72, R347) -/

/-- The byte at a DRAM offset: an offset not listed reads zero, as training leaves it (R362).
DESIGN CHOICE (log entry 53). -/
def memRead (m : List Host.Cell) (a : Nat) : Byte := (bankGet m a).getD 0

/-- One byte written; a zero is not listed. DESIGN CHOICE (log entry 53). -/
def memPut (m : List Host.Cell) (a : Nat) (b : Byte) : List Host.Cell := bankPut m a 0 b

/-- `n` bytes from an offset. -/
def memBytes (m : List Host.Cell) (a n : Nat) : List Byte := (List.range n).map (fun i => memRead m (a + i))

/-- Bytes written from an offset on. -/
def memWrite (m : List Host.Cell) (a : Nat) : List Byte → List Host.Cell
  | [] => m
  | b :: bs => memWrite (memPut m a b) (a + 1) bs

/-- The canonical form of the memory: offsets rise, and no zero is listed. DESIGN CHOICE (log entry 53). -/
def Memory.wf (m : List Host.Cell) : Bool := bankWf (fun _ => (0 : Byte)) m

/-! ## Units -/

/-- Unit u is fenced: 0 to 17 beam engines, 18 to 21 vision engines (R480). -/
def Dev.fencedUnit (d : Dev) (u : Nat) : Bool := d.flt.fenced.contains u

/-- The fenceable unit an event source is (R32, R480). -/
def unitOfSource (src : Nat) : Option Nat :=
  if 2 ≤ src ∧ src ≤ 19 then some (src - 2) else if 22 ≤ src ∧ src ≤ 25 then some (src - 4) else none

/-- The engine that serves logical beam b: the present engine mapped to it (R136). -/
def Dev.engineOf (d : Dev) (b : Nat) : Option Nat :=
  (List.range (nEngines d.variant)).find? (fun n => d.bit (BE_MAP n) 31 && d.fld (BE_MAP n) 0 5 == b)

/-- The logical beam engine n serves. -/
def Dev.beamOf (d : Dev) (n : Nat) : Option Nat :=
  if d.bit (BE_MAP n) 31 then some (d.fld (BE_MAP n) 0 5) else none

/-- Beam b is present, mapped and its engine not fenced (R138). -/
def Dev.beamLive (d : Dev) (b : Nat) : Bool :=
  match d.engineOf b with
  | some n => decide (b < nBeams d.variant) && !d.fencedUnit n
  | none => false

/-- The global beam ID of logical beam b (R12). -/
def Dev.gbeam (d : Dev) (b : Nat) : Nat := d.devId * 16 + b

/-! ## Events (R32 to R35, R493) -/

/-- Event a stands before event b in the order of R34, keys 1 to 3. -/
def Event.before (a b : Event) : Bool :=
  if a.t ≠ b.t then decide (a.t < b.t)
  else if a.dev ≠ b.dev then decide (a.dev < b.dev)
  else decide (a.src < b.src)

/-- An event put in its place: after every earlier and every equal one. -/
def insertEvent (e : Event) : List Event → List Event
  | [] => [e]
  | x :: xs => if e.before x then e :: x :: xs else x :: insertEvent e xs

/-- Sixteen payload bytes. -/
def pay (bs : List Byte) : List Byte := (bs ++ List.replicate 16 0).take 16

/-- An event waits in its source's queue for the merge. -/
def Dev.queueEvent (d : Dev) (e : Event) : Dev :=
  { d with rcd := { d.rcd with waiting := insertEvent e d.rcd.waiting } }

/-- Something leaves the device. DESIGN CHOICE (log entry 75). -/
def Dev.send (d : Dev) (o : Output) : Dev := { d with out := o :: d.out }

/-! ## Symbols on the lanes (R314, R321, R326) -/

/-- A training block of a lane: role 0x53 of a scanner port, 0x42 of a Byoft port. -/
def trainingBlock (scn : Bool) (lane : Nat) (ack : Bool) : List Symbol :=
  [.k 28 5, .d (BitVec.ofNat 8 lane), .d (if scn then 0x53 else 0x42), .d (if ack then 1 else 0)]
    ++ List.replicate 12 (.d 0x4A)

/-- A port's transmitter sends training blocks on each of its data lanes. -/
def Dev.sendTraining (d : Dev) (scn : Bool) (p : Nat) (ack : Bool) : Dev :=
  (List.range (if scn then 1 else 4)).foldl (fun d l => d.send (.symbols scn p l (trainingBlock scn l ack))) d

/-- A scanner port's transmitter enters sleep: four K28.3, then electrical idle. -/
def Dev.sendSleep (d : Dev) (p : Nat) : Dev := d.send (.symbols true p 0 (List.replicate 4 (.k 28 3)))

/-! ## Paths over the Byoft link (R366, R367, R372) -/

/-- A key of a list of pairs set. -/
def assocPut (l : List (Nat × Nat)) (k v : Nat) : List (Nat × Nat) := (k, v) :: l.filter (fun x => x.1 != k)

def assocGet (l : List (Nat × Nat)) (k : Nat) : Nat := ((l.find? (fun x => x.1 == k)).map (fun x => x.2)).getD 0

/-- The peers of the trained ports, one for each port. -/
def Dev.portPeers (d : Dev) : List Nat :=
  (d.byf.ports.filter (fun p => p.state == 2)).filterMap (fun p => p.peer.map (fun x => x.1))

/-- The neighbours of a device, one for each trained port of it. -/
def Dev.rawNbrs (d : Dev) (v : Nat) : List Nat :=
  if v = d.devId then d.portPeers
  else match d.byf.nodes.find? (fun n => n.dev == v) with | some n => n.nbrs | none => []

/-- Devices with their hops from a start, level by level. -/
def Dev.spreadFrom (d : Dev) : Nat → List (Nat × Nat) → List (Nat × Nat)
  | 0, l => l
  | k + 1, l =>
    let far := l.foldl (fun m x => Nat.max m x.2) 0
    let new := ((l.filter (fun x => x.2 == far)).flatMap (fun x => d.rawNbrs x.1)).eraseDups.filter
      (fun v => !l.any (fun x => x.1 == v))
    d.spreadFrom k (l ++ new.map (fun v => (v, far + 1)))

/-- The devices a path leads to, with hops. -/
def Dev.graphFrom (d : Dev) (v : Nat) : List (Nat × Nat) := d.spreadFrom 8 [(v, 0)]

def Dev.hops (d : Dev) (a b : Nat) : Nat := assocGet (d.graphFrom a) b

/-- The neighbour a message for device v goes to: v itself, else the first device of a shortest path, the one with the
lower DEV_ID on a tie (R367). -/
def Dev.nextHop (d : Dev) (v : Nat) : Nat :=
  let ws := (List.range 8).filter (fun w => d.portPeers.contains w && (w == v || d.hops w v != 0))
  if ws.contains v then v
  else
    let best := ws.foldl (fun m w => Nat.min m (d.hops w v)) 99
    (ws.find? (fun w => d.hops w v == best)).getD v

def Dev.modByf (d : Dev) (f : Byoft → Byoft) : Dev := { d with byf := f d.byf }

def Dev.bport (d : Dev) (p : Nat) : BPort := d.byf.ports.getD p default

def Dev.modBport (d : Dev) (p : Nat) (f : BPort → BPort) : Dev :=
  d.modByf (fun b => { b with ports := modAt b.ports p f })

/-- The virtual channel of a message type (R371). -/
def vcOf (type : Nat) : Nat :=
  if type = 0x02 ∨ type = 0x03 ∨ type = 0x04 then 0
  else if 0x10 ≤ type ∧ type ≤ 0x16 then 1
  else if type = 0x20 ∨ type = 0x21 then 2 else 3

/-- A flit goes out on port p and stays in the replay buffer, which holds 64 (R369, R370).
DESIGN CHOICE (log entry 103). -/
def Dev.sendFlit (d : Dev) (p type src dst : Nat) (content : List Int) : Dev :=
  let f : Flit := ⟨(d.bport p).seq, vcOf type, type, dst, src, content⟩
  (d.modBport p (fun b => { b with seq := (b.seq + 1) % 4096, sent := (b.sent ++ [f]).drop (b.sent.length + 1 - 64) })).send
    (.flit p f)

/-- The trained ports of the connection to neighbour v (R366). -/
def Dev.portsTo (d : Dev) (v : Nat) : List Nat :=
  (List.range 4).filter (fun p => (d.bport p).state == 2 && (match (d.bport p).peer with | some x => x.1 == v | none => false))

/-- The port of a connection that takes the next message: the ports take turns, and time runs over the lower one (R366).
DESIGN CHOICE (log entry 103). -/
def Dev.portFor (d : Dev) (v type : Nat) : Option Nat :=
  let ps := d.portsTo v
  if type = 0x02 ∨ type = 0x03 then ps.head? else ps[((ps.map (fun p => (d.bport p).seq)).sum) % ps.length]?

/-- A message of device `src` goes toward device v; without a path none goes (R367). -/
def Dev.sendFrom (d : Dev) (src v type : Nat) (content : List Int) : Dev :=
  match d.portFor (d.nextHop v) type with
  | some p => d.sendFlit p type src v content
  | none => d

/-- A Byoft message to device v. -/
def Dev.sendTo (d : Dev) (v type : Nat) (content : List Int) : Dev := d.sendFrom d.devId v type content

/-- A message of device `src` for device `dst` has come: it is taken here, or forwarded, which a device not admitted does
with TOPO alone (R367, R377). -/
def Dev.routed (d : Dev) (src dst type : Nat) (content : List Int) (take : Dev → Dev) : Dev :=
  if dst = d.devId then take d
  else if d.byf.inside || type == 0x01 then d.sendFrom src dst type content else d

/-- The members an own event is forwarded to (R384): all, for a HOLD- or SAFE-class fault and a mode
change; the time master, for the rest with FWD_ALL = 1. -/
def Dev.forwardTo (d : Dev) (e : Event) : List Nat :=
  let master := d.fld BYF_STATUS 20 3
  if (e.flags.testBit 0 ∧ e.flags.testBit 2) ∨ (e.src = 1 ∧ e.code = 0x20) then d.members
  else if d.bit BYF_CFG 29 ∧ d.members.contains master then [master] else []

/-- An event of this device: it waits for the merge and goes to the members that take it. -/
def Dev.ownEvent (d : Dev) (e : Event) : Dev :=
  (d.forwardTo e).foldl (fun d v => d.sendTo v 0x30
    ([(e.t : Int), (e.src : Int), (e.code : Int), (e.flags : Int)] ++ e.payload.map (fun b => (b.toNat : Int))))
    (d.queueEvent e)

/-- A source reports an event now. -/
def Dev.emit (d : Dev) (src code : Nat) (payload : List Byte) : Dev :=
  d.ownEvent ⟨d.tb3, d.devId, src, code, 0, pay payload⟩

/-! ## Interrupts (R100, R101) -/

/-- One MSI-X message on a vector, or its pending bit while the vector is masked. -/
def Dev.msix (d : Dev) (v : Nat) : Dev :=
  if d.hif.msixMask.getLsbD v then
    { d with hif := { d.hif with msixPend := d.hif.msixPend ||| (1 <<< v) } }
  else d.send (.msix v)

/-- A device-wide source signals: the vector in bits [lo + 7 : lo] of HIF_MSIX_MAP. Occurrences that meet at one
instant on one vector send one message (R101). DEDUCED (log entry 83). -/
def Dev.signal (d : Dev) (lo : Nat) : Dev :=
  let v := d.fld HIF_MSIX_MAP lo 8
  if d.hif.sigAt.contains (v, d.tb3) then d
  else ({ d with hif := { d.hif with sigAt := (v, d.tb3) :: d.hif.sigAt.filter (fun x => x.1 != v) } }).msix v

/-- CALIBRATE or BUILD: the modes in which lasers may emit. -/
def Dev.exposing (d : Dev) : Bool := d.mode.cur == .calibrate || d.mode.cur == .build

/-- The engines compute: where lasers may emit, and in a replay (R168). -/
def Dev.computing (d : Dev) : Bool := d.exposing || d.replay.isSome

/-- The lock keeper assigns and commits, and the ledger is read and written: in BUILD, and in a replay (R231, R261). -/
def Dev.building (d : Dev) : Bool := d.mode.cur == .build || d.replay.isSome

/-- The outputs stand in the safe state: in SAFE, in WIND-DOWN after a SAFE-class fault, and from a software reset's
key to the reset (R53, R59, R475). -/
def Dev.safeState (d : Dev) : Bool := d.mode.cur == .safe || d.mode.wdSafe || d.mode.softPending

/-- A cause stands live. -/
def Dev.standing (d : Dev) (src cause : Nat) : Bool :=
  d.flt.live.any (fun l => l.src == src && l.cause == cause && !l.ended)

/-- The host can be written to: the link is up, and HOST_LOST does not stand (R82). -/
def Dev.hostUp (d : Dev) : Bool := d.hif.linkUp && !d.standing 28 1

/-! ## Rings (R73, R74, R81) -/

def Dev.ring (d : Dev) (n : Nat) : Ring := d.rings.getD n default

def Dev.modRing (d : Dev) (n : Nat) (f : Ring → Ring) : Dev := { d with rings := modAt d.rings n f }

/-- 0 unused, 1 BUILD, 2 CONTROL, 3 STREAM. -/
def Dev.ringType (d : Dev) (n : Nat) : Nat := d.fld (HIF_RING_CTRL n) 0 2

def Dev.ringOn (d : Dev) (n : Nat) : Bool := d.bit (HIF_RING_CTRL n) 31

/-- Submission queue size: SQ_LOG2 = 0 means 2^16. -/
def Dev.sqSize (d : Dev) (n : Nat) : Nat :=
  let k := d.fld (HIF_RING_SIZE n) 0 4
  if k = 0 then 65536 else 2 ^ k

def Dev.cqSize (d : Dev) (n : Nat) : Nat := 2 ^ d.fld (HIF_RING_SIZE n) 8 5

/-- (a − b) modulo twice the size. -/
def posDiff (a b size : Nat) : Nat := (a + 2 * size - b % (2 * size)) % (2 * size)

/-- The ring has stopped at a barrier (R87). -/
def Dev.barrierStop (d : Dev) (n : Nat) : Bool := d.bit (HIF_BARRIER_STOP (n / 32)) (n % 32)

/-- The bytes the ring's spill area holds (R99): entries of 32 bytes and stream records. -/
def Ring.spillBytes (r : Ring) : Nat :=
  Nat.min 1048576 (32 * r.spill.length + (r.held.map (fun x => x.bytes.length)).sum)

def Ring.spillFull (r : Ring) : Bool := decide (1048576 ≤ r.spillBytes)

/-- The 32 bytes of a completion entry (R89). -/
def Cqe.bytes (c : Cqe) (sqHead : Nat) (phase : Bool) : List Byte :=
  leBytes 4 c.tag ++ leBytes 2 c.idx ++ leBytes 2 sqHead ++ leBytes 1 c.status ++ leBytes 1 c.kind
    ++ leBytes 2 (bitOf phase + 2 * bitOf c.spilled + 4 * bitOf c.last) ++ leBytes 4 c.info
    ++ (c.body ++ List.replicate 16 0).take 16

/-- A ring's vector is signalled and its unsignalled count restarts. -/
def Dev.ringSignal (d : Dev) (n : Nat) : Dev :=
  (d.modRing n (fun r => { r with unsig := 0 })).msix (d.fld (HIF_RING_OPT n) 8 8)

/-- An entry is written to the completion queue: PHASE 1 on the first pass after ring reset, and
inverted on each later one (R91); then the interrupt rules of R100. -/
def Dev.writeCqe (d : Dev) (n : Nat) (c : Cqe) : Dev :=
  let r := d.ring n
  let s := d.cqSize n
  let d := d.send (.cqe n (r.cqTail % s) (c.bytes (r.sqHead % d.sqSize n) (r.cqTail < s)))
  let d := d.modRing n (fun r => { r with cqTail := (r.cqTail + 1) % (2 * s), unsig := r.unsig + 1 })
  let cnt := d.fld (HIF_RING_OPT n) 16 8
  let time := d.fld (HIF_RING_OPT n) 24 8
  if (cnt ≠ 0 ∧ cnt ≤ r.unsig + 1) ∨ c.irq ∨ 1 < c.status ∨ (cnt = 0 ∧ time = 0) then d.ringSignal n else d

/-- There is a free slot in the ring's completion queue. -/
def Dev.cqRoom (d : Dev) (n : Nat) : Bool :=
  let r := d.ring n
  decide (posDiff r.cqTail r.cqHead (d.cqSize n) < d.cqSize n)

/-- A completion entry goes to the queue, or, where the queue is full, entries have spilled already or the host is
lost, behind those spilled (R24, R82, R99). -/
def Dev.putCqe (d : Dev) (n : Nat) (c : Cqe) : Dev :=
  if (d.ring n).spill.isEmpty && d.cqRoom n && d.hostUp then d.writeCqe n c
  else d.modRing n (fun r => { r with spill := r.spill ++ [{ c with spilled := true }] })

/-- The spill area drains in order as the host frees entries (R99). -/
def Dev.drainSpill (n : Nat) : Nat → Dev → Dev
  | 0, d => d
  | k + 1, d =>
    match (d.ring n).spill with
    | [] => d
    | c :: cs =>
      if d.cqRoom n && d.hostUp then
        Dev.drainSpill n k ((d.modRing n (fun r => { r with spill := cs })).writeCqe n c)
      else d

/-! ## Completion of commands (R87, R89, R90) -/

/-- Status codes of R92. -/
def stOk : Nat := 0x00
def stPartial : Nat := 0x01
def stSkipped : Nat := 0x02
def stMalformed : Nat := 0x03
def stReject : Nat := 0x04
def stAbsent : Nat := 0x05
def stFenced : Nat := 0x06
def stCrc : Nat := 0x07
def stTimeout : Nat := 0x08
def stLimit : Nat := 0x09
def stDenied : Nat := 0x0A
def stAborted : Nat := 0x0B

/-- Four result words. -/
def words4 (a b c e : Nat) : List Byte := leBytes 4 a ++ leBytes 4 b ++ leBytes 4 c ++ leBytes 4 e

/-- The descriptor leaves the ring's work in flight; a barrier that did not complete OK stops the ring
(R87). -/
def Dev.retire (d : Dev) (q : Req) (status : Nat) : Dev :=
  let wasBarrier := (d.ring q.ring).barrier == some q
  let d := d.modRing q.ring (fun r => { r with
    inflight := r.inflight.erase q
    barrier := if wasBarrier then none else r.barrier })
  if wasBarrier && status != stOk then
    (d.setBit (HIF_BARRIER_STOP (q.ring / 32)) (q.ring % 32) true).signal 16
  else d

/-- The IRQ flag of a descriptor (R83). -/
def reqIrq (q : Req) : Bool := q.flags.testBit 2

/-- A command completes with its KIND 0 entry; a STATE_REJECT is recorded as the event REJECT
(R49, R493). -/
def Dev.complete (d : Dev) (q : Req) (status xstatus : Nat) (body : List Byte) : Dev :=
  let d := if status = stReject then
      d.emit 1 0x23 (leBytes 2 q.op ++ leBytes 1 q.ring ++ [0] ++ leBytes 4 q.tag) else d
  (d.retire q status).putCqe q.ring ⟨q.tag, q.idx, status, 0, reqIrq q, false, true, xstatus, body⟩

/-- A command completes OK with its result words. -/
def Dev.ok (d : Dev) (q : Req) (a b c e : Nat) : Dev := d.complete q stOk 0 (words4 a b c e)

/-- A command completes with a failure status. -/
def Dev.fail (d : Dev) (q : Req) (status xstatus : Nat) : Dev := d.complete q status xstatus []

/-- A query's result buffer is written, then its entry (R91). -/
def Dev.okData (d : Dev) (q : Req) (bytes : List Byte) (a b c e : Nat) : Dev :=
  (if bytes.isEmpty then d else d.send (.hostWrite q.resultAddr bytes)).ok q a b c e

/-! ## Stream rings (R96 to R99, R102) -/

/-- A stream buffer completes (KIND 2): OK, or ABORTED where it held no record. -/
def Dev.closeBuf (d : Dev) (n : Nat) (status : Nat) : Dev :=
  match (d.ring n).bufs with
  | [] => d
  | b :: bs =>
    let drops := (d.ring n).dropSince
    let d := d.modRing n (fun r => { r with bufs := bs, dropSince := 0 })
    let d := d.modRing n (fun r => { r with inflight := r.inflight.eraseP (fun x => x.idx == b.idx && x.tag == b.tag) })
    d.putCqe n ⟨b.tag, b.idx, status, 2, b.irq, false, true, Nat.min drops 0xFFFFFFFF,
      leBytes 4 b.used ++ leBytes 4 b.recs ++ leBytes 8 b.firstSeq⟩

/-- A record is counted as dropped on its ring (R99). -/
def Dev.dropRec (d : Dev) (n : Nat) : Dev :=
  (d.count (HIF_RING_DROP n) 1).modRing n (fun r => { r with dropSince := r.dropSince + 1 })

/-- Held records move into the posted buffers, whole and in order (R97). A record larger than the posted buffer is
dropped, and takes a sequence number; one dropped with the spill area full takes none (the model's choice).
DESIGN CHOICE (log entry 81). -/
def Dev.fillBufs (n : Nat) : Nat → Dev → Dev
  | 0, d => d
  | k + 1, d =>
    let r := d.ring n
    match r.held, r.bufs with
    | x :: xs, b :: bs =>
      if b.used + x.bytes.length ≤ b.len then
        let b' : Buf := { b with
          used := b.used + x.bytes.length
          recs := b.recs + 1
          firstSeq := if b.recs = 0 then r.seq else b.firstSeq }
        let d := d.send (.hostWrite (b.addr + b.used) x.bytes)
        let d := d.modRing n (fun r => { r with held := xs, bufs := b' :: bs, seq := r.seq + 1 })
        Dev.fillBufs n k (if x.ends then d.closeBuf n stOk else d)
      else if b.recs ≠ 0 then Dev.fillBufs n k (d.closeBuf n stOk)
      else Dev.fillBufs n k ((d.modRing n (fun r => { r with held := xs, seq := r.seq + 1 })).dropRec n)
    | _, _ => d

/-- Enough steps to move every held record of a ring; none moves while the host is lost. -/
def Dev.fillRing (d : Dev) (n : Nat) : Dev :=
  if d.hostUp then Dev.fillBufs n (2 * (d.ring n).held.length + (d.ring n).bufs.length + 1) d else d

end Sys2Proof.Machine
end

