-- ==== Sys2Proof/Machine/Outcomes.lean ====
section
/-! DEFINITION. Open layers, engines and locks by number, and the outcomes of vectors (R93 to R95). -/

namespace Sys2Proof.Machine

/-! ## Open layers -/

def Dev.modLay (d : Dev) (f : Layers → Layers) : Dev := { d with lay := f d.lay }

/-- The open layer of a number. -/
def Dev.layer? (d : Dev) (num : Nat) : Option Layer := d.lay.opened.find? (fun l => l.num == num)

def Dev.modLayer (d : Dev) (num : Nat) (f : Layer → Layer) : Dev :=
  d.modLay (fun y => { y with opened := y.opened.map (fun l => if l.num = num then f l else l) })

/-- The layer in exposure (from its LAYER_START until it closes). -/
def Dev.exposed (d : Dev) : Option Layer := d.lay.opened.find? (fun l => l.startReq.isSome)

/-- The layer whose layer-start tick has come. -/
def Dev.running (d : Dev) : Option Layer := d.lay.opened.find? (fun l => l.started)

/-- The layer-start tick of the layer started last, for times that count from it. -/
def Dev.layerTick (d : Dev) : Nat := match d.running with | some l => l.startTick.getD 0 | none => 0

/-- The present tick. -/
def Dev.tick (d : Dev) : Nat := d.tb3 / perTick

/-! ## Engines and locks -/

def Dev.eng (d : Dev) (n : Nat) : Engine := d.engines.getD n default

def Dev.modEng (d : Dev) (n : Nat) (f : Engine → Engine) : Dev := { d with engines := modAt d.engines n f }

/-- The correction law of engine n. -/
def Dev.law (d : Dev) (n : Nat) : Law := (d.eng n).law

def Dev.modLaw (d : Dev) (n : Nat) (f : Law → Law) : Dev := d.modEng n (fun e => { e with law := f e.law })

def Dev.modKeeper (d : Dev) (f : Keeper → Keeper) : Dev := { d with keeper := f d.keeper }

def Dev.modLock (d : Dev) (i : Nat) (f : LockQ → LockQ) : Dev :=
  d.modKeeper (fun k => { k with locks := modAt k.locks i f })

def Dev.lockQ (d : Dev) (i : Nat) : LockQ := d.keeper.locks.getD i default

/-- The vector ID of a unit's first record. -/
def WUnit.vec (u : WUnit) : Nat := (u.recs.headD default).vecId

/-- EMIT_EN of a beam goes to a level; the time it last rose is kept (R335, R337). -/
def Dev.setEmit (d : Dev) (b : Nat) (on : Bool) : Dev :=
  match d.scn.lasers[b]? with
  | none => d
  | some l =>
    if l.emit = on then d
    else
      let l : Laser := { l with emit := on, rose := if on then d.tb3 else l.rose }
      let d := { d with scn := { d.scn with lasers := d.scn.lasers.set b l } }
      d.send (.emitEn b on)

/-! ## Grids and camera ports -/

def Dev.beamGrids (d : Dev) (b : Nat) : BeamGrids := d.grids.getD b default

/-- The commit of every grid still pending is outstanding: no layer starts before it (R183). -/
def Dev.gridsDue (d : Dev) : Dev :=
  { d with grids := d.grids.map (fun (g : BeamGrids) => if g.pending.isSome then { g with due := true } else g) }

def Dev.cam (d : Dev) (p : Nat) : Cam := d.vis.cams.getD p default

def Dev.modCam (d : Dev) (p : Nat) (f : Cam → Cam) : Dev :=
  { d with vis := { d.vis with cams := modAt d.vis.cams p f } }

/-- The vision engine of a port, and with it its I2C controller (R289). -/
def camEngine (p : Nat) : Nat := if p < 16 then p / 4 else p - 16

/-- Every port of vision engine k changed. -/
def Dev.modCams (d : Dev) (k : Nat) (f : Cam → Cam) : Dev :=
  (List.range 20).foldl (fun d p => if camEngine p = k then d.modCam p f else d) d

/-! ## Outcomes and barge completion (R93 to R95) -/

/-- Every record has its outcomes. -/
def VRec.full (v : VRec) : Bool := decide ((if v.split then 2 else 1) ≤ v.outs.length)

/-- The record is complete in every part. -/
def VRec.good (v : VRec) : Bool := v.full && v.outs.all (fun o => o.status == stOk)

/-- The vector records of one record: none when it is complete, unless VEC_ALL asks for them; both
halves of a split one (R93, R95). -/
def VRec.sent (v : VRec) (all : Bool) : List (Rec × VOut) :=
  if v.good && !all then [] else
    let o0 := v.outs.filter (fun o => o.half == 0)
    let o1 := v.outs.filter (fun o => o.half == 1)
    (o0 ++ o1).map (fun o => (v.r, o))

/-- A vector record (KIND 1). The beam and the stop time of a vector that no beam exposed are free
values (log entry 24). -/
def Dev.sendVec (d : Dev) (q : Req) (layer : Nat) (r : Rec) (o : VOut) : Dev :=
  let (beam, t, d) := match o.beam with
    | some b => (b, o.t, d)
    | none => let (x, d) := d.free; let (y, d) := d.free; (x % 128, y, d)
  d.putCqe q.ring ⟨q.tag, q.idx, o.status, 1, reqIrq q, false, false,
    layer + beam * 2 ^ 24 + o.half * 2 ^ 31, leBytes 4 r.vecId ++ leBytes 4 o.arc ++ leBytes 8 t⟩

/-- The status of a summary, by R94. -/
def summaryStatus (sts : List Nat) : Nat :=
  if sts.contains stPartial then stPartial
  else if sts.contains stAborted then stAborted
  else if sts.contains stSkipped then stSkipped else stOk

/-- The statuses of a barge's vectors. -/
def outStatuses (vs : List VRec) : List Nat := vs.flatMap (fun v => v.outs.map (fun o => o.status))

/-- The vector records and the summary of a barge or a CAL_MARK are written (R93, R94).
DESIGN CHOICE (log entry 24). -/
def Dev.finishRecs (d : Dev) (q : Req) (layer id : Nat) (vs : List VRec) : Dev :=
  let all := d.bit (HIF_RING_OPT q.ring) 1
  let sent := vs.flatMap (fun v => v.sent all)
  let d := sent.foldl (fun d x => d.sendVec q layer x.1 x.2) d
  let own := (vs.filter (fun v => v.good && !all)).length
  let st := summaryStatus (outStatuses vs)
  (d.retire q st).putCqe q.ring ⟨q.tag, q.idx, st, 3, reqIrq q, false, true, 0,
    leBytes 4 id ++ leBytes 4 own ++ leBytes 8 (layer + sent.length * 2 ^ 32)⟩

/-- A barge all of whose vectors have an outcome completes; in a replay nothing is told. -/
def Dev.checkBarge (d : Dev) (num id : Nat) : Dev :=
  if d.replay.isSome then d else
  match d.layer? num with
  | none => d
  | some l =>
    match l.barges.find? (fun b => b.id == id) with
    | none => d
    | some b =>
      if b.done.isNone && b.recs.all VRec.full then
        let d := d.finishRecs b.req num b.id b.recs
        d.modLayer num (fun l => { l with barges := l.barges.map (fun x =>
          if x.id = id then { x with done := some (summaryStatus (outStatuses b.recs)) } else x) })
      else d

/-- A CAL_EDGE completes as its mark did, with the crossing found (R191). Without one RESULT1 and RESULT2 are 0.
DESIGN CHOICE (log entry 91). -/
def Dev.finishEdge (d : Dev) (q : Req) (found : Option (Int × Int × Int)) (o : VOut) : Dev :=
  if o.status ≠ stOk then d.fail q o.status 0
  else match found with
    | some (a, x, y) => d.ok q a.toNat (unsigned 32 x) (unsigned 32 y) 1
    | none => d.ok q 0xFFFFFFFF 0 0 0

/-- A CAL_MARK or CAL_EDGE all of whose vectors have an outcome completes (R188, R191). -/
def Dev.checkCal (d : Dev) (key : Nat × Nat) : Dev :=
  match d.cals.find? (fun c => (c.req.ring, c.req.idx) == key) with
  | none => d
  | some c =>
    if c.recs.all VRec.full then
      let d := { d with cals := d.cals.filter (fun x => (x.req.ring, x.req.idx) != key) }
      match c.edge with
      | some _ => d.finishEdge c.req c.found (((c.recs.headD default).outs.headD ⟨stAborted, none, false, 0, 0, 0, false⟩))
      | none => d.finishRecs c.req 0 c.id c.recs
    else d

/-- An outcome of record i joins a list of records. -/
def giveTo (i : Nat) (o : VOut) (vs : List VRec) : List VRec :=
  modAt vs i (fun v => { v with outs := v.outs ++ [o] })

/-- The outcome of record i of a unit joins its barge. -/
def Dev.giveOutcome (d : Dev) (u : WUnit) (i : Nat) (o : VOut) : Dev :=
  let k := u.idxs.getD i 0
  match u.cal with
  | some key =>
    ({ d with cals := d.cals.map (fun (c : CalJob) =>
      if (c.req.ring, c.req.idx) = key then { c with recs := giveTo k o c.recs } else c) }).checkCal key
  | none =>
    let d := d.modLayer u.layer (fun l => { l with barges := l.barges.map (fun b =>
      if b.id = u.barge then { b with recs := giveTo k o b.recs } else b) })
    d.checkBarge u.layer u.barge

/-- The beam that would have exposed a unit's records, where only one could. -/
def Dev.onlyBeam (d : Dev) (u : WUnit) : Option Nat :=
  match bitList 16 (u.recs.headD default).elig with
  | [b] => some (d.gbeam b)
  | _ => none

/-- Every record of a unit from record i on has an outcome no beam exposed: skipped or not started. -/
def Dev.noExposure (d : Dev) (u : WUnit) (from_ status : Nat) : Dev :=
  (List.range u.recs.length).foldl (fun d i =>
    if i < from_ then d else
      d.giveOutcome u i ⟨status, none, u.half.isSome && i == (if u.half = some 0 then u.recs.length - 1 else 0),
        u.half.getD 0, 0, 0, false⟩) d

/-! ## Replay (R228 to R230) -/

/-- The event code of a recorded decision, the vector ID it names, its word at 4 and the beams or lock it names. -/
def decisionCode (e : List Byte) : Nat := bytesAt e 14 1
def decisionVec (e : List Byte) : Nat := bytesAt e 16 4
def decisionWord (e : List Byte) : Nat := bytesAt e 20 4
def decisionBeam (e : List Byte) : Nat := bytesAt e 24 1
def decisionSecond (e : List Byte) : Nat := bytesAt e 25 1

def Dev.modReplay (d : Dev) (f : Replay → Replay) : Dev := { d with replay := d.replay.map f }

/-- An engine takes up what the replay set aside. -/
def Engine.back (now old : Engine) : Engine :=
  { now with
    queue := old.queue, runs := [], tickQ := [], barrier := old.barrier, done := old.done, held := old.held
    qpos := old.qpos, gather := none, writes := old.writes, store := old.store, notices := old.notices
    retries := old.retries, stuck := none, stopping := old.stopping, law := old.law }

/-- A replay ends: what it set aside is in place again, and its command completes. -/
def Dev.endReplay (d : Dev) (status xstatus : Nat) (body : List Byte) : Dev :=
  match d.replay with
  | none => d
  | some r =>
    ({ d with
      replay := none, lay := { d.lay with opened := r.opened, active := r.active }
      keeper := { r.keeper with peerQ := d.keeper.peerQ }
      engines := List.zipWith Engine.back d.engines r.engines }).complete r.req status xstatus body

/-- A replay is stopped (R51): it ends ABORTED. DESIGN CHOICE (log entry 25). -/
def Dev.stopReplay (d : Dev) : Dev := d.endReplay stAborted 0 []

end Sys2Proof.Machine
end

