-- ==== Sys2Proof/Machine/EngineWords.lean ====
section
/-! DEFINITION. The words of an engine's block that show its state, and the snapshot of the block that a fence takes
(R22, R26, R168, R198, R481). -/

namespace Sys2Proof.Machine

/-- BEn_STATUS.STATE: a fenced engine 5, one that takes over 6 (R140, R168). DEDUCED (log entry 20). -/
def Dev.beState (d : Dev) (n : Nat) : Nat :=
  let e := d.eng n
  if d.fencedUnit n then 5
  else if e.taking then 6
  else if !d.mode.fwBe ∨ d.mode.cur = .windDown then 0
  else if d.replay.isSome then 4
  else if d.mode.cur = .hold ∨ d.mode.cur = .safe then 3
  else if d.exposing ∧ !e.runs.isEmpty then 2 else 1

/-- BEn_STATUS. After reset BEAM reads the beam a mapped engine serves, where the register's reset column gives 0.
DESIGN CHOICE (log entry 87). -/
def Dev.beStatus (d : Dev) (n : Nat) : Nat :=
  d.beState n * 2 ^ 28 + d.fld (BE_MAP n) 0 5 * 65536
    + Nat.min 2048 ((d.eng n).tickQ.filter (fun x => decide (d.tick < x.tick))).length

/-- BEn_BUF: 32 bytes for each record of the units an engine has taken (R22). -/
def Dev.beBuf (d : Dev) (n : Nat) : Nat :=
  let e := d.eng n
  Nat.min 524288 (32 * ((e.queue.map (fun u => u.recs.length)).sum + (e.runs.map (fun r => r.unit.recs.length)).sum))

/-- The grids of the beam engine n serves. -/
def Dev.engGrids (d : Dev) (n : Nat) : BeamGrids :=
  match d.beamOf n with
  | some b => d.beamGrids b
  | none => default

/-- BEn_MP_STATUS. -/
def Dev.mpStatus (d : Dev) (n : Nat) : Nat :=
  let l := (d.eng n).law
  let fb := if d.exposing || d.mode.cur == .hold then unsigned 16 l.fb else 0
  bitOf (l.pdEn && !l.pdDropped) * 2 ^ 31 + bitOf (l.camEn && !l.camDropped) * 2 ^ 30 + bitOf l.frozen * 2 ^ 29
    + bitOf l.pdHeld * 2 ^ 28 + bitOf l.camHeld * 2 ^ 27 + fb

/-- BEn_FB_INT. -/
def Dev.fbInt (d : Dev) (n : Nat) : Nat :=
  let l := (d.eng n).law
  unsigned 16 (l.icam / 256) * 65536 + unsigned 16 (l.ipd / 256)

/-- Words of engine n's block that show its state. -/
def Dev.engWord (d : Dev) (n page : Nat) : Option Nat :=
  if page = 0 then some (d.beStatus n)
  else if page = 4 then some (d.beBuf n)
  else if page = 0x60 then some (((d.engGrids n).active.map (fun g => g.id)).getD 0)
  else if page = 0x64 then some (((d.engGrids n).pending.map (fun g => g.id)).getD 0)
  else if page = 0x68 then
    some (if (d.beamOf n).isNone then 0 else
      (d.rd (BE_GRID_STATUS n)).toNat + 2 * bitOf (d.engGrids n).pending.isSome + bitOf (d.engGrids n).active.isSome)
  else if page = 0x80 then some (d.mpStatus n)
  else if page = 0x88 then some (d.fbInt n)
  else none

/-- The words of engine n's block in the present cycle: the bank's, and those that show its state; STATE reads 5. -/
def Dev.blockWords (d : Dev) (n : Nat) : List (Nat × Word) :=
  let base := (8 + n) * 0x10000
  [0, 4, 0x60, 0x64, 0x68, 0x80, 0x88].foldl
    (fun l k => bankSet l (base + k)
      (let w : Word := BitVec.ofNat 32 ((d.engWord n k).getD 0); if k = 0 then w.put 28 4 5 else w))
    (d.regs.filter (fun p => p.1 / 0x10000 == 8 + n))

/-- A word of the block of a fenced engine, a lost-clear counter included: as it stood in the cycle of fencing (R26). -/
def Dev.snapWord (d : Dev) (n off : Nat) : Word :=
  match d.flt.snaps.find? (fun s => s.unit == n) with
  | none => 0
  | some s => (bankGet s.words off).getD (resetOf d.variant off)

/-- The offset lies in the block of a fenced engine. -/
def Dev.fencedBlock (d : Dev) (off : Nat) : Bool :=
  decide (0x80000 ≤ off) && decide (off < 0x1A0000) && d.fencedUnit (off / 0x10000 - 8)

end Sys2Proof.Machine
end

