-- ==== Sys2Proof/Machine/LampCore.lean ====
section
/-! DEFINITION. The lamp channels: pulse spreading, bloom engines, and the safe state of the lamps (R442, R444,
R448). -/

namespace Sys2Proof.Machine

def Dev.lampC (d : Dev) (c : Nat) : Lamp := d.ill.lamps.getD c default

def Dev.modLamp (d : Dev) (c : Nat) (f : Lamp → Lamp) : Dev :=
  { d with ill := { d.ill with lamps := modAt d.ill.lamps c f } }

/-- A channel of this variant. -/
def Dev.lampOn (d : Dev) (c : Nat) : Bool := decide (c < nLeds d.variant)

/-- The MOT cycle of 5 ns a time lies in (R450). -/
def Dev.motCycle (d : Dev) : Nat := d.tb3 / 80

/-- The safe pattern runs (R448). -/
def Dev.lampSafe (d : Dev) : Bool := d.safeState || d.mode.cur == .windDown

/-! ## Pulse spreading (R442) -/

/-- The eight bits of k in reverse order. -/
def bitrev8 (k : Nat) : Nat := ((List.range 8).map (fun i => bitsAt k i 1 * 2 ^ (7 - i))).sum

/-- The on-time of slice k. -/
def onCycles (d slice k : Nat) : Nat :=
  let n := d * slice / 256
  n / 256 + bitOf (decide (bitrev8 k < n % 256))

/-- The on-times of a period. -/
def lampSlices (d slice : Nat) : List Nat := (List.range 256).map (onCycles d slice)

/-- The target with derating: t × f, truncated (R445). -/
def Lamp.derate (l : Lamp) (t : Nat) : Nat := t * l.fNum / Nat.max 1 l.fDen

/-- The effective target of the dimmed level, or of a strobe window. -/
def Dev.lampTarget (d : Dev) (c : Nat) (strobe : Bool) : Nat :=
  (d.lampC c).derate (if strobe then d.fld (ILL_CH_TARGET c) 16 10 else d.fld (ILL_CH_TARGET c) 0 10)

/-! ## Bloom engines (R444) -/

/-- The D of member `i` of `n` at `t` ms of a period. DEDUCED (log entry 65). -/
def bloomD (mode lo hi per t n i : Nat) : Nat :=
  match mode with
  | 1 => hi
  | 2 => if 2 * t < per then hi else lo
  | 3 =>
    let s := 65535 * Nat.min (2 * t) (2 * (per - t)) / per
    (((lo : Int) + Int.fdiv (((hi : Int) - lo) * (s * s / 65536 : Nat)) 65536) % 65536).toNat
  | 4 => if i = t * n / per then hi else lo
  | _ => lo

/-- What an engine sets now: nothing in mode 0; in a period of 0 ms, which no rule describes, free values.
DESIGN CHOICE (log entry 66). -/
def Dev.bloomSet (d : Dev) (k : Nat) : Dev :=
  let mode := d.fld (ILL_BLOOM_MODE k) 0 3
  let per := d.fld (ILL_BLOOM_PERIOD k) 0 16
  let ms := bitList 12 (d.fld (ILL_BLOOM_MODE k) 16 12)
  let t := (d.tb3 - (d.ill.blooms.getD k default).start) / perMs % Nat.max 1 per
  let put (d : Dev) (v : List (Nat × Nat)) : Dev :=
    { d with ill := { d.ill with blooms := modAt d.ill.blooms k (fun (b : Bloom) => { b with vals := v }) } }
  if mode = 0 ∨ 4 < mode then put d []
  else if per = 0 ∧ mode ≠ 1 then
    let (vs, d) := ms.foldl (fun (acc : List (Nat × Nat) × Dev) c =>
      let (x, d) := acc.2.free; (acc.1 ++ [(c, x % 65536)], d)) ([], d)
    put d vs
  else put d (ms.mapIdx (fun i c => (c, bloomD mode (d.fld (ILL_BLOOM_LEVEL k) 0 16)
    (d.fld (ILL_BLOOM_LEVEL k) 16 16) per t ms.length i)))

/-- A programme is set on an engine: t restarts at 0. DEDUCED (log entry 65). -/
def Dev.bloomStart (d : Dev) (k mode mask lo hi per : Nat) : Dev :=
  let d := (d.wrN (ILL_BLOOM_MODE k) (mode + mask * 2 ^ 16)).wrN (ILL_BLOOM_LEVEL k) (lo + hi * 2 ^ 16)
  let d := d.wrN (ILL_BLOOM_PERIOD k) per
  let d := { d with ill := { d.ill with blooms := modAt d.ill.blooms k (fun (b : Bloom) => { b with start := d.tb3 }) } }
  d.bloomSet k

/-- The duty in force goes to a value. -/
def Dev.lampForce (d : Dev) (c v : Nat) : Dev :=
  (d.wrN (ILL_CH_LEVEL c) v).setBit ILL_STATUS c (decide (0 < v))

/-! ## Safe state and CONFIGURE (R448) -/

/-- Every gate goes low; strobe windows end. -/
def Dev.lampsOff (d : Dev) : Dev :=
  (List.range 12).foldl (fun d c =>
    if d.lampOn c then
      (((d.modLamp c (fun (l : Lamp) => { l with dark := true, win := none })).wrN (ILL_CH_LEVEL c) 0).setBit
        ILL_STATUS c false).send (.lampOff c)
    else d) d

/-- Engine 0 takes the safe programme, and engine 1 stops. DESIGN CHOICE (log entry 67). -/
def Dev.lampsPattern (d : Dev) : Dev :=
  let d := d.bloomStart 0 (d.fld ILL_SAFE_BLOOM 0 3) (d.fld ILL_SAFE_BLOOM 4 12) 0 0xFFFF (d.fld ILL_SAFE_BLOOM 16 16)
  (d.setFld (ILL_BLOOM_MODE 1) 0 3 0).bloomSet 1

/-- Entry to the safe state: every gate low, then the safe pattern; in it the pattern goes on.
DESIGN CHOICE (log entry 67). -/
def Dev.lampsSafe (d : Dev) : Dev := if d.safeState then d else d.lampsOff.lampsPattern

end Sys2Proof.Machine
end

