-- ==== Sys2Proof/Machine/MotionCore.lean ====
section
/-! DEFINITION. Trapezoids, and how an axis stops (R424, R430, R436). -/

namespace Sys2Proof.Machine

def Dev.axis (d : Dev) (a : Nat) : Axis := d.mot.axes.getD a default

def Dev.modAxis (d : Dev) (a : Nat) (f : Axis → Axis) : Dev :=
  { d with mot := { d.mot with axes := modAt d.mot.axes a f } }

/-- One second in TB3 units times 2^20. -/
def motSec : Nat := 16000000000 * 2 ^ 20

/-- Speed scale. -/
def motV : Nat := 2 ^ 40

/-- The time of a speed change at a µm/s². -/
def speedTime (x y a : Nat) : Nat := (x - y + (y - x)) * motSec / (Nat.max 1 a * motV)

/-- The distance of a speed change at a µm/s², in µm times 2^40. -/
def speedDist (x y a : Nat) : Nat := (x * x - y * y + (y * y - x * x)) / (2 * Nat.max 1 a * motV)

/-- The phases from speed v0 over distance r to speed v1, with cruise speed v and acceleration a in µm/s²; and
the speed reached at the end (R424, R426, R427). DEDUCED (log entry 62). -/
def trapezoid (r v0 v v1 a : Nat) : List Phase × Nat :=
  if r = 0 then ([], v0)
  else if v1 ≤ v0 ∧ r ≤ speedDist v0 v1 a then ([⟨2 * r * motSec / Nat.max 1 (v0 + v1), v0, v1⟩], v1)
  else
    let vm := isqrt (v0 * v0 + 2 * a * r * motV)
    if vm < v1 then ([⟨2 * r * motSec / Nat.max 1 (v0 + vm), v0, vm⟩], vm)
    else
      let vp := if v < v0 then v else Nat.min v (isqrt (a * r * motV + (v0 * v0 + v1 * v1) / 2))
      let cruise := r - speedDist v0 vp a - speedDist vp v1 a
      ([⟨speedTime v0 vp a, v0, vp⟩, ⟨cruise * motSec / Nat.max 1 vp, vp, vp⟩, ⟨speedTime vp v1 a, vp, v1⟩], v1)

/-- Distance and speed at time t of a list of phases. -/
def phasesAt : List Phase → Nat → Nat × Nat
  | [], _ => (0, 0)
  | p :: ps, t =>
    let x := Nat.min t p.dur
    let down := (p.v - p.w) * x * x / (2 * Nat.max 1 p.dur * motSec)
    let up := (p.w - p.v) * x * x / (2 * Nat.max 1 p.dur * motSec)
    let s := p.v * x / motSec + up - down
    if t ≤ p.dur then (s, p.v + (p.w - p.v) * x / Nat.max 1 p.dur - (p.v - p.w) * x / Nat.max 1 p.dur)
    else
      let r := phasesAt ps (t - p.dur)
      (s + r.1, if ps.isEmpty then p.w else r.2)

/-- The time at which the phases end, in TB3. -/
def Move.ends (m : Move) : Nat := m.t0 + ceilDiv (m.phases.map (fun p => p.dur)).sum (2 ^ 20)

/-- Position (µm times 2^40) and speed at a TB3 instant. DEDUCED (log entry 62). -/
def Move.at_ (m : Move) (t : Nat) : Int × Nat :=
  let r := phasesAt m.phases ((t - m.t0) * 2 ^ 20)
  (m.p0 + (if m.plus then (r.1 : Int) else -(r.1 : Int)), r.2)

/-- MOT_AXa_SCALE. -/
def Dev.axScale (d : Dev) (a : Nat) : Nat := Nat.max 1 (d.rd (MOT_AX_SCALE a)).toNat

/-- Microsteps of a position in µm times 2^40 (R417). -/
def Dev.toUs (d : Dev) (a : Nat) (p : Int) : Int := divRound (p * d.axScale a) (2 ^ 56)

/-- The position of microsteps, in µm times 2^40. -/
def Dev.ofUs (d : Dev) (a : Nat) (us : Int) : Int := us * 2 ^ 56 / d.axScale a

/-- Microsteps as whole µm (R417). -/
def Dev.usToUm (d : Dev) (a : Nat) (us : Int) : Int := divRound (us * 65536) (d.axScale a)

/-- The moves queued on an axis end ABORTED. -/
def Dev.dropQueue (d : Dev) (a : Nat) : Dev :=
  let qs := (d.axis a).queue
  let d := d.modAxis a (fun x => { x with queue := [] })
  qs.foldl (fun d g => match g.req with | some q => d.fail q stAborted 0 | none => d) d

/-- Axis a decelerates to rest at `rate` mm/s², its move to end with this status; a stop in progress is not
weakened. A retune that waits is rejected. -/
def Dev.axStop (d : Dev) (a rate status xstatus : Nat) : Dev :=
  match (d.axis a).mv with
  | none => d
  | some m =>
    let (p, v) := m.at_ d.tb3
    let r := match m.stop with | some (_, _, r) => Nat.max r rate | none => Nat.max 1 rate
    let (st, x) := match m.stop with | some (st, x, _) => (st, x) | none => (status, xstatus)
    let m' : Move := { m with
      t0 := d.tb3, p0 := p, phases := if v = 0 then [] else [⟨speedTime v 0 (r * 1000), v, 0⟩]
      vEnd := 0, stop := some (st, x, r), turn := false, retune := none }
    let d := (d.modAxis a (fun y => { y with mv := some m' })).dropQueue a
    match m.retune with
    | some (_, _, q) => d.fail q stReject 0
    | none => d

/-- The recoat sequence ends early: not complete until another one completes (R434). -/
def Dev.seqFail (d : Dev) : Dev :=
  match d.mot.seq with
  | none => d
  | some s =>
    let d := { d with recoated := false, mot := { d.mot with seq := none } }
    match s.req with
    | some q => d.complete q stPartial 0 (words4 0 s.done d.tb3 (d.tb3 / 2 ^ 32))
    | none => d

/-- Where the interpolated emission has come to. -/
def Emission.at_ (e : Emission) (t : Nat) : Int :=
  let k := (t - e.t0) / 4000
  let f := Nat.min k e.fast.natAbs
  let t1 := e.t0 + e.fast.natAbs * 4000
  let s := if t1 ≤ t then Nat.min e.slow.natAbs (e.slow.natAbs * (t - t1) / Nat.max 1 e.ovr) else 0
  e.base + e.fast.sign * f + e.slow.sign * s

/-- The axis moves: a move is in progress, or interpolated microsteps are being emitted. -/
def Axis.moving (x : Axis) : Bool := x.mv.isSome || x.emission.isSome

/-- An interpolated axis stops where it is; its current falls as at rest (R421, R423).
DEDUCED (log entry 64), DESIGN CHOICE (log entry 100). -/
def Dev.axHalt (d : Dev) (a : Nat) : Dev :=
  d.modAxis a (fun x => match x.emission with
    | some e => { x with emission := none, us := e.at_ d.tb3, level := if d.fld (MOT_AX_HOLD a) 0 16 = 0 then 1 else 0 }
    | none => x)

/-- An axis at rest holds at I_SAFE in the safe state, and at I_HOLD once it is left (R421, R436). -/
def Dev.restLevel (d : Dev) (safe : Bool) : Dev :=
  { d with mot := { d.mot with axes := d.mot.axes.map (fun (x : Axis) =>
    if x.moving then x else if safe then { x with level := 2 } else if x.level = 2 then { x with level := 1 } else x) } }

/-- Every axis stops at EDEC, and the sequence ends; those at rest hold at I_SAFE (R436, R476). -/
def Dev.motSafe (d : Dev) : Dev :=
  (((List.range 8).foldl (fun d a => (d.axStop a (d.rd (MOT_AX_EDEC a)).toNat stPartial 0).axHalt a) d).seqFail).restLevel true

end Sys2Proof.Machine
end

