-- ==== Sys2Proof/Machine/SafeState.lean ====
section
/-! DEFINITION. The safe state of the outputs (R476), and what a fence does to a unit's work (R482, R140
to R142, R226). -/

namespace Sys2Proof.Machine

/-! ## Work cut short -/

/-- The vector of the last tick released with emission, its arc and its stop time (R332). -/
def Dev.lastEmitted (d : Dev) (b : Nat) : Nat × Nat × Nat :=
  ((d.rd (LAS_EMIT_VEC b)).toNat, (d.rd (LAS_EMIT_ARC b)).toNat,
    (d.rd64 (LAS_EMIT_TICK_LO b) (LAS_EMIT_TICK_HI b) + 1) * perTick)

/-- The record of a run in emission in which the beam last emitted: its index in the unit, arc and stop
time; none where no tick of it was released with emission. -/
def Dev.emittedIn (d : Dev) (b : Nat) (r : Run) : Option (Nat × Nat × Nat) :=
  if !r.started || r.ended then none
  else
    let (v, arc, t) := d.lastEmitted b
    (r.unit.recs.findIdx? (fun q => q.vecId == v)).map (fun i => (i, arc, t))

/-- What is left of a unit behind its record i. DEDUCED (log entry 42). -/
def WUnit.behind (u : WUnit) (i : Nat) : Option WUnit :=
  if u.recs.length ≤ i + 1 then none
  else some { u with
    recs := u.recs.drop (i + 1), idxs := u.idxs.drop (i + 1), startArc := 0, resumed := false, lead := none
    splitAt := u.splitAt - (i + 1) }

/-- A record that ends PARTIAL on engine n. DEDUCED (log entry 42). -/
def Dev.partialDone (d : Dev) (n : Nat) (u : WUnit) (i arc t seq : Nat) : Dev :=
  d.modEng n (fun e => { e with done := e.done ++ [⟨u, i, stPartial, arc, t, false, seq, d.gbeam ((d.beamOf n).getD 0)⟩] })

/-- int16 in two bytes. -/
def i16 (v : Int) : List Byte := leBytes 2 (unsigned 16 v)

/-- CORR at the end of a unit's emission, once (R285): a record that has not entered the law is discarded and counted
(R273). A part of a unit that ends held has its CORR, and what resumes goes on with the unit's figures. DESIGN CHOICE (log
entry 100). DESIGN CHOICE (log entry 100). -/
def Dev.corr (d : Dev) (n : Nat) (r : Run) : Dev :=
  let l := d.law n
  if l.told = r.seq then d
  else
    let cap (k : Nat) : Nat := Nat.min 0xFFFF k
    let mean : Int := if l.active = 0 then 0 else Int.tdiv l.sum l.active
    let d := d.count (BE_MP_CNT n 2) l.waiting.length
    (d.modLaw n (fun l => { l with waiting := [], told := r.seq })).emit (n + 2) 0x30
      (leBytes 4 (r.unit.lead.getD r.unit.vec) ++ i16 l.lo ++ i16 l.hi ++ i16 mean ++ leBytes 2 (l.marks % 32)
        ++ leBytes 2 (cap (if l.clampSeq = r.seq then l.clamped else 0)) ++ leBytes 2 (cap l.active))

/-- The emission of engine n's unit ends here, before its run does. -/
def Dev.endEmission (d : Dev) (n : Nat) : Dev :=
  if d.fencedUnit n then d
  else ((d.eng n).runs.filter (fun r => r.started && !r.ended)).foldl (fun d r => d.corr n r) d

/-! ## Fencing -/

/-- A unit returns to its lock queue in its original layer order: ahead of what comes after it in its layer, and of
every later layer (R206, R226). -/
def returnUnit (u : WUnit) : List WUnit → List WUnit
  | [] => [u]
  | x :: xs =>
    if u.layer < x.layer ∨ (u.layer = x.layer ∧ u.order < x.order) then u :: x :: xs else x :: returnUnit u xs

/-- A lock queue takes a returned entry back; what no longer fits waits again (R205). -/
def LockQ.takeBack (q : LockQ) (u : WUnit) : LockQ :=
  let l := returnUnit u q.queue
  { q with queue := l.take 4096, wait := l.drop 4096 ++ q.wait }

/-- A lock entry of a fenced beam returns, with its event. -/
def Dev.returnEntry (d : Dev) (g i : Nat) (u : WUnit) : Dev :=
  let d := d.modLock i (fun q => q.takeBack u)
  (d.count (LK_CNT 4) 1).emit 20 0x14
    (leBytes 4 u.vec ++ [0, 0, 0, 0] ++ leBytes 1 g ++ leBytes 1 i)

/-- The lowest-numbered free spare that can take beam b over (R140, R139). -/
def Dev.freeSpare (d : Dev) (b : Nat) : Option Nat :=
  match d.profiles.getD b none with
  | none => none
  | some _ => (List.range (nEngines d.variant)).find? (fun m =>
      !d.fencedUnit m && !d.bit (BE_MAP m) 31 && d.bit (BE_MAP m) 8)

/-- The run brings no unit back: its emission has ended, it is cut short of one, or it only moves for one. -/
def Run.idle (r : Run) : Bool := r.ended || r.pre || (r.cut && !r.started)

/-- The units of an engine that have not started, oldest first, with what is left behind the vector in
emission or held; that vector itself ends PARTIAL (R141). -/
def Dev.splitWork (d : Dev) (n b : Nat) : List WUnit × Dev :=
  let e := d.eng n
  let fromRun (acc : List WUnit × Dev) (r : Run) : List WUnit × Dev :=
    match acc.2.emittedIn b r with
    | some (i, arc, t) => (acc.1 ++ (r.unit.behind i).toList, acc.2.partialDone n r.unit i arc t r.seq)
    | none => if r.idle then acc else (acc.1 ++ [r.unit], acc.2)
  let fromHeld (acc : List WUnit × Dev) (h : Held) : List WUnit × Dev :=
    (acc.1 ++ (h.unit.behind h.i).toList, acc.2.partialDone n h.unit h.i h.arc h.t 0)
  let (us, d) := e.held.foldl fromHeld ([], d)
  let (us, d) := e.runs.foldl fromRun (us, d)
  ((us ++ e.queue).filter (fun u => !u.recs.isEmpty), d)

/-- Half 0 of the stitch that a half 1 belongs to has committed and begun emission. -/
def Dev.halfZeroStarted (d : Dev) (u : WUnit) : Bool :=
  let zero (v : WUnit) : Bool := v.half == some 0 && !v.resumed && v.layer == u.layer && v.barge == u.barge && v.order == u.order
  u.half == some 1 && !u.resumed &&
  d.keeper.syncs.any (fun x => x.1 == u.layer && x.2.1 == (u.recs.headD default).vecId) &&
  !d.engines.any (fun e => e.runs.any (fun r => zero r.unit && !r.started) || e.queue.any zero)

/-- The other half of a committed half 0 has begun emission, or has its outcome: a solo half 1 may do so first (R232). -/
def Dev.halfOneStarted (d : Dev) (u : WUnit) : Bool :=
  let one (v : WUnit) : Bool := v.half == some 1 && v.layer == u.layer && v.barge == u.barge && v.order == u.order
  let vec := (u.recs.getLastD default).vecId
  u.half == some 0 && !u.resumed && d.keeper.syncs.any (fun x => x.1 == u.layer && x.2.1 == vec) &&
  (d.engines.any (fun e => e.runs.any (fun r => one r.unit && r.started) || e.done.any (fun x => one x.unit)) ||
    d.keeper.sent.any (fun x => one x.unit && (x.prog.isSome || !x.given.isEmpty)) ||
    (match d.layer? u.layer with
      | some l => l.barges.any (fun b => b.id == u.barge && b.recs.any (fun v => v.r.vecId == vec && v.outs.any (fun o =>
          o.half == 1)))
      | none => false))

/-- T_sync of halves 0 that return uncommitted is forgotten. -/
def Dev.dropSyncs (d : Dev) (us : List WUnit) : Dev :=
  d.modKeeper (fun k => { k with syncs := k.syncs.filter (fun x => !us.any (fun u =>
    u.half == some 0 && !u.resumed && u.layer == x.1 && (u.recs.getLastD default).vecId == x.2.1)) })

/-- The commit units of a layer an engine has taken (R209). -/
def Engine.qposOf (e : Engine) (layer : Nat) : Nat :=
  ((e.qpos.find? (fun c => c.1 == layer)).map (fun c => c.2)).getD 0

/-- A unit joins the tail of an engine's queue on a tick (R209): its queue position counts commit units. -/
def Engine.join (e : Engine) (tick : Nat) (u : WUnit) : Engine :=
  { e with
    queue := e.queue ++ [{ u with reach := tick, qpos := e.qposOf u.layer }]
    qpos := if (u.recs.headD default).type = 3 then e.qpos
      else (u.layer, e.qposOf u.layer + 1) :: e.qpos.filter (fun c => c.1 != u.layer) }

/-- ASSIGN (R227). DEDUCED (log entry 39). -/
def Dev.assignEvent (d : Dev) (u : WUnit) (g i qpos q : Nat) : Dev :=
  (d.count (LK_CNT 0) 1).emit 20 0x10 (leBytes 4 u.vec ++ leBytes 4 qpos
    ++ leBytes 1 g ++ leBytes 1 i ++ [0, 0] ++ leBytes 4 q)

/-- The key of R225. -/
def XHalf.before (a b : XHalf) : Bool :=
  decide (a.t < b.t) || (a.t == b.t && (decide (a.dev < b.dev) || (a.dev == b.dev && decide (a.seq < b.seq))))

/-- A half takes its place in the order of the key. -/
def putHalf (h : XHalf) : List XHalf → List XHalf
  | [] => [h]
  | x :: xs => if h.before x then h :: x :: xs else x :: putHalf h xs

/-- A stitch half enters the queue of its engine; an own one is told with its queue position. -/
def Dev.enterHalf (d : Dev) (h : XHalf) : Dev :=
  let d := match h.told with
    | some (i, q) => d.assignEvent h.unit (d.gbeam ((d.beamOf h.engine).getD 0)) i
        ((d.eng h.engine).qposOf h.unit.layer) q
    | none => d
  d.modEng h.engine (fun e => e.join d.tick h.unit)

/-- The halves that `now` picks enter the queues, in order of R225's key. -/
def Dev.enterHalves (d : Dev) (now : XHalf → Bool) : Dev :=
  let due := d.keeper.halves.filter now
  let d := d.modKeeper (fun k => { k with halves := k.halves.filter (fun h => !now h) })
  due.foldl (fun d h => d.enterHalf h) d

/-- A fenced engine's beam goes to a spare, or counts as fenced; its lock entries return. The beam is no candidate, and
has no dry time, until the spare serves it (R207, R226). -/
def Dev.fenceEngine (d : Dev) (n b : Nat) : Dev :=
  let (us, d) := (d.enterHalves (fun h => h.engine == n)).splitWork n b
  let seqs := ((d.eng n).runs.filter (fun r => !r.started)).map (fun r => r.seq)
  let g := d.gbeam b
  let d := d.modEng n (fun e => { e with queue := [], held := [], gather := none, tickQ := [], barrier := none })
  let d := d.modKeeper (fun k => { k with
    tracks := k.tracks.filter (fun t => t.beam != g || !seqs.contains t.run.seq)
    xwait := k.xwait.filter (fun x => x.engine != n) })
  let us := us.map (fun u => if d.halfZeroStarted u then { u with solo := true } else u)
  let d := d.dropSyncs us
  let single := us.filter (fun u => u.lock.isNone)
  let d := (us.filter (fun u => u.lock.isSome)).foldl (fun d u => d.returnEntry g (u.lock.getD 0) u) d
  let d := (d.setEmit b false).wrN (LK_QTIME b) 0xFFFFFFFF
  match d.freeSpare b with
  | some m =>
    let d := (d.setBit (BE_MAP n) 31 false).setFld (BE_MAP m) 0 5 b
    let d := d.setBit (BE_MAP m) 31 true
    d.modEng m (fun e => single.foldl (fun e u => e.join d.tick u)
      { e with queue := [], taking := true, takeFrom := n, takeTick := d.tick, law := default })
  | none =>
    single.foldl (fun d u => d.noExposure u 0 stSkipped) d

/-- The commands that wait on the ports or the I2C controller of vision engine k complete UNIT_FENCED. DEDUCED (log entry
104). DEDUCED (log entry 104). -/
def Dev.fenceCams (d : Dev) (k : Nat) : Dev :=
  let ps := (List.range 20).filter (fun p => camEngine p == k)
  let jobs := d.vis.i2c.getD k []
  let mine (q : Req × Env) : Bool := q.1.a0.get 0 2 == k
  let qs := jobs.map (fun j => j.req) ++ (d.vis.reads.filter mine).map (fun q => q.1) ++
    ps.flatMap (fun p => (d.cam p).hosts.filterMap (fun h => h.req) ++ (d.cam p).tapReqs.map (fun t => t.1))
  let d : Dev := { d with vis := { d.vis with i2c := d.vis.i2c.set k [], reads := d.vis.reads.filter (fun q => !mine q) } }
  let d := d.modCams k (fun (c : Cam) => { c with
    frame := none, unsol := false, strobes := [], hosts := [], tapReqs := [], delayed := false
    changes := c.changes.filter (fun g => !jobs.any (fun j => j.req.ring == g.req.ring && j.req.idx == g.req.idx)) })
  qs.foldl (fun d q => d.fail q stFenced 0) d

/-- What a fence does to the unit's work: an engine's is redistributed; the beams of a vision engine's
ports, which stop, drop the camera term (R482). -/
def Dev.fenceWork (d : Dev) (u : Nat) : Dev :=
  if u < 18 then
    match d.beamOf u with
    | some b => d.fenceEngine u b
    | none => d
  else
    let d := d.fenceCams (u - 18)
    (List.range 16).foldl (fun d b =>
      if b / 4 = u - 18 then
        match d.engineOf b with
        | some n => d.modLaw n (fun l => l.dropCam d.tb3)
        | none => d
      else d) d

/-! ## Safe state -/

/-- A timed output disarms and drives its SAFE_LVL (R408). -/
def Dev.toutDisarm (d : Dev) (i : Nat) : Dev :=
  let x := (d.setBit (TIME_TOUT_CFG i) 31 false).send (.toutLevel i (d.bit (TIME_TOUT_CFG i) 0))
  { x with time := { x.time with outs := modAt x.time.outs i (fun x => { x with pulse := none }) } }

/-- Every timed output is safe. -/
def Dev.toutSafe (d : Dev) : Dev := (List.range 8).foldl (fun d i => d.toutDisarm i) d

/-- Every output at its safe level. -/
def Dev.safeOutputs (d : Dev) : Dev :=
  (((List.range 16).foldl (fun d b => d.setEmit b false) d).toutSafe).motSafe.lampsSafe

end Sys2Proof.Machine
end

