-- ==== Sys2Proof/Machine/Faults.lean ====
section
/-! DEFINITION. The fault collector (18): classes, live causes, the history queue, ERR_N, fencing and
the reactions. Every unit reports its faults through `Dev.raise`. -/

namespace Sys2Proof.Machine

/-- A port belongs to an active beam when its beam is mapped and the mode is CALIBRATE or BUILD
(R343). -/
def Dev.activeBeam (d : Dev) (b : Nat) : Bool := d.exposing && (d.engineOf b).isSome

/-- The class of ECC_UE by the region its payload names (R361, R364). -/
def eccClass (payload : Word) : Cls :=
  match payload.get 28 4 with
  | 0 => .hold | 3 => .hold | 5 => .hold | 6 => .hold | _ => .note

/-- The class of a fault, by the cause tables of the chapters and the mode and configuration in force
(R465); none for a cause no table gives. DEDUCED (log entry 29), DEDUCED (log entry 30). -/
def Dev.faultClass (d : Dev) (src cause : Nat) (payload : Word) : Option Cls :=
  let expose : Cls := if d.exposing then .safe else .note
  let build : Cls := if d.mode.cur == .build then .hold else .note
  let port : Cls := if d.activeBeam (payload.get 0 4) then .hold else .note
  let noteUpTo (n : Nat) : Option Cls := if 1 ≤ cause ∧ cause ≤ n then some .note else none
  if src = 0 then
    match cause with
    | 1 => some expose | 2 => some .safe | 3 => some .safe | 4 => some .note | _ => none
  else if src = 1 then
    match cause with
    | 1 => some .safe | 2 => some .note | 3 => some .safe | 4 => some .safe | _ => none
  else if src ≤ 19 then
    if src - 2 < nEngines d.variant then
      match cause with
      | 0x01 => some .hold | 0x02 => some .safe | 0x04 => some .fence | 0x06 => some .fence
      | 0x07 => some .hold | 0x0B => some .hold
      | 0x0D => some (if d.bit (BE_MP_CFG (src - 2)) 30 then .hold else .note)
      | _ => noteUpTo 0x11
    else none
  else if src = 20 then
    match cause with
    | 3 => some (if d.bit LK_PLUME_CFG 30 then .hold else .note)
    | 7 => some .hold
    | _ => noteUpTo 8
  else if src = 21 then noteUpTo 7
  else if src ≤ 25 then
    if visEngPresent d.variant (src - 22) then if cause = 2 then some .fence else noteUpTo 3 else none
  else if src = 26 then if 4 ≤ cause ∧ cause ≤ 8 then some .note else none
  else if src = 27 then
    match cause with
    | 2 => if 7 < payload.get 28 4 then none else some (eccClass payload)
    | 4 => some .hold
    | _ => noteUpTo 7
  else if src = 28 then if cause = 1 then some .hold else noteUpTo 3
  else if src = 29 then
    if nByoft d.variant = 0 then none else match cause with
    | 2 => some (if d.exposing then .hold else .note)
    | 5 => some (if d.exposing then .hold else .note)
    | 6 => some .hold | 7 => some .hold
    | _ => noteUpTo 11
  else if src = 30 then if cause = 1 ∨ cause = 6 then some port else noteUpTo 7
  else if src = 31 then if cause = 3 then some .safe else noteUpTo 2
  else if src = 32 then
    match cause with
    | 1 => some build | 5 => some build | 6 => some build | 7 => some build
    | _ => noteUpTo 10
  else if src = 33 then noteUpTo 4
  else if src = 34 then if cause = 6 then some expose else noteUpTo 5
  else if src = 35 then if cause = 1 then some .safe else noteUpTo 8
  else if src = 36 then
    match cause with
    | 1 => some .hold | 2 => some .hold | 5 => some .hold
    | _ => noteUpTo 4
  else if src = 37 then noteUpTo 4
  else if src = 38 then
    match cause with
    | 1 => some .hold | 2 => some .safe | 3 => some .safe | 4 => some .safe | _ => none
  else none

/-- The error bit of a source's block that records a cause: register offset and bit. -/
def errBit (src cause : Nat) (payload : Word) : Option (Nat × Nat) :=
  let c := cause - 1
  if cause = 0 then none
  else if src = 0 then if cause = 1 then some (LAS_ERR, 3) else none
  else if src = 1 then none
  else if src ≤ 19 then
    let n := src - 2
    if cause ≤ 8 then some (BE_ERR n, c)
    else if cause ≤ 11 then some (BE_GRID_STATUS n, cause - 7)
    else if cause ≤ 17 then some (BE_MP_ERR n, cause - 12) else none
  else if src = 20 then some (LK_ERR, c)
  else if src = 21 then some (LDG_ERR, c)
  else if src ≤ 26 then some (VIS_ERR, c)
  else if src = 27 then some (DRAM_ERR, c)
  else if src = 28 then
    if cause = 1 then some (HIF_ERR_STATUS, 4)
    else if cause = 2 ∧ payload.get 0 8 ≤ 10 then some (HIF_ERR_STATUS, payload.get 0 8) else none
  else if src = 29 then some (BYF_ERR, c)
  else if src = 30 then some (SCN_ERR, c)
  else if src = 31 then some (LAS_ERR, c)
  else if src = 32 then some (MOT_ERR, c)
  else if src = 33 then some (ILL_ERR, c)
  else if src = 34 then some (ANA_ERR, c)
  else if src = 35 then some (TIME_ERR, c)
  else if src = 36 then some (REC_ERR, c)
  else if src = 37 then some (BIST_ERR, c)
  else if src = 38 then some (CLK_ERR, c)
  else none

/-- The condition of the fault lasts after its detection (R469); every other fault is detected at an
instant and ends its condition there. DEDUCED (log entry 29). -/
def lasting (src cause : Nat) (payload : Word) : Bool :=
  match src, cause with
  | 0, 1 => true
  | 27, 2 => payload.get 28 4 == 0
  | 28, 1 => true
  | 29, 2 => true
  | 29, 5 => true
  | 29, 6 => true
  | 29, 7 => true
  | 30, 1 => true
  | 30, 6 => true
  | 34, 6 => true
  | 35, 1 => true
  | 36, 2 => true
  | 36, 5 => true
  | 38, _ => true
  | _, _ => false

/-- A bit of HIF_ERR_STATUS set; a bit that changes from 0 to 1 signals (R101). -/
def Dev.setErr (d : Dev) (off bit : Nat) : Dev :=
  let was := d.bit off bit
  let d := d.setBit off bit true
  if off = HIF_ERR_STATUS ∧ !was then d.signal 24 else d

/-! ## Flush triggers (R495) -/

/-- A flush starts, or is due after the one in progress. Where the MRAM is not used nothing starts
(R497). -/
def Dev.startFlush (d : Dev) : Dev :=
  if !d.rcd.mram.usable then d
  else if d.rcd.flushing then { d with rcd := { d.rcd with again := true } }
  else { d with rcd := { d.rcd with
    flushing := true, writing := d.rcd.buf.length, flushAt := d.tb3, noteDue := false } }

/-- The flush trigger of a fault of a class. -/
def Dev.faultFlush (d : Dev) (c : Cls) : Dev :=
  if c != .note then d.startFlush
  else if d.rcd.flushAt + d.fld REC_CFG 0 16 * perMs ≤ d.tb3 then d.startFlush
  else { d with rcd := { d.rcd with noteDue := true } }

/-! ## Mode changes -/

/-- A completed mode transition: the event MODE and its interrupt (R101, R493); entry to HOLD or SAFE is
told to the peers (R383). -/
def Dev.setMode (d : Dev) (m : Mode) (cause : Nat) : Dev :=
  let old := d.mode.cur
  let d := { d with mode := { d.mode with cur := m, prev := old, lastCause := cause } }
  let d := if (m = .safe ∨ (m = .hold ∧ !d.mode.quiet)) ∧ d.bit BYF_CFG 30 then
      d.members.foldl (fun d v => d.sendTo v 0x04 [(m.code : Int), (cause : Int)]) d
    else d
  (d.emit 1 0x20 (leBytes 1 m.code ++ leBytes 1 old.code ++ leBytes 1 cause)).signal 8

/-- A trigger to HOLD (R54): the run to the safe point begins, with the event HOLD_REQ. In a run to
the end of the layer (R82) a further trigger brings the safe point forward. In SERVICE it stops a replay (R51).
DEDUCED (log entry 27). -/
def Dev.holdTrigger (d : Dev) (trig : Nat) (atLayerEnd quiet : Bool) : Dev :=
  if !d.exposing then d.stopReplay
  else if d.mode.changing && d.mode.leaveReq.isNone then
    if d.mode.holdAtLayerEnd && !atLayerEnd then
      { d with mode := { d.mode with holdAtLayerEnd := false, holdAt := d.tb3 } }
    else d
  else
    let d := match d.mode.leaveReq with | some q => d.fail q stAborted 0 | none => d
    let d := { d with mode := { d.mode with
      leaveReq := none, changing := true, holdAt := d.tb3, holdTrig := trig, holdAtLayerEnd := atLayerEnd, quiet := quiet } }
    d.emit 1 0x24 (leBytes 1 trig ++ leBytes 1 d.mode.cur.code ++ [0, 0]
      ++ leBytes 4 (d.fld MODE_HOLD_CFG 0 16))

/-- A SAFE-class fault aborts memory BIST, once the memories are initialised again (R532, R533).
DESIGN CHOICE (log entry 106). -/
def Dev.abortMbist (d : Dev) : Dev :=
  match d.bist.run with
  | none => d
  | some (q, _) =>
    let d := { d with
      bist := { d.bist with run := none }
      rcd := { d.rcd with flushReqs := d.rcd.flushReqs.filter (fun x => x != q), nextReqs := d.rcd.nextReqs.filter (fun x => x != q) } }
    (d.wrN BIST_MBIST_STATUS (3 * 2 ^ 28)).fail q stAborted 0

/-- Entry to SAFE: every emission ends; a run to HOLD, and a MODE_SET that waits for ports, end ABORTED. -/
def Dev.enterSafe (d : Dev) (trig : Nat) : Dev :=
  let d := ((List.range 18).foldl (fun d n => d.endEmission n) d).stopReplay.abortMbist
  let reqs := d.mode.holdReq.toList ++ d.mode.leaveReq.toList ++ (d.mode.wakeReq.map (fun w => w.1)).toList
  let d := { d with
    mode := { d.mode with changing := false, holdReq := none, leaveReq := none, wakeReq := none, holdAtLayerEnd := false }
    flt := { d.flt with settleDue := true } }
  reqs.foldl (fun d q => d.fail q stAborted 0) (d.setMode .safe trig)

/-- A SAFE trigger (R51, R53, R476): outputs at their safe levels; mode SAFE from every mode but
WIND-DOWN, where logic BIST is abandoned and SAFE_N asserted instead. -/
def Dev.safeTrigger (d : Dev) (trig : Nat) : Dev :=
  let d := d.safeOutputs
  if d.mode.cur == .safe then d
  else if d.mode.cur == .windDown then
    let d := if d.bit MODE_WD_STATUS 8 then d else d.setBit MODE_WD_STATUS 9 true
    { d with mode := { d.mode with wdSafe := true } }
  else d.enterSafe trig

/-! ## Admission and reaction -/

/-- The next fault sequence number: it wraps from 0xFFFF_FFFF to 1 (R472). -/
def nextSeq (n : Nat) : Nat := if 0xFFFFFFFF ≤ n then 1 else n + 1

/-- A fault is admitted to the history queue, with its sticky records (R471, R472) and its interrupt
(R101). -/
def Dev.enter (d : Dev) (h : Hist) : Dev :=
  let wrap := decide (32 ≤ d.flt.hist.length)
  let d := { d with flt := { d.flt with hist := (h :: d.flt.hist).take 32, seq := h.seq } }
  let d := if wrap then d.setBit FLT_STATUS 4 true else d
  let d := d.wrN FLT_HIST_CNT h.seq
  let d := d.setBit FLT_STATUS h.cls.code true
  let d := d.setBit (FLT_SEEN (h.src / 32)) (h.src % 32) true
  let first := h.src + h.cause * 2 ^ 8 + 2 ^ 16 + bitOf h.injected * 2 ^ 17 + (h.seq % 256) * 2 ^ 24
  let d := if h.cls = .safe ∧ !d.bit FLT_FIRST_SAFE 16 then d.wrN FLT_FIRST_SAFE first else d
  let d := if h.cls = .hold ∧ !d.bit FLT_FIRST_HOLD 16 then d.wrN FLT_FIRST_HOLD first else d
  d.signal 0

/-- The event record of a fault (R493). -/
def Hist.event (h : Hist) : Event :=
  ⟨h.t, h.dev, h.src, h.cause,
    1 + 2 * h.cls.code + 8 * bitOf h.injected + 16 * bitOf h.promoted + 32 * bitOf h.forwarded,
    pay (leBytes 4 h.payload.toNat ++ leBytes 4 h.seq)⟩

/-- A HOLD- or SAFE-class fault becomes a live cause; a new detection is unacknowledged again (R470,
R488). -/
def Dev.addLive (d : Dev) (src cause : Nat) (c : Cls) (ended : Bool) : Dev :=
  let same (l : Live) : Bool := l.src == src && l.cause == cause
  let old := (d.flt.live.find? same).map (·.ended)
  let l : Live := ⟨src, cause, c, ended && old.getD true, false⟩
  { d with flt := { d.flt with live := l :: d.flt.live.filter (fun x => !same x) } }

/-- ERR_N goes low, or its pulse is extended (R474). -/
def Dev.errPulse (d : Dev) : Dev :=
  let e := d.tb3 + d.fld FLT_ERR_CFG 0 10 * 10 * perUs
  { d with flt := { d.flt with pulse := some (Nat.max e (d.flt.pulse.getD 0)) } }

/-- A unit is fenced (R481): its block's words are kept as they stand, its bit is set and its work is stopped. A replay ends
(DESIGN CHOICE, log entry 25). -/
def Dev.fence (d : Dev) (u : Nat) : Dev :=
  if d.fencedUnit u then d
  else
    let d := d.stopReplay
    ({ d with flt := { d.flt with
      fenced := d.flt.fenced ++ [u]
      snaps := d.flt.snaps ++ [(⟨u, d.tb3, if u < 18 then d.blockWords u else []⟩ : Snap)] } } : Dev).fenceWork u

/-- The unit's fence was taken in the present cycle: a TB3 instant counts as one cycle. DEDUCED (log entry 83). -/
def Dev.fencedNow (d : Dev) (u : Nat) : Bool := d.flt.snaps.any (fun s => s.unit == u && s.at_ == d.tb3)

/-- A count of the lifetime image saturates (R513). -/
def bump (l : List Nat) (i k : Nat) : List Nat := modAt l i (fun x => Nat.min 0xFFFFFFFF (x + k))

/-- Lane errors of the lifetime image (R513), by lane of R339. A bad flit, which every lane of its port
carries, counts on each of them (log entry 26). DEDUCED (log entry 26). -/
def Dev.laneErrs (d : Dev) (ls : List Nat) : Dev :=
  { d with life := { d.life with lanes := ls.foldl (fun x l => bump x l 1) d.life.lanes } }

/-- How a fault came about: really, injected (R485) and with a mode-transition cause of its own. -/
structure How where
  injected : Bool
  trig : Option Nat
  cls : Option Cls
  /-- false where the reaction has been taken already (R486) -/
  react : Bool

/-- A fault that has occurred here. -/
def How.real : How := ⟨false, none, none, true⟩

/-- The class a report takes: its own, or that of its cause. -/
def How.classOf (how : How) (d : Dev) (src cause : Nat) (payload : Word) : Option Cls :=
  match how.cls with
  | some c => some c
  | none => d.faultClass src cause payload

/-- A NOTE-class fault is promoted to HOLD (R467). -/
def Dev.promotes (d : Dev) (src : Nat) (c : Cls) : Bool :=
  decide (c = .note) && d.bit (if src < 32 then FLT_PROMOTE0 else FLT_PROMOTE1) (src % 32)

/-- What every admitted fault brings before its reaction: the error bit of its unit, MEMFAIL where the recorder's own
memory has failed (R503), the history and event records, the lifetime counts and the flush trigger. -/
def Dev.recordFault (d : Dev) (injected : Bool) (src cause : Nat) (payload : Word) (c : Cls) (promoted : Bool) : Dev :=
  let d := if !injected && d.flt.inj.isSome then d.setBit FLT_STATUS 5 true else d
  let d := match errBit src cause payload with
    | some (off, b) => d.setErr off b
    | none => d
  let d := if src = 36 ∧ (cause = 1 ∨ cause = 2) ∧ !injected then d.setBit REC_STATUS 30 true else d
  let h : Hist := ⟨d.tb3, src, cause, c, d.devId, injected, false, promoted, false, payload, nextSeq d.flt.seq⟩
  let d := (d.enter h).ownEvent h.event
  let d := { d with life := { d.life with
    classes := bump d.life.classes c.code 1, sources := bump d.life.sources src 1 } }
  d.faultFlush c

/-- The reaction of a class (R465). -/
def Dev.react (d : Dev) (how : How) (src cause : Nat) (payload : Word) : Cls → Dev
  | .note => d
  | .fence =>
    match unitOfSource src with
    | some u => d.fence u
    | none => d
  | .hold =>
    ((d.addLive src cause .hold (how.injected || !lasting src cause payload)).errPulse).holdTrigger (how.trig.getD 0x03)
      (src == 28 && cause == 1 && !how.injected) (src == 29 && cause == 6)
  | .safe =>
    ((d.addLive src cause .safe (how.injected || !lasting src cause payload)).errPulse).safeTrigger (how.trig.getD 0x02)

/-- A live source's fault is recorded and takes its class reaction (R465 to R474). -/
def Dev.raiseHow (d : Dev) (how : How) (src cause : Nat) (payload : Word) : Dev :=
  match how.classOf d src cause payload with
  | none => d
  | some c0 =>
    let promoted := d.promotes src c0
    let c := if promoted then Cls.hold else c0
    let d := d.recordFault how.injected src cause payload c promoted
    if how.react then d.react how src cause payload c else d

/-- Traffic of a fenced unit is counted; FENCED_SPEAK is raised at most once per unit per 1 ms
(R483). -/
def Dev.ghost (d : Dev) (u k : Nat) : Dev :=
  let d := d.count FLT_GHOST_CNT k
  let g := (d.flt.ghosts.find? (fun g => g.unit == u)).getD ⟨u, 0, none⟩
  let rest := d.flt.ghosts.filter (fun g => g.unit != u)
  let n := g.count + k
  let due := match g.last with | none => true | some t => decide (t + perMs ≤ d.tb3)
  if due then
    let d := { d with flt := { d.flt with ghosts := ⟨u, 0, some d.tb3⟩ :: rest } }
    d.raiseHow .real 0 4 (BitVec.ofNat 32 ((if u < 18 then u + 2 else u + 4) + (n % 2 ^ 24) * 256))
  else { d with flt := { d.flt with ghosts := ⟨u, n, g.last⟩ :: rest } }

/-- A fault report reaches the collector: a fenced unit's is ghost traffic (R483), but where it meets the fence in one
cycle, it takes its own reaction (R167, R466). -/
def Dev.raiseWith (d : Dev) (how : How) (src cause : Nat) (payload : Word) : Dev :=
  match unitOfSource src with
  | some u => if d.fencedUnit u && !d.fencedNow u then d.ghost u 1 else d.raiseHow how src cause payload
  | none => d.raiseHow how src cause payload

/-- A fault with a payload its chapter gives. -/
def Dev.raise (d : Dev) (src cause : Nat) (payload : Word) : Dev := d.raiseWith .real src cause payload

/-- A fault whose payload no chapter gives: the payload is a free value (log entry 7). DESIGN CHOICE (log entry 7). -/
def Dev.fault (d : Dev) (src cause : Nat) : Dev :=
  let (x, d) := d.free
  d.raise src cause (BitVec.ofNat 32 x)

/-- As `Dev.fault`, of a class the chapter fixes by more than the cause. -/
def Dev.faultAs (d : Dev) (c : Cls) (src cause : Nat) : Dev :=
  let (x, d) := d.free
  d.raiseWith ⟨false, none, some c, true⟩ src cause (BitVec.ofNat 32 x)

/-- A condition that sets a bit of HIF_ERR_STATUS occurs (R468, HIF_ERROR). DEDUCED (log entry 18). -/
def Dev.hifError (d : Dev) (bit ring : Nat) : Dev :=
  d.raise 28 2 (BitVec.ofNat 32 (bit + ring * 256))

/-- The condition of a fault has ended (R469, R470). -/
def Dev.endCause (d : Dev) (src cause : Nat) : Dev :=
  let live := d.flt.live.map (fun l => if l.src = src ∧ l.cause = cause then { l with ended := true } else l)
  { d with flt := { d.flt with live := live.filter (fun l => !(l.ended && l.acked)) } }

/-- A live cause of a class stands. -/
def Dev.liveOf (d : Dev) (c : Cls) : Bool := d.flt.live.any (fun l => l.cls == c)

/-! ## Streams with loss (R99) -/

/-- A droppable record that finds the spill area full is dropped, with STREAM_DROP at most once per ring
per second. DESIGN CHOICE (log entry 81). -/
def Dev.streamDrop (d : Dev) (n : Nat) : Dev :=
  let d := d.dropRec n
  let due := match (d.ring n).dropAt with
    | none => true
    | some t => decide (t + 1000 * perMs ≤ d.tb3)
  if due then (d.modRing n (fun r => { r with dropAt := some d.tb3 })).hifError 5 n
  else d.setErr HIF_ERR_STATUS 5

/-- A stream ring's selector names the source's instance (R98). -/
def selHits (src ringSel sel : Nat) : Bool :=
  if src = 1 ∨ src = 2 then true
  else if src = 3 ∨ src = 6 then ringSel == sel || ringSel == 0xFF
  else ringSel == sel

/-- One record is offered to one ring. -/
def Dev.offer (d : Dev) (n : Nat) (x : StreamRec) : Dev :=
  if d.ringOn n then
    if x.droppable ∧ ((d.ring n).held.length ≠ 0 ∨ (d.ring n).bufs.length = 0) ∧
        1048576 < 32 * (d.ring n).spill.length + ((d.ring n).held.map (fun y => y.bytes.length)).sum
          + x.bytes.length then d.streamDrop n
    else (d.modRing n (fun r => { r with held := r.held ++ [x] })).fillRing n
  else if x.droppable then d.dropRec n else d

/-- A record of a source goes to every STREAM ring bound to it. -/
def Dev.stream (d : Dev) (src sel : Nat) (bytes : List Byte) (ends : Bool) : Dev :=
  (List.range 64).foldl (fun d n =>
    if d.ringType n = 3 ∧ d.fld (HIF_RING_STREAM n) 0 4 = src ∧
        selHits src (d.fld (HIF_RING_STREAM n) 8 8) sel then
      d.offer n ⟨bytes, ends, true⟩
    else d) d

end Sys2Proof.Machine
end

