-- ==== Sys2Proof/Machine/Operands.lean ====
section
/-! DEFINITION. Descriptors, their checks, and how a command runs (R75, R76, R83 to R86). -/

namespace Sys2Proof.Machine

/-- The descriptor a 64-byte block spells (R83). -/
def parseReq (ring idx : Nat) (b : List Byte) : Req where
  ring := ring
  idx := idx
  op := bytesAt b 0 2
  flags := bytesAt b 2 2
  tag := bytesAt b 4 4
  a0 := BitVec.ofNat 32 (bytesAt b 8 4)
  a1 := BitVec.ofNat 32 (bytesAt b 12 4)
  a2 := BitVec.ofNat 32 (bytesAt b 16 4)
  a3 := BitVec.ofNat 32 (bytesAt b 20 4)
  a4 := BitVec.ofNat 32 (bytesAt b 24 4)
  a5 := BitVec.ofNat 32 (bytesAt b 28 4)
  dataAddr := bytesAt b 32 8
  dataLen := bytesAt b 40 4
  resultLen := bytesAt b 44 4
  resultAddr := bytesAt b 48 8

def reqBarrier (q : Req) : Bool := q.flags.testBit 0
def reqDrain (q : Req) : Bool := q.flags.testBit 1

/-- A query: low opcode byte 0x80 to 0xFF (R76). -/
def reqQuery (q : Req) : Bool := decide (0x80 ≤ q.op % 256)

/-- The opcode's group is accepted on a ring of this type (R75). -/
def groupOn (op type : Nat) : Bool :=
  let g := op / 256
  if g = 0 then type == 3
  else if g = 2 ∨ g = 3 then type == 1
  else if g = 4 then type == 1 || type == 2
  else type == 2

/-- Status and XSTATUS of a failed check. -/
abbrev Failure := Nat × Nat

/-- The first check that fails, in the order of R84. -/
def firstFail : List (Bool × Nat × Nat) → Option Failure
  | [] => none
  | (bad, st, x) :: cs => if bad then some (st, x) else firstFail cs

/-- A reserved bit of an argument word is set: the masks give the defined bits of ARG0 to ARG5. -/
def badArgs (q : Req) (masks : List Nat) : Bool :=
  (List.zip [q.a0, q.a1, q.a2, q.a3, q.a4, q.a5] (masks ++ List.replicate 6 0)).any
    (fun p => (p.1 &&& ~~~(BitVec.ofNat 32 p.2)) != 0)

/-- Check 3 of R84 for a command whose argument words define the bits of `masks`, whose input data has
at least `dataMin` bytes (none: no input data) and whose result needs `resMin` bytes (0: none). Log
entry 8 gives the XSTATUS of each part. DESIGN CHOICE (log entry 8). -/
def shape (q : Req) (masks : List Nat) (dataMin : Option Nat) (resMin : Nat) : List (Bool × Nat × Nat) :=
  [(decide (8 ≤ q.flags) || badArgs q masks, stMalformed, 0x0004),
   (match dataMin with | none => q.dataLen != 0 | some m => decide (q.dataLen < m), stMalformed, 0x0004),
   ((q.dataLen != 0 && q.dataAddr % 64 != 0) || (q.resultLen != 0 && q.resultAddr % 64 != 0),
     stMalformed, 0x0005),
   (if resMin = 0 then q.resultLen != 0 else decide (q.resultLen < resMin), stMalformed, 0x0006)]

/-- Check 4 of R84. -/
def absentIf (b : Bool) : Bool × Nat × Nat := (b, stAbsent, 0)
/-- Check 5 of R84. -/
def deniedIf (b : Bool) : Bool × Nat × Nat := (b, stDenied, 0)
/-- Check 7 of R84. -/
def fencedIf (b : Bool) : Bool × Nat × Nat := (b, stFenced, 0)
/-- A part of check 8 of R84. -/
def limitIf (b : Bool) (x : Nat) : Bool × Nat × Nat := (b, stLimit, x)

/-- Wind-down has reached DONE: only queries execute (R69). -/
def Dev.wdDone (d : Dev) : Bool := d.mode.cur == .windDown && d.bit MODE_WD_STATUS 8

/-- Check 6 of R84: the command runs only in the modes listed. -/
def Dev.modeIs (d : Dev) (q : Req) (ms : List Mode) : Bool × Nat × Nat :=
  (!ms.contains d.mode.cur || (d.wdDone && !reqQuery q), stReject, 0)

/-- BIST_LC.STATE: 0 BLANK, 1 MANUFACTURE, 2 DEPLOYED, 3 SERVICE, 4 RETIRED (R522). -/
def Fuses.state (f : Fuses) : Nat :=
  if f.retire then 4 else if f.deploy ∧ f.returns < f.entries then 3
  else if f.deploy then 2 else if f.manuf then 1 else 0

/-- The life-cycle in force: that of the latched fuses (R523). -/
def Dev.lcState (d : Dev) : Nat := d.bist.latched.state

/-- The life-cycle permits a mode (R50). -/
def Dev.lcMode (d : Dev) : Mode → Bool
  | .calibrate => d.lcState == 1 || d.lcState == 2 || d.lcState == 3
  | .build => d.lcState == 2 || d.lcState == 3
  | _ => true

/-- Every mode with CONTROL rings (R56). -/
def allModes : List Mode := [.configure, .standby, .calibrate, .build, .hold, .safe, .service, .windDown]

/-- A command: checks made before data is read, and its effect, which completes it or leaves it in
flight. -/
structure Cmd where
  check : Dev → Req → Option Failure
  effect : Req → Env → Dev → Dev

/-- Check 9 of R84: how the read of the input data failed. -/
def dataFailure : ReadFail → Failure
  | .urCa => (stTimeout, 0x0007)
  | .poisoned => (stTimeout, 0x0008)
  | .timeout => (stTimeout, 0x0009)

/-- The descriptor joins the ring's work in flight (R86). -/
def Dev.launch (d : Dev) (q : Req) : Dev :=
  d.modRing q.ring (fun r => { r with
    inflight := r.inflight ++ [q]
    barrier := if reqBarrier q then some q else r.barrier })

/-- The read of a command's input data has failed: AER tells it, the error bit is set, and the command fails (R71,
check 9 of R84). -/
def Dev.dataReadFailed (d : Dev) (q : Req) (f : ReadFail) : Dev :=
  ((d.send (.aer true)).hifError 3 q.ring).fail q (dataFailure f).1 (dataFailure f).2

/-- The effect of a command whose checks passed, once its data has been read or has failed to be. -/
def Cmd.finish (c : Cmd) (q : Req) (e : Env) (d : Dev) : Dev :=
  match q.dataLen, e.dataFail with
  | 0, _ => c.effect q e d
  | _, none => c.effect q { e with data := e.data.take q.dataLen } d
  | _, some f => d.dataReadFailed q f

/-- A command starts, is checked and takes its effect. -/
def Cmd.run (c : Cmd) (q : Req) (e : Env) (d : Dev) : Dev :=
  let d := d.launch q
  match c.check d q with
  | some (st, x) => d.fail q st x
  | none => c.finish q e d

/-- Commands on this ring can start: it is enabled, and CONTROL and STREAM rings need the supervisor
image (R77). -/
def Dev.ringRuns (d : Dev) (n : Nat) : Bool := d.ringOn n && (d.ringType n == 1 || d.mode.fwSup)

/-- The device runs BUILD descriptors in this mode (R77). -/
def Dev.buildRuns (d : Dev) : Bool := [Mode.standby, .calibrate, .hold, .build].contains d.mode.cur

/-- Descriptors of this ring can be fetched and started (R77, R87, R361); a STREAM ring of no source is inactive
(R98). -/
def Dev.ringLive (d : Dev) (n : Nat) : Bool :=
  d.ringRuns n && !d.barrierStop n && !(d.ring n).stopped && (d.ringType n != 1 || d.buildRuns)
    && (d.ringType n != 3 || d.fld (HIF_RING_STREAM n) 0 4 != 0)

/-- A descriptor that only BUILD runs, or a third open layer, waits at the head of its ring (R77, R107). -/
def Dev.needsWait (d : Dev) (q : Req) : Bool :=
  d.ringType q.ring == 1 &&
    ((q.op == 0x0202 && d.mode.cur != .build) || (q.op == 0x0201 && decide (2 ≤ d.lay.opened.length)))

/-- A fetched descriptor can start now (R77, R86, R87, R107). -/
def Dev.canStart (d : Dev) (q : Req) : Bool :=
  let r := d.ring q.ring
  d.ringLive q.ring && r.barrier.isNone
    && (!(reqBarrier q || reqDrain q) || r.inflight.isEmpty)
    && (d.ringType q.ring != 2 || decide (r.inflight.length < 16))
    && !d.needsWait q

/-- The next descriptor of its ring can start: nothing fetched earlier waits in front of it (R86). -/
def Dev.mayTake (d : Dev) (q : Req) : Bool := d.canStart q && (d.ring q.ring).prefetch.isEmpty

/-- Nothing of the host's reaches the device before boot step 5 of R61 (R556), nor while the power-fail
flush holds the host interface in reset (R499). DEDUCED (log entry 6). -/
def State.whenUp (s : State) (f : Dev → Dev) : Host.Outcome State Fault Refusal :=
  .next (if s.dev.mode.boot < 4 || s.dev.rcd.pfail then s else { s with dev := f s.dev })

/-- The next state of a command that acts on the device, which does nothing in reset. DEDUCED (log entry 6). -/
def State.on (s : State) (f : Dev → Dev) : Host.Outcome State Fault Refusal :=
  .next (if s.dev.mode.boot = 0 then s else { s with dev := f s.dev })

/-- The next descriptor of its ring, of opcode `op`. Where it cannot start it is left unexecuted, and a ring whose
type does not accept the group completes it MALFORMED (R75, R77, R86, R87). DESIGN CHOICE (log entry 16). -/
def State.command (s : State) (op : Nat) (c : Cmd) (q : Req) (e : Env) : Host.Outcome State Fault Refusal :=
  s.whenUp (fun d =>
    let q := { q with op := op }
    if !d.mayTake q then d
    else if !groupOn op (d.ringType q.ring) then (d.launch q).fail q stMalformed 0x0003
    else c.run q e d)

end Sys2Proof.Machine
end

