-- ==== Sys2Proof/Machine/Tables.lean ====
section
/-! DEFINITION. Parameter tables: formats, checks and commands (R129 to R134). -/

namespace Sys2Proof.Machine

/-! ## The fields of a parameter set (R132) -/

def psPower (p : List Byte) : Nat := bytesAt p 0 4
def psMarkSpeed (p : List Byte) : Nat := bytesAt p 4 4
def psJumpSpeed (p : List Byte) : Nat := bytesAt p 8 4
def psAccel (p : List Byte) : Nat := bytesAt p 12 4
def psJerk (p : List Byte) : Nat := bytesAt p 16 4
def psSkyLead (p : List Byte) : Nat := bytesAt p 20 4
def psSkyLag (p : List Byte) : Nat := bytesAt p 24 4
def psFocus (p : List Byte) : Int := intAt p 28 2
def psSpot (p : List Byte) : Nat := bytesAt p 30 1
def psCurve (p : List Byte) : Nat := bytesAt p 31 1
def psWeir (p : List Byte) : Nat := bytesAt p 32 4
def psFfGain (p : List Byte) : Nat := bytesAt p 36 2
def psFbEn (p : List Byte) : Nat := bytesAt p 38 2
def psKpPd (p : List Byte) : Int := intAt p 40 2
def psKiPd (p : List Byte) : Int := intAt p 42 2
def psKpCam (p : List Byte) : Int := intAt p 44 2
def psKiCam (p : List Byte) : Int := intAt p 46 2
def psFbMin (p : List Byte) : Int := intAt p 48 2
def psFbMax (p : List Byte) : Int := intAt p 50 2
def psPdTarget (p : List Byte) : Nat := bytesAt p 52 2
def psCamTarget (p : List Byte) : Nat := bytesAt p 54 2
def psOvl (p : List Byte) : Nat := bytesAt p 56 4
def psRevisit (p : List Byte) : Nat := bytesAt p 60 4
def psRampOn (p : List Byte) : Nat := bytesAt p 64 1
def psRampOff (p : List Byte) : Nat := bytesAt p 65 1
def psPulsed (p : List Byte) : Bool := bytesAt p 66 1 == 1
def psPeriod (p : List Byte) : Nat := bytesAt p 68 4
def psWidth (p : List Byte) : Nat := bytesAt p 72 4

/-- The byte offset of the first field of a set outside the limits of R132; none when all are within. -/
def psCheck (p : List Byte) : Option Nat :=
  let out (v lo hi : Nat) : Bool := decide (v < lo) || decide (hi < v)
  let outI (v lo hi : Int) : Bool := decide (v < lo) || decide (hi < v)
  let w := psWeir p
  let pulsed := psPulsed p
  ([ (0, out (psPower p) 0 (Nat.min w 16777215)),
     (4, out (psMarkSpeed p) 1000 20000000), (8, out (psJumpSpeed p) 1000 40000000),
     (12, out (psAccel p) 1000 2000000000), (16, out (psJerk p) 1 4000000000),
     (20, out (psSkyLead p) 0 2000000), (24, out (psSkyLag p) 0 2000000),
     (28, outI (psFocus p) (-20000) 20000), (30, out (psSpot p) 0 15), (31, out (psCurve p) 0 15),
     (32, out w 1 16777215), (36, out (psFfGain p) 0 0x8000), (38, out (psFbEn p) 0 15),
     (40, outI (psKpPd p) (-0x7FFF) 0x7FFF), (42, outI (psKiPd p) (-0x7FFF) 0x7FFF),
     (44, outI (psKpCam p) (-0x7FFF) 0x7FFF), (46, outI (psKiCam p) (-0x7FFF) 0x7FFF),
     (48, outI (psFbMin p) (-0x4000) 0), (50, outI (psFbMax p) 0 0x4000),
     (52, out (psPdTarget p) 0 16383), (54, out (psCamTarget p) 0 4096),
     (56, out (psOvl p) 400 8000), (60, out (psRevisit p) 0 10000000),
     (64, out (psRampOn p) 0 31), (65, out (psRampOff p) 0 31),
     (66, out (bytesAt p 66 1) 0 1), (67, bytesAt p 67 1 != 0),
     (68, if pulsed then out (psPeriod p) 160 160000000 else psPeriod p != 0),
     (72, if pulsed then out (psWidth p) 1 (psPeriod p - 1) else psWidth p != 0),
     (76, !allZero (p.drop 76)) ].find? (fun x => x.2)).map (fun x => x.1)

/-- Blocks of `k` bytes. -/
def blocksOf (k : Nat) : Nat → List Byte → List (List Byte)
  | 0, _ => []
  | n + 1, b => b.take k :: blocksOf k n (b.drop k)

/-- The table a PTAB_LOAD's data spells, or status, XSTATUS, RESULT0 and RESULT1 of its failure (R131, R132). R131
orders no checks: HDR_CRC comes first, then every field of 0x0401 together, then COUNT, then SET_CRC, then the sets.
DEDUCED (log entry 9). -/
def parseTable (b : List Byte) : Except (Nat × Nat × Nat × Nat) Table :=
  let n := bytesAt b 6 2
  let sets := (b.drop 64).take (128 * n)
  if crc32c (b.take 60) ≠ bytesAt b 60 4 then .error (stCrc, 0x0407, 0, 0)
  else if bytesAt b 0 4 ≠ 0x51544150 ∨ bytesAt b 4 2 ≠ 1 ∨ bytesAt b 8 4 = 0 ∨ !allZero ((b.drop 16).take 44)
    then .error (stMalformed, 0x0401, 0, 0)
  else if n < 1 ∨ 256 < n ∨ b.length ≠ 64 + 128 * n then .error (stMalformed, 0x0405, 0, 0)
  else if crc32c sets ≠ bytesAt b 12 4 then .error (stCrc, 0x0406, 0, 0)
  else
    let ps := blocksOf 128 n sets
    match ps.findIdx? (fun p => (psCheck p).isSome) with
    | some i => .error (stLimit, 0x0410, i, (psCheck (ps.getD i [])).getD 0)
    | none => .ok ⟨bytesAt b 8 4, ps, sha384 b⟩

/-- The modes the parameter-set group runs in (R129). -/
def tableModes : List Mode := [.standby, .calibrate, .build, .hold, .service]

/-- An open layer references the table (R109). -/
def Dev.tableUsed (d : Dev) (id : Nat) : Bool :=
  (match d.replay with | some r => r.opened | none => d.lay.opened).any (fun l => l.ptab == id)

/-- The slot that holds a table ID. -/
def Dev.slotOf (d : Dev) (id : Nat) : Option Nat :=
  d.lay.slots.findIdx? (fun t => match t with | some t => t.id == id | none => false)

/-- The loaded table of an ID. -/
def Dev.table (d : Dev) (id : Nat) : Option Table :=
  (d.lay.slots.find? (fun t => match t with | some t => t.id == id | none => false)).join

def Dev.setSlot (d : Dev) (i : Nat) (t : Option Table) : Dev :=
  { d with lay := { d.lay with slots := d.lay.slots.set i t } }

def cmdPtabLoad : Cmd where
  check d q := firstFail (shape q [] (some 64) 0 ++ [d.modeIs q tableModes])
  effect q e d :=
    match parseTable e.data with
    | .error (st, x, r0, r1) => d.complete q st x (words4 r0 r1 0 0)
    | .ok t =>
      if d.tableUsed t.id then d.fail q stLimit 0x0402
      else
        match d.slotOf t.id, d.lay.slots.findIdx? (fun x => x.isNone) with
        | some i, _ => (d.setSlot i (some t)).ok q 0 0 0 0
        | none, some i => (d.setSlot i (some t)).ok q 0 0 0 0
        | none, none => d.fail q stLimit 0x0403

def execPtabLoad (r : Req) (e : Env) (s : State) : Host.Outcome State Fault Refusal :=
  s.command 0x0401 cmdPtabLoad r e

def cmdPtabDrop : Cmd where
  check d q := firstFail (shape q [0xFFFFFFFF] none 0 ++ [d.modeIs q tableModes,
    limitIf (d.tableUsed q.a0.toNat) 0x0402, limitIf (d.slotOf q.a0.toNat).isNone 0x0404])
  effect q _ d :=
    match d.slotOf q.a0.toNat with
    | some i => (d.setSlot i none).ok q 0 0 0 0
    | none => d.fail q stLimit 0x0404

def execPtabDrop (r : Req) (e : Env) (s : State) : Host.Outcome State Fault Refusal :=
  s.command 0x0402 cmdPtabDrop r e

def cmdPtabQuery : Cmd where
  check d q := firstFail (shape q [] none 0 ++ [d.modeIs q tableModes])
  effect q _ d :=
    let id (i : Nat) : Nat := match d.lay.slots.getD i none with | some t => t.id | none => 0
    d.ok q (id 0) (id 1) (id 2) (id 3)

def execPtabQuery (r : Req) (e : Env) (s : State) : Host.Outcome State Fault Refusal :=
  s.command 0x0480 cmdPtabQuery r e

end Sys2Proof.Machine
end

