-- ==== Sys2Proof/Machine/Profile.lean ====
section
/-! DEFINITION. The jerk-limited profile and the exact roundings of its figures (R145 to R152).
Speeds are in bu/s times 2^40, times in seconds times 2^80, distances in bu times 2^80, unless a name
says otherwise. -/

namespace Sys2Proof.Machine

/-- Speed scale. -/
def sv : Nat := 2 ^ 40
/-- Time and distance scale. -/
def sd : Nat := 2 ^ 80
/-- One 500 ns tick as a time. -/
def tickT : Nat := sd / 2000000

/-! ## Units of a set (05, Units and arithmetic) -/

/-- MARK_SPEED in bu/s. -/
def markV (p : List Byte) : Nat := 4 * psMarkSpeed p
/-- JUMP_SPEED in bu/s. -/
def jumpV (p : List Byte) : Nat := 4 * psJumpSpeed p
/-- ACCEL in bu/s². -/
def accA (p : List Byte) : Nat := 4000 * psAccel p
/-- JERK in bu/s³. -/
def jerkJ (p : List Byte) : Nat := 4000000 * psJerk p

/-! ## Ramps -/

/-- The time to change speed by dv. -/
def rampTime (dv a j : Nat) : Nat :=
  if dv = 0 then 0
  else if a * a * sv ≤ dv * j then dv * 2 ^ 40 / a + a * sd / j
  else 2 * isqrt (dv * 2 ^ 120 / j)

/-- The distance of a speed change. -/
def rampDist (va vb a j : Nat) : Nat :=
  (va + vb) * rampTime (if va < vb then vb - va else va - vb) a j / 2 ^ 41

/-- 40 steps of bisection: the largest speed found that fits. -/
def bisect (fits : Nat → Bool) : Nat → Nat → Nat → Nat
  | 0, lo, _ => lo
  | n + 1, lo, hi => let m := (lo + hi) / 2; if fits m then bisect fits n m hi else bisect fits n lo m

/-- peak_speed of the chapter. -/
def peakSpeed (len v0 v1 vmax a j : Nat) : Nat :=
  if rampDist v0 vmax a j + rampDist vmax v1 a j ≤ len then vmax
  else bisect (fun v => decide (rampDist v0 v a j + rampDist v v1 a j ≤ len)) 40 (Nat.max v0 v1) vmax

/-- v_reach of R148: the largest speed from which vb is reached within len. -/
def vReach (vb len a j vmax : Nat) : Nat :=
  if rampDist vmax vb a j ≤ len then Nat.max vb vmax
  else bisect (fun v => decide (rampDist v vb a j ≤ len)) 40 vb vmax

/-- Distance covered after time t of a rising speed change from va to vb. -/
def risePos (va vb a j t : Nat) : Nat :=
  let dv := vb - va
  let total := rampTime dv a j
  let t := Nat.min t total
  let trap := a * a * sv ≤ dv * j
  -- the jerk phases last t1; the acceleration between them is ap (bu/s² times 2^40)
  let t1 := if trap then a * sd / j else total / 2
  let ap := if trap then a * sv else j * t1 / 2 ^ 40
  let cube (u : Nat) : Nat := j * (u * u / sd) / sd * u / 6
  let s1 := va * t1 / sv + cube t1
  let v1 := va + ap * t1 / sd / 2
  if t ≤ t1 then va * t / sv + cube t
  else if t ≤ total - t1 then
    let u := t - t1
    s1 + v1 * u / sv + (ap * u / sv) * u / sd / 2
  else
    let u := total - t
    rampDist va vb a j + cube u - vb * u / sv

/-- Speed after time t of a rising speed change. -/
def riseVel (va vb a j t : Nat) : Nat :=
  let dv := vb - va
  let total := rampTime dv a j
  let t := Nat.min t total
  let trap := a * a * sv ≤ dv * j
  let t1 := if trap then a * sd / j else total / 2
  let sq (u : Nat) : Nat := j * (u * u / sd) / 2 ^ 41
  if t ≤ t1 then va + sq t
  else if t ≤ total - t1 then va + sq t1 + a * sv * (t - t1) / sd
  else vb - sq (total - t)

/-! ## One straight profile -/

/-- A straight profile: entry, peak and exit speed over a length. -/
structure Prof where
  len : Nat
  v0 : Nat
  vp : Nat
  v1 : Nat
  a : Nat
  j : Nat

def mkProf (len v0 v1 vmax a j : Nat) : Prof := ⟨len, v0, peakSpeed len v0 v1 vmax a j, v1, a, j⟩

/-- The exit speed cannot be reached within the length: R146 says that this does not happen, but the first
record of a chain enters at MARK_SPEED whatever its length (R148). Its course is a free value (log entry
77). DESIGN CHOICE (log entry 77). -/
def Prof.short (p : Prof) : Bool := decide (p.len < rampDist p.v0 p.vp p.a p.j + rampDist p.vp p.v1 p.a p.j)

/-- The free course of a short profile: `what` 0 its time, 1 the distance, 2 the speed, 3 the phase at t.
DESIGN CHOICE (log entry 77). -/
def Prof.free (p : Prof) (what t : Nat) : Nat := Config.shortProfile what p.len p.v0 p.v1 p.a p.j t

/-- The times of the three parts. -/
def Prof.t1 (p : Prof) : Nat := rampTime (p.vp - p.v0) p.a p.j
def Prof.t3 (p : Prof) : Nat := rampTime (p.vp - p.v1) p.a p.j
def Prof.cruise (p : Prof) : Nat := p.len - rampDist p.v0 p.vp p.a p.j - rampDist p.vp p.v1 p.a p.j
def Prof.t2 (p : Prof) : Nat := if p.vp = 0 then 0 else p.cruise * sv / p.vp
def Prof.time (p : Prof) : Nat := if p.short then p.free 0 0 else p.t1 + p.t2 + p.t3

/-- The distance covered at time t. -/
def Prof.pos (p : Prof) (t : Nat) : Nat :=
  if p.short then Nat.min p.len (p.free 1 t)
  else if t ≤ p.t1 then risePos p.v0 p.vp p.a p.j t
  else if t ≤ p.t1 + p.t2 then rampDist p.v0 p.vp p.a p.j + p.vp * (t - p.t1) / sv
  else p.len - risePos p.v1 p.vp p.a p.j (p.time - t)

/-- The speed at time t. -/
def Prof.vel (p : Prof) (t : Nat) : Nat :=
  if p.short then p.free 2 t
  else if t ≤ p.t1 then riseVel p.v0 p.vp p.a p.j t
  else if t ≤ p.t1 + p.t2 then p.vp
  else riseVel p.v1 p.vp p.a p.j (p.time - t)

/-- 1 while the speed rises at time t, 2 while it falls, 0 at cruise and at rest (R157). -/
def Prof.phase (p : Prof) (t : Nat) : Nat :=
  if p.short then p.free 3 t % 3
  else if t < p.t1 then 1 else if t ≤ p.t1 + p.t2 then 0 else if t < p.time then 2 else 0

/-- The time at which a distance has been covered: bisection over the monotone position, to 2^-80 s. -/
def Prof.timeAt (p : Prof) (s : Nat) : Nat :=
  bisect (fun t => decide (p.pos t ≤ s)) 110 0 (p.time + 1)

/-! ## Exact figures (R145) -/

/-- floor((p + √(m/n)) / q) for q, n > 0, exactly. -/
def floorRoot (p q m n : Nat) : Nat := (p + isqrt (m / n)) / q

/-- A non-negative number p/q + √(m/n). -/
structure Surd where
  p : Nat
  q : Nat
  m : Nat
  n : Nat

/-- Its floor: floor((p + √(q² m / n)) / q). -/
def Surd.floor (x : Surd) : Nat := floorRoot x.p x.q (x.q * x.q * x.m) x.n

/-- Rounded to nearest, ties away from zero. -/
def Surd.round (x : Surd) : Nat := Surd.floor ⟨2 * x.p + x.q, 2 * x.q, x.m, x.n⟩

/-- A rational added. -/
def Surd.add (x : Surd) (p q : Nat) : Surd := ⟨x.p * q + p * x.q, x.q * q, x.m, x.n⟩

/-- x equals a whole number k exactly. -/
def Surd.isNat (x : Surd) (k : Nat) : Bool :=
  decide (x.p ≤ k * x.q) && decide (x.m * (x.q * x.q) = (k * x.q - x.p) * (k * x.q - x.p) * x.n)

/-- Its ceiling. -/
def Surd.ceil (x : Surd) : Nat := if x.isNat x.floor then x.floor else x.floor + 1

/-- ramp_time(v) of a whole speed, exactly, in seconds. -/
def rampTimeX (v a j : Nat) : Surd :=
  if v = 0 then ⟨0, 1, 0, 1⟩
  else if a * a ≤ v * j then ⟨v * j + a * a, a * j, 0, 1⟩
  else ⟨0, 1, 4 * v, j⟩

/-- ramp_dist(0, v) exactly, in bu. -/
def rampDistX (v a j : Nat) : Surd :=
  if v = 0 then ⟨0, 1, 0, 1⟩
  else if a * a ≤ v * j then ⟨v * (v * j + a * a), 2 * a * j, 0, 1⟩
  else ⟨0, 1, v * v * v, j⟩

/-- lead_bu of R152. -/
def leadBu (p : List Byte) : Nat :=
  ((rampDistX (markV p) (accA p) (jerkJ p)).add (markV p * psSkyLead p) 1000000000).round

/-- The length of a vector between two points, in bu times 2^80. -/
def distBu (ax ay bx by_ : Int) : Nat :=
  isqrt (((bx - ax) * (bx - ax) + (by_ - ay) * (by_ - ay)).toNat * 2 ^ 160)

end Sys2Proof.Machine
end

