-- ==== Sys2Proof/Machine/Geometry.lean ====
section
/-! DEFINITION. Positions in the bed frame: field extents and correction grids (R172 to R177), lock
polygons (R199 to R203) and the stitching geometry (R210, R211), all in exact integers. -/

namespace Sys2Proof.Machine

/-! ## Field extent and grid evaluation -/

/-- (x, y) lies in the extent of a grid (R173). -/
def Grid.inExtent (g : Grid) (x y : Int) : Bool :=
  decide (g.x0 ≤ x) && decide (x ≤ g.x0 + ((g.nx - 1) * g.px : Nat)) &&
  decide (g.y0 ≤ y) && decide (y ≤ g.y0 + ((g.ny - 1) * g.py : Nat)) &&
  (g.radius == 0 || decide ((x - g.cx) * (x - g.cx) + (y - g.cy) * (y - g.cy) ≤ (g.radius * g.radius : Nat)))

/-- Component c of node (i, j); zero off the lattice. -/
def Grid.raw (g : Grid) (c i j : Nat) : Int := intAt g.nodes (16 * (j * g.nx + i) + 4 * c) 4

/-- Linear extension along X by one node on either side (R174). -/
def Grid.nodeX (g : Grid) (c : Nat) (i : Int) (j : Nat) : Int :=
  if i < 0 then 2 * g.raw c 0 j - g.raw c 1 j
  else if (g.nx : Int) - 1 < i then 2 * g.raw c (g.nx - 1) j - g.raw c (g.nx - 2) j
  else g.raw c i.toNat j

/-- Linear extension along Y. -/
def Grid.node (g : Grid) (c : Nat) (i j : Int) : Int :=
  if j < 0 then 2 * g.nodeX c i 0 - g.nodeX c i 1
  else if (g.ny : Int) - 1 < j then 2 * g.nodeX c i (g.ny - 1) - g.nodeX c i (g.ny - 2)
  else g.nodeX c i j.toNat

/-- The Catmull-Rom cubic at t = n / m, values times 2^k: twice the value, to stay whole. -/
def catmull (p0 p1 p2 p3 n m : Int) : Int :=
  let inner := (2 * p0 - 5 * p1 + 4 * p2 - p3) + n * (3 * (p1 - p2) + p3 - p0) / m
  p1 + n * (p2 - p0 + n * inner / m) / m / 2

/-- grid_eval at a position in bu times 2^24, as field units times 2^32. -/
def Grid.eval (g : Grid) (c : Nat) (x y : Int) : Int :=
  let sx := (g.px : Int) * 2 ^ 24
  let sy := (g.py : Int) * 2 ^ 24
  let ux := x - g.x0 * 2 ^ 24
  let uy := y - g.y0 * 2 ^ 24
  let i := clampInt 0 ((g.nx : Int) - 2) (ux / sx)
  let j := clampInt 0 ((g.ny : Int) - 2) (uy / sy)
  let nx := ux - i * sx
  let ny := uy - j * sy
  let row (k : Int) : Int :=
    let at_ (di : Int) : Int := g.node c (i + di) (j + k) * 2 ^ 32
    catmull (at_ (-1)) (at_ 0) (at_ 1) (at_ 2) nx sx
  catmull (row (-1)) (row 0) (row 1) (row 2) ny sy

/-- The grid barges are checked against: the newest one (R186). -/
def BeamGrids.newest (b : BeamGrids) : Option Grid := match b.pending with | some g => some g | none => b.active

/-- (x, y) lies in the field extent of beam b's newest grid; a beam without a grid has an empty extent. -/
def Dev.inField (d : Dev) (b : Nat) (x y : Int) : Bool :=
  match (d.beamGrids b).newest with | some g => g.inExtent x y | none => false

/-! ## Locks -/

/-- The lock is defined. -/
def Dev.lockValid (d : Dev) (i : Nat) : Bool := d.bit (LK_LOCK_CTRL i) 31

/-- The vertex count: 0 means 16. -/
def Dev.lockN (d : Dev) (i : Nat) : Nat := let n := d.fld (LK_LOCK_CTRL i) 20 4; if n = 0 then 16 else n

/-- The polygon's vertices. -/
def Dev.lockVerts (d : Dev) (i : Nat) : List (Int × Int) :=
  (List.range (d.lockN i)).map (fun k => (d.rdI (LK_LOCK_VX i k), d.rdI (LK_LOCK_VY i k)))

/-- The local member beams. -/
def Dev.lockMembers (d : Dev) (i : Nat) : Nat := d.fld (LK_LOCK_CTRL i) 0 16

/-- The directed edges of a polygon. -/
def edges (vs : List (Int × Int)) : List ((Int × Int) × (Int × Int)) := List.zip vs (vs.drop 1 ++ vs.take 1)

/-- The cross product (b − a) × (q − a). -/
def cross (a b q : Int × Int) : Int := (b.1 - a.1) * (q.2 - a.2) - (b.2 - a.2) * (q.1 - a.1)

/-- in_lock of R202. -/
def inPoly (vs : List (Int × Int)) (x y : Int) : Bool := (edges vs).all (fun e => decide (0 ≤ cross e.1 e.2 (x, y)))

/-- The polygon is counter-clockwise and strictly convex (R200). -/
def convex (vs : List (Int × Int)) : Bool :=
  (List.zip (edges vs) (vs.drop 2 ++ vs.take 2)).all (fun p => decide (0 < cross p.1.1 p.1.2 p.2))

/-- The conditions of R200 on a definition. -/
def Dev.lockOk (d : Dev) (i : Nat) : Bool :=
  let n := d.lockN i
  let vs := d.lockVerts i
  let m := d.lockMembers i
  let xen := d.bit (LK_LOCK_XDEV i) 31
  let peers := d.fld (LK_LOCK_XDEV i) 0 16
  let count (x : Nat) : Nat := (bitList 16 x).length
  decide (3 ≤ n) && decide (n ≤ 16) &&
  vs.all (fun v => decide (v.1.natAbs ≤ 2144000) && decide (v.2.natAbs ≤ 2144000)) && convex vs &&
  decide (m < 2 ^ nBeams d.variant) &&
  (if xen then
    decide (2 ≤ count m + count peers) && decide (0 < nByoft d.variant) &&
    d.fld (LK_LOCK_XDEV i) 24 3 != d.devId && peers != 0
  else decide (2 ≤ count m))

/-- The defined locks whose members include every beam of a set, with both points inside (R122). -/
def Dev.lockOfPoints (d : Dev) (set : Nat) (pts : List (Int × Int)) : Option Nat :=
  (List.range 64).find? (fun i =>
    d.lockValid i && (set &&& d.lockMembers i) == set &&
      pts.all (fun p => inPoly (d.lockVerts i) p.1 p.2))

/-! ## Stitching geometry (R210, R211) -/

/-- x √D + y ≥ 0, exactly. -/
def rootNonneg (x : Int) (dd : Nat) (y : Int) : Bool :=
  if 0 ≤ x then decide (0 ≤ y) || decide (y * y ≤ x * x * dd)
  else decide (0 ≤ y) && decide (x * x * dd ≤ y * y)

/-- Least true value in [lo, hi] of a predicate false then true, true at hi. -/
def leastTrue (p : Nat → Bool) : Nat → Nat → Nat → Nat
  | 0, _, hi => hi
  | n + 1, lo, hi => if hi ≤ lo then hi else
      let m := (lo + hi) / 2
      if p m then leastTrue p n lo m else leastTrue p n (m + 1) hi

/-- Greatest true value in [lo, hi] of a predicate true then false, true at lo. -/
def greatestTrue (p : Nat → Bool) : Nat → Nat → Nat → Nat
  | 0, lo, _ => lo
  | n + 1, lo, hi => if hi ≤ lo then lo else
      let m := (lo + hi + 1) / 2
      if p m then greatestTrue p n m hi else greatestTrue p n lo (m - 1)

/-- The values of [0, n] that meet a convex predicate, given points that meet it if any does. -/
def convexRange (p : Nat → Bool) (n : Nat) (seeds : List Nat) : Option (Nat × Nat) :=
  match seeds.find? (fun m => decide (m ≤ n) && p m) with
  | none => none
  | some m => some (leastTrue p 64 0 m, greatestTrue p 64 m n)

/-- The common part of two ranges. -/
def meet : Option (Nat × Nat) → Option (Nat × Nat) → Option (Nat × Nat)
  | some (a, b), some (c, e) => if Nat.max a c ≤ Nat.min b e then some (Nat.max a c, Nat.min b e) else none
  | _, _ => none

/-- lag0 of R211: rounded up to whole bu. -/
def lag0 (p : List Byte) : Nat :=
  ((rampDistX (markV p) (accA p) (jerkJ p)).add (markV p * psSkyLag p) 1000000000).ceil

/-- The point at half-arc t / 2 along r lies in the extent of g: the conditions as predicates of p, with
t = 2 p + off. -/
def extentRange (g : Grid) (r : Rec) (dd n : Nat) (off : Int) : Option (Nat × Nat) :=
  let dx := r.x - r.sx
  let dy := r.y - r.sy
  let t (p : Nat) : Int := 2 * (p : Int) + off
  let line (a d : Int) : Option (Nat × Nat) := convexRange (fun p => rootNonneg (2 * a) dd (d * t p)) n [0, n]
  let x1 := g.x0 + ((g.nx - 1) * g.px : Nat)
  let y1 := g.y0 + ((g.ny - 1) * g.py : Nat)
  let rect := meet (meet (line (r.sx - g.x0) dx) (line (x1 - r.sx) (-dx)))
    (meet (line (r.sy - g.y0) dy) (line (y1 - r.sy) (-dy)))
  if g.radius = 0 then rect else
    let ex := r.sx - g.cx
    let ey := r.sy - g.cy
    let dot := dx * ex + dy * ey
    let inside (p : Nat) : Bool :=
      rootNonneg (4 * (g.radius * g.radius : Nat) - 4 * (ex * ex + ey * ey) - t p * t p) dd (-4 * t p * dot)
    -- the arc nearest the centre: −dot / √D
    let s : Int := if 0 < dot then -(isqrt ((dot * dot).toNat / Nat.max dd 1) : Int)
      else (isqrt ((dot * dot).toNat / Nat.max dd 1) : Int)
    let c : Int := (2 * s - off) / 2
    meet rect (convexRange inside n (([-2, -1, 0, 1, 2] : List Int).map (fun k => (clampInt 0 n (c + k)).toNat)))

/-- The stitch interval of a split record for lock polygon `vs`: `reach0` and `reach1` give the arcs at which a point set
off from them lies in the extent of half 0's beam and half 1's, by twice the offset. -/
def stitchInterval (r : Rec) (p : List Byte) (vs : List (Int × Int)) (reach0 reach1 : Int → Option (Nat × Nat)) :
    Option (Nat × Nat) :=
  let dd := ((r.x - r.sx) * (r.x - r.sx) + (r.y - r.sy) * (r.y - r.sy)).toNat
  let n := isqrt dd
  let ovl := psOvl p
  let lead1 := leadBu p
  let lag := lag0 p
  let edge (e : (Int × Int) × (Int × Int)) (off : Int) : Option (Nat × Nat) :=
    let fa := cross e.1 e.2 (r.sx, r.sy)
    let fb := cross e.1 e.2 (r.x, r.y)
    convexRange (fun q => rootNonneg (2 * fa) dd ((fb - fa) * (2 * (q : Int) + off))) n [0, n]
  let lock := (edges vs).foldl (fun acc e => meet acc (meet (edge e (-(ovl : Int))) (edge e ovl))) (some (0, n))
  let runUp := convexRange (fun q => decide (ovl + 2 * lead1 ≤ 2 * q)) n [n]
  let lagEnd := convexRange (fun q => decide ((2 * q + ovl + 2 * lag) * (2 * q + ovl + 2 * lag) ≤ 4 * dd)) n [0]
  meet (meet lock (meet runUp lagEnd))
    (meet (reach1 (-((ovl : Int) + 2 * lead1))) (reach0 ((ovl : Int) + 2 * lag)))

/-- The grid that gives the extent of local beam b: the newest, or the active one (R173, R186). -/
def Dev.extentGrid (d : Dev) (newest : Bool) (b : Nat) : Option Grid :=
  if newest then (d.beamGrids b).newest else (d.beamGrids b).active

/-- (x, y) lies in the extent of global beam g; that of a peer's beam is free (log entry 95).
DEDUCED (log entry 95). -/
def Dev.reaches (d : Dev) (newest : Bool) (g : Nat) (x y : Int) : Bool :=
  if g / 16 = d.devId then (match d.extentGrid newest (g % 16) with | some e => e.inExtent x y | none => false)
  else Config.peerInside g x y

/-- The arcs p of a record at which the point at p + off / 2 lies in the extent of global beam g.
DEDUCED (log entry 95). -/
def Dev.reachRange (d : Dev) (newest : Bool) (g : Nat) (r : Rec) (off : Int) : Option (Nat × Nat) :=
  let dd := ((r.x - r.sx) * (r.x - r.sx) + (r.y - r.sy) * (r.y - r.sy)).toNat
  if g / 16 = d.devId then (d.extentGrid newest (g % 16)).bind (fun e => extentRange e r dd (isqrt dd) off)
  else Config.peerRange g r.sx r.sy r.x r.y off

/-- Lock i takes in member beams of a peer that is there (R204, R225). -/
def Dev.lockShared (d : Dev) (i : Nat) : Bool :=
  d.bit (LK_LOCK_XDEV i) 31 && d.bit (LK_LOCK_STATUS i) 16 && d.members.contains (d.fld (LK_LOCK_XDEV i) 24 3)

/-- The peer's member beams of lock i, as global beams; none where the lock is not shared. -/
def Dev.lockPeers (d : Dev) (i : Nat) : List Nat :=
  if d.lockShared i then (bitList 16 (d.fld (LK_LOCK_XDEV i) 0 16)).map (fun b => d.fld (LK_LOCK_XDEV i) 24 3 * 16 + b)
  else []

/-- Global beam g is a member of lock i. -/
def Dev.lockHas (d : Dev) (i g : Nat) : Bool :=
  if g / 16 = d.devId then (d.lockMembers i).testBit (g % 16) else (d.lockPeers i).contains g

/-- A way to split a chain: split record, lock, global beams of half 0 and half 1, interval. -/
structure Split where
  at_ : Nat
  lock : Nat
  b0 : Nat
  b1 : Nat
  lo : Nat
  hi : Nat
  deriving DecidableEq, Repr

/-- The splits of a chain that R210 allows: for each record with both skywriting times, each ordered
pair of distinct beams of the set and the lowest-numbered lock of both with a non-empty interval. A barge
is checked on the newest grids, an entry decided on the active ones, where a record with XDEV may also use a lock's peer
members (R173, R186, R204). DEDUCED (log entry 36). -/
def Dev.splits (d : Dev) (newest : Bool) (sets : List (List Byte)) (recs : List Rec) : List Split :=
  let r0 := recs.headD default
  let peers := if newest || !r0.flags.testBit 2 then [] else ((List.range 64).flatMap d.lockPeers).eraseDups
  let beams := (bitList 16 r0.elig).map d.gbeam ++ peers
  (List.range recs.length).flatMap (fun k =>
    let r := recs.getD k default
    let p := sets.getD r.pset []
    if psSkyLead p = 0 ∨ psSkyLag p = 0 ∨ (r.type ≠ 1 ∧ r.type ≠ 2) then [] else
    beams.flatMap (fun b0 => beams.filterMap (fun b1 =>
      if b0 = b1 then none else
      if (recs.take (k + 1)).all (fun q => d.reaches newest b0 q.sx q.sy) ∧
          (recs.drop k).all (fun q => d.reaches newest b1 q.x q.y) then
        (List.range 64).findSome? (fun l =>
          if d.lockValid l ∧ d.lockHas l b0 ∧ d.lockHas l b1 then
            (stitchInterval r p (d.lockVerts l) (d.reachRange newest b0 r) (d.reachRange newest b1 r)).map
              (fun i => ⟨k, l, b0, b1, i.1, i.2⟩)
          else none)
      else none)))

/-- The lock an unsplit entry of these records goes to (R203, R210). -/
def Dev.lockOfRecs (d : Dev) (recs : List Rec) : Option Nat :=
  let set := match recs with | r :: _ => r.elig | [] => 0
  d.lockOfPoints set (recs.flatMap (fun r => [(r.sx, r.sy), (r.x, r.y)]))

end Sys2Proof.Machine
end

