-- ==== Sys2Proof/Machine/Recorder.lean ====
section
/-! DEFINITION. The event recorder, Woram records as bytes, lifetime statistics and monitor slots
(19). -/

namespace Sys2Proof.Machine

/-! ## The merge and the buffer (R35, R493 to R500) -/

/-- The 32 bytes of an event record (R493). -/
def Event.bytes (e : Event) (seq : Nat) : List Byte :=
  leBytes 8 e.t ++ leBytes 4 seq ++ leBytes 1 e.src ++ leBytes 1 e.dev ++ leBytes 1 e.code
    ++ leBytes 1 e.flags ++ pay e.payload

/-- A record is a fault record: FLAGS bit 0. -/
def recIsFault (b : List Byte) : Bool := (bytesAt b 15 1).testBit 0

/-- The recorder buffer admits the event (R494). -/
def Dev.admits (d : Dev) (e : Event) : Bool :=
  e.flags.testBit 0 || (e.src == 1 && decide (0x20 ≤ e.code) && decide (e.code ≤ 0x24)) || e.src == 36
    || (e.src == 31 && e.code == 0x10)
    || d.bit (if e.src < 32 then REC_SRC_MASK0 else REC_SRC_MASK1) (e.src % 32)

/-- The record area in records: the MRAM above its first MiB, at most 16 MiB; zero while the MRAM is
not used (R497). -/
def Mram.area (m : Mram) : Nat := if m.usable then Nat.min 524288 ((m.mib - 1) * 32768) else 0

/-- The pointer slot that does not hold the highest valid GEN is written with GEN + 1 (R498). -/
def Mram.writePointer (m : Mram) (wptr : Nat) (full : Bool) : Mram :=
  let newer0 := m.slot0.valid && (!m.slot1.valid || decide (m.slot1.gen ≤ m.slot0.gen))
  let gen := (if m.slot0.valid ∨ m.slot1.valid then
    (if newer0 then m.slot0.gen else m.slot1.gen) + 1 else 1) % 2 ^ 32
  if newer0 then { m with slot1 := ⟨gen, wptr, full, true⟩ } else { m with slot0 := ⟨gen, wptr, full, true⟩ }

/-- Records are written at the end of the record area; one that is full then takes its mark (R498, R500). -/
def Dev.mramAppend (d : Dev) (bs : List (List Byte)) (pointer : Bool) : Dev :=
  let r := d.rcd
  let wptr := r.wptr + bs.length
  let full := decide (r.mram.area ≤ wptr)
  let m := { r.mram with recs := r.mram.recs.take r.wptr ++ bs }
  let m := if pointer || full then m.writePointer wptr full else m
  let d := { d with rcd := { r with wptr := wptr, full := full, mram := m } }
  if full then d.fault 36 3 else d

/-- Where a fault record displaces the newest unflushed non-fault record that is not being written
(R496): the buffer without it. -/
def displace (writing : Nat) (buf : List (List Byte)) : Option (List (List Byte)) :=
  let tail := (buf.drop writing).reverse
  match tail.findIdx? (fun b => !recIsFault b) with
  | none => none
  | some i => some (buf.take writing ++ (tail.eraseIdx i).reverse)

/-- A discard is counted (R496). -/
def Dev.recDiscard (d : Dev) : Dev :=
  let d := d.count REC_DROP_CNT 1
  { d with rcd := { d.rcd with dropped := d.rcd.dropped + 1 } }

/-- An admitted record enters the buffer, or in bypass goes straight to MRAM (R495, R496, R500, R503). DEDUCED
(log entry 31). DEDUCED (log entry 31). -/
def Dev.bufAdd (d : Dev) (b : List Byte) : Dev :=
  let r := d.rcd
  if r.bypass then
    if r.mram.usable && decide (r.wptr < r.mram.area) then d.mramAppend [b] false else d.recDiscard
  else if r.full || !r.mram.usable then
    { d with rcd := { r with buf := (r.buf ++ [b]).drop (r.buf.length + 1 - 8192) } }
  else if r.buf.length < 8192 then
    let d := { d with rcd := { r with buf := r.buf ++ [b] } }
    if r.buf.length + 1 = 4096 then d.startFlush else d
  else if recIsFault b then
    match displace r.writing r.buf with
    | some buf => ({ d with rcd := { r with buf := buf ++ [b] } }).recDiscard
    | none => d.recDiscard
  else d.recDiscard

/-- The Woram record takes the event (R507). -/
def Woram.takes (w : Woram) (e : Event) : Bool :=
  decide (w.start ≤ e.t) && (match w.closed with | some c => decide (e.t ≤ c) | none => true) &&
    ((decide (2 ≤ e.src) && decide (e.src ≤ 21)) || e.flags.testBit 0
      || (e.src == 1 && (e.code == 0x20 || e.code == 0x21 || e.code == 0x22)))

/-- The merge releases the first waiting event: sequence number, buffer, Woram record, event stream
(R35, R493). -/
def Dev.releaseOne (d : Dev) : Dev :=
  match d.rcd.waiting with
  | [] => d
  | e :: es =>
    let b := e.bytes d.rcd.seq
    let d := { d with rcd := { d.rcd with waiting := es, seq := (d.rcd.seq + 1) % 2 ^ 32 } }
    let old := match d.rcd.clearedAt with | some t => decide (e.t < t) | none => false
    let d := if d.admits e && !old then d.bufAdd b else d
    let d := match d.rcd.clearing with
      | some q => if e.src = 36 ∧ e.code = 0x51 then Dev.ok { d with rcd := { d.rcd with clearing := none } } q 0 0 0 0 else d
      | none => d
    let put (w : Woram) : Woram := if w.takes e then { w with items := w.items ++ [(7, b)] } else w
    ({ d with woram := d.woram.map put, closing := d.closing.map put }).stream 1 0 b false

/-- REC_DROP once room has returned (R496). -/
def Dev.reportDrops (d : Dev) : Dev :=
  if d.rcd.dropped ≠ 0 ∧ (d.rcd.buf.length < 8192 ∨ d.rcd.bypass) then
    let n := d.rcd.dropped
    ({ d with rcd := { d.rcd with dropped := 0 } }).raise 36 4 (BitVec.ofNat 32 n)
  else d

/-- Every event waiting is released. -/
def Dev.releaseAll (d : Dev) : Dev := iter Dev.releaseOne d.rcd.waiting.length d

/-- Every member has reported progress past a time (R35, R384). -/
def Dev.heardPast (d : Dev) (t : Nat) : Bool := d.members.all (fun v => d.byf.heard.any (fun h => h.1 == v && decide (t < h.2)))

/-- Every source has reported progress past the first waiting event's time-stamp: those of this device none past the
present (R35). -/
def Dev.mergeReady (d : Dev) : Bool :=
  match d.rcd.waiting with
  | [] => true
  | e :: _ => decide (e.t < d.tb3) && d.heardPast e.t

/-! ## Lifetime image (R513) -/

def satAdd32 (a b : Nat) : Nat := Nat.min (2 ^ 32 - 1) (a + b)
def satAdd64 (a b : Nat) : Nat := Nat.min (2 ^ 64 - 1) (a + b)

/-- Two lists of counts added, the longer one's tail kept. -/
def addCounts (f : Nat → Nat → Nat) : List Nat → List Nat → List Nat
  | a :: as, b :: bs => f a b :: addCounts f as bs
  | [], bs => bs
  | as, [] => as

/-- DEDUCED (log entry 32). -/
def Life.add (a b : Life) : Life where
  seconds := satAdd64 a.seconds b.seconds
  boots := satAdd32 a.boots b.boots
  layers := satAdd32 a.layers b.layers
  flushes := satAdd32 a.flushes b.flushes
  pfails := satAdd32 a.pfails b.pfails
  laser := addCounts satAdd64 a.laser b.laser
  travel := addCounts satAdd64 a.travel b.travel
  lanes := addCounts satAdd32 a.lanes b.lanes
  tjHist := addCounts (· + ·) a.tjHist b.tjHist
  supply := addCounts satAdd32 a.supply b.supply
  classes := addCounts satAdd32 a.classes b.classes
  sources := addCounts satAdd32 a.sources b.sources

/-- The bytes of the image from offset 16 on. -/
def Life.tail (l : Life) : List Byte :=
  List.replicate 48 0 ++ leBytes 8 l.seconds ++ leBytes 4 l.boots ++ leBytes 4 l.layers
    ++ leBytes 4 l.flushes ++ leBytes 4 l.pfails ++ l.laser.flatMap (leBytes 8)
    ++ l.travel.flatMap (leBytes 8) ++ l.lanes.flatMap (leBytes 4)
    ++ l.tjHist.flatMap (fun x => leBytes 4 (Nat.min (2 ^ 32 - 1) (x / 6000000)))
    ++ l.supply.flatMap (leBytes 4) ++ l.classes.flatMap (leBytes 4) ++ l.sources.flatMap (leBytes 4)
    ++ List.replicate 3132 0

/-- The 4096-byte image (R513). -/
def Life.image (l : Life) (idPart gen : Nat) : List Byte :=
  leBytes 4 0x49464C50 ++ leBytes 4 gen ++ leBytes 4 idPart ++ leBytes 4 (crc32c l.tail) ++ l.tail

/-- The delta with the powered seconds since the last flush: whole seconds of TB0 not yet counted. -/
def Dev.lifeDelta (d : Dev) : Life :=
  { d.life with seconds := d.tb0 / 16000000000 - d.life.seconds }

/-- The lifetime image is updated by a flush. `life.seconds` keeps the seconds of this boot already
counted. -/
def Dev.lifeFlush (d : Dev) : Dev :=
  let m := d.rcd.mram
  { d with
    rcd := { d.rcd with mram := { m with life := m.life.add d.lifeDelta, lifeGen := m.lifeGen + 1 } }
    life := { Life.zero with seconds := d.tb0 / 16000000000 } }

/-! ## Flushes (R495 to R503) -/

/-- A failure of the recorder's own memory is logged (R503). DEDUCED (log entry 31). -/
def Dev.shadowLog (d : Dev) (kind addr : Nat) : Dev :=
  let d := d.setBit REC_STATUS 30 true
  if d.rcd.shadow.length < 16 then
    { d with rcd := { d.rcd with shadow := d.rcd.shadow ++ [⟨d.tb3, kind, addr % 2 ^ 29⟩] } }
  else d.count REC_SHADOW_CNT 1

/-- The first `k` records of the buffer reach MRAM verified, then the pointer moves; a full record area stops it
(R498, R500). -/
def Dev.flushRecords (d : Dev) (k : Nat) : Dev :=
  let r := d.rcd
  if r.full then d else
    let n := Nat.min (Nat.min k r.buf.length) (r.mram.area - r.wptr)
    Dev.mramAppend { d with rcd := { r with buf := r.buf.drop n, writing := 0 } } (r.buf.take n) true

/-- REC_CLEAR takes effect; it completes once the merge has released CLEARED (R502, R518). -/
def Dev.recClear (d : Dev) (q : Req) : Dev :=
  let old := d.rcd.wptr
  let d := { d with rcd := { d.rcd with
    wptr := 0, full := false, buf := [], writing := 0, clearReq := none, clearing := some q, clearedAt := some d.tb3 } }
  d.emit 36 0x51 (leBytes 4 old)

/-- Blocks of 16 bytes. -/
def blocks16 : Nat → List Byte → List (List Byte)
  | 0, _ => []
  | n + 1, b => if b.length < 16 then [] else b.take 16 :: blocks16 n (b.drop 16)

/-- Memory BIST ends with the failures found, of which 256 are held (R529). DESIGN CHOICE (log entry 106). -/
def Dev.mbistEnd (d : Dev) (q : Req) : Dev :=
  match d.bist.run with
  | none => d
  | some (_, blob) =>
    let all := blocks16 blob.length blob
    let held := all.take 256
    let lost := Nat.min 0xFFFF (all.length - 256)
    let d := { d with bist := { d.bist with mbist := held, run := none } }
    let d := d.wrN BIST_MBIST_STATUS (2 * 2 ^ 28 + held.length * 65536 + lost)
    let d := if all.isEmpty then d else d.fault 37 2
    d.ok q held.length lost 0 0

/-- A command that waited for a flush goes on with its end: MBIST_RUN ends, REC_FLUSH completes. -/
def Dev.flushed (d : Dev) (good : Bool) (q : Req) : Dev :=
  if q.op = 0x0C02 then d.mbistEnd q
  else if good then d.ok q 0 0 0 0
  else d.fail q stTimeout 0x0A01

/-- What follows the end of a flush: the REC_FLUSH commands that waited for it, a waiting REC_CLEAR,
and the second flush (R495, R520). -/
def Dev.afterFlush (d : Dev) (good : Bool) : Dev :=
  let qs := d.rcd.flushReqs
  let again := d.rcd.again
  let d := { d with rcd := { d.rcd with
    flushing := false, again := false, writing := 0, pfail := d.rcd.pfail && again
    flushReqs := d.rcd.nextReqs, nextReqs := [] } }
  let d := qs.foldl (fun d q => d.flushed good q) d
  let d := match d.rcd.clearReq with
    | some q => d.recClear q
    | none => d
  if again then d.startFlush else d

/-- The flush in progress ends as the MRAM answers. -/
def Dev.flushEnd (d : Dev) (x : Xspi) : Dev :=
  if !d.rcd.flushing then d else
  match x with
  | .ok =>
    let pf := d.rcd.pfail && !d.rcd.again
    let d := { d with life := { d.life with
      flushes := d.life.flushes + 1, pfails := d.life.pfails + bitOf pf } }
    (((d.lifeFlush.flushRecords d.rcd.writing).endCause 36 2).afterFlush true).reportDrops
  | .badVerify => (((d.shadowLog 2 (0x100000 + 32 * d.rcd.wptr)).fault 36 2)).afterFlush false
  | .noResponse => (((d.shadowLog 3 (0x100000 + 32 * d.rcd.wptr)).fault 36 2)).afterFlush false

/-- A command starts a flush and waits for its end: the second one where one is running (R495). -/
def Dev.flushFor (d : Dev) (q : Req) : Dev :=
  if d.rcd.flushing then
    let d := d.startFlush
    { d with rcd := { d.rcd with nextReqs := d.rcd.nextReqs ++ [q] } }
  else
    let d := d.startFlush
    { d with rcd := { d.rcd with flushReqs := d.rcd.flushReqs ++ [q] } }

/-- A whole flush, start to end. -/
def Dev.flushNow (d : Dev) (x : Xspi) : Dev := d.startFlush.flushEnd x

/-- FLUSH_COMPLETE. -/
def execFlushComplete (x : Xspi) (s : State) : Host.Outcome State Fault Refusal :=
  s.on (fun d => d.flushEnd x)

/-- NOTE_FLUSH_TIMER: NOTE_MS have passed since the previous flush began, with a NOTE fault waiting
(R495). -/
def execNoteFlushTimer (s : State) : Host.Outcome State Fault Refusal :=
  s.on (fun d => if d.rcd.noteDue then d.startFlush else d)

/-- REC_SRAM_FAIL: an uncorrectable error at a word of the buffer SRAM. The record the word belongs to
is lost, the readable ones are flushed, and bypass is in force (R503). DEDUCED (log entry 31). -/
def execRecSramFail (word : BitVec 29) (s : State) : Host.Outcome State Fault Refusal :=
  s.on (fun d =>
    let d := d.shadowLog 1 word.toNat
    let d := { d with rcd := { d.rcd with buf := d.rcd.buf.eraseIdx (word.toNat / 8) } }
    let d := if d.rcd.mram.usable then d.flushRecords d.rcd.buf.length else d
    let d := { d with rcd := { d.rcd with bypass := true } }
    (d.fault 36 1).endCause 36 1)

/-! ## Reading (R501, R503) -/

/-- The record at an index: in MRAM, or buffered with the index it will take; zeros for none. -/
def Dev.recAt (d : Dev) (i : Nat) : Option (List Byte) :=
  if i < d.rcd.wptr then d.rcd.mram.recs[i]? else d.rcd.buf[i - d.rcd.wptr]?

/-- The window shows the record at an index. -/
def Dev.loadWindow (d : Dev) (i : Nat) : Dev :=
  let b := (d.recAt i).getD []
  (List.range 8).foldl (fun d w => d.wrN (REC_WIN w) (bytesAt b (4 * w) 4)) (d.wrN REC_CURSOR i)

/-- REC_CURSOR_LOAD: a write of REC_CURSOR (R501). -/
def execRecCursorLoad (idx : Word) (s : State) : Host.Outcome State Fault Refusal :=
  s.whenUp (fun d => d.loadWindow idx.toNat)

/-- REC_WIN7_READ: the read answers REC_WIN7, then the cursor advances and the next record is
loaded. -/
def execRecWin7Read (s : State) : Host.Outcome State Fault Refusal :=
  s.whenUp (fun d =>
    (d.send (.regRead (REC_WIN 7) (d.rd (REC_WIN 7)))).loadWindow (((d.rd REC_CURSOR).toNat + 1) % 2 ^ 32))

/-- REC_SHADOW_SELECT: entry k of the shadow log, 0 oldest, is copied to D0 to D2. -/
def execRecShadowSelect (k : Fin 16) (s : State) : Host.Outcome State Fault Refusal :=
  s.whenUp (fun d =>
    match d.rcd.shadow[k.val]? with
    | some e => ((d.wrN (REC_SHADOW_D 0) e.t).wrN (REC_SHADOW_D 1) (e.t / 2 ^ 32)).wrN (REC_SHADOW_D 2)
        (e.kind * 2 ^ 29 + e.addr)
    | none => ((d.wrN (REC_SHADOW_D 0) 0).wrN (REC_SHADOW_D 1) 0).wrN (REC_SHADOW_D 2) 0)

/-! ## Monitor slots (R515 to R517) -/

/-- The instance of a quantity is present (R516); none for an unknown quantity. -/
def monPresent (v : Config.Variant) (qty inst : Nat) : Option Bool :=
  match qty with
  | 0x01 => some (decide (inst < nBeams v))
  | 0x02 => some (decide (inst < nBeams v))
  | 0x03 => some (decide (inst < nEngines v))
  | 0x04 => some (decide (inst < nEngines v))
  | 0x05 => some (decide (inst < nEngines v))
  | 0x06 => some true
  | 0x07 => some (decide (inst < nBeams v))
  | 0x08 => some (decide (inst < 4))
  | 0x09 => some (decide (inst < 8))
  | 0x0A => some (decide (inst < nBeams v))
  | 0x0B => some (decide (inst < nBeams v))
  | 0x0C => some (decide (0 < nByoft v))
  | _ => none

/-- A slot restarts empty. -/
def Dev.monEmpty (d : Dev) (s : Nat) : Dev :=
  let d := ((d.wrN (MON_MIN s) 0x7FFFFFFF).wrN (MON_MAX s) 0x80000000)
  let d := (d.wr64 (MON_COUNT_LO s) (MON_COUNT_HI s) 0).wr64 (MON_SUM_LO s) (MON_SUM_HI s) 0
  (List.range 64).foldl (fun d i => d.wr (MON_BIN s i) 0) d

/-- A slot takes a sample: bin clamp((v − LO) >> SHIFT, 0, 63) (R515). -/
def Dev.monTake (d : Dev) (s : Nat) (v : Int) : Dev :=
  let v := signed 32 (unsigned 32 v)
  let bin := (clampInt 0 63 ((v - d.rdI (MON_LO s)) / (2 ^ d.fld (MON_CFG s) 0 5 : Nat))).toNat
  let d := if v < d.rdI (MON_MIN s) then d.wrN (MON_MIN s) (unsigned 32 v) else d
  let d := if d.rdI (MON_MAX s) < v then d.wrN (MON_MAX s) (unsigned 32 v) else d
  let d := d.wr64 (MON_COUNT_LO s) (MON_COUNT_HI s) (d.rd64 (MON_COUNT_LO s) (MON_COUNT_HI s) + 1)
  let d := d.wr64 (MON_SUM_LO s) (MON_SUM_HI s)
    ((d.rd64 (MON_SUM_LO s) (MON_SUM_HI s) + unsigned 64 v) % 2 ^ 64)
  d.count (MON_BIN s bin) 1

/-- The present value of a quantity that the model's state holds; none for a latency and the eye margin (R516).
DESIGN CHOICE (log entry 105). -/
def Dev.monValue (d : Dev) (qty inst : Nat) : Option Int :=
  let mine (f : Nat → Int) : Int := match d.engineOf inst with | some n => f n | none => 0
  match qty with
  | 0x04 => some (d.beBuf inst)
  | 0x05 => some ((d.beStatus inst % 65536 : Nat) : Int)
  | 0x06 => some (Nat.min 4096 (d.keeper.locks.getD inst default).queue.length : Nat)
  | 0x08 => some (signed 16 (d.fld (CLK_TJ inst) 0 16))
  | 0x09 => some ((d.rails.getD inst 0 % 65536 : Nat) : Int)
  | 0x0A => some (mine (fun n => d.fld (BE_PD_LIVE n) 0 14))
  | 0x0B => some (mine (fun n => (d.eng n).law.fb))
  | 0x0C => some (d.rdI BYF_TIME_OFS)
  | _ => none

/-- MONITOR_SAMPLE: a slot that is on and whose instance is present samples its quantity; `v`: what is measured where the
state does not hold it. DESIGN CHOICE (log entry 105). -/
def execMonitorSample (slot : Fin 32) (v : Int) (s : State) : Host.Outcome State Fault Refusal :=
  s.on (fun d =>
    let qty := d.fld (MON_CFG slot) 16 8
    let inst := d.fld (MON_CFG slot) 8 5
    if d.bit (MON_CFG slot) 31 && monPresent d.variant qty inst == some true then
      d.monTake slot ((d.monValue qty inst).getD v)
    else d)

/-- The 320 bytes of a capture record (R517). -/
def Dev.capture (d : Dev) (s : Nat) : List Byte :=
  leBytes 8 d.tb3 ++ leBytes 1 s ++ leBytes 1 (d.fld (MON_CFG s) 16 8) ++ leBytes 1 (d.fld (MON_CFG s) 8 5)
    ++ [0] ++ leBytes 4 (d.rd (MON_LO s)).toNat ++ leBytes 4 (d.fld (MON_CFG s) 0 5)
    ++ leBytes 4 (d.rd (MON_MIN s)).toNat ++ leBytes 4 (d.rd (MON_MAX s)).toNat
    ++ leBytes 8 (d.rd64 (MON_COUNT_LO s) (MON_COUNT_HI s)) ++ leBytes 8 (d.rd64 (MON_SUM_LO s) (MON_SUM_HI s))
    ++ List.replicate 20 0 ++ (List.range 64).flatMap (fun i => leBytes 4 (d.rd (MON_BIN s i)).toNat)

/-! ## Commands (R518) -/

def cmdRecFlush : Cmd where
  check d q := firstFail (shape q [] none 0 ++ [d.modeIs q allModes])
  effect q _ d :=
    if !d.rcd.mram.usable then d.fail q stTimeout 0x0A01 else d.flushFor q

def execRecFlush (r : Req) (e : Env) (s : State) : Host.Outcome State Fault Refusal :=
  s.command 0x0A01 cmdRecFlush r e

def cmdRecClear : Cmd where
  check d q := firstFail (shape q [] none 0 ++
    [deniedIf (d.lcState != 1 && d.lcState != 3), d.modeIs q [.service]])
  effect q _ d :=
    if d.rcd.flushing then { d with rcd := { d.rcd with clearReq := some q } } else d.recClear q

def execRecClear (r : Req) (e : Env) (s : State) : Host.Outcome State Fault Refusal :=
  s.command 0x0A02 cmdRecClear r e

/-- The modes of MON_SET and MON_CAPTURE. -/
def monModes : List Mode := [.configure, .standby, .calibrate, .build, .hold, .service]

def cmdMonSet : Cmd where
  check d q := firstFail (shape q [0x1F, 0x80FF1F1F, 0xFFFFFFFF, 0xFFFFFFFF] none 0 ++
    [d.modeIs q monModes,
     limitIf (decide (q.a3.toNat < 1) || decide (1000000 < q.a3.toNat)) 0x0AFF,
     limitIf (monPresent d.variant (q.a1.get 16 8) (q.a1.get 8 5) != some true) 0x0A02])
  effect q _ d :=
    let s := q.a0.get 0 5
    let d := ((d.wr (MON_CFG s) q.a1).wr (MON_LO s) q.a2).wr (MON_SAMPLE s) q.a3
    (d.monEmpty s).ok q 0 0 0 0

def execMonSet (r : Req) (e : Env) (s : State) : Host.Outcome State Fault Refusal :=
  s.command 0x0A03 cmdMonSet r e

def cmdMonCapture : Cmd where
  check d q := firstFail (shape q [0xFFFFFFFF, 1] none 0 ++ [d.modeIs q monModes])
  effect q _ d :=
    let d := (bitList 32 q.a0.toNat).foldl (fun d s =>
      let d := d.stream 6 s (d.capture s) false
      if q.a1.bit 0 then d.monEmpty s else d) d
    d.ok q 0 0 0 0

def execMonCapture (r : Req) (e : Env) (s : State) : Host.Outcome State Fault Refusal :=
  s.command 0x0A04 cmdMonCapture r e

def cmdLifeReset : Cmd where
  check d q := firstFail (shape q [] none 0 ++
    [deniedIf (d.lcState != 1), d.modeIs q [.service]])
  effect q _ d :=
    let m := d.rcd.mram
    ({ d with rcd := { d.rcd with mram := { m with life := Life.zero } }
              life := { Life.zero with seconds := d.tb0 / 16000000000 } }).ok q 0 0 0 0

def execLifeReset (r : Req) (e : Env) (s : State) : Host.Outcome State Fault Refusal :=
  s.command 0x0A05 cmdLifeReset r e

/-- Consecutive records from an index, up to the first index with none. -/
def Dev.recRun (d : Dev) : Nat → Nat → List (List Byte)
  | 0, _ => []
  | n + 1, i =>
    match d.recAt i with
    | some b => b :: d.recRun n (i + 1)
    | none => []

def cmdRecRead : Cmd where
  check d q := firstFail (shape q [0xFFFFFFFF, 0xFFFFFFFF] none (Nat.max 1 (32 * q.a1.toNat)) ++
    [d.modeIs q allModes,
     limitIf (decide (q.a1.toNat < 1) || decide (32768 < q.a1.toNat)) 0x0A03])
  effect q _ d :=
    let rs := d.recRun q.a1.toNat q.a0.toNat
    d.okData q rs.flatten rs.length 0 0 0

def execRecRead (r : Req) (e : Env) (s : State) : Host.Outcome State Fault Refusal :=
  s.command 0x0A80 cmdRecRead r e

def cmdLifeRead : Cmd where
  check d q := firstFail (shape q [] none 4096 ++ [d.modeIs q allModes])
  effect q _ d :=
    let m := d.rcd.mram
    d.okData q ((m.life.add d.lifeDelta).image (idPart d.variant) m.lifeGen) 0 0 0 0

def execLifeRead (r : Req) (e : Env) (s : State) : Host.Outcome State Fault Refusal :=
  s.command 0x0A81 cmdLifeRead r e

/-! ## Woram records as bytes (R505, R506, R510, R511) -/

/-- A body longer than 65,532 bytes continues in further items of the same type; EVENTS items hold
whole records. -/
def splitItem (type chunk : Nat) : Nat → List Byte → List Byte
  | 0, _ => []
  | n + 1, b =>
    let part := b.take chunk
    leBytes 2 type ++ leBytes 2 part.length ++ part ++
      (if chunk < b.length then splitItem type chunk n (b.drop chunk) else [])

/-- Adjacent items of one type joined, so that a list is as few items as its length allows. -/
def joinItems : List (Nat × List Byte) → List (Nat × List Byte)
  | [] => []
  | (t, b) :: rest =>
    match joinItems rest with
    | (t', b') :: rest' => if t = t' ∧ t ≠ 10 then (t, b ++ b') :: rest' else (t, b) :: (t', b') :: rest'
    | [] => [(t, b)]

/-- The bytes per item of a type: whole entries of the item below 65,533 bytes. -/
def itemChunk : Nat → Nat
  | 1 => 65520 | 2 => 65520 | 3 => 65520 | 4 => 65520 | 7 => 65504 | 8 => 65520 | 9 => 65520 | _ => 65532

/-- The body: every item in order. -/
def Woram.body (w : Woram) : List Byte :=
  (joinItems w.items).flatMap (fun i => splitItem i.1 (itemChunk i.1) (i.2.length / 32 + 1) i.2)

/-- The number of items of the body. -/
def Woram.itemCount (w : Woram) : Nat :=
  ((joinItems w.items).map (fun i => Nat.max 1 (ceilDiv i.2.length (itemChunk i.1)))).sum

/-- The bytes the staging area holds: segments waiting, and the header and items of the records not yet emitted
(R512). -/
def Dev.stagingBytes (d : Dev) : Nat :=
  (d.staged.map (fun g => g.bytes.length - 16)).sum +
    ((d.closing ++ d.woram.toList).map (fun w => 128 +
      (Woram.body { w with items := w.items ++ w.tail }).length)).sum

def cmdWoramQuery : Cmd where
  check d q := firstFail (shape q [] none 0 ++ [d.modeIs q allModes])
  effect q _ d := d.ok q (d.rd MEAS_WORAM_SEQ).toNat d.stagingBytes d.staged.length 0

def execWoramQuery (r : Req) (e : Env) (s : State) : Host.Outcome State Fault Refusal :=
  s.command 0x0A82 cmdWoramQuery r e

/-- The identity DEVID: the first 16 bytes of the digest of the public key (R509). DEDUCED (log entry 11). -/
def devIdBytes : List Byte :=
  (sha384 (beBytes 48 Config.pubX.toNat ++ beBytes 48 Config.pubY.toNat)).take 16

/-- Header, body and the signature trailer over their SHA-384 (R505, R510). -/
def Dev.woramBytes (d : Dev) (w : Woram) (end_ : Nat) : List Byte :=
  let body := w.body
  let head := leBytes 4 0x524F5150 ++ leBytes 2 1 ++ leBytes 2 w.flags ++ leBytes 4 w.layer ++ leBytes 4 w.entry
    ++ leBytes 4 (idPart d.variant) ++ leBytes 4 w.ptab ++ leBytes 4 w.flowX ++ leBytes 4 w.flowY
    ++ leBytes 8 w.start ++ leBytes 8 end_
    ++ leBytes 8 (d.rd64 TIME_TB1_EPOCH_LO TIME_TB1_EPOCH_HI) ++ leBytes 4 w.recSeq
    ++ leBytes 1 d.devId ++ [0, 0, 0] ++ devIdBytes ++ leBytes 4 body.length ++ leBytes 4 w.itemCount
    ++ List.replicate 40 0
  let all := head ++ body
  all ++ beBytes 96 (Config.sign (BitVec.ofNat 384 (beNat (sha384 all)))).toNat

/-- The segments of a record (R511). -/
def segments (recSeq : Nat) : Nat → Nat → List Byte → List Seg
  | 0, _, _ => []
  | n + 1, i, b =>
    let part := b.take 65520
    let last := decide (b.length ≤ 65520)
    ⟨leBytes 4 recSeq ++ leBytes 2 i ++ leBytes 2 (bitOf last) ++ leBytes 4 part.length ++ leBytes 4 0 ++ part,
      last, []⟩ :: (if last then [] else segments recSeq n (i + 1) (b.drop 65520))

/-- The STREAM rings bound to Woram records. -/
def Dev.woramRings (d : Dev) : List Nat :=
  (List.range 64).filter (fun n => d.ringType n == 3 && d.fld (HIF_RING_STREAM n) 0 4 == 2)

/-- The first waiting segment that a ring has not taken goes into its next posted buffer (R97, R511). -/
def Dev.woramFill (n : Nat) : Nat → Dev → Dev
  | 0, d => d
  | k + 1, d =>
    match d.staged.findIdx? (fun g => !g.sentTo.contains n), (d.ring n).bufs with
    | some i, _ :: _ =>
      match d.staged[i]? with
      | some g =>
        let d := { d with staged := d.staged.set i { g with sentTo := n :: g.sentTo } }
        Dev.woramFill n k ((d.modRing n (fun r => { r with held := r.held ++ [⟨g.bytes, g.last, false⟩] })).fillRing n)
      | none => d
    | _, _ => d

/-- Staging empties into the source-2 rings that are on; a segment leaves once every such ring has taken
it, and WORAM_FULL ends below 16 MiB (R511, R512). -/
def Dev.pumpStaging (d : Dev) : Dev :=
  let rings := d.woramRings
  let d := rings.foldl (fun d n => if d.ringOn n then Dev.woramFill n d.staged.length d else d) d
  let d := if rings.isEmpty then d else
    { d with staged := d.staged.filter (fun g => rings.any (fun n => !g.sentTo.contains n)) }
  if d.stagingBytes < 16 * 1048576 then d.endCause 36 5 else d

/-- A closed record is emitted (R504): staged as segments, with the event WORAM_CLOSED. -/
def Dev.emitWoram (d : Dev) (w : Woram) : Dev :=
  let b := d.woramBytes { w with items := w.items ++ w.tail } (w.closed.getD d.tb3)
  let d := { d with
    staged := d.staged ++ segments w.recSeq (b.length / 65520 + 1) 0 b }
  let d := d.wrN MEAS_WORAM_SEQ w.recSeq
  let d := d.emit 36 0x50 (leBytes 4 w.layer ++ leBytes 4 w.entry ++ leBytes 4 b.length ++ leBytes 4 w.recSeq)
  d.pumpStaging

/-- Records whose last event has been released are emitted, oldest first: no event up to the close still waits, and every
source has reported progress past it. -/
def Dev.finishWorams (d : Dev) : Dev :=
  d.closing.foldl (fun d w =>
    let c := w.closed.getD 0
    if d.closing.head? = some w ∧ c < d.tb3 ∧ d.heardPast c ∧ d.rcd.waiting.all (fun e => decide (c < e.t)) then
      ({ d with closing := d.closing.drop 1 }).emitWoram w
    else d) d

/-- EVENT_MERGE_RELEASE: the first waiting event is released where every live source has reported progress past its
time-stamp (R35); a Woram record that waited for it is emitted. -/
def execEventMergeRelease (s : State) : Host.Outcome State Fault Refusal :=
  s.on (fun d => (if d.mergeReady then d.releaseOne.finishWorams else d.finishWorams).reportDrops)

/-- WORAM_FULL when staging passes 30 MiB (R512). -/
def Dev.checkStaging (d : Dev) : Dev :=
  if 30 * 1048576 < d.stagingBytes ∧ !d.flt.live.any (fun l => l.src == 36 && l.cause == 5 && !l.ended) then
    d.fault 36 5
  else d

end Sys2Proof.Machine
end

