-- ==== Sys2Proof/Machine/Layers.lean ====
section
/-! DEFINITION. Layers and barges: formats, checks, outcomes, completion and closing (R103 to R128,
R93 to R95, R504). -/

namespace Sys2Proof.Machine

/-- The modes of LAYER_OPEN and BARGE. -/
def layerModes : List Mode := [.standby, .calibrate, .build, .hold]

/-! ## Barge format and checks (R117 to R126) -/

/-- The record at index i of a barge's data; the first one, which has no start point, has its end point for
one (R120). -/
def recAtData (b : List Byte) (i defElig : Nat) (sx sy : Int) : Rec :=
  let r := (b.drop (64 + 32 * i)).take 32
  let e := bytesAt r 18 2
  { sx := if i = 0 then intAt r 0 4 else sx, sy := if i = 0 then intAt r 4 4 else sy, x := intAt r 0 4, y := intAt r 4 4, vecId := bytesAt r 8 4,
    earliest := bytesAt r 12 4, focus := intAt r 16 2, elig := if e = 0 then defElig else e,
    pset := bytesAt r 20 1, type := bytesAt r 21 1 % 16, flags := bytesAt r 22 2,
    duration := bytesAt r 24 4 }

/-- The 32 bytes of a record, its eligible set resolved (R118). -/
def Rec.bytes (r : Rec) : List Byte :=
  leBytes 4 (unsigned 32 r.x) ++ leBytes 4 (unsigned 32 r.y) ++ leBytes 4 r.vecId ++ leBytes 4 r.earliest ++
  leBytes 2 (unsigned 16 r.focus) ++ leBytes 2 r.elig ++ leBytes 1 r.pset ++ leBytes 1 r.type ++ leBytes 2 r.flags ++
  leBytes 4 r.duration ++ leBytes 4 0

/-- Check 8a: type and zero fields (R118, R119, R123). -/
def recFieldsBad (b : List Byte) (i : Nat) : Bool :=
  let r := (b.drop (64 + 32 * i)).take 32
  let ty := bytesAt r 21 1
  let flags := bytesAt r 22 2
  decide (4 < ty) || !allZero (r.drop 28) || decide (8 ≤ flags) ||
  (if ty = 0 then !allZero ((r.drop 12).take 9) || !allZero ((r.drop 22).take 6)
   else if ty = 1 then bytesAt r 24 4 != 0
   else if ty = 2 then bytesAt r 24 4 != 0 || flags.testBit 0
   else if ty = 3 then bytesAt r 16 2 != 0
   else false)

/-- The records of the chain that starts at index i: the mark and its continuations. -/
def chainFrom (rs : List Rec) (i : Nat) : List Rec :=
  match rs.drop i with
  | [] => []
  | r :: rest => r :: rest.takeWhile (fun q => q.type == 2)

/-- The mark that leads the chain record i belongs to. -/
def chainHead (rs : List Rec) (i : Nat) : Nat :=
  let back := ((rs.take (i + 1)).reverse.takeWhile (fun q => q.type == 2)).length
  i - back

/-- Check 8i: eligible set and geometry (R122, R210). -/
def Dev.eligBad (d : Dev) (sets : List (List Byte)) (rs : List Rec) (i : Nat) (cal : Bool) : Option Nat :=
  let r := rs.getD i default
  let set := r.elig
  let beams := bitList 16 set
  let pts := [(r.sx, r.sy), (r.x, r.y)]
  if set = 0 ∨ 2 ^ nBeams d.variant ≤ set then some 0x0307
  else if (r.type = 3 ∨ cal) ∧ beams.length ≠ 1 then some 0x0307
  else if !r.flags.testBit 1 then
    if !beams.all (fun b => pts.all (fun p => d.inField b p.1 p.2)) then some 0x0308
    else if 2 ≤ beams.length ∧ (d.lockOfPoints set pts).isNone then some 0x0308
    else none
  else if (d.lockOfPoints set pts).isSome then none
  else if (d.splits true sets (chainFrom rs (chainHead rs i))).isEmpty then some 0x0308
  else none

/-- A trained topology exists (R123). -/
def Dev.topoTrained (d : Dev) : Bool := !d.members.isEmpty

/-- Checks 8a to 8i of record i: the XSTATUS of the first that fails. DEDUCED (log entry 35). -/
def Dev.recBad (d : Dev) (b : List Byte) (sets : List (List Byte)) (rs : List Rec) (i : Nat) (cal : Bool) :
    Option Nat :=
  let r := rs.getD i default
  let prev := rs.getD (i - 1) default
  let foc := psFocus (sets.getD r.pset []) + r.focus
  let sameChain := r.elig == prev.elig && (r.flags &&& 6) == (prev.flags &&& 6)
  if recFieldsBad b i then some 0x0305
  else if 2144000 < r.x.natAbs ∨ 2144000 < r.y.natAbs then some 0x0306
  else if r.type ≠ 0 ∧ (sets.length ≤ r.pset ∨ foc < -20000 ∨ 20000 < foc) then some 0x030B
  else if (r.type = 3 ∧ (r.duration < 500 ∨ 4000000000 < r.duration)) ∨
      (r.type = 4 ∧ (r.duration < 500 ∨ 100000000 < r.duration)) then some 0x030E
  else if i = 0 ∧ r.type ≠ 0 ∧ r.type ≠ 4 then some 0x0309
  else if r.type = 3 ∧ (r.x ≠ r.sx ∨ r.y ≠ r.sy) then some 0x0309
  else if r.type = 2 ∧ ((prev.type ≠ 1 ∧ prev.type ≠ 2) ∨ !sameChain) then some 0x0309
  else if (r.type = 1 ∨ r.type = 2) ∧ r.x = r.sx ∧ r.y = r.sy then some 0x0310
  else if i ≠ 0 ∧ r.vecId ≤ prev.vecId then some 0x030A
  else if cal ∧ r.flags &&& 6 ≠ 0 then some 0x0305
  else if r.flags.testBit 2 ∧ (nByoft d.variant = 0 ∨ !d.topoTrained) then some 0x030F
  else if r.type = 0 then none
  else d.eligBad sets rs i cal

/-- The records of a barge, each with its start point. -/
def recsOf (b : List Byte) (defElig : Nat) : Nat → Nat → Int → Int → List Rec
  | 0, _, _, _ => []
  | n + 1, i, sx, sy => let r := recAtData b i defElig sx sy; r :: recsOf b defElig n (i + 1) r.x r.y

/-- The first failing check of a barge (R126), as status, XSTATUS and RESULT0, or its records. `cal`:
the changes of R188, which gives a LAYER other than 0 no status: it fails check 2, MALFORMED 0x0305. DESIGN CHOICE (log
entry 89). DEDUCED (log entry 35), DESIGN CHOICE (log entry 89). -/
def Dev.bargeCheck (d : Dev) (b : List Byte) (cal : Bool) : Except (Nat × Nat × Nat) (List Rec) :=
  let n := bytesAt b 20 4
  let ptab := bytesAt b 16 4
  let num := bytesAt b 8 4
  let none32 := 0xFFFFFFFF
  if crc32c (b.take 60) ≠ bytesAt b 60 4 then .error (stCrc, 0x0301, none32)
  else if bytesAt b 0 4 ≠ 0x42475150 ∨ bytesAt b 4 2 ≠ 1 ∨ bytesAt b 6 2 ≠ 0 ∨ bytesAt b 11 1 ≠ 0
      ∨ bytesAt b 26 2 ≠ 0 ∨ !allZero ((b.drop 32).take 28) ∨ (cal ∧ num ≠ 0) then
    .error (stMalformed, 0x0305, none32)
  else if n < 1 ∨ 32768 < n ∨ b.length ≠ 64 + 32 * n then .error (stMalformed, 0x0304, none32)
  else if crc32c (b.drop 64) ≠ bytesAt b 28 4 then .error (stCrc, 0x000A, none32)
  else if !cal ∧ (d.layer? num).isNone then .error (stMalformed, 0x0302, none32)
  else if !cal && (match d.layer? num with
      | some l => decide (l.count ≤ l.barges.length) || l.barges.any (fun x => x.id == bytesAt b 12 4)
      | none => false) then .error (stMalformed, 0x030D, none32)
  else if (if cal then (d.table ptab).isNone
      else (match d.layer? num with | some l => l.ptab != ptab | none => false)) then
    .error (stMalformed, 0x0303, none32)
  else
    let sets := match d.table ptab with | some t => t.sets | none => []
    let rs := recsOf b (bytesAt b 24 2) n 0 0 0
    match (List.range n).find? (fun i => (d.recBad b sets rs i cal).isSome) with
    | some i => .error (stMalformed, (d.recBad b sets rs i cal).getD 0, i)
    | none => .ok rs

/-- Basin bytes in use: the barges accepted and not complete (R20). -/
def Dev.basinUsed (d : Dev) : Nat :=
  (d.lay.opened.map (fun l => ((l.barges.filter (fun b => b.done.isNone)).map (fun b => b.bytes)).sum)).sum

/-- The basin has room for a barge. DEDUCED (log entry 41). -/
def Dev.basinRoom (d : Dev) (bytes : Nat) : Bool :=
  decide (d.basinUsed + bytes ≤ (d.rd DRAM_BASIN_SIZE).toNat * 1048576)

/-- A jump is complete at once; no beam exposes it (R120). DESIGN CHOICE (log entry 80). -/
def newRec (r : Rec) (now : Nat) : VRec :=
  ⟨r, false, if r.type = 0 then [⟨stOk, none, false, 0, 0, now, false⟩] else []⟩

/-- A barge's data have arrived: it is checked, and accepted whole or not at all (R127). -/
def Dev.acceptBarge (d : Dev) (q : Req) (b : List Byte) : Dev :=
  match d.bargeCheck b false with
  | .error (st, x, r0) => d.complete q st x (words4 r0 0 0 0)
  | .ok rs =>
    let num := bytesAt b 8 4
    d.modLayer num (fun l => { l with barges := l.barges ++
      [⟨q, bytesAt b 12 4, b.length, rs.map (fun r => newRec r d.tb3), sha384 b, false, none, none⟩] })

/-- DEDUCED (log entry 35). -/
def cmdBarge : Cmd where
  check d q := firstFail (shape q [] (some 64) 0 ++
    [(decide (1048640 < q.dataLen), stMalformed, 0x0004), d.modeIs q layerModes])
  effect q e d :=
    if d.basinRoom q.dataLen then d.acceptBarge q e.data
    else d.modLay (fun y => { y with basinWait := y.basinWait ++ [q] })

/-- BARGE; `e.data`: the barge as fetched. -/
def execBarge (r : Req) (e : Env) (s : State) : Host.Outcome State Fault Refusal :=
  s.command 0x0301 cmdBarge r e

/-- BASIN_SPACE_FETCH: a barge that waited for basin space is fetched (R20). -/
def execBasinSpaceFetch (n : Fin 64) (idx : BitVec 16) (e : Env) (s : State) :
    Host.Outcome State Fault Refusal :=
  s.whenUp (fun d =>
    match d.lay.basinWait.find? (fun q => q.ring == n.val && q.idx == idx.toNat) with
    | none => d
    | some q =>
      if d.basinRoom q.dataLen then
        let d := d.modLay (fun y => { y with basinWait := y.basinWait.filter (fun x => x != q) })
        match e.dataFail with
        | some f => d.dataReadFailed q f
        | none => d.acceptBarge q (e.data.take q.dataLen)
      else d)

/-! ## Closing a layer (R112 to R115, R477) -/

/-- The vectors complete, and not complete, of a layer. -/
def Layer.tally (l : Layer) : Nat × Nat :=
  let vs := l.barges.flatMap (fun b => b.recs)
  ((vs.filter VRec.good).length, (vs.filter (fun v => !v.good)).length)

/-- The Woram items written at the close (R506). -/
def Dev.closeItems (d : Dev) (l : Layer) (w : Woram) : List (Nat × List Byte) :=
  let barges := l.barges.map (fun b => (8, leBytes 4 b.id ++ leBytes 1 b.req.ring ++ [0, 0, 0] ++ b.digest))
  let outs := l.barges.flatMap (fun b => b.recs.flatMap (fun v => v.outs.filterMap (fun o =>
    if o.status = stOk then none else
      some (9, leBytes 4 v.r.vecId ++ leBytes 1 (o.beam.getD 0xFF) ++ leBytes 1 o.status
        ++ leBytes 2 (o.half + 2 * bitOf o.peerLost) ++ leBytes 4 o.arc ++ leBytes 8 o.t))))
  let t := l.tally
  barges ++ outs ++ [(11, leBytes 4 t.1 ++ leBytes 4 t.2 ++ leBytes 4 (l.count - l.barges.length)
    ++ leBytes 4 ((d.rd REC_DROP_CNT).toNat - w.drops))]

/-- The Woram record of a closing layer closes (R504, R507): it is emitted once the merge has released every event up to
the close. DEDUCED (log entry 41). -/
def Dev.closeWoram (d : Dev) (l : Layer) (flags : Nat) : Dev :=
  match d.woram with
  | none => d
  | some w =>
    let w := { w with closed := some d.tb3, tail := d.closeItems l w, flags := w.flags ||| flags }
    { d with
      woram := none, closing := d.closing ++ [w]
      life := { d.life with layers := satAdd32 d.life.layers 1 } }

/-- How a layer's LAYER_START completes: status, XSTATUS, RESULT2. -/
abbrev CloseHow := Nat × Nat × Nat

/-- The status of R112. -/
def Layer.status (l : Layer) : Nat := summaryStatus (l.barges.map (fun b => b.done.getD stAborted))

/-- What the engines, the locks and the pending stitches count by layer goes with the layer. -/
def Dev.forgetLayer (d : Dev) (num : Nat) : Dev :=
  { d with
    engines := d.engines.map (fun (e : Engine) => { e with qpos := e.qpos.filter (fun c => c.1 != num) })
    keeper := { d.keeper with
      locks := d.keeper.locks.map (fun (q : LockQ) => { q with
        counts := q.counts.filter (fun c => c.1 != num), ovr := q.ovr.filter (fun c => c != num) })
      syncs := d.keeper.syncs.filter (fun x => x.1 != num) } }

/-- A layer has closed, or BUILD is entered: no recoat sequence counts for the next layer yet (R434). -/
def Dev.newBoundary (d : Dev) : Dev := { d with recoated := false, mot := { d.mot with epoch := d.mot.epoch + 1 } }

/-- A layer closes: its event, its record, its reference to the table, and what is counted by layer. Its LAYER_START
has still to complete. -/
def Dev.shutLayer (d : Dev) (num : Nat) (woramFlags : Nat) : Dev :=
  match d.layer? num with
  | none => d
  | some l =>
    let t := l.tally
    let d := if l.started then
        (d.emit 1 0x22 (leBytes 4 num ++ leBytes 4 t.1 ++ leBytes 4 t.2)).closeWoram l woramFlags
      else d
    let d := d.modLay (fun y => { y with
      opened := y.opened.filter (fun x => x.num != num), lastClosed := some (num, if l.started then l.entry + 1 else l.entry) })
    let d := d.forgetLayer num
    let d := if l.started then d.startFlush.newBoundary else d
    if l.barges.any (fun b => b.lostFrom.isSome) then d.endCause 27 2 else d

/-- The LAYER_START of a layer that has closed completes (R112, R113). -/
def Dev.tellClosed (d : Dev) (l : Layer) (how : Option CloseHow) : Dev :=
  match l.startReq with
  | none => d
  | some q =>
    let (st, x, r2) := how.getD (l.status, 0, 0)
    d.complete q st x (words4 l.tally.1 l.tally.2 r2 0)

/-- A layer closes, and its LAYER_START completes. -/
def Dev.closeLayer (d : Dev) (num : Nat) (how : Option CloseHow) (woramFlags : Nat) : Dev :=
  match d.layer? num with
  | none => d
  | some l => (d.shutLayer num woramFlags).tellClosed l how

/-- Every vector of a layer without an outcome is not started (ABORTED). A jump is complete at once, also in a barge
never dispatched, which may then complete OK. DESIGN CHOICE (log entry 80). -/
def Dev.abortRest (d : Dev) (num : Nat) : Dev :=
  match d.layer? num with
  | none => d
  | some l =>
    let fill (v : VRec) : VRec :=
      if v.full then v
      else if v.split then
        let has (h : Nat) : Bool := v.outs.any (fun o => o.half == h)
        { v with outs := v.outs ++ (if has 0 then [] else [⟨stAborted, none, true, 0, 0, 0, false⟩])
            ++ (if has 1 then [] else [⟨stAborted, none, true, 1, 0, 0, false⟩]) }
      else { v with outs := v.outs ++ [⟨stAborted, none, false, 0, 0, 0, false⟩] }
    let d := d.modLayer num (fun l => { l with barges := l.barges.map (fun b =>
      if b.done.isSome then b else { b with recs := b.recs.map fill }) })
    l.barges.foldl (fun d b => d.checkBarge num b.id) d

/-- A layer's records leave the lock queues and the engines. -/
def Dev.purgeLayer (d : Dev) (num : Nat) : Dev :=
  let keep (u : WUnit) : Bool := u.cal.isSome || u.layer != num
  { d with
    engines := d.engines.map (fun e => { e with
      queue := e.queue.filter keep
      held := e.held.filter (fun h => keep h.unit)
      done := e.done.filter (fun x => keep x.unit) })
    keeper := { d.keeper with
      halves := d.keeper.halves.filter (fun h => keep h.unit)
      locks := d.keeper.locks.map (fun k => { k with queue := k.queue.filter keep, wait := k.wait.filter keep }) } }

/-! ## Layer commands (R105 to R115) -/

/-- An argument word with any value. -/
def anyW : Nat := 0xFFFFFFFF

/-- The flow vector normalised: none outside the tolerance of R105. DEDUCED (log entry 35). -/
def flowOf (fx fy : Int) : Option (Int × Int) :=
  if fx = 0 ∧ fy = 0 then some (0x40000000, 0)
  else
    let m := (fx * fx + fy * fy).toNat
    if 2 ^ 50 < (if m < 2 ^ 60 then 2 ^ 60 - m else m - 2 ^ 60) then none
    else
      -- √m times 2^30, then each word divided by √m and rounded to nearest
      let root : Int := isqrt (m * 2 ^ 60)
      some (divRound (fx * 2 ^ 60) root, divRound (fy * 2 ^ 60) root)

/-- The number rules of R108. -/
def Dev.numberBad (d : Dev) (num : Nat) : Bool :=
  d.lay.opened.any (fun l => decide (num ≤ l.num)) ||
    (match d.lay.lastClosed with | some (n, _) => decide (num < n) | none => false)

/-- DEDUCED (log entry 34). -/
def cmdLayerOpen : Cmd where
  check d q := firstFail (shape q [0xFFFFFF, 0xFFFF, anyW, anyW, anyW, 0xFFFF] none 0 ++
    [d.modeIs q layerModes,
     limitIf (q.a1.toNat == 0 || decide (60000 < q.a5.toNat)) 0x02FF])
  effect q _ d :=
    let num := q.a0.get 0 24
    match flowOf (signed 32 q.a3.toNat) (signed 32 q.a4.toNat) with
    | none => if d.numberBad num then d.fail q stLimit 0x0201 else d.fail q stLimit 0x0203
    | some (fx, fy) =>
      if d.numberBad num then d.fail q stLimit 0x0201
      else if (d.table q.a2.toNat).isNone then d.fail q stLimit 0x0204
      else
        let entry := match d.lay.lastClosed with
          | some (n, e) => if n = num then e else 0
          | none => 0
        let l : Layer :=
          { num := num, count := q.a1.get 0 16, ptab := q.a2.toNat, flowX := fx, flowY := fy,
            bargeWait := if q.a5 = 0 then 1000 else q.a5.get 0 16, entry := entry, barges := [],
            startReq := none, recoatWait := false, startWait := 0, startTick := none, started := false,
            emitVecs := [] }
        (d.modLay (fun y => { y with opened := y.opened ++ [l] })).ok q (unsigned 32 fx) (unsigned 32 fy) 0 0

/-- LAYER_OPEN. It is not executed while two layers are open (R107). -/
def execLayerOpen (r : Req) (e : Env) (s : State) : Host.Outcome State Fault Refusal :=
  s.command 0x0201 cmdLayerOpen r e

/-- The number is judged before START_WAIT. DEDUCED (log entry 34). -/
def cmdLayerStart : Cmd where
  check d q := firstFail (shape q [0xFFFFFF, 1, 0xFFFF] none 0 ++ [d.modeIs q [.build],
    (match (d.lay.opened.filter (fun l => l.startReq.isNone)).map (fun l => l.num) with
      | [] => true
      | n :: ns => q.a0.toNat != ns.foldl Nat.min n, stMalformed, 0x0202),
    limitIf (decide (60000 < q.a2.toNat)) 0x02FF])
  effect q _ d := (if d.exposed.isNone then d.gridsDue else d).modLayer q.a0.toNat (fun l => { l with
    startReq := some q
    recoatWait := q.a1.bit 0
    startWait := if q.a2 = 0 then 60000 else q.a2.toNat })

/-- LAYER_START. Outside BUILD it waits unexecuted at its ring's head (R77). -/
def execLayerStart (r : Req) (e : Env) (s : State) : Host.Outcome State Fault Refusal :=
  s.command 0x0202 cmdLayerStart r e

def cmdLayerDiscard : Cmd where
  check d q := firstFail (shape q [0xFFFFFF] none 0 ++ [d.modeIs q layerModes])
  effect q _ d :=
    let num := q.a0.toNat
    match d.layer? num with
    | none => d.fail q stMalformed 0x0202
    | some l =>
      if l.startReq.isSome then d.fail q stReject 0x0205
      else (((d.purgeLayer num).abortRest num).closeLayer num none 0).ok q 0 0 0 0

def execLayerDiscard (r : Req) (e : Env) (s : State) : Host.Outcome State Fault Refusal :=
  s.command 0x0203 cmdLayerDiscard r e

def cmdLayerQuery : Cmd where
  check d q := firstFail (shape q [0xFFFFFF] none 0 ++ [d.modeIs q layerModes])
  effect q _ d :=
    match d.layer? q.a0.toNat with
    | none => d.ok q 0 0 0 0
    | some l =>
      d.ok q ((if l.startReq.isSome then 2 else 1) + l.barges.length * 65536) l.count
        ((l.barges.flatMap (fun b => b.recs)).filter VRec.full).length 0

def execLayerQuery (r : Req) (e : Env) (s : State) : Host.Outcome State Fault Refusal :=
  s.command 0x0280 cmdLayerQuery r e

end Sys2Proof.Machine
end

