-- ==== Sys2Proof/Machine/Ledger.lean ====
section
/-! DEFINITION. The heat ledger (08): cells, epochs, updates, preheat and feed-forward, allocation and the
ledger commands. -/

namespace Sys2Proof.Machine

/-! ## The grid (R237 to R240) -/

/-- Installed DRAM in bytes (R346); zero for a geometry R346 does not list. -/
def Dev.dramBytes (d : Dev) : Nat :=
  let gib : Nat := match d.bit DRAM_GEOM 1, d.bit DRAM_GEOM 0, d.bit DRAM_GEOM 3 with
    | false, false, two => if two then 64 else 32
    | false, true, two => if two then 32 else 16
    | true, false, two => if two then 0 else 64
    | true, true, two => if two then 64 else 32
  gib * 2 ^ 30

def Dev.ldgPitch (d : Dev) : Nat := 100 * 2 ^ d.fld LDG_CFG 0 3
def Dev.ldgNx (d : Dev) : Nat := d.fld LDG_SIZE 0 15 + 1
def Dev.ldgNy (d : Dev) : Nat := d.fld LDG_SIZE 16 15 + 1
def Dev.ldgTx (d : Dev) : Nat := (d.ldgNx + 31) / 32
def Dev.ldgTy (d : Dev) : Nat := (d.ldgNy + 31) / 32

/-- The cell of a bed position in bu times 2^24 (R237). -/
def Dev.cellOf (d : Dev) (x y : Int) : Int × Int :=
  let p : Int := d.ldgPitch * 2 ^ 24
  ((x - d.rdI LDG_ORG_X * 2 ^ 24) / p, (y - d.rdI LDG_ORG_Y * 2 ^ 24) / p)

/-- The cell lies in the grid. -/
def Dev.inGrid (d : Dev) (cx cy : Int) : Bool :=
  decide (0 ≤ cx) && decide (cx < d.ldgNx) && decide (0 ≤ cy) && decide (cy < d.ldgNy)

/-- The tile of a cell and the cell's place in it (R240, R242). DEDUCED (log entry 54). -/
def Dev.tileOf (d : Dev) (cx cy : Nat) : Nat × Nat :=
  ((cy / 32) * d.ldgTx + cx / 32, (cy % 32) * 32 + cx % 32)

/-- A cold cell with dose 0. -/
def coldCell : Nat := 0x7FFF0000

/-- A tile not written since the clear. -/
def emptyTile : Tile := ⟨true, 0, false, false, []⟩

def LCopy.tile (c : LCopy) (t : Nat) : Tile := (bankGet c.tiles t).getD emptyTile

def LCopy.setTile (c : LCopy) (t : Nat) (x : Tile) : LCopy :=
  { c with tiles := bankPut c.tiles t emptyTile x }

/-- The TB3 start of an epoch held in the ring. -/
def LCopy.startOf (c : LCopy) (gen : Nat) : Option Nat :=
  if c.gen < gen + 256 then (c.starts.find? (fun p => p.1 == gen)).map (fun p => p.2) else none

/-- A cleared copy whose epoch 0 starts now. DEDUCED (log entry 55). -/
def LCopy.cleared (now : Nat) : LCopy := ⟨[], 0, 0, [(0, now)], none⟩

/-- The fields of a cell word. -/
def cellDose (w : Nat) : Nat := w % 65536
def cellT (w : Nat) : Nat := w / 65536 % 32768
def cellLayer (w : Nat) : Bool := w.testBit 31
def mkCell (layer : Bool) (t dose : Nat) : Nat := bitOf layer * 2 ^ 31 + t * 65536 + dose

/-- The time a cell's dose refers to (t_end of R241), of an epoch that began at `start`. -/
def tEnd (start w : Nat) : Nat := if cellT w = 0x7FFF then start else start + (cellT w + 1) * perMs

/-! ## Decay (R241, R246) -/

/-- exp(−x) for x times 2^64, times 2^64. -/
def expNeg (x : Nat) : Nat :=
  let ln2 := 12786308645202655660
  let k := x / ln2
  let r : Int := x % ln2
  if 80 < k then 0 else
    let rec series (n : Nat) (i term acc : Int) : Int := match n with
      | 0 => acc
      | m + 1 => let t := -(term * r / (i * 2 ^ 64)); series m (i + 1) t (acc + t)
    (series 24 1 (2 ^ 64) (2 ^ 64)).toNat / 2 ^ k

/-- The decay over an age in time-stamp ticks, times 2^64. -/
def Dev.decay (d : Dev) (age : Nat) : Nat :=
  expNeg (age * 2 ^ 64 / (Nat.max 1 (d.rd LDG_TAU).toNat * perUs))

/-- The factor over an age that may be negative: a dose whose millisecond ends after the epoch starts grows (R241). -/
def Dev.decayS (d : Dev) (age : Int) : Nat :=
  if 0 ≤ age then d.decay age.toNat else 2 ^ 128 / Nat.max 1 (d.decay (-age).toNat)

/-- A dose within one LSB of the exact one, saturated (R254): the device's own rounding is open, but for a whole number.
DESIGN CHOICE (log entry 37). -/
def Dev.roundDose (d : Dev) (x : Nat) : Nat × Dev :=
  if x % 2 ^ 64 = 0 then (Nat.min 0xFFFF (x / 2 ^ 64), d)
  else
    let (e, d) := d.freeErr 1
    ((clampInt 0 0xFFFF ((((x + 2 ^ 63) / 2 ^ 64 : Nat) : Int) + e)).toNat, d)

/-- A tile is turned over to the present epoch (R241). -/
def Dev.turnover (d : Dev) (c : LCopy) (t : Tile) : Tile × Dev :=
  let now := (c.startOf c.gen).getD 0
  let step (acc : List (Nat × Nat) × Dev) (p : Nat × Nat) : List (Nat × Nat) × Dev :=
    let (cells, d) := acc
    let (dose, d) := match c.startOf t.gen with
      | none => (0, d)
      | some st => d.roundDose (cellDose p.2 * d.decayS ((now : Int) - tEnd st p.2))
    (bankPut cells p.1 coldCell (mkCell (cellLayer p.2 && decide (c.layerGen ≤ t.gen)) 0x7FFF dose), d)
  let (cells, d) := t.cells.foldl step ([], d)
  ({ t with cells := cells, gen := c.gen }, d)

/-- A cell as a read decodes it: word and tile (R241, R250, R265). -/
def LCopy.cell (c : LCopy) (t : Tile) (k : Nat) : Nat :=
  if t.poison then mkCell true 0x7FFF 0xFFFF
  else if t.empty then coldCell
  else
    let w := (bankGet t.cells k).getD coldCell
    let layer := cellLayer w && decide (c.layerGen ≤ t.gen)
    if (c.startOf t.gen).isNone then mkCell layer 0x7FFF 0 else mkCell layer (cellT w) (cellDose w)

/-! ## Updates (R246, R248, R258) -/

/-- A replay works on the replay copy (R261). -/
def Dev.onReplay (d : Dev) : Bool := d.mode.cur == .service

/-- The replay copy, or the operational one. -/
def Dev.copyOf (d : Dev) (rep : Bool) : Option LCopy := if rep then d.ldg.replay else d.ldg.copy

def Dev.putCopy (d : Dev) (rep : Bool) (c : LCopy) : Dev :=
  if rep then { d with ldg := { d.ldg with replay := some c } } else { d with ldg := { d.ldg with copy := some c } }

/-- The ledger copy in use: the replay copy in SERVICE (R261). -/
def Dev.ldgCopy (d : Dev) : Option LCopy := d.copyOf d.onReplay

/-- A tile is brought to the front of the cache of 1024 tiles; the one used longest ago goes back to DRAM (R243).
DESIGN CHOICE (log entry 99). -/
def Dev.touchTile (d : Dev) (rep : Bool) (tn : Nat) (write : Bool) : Dev :=
  let key := 2 * tn + bitOf rep
  let l := d.ldg.cache
  { d with ldg := { d.ldg with
    cache := ((key, write || l.any (fun p => p.1 == key && p.2)) :: l.filter (fun p => p.1 != key)).take 1024 } }

/-- The tiles of the 5 × 5 cells around a cell (R250). -/
def Dev.tilesAround (d : Dev) (cx cy : Int) : List Nat :=
  ((List.range 25).filterMap (fun (i : Nat) =>
    let x := cx + ((i % 5 : Nat) : Int) - 2
    let y := cy + ((i / 5 : Nat) : Int) - 2
    if d.inGrid x y then some (d.tileOf x.toNat y.toNat).1 else none)).eraseDups

/-- Energy in nJ that no cell takes is counted in units of DOSE_LSB (R248, R265); which way a fraction is
rounded is free. DESIGN CHOICE (log entry 79). -/
def Dev.countLost (d : Dev) (nj : Nat) : Dev :=
  let lsb := Nat.max 1 (d.rd LDG_DOSE_LSB).toNat
  if nj % lsb = 0 then d.count (LDG_CNT 1) (nj / lsb)
  else let (k, d) := d.free; d.count (LDG_CNT 1) (nj / lsb + k % 2)

/-- An update is applied to its cell of a copy: energy e_nj, time t in TB3. -/
def Dev.applyTo (d : Dev) (rep : Bool) (cx cy nj t : Nat) : Dev :=
  match d.copyOf rep with
  | none => d
  | some c =>
    let (tn, k) := d.tileOf cx cy
    let d := d.touchTile rep tn true
    let tile := c.tile tn
    let lsb := Nat.max 1 (d.rd LDG_DOSE_LSB).toNat
    if tile.poison then d.countLost nj
    else
      let (tile, d) := if tile.empty then ({ tile with empty := false, gen := c.gen }, d)
        else if tile.gen < c.gen then d.turnover c tile else (tile, d)
      let st := (c.startOf tile.gen).getD 0
      let w := (bankGet tile.cells k).getD coldCell
      let tc := tEnd st w
      let e := nj * 2 ^ 64 / lsb
      let exact := if tc ≤ t then cellDose w * d.decay (t - tc) + e
        else cellDose w * 2 ^ 64 + nj * d.decay (tc - t) / lsb
      let T := if tc ≤ t then Nat.min 31999 ((t - st) / perMs) else cellT w
      let ovr := decide (0xFFFF * 2 ^ 64 + 2 ^ 63 ≤ exact)
      let (dose, d) := d.roundDose exact
      let layer := cellLayer w || (match c.layerStart with | some s => decide (s ≤ t) | none => false)
      let d := d.putCopy rep (c.setTile tn { tile with cells := bankPut tile.cells k coldCell (mkCell layer T dose) })
      if ovr then
        let d := d.count (LDG_CNT 2) 1
        if d.ldg.satRaised then d
        else ({ d with ldg := { d.ldg with satRaised := true } }).fault 21 5
      else d

/-- An update to the copy in use. -/
def Dev.applyUpdate (d : Dev) (cx cy nj t : Nat) : Dev := d.applyTo d.onReplay cx cy nj t

/-- B of R257: cells of 2 mm. -/
def Dev.bandCells (d : Dev) : Nat := ceilDiv 8000 d.ldgPitch

/-- The neighbours across the sides −X, +X, −Y, +Y, with the cell's distance to each side. -/
def Dev.sideOf (d : Dev) (cx cy : Nat) : List (Nat × Nat) :=
  let w := d.rd LDG_NBR
  ([(0, cx), (4, d.ldgNx - 1 - cx), (8, cy), (12, d.ldgNy - 1 - cy)].filter (fun p => w.bit (p.1 + 3))).map
    (fun p => (w.get p.1 3, p.2))

/-- The neighbours an update of a cell is forwarded to: those whose band holds the cell, and, where it is `applied` here,
those whose boundary lies within B cells of it (R257, R258). -/
def Dev.bandPeers (d : Dev) (cx cy : Nat) (applied : Bool) : List Nat :=
  ((d.sideOf cx cy).filter (fun p => decide (p.2 < d.bandCells) || (applied && decide (p.2 < 2 * d.bandCells)))).map
    (fun p => p.1)

/-- The cell is one a neighbour owns (R257). -/
def Dev.bandOf (d : Dev) (cx cy : Nat) : List Nat :=
  ((d.sideOf cx cy).filter (fun p => decide (p.2 < d.bandCells))).map (fun p => p.1)

/-- The bed-frame lower corner of a cell in bu. -/
def Dev.cellCorner (d : Dev) (cx cy : Nat) : Int × Int :=
  (d.rdI LDG_ORG_X + (cx * d.ldgPitch : Nat), d.rdI LDG_ORG_Y + (cy * d.ldgPitch : Nat))

/-- INEXACT is set on a tile of a copy (R240). -/
def Dev.markInexact (d : Dev) (rep : Bool) (tn : Nat) : Dev :=
  match d.copyOf rep with
  | none => d
  | some c => d.putCopy rep (c.setTile tn { c.tile tn with inexact := true })

/-- A tile holds band cells that a neighbour owns (R240, R257). -/
def Dev.tileInBand (d : Dev) (dev tn : Nat) : Bool :=
  let w := d.rd LDG_NBR
  let b := d.bandCells
  let x0 := 32 * (tn % d.ldgTx)
  let y0 := 32 * (tn / d.ldgTx)
  let x1 := Nat.min (x0 + 31) (d.ldgNx - 1)
  let y1 := Nat.min (y0 + 31) (d.ldgNy - 1)
  (w.bit 3 && w.get 0 3 == dev && decide (x0 < b)) ||
  (w.bit 7 && w.get 4 3 == dev && decide (d.ldgNx ≤ x1 + b)) ||
  (w.bit 11 && w.get 8 3 == dev && decide (y0 < b)) ||
  (w.bit 15 && w.get 12 3 == dev && decide (d.ldgNy ≤ y1 + b))

/-- The tiles that hold band cells of a neighbour. -/
def Dev.bandTiles (d : Dev) (dev : Nat) : List Nat :=
  (List.range (d.ldgTx * d.ldgTy)).filter (d.tileInBand dev)

/-- The link to a neighbour is down: its band of the operational copy is inexact, with BAND_LOST once for each outage
(R258). -/
def Dev.bandLost (d : Dev) (dev : Nat) : Dev :=
  if d.ldg.copy.isNone then d else
    let d := (d.bandTiles dev).foldl (fun d tn => d.markInexact false tn) d
    if d.ldg.bandLost.contains dev then d
    else ({ d with ldg := { d.ldg with bandLost := dev :: d.ldg.bandLost } }).fault 21 6

/-- The ledger applies the updates of a cell: its tile is not poisoned (R265). -/
def Dev.applies (d : Dev) (cx cy : Nat) : Bool :=
  match d.ldgCopy with | some c => !(c.tile (d.tileOf cx cy).1).poison | none => false

/-- A cell's update is forwarded to the neighbours it concerns (R258, R371). -/
def Dev.forwardUpdate (d : Dev) (u : LUpd) : Dev :=
  let (x, y) := d.cellCorner u.cx u.cy
  (d.bandPeers u.cx u.cy (d.applies u.cx u.cy)).foldl (fun d dev =>
    if d.members.contains dev then d.sendTo dev 0x20 [x, y, u.nj, u.t] else d.bandLost dev) d

/-- The engine's write queue takes what its local store holds while it has room (R248). -/
def Engine.refill (e : Engine) : Engine :=
  let n := 2048 - e.writes.length
  { e with writes := e.writes ++ e.store.take n, store := e.store.drop n }

/-- The ledger applies the oldest update of engine n (R246). -/
def Dev.takeUpdate (d : Dev) (n : Nat) : Dev :=
  match (d.engines.getD n default).writes with
  | [] => d
  | u :: us =>
    let d := { d with engines := modAt d.engines n (fun e => { e with writes := us }.refill) }
    if d.fencedUnit n then d.ghost n 1
    else if d.inGrid u.cx u.cy then (d.applyUpdate u.cx u.cy u.nj u.t).forwardUpdate u
    else d.count (LDG_CNT 3) 1

/-- The ledger takes the oldest loss notice of engine n (R248). -/
def Dev.takeNotice (d : Dev) (n : Nat) : Dev :=
  match (d.engines.getD n default).notices with
  | [] => d
  | u :: rest =>
    let d := { d with engines := modAt d.engines n (fun e => { e with notices := rest }) }
    if d.fencedUnit n then d.ghost n 1 else
      let (x, y) := d.cellCorner u.cx u.cy
      let d := (d.bandPeers u.cx u.cy true).foldl (fun d dev =>
        if d.members.contains dev then d.sendTo dev 0x21 [x, y] else d) d
      (d.markInexact d.onReplay (d.tileOf u.cx u.cy).1).fault 21 4

/-- LEDGER_UPDATE. -/
def execLedgerUpdate (n : Fin 18) (s : State) : Host.Outcome State Fault Refusal := s.on (fun d => d.takeUpdate n)

/-- LEDGER_LOSS_NOTICE. -/
def execLedgerLossNotice (n : Fin 18) (s : State) : Host.Outcome State Fault Refusal := s.on (fun d => d.takeNotice n)

/-- The cell of this device whose lower corner is (x, y). -/
def Dev.cellAt (d : Dev) (x y : Int) : Option (Nat × Nat) :=
  let (cx, cy) := d.cellOf (x * 2 ^ 24) (y * 2 ^ 24)
  if d.inGrid cx cy then some (cx.toNat, cy.toNat) else none

/-- The operational copy takes the updates of neighbours: in BUILD, and in HOLD and SAFE for ticks released before
(R261, R386). DEDUCED (log entry 55). -/
def Dev.bandOpen (d : Dev) (dev : Nat) : Bool :=
  d.members.contains dev && (d.mode.cur == .build || d.mode.cur == .hold || d.mode.cur == .safe)

/-- BAND_UPD: a neighbour's update (R258). -/
def execBandUpd (via : Route) (x y : Int) (nj : Word) (t : Word64) (s : State) :
    Host.Outcome State Fault Refusal :=
  s.on (fun d => d.routed via.src via.dst 0x20 [x, y, (nj.toNat : Int), (t.toNat : Int)] (fun d =>
    if !d.bandOpen via.src.val then d else
    match d.cellAt x y with
    | some (cx, cy) => d.applyTo false cx cy nj.toNat t.toNat
    | none => d))

/-- BAND_LOSS: a neighbour lost an update (R258). -/
def execBandLoss (via : Route) (x y : Int) (s : State) : Host.Outcome State Fault Refusal :=
  s.on (fun d => d.routed via.src via.dst 0x21 [x, y] (fun d =>
    if !d.bandOpen via.src.val then d else
    match d.cellAt x y with
    | some (cx, cy) => (d.markInexact false (d.tileOf cx cy).1).fault 21 4
    | none => d))

/-! ## Preheat and feed-forward (R250 to R253) -/

/-- The preheat of a cell for a planned arrival, times 2^79, and whether the neighbourhood holds a poisoned tile. -/
def Dev.preheat (d : Dev) (c : LCopy) (cx cy : Int) (tArr : Nat) : Nat × Bool :=
  let one (acc : Nat × Bool) (i : Nat) : Nat × Bool :=
    let x := cx + ((i % 5 : Nat) : Int) - 2
    let y := cy + ((i / 5 : Nat) : Int) - 2
    if !d.inGrid x y then acc else
      let (tn, k) := d.tileOf x.toNat y.toNat
      let t := c.tile tn
      let w := c.cell t k
      match c.startOf t.gen with
      | none => (acc.1, acc.2 || t.poison)
      | some st =>
        let te := tEnd st w
        (acc.1 + (d.fld (LDG_W i) 0 16) * cellDose w * (if te < tArr then d.decay (tArr - te) else 2 ^ 64),
          acc.2 || t.poison)
  (List.range 25).foldl one (0, false)

/-- ff_of of R251. -/
def Dev.ffOf (d : Dev) (h curve gain : Nat) : Nat :=
  let step := Nat.max 1 (d.rd (LDG_CSTEP curve)).toNat
  let i := h / step
  let at_ (j : Nat) : Int := d.fld (LDG_CURVE curve j) 0 16
  let k : Int := if 32 ≤ i then at_ 32
    else at_ i + Int.tdiv ((at_ (i + 1) - at_ i) * (h % step : Nat)) step
  (clampInt 0 0x8000 (0x4000 + (k - 0x4000) * gain / 2 ^ 14)).toNat

/-- DEDUCED (log entry 55). -/
def Dev.fallbackFf (d : Dev) : Nat := d.fld LDG_LA 16 16

/-- The ledger's answer for a sample point: ff of the point (R250, R251, R253). H is open within the bound of R254 as long
as ff stays within two LSB of that of the exact H; a neighbourhood that gives nothing gives H = 0.
DESIGN CHOICE (log entry 37). -/
def Dev.answer (d : Dev) (x y : Int) (tArr : Nat) (set : List Byte) : Nat × Dev :=
  match d.ldgCopy with
  | none => (d.fallbackFf, d)
  | some c =>
    let (cx, cy) := d.cellOf x y
    let (raw, poisoned) := d.preheat c cx cy tArr
    let d := (d.tilesAround cx cy).foldl (fun d tn => d.touchTile d.onReplay tn false) d
    let h := Nat.min 0xFFFFFFFF (raw / 2 ^ 79)
    let (e, d) := if raw = 0 then (0, d) else d.freeErr (h / 1000 + 1)
    let ff (h : Nat) : Nat := d.ffOf h (psCurve set) (psFfGain set)
    let near := ff (clampInt 0 0xFFFFFFFF (h + e)).toNat
    let f := if near ≤ ff h + 2 ∧ ff h ≤ near + 2 then near else ff h
    (if poisoned then Nat.min f (Nat.min d.fallbackFf 0x4000) else f, d)

/-- The last-exposure time of a cell for the revisit test, none for no constraint (R256). -/
def LCopy.lastExposure (c : LCopy) (t : Tile) (k : Nat) : Option Nat :=
  if t.poison then c.startOf c.gen
  else
    let w := c.cell t k
    if t.empty || !cellLayer w then none
    else (c.startOf t.gen).map (fun st => tEnd st w)

/-! ## Epochs (R239) -/

/-- A copy starts a further epoch at TB3 t. -/
def LCopy.epoch (c : LCopy) (t : Nat) (layer : Bool) : LCopy :=
  let g := c.gen + 1
  { c with
    gen := g
    layerGen := if layer then g else c.layerGen
    starts := ((g, t) :: c.starts).take 256
    layerStart := if layer then some t else c.layerStart }

/-- Both copies' epoch registers. -/
def Dev.ldgRegs (d : Dev) : Dev :=
  match d.ldg.copy with
  | none => (d.wr LDG_EPOCH 0).wr64 LDG_EPOCH_T_LO LDG_EPOCH_T_HI 0
  | some c => (d.wrN LDG_EPOCH (c.gen % 2 ^ 24)).wr64 LDG_EPOCH_T_LO LDG_EPOCH_T_HI ((c.startOf c.gen).getD 0)

/-- The ledger's part of a layer-start tick. -/
def Dev.ldgLayerStart (d : Dev) : Dev :=
  match d.ldg.copy with
  | none => d
  | some c => ({ d with ldg := { d.ldg with copy := some (c.epoch d.tb3 true), satRaised := false } }).ldgRegs

/-- EPOCH_START: 32,000 ms after the start of the present epoch while a layer is in exposure, HOLD
included. -/
def execEpochStart (s : State) : Host.Outcome State Fault Refusal :=
  s.on (fun d =>
    match d.ldgCopy with
    | none => d
    | some c =>
      let due := (c.startOf c.gen).getD 0 + 32000 * perMs
      if d.running.isNone || !(d.building || d.mode.cur == .hold) then d
      else ((d.advanceTo due).putCopy d.onReplay (c.epoch due false)).ldgRegs)

/-! ## Allocation and commands (R259 to R264) -/

/-- The base of the operational copy, and of the replay copy. -/
def Dev.ldgBase (d : Dev) : Nat := d.rd64 LDG_BASE_LO LDG_BASE_HI
def Dev.ldgRbase (d : Dev) : Nat := d.rd64 LDG_RBASE_LO LDG_RBASE_HI
def Dev.ldgBytes (d : Dev) : Nat := 4 * 2 ^ 20 + d.ldgTx * d.ldgTy * 4096

/-- The conditions of R262. -/
def Dev.ldgCfgOk (d : Dev) : Bool :=
  let ox := d.rdI LDG_ORG_X
  let oy := d.rdI LDG_ORG_Y
  let near (v : Int) : Bool := decide (v.natAbs ≤ 2144000)
  let b := d.ldgBase
  let r := d.ldgRbase
  let n := d.ldgBytes
  let tau := (d.rd LDG_TAU).toNat
  let la := d.fld LDG_LA 0 16
  decide (d.fld LDG_CFG 0 3 ≤ 4) && near ox && near oy &&
  near (ox + (d.ldgNx * d.ldgPitch : Nat)) && near (oy + (d.ldgNy * d.ldgPitch : Nat)) &&
  decide (b % 2 ^ 20 = 0) && decide (r % 2 ^ 20 = 0) && decide (b + n ≤ d.dramBytes) &&
  (r == 0 || (decide (r + n ≤ d.dramBytes) && (decide (b + n ≤ r) || decide (r + n ≤ b)))) &&
  decide (100 ≤ tau) && decide (tau ≤ 60000000) && decide (2000 ≤ la) && decide (la ≤ 16000) &&
  (List.range 16).all (fun c => d.rd (LDG_CSTEP c) != 0)

/-- Entry to STANDBY from CONFIGURE (R261, R262). DEDUCED (log entry 55). -/
def Dev.ldgAllocate (d : Dev) : Dev :=
  if !d.bit LDG_CFG 31 then d
  else if d.ldgCfgOk then
    ({ d with ldg := { d.ldg with
      copy := some (LCopy.cleared d.tb3)
      replay := if d.ldgRbase = 0 then none else some (LCopy.cleared d.tb3)
      bandLost := [], cache := [] } }).ldgRegs
  else d.fault 21 7

/-- Entry to CONFIGURE releases both copies. -/
def Dev.ldgRelease (d : Dev) : Dev :=
  ({ d with ldg := { d.ldg with copy := none, replay := none, cache := [] } }).ldgRegs

def cmdLedgerClear : Cmd where
  check d q := firstFail (shape q [1] none 0 ++
    [d.modeIs q (if q.a0.bit 0 then [.standby, .service] else [.standby]),
     limitIf (if q.a0.bit 0 then d.ldg.replay.isNone else d.ldg.copy.isNone) 0x0513])
  effect q _ d :=
    let c := LCopy.cleared d.tb3
    let d := { d with ldg := { d.ldg with cache := d.ldg.cache.filter (fun p => p.1 % 2 != bitOf (q.a0.bit 0)) } }
    let d := if q.a0.bit 0 then { d with ldg := { d.ldg with replay := some c } }
      else ({ d with ldg := { d.ldg with copy := some c } }).ldgRegs
    d.ok q 0 0 0 0

def execLedgerClear (r : Req) (e : Env) (s : State) : Host.Outcome State Fault Refusal :=
  s.command 0x0511 cmdLedgerClear r e

/-- One entry of LEDGER_READ (R260). -/
def Dev.ldgEntry (d : Dev) (c : LCopy) (cx cy : Nat) : List Byte :=
  let (tn, k) := d.tileOf cx cy
  let t := c.tile tn
  let w := c.cell t k
  let valid := !t.empty && !t.poison && cellT w != 0x7FFF && (c.startOf t.gen).isSome && c.layerStart.isSome
  let stamp : Int := ((tEnd ((c.startOf t.gen).getD 0) w : Nat) : Int) - ((c.layerStart.getD 0 : Nat) : Int)
  leBytes 2 (cellDose w) ++
  leBytes 1 (bitOf (cellLayer w) + 2 * bitOf valid + 4 * bitOf t.inexact
    + 8 * bitOf ((List.range 8).any (fun v => d.tileInBand v tn))
    + 16 * bitOf t.empty + 32 * bitOf t.poison) ++ [0] ++
  leBytes 4 (if valid then unsigned 32 (stamp / (perMs : Int)) else 0)

def cmdLedgerRead : Cmd where
  check d q :=
    let w := q.a1.get 0 16
    let h := q.a1.get 16 16
    firstFail
      [(decide (8 ≤ q.flags) || badArgs q [anyW, anyW, 1], stMalformed, 0x0004),
       (q.dataLen != 0, stMalformed, 0x0004),
       (q.resultLen != 0 && q.resultAddr % 64 != 0, stMalformed, 0x0005),
       (decide (q.resultLen < 8 * w * h) || decide (1048576 < q.resultLen), stMalformed, 0x0006),
       d.modeIs q [.standby, .calibrate, .build, .hold, .safe, .service, .windDown],
       limitIf (w == 0 || h == 0 || decide (d.ldgNx < q.a0.get 0 16 + w) || decide (d.ldgNy < q.a0.get 16 16 + h))
         0x0512,
       limitIf (if q.a2.bit 0 then d.ldg.replay.isNone else d.ldg.copy.isNone) 0x0513]
  effect q _ d :=
    match (if q.a2.bit 0 then d.ldg.replay else d.ldg.copy) with
    | none => d.fail q stLimit 0x0513
    | some c =>
      d.okData q ((List.range (q.a1.get 16 16)).flatMap (fun y => (List.range (q.a1.get 0 16)).flatMap (fun x =>
        d.ldgEntry c (q.a0.get 0 16 + x) (q.a0.get 16 16 + y)))) 0 0 0 0

def execLedgerRead (r : Req) (e : Env) (s : State) : Host.Outcome State Fault Refusal :=
  s.command 0x0590 cmdLedgerRead r e

/-- Counters cleared by the bits of a write-only register. -/
def Dev.clearCounts (d : Dev) (val : Word) (regs : List Nat) : Dev :=
  (List.range regs.length).foldl (fun d i => if val.bit i then d.wr (regs.getD i 0) 0 else d) d

/-- LDG_CNT_CLR (R265). -/
def execLdgCntClr (val : Word) (s : State) : Host.Outcome State Fault Refusal :=
  s.whenUp (fun d => d.clearCounts val ((List.range 4).map LDG_CNT))

end Sys2Proof.Machine
end

