-- ==== Sys2Proof/Machine/Path.lean ====
section
/-! DEFINITION. The path of a unit: moves, run-ups, records and lags placed in time (R146 to R154), and
the estimates of the lock keeper (R207). -/

namespace Sys2Proof.Machine

/-! ## Points and pieces -/

/-- The point at arc s (bu times 2^80, from the record's start) on a record's line, in bu times 2^24. -/
def alongQ (r : Rec) (s : Int) : Int × Int :=
  let l : Int := distBu r.sx r.sy r.x r.y
  if l = 0 then (r.x * 2 ^ 24, r.y * 2 ^ 24)
  else (r.sx * 2 ^ 24 + (r.x - r.sx) * s * 2 ^ 24 / l, r.sy * 2 ^ 24 + (r.y - r.sy) * s * 2 ^ 24 / l)

/-- A point in bu times 2^24 lies in the extent of a grid (R173). -/
def Grid.inExtentQ (g : Grid) (x y : Int) : Bool :=
  let s : Int := 2 ^ 24
  let ex := x - g.cx * s
  let ey := y - g.cy * s
  decide (g.x0 * s ≤ x) && decide (x ≤ (g.x0 + ((g.nx - 1) * g.px : Nat)) * s) &&
  decide (g.y0 * s ≤ y) && decide (y ≤ (g.y0 + ((g.ny - 1) * g.py : Nat)) * s) &&
  (g.radius == 0 || decide (ex * ex + ey * ey ≤ (g.radius * g.radius : Nat) * s * s))

def Piece.prof (p : Piece) : Prof := ⟨p.len, p.v0, p.vp, p.v1, p.a, p.j⟩

/-- The distance covered in a piece at run time u. -/
def Piece.dist (p : Piece) (u : Nat) : Nat := if p.len = 0 then 0 else Nat.min p.len (p.prof.pos (u - p.t0))

/-- The position in a piece at run time u. -/
def Piece.at_ (p : Piece) (u : Nat) : Int × Int :=
  if p.len = 0 then (p.bx, p.by_) else
    let s : Int := p.dist u
    (p.ax + (p.bx - p.ax) * s / p.len, p.ay + (p.by_ - p.ay) * s / p.len)

/-- A stop of a duration. -/
def holdPiece (t dur : Nat) (x y : Int) (pset : Nat) : Piece :=
  ⟨t, dur, x, y, x, y, 0, 0, 0, 0, 1, 1, none, 0, pset⟩

/-- A straight profile between two points. -/
def straightPiece (t : Nat) (a b : Int × Int) (p : Prof) (rec_ : Option Nat) (arc0 pset : Nat) : Piece :=
  ⟨t, p.time, a.1, a.2, b.1, b.2, p.len, p.v0, p.vp, p.v1, p.a, p.j, rec_, arc0, pset⟩

/-- Whole ticks that cover a time of the engine's own fixed-point figures; a billionth of a tick of their rounding is
not counted. -/
def ceilTicks (t : Nat) : Nat := (t - 2 ^ 30 + tickT - 1) / tickT

/-! ## Speeds of a chain (R147, R148) -/

/-- What the speed plan needs of one record: its length and the limits of its set. -/
structure Leg where
  r : Rec
  set : List Byte
  /-- arcs in bu times 2^80 -/
  s : Nat
  e : Nat

def Leg.len (l : Leg) : Nat := l.e - l.s
def Leg.mark (l : Leg) : Nat := markV l.set * sv
def Leg.a (l : Leg) : Nat := accA l.set
def Leg.j (l : Leg) : Nat := jerkJ l.set

/-- The corner speed limit between two records. -/
def cornerV (l m : Leg) : Nat :=
  let dot := (l.r.x - l.r.sx) * (m.r.x - m.r.sx) + (l.r.y - l.r.sy) * (m.r.y - m.r.sy)
  let lens := distBu l.r.sx l.r.sy l.r.x l.r.y * distBu m.r.sx m.r.sy m.r.x m.r.y
  if dot ≤ 0 ∨ lens = 0 then 0
  else Nat.min (Nat.min l.mark m.mark) (Nat.min l.mark m.mark * (dot.toNat * 2 ^ 160) / lens)

/-- The backward pass from the joint after `legs` (read from the near end): the speed at the joint before
them. -/
def backV (last : Nat) : List Leg → Nat
  | [] => last
  | l :: ls =>
    let after := match ls with
      | [] => last
      | m :: _ => Nat.min (cornerV l m) (backV last ls)
    vReach after l.len l.a l.j l.mark

/-- The exit speeds of the records of a chain: backward over at most 64 records, then forward.
DEDUCED (log entry 78). -/
def exitSpeeds (v0 vEnd : Nat) : List Leg → List Nat
  | [] => []
  | l :: ls =>
    let want := match ls with
      | [] => vEnd
      | m :: _ =>
        let ahead := ls.take 64
        Nat.min (cornerV l m) (backV (if 64 < ls.length then 0 else vEnd) ahead)
    let v := Nat.min want (vReach v0 l.len l.a l.j l.mark)
    v :: exitSpeeds v vEnd ls

/-! ## Planning a unit -/

/-- A planned path. -/
structure Plan where
  pieces : List Piece
  tOn : Nat
  tOff : Nat
  tEnd : Nat
  holdAt : Nat
  foc : List (Nat × Int)
  clipped : Bool

/-- The laser-off move and its settle (R149): pieces and the time they end. `err`: the open tick of
R145. -/
def movePieces (from_ dest : Int × Int) (set : List Byte) (pset settle : Nat) (err : Int) : List Piece × Nat :=
  if from_ = dest then ([], 0) else
    let dx := dest.1 - from_.1
    let dy := dest.2 - from_.2
    let len := isqrt ((dx * dx + dy * dy).toNat * 2 ^ 112)
    let p := mkProf len 0 0 (jumpV set * sv) (accA set) (jerkJ set)
    let dur := ((ceilTicks p.time : Int) + err).toNat * tickT
    let t := dur + settle * tickT
    ([{ straightPiece 0 from_ dest p none 0 pset with dur := dur }]
      ++ (if settle = 0 then [] else [holdPiece dur (settle * tickT) dest.1 dest.2 pset]), t)

/-- The pieces of the records of a chain from time t on. -/
def legPieces (t v : Nat) (k : Nat) : List Leg → List Nat → List Piece
  | l :: ls, w :: ws =>
    let p := mkProf l.len v w l.mark l.a l.j
    let q := straightPiece t (alongQ l.r l.s) (alongQ l.r l.e) p (some k) l.s l.r.pset
    q :: legPieces (t + q.dur) w (k + 1) ls ws
  | _, _ => []

/-- The time a list of pieces that starts at t ends. -/
def piecesEnd (t : Nat) (ps : List Piece) : Nat := match ps.getLast? with | some p => p.t0 + p.dur | none => t

/-- How far a straight path stays in the extent, up to `want` (R154). -/
def roomAlong (g : Option Grid) (path : Nat → Int × Int) (want : Nat) : Nat :=
  match g with
  | none => want
  | some g =>
    let ok (l : Nat) : Bool := let p := path l; g.inExtentQ p.1 p.2
    if ok want then want else bisect ok 110 0 want

/-- How far a run along a record's line from arc s stays in the extent. -/
def roomFor (g : Option Grid) (r : Rec) (s : Int) (dir : Int) (want : Nat) : Nat :=
  roomAlong g (fun l => alongQ r (s + dir * l)) want

/-- The exit speeds of a chain and the length of its lag: the run of SKY_LAG at the exit speed and the deceleration,
kept in the extent: shortened first in the lag run, then in the deceleration, whose exit speed follows (R153, R154).
The last part says that it was shortened. -/
def lagPlan (g : Option Grid) (v0 : Nat) (legs : List Leg) (ll : Leg) : List Nat × Nat × Bool :=
  if psSkyLag ll.set = 0 then (exitSpeeds v0 0 legs, 0, false)
  else
    let lagAt (v : Nat) : Nat := rampDist v 0 ll.a ll.j + v * (psSkyLag ll.set * sd / 1000000000) / sv
    let vs := exitSpeeds v0 ll.mark legs
    let v := vs.getLastD 0
    let room := roomFor g ll.r ll.e 1 (lagAt v)
    if lagAt v ≤ room then (vs, lagAt v, false)
    else if rampDist v 0 ll.a ll.j ≤ room then (vs, room, true)
    else
      let vs := exitSpeeds v0 (Nat.min ll.mark (vReach 0 room ll.a ll.j ll.mark)) legs
      (vs, Nat.min room (lagAt (vs.getLastD 0)), true)

/-- The path of a unit from a rest position (R149 to R154). The run-up takes the whole bu of lead_bu, within the bound
of R145; where it leaves the extent, what stays inside. -/
def planUnit (sets : List (List Byte)) (g : Option Grid) (from_ : Int × Int) (settle spotSettle : Nat)
    (u : WUnit) (err : Int) : Plan :=
  let set (r : Rec) : List Byte := sets.getD r.pset []
  let r0 := u.recs.headD default
  let p0 := set r0
  let focusOf (r : Rec) : Int := psFocus (set r) + r.focus
  if r0.type = 3 ∨ r0.type = 4 then
    let dest := (r0.x * 2 ^ 24, r0.y * 2 ^ 24)
    let (mv, t) := movePieces from_ dest p0 r0.pset settle err
    let dur := r0.duration * sd / 1000000000
    let foc := [(0, focusOf r0)]
    if r0.type = 3 then
      let h := ceilDiv r0.duration 500 * tickT
      ⟨mv ++ [holdPiece t h dest.1 dest.2 r0.pset], t, t, t + h, mv.length, foc, false⟩
    else
      let on := t + spotSettle * tickT
      ⟨mv ++ [holdPiece t (spotSettle * tickT) dest.1 dest.2 r0.pset,
          { holdPiece on dur dest.1 dest.2 r0.pset with rec_ := some 0 }],
        on, on + dur, on + dur, mv.length, foc, false⟩
  else
    let n := u.recs.length
    let legs : List Leg := (List.range n).map (fun k =>
      let r := u.recs.getD k default
      let full := distBu r.sx r.sy r.x r.y
      ⟨r, set r, if k = 0 then u.startArc * 2 ^ 56 else 0,
        if k + 1 = n then (match u.endArc with | some e => Nat.min full (e * 2 ^ 56) | none => full) else full⟩)
    let l0 := legs.headD ⟨r0, p0, 0, 0⟩
    let ll := legs.getLastD l0
    let lead := decide (psSkyLead p0 ≠ 0) || u.resumed
    let rd0 := rampDist 0 l0.mark l0.a l0.j
    let want := leadBu p0 * sd
    let room := if lead then roomFor g l0.r l0.s (-1) want else 0
    let short := decide (room < want) && lead
    let run := if short then room else rd0 + markV p0 * psSkyLead p0 * sd / 1000000000
    let v0 := if !lead then 0 else if rd0 ≤ run then l0.mark else Nat.min l0.mark (vReach 0 run l0.a l0.j l0.mark)
    let (vs, lagLen, lagShort) := lagPlan g v0 legs ll
    let vL := vs.getLastD 0
    let start := alongQ l0.r l0.s
    let runPt := if lead then alongQ l0.r ((l0.s : Int) - room) else start
    let (mv, t) := movePieces from_ runPt p0 r0.pset settle err
    let up := if lead then
        [straightPiece t runPt start ⟨run, 0, v0, v0, l0.a, l0.j⟩ none 0 r0.pset]
      else []
    let tOn := piecesEnd t up
    let body := legPieces tOn v0 0 legs vs
    let tOff := piecesEnd tOn body
    let endPt := alongQ ll.r ll.e
    let lag := if psSkyLag ll.set ≠ 0 ∧ vL ≠ 0 then
        [straightPiece tOff endPt (alongQ ll.r ((ll.e : Int) + lagLen)) ⟨lagLen, vL, vL, 0, ll.a, ll.j⟩ none 0 ll.r.pset]
      else []
    let foc := (0, focusOf r0) :: ((body.drop 1).filterMap (fun p => p.rec_.map (fun k =>
      (p.t0, focusOf (u.recs.getD k default)))))
    ⟨mv ++ up ++ body ++ lag, tOn, tOff, piecesEnd tOff lag, mv.length, foc, short || lagShort⟩

/-! ## A run in time -/

/-- Seconds times 2^80 as time-stamp ticks, to nearest. -/
def toTs (t : Nat) : Nat := (2 * t * 16000000000 + sd) / (2 * sd)

/-- Time-stamp ticks as seconds times 2^80. -/
def ofTs (n : Nat) : Nat := n * sd / 16000000000

/-- The run time of the inserted hold. -/
def Run.holdT (r : Run) : Nat := match r.pieces[r.holdAt]? with | some p => p.t0 | none => r.tEnd

/-- The TB3 of a run time at or after the hold. -/
def Run.stamp (r : Run) (t : Nat) : Nat :=
  r.start * perTick + toTs t + (if r.holdT ≤ t then r.hold else 0)

/-- The run time of a TB3. -/
def Run.time (r : Run) (ts : Nat) : Nat :=
  let u := ts - r.start * perTick
  let h := toTs r.holdT
  if u ≤ h then ofTs u else if u ≤ h + r.hold then r.holdT else ofTs (u - r.hold)

/-- Emission begins and ends at these TB3 target times. -/
def Run.on (r : Run) : Nat := r.stamp r.tOn
def Run.off (r : Run) : Nat := r.stamp r.tOff

/-- The run emits. -/
def Run.emits (r : Run) : Bool := decide (r.tOn < r.tOff)

/-- The tick on which the path has ended. -/
def Run.endTick (r : Run) : Nat := r.start + ceilTicks r.tEnd + (r.hold + perTick - 1) / perTick

/-- The piece in force at a run time. -/
def Run.piece (r : Run) (t : Nat) : Option Piece :=
  match (r.pieces.filter (fun p => decide (p.t0 ≤ t))).getLast? with
  | some p => some p
  | none => r.pieces.head?

/-- The target at a TB3. -/
def Run.target (r : Run) (ts : Nat) : Int × Int :=
  let t := r.time ts
  match r.piece t with | some p => p.at_ t | none => (0, 0)

/-- Where the path ends. -/
def Run.endPt (r : Run) : Int × Int := match r.pieces.getLast? with | some p => (p.bx, p.by_) | none => (0, 0)

/-- The record and arc on it, in bu times 2^80, at a run time; the record last traversed where the path
is between records. Arc stands still once emission has ended. -/
def Run.arcAt (r : Run) (t : Nat) : Nat × Nat :=
  let t := Nat.min t r.tOff
  match (r.pieces.filter (fun p => p.rec_.isSome && decide (p.t0 ≤ t))).getLast? with
  | some p => (p.rec_.getD 0, p.arc0 + p.dist t)
  | none => (0, r.unit.startArc * 2 ^ 56)

/-- The emitting arc of the unit at a run time: since emission began, in bu times 2^80. -/
def Run.emitArc (r : Run) (t : Nat) : Nat :=
  let t := Nat.min t r.tOff
  (r.pieces.filterMap (fun p => if p.rec_.isSome ∧ p.t0 ≤ t then some (p.dist t) else none)).sum

/-- The run time at which a record's arc is crossed. -/
def Run.timeOfArc (r : Run) (k arc : Nat) : Nat :=
  match r.pieces.find? (fun p => p.rec_ == some k && decide (p.arc0 ≤ arc) && decide (arc ≤ p.arc0 + p.len)) with
  | some p => p.t0 + p.prof.timeAt (arc - p.arc0)
  | none => r.tOff

/-- The focus target of a ramp of zr ticks at a TB3, in µm times 2^24. DEDUCED (log entry 78). -/
def Ramp.at_ (z : Ramp) (zr ts : Nat) : Int :=
  let k := (ts - z.t0) / perTick
  if ts < z.t0 then z.from_ else if zr ≤ k then z.to_ else z.from_ + (z.to_ - z.from_) * (k : Int) / (zr : Int)

/-- The ramp in force at a TB3, given targets in µm with their times: where the target changes, a new ramp
begins on the first tick from that time (R151). DEDUCED (log entry 78). -/
def Ramp.follow (zr ts : Nat) : Ramp → List (Nat × Int) → Ramp
  | z, [] => z
  | z, (t, f) :: rest =>
    let t0 := ceilDiv t perTick * perTick
    if ts < t0 then z
    else Ramp.follow zr ts (if f * 2 ^ 24 = z.to_ then z else ⟨t0, z.at_ zr t0, f * 2 ^ 24⟩) rest

/-- The focus ramp of a run in force at a TB3. -/
def Run.ramp (r : Run) (zr ts : Nat) : Ramp := Ramp.follow zr ts r.focus (r.foc.map (fun p => (r.stamp p.1, p.2)))

/-! ## est_ticks (R207)

Figures in bu, seconds and ticks times 2^512. A whole number takes the place of a sum that lies nearer to it than their
rounding (R145). DEDUCED (log entry 88). -/

/-- The scale of these figures. -/
def fine : Nat := 2 ^ 512

/-- The root of a number below 2^1280. -/
def rootFine (x : Nat) : Nat := isqrtAux x 640 0

/-- A surd times 2^512. -/
def Surd.fine (x : Surd) : Nat := x.p * Machine.fine / x.q + rootFine (x.m * Machine.fine * Machine.fine / x.n)

/-- A point: (x, y) in bu times 2^24, and from there `s` bu times 2^512 along (dx, dy). -/
structure XPt where
  x : Int
  y : Int
  dx : Int
  dy : Int
  s : Int

/-- A point of the engine's own figures. -/
def XPt.of (p : Int × Int) : XPt := ⟨p.1, p.2, 0, 0, 0⟩

/-- One coordinate: base c, part d of the direction. -/
def XPt.coord (p : XPt) (c d : Int) : Int :=
  let off : Int := rootFine ((p.s * d).natAbs * (p.s * d).natAbs / Nat.max 1 (p.dx * p.dx + p.dy * p.dy).toNat)
  c * 2 ^ 488 + (if p.s * d < 0 then -off else off)

/-- The distance of two points in bu times 2^512. DEDUCED (log entry 88). -/
def gapFine (a b : XPt) : Nat :=
  let ex := b.coord b.x b.dx - a.coord a.x a.dx
  let ey := b.coord b.y b.dy - a.coord a.y a.dy
  let g := rootFine (ex * ex + ey * ey).toNat
  if g < 2 ^ 200 then 0 else g

/-- The length of a record in bu times 2^512. -/
def Rec.lengthFine (r : Rec) : Nat :=
  rootFine (((r.x - r.sx) * (r.x - r.sx) + (r.y - r.sy) * (r.y - r.sy)).toNat * fine * fine)

/-- Nanoseconds in seconds times 2^512, and ticks. -/
def nsFine (n : Nat) : Nat := n * fine / 1000000000
def tickFine (n : Nat) : Nat := n * fine / 2000000

/-- Whole ticks that cover a time. DEDUCED (log entry 88). -/
def ticksUp (t : Nat) : Nat := ceilDiv (t * 2000000 - 2 ^ 200) fine

/-- ramp_s at a speed in bu/s. -/
def rampFine (v : Nat) (p : List Byte) : Nat := (rampTimeX v (accA p) (jerkJ p)).fine

/-- The time of the lead of a set: ramp and SKY_LEAD, or half a ramp. -/
def leadTime (p : List Byte) : Nat :=
  if psSkyLead p = 0 then rampFine (markV p) p / 2 else rampFine (markV p) p + nsFine (psSkyLead p)

/-- The time of the lag of a set. -/
def lagTime (p : List Byte) : Nat :=
  if psSkyLag p = 0 then rampFine (markV p) p / 2 else rampFine (markV p) p + nsFine (psSkyLag p)

/-- The jump itself, without its settle; zero where there is none. -/
def jumpTime (p : List Byte) (len : Nat) : Nat :=
  if len = 0 then 0 else len / Nat.max 1 (jumpV p) + rampFine (jumpV p) p

/-- The jump term of est_ticks: SETTLE_TICKS follow a jump. -/
def jumpTerm (p : List Byte) (len settle : Nat) : Nat :=
  if len = 0 then 0 else jumpTime p len + tickFine settle

/-- The legs of a unit: lengths in bu times 2^512 and sets. -/
def WUnit.legs (u : WUnit) (sets : List (List Byte)) : List (Nat × List Byte) :=
  let n := u.recs.length
  (List.range n).map (fun k =>
    let r := u.recs.getD k default
    let full := r.lengthFine
    let e := if k + 1 = n then (match u.endArc with | some e => e * 2 ^ 488 | none => full) else full
    (e - (if k = 0 then u.startArc * 2 ^ 488 else 0), sets.getD r.pset []))

/-- The point at an arc of a record, in bu times 2^512. -/
def Rec.pointAt (r : Rec) (s : Int) : XPt := ⟨r.sx * 2 ^ 24, r.sy * 2 ^ 24, r.x - r.sx, r.y - r.sy, s⟩

/-- The point a unit's first profile starts at: run-up point, or start point without a lead; a spot's or
dwell's point. -/
def WUnit.entry (u : WUnit) (sets : List (List Byte)) : XPt :=
  let r := u.recs.headD default
  let p := sets.getD r.pset []
  if r.type = 3 ∨ r.type = 4 then XPt.of (r.x * 2 ^ 24, r.y * 2 ^ 24)
  else r.pointAt ((u.startArc : Int) * 2 ^ 488 - (if psSkyLead p = 0 ∧ !u.resumed then 0 else (leadBu p : Int) * fine))

/-- Where the beam comes to rest after a unit: its end point, or its lag stop point (R153). -/
def WUnit.exit (u : WUnit) (sets : List (List Byte)) : XPt :=
  let r := u.recs.getLastD default
  let p := sets.getD r.pset []
  let lag : Int := if psSkyLag p = 0 then 0
    else ((rampDistX (markV p) (accA p) (jerkJ p)).add (markV p * psSkyLag p) 1000000000).fine
  if r.type = 3 ∨ r.type = 4 then XPt.of (r.x * 2 ^ 24, r.y * 2 ^ 24)
  else match u.endArc with
    | some e => r.pointAt ((e : Int) * 2 ^ 488 + lag)
    | none => { r.pointAt lag with x := r.x * 2 ^ 24, y := r.y * 2 ^ 24 }

/-- est_ticks of a unit with a jump term. -/
def WUnit.estAfter (u : WUnit) (sets : List (List Byte)) (jump : Nat) : Nat :=
  let r := u.recs.headD default
  let first := sets.getD r.pset []
  if r.type = 3 ∨ r.type = 4 then ticksUp (jump + nsFine r.duration)
  else ticksUp (jump + ((u.legs sets).map (fun l => l.1 / Nat.max 1 (markV l.2))).sum
    + leadTime first + lagTime (sets.getD (u.recs.getLastD default).pset []))

/-- The set of a unit's first record. -/
def WUnit.firstSet (u : WUnit) (sets : List (List Byte)) : List Byte := sets.getD (u.recs.headD default).pset []

/-- est_ticks of a unit that starts from a queue end. -/
def WUnit.est (u : WUnit) (sets : List (List Byte)) (from_ : XPt) (settle : Nat) : Nat :=
  u.estAfter sets (jumpTerm (u.firstSet sets) (gapFine from_ (u.entry sets)) settle)

/-- The distance of two points in bu times 2^24, as bu times 2^80. -/
def gap (a b : Int × Int) : Nat :=
  isqrt (((b.1 - a.1) * (b.1 - a.1) + (b.2 - a.2) * (b.2 - a.2)).toNat * 2 ^ 112)

end Sys2Proof.Machine
end

