-- ==== Sys2Proof/Machine/Keeper.lean ====
section
/-! DEFINITION. Dispatch and the lock keeper (07): queues, assignment, stitches, commits, tracks and the
lock registers. -/

namespace Sys2Proof.Machine

/-! ## Engines and beams -/

/-- The parameter sets a unit runs under: those of its layer's table or of its calibration command
(R134, R188). -/
def Dev.setsOf (d : Dev) (u : WUnit) : List (List Byte) :=
  match u.cal with
  | some key =>
    match d.cals.find? (fun c => (c.req.ring, c.req.idx) == key),
        d.probes.find? (fun c => (c.req.ring, c.req.idx) == key) with
    | some c, _ => c.sets
    | none, some c => c.sets
    | none, none => []
  | none =>
    match (match d.layer? u.layer with
      | some l => if l.started then d.lay.active else d.table l.ptab
      | none => d.lay.active) with
    | some t => t.sets
    | none => []

/-- The longest tracking delay of an engine (R555). -/
def Dev.dmax (d : Dev) (n : Nat) : Nat :=
  Nat.max (d.fld (BE_TRK_DLY n 0) 0 10) (Nat.max (d.fld (BE_TRK_DLY n 1) 0 10) (d.fld (BE_TRK_DLY n 2) 0 10))

def Dev.settle (d : Dev) (n : Nat) : Nat := d.fld (BE_MOVE_CFG n) 0 8

/-- The queue of an engine, with the stitch halves on their way into it. -/
def Dev.queued (d : Dev) (n : Nat) : List WUnit :=
  (d.eng n).queue ++ (d.keeper.halves.filter (fun h => h.engine == n)).map (fun h => h.unit)

/-- Where an engine's planned work and queue end (P_b of R207). -/
def Dev.queueEnd (d : Dev) (n : Nat) : XPt :=
  let e := d.eng n
  match (d.queued n).getLast?, e.runs.getLast? with
  | some u, _ => u.exit (d.setsOf u)
  | none, some r => XPt.of r.endPt
  | none, none => XPt.of (e.px, e.py)

/-- The tick on which an engine runs dry: exact for planned work, est_ticks for its queue (R207). -/
def Dev.dryTick (d : Dev) (n : Nat) : Nat :=
  let e := d.eng n
  let t0 := match e.runs.getLast? with | some r => Nat.max d.tick r.endTick | none => d.tick
  let p0 := match e.runs.getLast? with | some r => XPt.of r.endPt | none => XPt.of (e.px, e.py)
  ((d.queued n).foldl (fun (acc : Nat × XPt) u =>
    let sets := d.setsOf u
    (acc.1 + u.est sets acc.2 (d.settle n), u.exit sets)) (t0, p0)).1

/-- Beam b is served: unfenced, and no spare is still taking it over (R226). -/
def Dev.served (d : Dev) (b : Nat) : Bool :=
  d.beamLive b && (match d.engineOf b with | some n => !(d.eng n).taking | none => false)

/-- The dry time of a beam is shown in LK_QTIMEb, in ticks from the layer-start tick. -/
def Dev.reportDry (d : Dev) (n : Nat) : Dev :=
  match d.beamOf n with
  | none => d
  | some b =>
    if d.served b then d.wrN (LK_QTIME b) (d.dryTick n - d.layerTick) else d.wrN (LK_QTIME b) 0xFFFFFFFF

/-- A unit in order of queue position. -/
def placeAt (u : WUnit) : List WUnit → List WUnit
  | [] => [u]
  | x :: xs => if u.qpos < x.qpos then u :: x :: xs else x :: placeAt u xs

/-- The first queue position from k on that is not among the taken ones. -/
def freePlace (taken : List Nat) : Nat → Nat → Nat
  | 0, k => k
  | n + 1, k => if taken.contains k then freePlace taken n (k + 1) else k

/-- In a replay a unit joins engine n's queue at its recorded position, or, where none is recorded, at the next one the
record leaves free (R230). DESIGN CHOICE (log entry 25). -/
def Dev.takePlace (d : Dev) (n : Nat) (r : Replay) (u : WUnit) (at_ : Option Nat) : Dev :=
  let g := d.gbeam ((d.beamOf n).getD 0)
  let taken := (r.places.filter (fun p => p.1 == g)).map (fun p => p.2)
  let e := d.eng n
  let k := at_.getD (freePlace taken (taken.length + 1) (e.qposOf u.layer))
  let counts := at_.isNone && (u.recs.headD default).type != 3
  (d.modEng n (fun e => { e with
    queue := placeAt { u with reach := d.tick, qpos := k } e.queue
    qpos := if counts then (u.layer, k + 1) :: e.qpos.filter (fun c => c.1 != u.layer) else e.qpos })).reportDry n

/-- A unit joins the tail of an engine's queue (R209). -/
def Dev.enqueue (d : Dev) (n : Nat) (u : WUnit) : Dev :=
  match d.replay with
  | some r => d.takePlace n r u none
  | none => (d.modEng n (fun e => e.join d.tick u)).reportDry n

/-- In a replay a unit starts once every recorded position before its own is taken. -/
def Dev.inTurn (d : Dev) (n : Nat) (u : WUnit) : Bool :=
  match d.replay with
  | none => true
  | some r =>
    let g := d.gbeam ((d.beamOf n).getD 0)
    !r.script.any (fun e => decisionCode e == 0x10 && decisionBeam e == g && decide (decisionWord e < u.qpos))

/-! ## Dispatch (R122, R138, R205, R206) -/

/-- The records of a barge in units: jumps left out, chains together. -/
def unitsOf (rs : List Rec) : List (List Nat) :=
  (List.range rs.length).filterMap (fun i =>
    let r := rs.getD i default
    if r.type = 0 ∨ r.type = 2 then none
    else if r.type = 1 then some ((List.range (chainFrom rs i).length).map (fun k => i + k))
    else some [i])

/-- A unit of these records. -/
def mkUnit (layer barge order owner : Nat) (rs : List Rec) (idxs : List Nat) : WUnit :=
  { (default : WUnit) with
    layer := layer, barge := barge, idxs := idxs, recs := idxs.map (fun i => rs.getD i default),
    order := order + idxs.headD 0, owner := owner }

/-- An entry stands behind those of its layer and of earlier ones (R206). -/
def placeUnit (u : WUnit) : List WUnit → List WUnit
  | [] => [u]
  | x :: xs => if u.layer < x.layer then u :: x :: xs else x :: placeUnit u xs

/-- An entry joins a lock queue, ahead of later layers; without room, the last ones wait (R205, R206). -/
def LockQ.put (q : LockQ) (u : WUnit) : LockQ :=
  let l := placeUnit u (q.queue ++ q.wait)
  let k := if q.wait.isEmpty ∧ q.queue.length < 4096 then q.queue.length + 1 else q.queue.length
  { q with queue := l.take k, wait := l.drop k }

/-- An entry enters a lock's queue, waits for room, or is beyond the 4096 of its layer (R205, R206). -/
def Dev.lockEnter (d : Dev) (i : Nat) (u : WUnit) : Dev :=
  let q := d.lockQ i
  let n := ((q.counts.find? (fun c => c.1 == u.layer)).map (fun c => c.2)).getD 0
  if 4096 ≤ n then
    let d := d.noExposure u 0 stSkipped
    if q.ovr.contains u.layer then d
    else (d.modLock i (fun q => { q with ovr := u.layer :: q.ovr })).fault 20 1
  else
    let d := d.modLock i (fun q => { q with
      counts := (u.layer, n + 1) :: q.counts.filter (fun c => c.1 != u.layer) })
    d.modLock i (fun q => q.put { u with lock := some i })

/-- An entry is decided as a stitch: it may be split, no one lock holds it, and there is a split of it, or a
record of it that no lock holds (R210). DEDUCED (log entry 36). -/
def Dev.needsStitch (d : Dev) (u : WUnit) : Bool :=
  (d.lockOfRecs u.recs).isNone && (u.recs.headD default).flags.testBit 1 &&
    (!(d.splits true (d.setsOf u) u.recs).isEmpty || !u.recs.all (fun r => (d.lockOfRecs [r]).isSome))

/-- The lock a unit's entry goes to: the lock of its records, else the lowest lock it can be split in, else
the lock of its first record. DEDUCED (log entry 36). -/
def Dev.entryLock (d : Dev) (u : WUnit) : Option Nat :=
  match d.lockOfRecs u.recs, d.needsStitch u with
  | some i, _ => some i
  | none, false => d.lockOfRecs (u.recs.take 1)
  | none, true =>
    match (d.splits true (d.setsOf u) u.recs).map (fun s => s.lock) with
    | [] => d.lockOfRecs (u.recs.take 1)
    | l :: ls => some (ls.foldl Nat.min l)

/-- One unit is dispatched. -/
def Dev.dispatch (d : Dev) (u : WUnit) : Dev :=
  let beams := bitList 16 (u.recs.headD default).elig
  match beams with
  | [b] =>
    match d.beamLive b, d.engineOf b with
    | true, some n => d.enqueue n u
    | _, _ => d.noExposure u 0 stSkipped
  | _ =>
    if !beams.any d.beamLive then d.noExposure u 0 stSkipped
    else match d.entryLock u with
      | some i => d.lockEnter i u
      | none => d.noExposure u 0 stSkipped

/-- The lock keeper is neither off nor frozen: in SERVICE for a replay only (R231). -/
def Dev.keeperOn (d : Dev) : Bool :=
  d.replay.isSome || d.mode.cur == .standby || d.mode.cur == .calibrate || d.mode.cur == .build

/-- BARGE_DISPATCH: supervisor pair 0 dispatches the next accepted barge, in layer order. -/
def execBargeDispatch (s : State) : Host.Outcome State Fault Refusal :=
  s.on (fun d =>
    if !d.keeperOn then d else
    match d.lay.opened.find? (fun l => l.barges.any (fun b => !b.dispatched)) with
    | none => d
    | some l =>
      match l.barges.findIdx? (fun b => !b.dispatched) with
      | none => d
      | some k =>
        match l.barges[k]? with
        | none => d
        | some b =>
          let d := d.modLayer l.num (fun l => { l with barges := modAt l.barges k (fun b => { b with dispatched := true }) })
          let rs := b.recs.map (fun v => v.r)
          let units := ((unitsOf rs).map (fun is => is.filter (fun i => decide (i < b.lostFrom.getD rs.length)))).filter
            (fun is => !is.isEmpty)
          let d := units.foldl (fun d idxs => d.dispatch (mkUnit l.num b.id (k * 65536) d.devId rs idxs)) d
          d.checkBarge l.num b.id)

/-- LOCK_QUEUE_ROOM: entries that waited enter lock i's queue as far as there is room (R205). -/
def execLockQueueRoom (i : Fin 64) (s : State) : Host.Outcome State Fault Refusal :=
  s.on (fun d => d.modLock i (fun q =>
    let n := 4096 - q.queue.length
    { q with queue := q.queue ++ q.wait.take n, wait := q.wait.drop n }))

/-- DRY_TIME_REPORT: engine n reports Q_b (R207). -/
def execDryTimeReport (n : Fin 18) (s : State) : Host.Outcome State Fault Refusal :=
  s.on (fun d => if d.fencedUnit n then d.ghost n 1 else d.reportDry n)

/-! ## The choice (R204, R208, R209) -/

/-- The dry time of a global beam. -/
def Dev.qOf (d : Dev) (g : Nat) : Nat :=
  if g / 16 = d.devId then (d.rd (LK_QTIME (g % 16))).toNat
  else ((d.keeper.peerQ.find? (fun p => p.1 == g)).map (fun p => p.2)).getD 0xFFFFFFFF

/-- The candidates of an entry in lock i, as global beams in rising order (R204). -/
def Dev.candidates (d : Dev) (u : WUnit) (i : Nat) : List Nat :=
  let r := u.recs.headD default
  let mine := ((bitList 16 (r.elig &&& d.lockMembers i)).filter d.served).map d.gbeam
  let peers := if r.flags.testBit 2 then d.lockPeers i else []
  ((if d.devId < d.fld (LK_LOCK_XDEV i) 24 3 then mine ++ peers else peers ++ mine).filter (fun g =>
    !u.excluded.contains g))

/-- The candidate with the least Q; ties go to the lower beam. -/
def Dev.bestOf (d : Dev) : List Nat → Option Nat
  | [] => none
  | g :: gs => match d.bestOf gs with
    | none => some g
    | some h => if d.qOf h < d.qOf g then some h else some g

/-- The present tick counted from the layer-start tick. -/
def Dev.now (d : Dev) : Nat := d.tick - d.layerTick

/-- The head entry leaves lock i's queue. -/
def Dev.lockPop (d : Dev) (i : Nat) : Dev := d.modLock i (fun q => { q with queue := q.queue.drop 1 })

/-- The engine that serves a local global beam. -/
def Dev.engOfG (d : Dev) (g : Nat) : Nat := (d.engineOf (g % 16)).getD 0

/-- The jump term from where a beam's queue ends to a point; that of a peer's beam is free. DEDUCED (log entry 95). -/
def Dev.jumpFor (d : Dev) (g : Nat) (set : List Byte) (dest : XPt) : Nat :=
  if g / 16 = d.devId then jumpTerm set (gapFine (d.queueEnd (d.engOfG g)) dest) (d.settle (d.engOfG g))
  else Config.peerJump g d.tick

/-- est_ticks of a unit on a beam. -/
def Dev.estOn (d : Dev) (g : Nat) (u : WUnit) : Nat :=
  let sets := d.setsOf u
  u.estAfter sets (d.jumpFor g (u.firstSet sets) (u.entry sets))

/-- The keeper raises Q of a beam (R209). -/
def Dev.raiseQ (d : Dev) (g v : Nat) : Dev :=
  if g / 16 = d.devId then d.wrN (LK_QTIME (g % 16)) v
  else d.modKeeper (fun k => { k with peerQ := (g, v) :: k.peerQ.filter (fun p => p.1 != g) })

/-- Bytes as the numbers of a flit's content. -/
def byteWords (bs : List Byte) : List Int := bs.map (fun b => (b.toNat : Int))

/-- What XASSIGN carries (R225). -/
def xassignWords (x : XAssign) : List Int :=
  ([x.layer, x.barge, x.idx, x.beam.val, x.lock.val] : List Nat).map (fun (k : Nat) => (k : Int)) ++ [x.sx, x.sy] ++
  ([match x.half with | some h => h.val + 1 | none => 0, x.splitAt, x.p, x.ovl, x.partner, x.t, x.seq] : List Nat).map
    (fun (k : Nat) => (k : Int)) ++ byteWords x.recs

/-- What XCOMMIT_REQ carries (R382). -/
def xtrackWords (x : XTrack) : List Int :=
  ([x.vec.toNat, x.first, x.revisit, x.t] : List Nat).map (fun (k : Nat) => (k : Int)) ++
  x.pts.flatMap (fun p => [p.1, p.2.1, if p.2.2 then 1 else 0])

/-- The entry for global beam g of lock i as XASSIGN. -/
def Dev.xassignOf (d : Dev) (u : WUnit) (g i : Nat) : XAssign :=
  let r := u.recs.headD default
  { layer := u.layer, barge := u.barge, idx := u.idxs.headD 0, beam := Fin.ofNat 16 g, lock := Fin.ofNat 64 i, sx := r.sx, sy := r.sy
    recs := u.recs.flatMap Rec.bytes, half := u.half.map (fun h => Fin.ofNat 2 h), splitAt := u.splitAt, p := u.p, ovl := u.ovl
    partner := u.partner, t := d.tb3, seq := d.keeper.stitches }

/-- An entry goes to a beam: to its engine's queue, or to the peer device (R209, R225). A half of a shared lock enters
its engine's queue in the order of R225's key. DEDUCED (log entry 39), DESIGN CHOICE (log entry 40). -/
def Dev.assign (d : Dev) (u : WUnit) (g i : Nat) : Dev :=
  let q := d.qOf g
  let up := q + d.estOn g u
  let d := d.modLock i (fun l => { l with prev := some g })
  if g / 16 = d.devId then
    match d.engineOf (g % 16) with
    | none => d
    | some n =>
      if u.half.isSome ∧ d.lockShared i then
        (d.modKeeper (fun k => { k with
          halves := putHalf ⟨d.tb3, d.devId, k.stitches, n, u, some (i, q)⟩ k.halves })).raiseQ g up
      else (d.assignEvent u g i ((d.eng n).qposOf u.layer) q).enqueue n u
  else
    let (x, d) := d.free
    let d := d.assignEvent u g i (x % 2 ^ 32) q
    let d := d.modKeeper (fun k => { k with sent := k.sent ++ [⟨g / 16, u.vec, g, u, false, none, []⟩] })
    (d.raiseQ g up).sendTo (g / 16) 0x11 (xassignWords (d.xassignOf u g i))

/-! ## Stitches (R210 to R216) -/

/-- Half h of a chain split at its record k at arc p (R212). -/
def halfUnit (u : WUnit) (h k p ovl partner : Nat) : WUnit :=
  if h = 0 then { u with
    recs := u.recs.take (k + 1), idxs := u.idxs.take (k + 1), endArc := some ((2 * p + ovl) * 2 ^ 23),
    half := some 0, splitAt := k, p := p, ovl := ovl, partner := partner }
  else { u with
    recs := u.recs.drop k, idxs := u.idxs.drop k, startArc := (2 * p - ovl) * 2 ^ 23,
    half := some 1, splitAt := 0, p := p, ovl := ovl, partner := partner }

/-- The estimates t0 and t1 of a split (R213). DEDUCED (log entry 95). -/
def Dev.splitTimes (d : Dev) (u : WUnit) (sets : List (List Byte)) (x : Split) : Nat × Nat :=
  let first := u.firstSet sets
  let r := u.recs.getD x.at_ default
  let p := sets.getD r.pset []
  let before := ((u.recs.take x.at_).map (fun q =>
    q.lengthFine / Nat.max 1 (markV (sets.getD q.pset [])))).sum
  let t0 := d.qOf x.b0 + ticksUp (d.jumpFor x.b0 first (u.entry sets) + leadTime first + before)
  let mid := (x.lo + x.hi) / 2
  let h1 := halfUnit u 1 x.at_ mid (psOvl p) 0
  let n1 := d.engOfG x.b1
  let move := if x.b1 / 16 = d.devId then
      jumpTime p (gapFine (d.queueEnd n1) (h1.entry sets)) + tickFine (d.settle n1)
    else Config.peerJump x.b1 d.tick
  (t0, d.qOf x.b1 + ticksUp (move + leadTime p))

/-- The split with the least max(t0, t1); ties keep the earlier of a list in order of pair and record.
DEDUCED (log entry 36). -/
def Dev.bestSplit (d : Dev) (u : WUnit) (sets : List (List Byte)) : List Split → Option Split
  | [] => none
  | x :: xs =>
    let key (y : Split) : Nat := let t := d.splitTimes u sets y; Nat.max t.1 t.2
    match d.bestSplit u sets xs with
    | none => some x
    | some y =>
      if key x < key y then some x
      else if key y < key x then some y
      else if (x.b0, x.b1, x.at_) = (y.b0, y.b1, y.at_) then some x
      else if x.b0 < y.b0 ∨ (x.b0 = y.b0 ∧ (x.b1 < y.b1 ∨ (x.b1 = y.b1 ∧ x.at_ ≤ y.at_))) then some x else some y

/-- The stitch point (R213). -/
def Dev.stitchPoint (d : Dev) (x : Split) (p : List Byte) (t0 t1 : Nat) : Nat :=
  if d.bit LK_STITCH_CFG 0 then x.lo + (x.hi - x.lo) / 2
  else (clampInt x.lo x.hi
    (divRound ((psOvl p : Int) * 1000000 + ((t1 : Int) - t0) * markV p) 2000000)).toNat

/-- The split record's outcomes come in two halves (R95). -/
def Dev.markSplit (d : Dev) (u : WUnit) (k : Nat) : Dev :=
  d.modLayer u.layer (fun l => { l with barges := l.barges.map (fun b =>
    if b.id = u.barge then { b with recs := modAt b.recs (u.idxs.getD k 0) (fun v => { v with split := true }) }
    else b) })

/-- A stitched entry at the head of lock i's queue is decided, waits or is skipped. -/
def Dev.decideStitch (d : Dev) (i : Nat) (u : WUnit) : Dev :=
  let sets := d.setsOf u
  let may (g : Nat) : Bool := (g / 16 != d.devId || d.served (g % 16)) && !u.excluded.contains g
  let live := (d.splits false sets u.recs).filter (fun x => may x.b0 && may x.b1)
  match d.bestOf (live.map (fun x => x.b0)) with
  | none => (d.lockPop i).noExposure u 0 stSkipped
  | some g =>
    if d.now + d.fld LK_ASSIGN_CFG 0 16 < d.qOf g then d
    else match d.bestSplit u sets live with
      | none => d
      | some x =>
        let (t0, t1) := d.splitTimes u sets x
        let p := sets.getD (u.recs.getD x.at_ default).pset []
        let q := d.stitchPoint x p t0 t1
        let h0 := { halfUnit u 0 x.at_ q (psOvl p) x.b1 with lock := some x.lock }
        let h1 := { halfUnit u 1 x.at_ q (psOvl p) x.b0 with lock := some x.lock }
        let q1 := t1 + d.estOn x.b1 h1
        let d := ((d.lockPop i).markSplit u x.at_).modKeeper (fun k => { k with stitches := k.stitches + 1 })
        let d := (d.assign h0 x.b0 x.lock).assign h1 x.b1 x.lock
        d.raiseQ x.b1 (Nat.max q1 (d.qOf x.b1))

/-- Global beam g can take a returned half at the same p (R211, R226). -/
def Dev.halfFits (d : Dev) (u : WUnit) (g : Nat) : Bool :=
  let r := u.recs.getD u.splitAt default
  let p := (d.setsOf u).getD r.pset []
  let inside (off : Int) : Bool := match d.reachRange false g r off with
    | some (lo, hi) => decide (lo ≤ u.p) && decide (u.p ≤ hi)
    | none => false
  if u.half = some 0 then u.recs.all (fun r => d.reaches false g r.sx r.sy) && inside (u.ovl + 2 * lag0 p : Nat)
  else u.recs.all (fun r => d.reaches false g r.x r.y) && inside (-(u.ovl + 2 * leadBu p : Nat))

/-- The other half of a stitch learns the beam a returned half goes to (R226). -/
def Dev.tellPartner (d : Dev) (u : WUnit) (g : Nat) : Dev :=
  let f (v : WUnit) : WUnit :=
    if v.half.isSome ∧ v.half ≠ u.half ∧ v.layer = u.layer ∧ v.barge = u.barge ∧ v.order = u.order
    then { v with partner := g } else v
  { d with
    engines := d.engines.map (fun (e : Engine) => { e with
      queue := e.queue.map f, runs := e.runs.map (fun r => { r with unit := f r.unit }) })
    keeper := { d.keeper with locks := d.keeper.locks.map (fun (q : LockQ) => { q with queue := q.queue.map f }) } }

/-- The hysteresis of R208: lock i stays with the beam of its previous entry where that is nearly as good as g. -/
def Dev.stay (d : Dev) (i : Nat) (cand : List Nat) (g : Nat) : Nat :=
  match (d.lockQ i).prev with
  | some p => if cand.contains p ∧ d.qOf p ≤ d.qOf g + d.fld LK_ASSIGN_CFG 16 16 then p else g
  | none => g

/-- One decision for the head entry of lock i (R208, R213, R226). -/
def Dev.decideHead (d : Dev) (i : Nat) : Dev :=
  match (d.lockQ i).queue with
  | [] => d
  | u :: _ =>
    if !(match d.running with | some l => l.num == u.layer | none => false) then d
    else if u.half.isSome then
      let cand := (d.candidates u i).filter (fun g => d.halfFits u g && g != u.partner)
      match d.bestOf cand with
      | none => (d.lockPop i).noExposure u 0 stSkipped
      | some g => (((d.lockPop i).tellPartner u g).modKeeper (fun k => { k with stitches := k.stitches + 1 })).assign u g i
    else if d.needsStitch u then d.decideStitch i u
    else
      let cand := d.candidates u i
      match d.bestOf cand with
      | none => (d.lockPop i).noExposure u 0 stSkipped
      | some g =>
        if d.now + d.fld LK_ASSIGN_CFG 0 16 < d.qOf g then d
        else
          (d.lockPop i).assign u (d.stay i cand g) i

/-- A run to the safe point is in progress; in one to the end of the layer work goes on (R54, R82). -/
def Dev.holding (d : Dev) : Bool := d.mode.changing && !d.mode.holdAtLayerEnd

/-- The TB3 of the finish limit of the run to the safe point in progress. -/
def Dev.limitAt (d : Dev) : Nat := d.mode.holdAt + d.fld MODE_HOLD_CFG 0 16 * perUs

/-- A stitch half that finishes in a run to the safe point, because the other half has started (R232).
DEDUCED (log entry 42). -/
def Dev.finishing (d : Dev) (u : WUnit) : Bool :=
  d.holding && decide (d.tb3 < d.limitAt) && (d.halfZeroStarted u || d.halfOneStarted u)

/-- Every device that shares work has reported progress past the key of a half (R35, R225). -/
def Dev.halfDue (d : Dev) (h : XHalf) : Bool :=
  decide (h.t < d.tb3) && d.members.all (fun v => match d.byf.heard.find? (fun p => p.1 == v) with
    | some p => decide (h.t < p.2)
    | none => false)

/-- The halves whose turn has come enter their queues. -/
def Dev.admitHalves (d : Dev) : Dev :=
  let ns := ((d.keeper.halves.filter d.halfDue).map (fun h => h.engine)).eraseDups
  ns.foldl (fun d n => d.reportDry n) (d.enterHalves d.halfDue)

/-- A held vector has still to be committed again (R231). -/
def Dev.recommits (d : Dev) : Bool :=
  d.engines.any (fun e => e.queue.any (fun u => u.resumed) || e.runs.any (fun r => r.unit.resumed && !r.committed))

/-! ## The decisions of a replay (R230) -/

/-- The keeper's own evaluation differs from the record: REPLAY_DIVERGE, once per replay. -/
def Dev.diverge (d : Dev) : Dev :=
  match d.replay with
  | none => d
  | some r =>
    let d := d.modReplay (fun r => { r with diverged := r.diverged + 1 })
    if r.diverged = 0 then d.fault 20 8 else d

/-- A recorded decision is impossible: the replay ends. -/
def Dev.impossible (d : Dev) (vec : Nat) : Dev := d.endReplay stMalformed 0x0C26 (words4 0 0 0 vec)

/-- A recorded decision has been imposed, or goes without effect. -/
def Dev.dropDecision (d : Dev) (e : List Byte) (imposed : Nat) : Dev :=
  d.modReplay (fun r => { r with script := r.script.erase e, imposed := r.imposed + imposed })

/-- The first recorded decision of some codes not yet imposed, that `p` picks. -/
def Dev.recorded (d : Dev) (codes : List Nat) (p : List Byte → Bool) : Option (List Byte) :=
  match d.replay with
  | none => none
  | some r => r.script.find? (fun e => codes.contains (decisionCode e) && p e)

/-- The waiting lock entry that holds a vector, with its lock. -/
def Dev.entryWith (d : Dev) (vec : Nat) : Option (Nat × WUnit) :=
  (List.range 64).findSome? (fun i =>
    ((d.lockQ i).queue.find? (fun u => u.recs.any (fun r => r.vecId == vec))).map (fun u => (i, u)))

/-- Every barge has been dispatched, and no entry waits for room in a lock queue. -/
def Dev.allDispatched (d : Dev) : Bool :=
  d.lay.opened.all (fun l => l.barges.all (fun b => b.dispatched)) && d.keeper.locks.all (fun q => q.wait.isEmpty)

/-- An entry leaves lock i's queue, wherever it stands. -/
def Dev.lockTake (d : Dev) (i : Nat) (u : WUnit) : Dev := d.modLock i (fun q => { q with queue := q.queue.erase u })

/-- Global beam g may take an entry of lock l (R204): a beam of this device is served and eligible, one of the peer a
member there. -/
def Dev.mayTakeEntry (d : Dev) (u : WUnit) (l g : Nat) : Bool :=
  let r := u.recs.headD default
  if g / 16 = d.devId then d.served (g % 16) && r.elig.testBit (g % 16) && (d.lockMembers l).testBit (g % 16)
  else r.flags.testBit 2 && d.bit (LK_LOCK_XDEV l) 31 && d.fld (LK_LOCK_XDEV l) 24 3 == g / 16 &&
    (d.fld (LK_LOCK_XDEV l) 0 16).testBit (g % 16)

/-- A decided entry or half goes where the record has it: into the queue of its engine; one recorded as assigned to a
peer's beam is skipped (R230). -/
def Dev.imposeOn (d : Dev) (u : WUnit) (g l : Nat) (e : Option (List Byte)) : Dev :=
  let d := d.modLock l (fun q => { q with prev := some g })
  let d := match e with | some x => d.dropDecision x (if g / 16 = d.devId then 1 else 0) | none => d
  match decide (g / 16 = d.devId), d.engineOf (g % 16), d.replay with
  | true, some n, some r => d.takePlace n r { u with lock := some l } (e.map decisionWord)
  | _, _, _ => (d.modReplay (fun r => { r with skipped := r.skipped + 1 })).noExposure u 0 stSkipped

/-- The recorded T_sync as a TB3. -/
def Dev.recordedSync (d : Dev) (s : List Byte) : Nat :=
  (d.layerTick + bytesAt s 28 4) * perTick + bytesAt s 26 2 % 2 ^ 13

/-- The recorded assignment of an ordinary entry is imposed, once the entry's own turn has come by R208. -/
def Dev.imposeAssign (d : Dev) (i : Nat) (u : WUnit) (e : List Byte) : Dev :=
  let g := decisionBeam e
  let l := decisionSecond e
  if !d.mayTakeEntry u l g ∨ u.excluded.contains g then d.impossible (decisionVec e)
  else if g / 16 ≠ d.devId then (d.lockTake i u).imposeOn u g l (some e)
  else
    let cand := d.candidates u l
    match d.bestOf cand with
    | none => d.impossible (decisionVec e)
    | some b =>
      if d.now + d.fld LK_ASSIGN_CFG 0 16 < d.qOf b then d
      else
        let d := if d.stay l cand b = g then d else d.diverge
        (d.lockTake i u).imposeOn u g l (some e)

/-- The interval of R211 for a stitch at record k in lock l, of global beams g0 and g1. -/
def Dev.intervalOf (d : Dev) (u : WUnit) (k l g0 g1 : Nat) : Option (Nat × Nat) :=
  let r := u.recs.getD k default
  if (u.recs.take (k + 1)).all (fun q => d.reaches false g0 q.sx q.sy) ∧
      (u.recs.drop k).all (fun q => d.reaches false g1 q.x q.y) then
    stitchInterval r ((d.setsOf u).getD r.pset []) (d.lockVerts l) (d.reachRange false g0 r) (d.reachRange false g1 r)
  else none

/-- The recorded stitch of an entry is imposed: its pair, its point and its queue positions. -/
def Dev.imposeStitch (d : Dev) (i : Nat) (u : WUnit) (s : List Byte) : Dev :=
  let sets := d.setsOf u
  let k := (u.recs.findIdx? (fun r => r.vecId == decisionVec s)).getD 0
  let g0 := decisionBeam s
  let g1 := decisionSecond s
  let p := decisionWord s
  let e0 := d.recorded [0x10] (fun e => decisionVec e == u.vec && decisionBeam e == g0)
  let e1 := d.recorded [0x10] (fun e => decisionVec e == decisionVec s && decisionBeam e == g1)
  let l := match e1, e0 with | some e, _ => decisionSecond e | none, some e => decisionSecond e | none, none => i
  let within := match d.intervalOf u k l g0 g1 with | some (lo, hi) => decide (lo ≤ p) && decide (p ≤ hi) | none => false
  if !(d.mayTakeEntry u l g0 && d.mayTakeEntry u l g1) ∨ !within then d.impossible (decisionVec s)
  else
    let live := d.splits false sets u.recs
    match d.bestOf (live.map (fun x => x.b0)) with
    | none => d.impossible (decisionVec s)
    | some g =>
      if d.now + d.fld LK_ASSIGN_CFG 0 16 < d.qOf g then d
      else
        let set := sets.getD (u.recs.getD k default).pset []
        let same := match d.bestSplit u sets live with
          | some x => let (t0, t1) := d.splitTimes u sets x
            x.b0 == g0 && x.b1 == g1 && x.at_ == k && d.stitchPoint x set t0 t1 == p
          | none => false
        let d := if same then d else d.diverge
        let d := (d.lockTake i u).markSplit u k
        let d := if g0 / 16 = d.devId then d else
          d.modKeeper (fun q => { q with syncs := (u.layer, decisionVec s, d.recordedSync s) :: q.syncs })
        (d.imposeOn (halfUnit u 0 k p (psOvl set) g1) g0 l e0).imposeOn (halfUnit u 1 k p (psOvl set) g0) g1 l e1

/-- The keeper's part of a replay: the next recorded assignment, with its stitch, is imposed. An entry without a recorded
decision is not exposed. DESIGN CHOICE (log entry 25). -/
def Dev.replayCycle (d : Dev) : Dev :=
  match d.recorded [0x10] (fun _ => true) with
  | none =>
    if !d.allDispatched then d
    else (List.range 64).foldl (fun d i => (d.lockQ i).queue.foldl (fun d u => (d.lockTake i u).noExposure u 0 stSkipped) d) d
  | some e =>
    match d.entryWith (decisionVec e) with
    | none => if d.allDispatched then d.impossible (decisionVec e) else d
    | some (i, u) =>
      match d.recorded [0x11] (fun s => u.recs.any (fun r => r.vecId == decisionVec s)) with
      | some s => d.imposeStitch i u s
      | none => if d.needsStitch u then d.dropDecision e 0 else d.imposeAssign i u e

/-- The layer of a replay has been run: every vector has its outcomes (R230). -/
def Dev.pumpReplay (d : Dev) : Dev :=
  match d.replay, d.running with
  | some r, some l =>
    if l.barges.all (fun b => b.dispatched && b.recs.all VRec.full) then
      match d.recorded [0x10] (fun _ => true) with
      | some e => d.impossible (decisionVec e)
      | none => d.endReplay stOk 0 (words4 r.imposed r.diverged r.skipped 0)
    else d
  | _, _ => d

/-- LK_CYCLE: one pass over the defined locks, at most one decision per lock; only in BUILD outside a
transition, once held vectors have recommitted (R231, R54). A replay imposes recorded decisions instead. -/
def execLkCycle (s : State) : Host.Outcome State Fault Refusal :=
  s.on (fun d =>
    if d.replay.isSome then d.replayCycle
    else if d.mode.cur ≠ .build ∨ d.holding then d
    else
      let d := d.admitHalves
      if d.recommits then d
      else (List.range 64).foldl (fun d i => if d.lockValid i then d.decideHead i else d) d)

/-! ## Commits (R218 to R224) -/

def Run.firstEmit (r : Run) : Nat := (r.on + perTick - 1) / perTick

/-- The last emitting tick, of a long chain as far as it is committed (R224). -/
def Run.lastEmit (r : Run) : Nat :=
  match r.upTo with | some c => Nat.min ((r.off - 1) / perTick) (c - 1) | none => (r.off - 1) / perTick

/-- The run emits at tick m; it is live there (R219). -/
def Run.emitAt (r : Run) (m : Nat) : Bool :=
  r.emits && decide (r.on ≤ m * perTick) && decide (m * perTick < r.off) && decide (m ≤ r.lastEmit)
def Run.liveAt (r : Run) (hold m : Nat) : Bool :=
  r.emits && decide (r.firstEmit ≤ r.lastEmit) && decide (r.firstEmit ≤ m) && decide (m ≤ r.lastEmit + hold)

/-- in_plume of R219, positions in bu times 2^24. -/
def inPlume (flow : Int × Int) (len wid : Nat) (p q : Int × Int) : Bool :=
  let dx := q.1 - p.1
  let dy := q.2 - p.2
  let s := dx * flow.1 + dy * flow.2
  let w := dy * flow.1 - dx * flow.2
  decide (0 < s) && decide (s ≤ (len : Int) * 2 ^ 54) && decide (w ≤ (wid : Int) * 2 ^ 53) && decide (-((wid : Int) * 2 ^ 53) ≤ w)

/-- The flow vector of the running layer. -/
def Dev.flow (d : Dev) : Int × Int := match d.running with | some l => (l.flowX, l.flowY) | none => (2 ^ 30, 0)

def Dev.plumeHold (d : Dev) : Nat := d.fld LK_PLUME_CFG 0 16

/-- Two runs conflict at a tick. DEDUCED (log entry 39). -/
def Dev.conflictAt (d : Dev) (r x : Run) (m : Nat) : Bool :=
  let h := d.plumeHold
  let inp := inPlume d.flow (d.fld LK_PLUME_LEN 0 24) (d.fld LK_PLUME_WID 0 24)
  let pr := r.target (m * perTick)
  let px := x.target (m * perTick)
  (x.liveAt h m && r.emitAt m && inp px pr) || (r.liveAt h m && x.emitAt m && inp pr px)

/-- The committed tracks a unit is tested against: those of other beams, its stitch partner apart. -/
def Dev.others (d : Dev) (u : WUnit) (g : Nat) : List Track :=
  d.keeper.tracks.filter (fun t => t.beam != g &&
    !(u.half.isSome && t.run.unit.half.isSome && t.beam == u.partner && t.run.unit.barge == u.barge
      && t.run.unit.order == u.order))

/-- The first tick of a run in conflict, from tick m on, with the track of the lowest beam there. -/
def Dev.firstConflict (d : Dev) (r : Run) (ts : List Track) : Nat → Nat → Option (Nat × Track)
  | 0, _ => none
  | n + 1, m =>
    match (ts.filter (fun t => d.conflictAt r t.run m)) with
    | [] => d.firstConflict r ts n (m + 1)
    | t :: rest => some (m, rest.foldl (fun a b => if b.beam < a.beam then b else a) t)

/-- The run with d more hold ticks. -/
def Run.shift (r : Run) (k : Nat) : Run := { r with hold := r.hold + k * perTick }

/-- The ticks a run is tested on: from its first emitting tick to the end of its live run; `cutAt` ends it
early (R224). -/
def Run.testTicks (r : Run) (hold cutAt : Nat) : Nat := Nat.min (r.lastEmit + hold + 1 - r.firstEmit) cutAt

/-- The cells of a run's emitting ticks. -/
def Dev.emitCells (d : Dev) (r : Run) : List (Int × Int) :=
  ((List.range (r.lastEmit + 1 - r.firstEmit)).map (fun k =>
    let p := r.target ((r.firstEmit + k) * perTick)
    d.cellOf p.1 p.2)).eraseDups

/-- The times at which cells were last exposed: by the ledger, and by the emitting ticks of committed tracks (R221). -/
def Dev.exposures (d : Dev) (cells : List (Int × Int)) (ts : List Track) : List Nat :=
  cells.filterMap (fun c =>
    match d.ldgCopy with
    | some l => if d.inGrid c.1 c.2 then
        let (tn, k) := d.tileOf c.1.toNat c.2.toNat
        l.lastExposure (l.tile tn) k else none
    | none => none) ++
  ts.flatMap (fun t => (List.range (t.run.lastEmit + 1 - t.run.firstEmit)).filterMap (fun k =>
    let m := t.run.firstEmit + k
    let p := t.run.target (m * perTick)
    if t.run.emits ∧ cells.contains (d.cellOf p.1 p.2) then some (m * perTick) else none))

/-- The first emitting tick that a revisit time in µs allows after exposures; 0 for no constraint. -/
def revisitAfter (us : Nat) (l : List Nat) : Nat :=
  if us = 0 ∨ l.isEmpty then 0 else (l.foldl Nat.max 0 + us * perUs + perTick - 1) / perTick

/-- The greatest REVISIT of a unit's records. -/
def Dev.revisitOf (d : Dev) (u : WUnit) : Nat :=
  (u.recs.map (fun q => psRevisit ((d.setsOf u).getD q.pset []))).foldl Nat.max 0

/-- The earliest first emitting tick by the revisit time; 0 for no constraint (R221). -/
def Dev.revisitTick (d : Dev) (r : Run) (g : Nat) : Nat :=
  if !r.emits then 0 else
    revisitAfter (d.revisitOf r.unit) (d.exposures (d.emitCells r) (d.keeper.tracks.filter (fun t =>
      !(r.unit.half.isSome && t.run.unit.half.isSome && t.beam == r.unit.partner && t.beam != g
        && t.run.unit.barge == r.unit.barge && t.run.unit.order == r.unit.order))))

/-- The shift of R220 and the beam of the first conflict met, in at most n steps: each adds a tick or more, and past
the last live tick of every track nothing conflicts. -/
def Dev.shiftFor (d : Dev) (r : Run) (ts : List Track) (cutAt rev : Nat) : Nat → Nat → Option Nat → Nat × Option Nat
  | 0, k, c => (k, c)
  | n + 1, k, c =>
    let x := r.shift k
    match d.firstConflict x ts (x.testTicks d.plumeHold cutAt) x.firstEmit with
    | none => (k, c)
    | some (m, t) =>
      let k := k + (t.run.lastEmit + d.plumeHold) - m + 1
      d.shiftFor r ts cutAt rev n (Nat.max k (rev - r.firstEmit)) (match c with | none => some t.beam | some b => some b)

/-- The neighbours whose boundary band a run's emitting ticks enter (R382). -/
def Dev.bandEntered (d : Dev) (r : Run) : List Nat :=
  let reach : Int := (d.fld LK_PLUME_LEN 0 24 + d.bandCells * d.ldgPitch : Nat) * 2 ^ 24
  let s : Int := 2 ^ 24
  let x0 := d.rdI LDG_ORG_X * s
  let y0 := d.rdI LDG_ORG_Y * s
  let x1 := x0 + (d.ldgNx * d.ldgPitch : Nat) * s
  let y1 := y0 + (d.ldgNy * d.ldgPitch : Nat) * s
  let w := d.rd LDG_NBR
  let pts := (List.range (r.lastEmit + 1 - r.firstEmit)).map (fun k => r.target ((r.firstEmit + k) * perTick))
  ([(0, pts.any (fun p => decide (p.1 - x0 ≤ reach))), (4, pts.any (fun p => decide (x1 - p.1 ≤ reach))),
    (8, pts.any (fun p => decide (p.2 - y0 ≤ reach))), (12, pts.any (fun p => decide (y1 - p.2 ≤ reach)))].filter
      (fun p => w.bit (p.1 + 3) && p.2)).map (fun p => w.get p.1 3)

/-- The peers that must answer before a unit commits (R225, R382); a replay asks none. -/
def Dev.commitPeers (d : Dev) (r : Run) : List Nat :=
  if d.replay.isSome then [] else
  let lockPeer := match r.unit.lock with
    | some i => if d.lockShared i then [d.fld (LK_LOCK_XDEV i) 24 3] else []
    | none => []
  ((d.bandEntered r ++ lockPeer).eraseDups).filter (fun v => d.members.contains v)

/-- The wait of a commit is recorded, with the beam of the first conflict (R221, R227). DEDUCED (log entry 39). -/
def Dev.waitEvent (d : Dev) (r : Run) (g k : Nat) (c : Option Nat) : Dev :=
  if k = 0 then d else
    let body (b : Nat) : List Byte := leBytes 4 r.unit.vec ++ leBytes 4 k ++ leBytes 1 g ++ leBytes 1 b ++ [0, 0]
      ++ leBytes 4 ((r.shift k).firstEmit - d.layerTick)
    match c with
    | some b => (d.count (LK_CNT 2) 1).emit 20 0x12 (body b)
    | none => (d.count (LK_CNT 3) 1).emit 20 0x13 (body 0xFF)

/-- The run waiting for its commit on engine n. -/
def Dev.openRun (d : Dev) (n : Nat) : Option Run :=
  match (d.eng n).runs.getLast? with | some r => if r.committed then none else some r | none => none

def Dev.setLastRun (d : Dev) (n : Nat) (r : Run) : Dev :=
  d.modEng n (fun e => { e with runs := e.runs.dropLast ++ [r] })

/-- A run whose ticks still lie ahead of what engine n has planned: its start moved if need be. -/
def Dev.freshStart (d : Dev) (n : Nat) (r : Run) : Run :=
  { r with start := Nat.max r.start ((Nat.max (d.eng n).next (d.tick + 1)) + d.dmax n + 1) }

/-- T_sync of a half 0: when its target crosses arc p − OVL/2 of the split record (R214). -/
def Run.syncTime (r : Run) : Nat :=
  r.stamp (r.timeOfArc r.unit.splitAt ((2 * r.unit.p - r.unit.ovl) * 2 ^ 79))

/-- The sample points of a run: one each PITCH of emitting arc. -/
def Dev.pointCount (d : Dev) (r : Run) : Nat :=
  if !r.emits then 0 else r.emitArc r.tOff / (d.ldgPitch * sd) + 1

/-- The run time at which an emitting arc is reached. -/
def timeOfEmit (tOff : Nat) : List Piece → Nat → Nat
  | [], _ => tOff
  | p :: ps, a =>
    if p.rec_.isNone then timeOfEmit tOff ps a
    else if a ≤ p.len then (if p.len = 0 then p.t0 else p.t0 + p.prof.timeAt a)
    else timeOfEmit tOff ps (a - p.len)

def Run.pointTime (r : Run) (pitch k : Nat) : Nat := timeOfEmit r.tOff r.pieces (k * pitch * sd)

/-- At a commit the ledger prefetches the tiles of the unit's sample neighbourhoods (R243). -/
def Dev.prefetch (d : Dev) (r : Run) : Dev :=
  if d.ldgCopy.isNone then d else
    (List.range (d.pointCount r)).foldl (fun d k =>
      let t := r.pointTime d.ldgPitch k
      let (x, y) := match r.piece t with | some p => p.at_ t | none => r.endPt
      let c := d.cellOf x y
      (d.tilesAround c.1 c.2).foldl (fun d tn => d.touchTile d.onReplay tn false) d) d

/-- The run is committed: its track is stored, T_sync is fixed for a half 0. -/
def Dev.commitRun (d : Dev) (n : Nat) (r : Run) : Dev :=
  let d := d.prefetch r
  let g := match d.beamOf n with | some b => d.gbeam b | none => 0
  let r := { r with committed := true, sync := if r.unit.half = some 0 ∧ !r.unit.resumed then r.syncTime else 0 }
  let d := d.setLastRun n r
  let d := d.modKeeper (fun k => { k with tracks := k.tracks ++ [⟨g, r⟩] })
  if r.unit.half = some 0 ∧ !r.unit.resumed then
    let vec := (r.unit.recs.getLastD default).vecId
    let d := d.modKeeper (fun k => { k with syncs := (r.unit.layer, vec, r.sync) :: k.syncs })
    if r.unit.partner / 16 ≠ d.devId ∧ d.replay.isNone then d.sendTo (r.unit.partner / 16) 0x13 [vec, r.sync] else d
  else d

/-- T_sync of the half 0 that a half 1 belongs to. -/
def Dev.syncOf (d : Dev) (u : WUnit) : Option Nat :=
  (d.keeper.syncs.find? (fun x => x.1 == u.layer && x.2.1 == u.vec)).map (fun x => x.2.2)

/-- STITCH (R227); a replay decides nothing. DEDUCED (log entry 39). -/
def Dev.stitchEvent (d : Dev) (r : Run) (g sync : Nat) (solo : Bool) : Dev :=
  if d.replay.isSome then d else
  (d.count (LK_CNT 1) 1).emit 20 0x11 (leBytes 4 r.unit.vec ++ leBytes 4 r.unit.p ++ leBytes 1 r.unit.partner
    ++ leBytes 1 g ++ leBytes 2 (sync % perTick + bitOf solo * 2 ^ 15) ++ leBytes 4 (sync / perTick - d.layerTick))

/-- The target is linear in the tick number within ±1 bu from tick m over k ticks (R218). DEDUCED (log entry 97). -/
def Run.linear (r : Run) (m k : Nat) : Bool :=
  let a := r.target (m * perTick)
  let b := r.target ((m + k) * perTick)
  let near (u v w : Int) (i : Nat) : Bool := decide ((w * k - (u * (k - i : Nat) + v * i)).natAbs ≤ 2 ^ 24 * k)
  (List.range k).all (fun i =>
    let p := r.target ((m + i) * perTick)
    near a.1 b.1 p.1 i && near a.2 b.2 p.2 i)

/-- The tick at which the piece from tick m ends, at least k on, no later than `last`. DEDUCED (log entry 97). -/
def Run.pieceEnd (r : Run) (m last : Nat) : Nat → Nat → Nat
  | 0, k => m + k
  | n + 1, k => if m + k < last ∧ r.linear m (k + 1) then r.pieceEnd m last n (k + 1) else m + k

/-- The tick that n pieces from tick m reach. -/
def Run.afterPieces (r : Run) (last : Nat) : Nat → Nat → Nat
  | 0, m => m
  | n + 1, m => if last ≤ m then m else r.afterPieces last n (r.pieceEnd m last (last - m) 0 + 1)

/-- The tick on which a further unit of a long chain begins, behind tick `s`: the last joint that 8192 pieces reach, or
the next where they reach none (R224). DEDUCED (log entry 97). -/
def Run.nextPart (r : Run) (s : Nat) : Option Nat :=
  let last := r.endTick
  if last ≤ s + 8192 then none
  else
    let reach := r.afterPieces last 8192 s
    let joints := ((List.range (r.unit.recs.length - 1)).map (fun k => r.stamp (r.timeOfArc (k + 1) 0) / perTick)).filter
      (fun j => decide (s < j))
    if last ≤ reach then none
    else match (joints.filter (fun j => decide (j ≤ reach))).getLast? with
      | some j => some j
      | none => joints.head?

/-- The shift of a unit on this device's own tracks, and the beam of the first conflict; of a long chain its first
commit unit is tested (R220, R224). -/
def Dev.ownShift (d : Dev) (n : Nat) (r : Run) : Nat × Option Nat :=
  let g := match d.beamOf n with | some b => d.gbeam b | none => 0
  let ts := if d.bit LK_PLUME_CFG 31 then d.others r.unit g else []
  let rev := d.revisitTick r g
  let cutAt := match r.nextPart r.start with
    | some j => j - r.firstEmit
    | none => r.lastEmit + d.plumeHold + 1
  d.shiftFor r ts cutAt rev
    ((ts.map (fun t => t.run.lastEmit + d.plumeHold + 1)).foldl Nat.max 0 - r.firstEmit + 1) (rev - r.firstEmit) none

/-- A unit commits with a shift: events, PLUME_LONG, track; a half 1 is told as a solo one. DEDUCED (log entry 61). -/
def Dev.commitWith (d : Dev) (n : Nat) (r : Run) (k : Nat) (c : Option Nat) : Dev :=
  let g := match d.beamOf n with | some b => d.gbeam b | none => 0
  let d := d.waitEvent r g k c
  let d := if d.fld LK_WAIT_CFG 0 24 * 2 < k then d.fault 20 2 else d
  let x := r.shift k
  let d := d.commitRun n { x with upTo := x.nextPart x.start }
  if r.unit.half = some 1 ∧ !r.unit.resumed then
    match d.syncOf r.unit with | some t => d.stitchEvent r g t true | none => d
  else d

/-- The engine may commit now: BUILD outside a transition, a stitch half that finishes apart; unfenced. -/
def Dev.committing (d : Dev) (n : Nat) : Bool :=
  d.building && (!d.holding || (match d.openRun n with | some r => d.finishing r.unit | none => true)) && !d.fencedUnit n && !d.keeper.xwait.any (fun x => x.engine == n)

/-- The track of a run as XCOMMIT_REQ carries it, from its first emitting tick to its last (R225, R382). -/
def Dev.xtrackOf (d : Dev) (r : Run) : XTrack :=
  let pts := (List.range (r.lastEmit + 1 - r.firstEmit)).map (fun k =>
    let m := r.firstEmit + k
    let p := r.target (m * perTick)
    (p.1 / 2 ^ 24, p.2 / 2 ^ 24, r.emitAt m))
  { vec := BitVec.ofNat 32 r.unit.vec, first := r.firstEmit, pts := pts, revisit := d.revisitOf r.unit, t := d.tb3 }

/-- A unit's track is sent to the peers that must test it (R382); `kind`: 0 as it stands, 1 to co-move, 2 a further unit
of a long chain. -/
def Dev.askPeers (d : Dev) (n k : Nat) (c : Option Nat) (kind : Nat) (r : Run) (vs : List Nat) : Dev :=
  vs.foldl (fun d v =>
    let d := d.modKeeper (fun q => { q with xwait := q.xwait ++ [⟨v, r.unit.vec, n, k, 1, d.tb3, c, kind⟩] })
    d.sendTo v 0x14 (xtrackWords (d.xtrackOf (r.shift k)))) d

/-- In a replay the unit on engine n commits with its recorded shift, a half 0 so that it crosses at the recorded T_sync;
a conflict that this leaves is impossible (R230). A shift not recorded is none. DESIGN CHOICE (log entry 25). -/
def Dev.imposeShift (d : Dev) (n : Nat) (r : Run) : Dev :=
  let g := match d.beamOf n with | some b => d.gbeam b | none => 0
  let (own, _) := d.ownShift n r
  let e := d.recorded [0x12, 0x13] (fun e => decisionVec e == r.unit.vec && decisionBeam e == g)
  let k := (e.map decisionWord).getD 0
  let d := if own = k then d else d.diverge
  let d := match e with | some x => d.dropDecision x 1 | none => d
  let x := r.shift k
  let s := if r.unit.half = some 0 ∧ !r.unit.resumed then
      d.recorded [0x11] (fun s => decisionVec s == (r.unit.recs.getLastD default).vecId) else none
  let (x, d) := match s with
    | some s => if x.syncTime ≤ d.recordedSync s then ({ x with hold := x.hold + (d.recordedSync s - x.syncTime) }, d)
      else (x, d.diverge)
    | none => (x, d)
  let d := match s with | some s => if r.unit.partner / 16 = d.devId then d else d.dropDecision s 1 | none => d
  let ts := if d.bit LK_PLUME_CFG 31 then d.others r.unit g else []
  let x := { x with upTo := x.nextPart x.start }
  if (d.firstConflict x ts (x.testTicks d.plumeHold (x.lastEmit + d.plumeHold + 1)) x.firstEmit).isSome then
    d.impossible r.unit.vec
  else (d.setLastRun n r).commitRun n x

/-- The unit that waits on engine n is submitted: tested here, and by the peers it concerns. -/
def Dev.submit (d : Dev) (n : Nat) (r : Run) : Dev :=
  let r := d.freshStart n r
  if d.replay.isSome then d.imposeShift n r else
  let (k, c) := d.ownShift n r
  let d := d.setLastRun n r
  match d.commitPeers (r.shift k) with
  | [] => d.commitWith n r k c
  | vs => d.askPeers n k c 0 r vs

/-- A half 1 placed to co-move: its run-up starts at T_sync less its duration (R214). -/
def Run.coMove (r : Run) (sync : Nat) : Run :=
  { r with hold := r.hold + (sync - (toTs r.tOn - toTs r.holdT) - r.stamp r.holdT) }

/-- A half 1 can co-move: in time, and its track passes the tests there. -/
def Dev.mayCoMove (d : Dev) (n : Nat) (r : Run) (sync : Nat) : Bool :=
  let g := match d.beamOf n with | some b => d.gbeam b | none => 0
  let ts := if d.bit LK_PLUME_CFG 31 then d.others r.unit g else []
  let co := r.coMove sync
  decide (r.stamp r.holdT + (toTs r.tOn - toTs r.holdT) ≤ sync) && !r.unit.solo &&
  (d.firstConflict co ts (co.testTicks d.plumeHold (co.lastEmit + d.plumeHold + 1)) co.firstEmit).isNone &&
  decide (d.revisitTick co g ≤ co.firstEmit)

/-- A half 1 commits co-moving. -/
def Dev.commitCo (d : Dev) (n : Nat) (r : Run) (sync : Nat) : Dev :=
  let co := r.coMove sync
  (d.stitchEvent co (match d.beamOf n with | some b => d.gbeam b | none => 0) sync false).commitRun n
    { co with upTo := co.nextPart co.start }

/-- In a replay a half 1 commits as recorded, co-moving or solo; one that cannot co-move runs solo, and differs. -/
def Dev.imposeHalf1 (d : Dev) (n : Nat) (r : Run) (sync : Nat) : Dev :=
  match d.recorded [0x11] (fun s => decisionVec s == r.unit.vec) with
  | none => d.submit n r
  | some s =>
    let solo := (bytesAt s 26 2).testBit 15
    let d := d.dropDecision s 1
    if !solo && d.mayCoMove n r sync then d.commitCo n r sync
    else (if solo then d else d.diverge).submit n r

/-- A half 1 whose half 0 has committed is submitted: to co-move, or solo from where it can start (R214). -/
def Dev.submitHalf1 (d : Dev) (n : Nat) (r : Run) (sync : Nat) : Dev :=
  let r := d.freshStart n r
  if d.replay.isSome then d.imposeHalf1 n r sync
  else if d.mayCoMove n r sync then
    match d.commitPeers (r.coMove sync) with
    | [] => d.commitCo n r sync
    | vs => (d.setLastRun n r).askPeers n 0 none 1 (r.coMove sync) vs
  else d.submit n r

/-- A further unit of a long chain on engine n commits, without shift: PLUME_FORCED where it conflicts (R224). -/
def Dev.extendRun (d : Dev) (n : Nat) (r : Run) (forced : Bool) : Dev :=
  let c := r.upTo.getD 0
  let g := match d.beamOf n with | some b => d.gbeam b | none => 0
  let x := { r with upTo := r.nextPart c }
  let ts := if d.bit LK_PLUME_CFG 31 then d.others r.unit g else []
  let d := if forced || (d.firstConflict x ts (x.lastEmit + d.plumeHold + 1 - c) c).isSome then
      d.faultAs (if d.bit LK_PLUME_CFG 30 then .hold else .note) 20 3 else d
  let put (y : Run) : Run := if y.seq = r.seq then { y with upTo := x.upTo } else y
  (d.modEng n (fun e => { e with runs := e.runs.map put })).modKeeper (fun k => { k with
    tracks := k.tracks.map (fun t => if t.beam = g then { t with run := put t.run } else t) })

/-- The chain on engine n of which a further unit is to commit. -/
def Dev.longRun (d : Dev) (n : Nat) : Option Run := (d.eng n).runs.find? (fun r => r.committed && r.upTo.isSome)

/-- UNIT_COMMIT: the keeper commits the unit that waits on engine n, or the next of a long chain; a half 1 commits by
HALF1_COMMIT, unless its half 0 is lost with its device (R380). -/
def execUnitCommit (n : Fin 18) (s : State) : Host.Outcome State Fault Refusal :=
  s.on (fun d =>
    if !d.committing n then d
    else match d.longRun n, d.openRun n with
      | some r, _ =>
        match d.commitPeers { r with upTo := r.nextPart (r.upTo.getD 0) } with
        | [] => d.extendRun n r false
        | vs => d.askPeers n 0 none 2 r vs
      | none, some r => if r.unit.half == some 1 && !r.unit.resumed && !r.unit.solo then d else d.submit n r
      | none, none => d)

/-- HALF1_COMMIT: half 1 commits after its half 0, co-moving or solo (R214). -/
def execHalf1Commit (n : Fin 18) (s : State) : Host.Outcome State Fault Refusal :=
  s.on (fun d =>
    match d.openRun n with
    | none => d
    | some r =>
      if !d.committing n || r.unit.half != some 1 || r.unit.resumed then d
      else match d.syncOf r.unit with
        | none => d
        | some sync => d.submitHalf1 n r sync)

/-- Every peer asked has answered for the unit on engine n: it commits at the greatest shift k. Where that meets a track
of this device, or its start has passed meanwhile, it is submitted again, laser off (R23, R225).
DEDUCED (log entry 61). -/
def Dev.peersAgree (d : Dev) (n k : Nat) (c : Option Nat) (kind : Nat) : Dev :=
  match kind, d.longRun n, d.openRun n with
  | 2, some r, _ => d.extendRun n r (decide (0 < k))
  | _, _, none => d
  | _, _, some r =>
    let again : Run := { r with start := Nat.max r.start (d.tick + 401 + d.dmax n) }
    if (d.freshStart n r).start ≠ r.start then
      match r.unit.half == some 1 && !r.unit.resumed, d.syncOf r.unit with
      | true, some sync => d.submitHalf1 n again sync
      | _, _ => d.submit n again
    else if kind = 1 then
      match d.syncOf r.unit with
      | some sync => if k = 0 ∧ d.mayCoMove n r sync then d.commitCo n r sync else d.submit n r
      | none => d
    else
      let (k2, c2) := d.ownShift n (r.shift k)
      let c := match c with | some b => some b | none => c2
      if k2 = 0 then d.commitWith n r k c
      else match d.commitPeers (r.shift (k + k2)) with
        | [] => d.commitWith n r (k + k2) c
        | vs => d.askPeers n (k + k2) c 0 r vs

/-- An engine still holds energy of a unit, or the notice of its loss, that the ledger has not taken
(R218, R247). -/
def Engine.owes (e : Engine) (seq : Nat) : Bool :=
  (match e.gather with | some g => g.seq == seq | none => false) ||
    (e.writes ++ e.store ++ e.notices).any (fun u => u.seqs.contains seq)

/-- TRACK_EXPIRY: tracks whose last tick plus HOLD_TICKS has passed and whose writes the ledger has
taken leave the store (R218), unless the keeper is frozen or off (R231). -/
def execTrackExpiry (s : State) : Host.Outcome State Fault Refusal :=
  s.on (fun d => if !d.keeperOn then d else d.modKeeper (fun k => { k with tracks := k.tracks.filter (fun t =>
    let owes := match d.engineOf (t.beam % 16) with
      | some n => (d.eng n).owes t.run.seq
      | none => false
    decide (d.tick ≤ t.run.endTick + d.plumeHold) || owes) }))

/-! ## Registers (R200, R201, R236) -/

/-- A host write contained a refused field (R47). -/
def Dev.refuse (d : Dev) (off : Nat) : Dev := d.raise 28 3 (BitVec.ofNat 32 off)

/-- LOCK_DEFINE: LK_LOCKi_CTRL is written. VALID is set only by a definition that meets R200, and not
changed while a layer is open; the other fields keep while VALID is 1. Such writes set LOCK_BAD in every mode (R201);
outside CONFIGURE R47 refuses them too. -/
def execLockDefine (i : Fin 64) (val : Word) (s : State) : Host.Outcome State Fault Refusal :=
  s.whenUp (fun d =>
    let off := LK_LOCK_CTRL i
    let bad (d : Dev) : Dev := d.setBit LK_ERR 8 true
    let val := val &&& 0x80F0FFFF
    let change := d.lockValid i != val.bit 31
    if d.mode.cur ≠ .configure then
      if val = d.rd off then d
      else (if (change && !d.lay.opened.isEmpty) || (!change && d.lockValid i) then bad d else d).refuse off
    else if d.lockValid i = val.bit 31 then
      if d.lockValid i then (if val = d.rd off then d else bad d) else d.wr off val
    else if !d.lay.opened.isEmpty then bad d
    else
      let d' := d.wr off val
      let d' : Dev := { d'.setBit (LK_LOCK_STATUS i) 16 false with resids := d'.resids.set i default }
      if val.bit 31 then (if d'.lockOk i then d' else bad (d.wr off (val.putBit 31 false)))
      else { d' with keeper := { d'.keeper with locks := d'.keeper.locks.set i default } })

/-- FADE_WRITE: an entry that would make the table rise is discarded; entries 0 and 31 are fixed. -/
def execFadeWrite (i : Fin 32) (val : Word) (s : State) : Host.Outcome State Fault Refusal :=
  s.whenUp (fun d =>
    let f (k : Nat) : Nat := d.fld (LK_FADE k) 0 16
    let v := val.get 0 16
    if i.val = 0 ∨ i.val = 31 then d
    else if d.mode.cur ≠ .configure then
      if v = f i then d else d.refuse (LK_FADE i)
    else if f (i - 1) < v ∨ v < f (i + 1) then d.setBit LK_ERR 9 true
    else d.wrN (LK_FADE i) v)

def execLkCntClr (val : Word) (s : State) : Host.Outcome State Fault Refusal :=
  s.whenUp (fun d => d.clearCounts val ((List.range 5).map LK_CNT))

end Sys2Proof.Machine
end

