-- ==== Sys2Proof/Machine/Plan.lean ====
section
/-! DEFINITION. The plan stage of a beam engine: runs, setpoints, planned power, MOD edges and the use of
look-ahead answers (R143 to R161, R249 to R253). -/

namespace Sys2Proof.Machine

/-! ## Ports, outputs and the sluice (R335) -/

def Dev.port (d : Dev) (b : Nat) : Port := d.scn.ports.getD b default
def Dev.laser (d : Dev) (b : Nat) : Laser := d.scn.lasers.getD b default

def Dev.modPort (d : Dev) (b : Nat) (f : Port → Port) : Dev :=
  { d with scn := { d.scn with ports := modAt d.scn.ports b f } }

def Dev.modLaser (d : Dev) (b : Nat) (f : Laser → Laser) : Dev :=
  { d with scn := { d.scn with lasers := modAt d.scn.lasers b f } }

/-- Conditions 1 and 2 of the sluice, which act without a clock (R335). -/
def Dev.gate (d : Dev) : Bool := d.scn.ilk && !d.scn.latch && !d.safeState

/-- The sluice of beam b (R335). -/
def Dev.sluice (d : Dev) (b : Nat) : Bool :=
  d.gate && d.exposing && d.bit (LAS_CFG b) 31 &&
  (match d.engineOf b with | some n => !d.fencedUnit n && !(d.eng n).taking | none => false) &&
  (d.port b).state == 3 && !(d.port b).linkFault

/-! ## What holds a unit back (R124, R125, R337) -/

/-- A record has its outcomes on this device, by place in layer order. -/
def openBefore (bs : List Barge) (order : Nat) (onlyBarriers : Bool) : Bool :=
  (List.range bs.length).any (fun k => match bs[k]? with
    | none => false
    | some b => (List.range b.recs.length).any (fun i =>
        decide (k * 65536 + i < order) && (match b.recs[i]? with
          | some v => !v.full && (!onlyBarriers || v.r.flags.testBit 0)
          | none => false)))

/-- A unit waits at a barrier: its own, behind every record before it, or an earlier one. -/
def Dev.atBarrier (d : Dev) (u : WUnit) : Bool :=
  let own := (u.recs.headD default).flags.testBit 0
  match u.cal with
  | some key =>
    match d.cals.find? (fun c => (c.req.ring, c.req.idx) == key) with
    | none => false
    | some c => (List.range c.recs.length).any (fun i => decide (i < u.order) && (match c.recs[i]? with
        | some v => !v.full && (own || v.r.flags.testBit 0)
        | none => false))
  | none =>
    match d.layer? u.layer with
    | some l => openBefore l.barges u.order (!own)
    | none => false

/-- The tick EARLIEST counts from (R125, R188). -/
def Dev.unitZero (d : Dev) (u : WUnit) : Option Nat :=
  match u.cal with
  | some key => (d.cals.find? (fun c => (c.req.ring, c.req.idx) == key)).map (fun c => c.start)
  | none => (d.layer? u.layer).bind (fun l => l.startTick)

/-- The mode lets engine n plan: CALIBRATE, BUILD or a replay, mapped, unfenced, not taking over. -/
def Dev.planning (d : Dev) (n : Nat) : Bool :=
  d.computing && !d.fencedUnit n && (d.beamOf n).isSome && !(d.eng n).taking && d.mode.fwBe

/-- Whole ticks by which a run's emission must wait so that no record begins before its EARLIEST. -/
def Run.earliestWait (r : Run) (tick0 : Nat) : Nat :=
  (r.pieces.filterMap (fun p => match p.rec_ with
    | some k =>
      let e := (r.unit.recs.getD k default).earliest
      if e = 0 then none else some (ceilDiv ((tick0 + e) * perTick - r.stamp p.t0) perTick)
    | none => none)).foldl Nat.max 0

/-- Hold ticks put in before the first profile, with their kind. -/
def Run.wait (r : Run) (kind k : Nat) : Run :=
  if k = 0 then r else { r.shift k with delays := r.delays ++ [(kind, k)] }

/-- The focus ramp in force where a run ends. -/
def Run.endFocus (r : Run) (zr : Nat) : Ramp := r.ramp zr (r.endTick * perTick)

/-- Z_RAMP of engine n in ticks. -/
def Dev.zRamp (d : Dev) (n : Nat) : Nat := d.fld (BE_MOVE_CFG n) 16 8

/-- A half 1 moves to its run-up point at once and waits there for its half 0 (R214): its move as a run that is
committed, and the rest of its path behind it. -/
def Run.parted (r : Run) (zr : Nat) : List Run × Run :=
  if r.holdAt = 0 then ([], r)
  else
    let t := r.holdT
    let move : Run := { r with
      pieces := r.pieces.take r.holdAt, tOn := 0, tOff := 0, tEnd := t, committed := true, pre := true, foc := r.foc.take 1 }
    ([move], { r with
      start := r.start + ceilTicks t, tOn := r.tOn - t, tOff := r.tOff - t, tEnd := r.tEnd - t, holdAt := 0
      pieces := (r.pieces.drop r.holdAt).map (fun p => { p with t0 := p.t0 - t })
      foc := r.foc.map (fun f => (f.1 - t, f.2)), focus := move.endFocus zr, seq := r.seq + 1 })

/-- Engine n starts planning the next unit of its queue (R149 to R154, R555): of the calibration units in
CALIBRATE, of the others in BUILD; in a run to the safe point only a half 1 that finishes (R232).
DESIGN CHOICE (log entry 37), DEDUCED (log entry 38). -/
def Dev.startRun (d : Dev) (n : Nat) : Dev :=
  let e := d.eng n
  let mine (u : WUnit) : Bool := u.cal.isSome == (d.mode.cur == .calibrate) && (!d.holding || d.finishing u) && d.inTurn n u
  match e.queue.find? mine with
  | none => d
  | some u =>
    let us := e.queue.eraseP mine
    match d.unitZero u with
    | none => d
    | some tick0 =>
      if d.atBarrier u then d.modEng n (fun e => { e with barrier := some (e.barrier.getD d.tick) })
      else if e.barrier.isSome then d
      else
        let b := (d.beamOf n).getD 0
        let sets := d.setsOf u
        let (err, d) := d.freeErr 1
        let g := (d.beamGrids b).active
        let from_ := match e.runs.getLast? with | some r => r.endPt | none => (e.px, e.py)
        let foc0 := match e.runs.getLast? with | some r => r.endFocus (d.zRamp n) | none => e.focus
        let p := planUnit sets g from_ (d.settle n) (d.fld (BE_MOVE_CFG n) 8 8) u err
        let busy := match e.runs.getLast? with | some r => decide (d.tick < r.endTick) | none => false
        let lead := Nat.max e.next (d.tick + 1) + d.dmax n + 1
        let start := match busy, e.runs.getLast? with
          | true, some r => Nat.max (Nat.max r.endTick lead) e.notBefore
          | _, _ => Nat.max (Nat.max (u.reach + 401 + d.dmax n) lead) (Nat.max e.notBefore
              (if u.cal.isSome then 0 else tick0))
        let r : Run :=
          { unit := u, start := start, pieces := p.pieces, tOn := p.tOn, tOff := p.tOff, tEnd := p.tEnd,
            holdAt := p.holdAt, hold := 0, committed := false, delays := [], sync := 0, foc := p.foc,
            focus := foc0, started := false, ended := false, given := 0, cut := false, ffs := [],
            served := 0, late := false, seq := e.seq + 1, pre := false, upTo := none }
        let (pre, r) := if u.half = some 1 ∧ !u.resumed then r.parted (d.zRamp n) else ([], r)
        let r := r.wait 0 (r.earliestWait tick0)
        let l := d.scn.lasers.getD b default
        let lead := d.fld (LAS_CFG b) 0 16 * perUs
        let ready := if l.emit then l.rose + lead else if d.sluice b then (d.tick + 1) * perTick + lead else 0
        let r := if r.emits ∧ r.on < ready then r.wait 1 (ceilDiv (ready - r.on) perTick) else r
        let d := (d.modEng n (fun e => { e with queue := us, runs := e.runs ++ pre ++ [r], seq := r.seq })).reportDry n
        let d := if p.clipped then d.fault (n + 2) 8 else d
        if !r.emits then d.setLastRun n { r with committed := true }
        else if d.mode.cur = .calibrate then d.setLastRun n { r with committed := true }
        else d

/-! ## Targets and fields (R155, R156, R174 to R177) -/

/-- The committed run a target time falls in. -/
def Engine.runAt (e : Engine) (ts : Nat) : Option Run :=
  (e.runs.filter (fun r => r.committed && decide (r.start * perTick ≤ ts))).getLast?

/-- The target of an engine at a TB3, in bu times 2^24. -/
def Engine.target (e : Engine) (ts : Nat) : Int × Int :=
  match e.runAt ts with | some r => r.target ts | none => (e.px, e.py)

/-- The focus target at a TB3, in µm times 2^24. -/
def Engine.focusTarget (e : Engine) (zr ts : Nat) : Int :=
  (match e.runAt ts with | some r => r.ramp zr ts | none => e.focus).at_ zr ts

/-- Rounding of field units times 2^32, ties away from zero. -/
def round32 (x : Int) : Int := divRound x (2 ^ 32)

/-- The open bu of one axis of a target at a TB3 (R145): both halves of a stitch share a part of it, so that they agree
within 1 bu (R215). DEDUCED (log entry 94). -/
def Dev.targetErr (d : Dev) (n axis ts : Nat) : Int × Dev :=
  match (d.eng n).runAt ts with
  | some r =>
    if r.unit.half.isNone then d.freeErr 1
    else
      let (x, d) := d.free
      ((x % 2 : Nat) - (if Config.stitchErr r.unit.layer r.unit.barge r.unit.order (ts / perTick) axis then 1 else 0), d)
  | none => d.freeErr 1

/-- The field units of a target: the grid at a position open by 1 bu, each result open by one unit
(R145, R176), and whether the target leaves the extent. DESIGN CHOICE (log entry 85). -/
def Dev.fieldAt (d : Dev) (n : Nat) (ts : Nat) : (Int × Int × Int × Bool) × Dev :=
  let e := d.eng n
  let b := (d.beamOf n).getD 0
  match (d.beamGrids b).active with
  | none => ((e.lx, e.ly, e.lz, false), d)
  | some g =>
    let (ex, d) := d.targetErr n 0 ts
    let (ey, d) := d.targetErr n 1 ts
    let (fx, d) := d.freeErr 1
    let (fy, d) := d.freeErr 1
    let (fz, d) := d.freeErr 1
    let (x, y) := e.target ts
    let f := e.focusTarget (d.zRamp n) ts
    let u := x + ex * 2 ^ 24
    let v := y + ey * 2 ^ 24
    let spot := match e.runAt ts with
      | some r => psSpot ((d.setsOf r.unit).getD ((r.piece (r.time ts)).getD default).pset [])
      | none => 0
    let sz := if (e.runAt ts).isSome then signed 24 (d.fld (BE_SPOT_Z n spot) 0 24) else 0
    ((round32 (g.eval 0 u v) + fx, round32 (g.eval 1 u v) + fy,
      divRound (g.eval 2 u v * 2 ^ 8 + g.zgain * f) (2 ^ 40) + fz + sz, !g.inExtentQ x y), d)

/-- The setpoint of one axis from its field values at ticks k − 1, k and k + 1 (R156). -/
def track (c1 c2 : Nat) (f0 f1 f2 : Int) : Int :=
  Int.tdiv (f1 * 2 ^ 17 + c1 * (f2 - f0) + 2 * c2 * (f2 - 2 * f1 + f0)) (2 ^ 17)

/-- One axis of the setpoint of tick m: its three field values by `pick`. -/
def Dev.axisSetpoint (d : Dev) (n m a : Nat) (pick : Int × Int × Int × Bool → Int) : Int × Dev :=
  let k := m + d.fld (BE_TRK_DLY n a) 0 10
  let (f0, d) := d.fieldAt n ((k - 1) * perTick)
  let (f1, d) := d.fieldAt n (k * perTick)
  let (f2, d) := d.fieldAt n ((k + 1) * perTick)
  (track (d.rd (BE_TRK_C1 n a)).toNat (d.rd (BE_TRK_C2 n a)).toNat (pick f0) (pick f1) (pick f2), d)

/-- The clamp of step 4 of R155. -/
def clampField (v : Int) : Int := clampInt (-8388607) 8388607 v

/-! ## Power along the path (R157, R160, R217) -/

/-- A ramp table lookup at a speed fraction v / mark (R157). Between falling entries the change from entry i truncates
toward zero. DESIGN CHOICE (log entry 86). -/
def Dev.rampAt (d : Dev) (n t v mark : Nat) : Nat :=
  let v := Nat.min v mark
  let i := if mark = 0 then 32 else 32 * v / mark
  let k (j : Nat) : Nat := d.fld (BE_RAMP n t j) 0 16
  if 32 ≤ i then k 32
  else
    let rem := 32 * v - i * mark
    ((k i : Int) + Int.tdiv (((k (i + 1) : Int) - k i) * rem) mark).toNat

/-- k_ramp at a run time: 0x8000 at cruise and at rest, and for a spot (R150). -/
def Dev.rampFactor (d : Dev) (n : Nat) (sets : List (List Byte)) (r : Run) (t : Nat) : Nat :=
  match r.piece t with
  | none => 0x8000
  | some p =>
    let s := sets.getD p.pset []
    if p.len = 0 ∨ (r.unit.recs.headD default).type = 4 then 0x8000
    else
      let u := t - p.t0
      match p.prof.phase u with
      | 1 => d.rampAt n (psRampOn s) (p.prof.vel u) (markV s * sv)
      | 2 => d.rampAt n (psRampOff s) (p.prof.vel u) (markV s * sv)
      | _ => 0x8000

/-- fade_out of R217. -/
def Dev.fadeOut (d : Dev) (a ovl : Nat) : Nat :=
  let f (i : Nat) : Int := d.fld (LK_FADE i) 0 16
  let i := a * 31 / Nat.max 1 ovl
  if 31 ≤ i then d.fld (LK_FADE 31) 0 16
  else (f i + Int.tdiv ((f (i + 1) - f i) * (a * 31 % Nat.max 1 ovl : Nat)) (Nat.max 1 ovl)).toNat

/-- s_fade at a run time. -/
def Dev.fadeFactor (d : Dev) (r : Run) (t : Nat) : Nat :=
  let (k, arc) := r.arcAt t
  match r.unit.half with
  | none => 0x8000
  | some h =>
    if k ≠ r.unit.splitAt then 0x8000
    else
      let from_ := (2 * r.unit.p - r.unit.ovl) * 2 ^ 79
      let a := Nat.min r.unit.ovl ((arc - from_) / 2 ^ 80)
      if h = 0 then d.fadeOut a r.unit.ovl else 0x8000 - d.fadeOut a r.unit.ovl

/-! ## Look-ahead (R249 to R253) -/

/-- The points whose reads have been issued: by the commit, and as the plan stage passes a_k − LA_DIST. -/
def Dev.issued (d : Dev) (n : Nat) (r : Run) : Nat :=
  if !r.committed then 0 else
    let la := d.fld LDG_LA 0 16
    let first := (la + d.ldgPitch - 1) / d.ldgPitch
    let passed := if r.start < (d.eng n).next then
        (r.emitArc (r.time ((d.eng n).next * perTick)) / sd + la) / d.ldgPitch + 1 else 0
    Nat.min (d.pointCount r) (Nat.max first passed)

/-- Feed-forward of a record's set at a sample point (R157, R251, R261). -/
def Dev.usesFf (d : Dev) (set : List Byte) : Bool := (psFbEn set).testBit 0 && d.mode.cur != .calibrate

/-- LOOKAHEAD_READ: the ledger serves the oldest outstanding read of engine n (R250). A late answer is
discarded. -/
def execLookaheadRead (n : Fin 18) (s : State) : Host.Outcome State Fault Refusal :=
  s.on (fun d =>
    let e := d.eng n
    match e.runs.findIdx? (fun r => decide (r.served < d.issued n r)) with
    | none => d
    | some i =>
      match e.runs[i]? with
      | none => d
      | some r =>
        if d.fencedUnit n then d.ghost n 1 else
        let t := r.pointTime d.ldgPitch r.served
        let (x, y) := match r.piece t with | some p => p.at_ t | none => (0, 0)
        let pset := match r.piece t with | some p => p.pset | none => 0
        let (f, d) := d.answer x y (r.stamp t) ((d.setsOf r.unit).getD pset [])
        let r := { r with
          served := r.served + 1
          ffs := if d.ldgCopy.isNone ∨ r.ffs.any (fun q => q.1 == r.served) then r.ffs else (r.served, f) :: r.ffs }
        d.modEng n (fun e => { e with runs := e.runs.set i r }))

/-- ff of a tick of run i of engine n, at a run time: that of the point passed last, of point 0 before it;
a late point takes the one before it, or the fallback, with the count and the fault (R251, R252). -/
def Dev.ffTick (d : Dev) (n i : Nat) (r : Run) (t : Nat) (set : List Byte) : Nat × Dev :=
  if !d.usesFf set then (0x4000, d)
  else if d.ldgCopy.isNone then (d.fallbackFf, d)
  else
    let k := Nat.min (r.emitArc t / (d.ldgPitch * sd)) (d.pointCount r - 1)
    match r.ffs.find? (fun q => q.1 == k) with
    | some q => (q.2, d)
    | none =>
      let prev := r.ffs.foldl (fun (b : Option (Nat × Nat)) q =>
        if decide (q.1 < k) && b.all (fun p => decide (p.1 < q.1)) then some q else b) none
      let f := match prev with | some q => q.2 | none => d.fallbackFf
      let d := d.count (LDG_CNT 0) 1
      let d := d.modEng n (fun e => { e with runs := modAt e.runs i (fun r => { r with ffs := (k, f) :: r.ffs, late := true }) })
      (f, if r.late then d else d.fault 21 3)

/-! ## Tick entries (R144, R155 to R161) -/

/-- The pure product of the plan stage (R157). -/
def planPower (pNom ramp fade ff : Nat) : Nat := pNom * ramp / 2 ^ 15 * fade / 2 ^ 15 * ff / 2 ^ 14

/-- The runs whose MOD interval meets tick m, oldest first. -/
def Engine.modRuns (e : Engine) (onDly offDly m : Nat) : List Run :=
  e.runs.filter (fun r => r.committed && r.emits && decide (m * perTick + offDly < r.off) &&
    decide (r.on < (m + 1) * perTick + onDly) && decide (r.on - onDly < r.off - offDly))

/-- The MOD interval of a run, with the pulses of the set it emits under at a target time (R161). -/
def Dev.modIv (d : Dev) (onDly offDly tau : Nat) (r : Run) : ModIv :=
  let set := (d.setsOf r.unit).getD (match r.piece (r.time tau) with | some p => p.pset | none => 0) []
  ⟨r.on - onDly, r.off - offDly, psPulsed set, psPeriod set, psWidth set⟩

/-- An edge at a time-stamp, as its place in the tick that begins at ts: none outside the tick, and none where another
interval holds MOD high there. -/
def edgeIn (ts : Nat) (ivs : List ModIv) (i x : Nat) : Option Nat :=
  let held := (List.range ivs.length).any (fun j => j != i && (match ivs[j]? with
    | some v => decide (v.rise ≤ x) && decide (x ≤ v.fall)
    | none => false))
  if ts ≤ x ∧ x < ts + perTick ∧ !held then some (x - ts) else none

/-- The first MOD edge of a kind in a tick: a tick entry has room for one rising and one falling edge (R315). -/
def firstEdge (ts : Nat) (ivs : List ModIv) (edge : ModIv → Nat) : Option Nat :=
  (List.range ivs.length).findSome? (fun i => (ivs[i]?).bind (fun v => edgeIn ts ivs i (edge v)))

/-- The plan stage makes the entry of tick m of engine n. Between units, when no set is in force, the spot table gives
no Z offset and AUX0 is 0: DESIGN CHOICE (log entry 85).
DESIGN CHOICE (log entry 37), DEDUCED (log entry 38), DESIGN CHOICE (log entry 85). -/
def Dev.planTick (d : Dev) (n m : Nat) : Dev :=
  let e := d.eng n
  let onDly := d.fld (BE_LAS_ON_DLY n) 0 20
  let offDly := d.fld (BE_LAS_OFF_DLY n) 0 20
  let (sx, d) := d.axisSetpoint n m 0 (fun f => f.1)
  let (sy, d) := d.axisSetpoint n m 1 (fun f => f.2.1)
  let (sz, d) := d.axisSetpoint n m 2 (fun f => f.2.2.1)
  let ts := m * perTick
  let tau := ts + 4000 + onDly
  let now := e.runAt ts
  let ((_, _, _, outExt), d) := d.fieldAt n ts
  let clip := decide (8388607 < sx.natAbs) || decide (8388607 < sy.natAbs)
  let (eFrom, eTo) := match now with
    | some r => if r.emits ∧ r.on < ts + perTick ∧ ts < r.off then (Nat.max ts r.on, Nat.min (ts + perTick) r.off) else (ts, ts)
    | none => (ts, ts)
  let emit := decide (eFrom < eTo)
  let ivs := (e.modRuns onDly offDly m).map (d.modIv onDly offDly tau)
  -- the power of the path state at tau
  let i := (e.runs.findIdx? (fun r => match e.runAt tau with | some q => r.seq == q.seq | none => false)).getD 0
  let (plan, unity, weir, set, d) := match e.runAt tau with
    | none => (0, true, 0, ([] : List Byte), d)
    | some r =>
      let sets := d.setsOf r.unit
      let t := r.time tau
      let t' := r.time (tau - perTick)
      let set := sets.getD (match r.piece t with | some p => p.pset | none => 0) []
      let kr := d.rampFactor n sets r t
      let fd := d.fadeFactor r t
      let kr' := d.rampFactor n sets r t'
      let fd' := d.fadeFactor r t'
      let (ff, d) := if r.emits ∧ (!ivs.isEmpty ∨ emit) then d.ffTick n i r t set else (0x4000, d)
      (planPower (psPower set) kr fd ff,
        kr == 0x8000 && fd == 0x8000 && kr' == 0x8000 && fd' == 0x8000, psWeir set, set, d)
  -- MOD edges
  let cover := match now with | some r => r.emits && decide (r.on + perTick ≤ ts) && decide (ts + perTick ≤ r.off) | none => false
  let (k, arc) := match now with | some r => r.arcAt (r.time ts) | none => (0, 0)
  let vec := match now with | some r => (r.unit.recs.getD k default).vecId | none => 0
  let pset := match now with | some r => (match r.piece (r.time ts) with | some p => p.pset | none => 0) | none => 0
  let seq := match now with | some r => r.seq | none => 0
  let (arc, d) := d.wholeBu arc
  let x : TickEntry :=
    { tick := m, x := clampField sx, y := clampField sy, z := clampField sz,
      aux0 := if now.isSome then d.fld (BE_SPOT_AUX n (psSpot (match now with
        | some r => (d.setsOf r.unit).getD pset [] | none => []))) 0 16 else 0,
      plan := plan, weir := weir, emitFrom := eFrom, emitTo := eTo,
      modHigh := ivs.any (fun v => decide (v.rise < ts) && decide (ts < v.fall)),
      rise := firstEdge ts ivs ModIv.rise, fall := firstEdge ts ivs ModIv.fall, pulsed := psPulsed set, mods := ivs,
      clip := clip, outExt := outExt, vec := vec,
      arc := arc, pset := pset, seq := seq, cruise := cover && unity,
      first := emit && (match now with | some r => eFrom == r.on | none => false),
      last := emit && (match now with | some r => eTo == r.off | none => false), code := none, power := 0 }
  d.modEng n (fun e => { e with tickQ := e.tickQ ++ [x], next := m + 1 })

/-- How far ahead of a run's first tick its entries begin: tracking, and MOD edges before emission. -/
def Dev.entryLead (d : Dev) (n : Nat) : Nat := Nat.max (d.dmax n + 2) 132

/-- A tick needs an entry of engine n: a committed run is in progress or near. -/
def Dev.tickDue (d : Dev) (n m : Nat) : Bool :=
  (d.eng n).runs.any (fun r => r.committed && decide (r.start ≤ m + d.entryLead n) && decide (m ≤ r.endTick))

/-- The tick the plan stage makes next: the first due one that is not past. -/
def Dev.nextPlan (d : Dev) (n : Nat) : Option Nat :=
  let m := Nat.max (d.eng n).next (d.tick + 1)
  if d.tickDue n m then some m
  else
    match ((d.eng n).runs.filter (fun r => r.committed && decide (m < r.start - d.entryLead n))).head? with
    | some r => some (r.start - d.entryLead n)
    | none => none

/-- What retries of a record are counted under: its layer and vector ID. -/
def WUnit.segKey (u : WUnit) (k : Nat) : Nat × Nat := (u.layer, (u.recs.getD k default).vecId)

/-- Tick m belongs to the segment whose grid nodes engine n cannot read (R197). -/
def Dev.stuckAt (d : Dev) (n m : Nat) : Bool :=
  match (d.eng n).runAt (m * perTick) with
  | some r => (d.eng n).stuck == some (r.unit.segKey (r.arcAt (r.time (m * perTick))).1)
  | none => false

/-- Tick m of a long chain lies in a unit not yet committed (R218, R224). -/
def Dev.beyondCommit (d : Dev) (n m : Nat) : Bool :=
  match (d.eng n).runAt (m * perTick) with | some r => r.upTo.any (fun c => decide (c ≤ m)) | none => false

/-- Up to k entries. -/
def Dev.planTicks (n : Nat) : Nat → Dev → Dev
  | 0, d => d
  | k + 1, d =>
    if 2048 ≤ (d.eng n).tickQ.length then d
    else match d.nextPlan n with
      | none => d
      | some m => if d.stuckAt n m || d.beyondCommit n m then d else Dev.planTicks n k (d.planTick n m)

/-! ## The run to the safe point (R54) -/

/-- The speed of a run at a run time. -/
def Run.speed (r : Run) (t : Nat) : Nat :=
  match r.piece t with | some p => if p.len = 0 then 0 else p.prof.vel (t - p.t0) | none => 0

/-- The direction of a run at a run time: a step of 2^24 bu along the piece, in bu times 2^24. -/
def Run.ahead (r : Run) (t dist : Nat) : Int × Int :=
  match r.piece t with
  | some p =>
    let (x, y) := p.at_ t
    if p.len = 0 then (x, y) else (x + (p.bx - p.ax) * dist / p.len, y + (p.by_ - p.ay) * dist / p.len)
  | none => r.endPt

/-- A run cut at a TB3: it follows its path to there, then runs on for `keep` seconds (times 2^80) at its
speed and decelerates to rest along its line, laser off from the cut on, kept in an extent (R54, R154); whether it was
shortened for that. DEDUCED (log entry 42). -/
def Run.cutAt (r : Run) (sets : List (List Byte)) (g : Option Grid) (ts keep : Nat) : Run × Bool :=
  let t := r.time ts
  let p := (r.piece t).getD default
  let s := sets.getD p.pset []
  let v := r.speed t
  let lag := v * keep / sv
  let want := rampDist v 0 (accA s) (jerkJ s) + lag
  let len := roomAlong g (fun l => r.ahead t l) want
  let here := r.ahead t 0
  let there := r.ahead t len
  let before := r.pieces.filter (fun q => decide (q.t0 < t))
  let lastPiece := { straightPiece t here there ⟨len, v, v, 0, accA s, jerkJ s⟩ none 0 p.pset with
    len := if v = 0 then 0 else len }
  let pieces := before ++ [lastPiece]
  ({ r with
    pieces := pieces, tOn := Nat.min r.tOn t, tOff := Nat.min r.tOff t
    tEnd := if v = 0 then t else t + lastPiece.prof.time
    holdAt := if t ≤ r.holdT then pieces.length else r.holdAt
    hold := if t ≤ r.holdT then 0 else r.hold, foc := r.foc.filter (fun f => decide (f.1 < t)), cut := true },
    decide (len < want))

/-- A run that has not begun emission, cut: it emits nothing. -/
def Run.silent (r : Run) : Run := { r with tOn := 0, tOff := 0 }

/-- Engine n stops what has not started: a run in emission stays, with a half 1 that finishes behind it; one
on its way decelerates along its path and its unit, with every later one, is not started and goes back to
the queue (R54, R232). -/
def Dev.haltEngine (d : Dev) (n : Nat) : Dev :=
    let e := d.eng n
    let stays (r : Run) : Bool := r.started || r.cut || (r.emits && decide (r.on ≤ d.tb3)) || d.finishing r.unit
    let fired := e.runs.takeWhile stays
    let rest := e.runs.dropWhile stays
    let back := (rest.filter (fun r => !r.cut && !r.pre && !r.unit.recs.isEmpty)).map (fun r => r.unit)
    let from_ := (d.tick + d.dmax n + 2) * perTick
    let moving := (rest.filter (fun r => r.committed && decide (r.start * perTick ≤ from_))).getLast?
    let tail := match moving with
      | some r => [(r.cutAt (d.setsOf r.unit) none from_ 0).1.silent]
      | none => []
    let seqs := rest.map (fun r => r.seq)
    let d := d.modKeeper (fun k => { k with tracks := k.tracks.filter (fun t =>
      !(match d.beamOf n with | some b => t.beam == d.gbeam b | none => false) || !seqs.contains t.run.seq) })
    (d.dropSyncs back).modEng n (fun e => { e with
      runs := fired ++ tail, queue := back ++ e.queue, stopping := true
      tickQ := e.tickQ.filter (fun x => decide (x.tick ≤ d.tick)), next := d.tick + 1 })

/-- Engine n on a hold trigger. -/
def Dev.stopEngine (d : Dev) (n : Nat) : Dev := if (d.eng n).stopping then d else d.haltEngine n

/-- A HOLD trigger ends every probe ABORTED (R190). -/
def Dev.abortProbes (d : Dev) : Dev :=
  d.probes.foldl (fun d j => if j.serves then d else d.fail j.req stAborted 0) { d with probes := [] }

/-- Every engine, once a run to the safe point is in progress. -/
def Dev.applyHold (d : Dev) : Dev :=
  if d.holding ∧ d.exposing then
    (List.range 18).foldl (fun d n => d.stopEngine n) (if d.mode.leaveReq.isNone then d.abortProbes else d)
  else d

/-- ENGINE_PLAN: the plan stage of engine n makes up to k tick entries, and starts a unit where none waits
for its commit. -/
def execEnginePlan (n : Fin 18) (k : Nat) (s : State) : Host.Outcome State Fault Refusal :=
  s.on (fun d =>
    let d := d.applyHold
    if !d.planning n then d
    else
      let d := if (d.openRun n).isSome then d else d.startRun n
      Dev.planTicks n (Nat.min k 2048) d)

/-- BARRIER_RELEASE: engines whose barrier wait has ended go on, with DELAY of kind BARRIER (R124). -/
def execBarrierRelease (s : State) : Host.Outcome State Fault Refusal :=
  s.on (fun d => (List.range 18).foldl (fun d n =>
    match (d.eng n).barrier, (d.eng n).queue with
    | some t, u :: _ =>
      if d.atBarrier u then d
      else (d.modEng n (fun e => { e with barrier := none })).emit (n + 2) 0x32
        (leBytes 4 u.vec ++ leBytes 4 (d.tick - t) ++ [2, 0, 0, 0] ++ leBytes 4 d.now)
    | some _, [] => d.modEng n (fun e => { e with barrier := none })
    | none, _ => d) d)

end Sys2Proof.Machine
end

