-- ==== Sys2Proof/Machine/Cutoff.lean ====
section
/-! DEFINITION. The FB cut-off: photodiode windows, the conditions of R282, the law, the ceiling and the
power code (R133, R157 to R160, R163, R266 to R287). -/

namespace Sys2Proof.Machine

/-! ## Photodiode windows (R266 to R270) -/

/-- What the windows of a tick give: decimated values, saturation, a late sample, a channel fault. -/
structure PdWindow where
  d1 : Nat
  d2 : Nat
  sat1 : Bool
  sat2 : Bool
  late : Bool
  fault : Bool

/-- Full-scale differential input of a range in nV (R267). -/
def pdFull (range : Nat) : Nat := 2000000000 / 4 ^ range

/-- The code of an input voltage in nV (R267). The voltage is that behind the channel's trims. DESIGN CHOICE (log entry
101). DESIGN CHOICE (log entry 101). -/
def pdCode (range : Nat) (nv : Int) : Nat := Nat.min 16383 (16383 * nv.toNat / pdFull range)

/-- The decimated value of a channel's five samples, and whether one of them is at full scale; a disabled channel reads
0. -/
def decimate (on : Bool) (range : Nat) (w : List Int) : Nat × Bool :=
  let s := (w.take 5).map (pdCode range)
  if on then (s.sum / 5, s.any (fun x => x == 16383)) else (0, false)

/-- The windows engine n reads. A disabled channel is neither late nor at fault (R266).
DESIGN CHOICE (log entry 101). -/
def Dev.pdWindow (d : Dev) (n : Nat) (p : PdEnv) : PdWindow :=
  let en1 := d.bit (BE_PD_CFG n) 31
  let en2 := d.bit (BE_PD_CFG n) 30
  let (d1, s1) := decimate en1 (d.fld (BE_PD_CFG n) 0 2) p.melt.nv
  let (d2, s2) := decimate en2 (d.fld (BE_PD_CFG n) 4 2) p.second.nv
  ⟨d1, d2, s1, s2, (p.melt.late && en1) || (p.second.late && en2), (p.melt.fault && en1) || (p.second.fault && en2)⟩

/-- BEn_PD_LIVE follows each window that was on time. -/
def Dev.pdLive (d : Dev) (n : Nat) (w : PdWindow) : Dev :=
  if w.late then d
  else d.wrN (BE_PD_LIVE n) (w.d1 + bitOf w.sat1 * 2 ^ 15 + w.d2 * 2 ^ 16 + bitOf w.sat2 * 2 ^ 31)

/-! ## The law of a tick -/

/-- A fault of the loop raised once per unit (R282): bit c of `raised` for cause 0x0C + c. -/
def Dev.onceFault (d : Dev) (n c : Nat) : Dev :=
  if (d.law n).raised.testBit c then d
  else (d.modLaw n (fun l => { l with raised := l.raised ||| 2 ^ c })).fault (n + 2) (0x0C + c)

/-- The terms a set enables, with the channels that are enabled: melt band, second band, camera. -/
def Dev.enables (d : Dev) (n : Nat) (set : List Byte) : Bool × Bool × Bool :=
  let f := psFbEn set
  (f.testBit 1 && d.bit (BE_PD_CFG n) 31, f.testBit 2 && d.bit (BE_PD_CFG n) 30, f.testBit 3)

/-- Saturated windows are counted; SAT_RUN saturated loop-active ticks in a row raise PD_SAT.
DEDUCED (log entry 44). -/
def Dev.lawSat (d : Dev) (n : Nat) (w : PdWindow) (active : Bool) : Dev :=
  if w.late then d
  else if w.sat1 then
    let d := (d.count (BE_MP_CNT n 0) 1).modLaw n (fun l =>
      { l with marks := l.marks ||| 8, sat := if active then l.sat + 1 else l.sat })
    if active ∧ d.fld (BE_MP_CFG n) 8 8 ≤ (d.law n).sat then d.onceFault n 0 else d
  else if active then d.modLaw n (fun l => { l with sat := 0 }) else d

/-- The dark run (R282): whether this tick ends it. -/
def Dev.lawDark (d : Dev) (n : Nat) (w : PdWindow) (active melt : Bool) (plan : Nat) : Bool × Dev :=
  let ticks := d.fld (BE_PD_DARK n) 16 8
  if w.late ∨ !active ∨ !melt ∨ ticks = 0 ∨ (d.law n).pdDark ∨ plan < d.fld (BE_PD_DARK_PMIN n) 0 24 then (false, d)
  else if d.fld (BE_PD_DARK n) 0 14 ≤ w.d1 then (false, d.modLaw n (fun l => { l with dark := 0 }))
  else
    let d := d.modLaw n (fun l => { l with dark := l.dark + 1 })
    (decide (ticks ≤ (d.law n).dark), d)

/-- The conditions of the photodiode channels on a tick, with what they count and raise. -/
def Dev.lawPd (d : Dev) (n : Nat) (w : PdWindow) (emit dark pd : Bool) : Dev :=
  let lost := (d.law n).pdLost
  let d := if w.late then (d.count (BE_MP_CNT n 1) 1).modLaw n (fun l => { l with marks := l.marks ||| 16 }) else d
  let d := d.modLaw n (fun l => l.sense ⟨w.fault, w.late, dark, emit, pd⟩)
  let d := if w.fault then d.onceFault n 3 else d
  let d := if (d.law n).pdLost ∧ !lost then d.fault (n + 2) 0x0E else d
  if dark then d.fault (n + 2) 0x0D else d

/-- The photodiode error (R277). -/
def Dev.ePd (d : Dev) (n : Nat) (w : PdWindow) (set : List Byte) : Int :=
  let (melt, second, _) := d.enables n set
  let a : Int := if melt then (psPdTarget set : Int) - w.d1 else 0
  let b : Int := if second then ((w.d2 - d.fld (BE_PD2_LIM n) 0 14) * d.fld (BE_PD2_LIM n) 16 16 / 2 ^ 12 : Nat) else 0
  clampInt (-16383) 16383 (a - b)

/-- The record of the highest sequence number. -/
def lastFeat : List Feat → Option Feat
  | [] => none
  | f :: fs => match lastFeat fs with
    | none => some f
    | some g => if g.seq < f.seq then some f else some g

/-- The record that stands before another in a list. -/
def featBefore (f : Feat) : List Feat → Option Feat
  | a :: b :: rest => if b = f then some a else featBefore f (b :: rest)
  | _ => none

/-- A usable record enters at a cut-off (R273, R279): of those that arrived before its cycle the one of the highest SEQ,
with whether its TAG differs from that of the usable record of the unit before it; the others are counted as superseded.
None enters in the cycle in which the camera term drops (R284). DEDUCED (log entry 44). -/
def Dev.takeFeat (d : Dev) (n cut : Nat) : Option (Feat × Bool) × Dev :=
  let l := d.law n
  let here := l.waiting.filter (fun f => decide (f.came < cut))
  match lastFeat here with
  | none => (none, d)
  | some f =>
    if l.camDrop ∧ l.camAt = cut then (none, d)
    else
      let before := ((featBefore f here).map (fun g => g.tag)).or l.tag
      let d := (d.count (BE_MP_CNT n 2) (here.length - 1)).count (BE_MP_CNT n 3) 1
      (some (f, match before with | some t => decide (f.tag ≠ t) | none => false),
        d.modLaw n (fun l => { l with
          waiting := l.waiting.filter (fun f => !decide (f.came < cut)), tag := (here.getLast?).map (fun f => f.tag) }))

/-- The disagreement test at a usable record (R282). -/
def Dev.lawDisagree (d : Dev) (n : Nat) (ePd eCam : Int) : Dev :=
  let frames := d.fld (BE_MP_CFG n) 24 4
  if frames = 0 then d
  else if d.fld (BE_CAM_CFG n) 16 16 < (ePd * 2 - eCam * 8).natAbs then
    let d := d.modLaw n (fun l => { l with dis := l.dis + 1, agree := 0 })
    if frames ≤ (d.law n).dis ∧ !(d.law n).frozen then
      (d.modLaw n (fun l => { l with frozen := true, marks := l.marks ||| 4 })).onceFault n 5
    else d
  else d.modLaw n (fun l =>
    { l with dis := 0, agree := l.agree + 1, frozen := l.frozen && decide (l.agree + 1 < frames) })

/-- The law's part of a tick whose cut-off falls at `cut`, with the windows read: conditions, record, fb. DEDUCED (log
entry 44). DEDUCED (log entry 44). -/
def Dev.lawTick (d : Dev) (n cut : Nat) (x : TickEntry) (set : List Byte) (w : PdWindow) (emit active : Bool) : Dev :=
  let (melt, second, cam) := d.enables n set
  let d := if emit then d.modLaw n (fun l => l.senseCam cam) else d
  let (dark, d) := d.lawDark n w active melt x.plan
  let d := d.lawPd n w emit dark (melt || second)
  let d := d.lawSat n w active
  let (f, d) := if active && !w.late then d.takeFeat n cut else (none, d)
  let d := if f.isSome then d.modLaw n (fun l => l.flagCam (fun l => { l with camDrop := false })) else d
  if set.isEmpty ∨ psFbEn set / 2 = 0 then d.modLaw n (fun l => { l with fb := 0 })
  else if w.late then d
  else
    let pdOn := (melt || second) && !(d.law n).pdDropped
    let ePd := d.ePd n w set
    let eCam : Int := match f with | some f => clampInt (-4096) 4096 ((psCamTarget set : Int) - f.1.area) | none => 0
    let camOn := cam && !(d.law n).camDropped
    let d := if f.isSome ∧ pdOn ∧ camOn then d.lawDisagree n ePd eCam else d
    d.modLaw n (fun l => l.fbTick
      ⟨psKpPd set, psKiPd set, psKpCam set, psKiCam set, psFbMin set, psFbMax set⟩
      ⟨active, ePd, w.sat1, f.isSome, eCam, (match f with | some f => f.2 | none => false), pdOn, camOn⟩)

/-- The figures of the unit for CORR (R285). -/
def Law.figure (l : Law) (emit active : Bool) (m : Nat) : Law :=
  if !emit then l
  else
    let l := { l with
      lo := if l.figured then min l.lo l.fb else l.fb
      hi := if l.figured then max l.hi l.fb else l.fb
      figured := true
      emitted := l.emitted + 1 }
    if active then { l.note m with sum := l.sum + l.fb, active := l.active + 1 } else l

/-! ## The final stage (R133, R157 to R160, R163) -/

/-- Power in mW to the 16-bit code (R159). -/
def Dev.powerCode (d : Dev) (n p : Nat) : Nat :=
  let step := d.fld (BE_PLIN_STEP n) 0 24
  let c (i : Nat) : Int := d.fld (BE_PLIN n i) 0 16
  if step = 0 then 0
  else if 32 ≤ p / step then d.fld (BE_PLIN n 32) 0 16
  else (c (p / step) + Int.tdiv ((c (p / step + 1) - c (p / step)) * (p % step : Nat)) step).toNat

/-- The ceiling of beam b with a set's weir. -/
def Dev.ceiling (d : Dev) (n b weir : Nat) : Nat :=
  let c := Nat.min weir (d.fld (LAS_CEIL b) 0 24)
  if d.mode.cur = .calibrate then Nat.min c (d.fld (BE_CAL_CEIL n) 0 24) else c

/-- The high times of a MOD interval that begin before `upTo` and end after `from_`: the pulses of a pulsed set, start
and end as time-stamps, cut at the falling edge; else the interval (R161). -/
def ModIv.highs (v : ModIv) (from_ upTo : Nat) : List (Nat × Nat) :=
  if !v.pulsed then (if v.rise < v.fall ∧ from_ < v.fall ∧ v.rise < upTo then [(v.rise, v.fall)] else [])
  else
    let per := Nat.max 1 v.period
    let k0 := (from_ - v.rise - v.width) / per
    (List.range (perTick / per + 3)).filterMap (fun i =>
      let a := v.rise + (k0 + i) * per
      let b := Nat.min v.fall (a + v.width)
      if a < b ∧ from_ < b ∧ a < upTo then some (a, b) else none)

/-- The intervals of a tick on which its MOD descriptor holds MOD high, as time-stamps. -/
def TickEntry.highs (x : TickEntry) : List (Nat × Nat) :=
  let t := x.tick * perTick
  x.mods.flatMap (fun v => (v.highs t (t + perTick)).map (fun p => (Nat.max t p.1, Nat.min (t + perTick) p.2)))

/-- The final stage of a tick entry: power under the ceiling, the code, the dual check. -/
def Dev.finalStage (d : Dev) (n b : Nat) (x : TickEntry) (mismatch : Bool) : Dev :=
  let fb := (d.law n).fb
  let p := (x.plan * (32768 + fb).toNat) / 2 ^ 15
  let c := d.ceiling n b x.weir
  let ovr := decide (c < p)
  let p := Nat.min p c
  let low := x.highs.isEmpty
  let y := if mismatch then { x with code := some 0, power := 0, modHigh := false, rise := none, fall := none, mods := [] }
    else { x with code := some (if low then 0 else d.powerCode n p), power := p }
  let d := d.modEng n (fun e => { e with tickQ := e.tickQ.map (fun z => if z.tick = x.tick then y else z) })
  let same := (d.law n).clampSeq == x.seq ||
    ((d.law n).clampSeq == (d.law n).seq && (d.eng n).runs.any (fun r => r.seq == x.seq && r.unit.resumed))
  let d := d.modLaw n (fun l => if ovr then
      { l with ceilPrev := true, clampSeq := x.seq, clamped := (if same then l.clamped else 0) + 1 }
    else { l with ceilPrev := false })
  let d := if ovr then d.count (BE_CNT n 1) 1 else d
  if mismatch then d.fault (n + 2) 2 else d

/-- The set that governs a tick entry's law. -/
def Dev.entrySet (d : Dev) (n : Nat) (x : TickEntry) : List Byte :=
  match (d.eng n).runs.find? (fun r => r.seq == x.seq) with
  | some r => if x.seq = 0 then [] else (d.setsOf r.unit).getD x.pset []
  | none => []

/-- FB_CUTOFF: 250 ns before the strobe of the next tick, fb is formed and engine n's final stage runs
(R144, R270). -/
def execFbCutoff (n : Fin 18) (p : PdEnv) (s : State) : Host.Outcome State Fault Refusal :=
  s.on (fun d =>
    let m := d.tick + 1
    let d := d.advanceTo (m * perTick - 4000)
    if d.mode.boot < 2 ∨ d.fencedUnit n ∨ d.wdDone then d
    else
      let w := d.pdWindow n p
      let d := d.pdLive n w
      match d.computing, d.beamOf n with
      | true, some b =>
        let x := ((d.eng n).tickQ.find? (fun x => x.tick == m)).getD { (default : TickEntry) with tick := m }
        let known := (d.eng n).tickQ.any (fun x => x.tick == m)
        let emit := decide (x.emitFrom < x.emitTo)
        let set := d.entrySet n x
        let resumed := (d.eng n).runs.any (fun r => r.seq == x.seq && r.unit.resumed)
        let d := if emit ∧ x.seq ≠ (d.law n).seq then
            d.modLaw n (fun l => l.firstTick (d.bit (BE_MP_CFG n) 31) resumed x.seq) else d
        let active := emit && x.cruise && decide (d.fld (BE_MP_CFG n) 16 8 ≤ (d.law n).emitted)
          && (d.scn.lasers.getD b default).emit
        let d := if d.replay.isSome then d else
          (d.lawTick n (m * perTick - 4000) x set w emit active).modLaw n (fun l => l.figure emit active m)
        if known then d.finalStage n b x p.mismatch else d
      | _, _ => d)

/-! ## Feature records (R273, R274) -/

/-- A record satisfies the conditions of R273 but its arrival in time. -/
def Dev.usable (d : Dev) (n : Nat) (f : Feat) : Bool :=
  f.flags.testBit 0 && !f.flags.testBit 1 && !f.flags.testBit 4 &&
  (d.law n).activeIn (f.trig / perTick) == some (d.law n).seq &&
  (d.eng n).runs.any (fun r => r.seq == (d.law n).seq && !r.ended)

/-- A frame triggered on a loop-active tick has given no usable record: STALE_FRAMES of them in a row drop
the camera term, with CAM_STALE once per unit (R282). DEDUCED (log entry 44). -/
def Dev.staleFrame (d : Dev) (n trig : Nat) : Dev :=
  if ((d.law n).activeIn (trig / perTick)).isNone then d
  else
    let d := d.modLaw n (fun l => { l with stale := l.stale + 1 })
    if d.fld (BE_MP_CFG n) 0 8 ≤ (d.law n).stale ∧ !(d.law n).camDrop then
      (d.modLaw n (fun l => l.dropCam d.tb3)).onceFault n 4
    else d

/-- FEATURE_ARRIVAL: the oldest record on its way from melt-pool port p reaches the beam's engine. -/
def execFeatureArrival (p : Fin 16) (s : State) : Host.Outcome State Fault Refusal :=
  s.on (fun d =>
    match d.feats.getD p [] with
    | [] => d
    | f :: fs =>
      let d := { d with feats := d.feats.set p fs }
      match d.engineOf p with
      | none => d
      | some n =>
        if d.fencedUnit n then d.ghost n 1
        else
          let due := f.end_ + d.fld (BE_CAM_CFG n) 0 16 * 16
          let inTime := decide (d.tb3 ≤ due)
          if inTime && d.usable n f then
            (d.wrN (BE_CAM_LAST n) (f.area % 2 ^ 13 + (f.seq % 2 ^ 16) * 2 ^ 16)).modLaw n (fun l =>
              { l with stale := 0, waiting := l.waiting ++ [{ f with came := d.tb3 }] })
          else
            let d := if inTime then d else d.count (BE_MP_CNT n 2) 1
            d.staleFrame n f.trig)

end Sys2Proof.Machine
end

