-- ==== Sys2Proof/Machine/Strobe.lean ====
section
/-! DEFINITION. The tick strobe: the sluice, setpoint frames, laser outputs, the energy written to the
ledger, the ends of emission and of runs, underruns, and the start check of a layer (R30, R31, R110, R165,
R244, R245, R315, R316, R328 to R337). -/

namespace Sys2Proof.Machine

/-! ## Ports and outputs -/

/-- Every EMIT_EN goes down where the gate closes. -/
def Dev.applyGate (d : Dev) : Dev := if d.gate then d else (List.range 16).foldl (fun d b => d.setEmit b false) d

/-! ## Setpoints (R316, R328, R329) -/

/-- One axis of the mooring generator. DEDUCED (log entry 38). -/
def stepTo (step g t : Int) : Int := if g < t then min t (g + step) else max t (g - step)

/-- The mooring position of a port. -/
def Dev.moorOf (d : Dev) (b j : Nat) : Int := signed 24 (d.fld (SCN_PORT_MOOR b j) 0 24)

/-- The generator of port b moves toward a target. DEDUCED (log entry 73). -/
def Dev.genStep (d : Dev) (b : Nat) (t : Int × Int × Int) : Dev :=
  let k : Int := d.fld (SCN_PORT_MOOR_STEP b) 0 16
  d.modPort b (fun p => { p with gx := stepTo k p.gx t.1, gy := stepTo k p.gy t.2.1, gz := stepTo k p.gz t.2.2 })

/-- A source of setpoints: the engine, the generator toward a target, or a position held. -/
inductive Source where
  | engine | moor | hold | back

/-- The source of port b in the present mode (R322, R325, R329). DEDUCED (log entry 38). -/
def Dev.source (d : Dev) (b : Nat) : Source :=
  let p := d.port b
  if p.state = 2 ∧ (d.mode.cur ≠ .standby ∨ !p.seen) then .hold
  else match d.mode.cur with
    | .configure => .hold
    | .standby => if p.jog then .engine else .moor
    | .calibrate => .engine
    | .build => .engine
    | .hold => if p.return_ then .back else .engine
    | .service => if d.replay.isSome then .engine else .moor
    | .safe => if d.scn.moorOk then .moor else .engine
    | .windDown => if d.bit MODE_WD_CFG 1 then .moor else .engine

/-- The setpoint port b carries at a strobe, and whether the generator gives it. An engine without a tick
entry, and a position held, keep the last setpoint released. DEDUCED (log entry 38). -/
def Dev.setpoint (d : Dev) (b : Nat) (x : Option TickEntry) : (Int × Int × Int) × Bool × Dev :=
  let p := d.port b
  match d.source b with
  | .hold => ((if p.seen then (p.hx, p.hy, p.hz) else (p.lx, p.ly, p.lz)), false, d)
  | .engine =>
    match x, d.engineOf b with
    | some x, _ => ((x.x, x.y, x.z), false, d)
    | none, some n =>
      if p.jog ∧ !(d.eng n).runs.isEmpty ∧ d.mode.cur = .standby then
        let (x, d) := d.axisSetpoint n d.tick 0 (fun f => f.1)
        let (y, d) := d.axisSetpoint n d.tick 1 (fun f => f.2.1)
        let (z, d) := d.axisSetpoint n d.tick 2 (fun f => f.2.2.1)
        ((clampField x, clampField y, clampField z), false, d)
      else ((p.lx, p.ly, p.lz), false, d)
    | none, none => ((p.lx, p.ly, p.lz), false, d)
  | .moor =>
    let d := d.genStep b (d.moorOf b 0, d.moorOf b 1, d.moorOf b 2)
    let p := d.port b
    ((p.gx, p.gy, p.gz), true, d)
  | .back =>
    let e := match d.engineOf b with | some n => d.eng n | none => default
    let d := d.genStep b (e.lx, e.ly, e.lz)
    let p := d.port b
    let there := p.gx == e.lx && p.gy == e.ly && p.gz == e.lz
    ((p.gx, p.gy, p.gz), true, d.modPort b (fun p => { p with return_ := !there }))

/-! ## Frames (R315) -/

/-- A MOD edge field. -/
def edgeField (o : Option Nat) : List Byte := match o with | some k => leBytes 2 (k + 0x8000) | none => [0, 0]

/-- The 32 bytes of a setpoint frame. -/
def setpointFrame (flags seq : Nat) (p : Int × Int × Int) (aux0 aux1 : Nat) (rise fall : Option Nat)
    (cmd arg : Nat) : List Byte :=
  let body := leBytes 1 0x01 ++ leBytes 1 flags ++ leBytes 6 seq ++ leBytes 3 (unsigned 24 p.1)
    ++ leBytes 3 (unsigned 24 p.2.1) ++ leBytes 3 (unsigned 24 p.2.2) ++ leBytes 2 aux0 ++ leBytes 2 aux1
    ++ edgeField rise ++ edgeField fall ++ leBytes 1 cmd ++ leBytes 4 arg
  body ++ leBytes 2 (crc16 body)

/-- A frame on the lane, with the commas up to the next strobe: K27.7, the bytes, K29.7, K28.5 (R314). -/
def frameSymbols (perTickSymbols : Nat) (bytes : List Byte) : List Symbol :=
  (.k 27 7 :: bytes.map Symbol.d) ++ (.k 29 7 :: List.replicate (perTickSymbols - 2 - bytes.length) (.k 28 5))

/-- Symbols of one tick at the port's rate (R314). -/
def Dev.tickSymbols (d : Dev) (b : Nat) : Nat := 160 / 2 ^ Nat.min 2 (d.fld (SCN_PORT_CFG b) 16 2)

/-! ## MOD at the pin (R331) -/

/-- High times that overlap or touch are one. -/
def joinHighs (l : List (Nat × Nat)) : List (Nat × Nat) :=
  l.foldr (fun p acc => match acc with
    | q :: rest => if q.1 ≤ p.2 then (p.1, Nat.max p.2 q.2) :: rest else p :: q :: rest
    | [] => [p]) []

/-- Adjustments of the pin in one tick, each counted in the tick that ends it: high times under 2 ns suppressed, low
times under 2 ns filled. -/
def TickEntry.narrow (x : TickEntry) : Nat :=
  let t := x.tick * perTick
  let hs := joinHighs (x.mods.flatMap (fun v => v.highs (t - 32) (t + perTick)))
  let ends (k : Nat) : Bool := decide (t < k) && decide (k ≤ t + perTick)
  (hs.filter (fun p => ends p.2 && decide (p.2 < p.1 + 32))).length
    + ((List.zip hs (hs.drop 1)).filter (fun p => ends p.2.1 && decide (p.2.1 < p.1.2 + 32))).length

/-! ## Energy (R244, R245, R248) -/

/-- An update joins engine n's write queue, or its local store; with both full the oldest entry is lost. -/
def Dev.sendUpdate (d : Dev) (n : Nat) (g : Gather) : Dev :=
  if !d.inGrid g.cx g.cy then d.count (LDG_CNT 3) 1
  else
    let nj := Nat.min 0xFFFFFFFF ((2 * g.e + 16000 * g.den) / (2 * 16000 * g.den))
    let u : LUpd := ⟨g.cx.toNat, g.cy.toNat, nj, g.t, [g.seq]⟩
    let e := d.eng n
    if e.writes.length < 2048 ∧ e.store.isEmpty then d.modEng n (fun e => { e with writes := e.writes ++ [u] })
    else if e.store.any (fun v => v.cx == u.cx && v.cy == u.cy) then
      d.modEng n (fun e => { e with store := e.store.map (fun v =>
        if v.cx = u.cx ∧ v.cy = u.cy then { v with nj := Nat.min 0xFFFFFFFF (v.nj + u.nj), t := Nat.max v.t u.t, seqs := v.seqs ++ u.seqs }
        else v) })
    else if e.store.length < 256 then d.modEng n (fun e => { e with store := e.store ++ [u] })
    else
      let lost := e.store.headD ⟨0, 0, 0, 0, []⟩
      (d.countLost lost.nj).modEng n (fun e => { e with
        store := e.store.drop 1 ++ [u], notices := e.notices ++ [lost] })

/-- What engine n has gathered goes to the ledger. -/
def Dev.flushGather (d : Dev) (n : Nat) : Dev :=
  match (d.eng n).gather with
  | none => d
  | some g => (d.modEng n (fun e => { e with gather := none })).sendUpdate n g

/-- A fraction in lowest terms. -/
def lowest (a b : Nat) : Nat × Nat := let k := Nat.max 1 (Nat.gcd a b); (a / k, b / k)

/-- Energy of a tick in one cell, e / den mW times 62.5 ps. -/
def Dev.gatherCell (d : Dev) (n : Nat) (c : Int × Int) (e den t seq : Nat) : Dev :=
  match (d.eng n).gather with
  | some g =>
    if g.cx = c.1 ∧ g.cy = c.2 ∧ g.seq = seq then
      let (e, den) := lowest (g.e * den + e * g.den) (g.den * den)
      let g := { g with e := e, den := den, ticks := if g.t = t then g.ticks else g.ticks + 1, t := t }
      let d := d.modEng n (fun x => { x with gather := some g })
      if 64 ≤ g.ticks then d.flushGather n else d
    else (d.flushGather n).modEng n (fun x => { x with gather := some ⟨c.1, c.2, e, den, 1, t, seq⟩ })
  | none => d.modEng n (fun x => { x with gather := some ⟨c.1, c.2, e, den, 1, t, seq⟩ })

/-- The parts of a straight path in the cells it crosses: cell, and share as a fraction. A tick's path is
shorter than a cell, so it crosses at most one line of each direction. -/
def Dev.cellParts (d : Dev) (p q : Int × Int) : List ((Int × Int) × Nat × Nat) :=
  let w : Int := d.ldgPitch * 2 ^ 24
  let a := d.cellOf p.1 p.2
  let b := d.cellOf q.1 q.2
  -- where a line is crossed: how far along, of how much
  let cut (org c0 c1 u v : Int) : Option (Nat × Nat) :=
    if c0 = c1 then none else some ((org * 2 ^ 24 + (max c0 c1) * w - u).natAbs, (v - u).natAbs)
  match cut (d.rdI LDG_ORG_X) a.1 b.1 p.1 q.1, cut (d.rdI LDG_ORG_Y) a.2 b.2 p.2 q.2 with
  | none, none => [(a, 1, 1)]
  | some (s, m), none => [(a, s, m), (b, m - s, m)]
  | none, some (s, m) => [(a, s, m), (b, m - s, m)]
  | some (s, m), some (r, k) =>
    let x := s * k
    let y := r * m
    [(a, Nat.min x y, m * k), (if x ≤ y then (b.1, a.2) else (a.1, b.2), Nat.max x y - Nat.min x y, m * k),
      (b, m * k - Nat.max x y, m * k)]

/-- The emission time of a tick in target time: pulse-high time only, with a pulsed set. -/
def TickEntry.emission (x : TickEntry) (set : List Byte) (on off : Nat) : Nat :=
  ((ModIv.highs ⟨on, off, psPulsed set, psPeriod set, psWidth set⟩ x.emitFrom x.emitTo).map (fun p =>
    Nat.min x.emitTo p.2 - Nat.max x.emitFrom p.1)).sum

/-- The energy of a released tick is gathered along the target path (R244). A tick that gives none takes no part in an
update, which goes once the path leaves its cell (R245). -/
def Dev.gatherTick (d : Dev) (n : Nat) (x : TickEntry) : Dev :=
  if !d.building ∨ d.ldgCopy.isNone ∨ x.emitTo ≤ x.emitFrom then d
  else
    match (d.eng n).runs.find? (fun r => r.seq == x.seq) with
    | none => d
    | some r =>
      let cuts := (r.pieces.map (fun p => r.stamp p.t0)).filter (fun t => decide (x.emitFrom < t) && decide (t < x.emitTo))
      let ts := x.emitFrom :: cuts ++ [x.emitTo]
      let segs := (List.zip ts (ts.drop 1)).map (fun s => (r.target s.1, r.target s.2))
      let lens := segs.map (fun s => gap s.1 s.2)
      let total := lens.sum
      let e := x.power * x.emission ((d.setsOf r.unit).getD x.pset []) r.on r.off
      let t := (x.tick + 1) * perTick
      let cell (t : Nat) : Int × Int := let p := r.target t; d.cellOf p.1 p.2
      if e = 0 then
        match (d.eng n).gather with
        | some g => if (g.cx, g.cy) = cell x.emitTo then d else d.flushGather n
        | none => d
      else if total = 0 then d.gatherCell n (cell x.emitFrom) e 1 t x.seq
      else (List.zip segs lens).foldl (fun d s =>
        (d.cellParts s.1.1 s.1.2).foldl (fun d c =>
          if c.2.1 = 0 ∨ s.2 = 0 then d else d.gatherCell n c.1 (e * c.2.1 * s.2) (c.2.2 * total) t x.seq) d) d

/-! ## One beam at the strobe -/

/-- The laser output of beam b and what it records (R331, R332). -/
def Dev.releaseLaser (d : Dev) (b : Nat) (x : Option TickEntry) : (Nat × Option TickEntry) × Dev :=
  let on := (d.laser b).emit
  match on, x with
  | true, some x =>
    let max := d.fld (LAS_CODE_MAX b) 0 16
    let c := x.code.getD 0
    let ovr := decide (max < c)
    let k := x.narrow
    let d := if ovr then d.count (LAS_CNT b 0) 1 else d
    let d := if ovr ∧ !(d.laser b).clampRaised then
        (d.modLaser b (fun l => { l with clampRaised := true })).fault 31 1 else d
    let d := if k ≠ 0 then d.count (LAS_CNT b 1) k else d
    let d := if k ≠ 0 ∧ !(d.laser b).narrowRaised then
        (d.modLaser b (fun l => { l with narrowRaised := true })).fault 31 2 else d
    let d := if x.highs.isEmpty then d
      else
        let d := ((d.wrN (LAS_EMIT_VEC b) x.vec).wrN (LAS_EMIT_ARC b) x.arc).wr64
          (LAS_EMIT_TICK_LO b) (LAS_EMIT_TICK_HI b) x.tick
        { d with life := { d.life with laser := modAt d.life.laser b (fun v => v + 1) } }
    let code := Nat.min max c
    ((code, some x), (d.wrN (LAS_LAST b) code).send (.laser b code x.modHigh x.rise x.fall))
  | _, _ => ((0, none), (d.wrN (LAS_LAST b) 0).send (.laser b 0 false none none))

/-- The clamps and the extent of the entry engine n has released (R155, R177): a clamp outside emission is counted,
one in emission raises CLIP_EMIT at the first tick of its run in the unit, a target outside the extent GRID_OUT_EXT. -/
def Dev.releaseClips (d : Dev) (n : Nat) (x : TickEntry) : Dev :=
  let emit := decide (x.emitFrom < x.emitTo)
  let e := d.eng n
  let d := if x.clip ∧ !emit then d.count (BE_CNT n 2) 1 else d
  let d := if x.outExt then d.setBit (BE_GRID_STATUS n) 2 true else d
  let d := d.modEng n (fun e => { e with
    clipRun := if x.clip && emit then x.seq else 0, extRun := if x.outExt then x.seq else 0 })
  let d := if x.clip ∧ emit ∧ e.clipRun ≠ x.seq then d.fault (n + 2) 7 else d
  if x.outExt ∧ x.seq ≠ 0 ∧ e.extRun ≠ x.seq then d.fault (n + 2) 9 else d

/-- Beam b at the strobe of tick m: setpoint, power, MOD, frame (R30, R31, R315, R316). -/
def Dev.releaseBeam (d : Dev) (m b : Nat) : Dev :=
  let n := d.engineOf b
  let live := match n with | some n => !d.fencedUnit n && !(d.eng n).taking | none => false
  let x : Option TickEntry := if !live || !d.computing then none else
    match n with
    | some n => (d.eng n).tickQ.find? (fun x => x.tick == m && x.code.isSome)
    | none => none
  let fromEngine := match d.source b with | .engine => true | _ => false
  let (pos, moor, d) := d.setpoint b x
  let ((code, y), d) := d.releaseLaser b (if fromEngine && d.exposing then x else none)
  let p := d.port b
  let d := { d with life := { d.life with travel := modAt d.life.travel b (fun v =>
    v + (pos.1 - p.lx).natAbs + (pos.2.1 - p.ly).natAbs) } }
  let d := d.modPort b (fun p => { p with
    lx := pos.1, ly := pos.2.1, lz := pos.2.2, gx := pos.1, gy := pos.2.1, gz := pos.2.2 })
  let d := match n with
    | some n =>
      let d := if fromEngine then d.modEng n (fun e => { e with lx := pos.1, ly := pos.2.1, lz := pos.2.2 }) else d
      match x with
      | some x =>
        let d := d.releaseClips n x
        let d := if x.seq ≠ 0 then (d.wrN (BE_POS_VEC n) x.vec).wrN (BE_POS_ARC n) x.arc else d
        if ((d.laser b).emit || d.replay.isSome) ∧ fromEngine then d.gatherTick n x else d
      | none => d
    | none => d
  if (p.state = 2 ∨ p.state = 3) ∧ !p.txSleep then
    let dp := d.bit (LAS_CFG b) 30
    let flags := bitOf (d.laser b).emit + 2 * bitOf moor + 4 * bitOf d.safeState + 8 * bitOf dp
      + 16 * bitOf (match x with | some x => fromEngine && x.pulsed | none => false)
    let aux0 := match x with | some x => if fromEngine then x.aux0 else 0 | none => 0
    let (r, f) := match y with | some y => if dp then (y.rise, y.fall) else (none, none) | none => (none, none)
    d.send (.frame b (frameSymbols (d.tickSymbols b)
      (setpointFrame flags m pos aux0 (if dp then code else 0) r f p.cmd p.arg)))
  else d

/-! ## The ends of emission and of runs -/

/-- The run time at which record k of a run ends; none where the run does not reach its end. -/
def Run.recEnd (r : Run) (k : Nat) : Option Nat :=
  if (r.unit.recs.getD k default).type = 3 then (if r.cut then none else some r.tEnd)
  else
    match (r.pieces.filter (fun p => p.rec_ == some k)).getLast? with
    | some p => if p.t0 + p.dur ≤ r.tOff then some (p.t0 + p.dur) else none
    | none => none

/-- The arc of a record that is complete in this unit, in bu times 2^80. -/
def WUnit.fullArc (u : WUnit) (k : Nat) : Nat :=
  let r := u.recs.getD k default
  if r.type = 3 ∨ r.type = 4 then 0
  else if k + 1 = u.recs.length then
    match u.endArc with
    | some e => e * 2 ^ 56
    | none => distBu r.sx r.sy r.x r.y
  else distBu r.sx r.sy r.x r.y

/-- The records of a run that have ended by a TB3: their outcomes are to be reported (R93). -/
def Dev.giveDone (d : Dev) (n i upTo : Nat) : Nat → Dev
  | 0 => d
  | k + 1 =>
    match (d.eng n).runs[i]? with
    | none => d
    | some r =>
      match r.recEnd r.given with
      | none => d
      | some t =>
        if r.given < r.unit.recs.length ∧ r.stamp t ≤ upTo then
          let (arc, d) := d.wholeBu (r.unit.fullArc r.given)
          let x : Done := ⟨r.unit, r.given, stOk, arc, r.stamp t, false, r.seq, d.gbeam ((d.beamOf n).getD 0)⟩
          (d.modEng n (fun e => { e with
            done := e.done ++ [x], runs := modAt e.runs i (fun r => { r with given := r.given + 1 }) })).giveDone n i upTo k
        else d

/-- DELAY events at the start of a run's emission (R554). -/
def Dev.delayEvents (d : Dev) (n : Nat) (r : Run) : Dev :=
  r.delays.foldl (fun d k => d.emit (n + 2) 0x32
    (leBytes 4 r.unit.vec ++ leBytes 4 k.2 ++ leBytes 1 k.1 ++ [0, 0, 0] ++ leBytes 4 (r.on / perTick - d.layerTick))) d

/-- A vector ends held on engine n (R54, R165): HELD, and the unit waits to be resumed or settled. -/
def Dev.holdVector (d : Dev) (n : Nat) (u : WUnit) (i arc t : Nat) : Dev :=
  (d.modEng n (fun e => { e with held := e.held ++ [⟨u, i, arc, t⟩] })).emit (n + 2) 0x31
    (leBytes 4 (u.recs.getD i default).vecId ++ leBytes 4 arc ++ leBytes 8 t)

/-- The first pair of samples that straddles a threshold: its place, and the crossing between the two as a fraction of a
sample interval. A sample equal to the threshold is on the far side of a rising edge, on the near side of a falling one.
DESIGN CHOICE (log entry 92). -/
def crossing (th : Int) (falling : Bool) : Nat → List Int → Option (Nat × Nat × Nat)
  | k, a :: b :: l =>
    let hit := if falling then decide (th ≤ a) && decide (b < th) else decide (a < th) && decide (th ≤ b)
    if hit then some (k, (th - a).natAbs, (b - a).natAbs) else crossing th falling (k + 1) (b :: l)
  | _, _ => none

/-- The crossing a CAL_EDGE finds in a run, whose line began to emit at `on` (R191): the target's arc, X and Y at its
time less the group delay, to the nearest bu, at the ends of the line where that lies outside the emission. A run cut
short finds only what lies in it. DESIGN CHOICE (log entry 90). -/
def EdgeReq.found (g : EdgeReq) (on : Nat) (r : Run) : Option (Int × Int × Int) :=
  let first := (on + 799) / 1600 * 1600 + 800
  match crossing g.th g.falling 0 g.samples with
  | none => none
  | some (k, p, q) =>
    let num : Int := ((first + 1600 * k : Nat) - (g.delay : Int)) * q + 1600 * p
    if r.cut ∧ (r.off : Int) * q < num then none
    else
      let u : Int := num - (r.start * perTick + r.hold : Nat) * (q : Int)
      let t := Nat.min r.tOff (Nat.max r.tOn (u.toNat * sd / (16000000000 * Nat.max 1 q)))
      let at_ := match r.piece t with | some x => x.at_ t | none => r.endPt
      some (divRound (r.arcAt t).2 sd, divRound at_.1 (2 ^ 24), divRound at_.2 (2 ^ 24))

/-- The emission of a run has ended: a CAL_EDGE looks for its crossing (R191). -/
def Dev.edgeRun (d : Dev) (r : Run) : Dev :=
  { d with cals := d.cals.map (fun (c : CalJob) =>
    match c.edge with
    | some g =>
      if r.unit.cal = some (c.req.ring, c.req.idx) ∧ c.found.isNone then
        { c with edgeOn := some (c.edgeOn.getD r.on), found := g.found (c.edgeOn.getD r.on) r }
      else c
    | none => c) }

/-- Run i of engine n after the release of tick m. -/
def Dev.runTick (d : Dev) (n m i : Nat) : Dev :=
  match (d.eng n).runs[i]? with
  | none => d
  | some r =>
    let upTo := (m + 1) * perTick
    if !r.committed then d
    else
      let begins := r.emits && !r.started && decide (r.on < upTo)
      let d := if begins then
          (d.modEng n (fun e => { e with runs := modAt e.runs i (fun r => { r with started := true }) })).delayEvents n r
        else d
      let d := d.giveDone n i upTo (r.unit.recs.length + 1)
      let d := if r.unit.owner ≠ d.devId ∧ r.emitAt m ∧ (m - r.firstEmit) % 64 = 0 then
          let (k, arc) := r.arcAt (r.time (m * perTick))
          let (arc, d) := d.wholeBu arc
          d.sendTo r.unit.owner 0x16 [(r.unit.recs.getD k default).vecId, arc, m * perTick]
        else d
      if r.emits ∧ (begins || r.started) ∧ !r.ended ∧ r.off ≤ upTo then
        let d := (d.flushGather n).edgeRun r
        (d.modEng n (fun e => { e with runs := modAt e.runs i (fun r => { r with ended := true }) })).corr n r
      else d

/-- Engine n after the release of tick m: runs whose path has ended leave; the entries released go. -/
def Dev.engineTick (d : Dev) (n m : Nat) : Dev :=
  let d := (List.range (d.eng n).runs.length).foldl (fun d i => d.runTick n m i) d
  let ovr (r : Run) : Bool := r.committed && decide (r.endTick ≤ m + 1)
  match ((d.eng n).runs.filter ovr).getLast? with
  | none => d.modEng n (fun e => { e with tickQ := e.tickQ.filter (fun x => decide (m < x.tick)) })
  | some r => d.modEng n (fun e => { e with
      px := r.endPt.1, py := r.endPt.2, focus := r.endFocus (d.zRamp n), runs := e.runs.filter (fun r => !ovr r)
      tickQ := e.tickQ.filter (fun x => decide (m < x.tick)) })

/-- Engine n has not delivered tick m though a run of it covers the tick (R31). -/
def Dev.underruns (d : Dev) (n m : Nat) : Bool :=
  d.computing && !d.fencedUnit n && (d.beamOf n).isSome && !(d.eng n).taking &&
  (d.eng n).runs.any (fun r => r.committed && decide (r.start ≤ m) && decide (m < r.endTick)) &&
  !(d.eng n).tickQ.any (fun x => x.tick == m && x.code.isSome)

/-- Engine n stops laser-off where it stands: its vector in emission is held at its last tick released
with emission, its other units go back to its queue (R165, R320). -/
def Dev.stopAtOnce (d : Dev) (n m : Nat) : Dev :=
  let b := (d.beamOf n).getD 0
  let e := d.eng n
  let at_ := e.target (m * perTick)
  let seqs := (e.runs.filter (fun r => !r.started)).map (fun r => r.seq)
  let d := (d.flushGather n).endEmission n
  let one (acc : List WUnit × Dev) (r : Run) : List WUnit × Dev :=
    match acc.2.emittedIn b r with
    | some (i, arc, t) => (acc.1, acc.2.holdVector n r.unit i arc t)
    | none => if r.idle then acc else (acc.1 ++ [r.unit], acc.2)
  let (us, d) := e.runs.foldl one ([], d)
  let d := d.modKeeper (fun k => { k with tracks := k.tracks.filter (fun t =>
    t.beam != d.gbeam b || !seqs.contains t.run.seq) })
  (d.dropSyncs us).modEng n (fun e => { e with
    runs := [], queue := us.filter (fun u => !u.recs.isEmpty) ++ e.queue, tickQ := [], px := at_.1, py := at_.2, stopping := true
    stuck := none })

/-- The underrun of engine n at tick m (R165). -/
def Dev.underrun (d : Dev) (n m : Nat) : Dev := (d.stopAtOnce n m).fault (n + 2) 1

/-! ## The start conditions of a layer (R21, R110) -/

/-- Start conditions 2 and 3: recoat, thresholds. -/
def Dev.recoatOk (d : Dev) (l : Layer) : Bool := !l.recoatWait || (d.recoated && d.mot.seq.isNone)

/-- The records of a layer that a beam may expose and that have no outcome yet. -/
def Layer.recsFor (l : Layer) (b : Nat) : List Rec :=
  l.barges.flatMap (fun x => (x.recs.filter (fun v => v.r.type != 0 && v.r.elig.testBit b && v.outs.isEmpty)).map (fun v => v.r))

/-- A vector of one eligible beam (R122). -/
def Rec.single (r : Rec) : Bool := decide ((bitList 16 r.elig).length = 1)

/-- Engine n, which serves beam b, holds its start threshold of a layer: 64 KiB of its vector records, or all of its
single-beam vectors (R21). -/
def Dev.holdsStart (d : Dev) (l : Layer) (n b : Nat) : Bool :=
  let held := (((d.eng n).queue.filter (fun u => u.layer == l.num && u.cal.isNone)).map (fun u => u.recs.length)).sum
  decide (Nat.min 65536 (32 * ((l.recsFor b).filter Rec.single).length) ≤ 32 * held)

/-- Every lock vector of the barges accepted has reached its lock queue (R21). -/
def Dev.locksHold (d : Dev) (l : Layer) : Bool :=
  l.barges.all (fun x => x.dispatched || x.recs.all (fun v => v.r.type == 0 || v.r.single)) &&
    d.keeper.locks.all (fun q => q.wait.all (fun u => u.layer != l.num))

/-- The start thresholds are met, staging has room, and the table the layer names is loaded (R21, R361, R512).
DEDUCED (log entry 41). -/
def Dev.thresholdOk (d : Dev) (l : Layer) : Bool :=
  (List.range 16).all (fun b => match d.engineOf b with | some n => d.fencedUnit n || d.holdsStart l n b | none => true) &&
    d.locksHold l && decide (d.stagingBytes ≤ 16 * 2 ^ 20) && (d.table l.ptab).isSome

/-- The layer that is to start: its LAYER_START executes, and the previous layers have closed, one whose LAYER_START
has timed out among them (R110, R111). Open layers stand in the order of their numbers (R108). -/
def Dev.starting (d : Dev) : Option Layer :=
  match d.lay.opened with
  | l :: _ => if l.startReq.isSome && !l.started then some l else none
  | [] => none

/-- Dmax over the engines that have vectors in a layer (R110). -/
def Dev.layerDmax (d : Dev) (l : Layer) : Nat :=
  (List.range 16).foldl (fun m b => match d.engineOf b with
    | some n => if (l.recsFor b).isEmpty then m else Nat.max m (d.dmax n)
    | none => m) 0

/-- The layer-start tick is fixed on the first tick on which all conditions hold. -/
def Dev.checkStart (d : Dev) : Dev :=
  if d.mode.cur ≠ .build ∨ d.holding then d
  else match d.starting with
    | none => d
    | some l =>
      if l.startTick.isSome ∨ !(d.recoatOk l && d.thresholdOk l) ∨ d.grids.any (fun g => g.pending.isSome && g.due) then d
      else d.modLayer l.num (fun x => { x with startTick := some (d.tick + 401 + d.layerDmax l) })

/-- HEAD_MOOR commands all of whose ports are at mooring complete (R338). -/
def Dev.finishMoors (d : Dev) : Dev :=
  let there (b : Nat) : Bool :=
    let p := d.port b
    p.lx == d.moorOf b 0 && p.ly == d.moorOf b 1 && p.lz == d.moorOf b 2
  let ready (q : Req) : Bool := (bitList 16 q.a0.toNat).all there
  let done := d.scn.moors.filter ready
  let d := { d with scn := { d.scn with moors := d.scn.moors.filter (fun q => !ready q) } }
  done.foldl (fun d q => d.ok q 0 0 0 0) d

/-- The jogs of the engines that `p` picks end as `end_` says, and their moves with them. DEDUCED (log entry 73). -/
def Dev.endJogs (d : Dev) (p : Nat → Bool) (end_ : Req → Dev → Dev) : Dev :=
  let js := d.scn.jogs.filter (fun j => p j.2.1)
  let d := { d with scn := { d.scn with jogs := d.scn.jogs.filter (fun j => !p j.2.1) } }
  let d := js.foldl (fun d j =>
    let e := d.eng j.2.1
    let at_ := e.target d.tb3
    d.modEng j.2.1 (fun e => if e.runs.isEmpty then e else { e with runs := [], px := at_.1, py := at_.2 })) d
  js.foldl (fun d j => end_ j.1 d) d

/-- HEAD_JOGs whose engine has been fenced end; those whose move is over complete (R338). -/
def Dev.finishJogs (d : Dev) : Dev :=
  let d := d.endJogs (fun n => d.fencedUnit n) (fun q d => d.fail q stFenced 0)
  let moving (j : Req × Nat × Nat) : Bool := (d.eng j.2.1).runs.any (fun r => r.seq == j.2.2)
  let done := d.scn.jogs.filter (fun j => !moving j)
  let d := { d with scn := { d.scn with jogs := d.scn.jogs.filter moving } }
  done.foldl (fun d j => d.ok j.1 0 0 0 0) d

/-- DAC outputs that deviate on two consecutive ticks (R334). DEDUCED (log entry 39). -/
def Dev.dacCheck (d : Dev) (bad : BitVec 16) : Dev :=
  (List.range (nBeams d.variant)).foldl (fun d b =>
    if bad.getLsbD b then
      let d := d.modLaser b (fun l => { l with dac := l.dac + 1 })
      if (d.laser b).dac = 2 then d.fault 31 3 else d
    else d.modLaser b (fun l => { l with dac := 0 })) d

/-- The strobe of the next tick. -/
def Dev.strobe (d : Dev) (t : TickEnv) : Dev :=
  let m := d.tick + 1
  let d := d.advanceTo (m * perTick)
  let d := d.applyHold
  let d := (List.range (nBeams d.variant)).foldl (fun d b => d.setEmit b (d.sluice b)) d
  let d := (List.range 18).foldl (fun d n => if d.underruns n m then d.underrun n m else d) d
  let d := (List.range (nBeams d.variant)).foldl (fun d b => d.releaseBeam m b) d
  let d := (List.range 18).foldl (fun d n =>
    if (d.computing || d.scn.jogs.any (fun j => j.2.1 == n)) && !d.fencedUnit n && !(d.eng n).taking then d.engineTick n m else d) d
  ((d.dacCheck t.dac).finishMoors.finishJogs).checkStart

end Sys2Proof.Machine
end

