-- ==== Sys2Proof/Machine/Engines.lean ====
section
/-! DEFINITION. Beam engine commands beside plan, cut-off and strobe: outcomes, recomputes, island memory
errors, the finish limit and the safe point, takeover, fence lift, start wait, and the engine registers
(R42, R54, R93, R111, R136 to R142, R162, R164, R170, R484). -/

namespace Sys2Proof.Machine

/-! ## Outcomes (R93, R247) -/

/-- An engine's finished record is given its outcome; a peer's entry is reported to its owner (R380). -/
def Dev.reportDone (d : Dev) (x : Done) : Dev :=
  let k := x.i
  if x.unit.owner ≠ d.devId then
    d.sendTo x.unit.owner 0x16 [(x.unit.recs.getD k default).vecId, x.arc, x.t, x.status]
  else
    let split := x.unit.half.isSome && x.i == x.unit.splitAt
    d.giveOutcome x.unit x.i ⟨x.status, some x.beam, split, if split then x.unit.half.getD 0 else 0, x.arc, x.t, x.peerLost⟩

/-- Engine n reports its oldest outcome once the ledger holds the vector's energy (R247). -/
def Dev.nextOutcome (d : Dev) (n : Nat) : Dev :=
  match (d.eng n).done with
  | [] => d
  | x :: xs =>
    if !d.fencedUnit n && (d.eng n).owes x.seq then d
    else (d.modEng n (fun e => { e with done := xs })).reportDone x

/-! ## Residues and island memories (R42, R162, R164) -/

/-- The vector records an engine holds: those of its runs, then those of its queue, each a unit and a place in it. -/
def Engine.records (e : Engine) : List (WUnit × Nat) :=
  (e.runs.map (fun r => r.unit) ++ e.queue).flatMap (fun u => (List.range u.recs.length).map (fun k => (u, k)))

/-- The segment in planning: the record the next tick falls in, of the first run not planned to its end. -/
def Engine.segment (e : Engine) : Option (WUnit × Nat) :=
  match e.runs.find? (fun r => decide (e.next < r.endTick)) with
  | some r => some (r.unit, (r.arcAt (r.time (e.next * perTick))).1)
  | none => e.runs.getLast?.map (fun r => (r.unit, r.unit.recs.length - 1))

/-- Residue mismatches a segment has had. -/
def Engine.retriesOf (e : Engine) (k : Nat × Nat) : Nat :=
  ((e.retries.find? (fun p => p.1 == k)).map (fun p => p.2)).getD 0

/-- A segment is discarded: its entries leave the tick queue, with those behind them, and are computed again. -/
def Dev.discardSegment (d : Dev) (n : Nat) (k : Nat × Nat) : Dev :=
  let e := d.eng n
  let mine (x : TickEntry) : Bool := x.vec == k.2 && decide (d.tick + 1 < x.tick) &&
    e.runs.any (fun r => r.seq == x.seq && r.unit.layer == k.1)
  let keep := e.tickQ.takeWhile (fun x => !mine x)
  if keep.length = e.tickQ.length then d
  else d.modEng n (fun e => { e with
    tickQ := keep, next := match keep.getLast? with | some x => x.tick + 1 | none => d.tick + 1 })

/-- A residue mismatch on a record of engine n: its segment is recomputed twice, then it is a fault of the engine. -/
def Dev.mismatch (d : Dev) (n : Nat) (u : WUnit) (i : Nat) : Dev :=
  let k := u.segKey i
  let c := (d.eng n).retriesOf k
  if c < 2 then
    let d := (d.discardSegment n k).modEng n (fun e => { e with
      retries := (k, c + 1) :: e.retries.filter (fun p =>
        p.1 != k && e.records.any (fun x => x.1.segKey x.2 == p.1)) })
    (d.count (BE_CNT n 0) 1).fault (n + 2) 3
  else d.fault (n + 2) 4

/-- RESIDUE_MISMATCH: on the segment in planning; an engine that plans nothing has none. -/
def execResidueMismatch (n : Fin 18) (s : State) : Host.Outcome State Fault Refusal :=
  s.on (fun d =>
    if d.fencedUnit n then d.ghost n 1
    else match (d.eng n).segment with
      | some (u, i) => d.mismatch n u i
      | none => d)

/-- ISLAND_ECC_ERROR: corrected, in vector record k of those the engine holds, or in program memory or the tick queue
(R164). -/
def execIslandEccError (n : Fin 18) (kind : IslandEcc) (s : State) : Host.Outcome State Fault Refusal :=
  s.on (fun d =>
    match kind with
    | .corrected => d.fault (n + 2) 5
    | .record k =>
      if d.fencedUnit n then d.ghost n 1
      else match (d.eng n).records[k]? with
        | some (u, i) => d.mismatch n u i
        | none => d
    | .program => d.fault (n + 2) 6)

/-! ## Engine registers (R137, R170) -/

/-- A host write reaches engine n's block: the engine is present and not fenced (R9, R481). -/
def Dev.engBlock (d : Dev) (n : Nat) : Bool := decide (n < nEngines d.variant) && !d.fencedUnit n

/-- BEN_MAP_WRITE: a conflicting map is discarded (R137). -/
def execBenMapWrite (n : Fin 18) (val : Word) (s : State) : Host.Outcome State Fault Refusal :=
  s.whenUp (fun d =>
    let v := val &&& 0x8000011F
    if !d.engBlock n then d
    else if d.mode.cur ≠ .configure then (if v = d.rd (BE_MAP n) then d else d.refuse (BE_MAP n))
    else
      let b := v.get 0 5
      let taken := v.bit 31 && (List.range (nEngines d.variant)).any (fun m =>
        m != n.val && d.bit (BE_MAP m) 31 && d.fld (BE_MAP m) 0 5 == b)
      if nBeams d.variant ≤ b ∨ taken then d.setBit (BE_ERR n) 8 true else d.wr (BE_MAP n) v)

/-- RAMP_TABLE_WRITE: an entry is common to every present engine (R170). -/
def execRampTableWrite (n : Fin 18) (t : Fin 32) (i : Fin 33) (val : Word) (s : State) :
    Host.Outcome State Fault Refusal :=
  s.whenUp (fun d =>
    let v := Nat.min 0x8000 (val.get 0 16)
    if !d.engBlock n then d
    else if d.mode.cur ≠ .configure then
      if val.get 0 16 = d.fld (BE_RAMP n t i) 0 16 then d else d.refuse (BE_RAMP n t i)
    else (List.range (nEngines d.variant)).foldl (fun d m => d.wrN (BE_RAMP m t i) v) d)

/-- BEN_CNT_CLR. -/
def execBenCntClr (n : Fin 18) (val : Word) (s : State) : Host.Outcome State Fault Refusal :=
  s.whenUp (fun d => if d.engBlock n then d.clearCounts val ((List.range 3).map (BE_CNT n)) else d)

/-- MP_CNT_CLR. -/
def execMpCntClr (n : Fin 18) (val : Word) (s : State) : Host.Outcome State Fault Refusal :=
  s.whenUp (fun d => if d.engBlock n then d.clearCounts val ((List.range 4).map (BE_MP_CNT n)) else d)

/-! ## The run to the safe point (R54, R55) -/

/-- The unit that resumes a held vector at its stop point (R55). DEDUCED (log entry 42). -/
def Held.resume (h : Held) : WUnit :=
  let u := h.unit
  { u with
    recs := u.recs.drop h.i, idxs := u.idxs.drop h.i, startArc := h.arc * 2 ^ 24, resumed := true, lead := some (u.lead.getD u.vec)
    splitAt := u.splitAt - h.i }

/-- The tracks of a beam follow a run that was cut. -/
def Dev.retrack (d : Dev) (n : Nat) (r : Run) : Dev :=
  match d.beamOf n with
  | none => d
  | some b => d.modKeeper (fun k => { k with tracks := k.tracks.map (fun t =>
      if t.beam = d.gbeam b ∧ t.run.seq = r.seq then { t with run := r } else t) })

/-- A half 1 that has not started by the finish limit does not start any more. -/
def Dev.haltHalf (d : Dev) (n : Nat) : Dev :=
  if (d.eng n).runs.any (fun r => r.unit.half == some 1 && !r.started && !r.cut) then d.haltEngine n else d

/-- Engine n ends the emission of the vector it exposes at a TB3: it skywrites out and the vector is held, with the
event HELD where `told`. A vector that ends by itself before the limit is left alone. -/
def Dev.finishAt (d : Dev) (n ts : Nat) (told : Bool := true) : Dev :=
  match (d.eng n).runs.findIdx? (fun r => r.started && !r.ended && !r.cut && decide (ts < r.off)) with
  | none => d.haltHalf n
  | some i =>
    match (d.eng n).runs[i]? with
    | none => d
    | some r =>
      let sets := d.setsOf r.unit
      let (k, arc) := r.arcAt (r.time ts)
      let q := r.unit.recs.getD k default
      let lag := psSkyLag (sets.getD q.pset []) * sd / 1000000000
      let (c, short) := r.cutAt sets (d.beamGrids ((d.beamOf n).getD 0)).active ts lag
      let d := if short then d.fault (n + 2) 8 else d
      let (arc, d) := if q.type = 4 then (0, d) else d.wholeBu arc
      let d := d.modEng n (fun e => { e with
        runs := e.runs.set i c
        tickQ := e.tickQ.filter (fun x => decide (x.tick * perTick + perTick ≤ ts))
        next := Nat.min e.next (Nat.max (d.tick + 1) (ts / perTick)) })
      let d := d.retrack n c
      (if told then d.holdVector n r.unit k arc ts
        else d.modEng n (fun e => { e with held := e.held ++ [⟨r.unit, k, arc, ts⟩] })).haltHalf n

/-- FINISH_LIMIT_EXPIRY: FINISH_LIMIT has passed since the hold trigger. -/
def execFinishLimitExpiry (s : State) : Host.Outcome State Fault Refusal :=
  s.on (fun d =>
    if !d.holding ∨ !d.exposing then d
    else
      let ts := d.limitAt
      let d := (d.advanceTo ts).applyHold
      (List.range 18).foldl (fun d n => if d.fencedUnit n then d else d.finishAt n (Nat.max ts d.tb3)) d)

/-- Every engine has stopped. -/
def Dev.allStopped (d : Dev) : Bool :=
  (List.range 18).all (fun n => d.fencedUnit n || ((d.eng n).runs.all (fun r => !r.committed && !d.finishing r.unit) &&
    !(d.eng n).queue.any d.finishing))

/-- The mode becomes HOLD once every engine has stopped. A run to the end of the layer ends when the layer has
closed (R82). The MODE_SET that asked for it completes when the entry has. -/
def Dev.safePoint (d : Dev) : Dev :=
  if !d.mode.changing ∨ !d.exposing then d
  else
    let d := d.applyHold
    let ready := if d.mode.holdAtLayerEnd then d.running.isNone && d.allStopped else d.allStopped
    if !ready then d
    else
      let back (e : Engine) : Engine := { e with queue := (e.runs.map (fun r => r.unit)).filter (fun u => !u.recs.isEmpty) ++ e.queue, runs := [] }
      let d := { d with
        mode := { d.mode with changing := false, holdReq := none, holdAtLayerEnd := false, holdFrom := d.mode.cur }
        engines := d.engines.map (fun (e : Engine) => if e.runs.isEmpty then e else back e)
        lay := { d.lay with opened := d.lay.opened.map (fun (l : Layer) =>
          if l.started then l else { l with startTick := none }) } }
      let d := d.setMode .hold d.mode.holdTrig
      (List.range 16).foldl (fun d b => d.setEmit b false) d

/-! ## Takeover and fence lift (R140, R142, R484) -/

/-- The registers of a beam profile of an engine: page offset and word, where they differ from reset. -/
def Dev.profileOf (d : Dev) (n : Nat) : List (Nat × Word) :=
  let base := 0x80000 + n * 0x10000
  (d.regs.filter (fun p => decide (base + 0x1000 ≤ p.1) && decide (p.1 < base + 0x2000))).map
    (fun p => (p.1 - base, p.2))

/-- An engine's profile region becomes a copy. -/
def Dev.loadProfile (d : Dev) (n : Nat) (c : List (Nat × Word)) : Dev :=
  let base := 0x80000 + n * 0x10000
  let d := { d with regs := d.regs.filter (fun p => !(decide (base + 0x1000 ≤ p.1) && decide (p.1 < base + 0x2000))) }
  c.foldl (fun d p => d.wr (base + p.1) p.2) d

/-- SPARE_TAKEOVER_DONE: the spare that takes beam b over serves it from now on. -/
def execSpareTakeoverDone (b : Fin 16) (s : State) : Host.Outcome State Fault Refusal :=
  s.on (fun d =>
    match d.engineOf b with
    | none => d
    | some m =>
      if !(d.eng m).taking ∨ d.fencedUnit m then d
      else
        let d := match d.profiles.getD b none with | some c => d.loadProfile m c | none => d
        let old := d.eng (d.eng m).takeFrom
        let ts := (d.eng m).takeTick * perTick
        let at_ := old.target ts
        let z := match old.runAt ts with | some r => r.ramp (d.zRamp m) ts | none => old.focus
        let p := d.port b
        let d := d.modEng m (fun e => { e with
          taking := false, px := at_.1, py := at_.2, focus := z, next := d.tick + 1
          queue := e.queue.map (fun u => { u with reach := d.tick }), lx := p.lx, ly := p.ly, lz := p.lz
          stopping := d.holding })
        d.reportDry m)

/-- A fenced unit returns: its island is reset; an engine comes back unmapped, a spare (R142).
DEDUCED (log entry 43). -/
def Dev.liftFence (d : Dev) (u : Nat) : Dev :=
  let d := { d with flt := { d.flt with
    fenced := d.flt.fenced.filter (fun x => x != u)
    snaps := d.flt.snaps.filter (fun x => x.unit != u)
    ghosts := d.flt.ghosts.filter (fun x => x.unit != u) } }
  if u < 18 then
    let base := 0x80000 + u * 0x10000
    let inBlock (k : Nat) : Bool :=
      decide (base ≤ k) && decide (k < base + 0x10000) && !(decide (base + 0x2000 ≤ k) && decide (k < base + 0x4000))
    let d := { d with regs := d.regs.filter (fun p => !inBlock p.1) }
    (d.wr (BE_MAP u) 0x100).modEng u (fun _ => { (default : Engine) with next := d.tick + 1 })
  else d.modCams (u - 18) (fun (c : Cam) => { c with prevBad := true })

def cmdFenceLift : Cmd where
  check d q :=
    let u := q.a0.get 0 5
    firstFail (shape q [0x1F] none 0 ++
      [absentIf (decide (u < 18 ∧ nEngines d.variant ≤ u) ||
         decide (18 ≤ u ∧ u < 22) && !visEngPresent d.variant (u - 18)),
       d.modeIs q [.standby, .hold],
       limitIf (decide (22 ≤ u)) 0x0BFF, limitIf (!d.fencedUnit u) 0x0B04])
  effect q _ d := (d.liftFence (q.a0.get 0 5)).ok q 0 0 0 0

/-- FENCE_LIFT. -/
def execFenceLift (r : Req) (e : Env) (s : State) : Host.Outcome State Fault Refusal :=
  s.command 0x0B04 cmdFenceLift r e

/-! ## The start wait (R111) -/

/-- START_WAIT_TIMEOUT: conditions 2 and 3 did not both hold in time; the layer stays open. DEDUCED (log entry 41). -/
def execStartWaitTimeout (s : State) : Host.Outcome State Fault Refusal :=
  s.on (fun d =>
    match d.starting with
    | none => d
    | some l =>
      if l.startTick.isSome ∨ (d.recoatOk l && d.thresholdOk l) ∨ d.mode.cur ≠ .build then d
      else
        let d' := d.modLayer l.num (fun x => { x with startReq := none, startTick := none })
        match l.startReq with
        | none => d'
        | some q => d'.complete q stTimeout 0x0207
            (words4 (bitOf (!d.recoatOk l) + 2 * bitOf (!d.thresholdOk l)) 0 0 0))

end Sys2Proof.Machine
end

