-- ==== Sys2Proof/Machine/Image.lean ====
section
/-! DEFINITION. The image pipeline on one frame: its stages, the features and the statistics
(R295 to R299, R271, R272). An image is a list of rows of samples; a row may be short. -/

namespace Sys2Proof.Machine

abbrev Image := List (List Nat)

/-- The sample at a row and a column, where it was received. -/
def Image.at_ (m : Image) (r c : Int) : Option Nat :=
  if r < 0 ∨ c < 0 then none else (m[r.toNat]?).bind (fun row => row[c.toNat]?)

/-- Every sample changed by its place and value. -/
def Image.map2 (m : Image) (f : Nat → Nat → Nat → Nat) : Image :=
  m.mapIdx (fun r row => row.mapIdx (fun c v => f r c v))

/-- The 8 same-colour neighbours at distance k that exist (R296). -/
def Image.near (m : Image) (k r c : Nat) : List Nat :=
  ([-1, 0, 1].flatMap (fun (i : Int) => [-1, 0, 1].map (fun (j : Int) => (i, j)))).filterMap
    (fun p => if p.1 = 0 ∧ p.2 = 0 then none else m.at_ (r + p.1 * k) (c + p.2 * k))

/-- Truncated mean; zero of nothing. -/
def mean (l : List Nat) : Nat := if l.isEmpty then 0 else l.sum / l.length

/-- Stage 1. -/
def stageBlack (black : Nat) (m : Image) : Image := m.map2 (fun _ _ v => v - black)

/-- Stage 2: replacement from the samples before it. DEDUCED (log entry 47). -/
def stageDefect (k : Nat) (listed : List (Nat × Nat)) (dyn : Bool) (th : Nat) (m : Image) : Image :=
  m.map2 (fun r c v =>
    let ns := m.near k r c
    let odd := dyn && !ns.isEmpty &&
      (decide (ns.foldl Nat.max 0 + th < v) || decide (v + th < ns.foldl Nat.min 65535))
    if listed.contains (c, r) || odd then
      let lr := (m.at_ r ((c : Int) - k)).toList ++ (m.at_ r ((c : Int) + k)).toList
      if lr.isEmpty then v else mean lr
    else v)

/-- Stage 3. -/
def stageSpatial (k th str : Nat) (m : Image) : Image :=
  m.map2 (fun r c v =>
    let ns := (m.near k r c).filter (fun (n : Nat) => decide (((n : Int) - (v : Int)).natAbs ≤ th))
    let a := mean (v :: ns)
    ((v : Int) + Int.fdiv (((a : Int) - v) * str) 256).toNat)

/-- Stage 4: y_prev is v where the filter has been reset. -/
def stageTemporal (k : Nat) (prev : Image) (m : Image) : Image :=
  m.map2 (fun r c v =>
    let y := (prev.at_ r c).getD v
    ((y : Int) + Int.fdiv (((v : Int) - y) * k) 256).toNat)

/-! ## Colour stages of a bed port -/

/-- The Bayer channel of a place: 0 R, 1 Gr, 2 Gb, 3 B (R298). -/
def bayer (pat r c : Nat) : Nat :=
  let x := if pat = 1 then c + 1 else if pat = 2 then c else if pat = 3 then c + 1 else c
  let y := if pat = 2 then r + 1 else if pat = 3 then r + 1 else r
  2 * (y % 2) + x % 2

/-- Stages 5a to 8a of one pixel. The two colours that the pixel did not sample are interpolated over a
5 × 5 window by weights no rule gives: `f` supplies them (log entry 2). -/
def colour (ch v f1 f2 : Nat) : List Nat :=
  if ch = 0 then [v, f1, f2] else if ch = 3 then [f1, f2, v] else [f1, v, f2]

/-- Stage 6a. -/
def whiteBalance (gains rgb : List Nat) : List Nat :=
  List.zipWith (fun g v => Nat.min 65535 (g * v / 4096)) gains rgb

/-- Stage 7a: nine coefficients, signed Q4.12. -/
def colourMatrix (m : List Int) (rgb : List Nat) : List Nat :=
  (List.range 3).map (fun r =>
    let s := ((List.range 3).map (fun c => m.getD (3 * r + c) 0 * ((rgb.getD c 0 : Nat) : Int))).sum
    (clampInt 0 65535 (Int.fdiv s 4096)).toNat)

/-- Stage 8a: 33 points. -/
def tone (pts : List Nat) (v : Nat) : Nat :=
  let i := v / 2048
  let a : Int := pts.getD i 0
  let b : Int := pts.getD (i + 1) 0
  (a + Int.tdiv ((b - a) * (v % 2048 : Nat)) 2048).toNat

/-! ## Features (R272) -/

/-- The pixels of a set that touch one of `front`, 8-connected. -/
def touching (front set : List (Nat × Nat)) : List (Nat × Nat) :=
  set.filter (fun p => front.any (fun q =>
    decide (((p.1 : Int) - q.1).natAbs ≤ 1) && decide (((p.2 : Int) - q.2).natAbs ≤ 1)))

/-- Growth of a component from its newest pixels: the component and the pixels left. -/
def growBlob : Nat → List (Nat × Nat) → List (Nat × Nat) → List (Nat × Nat) → List (Nat × Nat) × List (Nat × Nat)
  | 0, blob, _, rest => (blob, rest)
  | n + 1, blob, front, rest =>
    let new := touching front rest
    if new.isEmpty then (blob, rest)
    else growBlob n (blob ++ new) new (rest.filter (fun p => !new.contains p))

/-- The 8-connected components of a set of pixels. -/
def blobs : Nat → List (Nat × Nat) → List (List (Nat × Nat))
  | 0, _ => []
  | _, [] => []
  | n + 1, p :: ps =>
    let (b, rest) := growBlob (ps.length + 1) [p] [p] ps
    b :: blobs n rest

/-- The pool mask: the largest component. Which of several of one size it is the spec leaves open: `pick`
chooses. -/
def poolMask (pick : Nat) (bs : List (List (Nat × Nat))) : List (Nat × Nat) :=
  let top := (bs.map List.length).foldl Nat.max 0
  let best := bs.filter (fun b => b.length == top)
  best.getD (pick % Nat.max 1 best.length) []

/-- A quantity in Q12.4 from a value scaled by 2^16, rounded as the free bit says where it is inexact.
DESIGN CHOICE (log entry 46). -/
def q124 (x : Nat) (exact : Bool) (up : Nat) : Nat :=
  Nat.min 65535 (x / 65536 + (if exact then 0 else up % 2))

/-- 16 × 4 × √λ for the larger (sign true) and smaller eigenvalue of the covariance of the coordinates,
scaled by 2^16, and whether that is exact. -/
def axisLen (ps : List (Nat × Nat)) (major : Bool) : Nat × Bool :=
  let n : Int := ps.length
  let sum (f : Nat × Nat → Int) : Int := (ps.map f).sum
  let sx := sum (fun p => p.2); let sy := sum (fun p => p.1)
  let a := n * sum (fun p => p.2 * p.2) - sx * sx
  let b := n * sum (fun p => p.1 * p.1) - sy * sy
  let c := n * sum (fun p => p.2 * p.1) - sx * sy
  let root : Int := isqrt ((((a - b) * (a - b) + 4 * c * c) * 2 ^ 64).toNat)
  let s := (a + b) * 2 ^ 32
  let x := (2048 * (if major then s + root else s - root) / (n * n)).toNat
  let l := isqrt x
  (l, decide (l * l = x) && decide (l % 65536 = 0))

/-- The features of a melt-pool frame over its region of interest: the fields of R271 from AREA on, and
VALID, PEAK_SAT and ROI_EDGE. `input` holds the samples before black level. DESIGN CHOICE (log entry 46). -/
def features (bits thresh minBlob row col rows cols : Nat) (input img : Image) (free : Nat → Nat) :
    Nat × Nat × List Byte :=
  let sh := 16 - bits
  let inRoi (r c : Nat) : Bool :=
    decide (row ≤ r) && decide (r < row + rows) && decide (col ≤ c) && decide (c < col + cols)
  let places (m : Image) : List (Nat × Nat × Nat) :=
    (m.mapIdx (fun r l => l.mapIdx (fun c v => (r, c, v >>> sh)))).flatten.filter (fun p => inRoi p.1 p.2.1)
  let peak := ((places input).map (fun p => p.2.2)).foldl Nat.max 0
  let hot := ((places img).filter (fun p => decide (thresh ≤ p.2.2))).map (fun p => (p.1, p.2.1))
  let bs := blobs (hot.length + 1) hot
  let pool := poolMask (free 0) bs
  let n := pool.length
  let others := bs.filter (fun b => decide (minBlob ≤ b.length))
  let nOther := others.length - (if decide (minBlob ≤ n) && decide (n ≠ 0) then 1 else 0)
  let edge := pool.any (fun p => p.1 == row || p.1 + 1 == row + rows || p.2 == col || p.2 + 1 == col + cols)
  let cen (f : Nat × Nat → Nat) (k : Nat) : Nat :=
    let s := 16 * (pool.map f).sum
    if n = 0 then 0 else q124 (s / n * 65536) (s % n == 0) (free k)
  let len (major : Bool) (k : Nat) : Nat :=
    if n = 0 then 0 else let (l, ex) := axisLen pool major; q124 l ex (free k)
  (bitOf (decide (n ≠ 0)) + 8 * bitOf (decide (peak = 2 ^ bits - 1)) + 16 * bitOf edge, n,
    leBytes 2 n ++ leBytes 2 peak ++ leBytes 2 (cen (fun p => p.2) 1) ++ leBytes 2 (cen (fun p => p.1) 2)
      ++ leBytes 2 (len true 3) ++ leBytes 2 (len false 4) ++ leBytes 1 (Nat.min 255 nOther) ++ [0, 0, 0])

/-! ## Statistics (R298, R299) -/

/-- 256 bin counts by v >> 8. -/
def histogram (m : Image) : List Nat :=
  m.flatten.foldl (fun h v => modAt h (v / 256) (· + 1)) (List.replicate 256 0)

/-- The zone index of a place along one direction: equal zones, the last takes the remainder. -/
def zoneOf (size n i : Nat) : Nat := Nat.min (n - 1) (i / Nat.max 1 (size / n))

/-- The averages of every zone, row-major: one value, or one for each Bayer channel. -/
def zones (z chans pat width height : Nat) (m : Image) : List Nat :=
  let all := (m.mapIdx (fun r l => l.mapIdx (fun c v =>
    ((zoneOf height z r * z + zoneOf width z c) * chans + (if chans = 1 then 0 else bayer pat r c), v)))).flatten
  let acc := all.foldl (fun a p => modAt a p.1 (fun (q : Nat × Nat) => (q.1 + p.2, q.2 + 1)))
    (List.replicate (z * z * chans) (0, 0))
  acc.map (fun q => q.1 / Nat.max 1 q.2)

end Sys2Proof.Machine
end

