-- ==== Sys2Proof/Machine/Vision.lean ====
section
/-! DEFINITION. Camera ports: triggers, frames, settings changes and their commands (R289 to R312). -/

namespace Sys2Proof.Machine

/-! ## Ports -/

/-- The unit number of the vision engine that serves a port (R480). -/
def camUnit (p : Nat) : Nat := 18 + camEngine p

/-- Bits of a pixel code: RAW8, RAW10 or RAW12. -/
def Dev.camBits (d : Dev) (p : Nat) : Nat := 8 + 2 * (d.fld (VIS_PORT_CFG p) 0 6 - 0x2A)

def Dev.camWidth (d : Dev) (p : Nat) : Nat := d.fld (VIS_PORT_SIZE p) 0 16
def Dev.camHeight (d : Dev) (p : Nat) : Nat := d.fld (VIS_PORT_SIZE p) 16 16
def Dev.camMode (d : Dev) (p : Nat) : Nat := d.fld (VIS_PORT_TRIG p) 30 2

/-- A frame or frame-start timeout in time-stamp ticks: µs on melt-pool ports, ms on bed ports. -/
def camTmo (p v : Nat) : Nat := v * (if p < 16 then perUs else perMs)

/-- The check of R312 on entry to STANDBY: the port's configuration against R290 and R294. -/
def Dev.camPortOk (d : Dev) (p : Nat) : Bool :=
  let lanes := d.fld (VIS_PORT_CFG p) 8 4
  let dt := d.fld (VIS_PORT_CFG p) 0 6
  let w := d.camWidth p
  let h := d.camHeight p
  decide (0x2A ≤ dt) && decide (dt ≤ 0x2C) && (lanes == 1 || lanes == 2 || (decide (16 ≤ p) && lanes == 4)) &&
    (if p < 16 then
      decide (8 ≤ w ∧ w ≤ 256 ∧ 8 ≤ h ∧ h ≤ 256) &&
        decide (ceilDiv (w * h * 625) 128 ≤ (d.rd (VIS_PORT_PERIOD p)).toNat)
    else decide (64 ≤ w ∧ w ≤ 8192 ∧ 64 ≤ h ∧ h ≤ 8192 ∧ w % 2 = 0 ∧ h % 2 = 0 ∧ w * h ≤ 25000000))

/-- Entry to STANDBY from CONFIGURE: every enabled port that passes its check goes on. -/
def Dev.camChecks (d : Dev) : Dev :=
  (List.range 20).foldl (fun d p =>
    let en := visPresent d.variant p && d.bit (VIS_PORT_CFG p) 31
    let good := en && d.camPortOk p
    (d.setBit VIS_CFG_BAD p (en && !good)).modCam p (fun (c : Cam) => { c with on := good })) d

/-- Entry to CONFIGURE: every port is off. -/
def Dev.camsOff (d : Dev) : Dev :=
  (List.range 20).foldl (fun d p => d.modCam p (fun (c : Cam) => { c with on := false, delayed := false, dueAt := none })) d

/-- The tag that frame m carries (R303). DEDUCED (log entry 47). -/
def Cam.tagAt (c : Cam) (m : Nat) : Nat :=
  (c.changes.filter (fun g => match g.eff with | some f => decide (f ≤ m) | none => false)).foldl
    (fun _ g => g.tag) c.tag

/-- VIS_PORTp_SEQ and VIS_PORTp_TAG. -/
def Dev.camRegs (d : Dev) (p : Nat) (last : Nat) : Dev :=
  d.wrN (VIS_PORT_TAG p) ((d.cam p).tagAt (d.cam p).seq * 65536 + last)

def Dev.camSync (d : Dev) (p : Nat) : Dev := d.camRegs p (d.fld (VIS_PORT_TAG p) 0 16)

/-- A NOTE-class fault of R306, at most once per port per second. -/
def Dev.camFault (d : Dev) (p cause : Nat) : Dev :=
  let due := match bankGet (d.cam p).faultAt cause with
    | some t => decide (t + 1000 * perMs ≤ d.tb3)
    | none => true
  if due then (d.modCam p (fun (c : Cam) => { c with faultAt := bankSet c.faultAt cause d.tb3 })).fault 26 cause
  else d

/-! ## Settings changes (R301 to R304) -/

/-- The effective frames that can be told: each change waits for every earlier one, and takes the greater
frame, which is no earlier than that of the next trigger, `m` (R302). -/
def settleChanges (m : Nat) : List Change → List Change
  | [] => []
  | g :: gs =>
    match g.eff, g.raw with
    | some f, _ => g :: settleChanges f gs
    | none, none => g :: gs
    | none, some f => let f := Nat.max f m; { g with eff := some f } :: settleChanges f gs

/-- Effective frames are settled, and the commands that waited for theirs complete. -/
def Dev.settleCam (d : Dev) (p : Nat) : Dev :=
  let old := (d.cam p).changes
  let new := settleChanges (d.cam p).seq old
  let d := d.modCam p (fun (c : Cam) => { c with changes := new })
  let told := (List.zip old new).filter (fun q => q.1.eff.isNone && q.2.eff.isSome && q.2.tag != 0xFFFF)
  (told.foldl (fun d q => d.ok q.2.req (q.2.eff.getD 0 % 2 ^ 32) 0 0 0) d).camSync p

/-- The changes whose effective frame is m or earlier take effect: the tag, the shadow and the list. -/
def Dev.applyChanges (d : Dev) (p m : Nat) : Dev :=
  let due := (d.cam p).changes.takeWhile (fun g => match g.eff with | some f => decide (f ≤ m) | none => false)
  due.foldl (fun d g =>
    let d := g.writes.foldl (fun d w => d.wr w.1 w.2) d
    d.modCam p (fun (c : Cam) => { c with
      changes := c.changes.drop 1, tag := g.tag, defects := g.defects.getD c.defects })) d

/-! ## Triggers (R292 to R294) -/

/-- The next scheduled instant of a periodic port that is not past. -/
def Dev.schedNext (d : Dev) (p : Nat) : Option Nat :=
  let per := (d.rd (VIS_PORT_PERIOD p)).toNat * 16
  let ph := (d.rd (VIS_PORT_PHASE p)).toNat * 16
  let from_ := Nat.max d.tb3 (d.cam p).schedFrom
  let m := d.camMode p
  if m = 2 ∨ (m = 3 ∧ p < 16) then
    if per = 0 then none else some (ph + ceilDiv (from_ - ph) per * per)
  else if m = 3 then (d.cam p).dueAt.filter (fun t => decide (d.tb3 ≤ t))
  else none

/-- The port issues scheduled triggers now (R309). -/
def Dev.schedOn (d : Dev) (p : Nat) : Bool :=
  (d.cam p).on && !d.fencedUnit (camUnit p) &&
    (match d.mode.cur with
    | .calibrate | .build | .hold | .service => true
    | .safe => d.camMode p == 2 || decide (16 ≤ p)
    | _ => false)

/-- The port issues host triggers now (R309). -/
def Dev.hostTrigOn (d : Dev) (p : Nat) : Bool :=
  (d.cam p).on && !d.fencedUnit (camUnit p) &&
    (match d.mode.cur with
    | .standby | .calibrate | .build | .hold | .service => true
    | .safe => d.camMode p == 1
    | _ => false)

/-- A melt-pool port in mode 3 triggers only while its beam emits inside a commit unit (R292). -/
def Dev.trigWanted (d : Dev) (p : Nat) : Bool :=
  if p < 16 ∧ d.camMode p = 3 then
    (d.scn.lasers.getD p default).emit &&
      (match d.engineOf p with
      | some n => (d.eng n).runs.any (fun r => r.started && !r.ended)
      | none => false)
  else true

/-- Jobs of the port's controller for this port, whose write is in progress, or holds the triggers.
DEDUCED (log entry 48). -/
def Dev.camWriting (d : Dev) (p : Nat) : Bool :=
  (d.vis.i2c.getD (camEngine p) []).any (fun j => j.port == p && (j.started || j.hold))

/-- A write without HOLD_TRIG runs past the instant: it delays the trigger (R301). -/
def Dev.camDelays (d : Dev) (p : Nat) : Bool :=
  (d.vis.i2c.getD (camEngine p) []).any (fun j => j.port == p && j.started && !j.hold)

/-- The first instant at which R294 lets the port trigger after its last frame. -/
def Dev.camFree (d : Dev) (p : Nat) : Nat :=
  match (d.cam p).lastEnd with
  | none => 0
  | some t => t + d.fld (VIS_PORT_TMO p) 0 8 * perUs

/-- The next CAM_TRIGGER frame: its instant, where nothing prevents it. -/
def Dev.hostNext (d : Dev) (p : Nat) : Option Nat :=
  if !d.hostTrigOn p || (d.cam p).frame.isSome || d.camWriting p then none
  else ((d.cam p).hosts.find? (fun h => decide (0 < h.left))).map
    (fun h => Nat.max d.tb3 (Nat.max h.nextAt (d.camFree p)))

/-- A trigger: the pulse, the sequence number, the shadow commit, the tag in force, and a bed port's
strobe request (R292, R293, R303, R307). -/
def Dev.fireTrigger (d : Dev) (p : Nat) (host : Bool) : Dev :=
  let m := (d.cam p).seq
  let d := d.applyChanges p m
  let c := d.cam p
  let reset := c.prevBad || c.tag != c.prevTag
  let probe := host && (match c.hosts.find? (fun h => decide (0 < h.left)) with
    | some h => h.req.isNone
    | none => false)
  let f : Frame := ⟨m % 2 ^ 32, d.tb3, c.tag, d.mode.cur, false, false, false, false, reset, probe, []⟩
  let taps := c.tapReqs
  let open_ := d.tb3 + d.fld (VIS_PORT_STROBE p) 0 12 * perUs
  let strobe := decide (16 ≤ p) && d.bit (VIS_PORT_STROBE p) 31 && !d.safeState
  let d := d.modCam p (fun (c : Cam) => { c with
    seq := m + 1, frame := some f, tapReqs := []
    tap := taps.foldl (fun _ t => t.2) c.tap
    strobes := if strobe then c.strobes ++ [(open_, open_ + d.fld (VIS_PORT_STROBE p) 12 12 * perUs)] else c.strobes })
  let d := if host then d.modCam p (fun (c : Cam) =>
      match c.hosts.findIdx? (fun h => decide (0 < h.left)) with
      | none => c
      | some i => { c with hosts := modAt c.hosts i (fun h => { h with
          left := h.left - 1, nextAt := d.tb3 + h.spacing, first := some (h.first.getD (m % 2 ^ 32)), last := m % 2 ^ 32 }) })
    else d
  let d := d.send (.trigger p d.tb3 (d.fld (VIS_PORT_TRIG p) 0 16) (d.bit (VIS_PORT_TRIG p) 29))
  let d := d.wrN (VIS_PORT_SEQ p) m
  let d := taps.foldl (fun d t => d.ok t.1 0 0 0 0) d
  d.camRegs p c.tag

/-- R294 prevents a trigger of the port now, but for a write in progress. -/
def Dev.camHeld (d : Dev) (p : Nat) : Bool :=
  (d.cam p).frame.isSome || decide (d.tb3 < d.camFree p) ||
    (d.vis.i2c.getD (camEngine p) []).any (fun j => j.port == p && j.hold)

/-- A scheduled instant comes: the trigger is issued, suppressed, or delayed by a sensor write. -/
def Dev.schedTrigger (d : Dev) (p t : Nat) : Dev :=
  let d := d.advanceTo t
  let d := d.modCam p (fun (c : Cam) => { c with schedFrom := t + 1, dueAt := none })
  if !d.trigWanted p then d
  else if d.camHeld p then d.count (VIS_PORT_CNT p 0) 1
  else if d.camDelays p then (d.count (VIS_PORT_CNT p 0) 1).modCam p (fun (c : Cam) => { c with delayed := true })
  else d.fireTrigger p false

/-- A write of the shadow falls in the VIS cycle of a trigger that comes now: 20 time-stamp ticks, at 800 MHz (R28,
R303). DEDUCED (log entry 48). -/
def Dev.trigNow (d : Dev) (p : Nat) : Bool :=
  let same (o : Option Nat) : Bool := match o with | some t => t / 20 == d.tb3 / 20 | none => false
  (d.schedOn p && same (d.schedNext p) && d.trigWanted p && !d.camHeld p && !d.camDelays p) || same (d.hostNext p)

/-- CAMERA_TRIGGER: the next trigger instant of port p comes, scheduled or of a CAM_TRIGGER. -/
def execCameraTrigger (p : Fin 20) (s : State) : Host.Outcome State Fault Refusal :=
  s.on (fun d =>
    match (if d.schedOn p then d.schedNext p else none), d.hostNext p with
    | some t, some h => if h ≤ t then (d.advanceTo h).fireTrigger p true else d.schedTrigger p t
    | some t, none => d.schedTrigger p t
    | none, some h => (d.advanceTo h).fireTrigger p true
    | none, none => d)

/-- The layer-boundary recoat sequence is complete: bed ports in layer mode will trigger (R292). -/
def Dev.layerTriggers (d : Dev) : Dev :=
  (List.range 20).foldl (fun d p =>
    if 16 ≤ p ∧ d.camMode p = 3 then
      d.modCam p (fun (c : Cam) => { c with dueAt := some (d.tb3 + d.fld (VIS_PORT_STROBE p) 24 7 * perMs) })
    else d) d

/-! ## Frames (R291, R295 to R300, R306) -/

/-- CSI_FRAME_START: the frame of an open trigger begins; with no open frame it is unsolicited. -/
def execCsiFrameStart (p : Fin 20) (s : State) : Host.Outcome State Fault Refusal :=
  s.on (fun d =>
    if !visPresent d.variant p || d.fencedUnit (camUnit p) || !(d.cam p).on && (d.cam p).frame.isNone then d
    else match (d.cam p).frame with
    | some f => d.modCam p (fun (c : Cam) => { c with frame := some { f with started := true } })
    | none =>
      ((d.modCam p (fun (c : Cam) => { c with unsol := true })).count (VIS_PORT_DISC_CNT p) 1).camFault p 8)

/-- A packet of an open frame is received (R291, R306). DEDUCED (log entry 47). -/
def Frame.packet (f : Frame) (width height : Nat) (good : Bool) (crcErr : Bool) (px : List Nat) : Frame :=
  if !good then { f with trunc := true, crcErr := f.crcErr || crcErr }
  else if height ≤ f.rows.length then { f with ovr := true }
  else { f with
    rows := f.rows ++ [px.take width]
    trunc := f.trunc || decide (px.length < width)
    ovr := f.ovr || decide (width < px.length) }

/-- CSI_LONG_PACKET. -/
def execCsiLongPacket (p : Fin 20) (k : CsiPacket) (s : State) : Host.Outcome State Fault Refusal :=
  s.on (fun d =>
    let other := k.vc != 0 || k.dt != d.fld (VIS_PORT_CFG p) 0 6
    let bad := k.hdrBad || k.crcBad
    if !visPresent d.variant p || d.fencedUnit (camUnit p) || !(d.cam p).on && (d.cam p).frame.isNone then d
    else
      let d := if other || bad then d.count (VIS_PORT_DISC_CNT p) 1 else d
      match (d.cam p).frame with
      | none => d
      | some f =>
        let px := k.px.map (fun v => v % 2 ^ d.camBits p)
        d.modCam p (fun (c : Cam) => { c with
          frame := some (f.packet (d.camWidth p) (d.camHeight p) (!(other || bad)) bad px) }))

/-- A tap record of `n` lines from line `first` (R300). Samples of a short line that were not received
are free. -/
def tapRecord (f : Frame) (p point width samples first : Nat) (last : Bool) (lines : List (List Nat))
    (pad : Nat → Nat) : List Byte :=
  leBytes 8 f.trig ++ leBytes 4 f.seq ++ leBytes 2 f.tag ++ leBytes 1 p ++ leBytes 1 point
    ++ leBytes 2 first ++ leBytes 2 lines.length ++ leBytes 2 width ++ leBytes 1 samples
    ++ leBytes 1 (bitOf last + 2 * bitOf f.trunc + 4 * bitOf f.ovr)
    ++ leBytes 4 (64 + lines.length * width * samples * 2) ++ List.replicate 36 0
    ++ lines.flatMap (fun l => (l ++ (List.range (width * samples - l.length)).map pad).flatMap (leBytes 2))

/-- The tap records of a frame, `k` lines each. DESIGN CHOICE (log entry 46). -/
def tapRecords (f : Frame) (p point width samples k : Nat) (pad : Nat → Nat) :
    Nat → Nat → List (List Nat) → List (List Byte × Bool)
  | 0, _, _ => []
  | n + 1, first, ls =>
    if ls.isEmpty then []
    else
      let last := decide (ls.length ≤ k)
      (tapRecord f p point width samples first last (ls.take k) pad, last) ::
        tapRecords f p point width samples k pad n (first + k) (ls.drop k)

/-- `n` free values are taken: a function that gives them by number. DESIGN CHOICE (log entry 2). -/
def Dev.freeFn (d : Dev) (n : Nat) : (Nat → Nat) × Dev :=
  let base := d.freeCtr
  (fun i => (Config.free (base + i)).toNat, { d with freeCtr := d.freeCtr + n })

/-- Stages 5a to 7a, and 8a where `toned`, of every pixel of a bed port, three samples each.
DESIGN CHOICE (log entry 46). -/
def Dev.colourRows (d : Dev) (p : Nat) (toned : Bool) (free : Nat → Nat) (img : Image) : Image :=
  let b := p - 16
  let pat := d.fld (VIS_PORT_CFG p) 12 2
  let w := d.camWidth p
  let gains := [d.fld (VIS_P_WB_RG b) 0 16, d.fld (VIS_P_WB_RG b) 16 16, d.fld (VIS_P_WB_B b) 0 16]
  let ccm := (List.range 9).map (fun i => signed 16 (d.fld (VIS_P_CCM b i) 0 16))
  let pts := (List.range 33).map (fun i => d.fld (VIS_P_TONE b i) 0 16)
  img.mapIdx (fun r row => (row.mapIdx (fun c v =>
    let i := 2 * (r * w + c)
    let rgb := colour (bayer pat r c) v (free i % 65536) (free (i + 1) % 65536)
    let rgb := colourMatrix ccm (whiteBalance gains rgb)
    if toned then rgb.map (tone pts) else rgb)).flatten)

/-- The tapped frame goes out (R300). -/
def Dev.sendTap (d : Dev) (p : Nat) (f : Frame) (input img : Image) : Dev :=
  let t := (d.cam p).tap
  if !t.on || f.seq % Nat.max 1 t.every != 0 || f.mode == .safe || d.wdDone then d
  else
    let w := d.camWidth p
    let (free, d) := d.freeFn (2 * w * d.camHeight p + w * 3)
    let rows := match t.point with
      | 0 => input | 1 => img | 2 => d.colourRows p false free img | _ => d.colourRows p true free img
    let samples := if 2 ≤ t.point then 3 else 1
    let pad (i : Nat) : Nat := free (2 * w * d.camHeight p + i) % 65536
    (tapRecords f p t.point w samples (Nat.max 1 t.lines) pad rows.length 0 rows).foldl
      (fun d r => d.stream 5 p r.1 r.2) d

/-- The input samples of a frame on the 16-bit scale (R295). -/
def Dev.inputImage (d : Dev) (p : Nat) (f : Frame) : Image :=
  f.rows.map (fun row => row.map (fun v => v * 2 ^ (16 - d.camBits p)))

/-- Stages 1 to 4 (R296). -/
def Dev.stages (d : Dev) (p : Nat) (f : Frame) (input : Image) : Image :=
  let k := if p < 16 then 1 else 2
  let m := stageBlack (d.fld (VIS_P_BLACK p) 0 16) input
  let m := stageDefect k (d.cam p).defects (d.bit (VIS_P_DPC p) 31) (d.fld (VIS_P_DPC p) 0 16) m
  let m := if d.bit (VIS_P_NR p) 30 then
      stageSpatial k (d.fld (VIS_P_NR p) 0 8 * 256) (d.fld (VIS_P_NR p) 8 8) m else m
  let tk := d.fld (VIS_P_NR p) 16 8
  if d.bit (VIS_P_NR p) 31 then
    stageTemporal (if tk = 0 then 256 else tk) (if f.tnrReset then [] else (d.cam p).prev) m
  else m

/-- The statistics record (R299). DEDUCED (log entry 47). -/
def Dev.sendStats (d : Dev) (p : Nat) (f : Frame) (missing : Bool) (img : Image) : Dev :=
  let z := if p < 16 then 8 else 16
  let ch := if p < 16 then 1 else 4
  let len := if p < 16 then 1200 else 3120
  let flags := bitOf (!f.trunc && !missing) + 2 * bitOf f.trunc + 4 * bitOf f.ovr + 8 * bitOf missing
    + 16 * bitOf f.crcErr + 32 * bitOf f.tnrReset
  if d.wdDone then d else d.stream 4 p (leBytes 8 f.trig ++ leBytes 8 d.tb3 ++ leBytes 4 f.seq ++ leBytes 2 f.tag ++ leBytes 1 p
    ++ leBytes 1 flags ++ leBytes 2 f.rows.length ++ leBytes 1 z ++ leBytes 1 z ++ leBytes 1 ch
    ++ List.replicate 3 0 ++ leBytes 4 len ++ List.replicate 12 0
    ++ (histogram img).flatMap (leBytes 4)
    ++ (zones z ch (d.fld (VIS_PORT_CFG p) 12 2) (d.camWidth p) (d.camHeight p) img).flatMap (leBytes 2)) false

/-- A probe's frame joins the sums of the probe in progress on its beam (R190). -/
def Dev.probeFrame (d : Dev) (p area : Nat) (cx cy : Nat) : Dev :=
  { d with probes := d.probes.map (fun (j : ProbeJob) =>
    if j.asked && decide (0 < j.left) && (match j.todo with | t :: _ => t.beam == p | [] => false) then
      { j with
        left := j.left - 1
        used := if area = 0 then j.used else j.used + 1
        sumX := if area = 0 then j.sumX else j.sumX + cx
        sumY := if area = 0 then j.sumY else j.sumY + cy }
    else j) }

/-- The feature record goes to the stream, and in the modes of R309 to the beam's engine (R271, R275,
R297). -/
def Dev.sendFeatures (d : Dev) (p : Nat) (f : Frame) (input img : Image) : Dev :=
  if 16 ≤ p ∨ f.mode = .safe ∨ d.wdDone then d
  else
    let (free, d) := d.freeFn 5
    let row := d.fld (VIS_P_ROI_POS p) 16 16
    let col := d.fld (VIS_P_ROI_POS p) 0 16
    let (fl, area, tail) := features (d.camBits p) (d.fld (VIS_P_THRESH p) 0 16) (d.fld (VIS_P_THRESH p) 16 16)
      row col (Nat.min (d.fld (VIS_P_ROI_SIZE p) 16 16) (d.camHeight p - row))
      (Nat.min (d.fld (VIS_P_ROI_SIZE p) 0 16) (d.camWidth p - col)) input img free
    let flags := fl + 2 * bitOf f.trunc + 4 * bitOf f.ovr
    let bytes := leBytes 8 f.trig ++ leBytes 8 d.tb3 ++ leBytes 4 f.seq ++ leBytes 2 f.tag ++ leBytes 1 p
      ++ leBytes 1 flags ++ tail
    let d := d.stream 3 p bytes false
    let d := if f.probe then d.probeFrame p area (bytesAt tail 4 2) (bytesAt tail 6 2) else d
    if f.mode == .standby then d
    else { d with feats := modAt d.feats p (fun fs => fs ++ [⟨f.trig, d.tb3, f.seq, f.tag, flags, area, bytes, 0⟩]) }

/-- CAM_TRIGGERs whose last frame has ended complete (R308). -/
def Dev.endHosts (d : Dev) (p seq : Nat) : Dev :=
  let ovr (h : HostTrig) : Bool := h.left == 0 && h.last == seq
  let done := (d.cam p).hosts.filter ovr
  let d := d.modCam p (fun (c : Cam) => { c with hosts := c.hosts.filter (fun h => !ovr h) })
  done.foldl (fun d h => match h.req with | some q => d.ok q (h.first.getD 0) 0 0 0 | none => d) d

/-- The message of a sensor entry: address and write bit, register, data (R308). -/
def i2cMessage (x : List Byte) : List Byte :=
  leBytes 1 (2 * bytesAt x 0 1) ++ beBytes (bytesAt x 1 1 % 4 + 1) (bytesAt x 2 2)
    ++ beBytes (bytesAt x 1 1 / 4 % 4 + 1) (bytesAt x 4 4)

/-- The bytes of messages up to the byte that is not acknowledged. -/
def cutAtNack : Option Nat → List (List Byte) → List (List Byte)
  | none, ms => ms
  | some _, [] => []
  | some k, m :: ms => if k < m.length then [m.take (k + 1)] else m :: cutAtNack (some (k - m.length)) ms

/-- The entries written in full when byte k is not acknowledged. -/
def fullEntries : Nat → List (List Byte) → Nat
  | _, [] => 0
  | k, m :: ms => if k < m.length then 0 else fullEntries (k - m.length) ms + 1

/-- What a CAM_I2C_READ sends: the register's address in a write, then the read. DEDUCED (log entry 48). -/
def i2cRead (q : Req) (nack : Option Nat) : List (List Byte) :=
  let a := 2 * q.a1.get 0 7
  cutAtNack nack [leBytes 1 a ++ beBytes (q.a1.get 8 2 + 1) q.a2.toNat, leBytes 1 (a + 1)]

/-- The registers read of a sensor wait for a blanking common to the controller's ports (R308). -/
def Dev.pumpReads (d : Dev) : Dev :=
  let ready (q : Req × Env) : Bool :=
    (List.range 20).all (fun p => camEngine p != q.1.a0.get 0 2 || (d.cam p).frame.isNone) &&
      (d.vis.i2c.getD (q.1.a0.get 0 2) []).all (fun j => !j.started)
  let go := d.vis.reads.filter ready
  let d := { d with vis := { d.vis with reads := d.vis.reads.filter (fun q => !ready q) } }
  go.foldl (fun d q =>
    let d := d.send (.i2c (q.1.a0.get 0 2) (i2cRead q.1 (if q.2.ok then none else some (q.2.vals.headD 0).toNat)))
    if q.2.ok then d.ok q.1 ((q.2.vals.headD 0).toNat % 256 ^ (q.1.a1.get 10 2 + 1)) 0 0 0
    else (d.fault (22 + q.1.a0.get 0 2) 3).fail q.1 stTimeout 0x0808) d

/-- A frame ends (R293): its records, its counts and its faults. -/
def Dev.endFrame (d : Dev) (p : Nat) (f : Frame) (missing : Bool) : Dev :=
  let f := { f with trunc := f.trunc || (!missing && decide (f.rows.length < d.camHeight p)) }
  let input := d.inputImage p f
  let img := d.stages p f input
  let d := d.modCam p (fun (c : Cam) => { c with
    frame := none, lastEnd := some d.tb3, prev := if missing then c.prev else img, prevTag := f.tag
    prevBad := f.trunc || missing, ended := (f.seq, f.tag) })
  let d := d.sendStats p f missing img
  let d := if missing && f.probe then d.probeFrame p 0 0 0 else d
  let d := if missing then
      match (if p < 16 ∧ f.mode ≠ .standby ∧ f.mode ≠ .safe then d.engineOf p else none) with
      | some n => d.staleFrame n f.trig
      | none => d
    else (d.sendFeatures p f input img).sendTap p f input img
  let d := if missing then (d.count (VIS_PORT_CNT p 2) 1).camFault p 7 else d
  let d := if f.trunc then (d.count (VIS_PORT_CNT p 1) 1).camFault p 5 else d
  let d := if f.ovr then d.camFault p 6 else d
  (d.endHosts p f.seq).pumpReads

/-- CSI_FRAME_END: the open frame's frame-end packet, or that of a frame being discarded. -/
def execCsiFrameEnd (p : Fin 20) (s : State) : Host.Outcome State Fault Refusal :=
  s.on (fun d =>
    let c := d.cam p
    if d.fencedUnit (camUnit p) then d
    else if c.unsol then d.modCam p (fun (c : Cam) => { c with unsol := false })
    else match c.frame with
    | some f => if f.started then d.endFrame p f false else d
    | none => d)

/-- FRAME_TIMEOUT: FRAME_US after the trigger. -/
def execFrameTimeout (p : Fin 20) (s : State) : Host.Outcome State Fault Refusal :=
  s.on (fun d =>
    match (d.cam p).frame with
    | some f => (d.advanceTo (f.trig + camTmo p (d.fld (VIS_PORT_TMO p) 16 16))).endFrame p f false
    | none => d)

/-- FRAME_START_TIMEOUT: no frame-start packet within FS_US of the trigger. -/
def execFrameStartTimeout (p : Fin 20) (s : State) : Host.Outcome State Fault Refusal :=
  s.on (fun d =>
    match (d.cam p).frame with
    | some f =>
      if f.started then d
      else (d.advanceTo (f.trig + camTmo p (d.fld (VIS_PORT_TMO p) 8 8))).endFrame p f true
    | none => d)

/-- LANE_ERR: a D-PHY receiver has lost lock or failed its skew calibration (R311). -/
def execLaneErr (p : Fin 20) (s : State) : Host.Outcome State Fault Refusal :=
  s.on (fun d => if visPresent d.variant p then d.fault 26 4 else d)

/-! ## Sensor writes (R301, R302, R304) -/

def Dev.modI2c (d : Dev) (k : Nat) (f : List I2cJob → List I2cJob) : Dev :=
  { d with vis := { d.vis with i2c := modAt d.vis.i2c k f } }

/-- I2C_WRITE_START: the oldest write of controller c starts, in blanking of its port and where it fits
before the next scheduled trigger or holds the triggers. -/
def execI2cWriteStart (c : Fin 4) (s : State) : Host.Outcome State Fault Refusal :=
  s.on (fun d =>
    match d.vis.i2c.getD c [] with
    | [] => d
    | j :: js =>
      let fits := match (if d.schedOn j.port then d.schedNext j.port else none) with
        | some t => decide (d.tb3 + j.dur ≤ t)
        | none => true
      if j.started || (d.cam j.port).frame.isSome || d.fencedUnit (18 + c) || !(fits || j.hold) then d
      else d.modI2c c (fun _ => { j with started := true } :: js))

/-- The change a request made. -/
def Change.of (q : Req) (g : Change) : Bool := g.req.ring == q.ring && g.req.idx == q.idx

/-- The trigger a write delayed is issued at its end where the port may trigger (R301), and reads go on. -/
def Dev.afterWrite (d : Dev) (p : Nat) : Dev :=
  let d := if (d.cam p).delayed then
      let d := d.modCam p (fun (k : Cam) => { k with delayed := false })
      if d.schedOn p && d.trigWanted p && !d.camHeld p then d.fireTrigger p false else d
    else d
  d.pumpReads

/-- I2C_WRITE_END: the write in progress ends; `nack` is the place among the bytes of its messages of one that was not
acknowledged. -/
def execI2cWriteEnd (c : Fin 4) (nack : Option Nat) (s : State) : Host.Outcome State Fault Refusal :=
  s.on (fun d =>
    match d.vis.i2c.getD c [] with
    | [] => d
    | j :: js =>
      if !j.started || d.fencedUnit (18 + c) then d
      else
        let p := j.port
        let d := d.modI2c c (fun _ => js)
        let ms := j.entries.map i2cMessage
        let nack := nack.filter (fun k => decide (k < ms.flatten.length))
        let d := d.send (.i2c c (cutAtNack nack ms))
        let raw := (d.cam p).seq + d.fld (VIS_PORT_SENSOR p) 0 2
        let d := d.modCam p (fun (k : Cam) => { k with changes := k.changes.map (fun (g : Change) =>
          if g.of j.req then { g with raw := some raw, tag := if nack.isSome then 0xFFFF else g.tag } else g) })
        let d := match nack with
          | none => d
          | some k => (d.fault (22 + c) 3).complete j.req stTimeout 0x0808 (words4 (fullEntries k ms) 0 0 0)
        (d.settleCam p).afterWrite p)

/-- I2C_SET_TIMEOUT: the oldest write of controller c that has not started in SET_TMO ms writes nothing. -/
def execI2cSetTimeout (c : Fin 4) (s : State) : Host.Outcome State Fault Refusal :=
  s.on (fun d =>
    match (d.vis.i2c.getD c []).find? (fun j => !j.started) with
    | none => d
    | some j =>
      let d := d.advanceTo (j.issued + d.fld VIS_I2C_CFG 16 16 * perMs)
      let d := d.modI2c c (fun l => l.filter (fun x => x.started || x != j))
      let d := d.modCam j.port (fun (k : Cam) => { k with changes := k.changes.filter (fun g => !g.of j.req) })
      (d.fail j.req stTimeout 0x0807).settleCam j.port)

/-! ## Commands (R308) -/

def camModes : List Mode := [.standby, .calibrate, .build, .hold, .service]

/-- The checks on the port that ARG0 names. DEDUCED (log entry 48). -/
def Dev.camCheck (d : Dev) (q : Req) (ms : List Mode) : List (Bool × Nat × Nat) :=
  let p := q.a0.get 0 5
  [absentIf (decide (p < 20) && !visPresent d.variant p), d.modeIs q ms,
   fencedIf (d.fencedUnit (camUnit p)), limitIf (decide (20 ≤ p)) 0x08FF]

/-- A settings change is issued: its effective frame is told at once unless an earlier one's is open. -/
def Dev.issueChange (d : Dev) (p : Nat) (g : Change) : Dev :=
  (d.modCam p (fun (c : Cam) => { c with changes := c.changes ++ [g] })).settleCam p

/-- The entries of a data block, n bytes each. DEDUCED (log entry 48). -/
def entriesOf (n : Nat) (bs : List Byte) : List (List Byte) :=
  (List.range (bs.length / n)).map (fun i => (bs.drop (n * i)).take n)

/-- Time of one SCL cycle of controller k, in time-stamp ticks: 100 kHz, 400 kHz or 1 MHz. -/
def Dev.sclTicks (d : Dev) (k : Nat) : Nat :=
  match d.fld VIS_I2C_CFG (2 * k) 2 with | 0 => 160000 | 1 => 40000 | _ => 16000

def cmdCamSensorSet : Cmd where
  check d q := firstFail (shape q [0x11F, 0xFFFF] (some 8) 0 ++
    [(decide (q.dataLen % 8 ≠ 0) || decide (512 < q.dataLen), stMalformed, 0x0004),
     (q.a1.get 0 16 == 0xFFFF, stMalformed, 0x0801)] ++ d.camCheck q camModes)
  effect q e d :=
    let p := q.a0.get 0 5
    let es := entriesOf 8 e.data
    let bad (x : List Byte) : Bool := decide (2 ≤ bytesAt x 1 1 % 4) || decide (16 ≤ bytesAt x 1 1) || decide (128 ≤ bytesAt x 0 1)
    if es.any bad then d.fail q stMalformed 0x0004
    else
      let bits := (es.map (fun x => 9 * (1 + (bytesAt x 1 1 % 4 + 1) + (bytesAt x 1 1 / 4 % 4 + 1)) + 2)).sum
      let k := camEngine p
      let j : I2cJob := ⟨p, q, es, bits * d.sclTicks k + 10 * perUs, q.a0.bit 8, d.tb3, false⟩
      (d.modI2c k (fun l => l ++ [j])).issueChange p ⟨q, q.a1.get 0 16, none, none, [], none⟩

/-- CAM_SENSOR_SET. -/
def execCamSensorSet (r : Req) (e : Env) (s : State) : Host.Outcome State Fault Refusal :=
  s.command 0x0801 cmdCamSensorSet r e

/-- A pipeline offset of a port's page: 0 not listed for the port kind, 1 a register, 2 a register of an
absent colour stage. -/
def Dev.pipeKind (d : Dev) (p off : Nat) : Nat :=
  if off % 4 ≠ 0 then 0
  else if off ≤ 8 then 1
  else if p < 16 then (if off ≤ 0x14 then 1 else 0)
  else if (0x18 ≤ off ∧ off ≤ 0x40) ∨ (0x80 ≤ off ∧ off ≤ 0x100) then (if hasColour d.variant then 1 else 2)
  else 0

/-- The defined bits of a pipeline register. -/
def pipeMask (off : Nat) : Word :=
  if off = 4 then 0x8000FFFF else if off = 8 ∨ off = 0xC ∨ off = 0x10 ∨ off = 0x14 ∨ off = 0x18 then 0xFFFFFFFF
  else 0x0000FFFF

/-- The region of interest as it stands once every change issued, and these writes, have taken effect lies in the frame
(R297). -/
def Dev.roiFits (d : Dev) (p : Nat) (ws : List (Nat × Word)) : Bool :=
  let all := (d.cam p).changes.flatMap (fun g => g.writes) ++ ws
  let now (k : Nat) : Word := all.foldl (fun v w => if w.1 = k then w.2 else v) (d.rd k)
  let pos := now (VIS_P_ROI_POS p)
  let size := now (VIS_P_ROI_SIZE p)
  decide (pos.get 0 16 + size.get 0 16 ≤ d.camWidth p) && decide (pos.get 16 16 + size.get 16 16 ≤ d.camHeight p)

/-- A region outside the frame is MALFORMED as one of too many pixels is. DEDUCED (log entry 48). -/
def cmdCamPipeSet : Cmd where
  check d q := firstFail (shape q [0x1F, 0xFFFF] (some 8) 0 ++
    [(decide (q.dataLen % 8 ≠ 0) || decide (512 < q.dataLen), stMalformed, 0x0004),
     (q.a1.get 0 16 == 0xFFFF, stMalformed, 0x0801)] ++ d.camCheck q camModes)
  effect q e d :=
    let p := q.a0.get 0 5
    let es := (entriesOf 8 e.data).map (fun x => (bytesAt x 0 4, BitVec.ofNat 32 (bytesAt x 4 4)))
    if es.any (fun x => d.pipeKind p x.1 == 0 ||
        (x.1 == 0x14 && decide (4096 < Word.get x.2 0 16 * Word.get x.2 16 16))) then
      d.fail q stMalformed 0x0804
    else if es.any (fun x => d.pipeKind p x.1 == 2) then d.fail q stAbsent 0
    else
      let ws := es.map (fun x => (VIS_P_BLACK p + x.1, x.2 &&& pipeMask x.1))
      if es.any (fun x => x.1 == 0x10 || x.1 == 0x14) && !d.roiFits p ws then d.fail q stMalformed 0x0804
      else d.issueChange p ⟨q, q.a1.get 0 16, some ((d.cam p).seq + bitOf (d.trigNow p)), none, ws, none⟩

/-- CAM_PIPE_SET. -/
def execCamPipeSet (r : Req) (e : Env) (s : State) : Host.Outcome State Fault Refusal :=
  s.command 0x0802 cmdCamPipeSet r e

def cmdCamDefectLoad : Cmd where
  check d q := firstFail (shape q [0x1F, 0xFFFF] (some 0) 0 ++
    [(decide (q.dataLen % 4 ≠ 0), stMalformed, 0x0004),
     (q.a1.get 0 16 == 0xFFFF, stMalformed, 0x0801)] ++ d.camCheck q camModes ++
    [limitIf (decide ((if q.a0.get 0 5 < 16 then 64 else 4096) * 4 < q.dataLen)) 0x0805])
  effect q e d :=
    let p := q.a0.get 0 5
    let es := (entriesOf 4 (e.data.take q.dataLen)).map (fun x => (bytesAt x 0 2, bytesAt x 2 2))
    if es.any (fun x => decide (d.camWidth p ≤ x.1) || decide (d.camHeight p ≤ x.2)) then d.fail q stLimit 0x0805
    else d.issueChange p ⟨q, q.a1.get 0 16, some ((d.cam p).seq + bitOf (d.trigNow p)), none, [], some es⟩

/-- CAM_DEFECT_LOAD. -/
def execCamDefectLoad (r : Req) (e : Env) (s : State) : Host.Outcome State Fault Refusal :=
  s.command 0x0803 cmdCamDefectLoad r e

/-- DEDUCED (log entry 48). -/
def cmdCamTrigger : Cmd where
  check d q :=
    let p := q.a0.get 0 5
    firstFail (shape q [0x1F, 0xFFFF, 0xFFFFFFFF] none 0 ++ d.camCheck q camModes ++
      [limitIf (d.camMode p == 0 || !(d.cam p).on) 0x0806, limitIf (q.a1.get 0 16 == 0) 0x08FF])
  effect q _ d :=
    d.modCam (q.a0.get 0 5) (fun (c : Cam) => { c with
      hosts := c.hosts ++ [⟨some q, q.a1.get 0 16, q.a2.toNat * perUs, d.tb3, none, 0⟩] })

/-- CAM_TRIGGER. -/
def execCamTrigger (r : Req) (e : Env) (s : State) : Host.Outcome State Fault Refusal :=
  s.command 0x0804 cmdCamTrigger r e

/-- The bytes of a full tap record. -/
def Dev.tapLen (d : Dev) (p point lines : Nat) : Nat :=
  64 + lines * d.camWidth p * (if 2 ≤ point then 3 else 1) * 2

def cmdCamTapSet : Cmd where
  check d q :=
    let p := q.a0.get 0 5
    let pt := q.a1.get 0 2
    firstFail (shape q [0x1F, 0x7, 0xFFFF, 0x7FF] none 0 ++ d.camCheck q camModes ++
      [limitIf (decide (2 ≤ pt) && (decide (p < 16) || !hasColour d.variant)) 0x0809,
       limitIf (decide (16 * 1048576 < d.tapLen p pt (q.a3.get 0 11))) 0x0809,
       limitIf (q.a2.get 0 16 == 0 || q.a3.get 0 11 == 0) 0x08FF])
  effect q _ d :=
    d.modCam (q.a0.get 0 5) (fun (c : Cam) => { c with
      tapReqs := c.tapReqs ++ [(q, ⟨q.a1.bit 2, q.a1.get 0 2, q.a2.get 0 16, q.a3.get 0 11⟩)] })

/-- CAM_TAP_SET. -/
def execCamTapSet (r : Req) (e : Env) (s : State) : Host.Outcome State Fault Refusal :=
  s.command 0x0805 cmdCamTapSet r e

def cmdCamQuery : Cmd where
  check d q := firstFail (shape q [0x1F] none 0 ++ d.camCheck q allModes)
  effect q _ d :=
    let c := d.cam (q.a0.get 0 5)
    d.ok q c.ended.1 (c.ended.2 + c.tagAt c.seq * 65536) c.changes.length 0

/-- CAM_QUERY. -/
def execCamQuery (r : Req) (e : Env) (s : State) : Host.Outcome State Fault Refusal :=
  s.command 0x0880 cmdCamQuery r e

def cmdCamI2cRead : Cmd where
  check d q := firstFail (shape q [0x3, 0xF7F, 0xFFFFFFFF] none 0 ++
    [absentIf (!visEngPresent d.variant (q.a0.get 0 2)), d.modeIs q camModes,
     fencedIf (d.fencedUnit (18 + q.a0.get 0 2)), limitIf (decide (2 ≤ q.a1.get 8 2)) 0x08FF])
  effect q e d := ({ d with vis := { d.vis with reads := d.vis.reads ++ [(q, e)] } }).pumpReads

/-- CAM_I2C_READ. -/
def execCamI2cRead (r : Req) (e : Env) (s : State) : Host.Outcome State Fault Refusal :=
  s.command 0x0881 cmdCamI2cRead r e

/-- VIS_CNT_CLR: bit p zeroes the port's four counts. -/
def execVisCntClr (val : Word) (s : State) : Host.Outcome State Fault Refusal :=
  s.whenUp (fun d => (bitList 20 val.toNat).foldl (fun d p =>
    (((d.wr (VIS_PORT_CNT p 0) 0).wr (VIS_PORT_CNT p 1) 0).wr (VIS_PORT_CNT p 2) 0).wr (VIS_PORT_DISC_CNT p) 0) d)

end Sys2Proof.Machine
end

