-- ==== Sys2Proof/Machine/Calib.lean ====
section
/-! DEFINITION. Correction grids and calibration commands (R178 to R198). -/

namespace Sys2Proof.Machine

/-! ## Grids (R178 to R185) -/

/-- The checks of R181 on a grid's data: status, XSTATUS and RESULT0 of the first that fails, or the grid. -/
def parseGrid (v : Config.Variant) (b : List Byte) : Except (Nat × Nat × Nat) Grid :=
  let nx := bytesAt b 8 2
  let ny := bytesAt b 10 2
  let g : Grid :=
    { beam := bytesAt b 6 1, nx := nx, ny := ny, id := bytesAt b 12 4, x0 := intAt b 16 4, y0 := intAt b 20 4,
      px := bytesAt b 24 4, py := bytesAt b 28 4, cx := intAt b 32 4, cy := intAt b 36 4,
      radius := bytesAt b 40 4, zgain := intAt b 44 4, header := b.take 64, nodes := b.drop 64, digest := [] }
  let lim (x : Int) : Bool := decide (2144000 < x.natAbs)
  let bad (k : Nat) : Bool :=
    let n := (b.drop (64 + 16 * k)).take 16
    !allZero (n.drop 12) || [0, 4, 8].any (fun o => decide (8388607 < (intAt n o 4).natAbs))
  if crc32c (b.take 60) ≠ bytesAt b 60 4 then .error (stCrc, 0x0501, 0)
  else if bytesAt b 0 4 ≠ 0x44475150 ∨ bytesAt b 4 2 ≠ 1 ∨ g.id = 0 ∨ bytesAt b 7 1 ≠ 0 ∨ bytesAt b 52 8 ≠ 0 then
    .error (stMalformed, 0x0503, 0)
  else if nx < 4 ∨ 257 < nx ∨ ny < 4 ∨ 257 < ny ∨ g.px < 1000 ∨ 4000000 < g.px ∨ g.py < 1000 ∨ 4000000 < g.py
      ∨ b.length ≠ 64 + 16 * nx * ny then .error (stMalformed, 0x0504, 0)
  else if nBeams v ≤ g.beam then .error (stAbsent, 0x0507, 0)
  else if lim g.x0 || lim g.y0 || lim (g.x0 + ((nx - 1) * g.px : Nat)) || lim (g.y0 + ((ny - 1) * g.py : Nat)) then
    .error (stMalformed, 0x0505, 0)
  else if crc32c (b.drop 64) ≠ bytesAt b 48 4 then .error (stCrc, 0x0502, 0)
  else match (List.range (nx * ny)).find? bad with
    | some k => .error (stMalformed, 0x0506, k)
    | none => .ok { g with digest := sha384 b }

def Dev.modGrids (d : Dev) (b : Nat) (f : BeamGrids → BeamGrids) : Dev :=
  { d with grids := modAt d.grids b f }

/-- The beam has a vector that has started emission and has no outcome, held vectors included. -/
def Dev.beamEmits (d : Dev) (b : Nat) : Bool :=
  (List.range 18).any (fun n =>
    (d.beamOf n == some b || ((d.eng n).done.any (fun x => x.beam == d.gbeam b))) &&
      (!(d.eng n).done.isEmpty || !(d.eng n).held.isEmpty ||
        (d.eng n).runs.any (fun r => r.started && decide (r.given < r.unit.recs.length))))

/-- A pending grid of beam b may commit (R183): no layer is in exposure, or the commit is outstanding and the layer in
exposure waits for it to start (R184); and the beam has no vector in emission or without an outcome. DEDUCED (log entry
45). DEDUCED (log entry 45). -/
def Dev.gridFree (d : Dev) (b : Nat) : Bool :=
  (d.exposed.isNone || ((d.beamGrids b).due && d.running.isNone)) && !d.beamEmits b

/-- What engine n has planned for ticks to come is planned again: under the grid that has become active. -/
def Dev.replan (d : Dev) (n : Nat) : Dev :=
  d.modEng n (fun e => { e with
    tickQ := e.tickQ.filter (fun x => decide (x.tick ≤ d.tick + 1)), next := Nat.min e.next (d.tick + 2) })

/-- The pending grid of a beam becomes active; residuals of the locks it is a member of become stale (R183,
R195), and those of the cross-device ones at the peer too (R385). -/
def Dev.commitGrid (d : Dev) (b : Nat) : Dev :=
  match (d.beamGrids b).pending with
  | none => d
  | some g =>
    let d := d.modGrids b (fun _ => ⟨some g, none, false, false, some d.tb3⟩)
    let d := match d.engineOf b with | some n => d.replan n | none => d
    let stale (i : Nat) (r : Resid) : Resid :=
      if (d.lockMembers i).testBit b ∧ d.lockValid i ∧ r.made then { r with r2 := r.r2 ||| 512 } else r
    let d := { d with gridCommits := d.gridCommits + 1, resids := d.resids.mapIdx (fun i r => stale i r) }
    (List.range 64).foldl (fun d i =>
      if d.lockValid i && (d.lockMembers i).testBit b && d.bit (LK_LOCK_XDEV i) 31 then
        d.sendTo (d.fld (LK_LOCK_XDEV i) 24 3) 0x33 [2, (i : Int)]
      else d) d

/-- At a layer end every pending grid whose beam is free commits, as part of the commit of R112. -/
def Dev.commitGrids (d : Dev) : Dev :=
  (List.range 16).foldl (fun d b => if d.running.isNone && !d.beamEmits b then d.commitGrid b else d) d

/-- GRID_COMMIT: the first moment at which beam b's pending grid may commit. -/
def execGridCommit (b : Fin 16) (s : State) : Host.Outcome State Fault Refusal :=
  s.on (fun d => if d.gridFree b then d.commitGrid b else d)

def cmdGridLoad : Cmd where
  check d q := firstFail (shape q [] (some 64) 0 ++
    [d.modeIs q [.configure, .standby, .calibrate, .build, .hold, .service],
     (d.mode.cur == .configure && !d.mode.dram, stReject, 0)])
  effect q e d :=
    match parseGrid d.variant e.data with
    | .error (st, x, r0) => d.complete q st x (words4 r0 0 0 0)
    | .ok g =>
      let same := match (d.beamGrids g.beam).active with | some a => a.digest == g.digest | none => false
      let d := if same then d.modGrids g.beam (fun k => { k with lost := false })
        else d.modGrids g.beam (fun k => { k with pending := some g, due := k.commitAt == some d.tb3 })
      let d := if !same && d.gridFree g.beam && !(d.beamGrids g.beam).due then d.commitGrid g.beam else d
      d.ok q 0 0 0 0

/-- GRID_LOAD: a grid loaded in the cycle of a commit of its beam waits for a later cycle (R184). -/
def execGridLoad (r : Req) (e : Env) (s : State) : Host.Outcome State Fault Refusal :=
  s.command 0x0501 cmdGridLoad r e

/-- The checks on a beam that ARG0 [4:0] names. -/
def Dev.beamArg (d : Dev) (q : Req) (ms : List Mode) : List (Bool × Nat × Nat) :=
  let b := q.a0.get 0 5
  [absentIf (decide (b < 16) && decide (nBeams d.variant ≤ b)), d.modeIs q ms]

def cmdGridQuery : Cmd where
  check d q := firstFail (shape q [0x1F] none 0 ++ d.beamArg q allModes ++ [limitIf (decide (16 ≤ q.a0.get 0 5)) 0x05FF])
  effect q _ d :=
    let g := d.beamGrids (q.a0.get 0 5)
    let id (o : Option Grid) : Nat := match o with | some g => g.id | none => 0
    d.ok q (id g.active) (id g.pending) (match g.active with | some a => a.nx + a.ny * 65536 | none => 0) 0

/-- GRID_QUERY. -/
def execGridQuery (r : Req) (e : Env) (s : State) : Host.Outcome State Fault Refusal :=
  s.command 0x0580 cmdGridQuery r e

def cmdResidQuery : Cmd where
  check d q := firstFail (shape q [0x3F] none 0 ++ [d.modeIs q allModes])
  effect q _ d :=
    let r := d.resids.getD (q.a0.get 0 6) default
    d.ok q r.max r.rms r.r2 r.r3

/-- RESID_QUERY. -/
def execResidQuery (r : Req) (e : Env) (s : State) : Host.Outcome State Fault Refusal :=
  s.command 0x0581 cmdResidQuery r e

/-! ## Calibration marks and edges (R187 to R191) -/

/-- The beams calibration work in flight uses. -/
def Dev.calBusy (d : Dev) : Nat :=
  let marks := d.cals.foldl (fun m c => c.recs.foldl (fun m v => m ||| v.r.elig) m) 0
  d.probes.foldl (fun m j =>
    j.got.foldl (fun m g => if g.2.1 / 16 = d.devId then m ||| 2 ^ (g.2.1 % 16) else m)
      (j.todo.foldl (fun m t => m ||| 2 ^ t.beam) m)) marks

/-- The key of a calibration command. -/
def keyOf (q : Req) : Nat × Nat := (q.ring, q.idx)

/-- A calibration command starts: its records run as units of their beams, outside any layer. -/
def Dev.startCal (d : Dev) (q : Req) (id : Nat) (sets : List (List Byte)) (rs : List Rec) (edge : Option EdgeReq) : Dev :=
  let d := { d with cals := d.cals ++ [CalJob.mk q sets (rs.map (fun (r : Rec) => newRec r d.tb3)) id d.tick edge none none] }
  let d := (unitsOf rs).foldl (fun d idxs =>
    d.dispatch { mkUnit 0 id 0 d.devId rs idxs with cal := some (keyOf q) }) d
  d.checkCal (keyOf q)

/-- The beams of a set of records, as bits. -/
def recBeams (rs : List Rec) : Nat := rs.foldl (fun m r => if r.type = 0 then m else m ||| r.elig) 0

/-- No unfenced engine serves some beam of a set. -/
def Dev.unserved (d : Dev) (beams : Nat) : Bool := (bitList 16 beams).any (fun b => !d.beamLive b)

/-- DEDUCED (log entry 49). -/
def cmdCalMark : Cmd where
  check d q := firstFail (shape q [] (some 64) 0 ++
    [(decide (1048640 < q.dataLen), stMalformed, 0x0004), d.modeIs q [.calibrate]])
  effect q e d :=
    match d.bargeCheck e.data true with
    | .error (st, x, r0) => d.complete q st x (words4 r0 0 0 0)
    | .ok rs =>
      if d.unserved (recBeams rs) then d.fail q stFenced 0
      else if recBeams rs &&& (d.calBusy) ≠ 0 ∨ !d.calWait.isEmpty ∨ d.holding then
        { d with calWait := d.calWait ++ [(q, e)] }
      else
        let sets := match d.table (bytesAt e.data 16 4) with | some t => t.sets | none => []
        d.startCal q (bytesAt e.data 12 4) sets rs none

/-- CAL_MARK. -/
def execCalMark (r : Req) (e : Env) (s : State) : Host.Outcome State Fault Refusal :=
  s.command 0x0502 cmdCalMark r e

/-- The set a calibration command names. -/
def Dev.calSet (d : Dev) (tab set : Nat) : Option (List Byte) :=
  match d.table tab with | some t => t.sets[set]? | none => none

/-- (x, y) lies in the extent of a beam's active grid. -/
def Dev.inActive (d : Dev) (b : Nat) (x y : Int) : Bool :=
  match (d.beamGrids b).active with | some g => g.inExtent x y | none => false

/-- The group delay of a photodiode range in ns (R267). -/
def pdDelay (range : Nat) : Nat := match range with | 2 => 70 | 3 => 90 | _ => 60

/-- The record of a CAL_EDGE: one mark. DEDUCED (log entry 49). -/
def edgeRecs (b pset : Nat) (sx sy x y : Int) : List Rec :=
  let j : Rec := { (default : Rec) with x := sx, y := sy, elig := 2 ^ b }
  [{ j with sx := sx, sy := sy, x := x, y := y, pset := pset, type := 1 }]

/-- DEDUCED (log entry 49), DESIGN CHOICE (log entry 101). -/
def cmdCalEdge : Cmd where
  check d q := firstFail (shape q [0x31F, anyW, 0xFF, 0x3FFF] (some 16) 0 ++
    [(decide (q.dataLen ≠ 16), stMalformed, 0x0004)] ++ d.beamArg q [.calibrate] ++
    [fencedIf (decide (q.a0.get 0 5 < 16) && d.unserved (2 ^ q.a0.get 0 5)),
     limitIf (decide (16 ≤ q.a0.get 0 5)) 0x05FF,
     limitIf (d.calSet q.a1.toNat (q.a2.get 0 8)).isNone 0x05FF,
     (match d.calSet q.a1.toNat (q.a2.get 0 8) with
      | some p => limitIf (psSkyLead p == 0 || psSkyLag p == 0) 0x050A
      | none => limitIf false 0)])
  effect q e d :=
    let b := q.a0.get 0 5
    let sx := intAt e.data 0 4
    let sy := intAt e.data 4 4
    let x := intAt e.data 8 4
    let y := intAt e.data 12 4
    if d.unserved (2 ^ b) then d.fail q stFenced 0
    else if !(d.inActive b sx sy && d.inActive b x y) || (sx == x && sy == y) then d.fail q stLimit 0x05FF
    else if (2 ^ b) &&& d.calBusy ≠ 0 ∨ !d.calWait.isEmpty ∨ d.holding then
      { d with calWait := d.calWait ++ [(q, e)] }
    else
      let n := (d.engineOf b).getD 0
      let range := if q.a0.bit 8 then d.fld (BE_PD_CFG n) 4 2 else d.fld (BE_PD_CFG n) 0 2
      let sets := match d.table q.a1.toNat with | some t => t.sets | none => []
      let on := d.bit (BE_PD_CFG n) (if q.a0.bit 8 then 30 else 31)
      d.startCal q 0 sets (edgeRecs b (q.a2.get 0 8) sx sy x y)
        (some ⟨q.a3.get 0 14, q.a0.bit 9, pdDelay range * 16, e.vals.map (fun v => if on then (pdCode range v : Int) else 0)⟩)

/-- CAL_EDGE; `e.vals`: the voltage of the photodiode input in nV at each sample instant, from the first in emission (R267); a
disabled channel reads 0 (R266). -/
def execCalEdge (r : Req) (e : Env) (s : State) : Host.Outcome State Fault Refusal :=
  s.command 0x0504 cmdCalEdge r e

/-! ## Camera probes (R190, R193) -/

/-- The probe in progress is measured: (X, Y) + M × (c − PP), to the nearest bu. -/
def Dev.probeResult (d : Dev) (j : ProbeJob) (t : Probe) : Option (Int × Int) :=
  if j.used = 0 then none
  else
    let n := (d.engineOf t.beam).getD 0
    let k : Int := j.used
    let dx : Int := j.sumX - k * (d.fld (BE_CAL_PP n) 0 16 : Nat)
    let dy : Int := j.sumY - k * (d.fld (BE_CAL_PP n) 16 16 : Nat)
    let m (r c : Nat) : Int := d.rdI (BE_CAL_M n (2 * r + c))
    some (t.x + divRound (m 0 0 * dx + m 0 1 * dy) (k * 2 ^ 20), t.y + divRound (m 1 0 * dx + m 1 1 * dy) (k * 2 ^ 20))

/-- √(a / n) to the nearest whole number. -/
def rootNear (a n : Nat) : Nat := if n = 0 then 0 else (isqrt (4 * a / n) + 1) / 2

/-- d_p² of the positions of one point: the largest squared distance between any two. -/
def spread (ps : List (Int × Int)) : Nat :=
  ps.foldl (fun m p => ps.foldl (fun m q =>
    Nat.max m ((p.1 - q.1) * (p.1 - q.1) + (p.2 - q.2) * (p.2 - q.2)).toNat) m) 0

/-- The residual entry that positions give (R193): points that some member did not find are left out.
DESIGN CHOICE (log entry 37), DEDUCED (log entry 49). -/
def Dev.residOf (d : Dev) (points members : Nat) (got : List (Nat × Nat × Option (Int × Int))) : Resid :=
  let sq := (List.range points).filterMap (fun p =>
    let ps := (got.filter (fun g => g.1 == p)).filterMap (fun g => g.2.2)
    if ps.length = members then some (spread ps) else none)
  let valid := !sq.isEmpty
  ⟨valid, rootNear (sq.foldl Nat.max 0) 1, rootNear sq.sum sq.length, sq.length + 256 * bitOf valid, d.gridCommits, true⟩

/-- A residual is written and its command completes. -/
def Dev.finishResid (d : Dev) (j : ProbeJob) (i : Nat) : Dev :=
  let members := (j.got.map (fun g => g.2.1)).eraseDups.length
  let r := d.residOf j.points members j.got
  let d := { d with resids := d.resids.set i r }
  let d := match j.peer with
    | some v => d.sendTo v 0x33 ([1, (i : Int), (r.max : Int), (r.rms : Int), (r.r2 : Int)])
    | none => d
  d.ok j.req r.max r.rms r.r2 r.r3

/-- The positions of a point, as a RESID carries them: global beam, found, X, Y of each. -/
def residWords (p : Nat) (got : List (Nat × Nat × Option (Int × Int))) : List Int :=
  (got.filter (fun g => g.1 == p)).flatMap (fun g => match g.2.2 with
    | some (x, y) => [(g.2.1 : Int), 1, x, y]
    | none => [(g.2.1 : Int), 0, 0, 0])

/-- A job all of whose own probes are made: a single probe and a residual complete; positions go back to
the peer that asked. Where no frame found the fiducial RESULT0 and RESULT1 are 0. DESIGN CHOICE (log entry 93). -/
def Dev.probesMade (d : Dev) (j : ProbeJob) : Dev :=
  let drop (d : Dev) : Dev := { d with probes := d.probes.filter (fun x => keyOf x.req != keyOf j.req || x.serves != j.serves) }
  if j.serves then
    match j.peer with
    | some v => (drop d).sendTo v 0x33 ([0, (j.lock.getD 0 : Int), (j.points : Int)] ++ residWords j.points j.got)
    | none => drop d
  else match j.lock with
    | some i => if j.away.isEmpty then (drop d).finishResid j i else d
    | none =>
      let d := drop d
      match j.got with
      | (_, _, some (x, y)) :: _ => d.ok j.req (unsigned 32 x) (unsigned 32 y) j.used 1
      | _ => d.ok j.req 0 0 j.used 0

/-- The laser-off move of a probe: a run that emits nothing (R149, R190). -/
def Dev.probeMove (d : Dev) (j : ProbeJob) (t : Probe) (n : Nat) : Dev :=
  let e := d.eng n
  let (err, d) := d.freeErr 1
  let (ps, tEnd) := movePieces (e.px, e.py) (t.x * 2 ^ 24, t.y * 2 ^ 24) (j.sets.getD j.pset []) j.pset (d.settle n) err
  let start := Nat.max (d.tick + 402 + d.dmax n) e.notBefore
  let u : WUnit := { (default : WUnit) with owner := d.devId, cal := some (keyOf j.req) }
  let r : Run := { (default : Run) with
    unit := u, start := start, pieces := ps, tEnd := tEnd, holdAt := ps.length, committed := true
    focus := e.focus, seq := e.seq + 1 }
  d.modEng n (fun e => { e with runs := e.runs ++ [r], seq := e.seq + 1 })

/-- One job goes on as far as it can: a move, the trigger of its frames, or its result. One whose beam or camera is fenced
ends UNIT_FENCED; a peer is told that nothing was found (DEDUCED, log entry 104). DEDUCED (log entry 104). -/
def Dev.stepProbe (d : Dev) (j : ProbeJob) : Dev :=
  let put (d : Dev) (k : ProbeJob) : Dev :=
    { d with probes := d.probes.map (fun x => if keyOf x.req = keyOf j.req ∧ x.serves = j.serves then k else x) }
  match j.todo with
  | [] => d.probesMade j
  | t :: ts =>
    match d.beamLive t.beam && !d.fencedUnit (camUnit t.beam), d.engineOf t.beam with
    | true, some n =>
      if (d.eng n).taking ∨ !(d.eng n).runs.isEmpty then d
      else if !j.asked then
        if (d.eng n).px ≠ t.x * 2 ^ 24 ∨ (d.eng n).py ≠ t.y * 2 ^ 24 then d.probeMove j t n
        else
          let on := (d.cam t.beam).on
          let d := put d { j with asked := true, left := if on then j.frames else 0, used := 0, sumX := 0, sumY := 0 }
          if on then d.modCam t.beam (fun (c : Cam) => { c with hosts := c.hosts ++ [⟨none, j.frames, 0, d.tb3, none, 0⟩] })
          else d
      else if j.left = 0 then
        let res := d.probeResult j t
        let j' : ProbeJob := { j with todo := ts, asked := false, got := j.got ++ [(t.point, d.gbeam t.beam, res)] }
        if ts.isEmpty then (put d j').probesMade j' else put d j'
      else d
    | _, _ =>
      let d := { d with probes := d.probes.filter (fun x => keyOf x.req != keyOf j.req || x.serves != j.serves) }
      if j.serves then d.probesMade { j with todo := [], got := j.got ++ j.todo.map (fun t => (t.point, d.gbeam t.beam, none)) }
      else d.fail j.req stFenced 0

/-- A probe job for these probes. -/
def mkProbes (q : Req) (sets : List (List Byte)) (pset frames points : Nat) (ps : List Probe) : ProbeJob :=
  { req := q, sets := sets, pset := pset, frames := frames, points := points, todo := ps, asked := false, left := 0,
    used := 0, sumX := 0, sumY := 0, got := [], lock := none, peer := none, away := [], serves := false }

/-- DEDUCED (log entry 49). -/
def cmdCalProbe : Cmd where
  check d q :=
    let b := q.a0.get 0 5
    firstFail (shape q [0x1F, anyW, anyW, 0x7F, anyW, 0xFF] none 0 ++ d.beamArg q [.calibrate] ++
      [fencedIf (decide (b < 16) && (d.unserved (2 ^ b) || d.fencedUnit (camUnit b))),
       limitIf (decide (16 ≤ b)) 0x05FF,
       limitIf (decide (q.a3.toNat < 1 ∨ 64 < q.a3.toNat)) 0x05FF,
       limitIf (d.calSet q.a4.toNat (q.a5.get 0 8)).isNone 0x05FF,
       limitIf (!d.inActive b (signed 32 q.a1.toNat) (signed 32 q.a2.toNat)) 0x0509])
  effect q e d :=
    let b := q.a0.get 0 5
    if (2 ^ b) &&& d.calBusy ≠ 0 ∨ !d.calWait.isEmpty ∨ d.holding then { d with calWait := d.calWait ++ [(q, e)] }
    else
      let sets := match d.table q.a4.toNat with | some t => t.sets | none => []
      let j := mkProbes q sets (q.a5.get 0 8) (q.a3.get 0 7) 1
        [⟨0, b, signed 32 q.a1.toNat, signed 32 q.a2.toNat⟩]
      ({ d with probes := d.probes ++ [j] }).stepProbe j

/-- CAL_PROBE. -/
def execCalProbe (r : Req) (e : Env) (s : State) : Host.Outcome State Fault Refusal :=
  s.command 0x0503 cmdCalProbe r e

/-- The points of a residual command's data. -/
def residPoints (b : List Byte) : List (Int × Int) :=
  (entriesOf 8 b).map (fun x => (intAt x 0 4, intAt x 4 4))

/-- The probes of every point by every local member of a lock, in ascending beam order. -/
def Dev.residProbes (d : Dev) (i : Nat) (ps : List (Int × Int)) : List Probe :=
  (ps.mapIdx (fun k p => (bitList 16 (d.lockMembers i)).map (fun b => (⟨k, b, p.1, p.2⟩ : Probe)))).flatten

/-- The checks CAL_RESID and CAL_XRESID share. -/
def Dev.residChecks (d : Dev) (q : Req) : List (Bool × Nat × Nat) :=
  [(decide (q.dataLen % 8 ≠ 0) || decide (512 < q.dataLen), stMalformed, 0x0004), d.modeIs q [.calibrate],
   fencedIf (d.lockValid (q.a0.get 0 6) && d.unserved (d.lockMembers (q.a0.get 0 6))),
   limitIf (!d.lockValid (q.a0.get 0 6)) 0x0508,
   limitIf (decide (q.a3.toNat < 1 ∨ 64 < q.a3.toNat)) 0x05FF,
   limitIf (d.calSet q.a1.toNat (q.a2.get 0 8)).isNone 0x05FF]

/-- A residual starts, or waits for its beams; with a peer, the points go to it too (R193, R385). -/
def Dev.startResid (d : Dev) (q : Req) (e : Env) (peer : Option Nat) : Dev :=
  let i := q.a0.get 0 6
  let pts := residPoints e.data
  if pts.any (fun p => (bitList 16 (d.lockMembers i)).any (fun b => !d.inActive b p.1 p.2)) then
    d.fail q stLimit 0x0509
  else if (d.lockMembers i) &&& d.calBusy ≠ 0 ∨ !d.calWait.isEmpty ∨ d.holding then
    { d with calWait := d.calWait ++ [(q, e)] }
  else
    let sets := match d.table q.a1.toNat with | some t => t.sets | none => []
    let j := { mkProbes q sets (q.a2.get 0 8) (q.a3.get 0 7) pts.length (d.residProbes i pts) with
      lock := some i, peer := peer, away := if peer.isSome then List.range pts.length else [] }
    let d := match peer with
      | some v => (pts.mapIdx (fun (k : Nat) (p : Int × Int) => ([3, (i : Int), (k : Int), p.1, p.2, (q.a1.toNat : Int), (q.a2.get 0 8 : Int),
          (q.a3.get 0 7 : Int)] : List Int))).foldl (fun (d : Dev) m => d.sendTo v 0x33 m) d
      | none => d
    ({ d with probes := d.probes ++ [j] }).stepProbe j

/-- DEDUCED (log entry 49). -/
def cmdCalResid : Cmd where
  check d q := firstFail (shape q [0x3F, anyW, 0xFF, 0x7F] (some 8) 0 ++ d.residChecks q)
  effect q e d := d.startResid q e none

/-- CAL_RESID. -/
def execCalResid (r : Req) (e : Env) (s : State) : Host.Outcome State Fault Refusal :=
  s.command 0x0505 cmdCalResid r e

/-- The peer a lock names. -/
def Dev.lockPeer (d : Dev) (i : Nat) : Nat := d.fld (LK_LOCK_XDEV i) 24 3

def cmdCalXresid : Cmd where
  check d q :=
    let i := q.a0.get 0 6
    firstFail (shape q [0x3F, anyW, 0xFF, 0x7F] (some 8) 0 ++ d.residChecks q ++
      [limitIf (!d.bit (LK_LOCK_STATUS i) 16 || !d.members.contains (d.lockPeer i) ||
        !d.byf.modes.any (fun m => m.1 == d.lockPeer i && m.2 == Mode.calibrate.code)) 0x0D03])
  effect q e d := d.startResid q e (some (d.lockPeer (q.a0.get 0 6)))

/-- CAL_XRESID. -/
def execCalXresid (r : Req) (e : Env) (s : State) : Host.Outcome State Fault Refusal :=
  s.command 0x0D02 cmdCalXresid r e

/-! ## Going on (R189) -/

/-- The beams a waiting command addresses. -/
def Dev.calBeams (d : Dev) (q : Req) (e : Env) : Nat :=
  if q.op = 0x0502 then match d.bargeCheck e.data true with | .ok rs => recBeams rs | .error _ => 0
  else if q.op = 0x0503 ∨ q.op = 0x0504 then 2 ^ q.a0.get 0 5
  else d.lockMembers (q.a0.get 0 6)

/-- The effect of a calibration command. -/
def calEffect (q : Req) (e : Env) (d : Dev) : Dev :=
  if q.op = 0x0502 then cmdCalMark.effect q e d
  else if q.op = 0x0503 then cmdCalProbe.effect q e d
  else if q.op = 0x0504 then cmdCalEdge.effect q e d
  else if q.op = 0x0D02 then cmdCalXresid.effect q e d
  else cmdCalResid.effect q e d

/-- Commands that waited start, each once no earlier one uses a beam of its own. DEDUCED (log entry 49). -/
def Dev.pumpWaiters : List (Req × Env) → Nat → Dev → Dev
  | [], _, d => d
  | (q, e) :: ws, taken, d =>
    let b := d.calBeams q e
    if b &&& (taken ||| d.calBusy) = 0 then
      let d' := calEffect q e { d with calWait := [] }
      Dev.pumpWaiters ws taken { d' with calWait := d.calWait.filter (fun w => keyOf w.1 != keyOf q) }
    else Dev.pumpWaiters ws (taken ||| b) d

/-- Probes end ABORTED on a hold trigger (R190); in CALIBRATE the rest goes on. -/
def Dev.pumpCal (d : Dev) : Dev :=
  if d.mode.cur ≠ .calibrate then d
  else if d.holding then d.abortProbes
  else
    let d := d.probes.foldl (fun d j => d.stepProbe j) d
    Dev.pumpWaiters d.calWait 0 d

/-- VECTOR_OUTCOME: engine n reports its oldest outcome. -/
def execVectorOutcome (n : Fin 18) (s : State) : Host.Outcome State Fault Refusal :=
  s.on (fun d => (d.nextOutcome n).pumpCal)

end Sys2Proof.Machine
end

