-- ==== Sys2Proof/Machine/Ports.lean ====
section
/-! DEFINITION. Scanner ports, heads, laser outputs and the interlock (R313 to R345). -/

namespace Sys2Proof.Machine

/-! ## Training and link faults (R320 to R322) -/

/-- No port shows the state that a fault of source 30 describes: its condition ends. -/
def Dev.endScn (d : Dev) (cause : Nat) (stands : Port → Bool) : Dev :=
  if d.scn.ports.any stands then d else d.endCause 30 cause

/-- Port b returns to training: its head commands end. -/
def Dev.retrain (d : Dev) (b : Nat) : Dev :=
  ((d.sendTraining true b false).modPort b (fun (p : Port) => { p with
    state := 1, seen := false, cmd := 0, arg := 0, enum := 0, bad := 0, good := false, badIn := false, badRun := 0
    txSleep := false, rxSleep := false, wakeTx := false, wakeRx := false, return_ := false, jog := false
    fault := false, hot := false })).endScn 6 (fun p => p.fault)

/-- A HEAD_JOG of port b ends ABORTED. DEDUCED (log entry 73). -/
def Dev.abortJog (d : Dev) (b : Nat) : Dev :=
  d.endJogs (fun n => d.engineOf b == some n) (fun q d => d.fail q stAborted 0)

/-- A PORT_SLEEP of which port b was part ends with TIMEOUT (R338). -/
def Dev.failSleeps (d : Dev) (b : Nat) : Dev :=
  let hit (j : SleepJob) : Bool := j.sleeps.contains b || j.wakes.contains b
  let lost := d.scn.sleeps.filter hit
  let d := { d with scn := { d.scn with sleeps := d.scn.sleeps.filter (fun j => !hit j) } }
  lost.foldl (fun d j => d.fail j.req stTimeout 0x0523) d

/-- A link fault of port b: EMIT_EN down, the vector in emission held, LINK_DOWN, training (R320). The
return to training counts as a restart. DEDUCED (log entry 50). -/
def Dev.linkFault (d : Dev) (b : Nat) : Dev :=
  let d := d.setEmit b false
  let d := match d.engineOf b with
    | some n => if d.activeBeam b && !d.fencedUnit n && !(d.eng n).taking then d.stopAtOnce n d.tick else d
    | none => d
  let d := (d.retrain b).modPort b (fun (p : Port) => { p with linkFault := true })
  let d := ((d.count (SCN_PORT_CNT b 2) 1).failSleeps b).abortJog b
  d.raise 30 1 (BitVec.ofNat 32 b)

/-- A scanner port completes training (R321): its frames start. -/
def Dev.scnTrained (d : Dev) (b : Nat) (polInv : Bool) : Dev :=
  if (d.port b).state ≠ 1 then d
  else
    ((d.sendTraining true b true).modPort b (fun (p : Port) => { p with
      state := 2, linkFault := false, polInv := polInv, seen := false, enum := 0, bad := 0, good := false, badIn := false, cmd := 0
    })).endScn 1 (fun p => p.linkFault)

/-- A training that has not reached its sixth step in 1 ms restarts (R321). -/
def Dev.scnTrainTimeout (d : Dev) (b : Nat) : Dev :=
  if (d.port b).state = 1 then (d.count (SCN_PORT_CNT b 2) 1).sendTraining true b false else d

/-- SCANNER_SYMBOL_LOCK_LOSS. -/
def execScannerSymbolLockLoss (b : Fin 16) (s : State) : Host.Outcome State Fault Refusal :=
  s.on (fun d =>
    let p := d.port b
    if (p.state = 2 ∨ p.state = 3) ∧ !p.rxSleep then d.linkFault b else d)

/-! ## Feedback frames (R317, R318) -/

/-- A feedback frame is good: symbols, TYPE and CRC. -/
def frameGood (f : FbFrame) : Bool :=
  f.symbolsOk && f.bytes.length == 32 && bytesAt f.bytes 0 1 == 2 && crc16 (f.bytes.take 30) == bytesAt f.bytes 30 2

/-- A bad frame, at the device or at the head: BAD_FRAME at most once per port per second (R320). -/
def Dev.badFrame (d : Dev) (b : Nat) : Dev :=
  let due := match (d.port b).badAt with | none => true | some t => decide (t + 1000 * perMs ≤ d.tb3)
  if due then (d.modPort b (fun (p : Port) => { p with badAt := some d.tb3 })).fault 30 2 else d

/-- A bad feedback frame: the third in a row is a link fault. -/
def Dev.badFeedback (d : Dev) (b : Nat) : Dev :=
  let d := (d.count (SCN_PORT_CNT b 1) 1).laneErrs [16 + b]
  let d := (d.modPort b (fun (p : Port) => { p with bad := p.bad + 1 })).badFrame b
  if 3 ≤ (d.port b).bad then d.linkFault b else d

/-- SLEEP_TX goes out where a PORT_SLEEP waits for it and no other head command is in flight (R323). -/
def Dev.sendSleepTx (d : Dev) (b : Nat) : Dev :=
  if (d.port b).cmd = 0 ∧ !(d.port b).rxSleep ∧ d.scn.sleeps.any (fun j => j.sleeps.contains b) then
    d.modPort b (fun (p : Port) => { p with cmd := 2, arg := 0 })
  else d

/-- ENUM goes out where a TRAINED port owes it (R324). -/
def Dev.sendEnum (d : Dev) (b : Nat) : Dev :=
  let p := d.port b
  if p.state = 2 ∧ p.seen ∧ p.enum = 0 ∧ p.cmd = 0 ∧ (d.mode.cur = .standby ∨ d.mode.cur = .hold) then
    d.modPort b (fun (p : Port) => { p with cmd := 1, arg := 0, enum := 1 })
  else d

/-- Entry to STANDBY or HOLD: every TRAINED port sends ENUM. -/
def Dev.enumAll (d : Dev) : Dev :=
  (List.range 16).foldl (fun d b =>
    (d.modPort b (fun (p : Port) => if p.state = 2 then { p with enum := 0, cmd := 0 } else p)).sendEnum b) d

/-- What a good frame reports (R317, R324). DEDUCED (log entry 50). -/
def Dev.goodFeedback (d : Dev) (b : Nat) (f : List Byte) : Dev :=
  let st := bytesAt f 1 1
  let first := !(d.port b).seen
  let was := d.port b
  let x := intAt f 4 3
  let y := intAt f 7 3
  let z := intAt f 10 3
  let d := (((d.wrN (SCN_PORT_ENC b 0) (unsigned 24 x)).wrN (SCN_PORT_ENC b 1) (unsigned 24 y)).wrN
    (SCN_PORT_ENC b 2) (unsigned 24 z)).wrN (SCN_PORT_TEMP b) (bytesAt f 13 3)
  let d := d.modPort b (fun (p : Port) => { p with
    bad := 0, good := true, badRun := bytesAt f 16 2, seen := true
    fault := st.testBit 3, hot := st.testBit 4 })
  let d := if first then d.modPort b (fun (p : Port) => { p with
      hx := x, hy := y, hz := z, lx := x, ly := y, lz := z, gx := x, gy := y, gz := z }) else d
  let d := if st.testBit 1 then ((d.count (SCN_PORT_CNT b 0) 1).laneErrs [b]).badFrame b else d
  let d := if st.testBit 3 ∧ !was.fault then d.raise 30 6 (BitVec.ofNat 32 b) else d
  let d := if st.testBit 4 ∧ !was.hot then d.fault 30 7 else d
  let d := d.endScn 6 (fun p => p.fault)
  if st.testBit 2 then d.linkFault b else d.sendEnum b

/-- FEEDBACK_FRAME: a frame of head b arrives. -/
def execFeedbackFrame (b : Fin 16) (f : FbFrame) (s : State) : Host.Outcome State Fault Refusal :=
  s.on (fun d =>
    let p := d.port b
    if (p.state ≠ 2 ∧ p.state ≠ 3) ∨ p.rxSleep then d
    else if frameGood f then d.goodFeedback b f.bytes
    else (d.modPort b (fun (p : Port) => { p with badIn := true })).badFeedback b)

/-- FEEDBACK_WINDOW_END: a window with no good frame counts as one bad frame, which a bad frame received in it already is.
DEDUCED (log entry 102). -/
def execFeedbackWindowEnd (b : Fin 16) (s : State) : Host.Outcome State Fault Refusal :=
  s.on (fun d =>
    let p := d.port b
    if (p.state ≠ 2 ∧ p.state ≠ 3) ∨ p.rxSleep then d
    else
      let d := d.modPort b (fun (p : Port) => { p with good := false, badIn := false })
      if p.good || p.badIn then d else d.badFeedback b)

/-! ## Head commands (R323 to R327) -/

/-- A failed ENUM: it is retried after 10 ms. DEDUCED (log entry 50). -/
def Dev.enumFailed (d : Dev) (b : Nat) : Dev :=
  ((d.modPort b (fun (p : Port) => { p with cmd := 0, arg := 0, enum := 2 })).fault 30 3).sendSleepTx b

/-- The port becomes READY: the generator starts from the reported position (R325). DEDUCED (log entry 50). -/
def Dev.scnReady (d : Dev) (b id cap : Nat) : Dev :=
  let enc (j : Nat) : Int := signed 24 (d.fld (SCN_PORT_ENC b j) 0 24)
  d.modPort b (fun (p : Port) => { p with
    state := 3, headId := id, cap := cap, prevHead := some id, chgId := none
    gx := enc 0, gy := enc 1, gz := enc 2, lx := enc 0, ly := enc 1, lz := enc 2
    return_ := d.mode.cur == .hold })

/-- The answer to ENUM (R324). -/
def Dev.enumResult (d : Dev) (b id cap : Nat) : Dev :=
  let d := d.modPort b (fun (p : Port) => { p with cmd := 0, arg := 0, enum := 3 })
  let hold := d.mode.cur == .hold
  if !hold && d.mode.cur != .standby then d.modPort b (fun (p : Port) => { p with enum := 0 })
  else if d.bit (LAS_CFG b) 30 && !cap.testBit 1 then (d.fault 30 4).enumFailed b
  else
    let p := d.port b
    let changed := match p.prevHead with | some h => h != id | none => false
    let d := if changed && p.chgId != some id then
        ((d.modPort b (fun (p : Port) => { p with chgId := some id })).setBit SCN_HEAD_CHG b true).fault 30 5
      else d
    if hold && p.prevHead != some id then d else d.scnReady b id cap

/-- PORT_SLEEPs whose ports are all done complete (R338). -/
def Dev.endSleeps (d : Dev) : Dev :=
  let ovr (j : SleepJob) : Bool := j.sleeps.isEmpty && j.wakes.isEmpty
  let done := d.scn.sleeps.filter ovr
  let d := { d with scn := { d.scn with sleeps := d.scn.sleeps.filter (fun j => !ovr j) } }
  done.foldl (fun d j => d.ok j.req 0 0 0 0) d

/-- Every PORT_SLEEP changed. -/
def Dev.modSleeps (d : Dev) (f : SleepJob → SleepJob) : Dev :=
  { d with scn := { d.scn with sleeps := d.scn.sleeps.map f } }

/-- HEAD_RESPONSE: head b answers the command it was sent; other responses are ignored. -/
def execHeadResponse (b : Fin 16) (rsp : BitVec 8) (data : List Byte) (s : State) :
    Host.Outcome State Fault Refusal :=
  s.on (fun d =>
    let p := d.port b
    if p.cmd = 0 ∨ rsp.toNat ≠ 0x80 + p.cmd ∨ (p.state ≠ 2 ∧ p.state ≠ 3) then d
    else if p.cmd = 1 then (d.enumResult b (bytesAt data 0 4) (bytesAt data 4 1 % 16)).sendSleepTx b
    else if p.cmd = 2 then
      ((d.modPort b (fun (p : Port) => { p with cmd := 0, arg := 0, rxSleep := true, good := false })).modSleeps
        (fun j => { j with sleeps := j.sleeps.filter (fun x => x != b.val) })).endSleeps
    else if p.cmd = 3 then d.modPort b (fun (p : Port) => { p with cmd := 0, arg := 0 })
    else (d.setEmit b false).modPort b (fun (p : Port) => { p with cmd := 0, arg := 0, state := 4 }))

/-- HEAD_CMD_TIMEOUT: a command was not answered within HEAD_TMO: a link fault; an unanswered ENUM has
failed. -/
def execHeadCmdTimeout (b : Fin 16) (s : State) : Host.Outcome State Fault Refusal :=
  s.on (fun d =>
    if (d.port b).cmd = 0 then d
    else
      let d := if (d.port b).cmd = 1 then d.fault 30 3 else d
      d.linkFault b)

/-- ENUM_RETRY: a failed ENUM is sent again, while the port stays trained in STANDBY or HOLD. -/
def execEnumRetry (b : Fin 16) (s : State) : Host.Outcome State Fault Refusal :=
  s.on (fun d =>
    if (d.port b).enum = 2 then (d.modPort b (fun (p : Port) => { p with enum := 0 })).sendEnum b else d)

/-- Directions of port b start to wake: the transmit side by training at its known rate, the receive side
by WAKE_TX (R326). -/
def Dev.startWake (d : Dev) (b : Nat) (tx rx : Bool) : Dev :=
  let d := if tx && (d.port b).txSleep then d.sendTraining true b false else d
  d.modPort b (fun (p : Port) => { p with
    wakeTx := p.wakeTx || (tx && p.txSleep), wakeRx := p.wakeRx || (rx && p.rxSleep)
    cmd := if rx && p.rxSleep then 3 else p.cmd, arg := if rx && p.rxSleep then 0 else p.arg })

/-- Port b has woken, or has exceeded its wake limit: a link fault (R327). -/
def Dev.wakeEnd (d : Dev) (b : Nat) (ok : Bool) : Dev :=
  let p := d.port b
  if !p.wakeTx && !p.wakeRx then d
  else if !ok then d.linkFault b
  else
    ((d.modPort b (fun (p : Port) => { p with
      txSleep := p.txSleep && !p.wakeTx, rxSleep := p.rxSleep && !p.wakeRx, wakeTx := false, wakeRx := false
      bad := 0, good := true, cmd := if p.cmd = 3 then 0 else p.cmd })).modSleeps
        (fun j => { j with wakes := j.wakes.filter (fun x => x != b) })).endSleeps

/-! ## Port commands (R338) -/

/-- The LIMIT of group 0x05 for a number that no variant has. -/
def scnLim : Nat := 0x05FF

/-- DEDUCED (log entry 73). -/
def cmdHeadJog : Cmd where
  check d q :=
    let b := q.a0.get 0 5
    firstFail (shape q [0x1F, anyW, anyW, 0xFFFF, anyW, 0xFF] none 0 ++ d.beamArg q [.standby] ++
      [fencedIf (decide (b < 16) && d.unserved (2 ^ b)), limitIf (decide (16 ≤ b)) scnLim,
       limitIf ((d.port b).state != 3) 0x0520,
       limitIf (!d.inActive b (signed 32 q.a1.toNat) (signed 32 q.a2.toNat)) 0x0521,
       limitIf (d.calSet q.a4.toNat (q.a5.get 0 8)).isNone scnLim])
  effect q _ d :=
    let b := q.a0.get 0 5
    let n := (d.engineOf b).getD 0
    let e := d.eng n
    let set := (d.calSet q.a4.toNat (q.a5.get 0 8)).getD []
    let dest := (signed 32 q.a1.toNat * 2 ^ 24, signed 32 q.a2.toNat * 2 ^ 24)
    let (err, d) := d.freeErr 1
    let from_ := match e.runs.getLast? with | some r => r.endPt | none => (e.px, e.py)
    let foc0 := match e.runs.getLast? with | some r => r.endFocus (d.zRamp n) | none => e.focus
    let (mv, t) := movePieces from_ dest set 0 (d.settle n) err
    let start := (e.runs.map (fun r => r.endTick)).foldl Nat.max (d.tick + 1)
    let r : Run :=
      { unit := default, start := start, pieces := mv ++ [holdPiece t 0 dest.1 dest.2 0], tOn := t, tOff := t, tEnd := t, holdAt := mv.length
        hold := 0, committed := true, delays := [], sync := 0, foc := [(0, signed 16 (q.a3.get 0 16))], focus := foc0
        started := false, ended := false, given := 0, cut := false, ffs := [], served := 0, late := false
        seq := e.seq + 1, pre := true, upTo := none }
    let d := d.modEng n (fun e => { e with runs := e.runs ++ [r], seq := r.seq })
    let d := { d with scn := { d.scn with jogs := d.scn.jogs ++ [(q, n, r.seq)] } }
    d.modPort b (fun (p : Port) => { p with jog := true })

/-- HEAD_JOG: the laser-off move runs with the strobes, and the command completes at rest. -/
def execHeadJog (r : Req) (e : Env) (s : State) : Host.Outcome State Fault Refusal :=
  s.command 0x0521 cmdHeadJog r e

/-- The ports of a mask are present. -/
def Dev.maskAbsent (d : Dev) (q : Req) : Bool × Nat × Nat :=
  absentIf (decide (2 ^ nBeams d.variant ≤ q.a0.toNat))

def cmdHeadMoor : Cmd where
  check d q := firstFail (shape q [0xFFFF] none 0 ++ [d.maskAbsent q, d.modeIs q [.standby]])
  effect q _ d :=
    let d := (bitList 16 q.a0.toNat).foldl (fun d b => (d.abortJog b).modPort b (fun (p : Port) => { p with jog := false })) d
    ({ d with scn := { d.scn with moors := d.scn.moors ++ [q] } }).finishMoors

/-- HEAD_MOOR. -/
def execHeadMoor (r : Req) (e : Env) (s : State) : Host.Outcome State Fault Refusal :=
  s.command 0x0522 cmdHeadMoor r e

def cmdPortSleep : Cmd where
  check d q :=
    let tx := q.a1.get 0 2
    let rx := q.a1.get 2 2
    firstFail (shape q [0xFFFF, 0xF] none 0 ++ [d.maskAbsent q, d.modeIs q [.standby, .service],
      limitIf (tx == 3 || rx == 3) scnLim,
      limitIf (rx == 2 && (bitList 16 q.a0.toNat).any (fun b =>
        (d.port b).rxSleep && (tx == 1 || ((d.port b).txSleep && tx != 2)))) 0x0522])
  effect q _ d :=
    let tx := q.a1.get 0 2
    let rx := q.a1.get 2 2
    let live (b : Nat) : Bool := (d.port b).state == 2 || (d.port b).state == 3
    let bs := (bitList 16 q.a0.toNat).filter live
    let sleeps := if rx = 1 then bs.filter (fun b => !(d.port b).rxSleep) else []
    let wakes := bs.filter (fun b => (tx == 2 && (d.port b).txSleep) || (rx == 2 && (d.port b).rxSleep))
    let d := wakes.foldl (fun d b => d.startWake b (tx == 2) (rx == 2)) d
    let d := if tx = 1 then bs.foldl (fun d b =>
        (d.modPort b (fun (p : Port) => { p with txSleep := true })).sendSleep b) d else d
    let d := { d with scn := { d.scn with sleeps := d.scn.sleeps ++ [SleepJob.mk q sleeps wakes] } }
    (sleeps.foldl (fun d b => d.sendSleepTx b) d).endSleeps

/-- PORT_SLEEP. -/
def execPortSleep (r : Req) (e : Env) (s : State) : Host.Outcome State Fault Refusal :=
  s.command 0x0523 cmdPortSleep r e

/-- SCN_PORTb_STATE. -/
def Dev.portWord (d : Dev) (b : Nat) : Nat :=
  let p := d.port b
  p.state * 2 ^ 28 + bitOf p.txSleep * 2 ^ 27 + bitOf p.rxSleep * 2 ^ 26 + bitOf p.polInv * 2 ^ 25
    + bitOf p.linkFault * 2 ^ 24 + (if p.state = 3 then p.cap else 0) * 2 ^ 20 + p.badRun

def cmdPortQuery : Cmd where
  check d q := firstFail (shape q [0x1F] none 0 ++ d.beamArg q allModes ++ [limitIf (decide (16 ≤ q.a0.get 0 5)) scnLim])
  effect q _ d :=
    let b := q.a0.get 0 5
    d.ok q (d.portWord b) (if (d.port b).state = 3 then (d.port b).headId else 0)
      (d.rd (SCN_PORT_CNT b 1)).toNat (d.rd (SCN_PORT_CNT b 0)).toNat

/-- PORT_QUERY. -/
def execPortQuery (r : Req) (e : Env) (s : State) : Host.Outcome State Fault Refusal :=
  s.command 0x0582 cmdPortQuery r e

/-! ## Counters (R318, R332) -/

/-- SCN_CNT_CLR: bit b zeroes port b's three counters. -/
def execScnCntClr (val : Word) (s : State) : Host.Outcome State Fault Refusal :=
  s.whenUp (fun d => (bitList (nBeams d.variant) val.toNat).foldl (fun d b =>
    ((d.wr (SCN_PORT_CNT b 0) 0).wr (SCN_PORT_CNT b 1) 0).wr (SCN_PORT_CNT b 2) 0) d)

/-- LAS_CNT_CLR: bit b zeroes beam b's two counters. -/
def execLasCntClr (val : Word) (s : State) : Host.Outcome State Fault Refusal :=
  s.whenUp (fun d => (bitList (nBeams d.variant) val.toNat).foldl (fun d b =>
    (d.wr (LAS_CNT b 0) 0).wr (LAS_CNT b 1) 0) d)

/-! ## SAFE, interlock, readback (R329, R336, R468) -/

/-- SAFE_MOOR_HOLD_EXPIRY: MOOR_HOLD has passed in SAFE; the generators take over. -/
def execSafeMoorHoldExpiry (s : State) : Host.Outcome State Fault Refusal :=
  s.on (fun d => if d.mode.cur = .safe then { d with scn := { d.scn with moorOk := true } } else d)

/-- ILK_OPEN: in CALIBRATE and BUILD it sets the latch (R336). -/
def Dev.ilkOpen (d : Dev) : Dev :=
  let d := if d.exposing then { d with scn := { d.scn with latch := true } } else d
  d.applyGate.fault 0 1

/-- ILK_N_LOW: the interlock input goes low for 10 ns or more. -/
def execIlkNLow (s : State) : Host.Outcome State Fault Refusal :=
  s.on (fun d => if d.scn.ilk then ({ d with scn := { d.scn with ilk := false } }).ilkOpen else d)

/-- ILK_N_HIGH: the condition of ILK_OPEN ends. -/
def execIlkNHigh (s : State) : Host.Outcome State Fault Refusal :=
  s.on (fun d => ({ d with scn := { d.scn with ilk := true } }).endCause 0 1)

/-- EMIT_READBACK: the EMIT_EN ball of beam b reads `level` on two consecutive checks. -/
def execEmitReadback (b : Fin 16) (level : Bool) (s : State) : Host.Outcome State Fault Refusal :=
  s.on (fun d => if decide (b.val < nBeams d.variant) && level != (d.laser b).emit then d.fault 0 3 else d)

end Sys2Proof.Machine
end

