-- ==== Sys2Proof/Machine/Dram.lean ====
section
/-! DEFINITION. The DRAM controller (12): training, the address map, the order of service, ECC, refresh,
power-down and scrub. -/

namespace Sys2Proof.Machine

def Dev.modDram (d : Dev) (f : Dram → Dram) : Dev := { d with dram := f d.dram }

/-- The next state of a command that acts on the device and its DRAM. -/
def State.onMem (s : State) (f : Dev → List Host.Cell → Dev × List Host.Cell) : Host.Outcome State Fault Refusal :=
  let r := f s.dev s.mem
  .next { s with dev := r.1, mem := r.2 }

/-- DRAM_STATUS.STATE. -/
def Dev.dramState (d : Dev) : Nat := d.fld DRAM_STATUS 0 3

/-! ## Address map (R346, R349, R350) -/

/-- Where a DRAM offset lies. -/
structure DramLoc where
  sc : Nat
  bg : Nat
  ba : Nat
  rank : Nat
  row : Nat
  col : Nat
  deriving DecidableEq, Repr

/-- Bit i of a field: its home bit XOR the parity of the row bits its mask selects. -/
def Dev.hashBit (d : Dev) (i row rowBits : Nat) (home : Bool) : Nat :=
  let m := BitVec.ofNat 32 (row % 2 ^ rowBits) &&& d.rd (DRAM_HASH i)
  (bitOf home + popCount m) % 2

/-- The map of R349 and R350. -/
def Dev.dramLoc (d : Dev) (a : Nat) : DramLoc :=
  let bgBits := if d.bit DRAM_GEOM 0 then 2 else 3
  let rankBits := bitOf (d.bit DRAM_GEOM 3)
  let rowBits := if d.bit DRAM_GEOM 1 then 17 else 16
  let row := bitsAt a (16 + bgBits + rankBits) rowBits
  let h (i at_ : Nat) : Nat := d.hashBit i row rowBits (a.testBit at_)
  { sc := h 0 6 + 2 * h 1 7
    bg := h 2 14 + 2 * h 3 15 + (if bgBits = 3 then 4 * h 4 16 else 0)
    ba := h 5 (14 + bgBits) + 2 * h 6 (15 + bgBits)
    rank := bitsAt a (16 + bgBits) rankBits
    row := row
    col := bitsAt a 8 6 }

/-- The rank-subchannel of a location. -/
def DramLoc.rs (l : DramLoc) : Nat := l.sc + 4 * l.rank

/-- The bank of a location, as one number. -/
def DramLoc.bank (l : DramLoc) : Nat := l.rs * 32 + l.bg * 4 + l.ba

/-! ## Training (R348, R362) -/

/-- The basin and the memory organisation keep the rules (R346, R348). DEDUCED (log entry 51). -/
def Dev.mapOk (d : Dev) : Bool :=
  let base := d.rd64 DRAM_BASIN_BASE_LO DRAM_BASIN_BASE_HI
  let mib := d.fld DRAM_BASIN_SIZE 0 15
  decide (d.dramBytes ≠ 0) && decide (base % 2 ^ 20 = 0) && decide (0x20000000 ≤ base) &&
  decide (64 ≤ mib) && decide (mib ≤ 16384) && decide (base + mib * 2 ^ 20 ≤ d.dramBytes)

/-- What is held in DRAM is lost: table slots, grids and profile copies (R362). DESIGN CHOICE (log entry 53). -/
def Dev.dramLose (d : Dev) : Dev :=
  { d with
    mode := { d.mode with dram := false }
    lay := { d.lay with slots := List.replicate 4 none }
    grids := List.replicate 16 default
    profiles := List.replicate 16 none }

/-- DRAM_TRAIN: DRAM_CTRL.TRAIN written. It is taken in CONFIGURE, and not while a training runs. -/
def execDramTrain (s : State) : Host.Outcome State Fault Refusal :=
  if s.dev.mode.boot < 4 ∨ s.dev.rcd.pfail ∨ s.dev.mode.cur ≠ .configure ∨ s.dev.dram.training then .next s
  else s.onMem (fun d _ =>
    let w := d.rd DRAM_STATUS
    let d := (d.wr DRAM_STATUS (((w.put 0 4 1).put 5 7 0))).dramLose
    (d.modDram (fun m => { m with training := true, queue := [], open_ := [] }), []))

/-- tREFI in time-stamp ticks (R356). -/
def Dev.trefi (d : Dev) : Nat := if d.bit DRAM_STATUS 4 then 31200 else 62400

/-- DRAM_TRAIN_DONE: training ends as the memory answered. PRESUMED (log entry 52). -/
def execDramTrainDone (t : DramTrain) (s : State) : Host.Outcome State Fault Refusal :=
  if s.dev.mode.boot = 0 ∨ s.dev.dram.training = false then .next s
  else s.onMem (fun d _ =>
    let d := d.modDram (fun m => { m with training := false })
    let d := (List.range 20).foldl (fun d k =>
      d.wr (DRAM_TRAIN (k / 5) (k % 5)) (t.results.getD k 0)) d
    match t.fail with
    | some (sc, lane) =>
      let d := ((d.setFld DRAM_STATUS 7 2 sc).setFld DRAM_STATUS 9 3 lane).setBit DRAM_STATUS 6 true
      let d := (d.setBit DRAM_STATUS 3 t.geomBad).setFld DRAM_STATUS 0 3 0
      (d.fault 27 5, [])
    | none =>
      let d := d.modDram (fun m => { m with
        down := List.replicate 8 false, refUntil := List.replicate 8 0
        refAt := (List.range 8).map (fun r => d.tb3 + (r + 1) * (d.trefi / 8)) })
      if d.mapOk then
        let d := d.setFld DRAM_STATUS 0 3 4
        ({ d with mode := { d.mode with dram := true } }, [])
      else (((d.setFld DRAM_STATUS 0 3 3).setBit DRAM_STATUS 5 true).fault 27 7, []))

/-! ## ECC (R358 to R361) -/

/-- A corrected burst is counted and reported. -/
def Dev.dramCorrected (d : Dev) : Dev := (d.count DRAM_CE_CNT 1).fault 27 1

/-- An uncorrectable burst is counted, and its offset kept. -/
def Dev.dramUe (d : Dev) (a : Nat) : Dev :=
  (d.count DRAM_UE_CNT 1).wr64 DRAM_UE_ADDR_LO DRAM_UE_ADDR_HI (a / 64 * 64)

/-- What the ECC of one burst does. -/
def Dev.eccRead (d : Dev) (a : Nat) : Ecc → Dev
  | .clean => d
  | .corrected => d.dramCorrected
  | .uncorrectable => d.dramUe a

/-- ECC_UE of a region. DEDUCED (log entry 51). -/
def Dev.eccUe (d : Dev) (region a : Nat) : Dev :=
  d.raise 27 2 (BitVec.ofNat 32 (region * 2 ^ 28 + a / 256 % 2 ^ 28))

/-- A record of a barge is poisoned: it and every later one stay not started. DEDUCED (log entry 51). -/
def Dev.basinPoison (d : Dev) (num id i : Nat) : Dev :=
  let d := d.modLayer num (fun l => { l with barges := l.barges.map (fun (b : Barge) =>
    if b.id = id then { b with lostFrom := some (Nat.min i (b.lostFrom.getD i)) } else b) })
  let cut (u : WUnit) : WUnit :=
    if u.cal.isSome || u.layer != num || u.barge != id then u
    else
      let k := (u.idxs.filter (fun j => decide (j < i))).length
      { u with recs := u.recs.take k, idxs := u.idxs.take k }
  let cuts (us : List WUnit) : List WUnit := (us.map cut).filter (fun u => !u.recs.isEmpty)
  { d with
    engines := d.engines.map (fun (e : Engine) => { e with queue := cuts e.queue })
    keeper := { d.keeper with
      halves := (d.keeper.halves.map (fun h => { h with unit := cut h.unit })).filter (fun h => !h.unit.recs.isEmpty)
      locks := d.keeper.locks.map (fun (k : LockQ) => { k with queue := cuts k.queue, wait := cuts k.wait }) } }

/-- A tile is poisoned, with its fault once per tile (R265); where its GEN is lost or it had none, its cells
refer to the present epoch. DEDUCED (log entry 55). -/
def Dev.poisonTile (d : Dev) (rep lost : Bool) (tn : Nat) : Dev :=
  match (if rep then d.ldg.replay else d.ldg.copy) with
  | none => d
  | some c =>
    let t := c.tile tn
    if t.poison ∨ d.ldgTx * d.ldgTy ≤ tn then d
    else
      let c := c.setTile tn { t with poison := true, gen := if lost || t.empty then c.gen else t.gen }
      let d := if rep then { d with ldg := { d.ldg with replay := some c } }
        else { d with ldg := { d.ldg with copy := some c } }
      d.fault 21 2

/-- A poisoned burst of a ledger copy: one tile's cells, or the directory entries of sixteen tiles. -/
def Dev.ledgerPoison (d : Dev) (a : Nat) : Dev :=
  let rep := decide (d.ldgRbase ≠ 0) && decide (d.ldgRbase ≤ a) && decide (a < d.ldgRbase + d.ldgBytes)
  let o := a - (if rep then d.ldgRbase else d.ldgBase)
  if o < 4 * 2 ^ 20 then (List.range 16).foldl (fun d k => d.poisonTile rep true (o / 64 * 16 + k)) d
  else d.poisonTile rep false ((o - 4 * 2 ^ 20) / 4096)

/-- An uncorrectable error strikes a tile in the tile cache: the report's payload names it as the cache does, of the copy
in use (R243, R265). A tile that is not cached has none. DEDUCED (log entry 55). -/
def Dev.cachePoison (d : Dev) (tn : Nat) : Dev :=
  if d.ldg.cache.any (fun p => p.1 == 2 * tn + bitOf d.onReplay) then d.poisonTile d.onReplay false tn else d

/-- GRID_LOST on engine n: no tick of the segment in planning is made from here on, so that it underruns at the first of
its ticks that is not (R197, R165). -/
def Dev.gridLost (d : Dev) (n : Nat) (payload : Word) : Dev :=
  let d := match d.beamOf n with
    | some b => d.modGrids b (fun g => { g with lost := true })
    | none => d
  let d := if d.exposing && !d.fencedUnit n then
      match (d.eng n).segment with
      | some (u, i) => (d.discardSegment n (u.segKey i)).modEng n (fun e => { e with stuck := some (u.segKey i) })
      | none => d
    else d
  d.raise (n + 2) 0x0B payload

/-- A node of beam b's grid was read badly (R196). -/
def Dev.gridPoison (d : Dev) (b : Nat) (mirrorBad : Bool) : Dev :=
  match d.engineOf b with
  | none => d
  | some n =>
    if mirrorBad then
      let (x, d) := d.free
      d.gridLost n (BitVec.ofNat 32 x)
    else d.fault (n + 2) 0x0A

/-- The oldest entry of a ring's spill area is lost, and the ring fetches nothing more. DEDUCED (log entry 54). -/
def Dev.spillPoison (d : Dev) (n : Nat) : Dev :=
  d.modRing n (fun r => if r.spill.isEmpty then { r with held := r.held.drop 1, stopped := true }
    else { r with spill := r.spill.drop 1, stopped := true })

/-- The item of a record that holds byte o of its body becomes a LOST item (R508). DEDUCED (log entry 54). -/
def loseItem : Nat → List (Nat × List Byte) → List (Nat × List Byte)
  | _, [] => [(10, leBytes 4 64)]
  | o, (t, b) :: is => if o < b.length then (10, leBytes 4 b.length) :: is else (t, b) :: loseItem (o - b.length) is

/-- Staging is lost: the record being built, or the last one closed and not emitted, is marked incomplete. DEDUCED (log
entry 54). DEDUCED (log entry 54). -/
def Dev.stagingPoison (d : Dev) (a : Nat) : Dev :=
  let hit (w : Woram) : Woram := { w with items := loseItem (a - 0x11000000) w.items, flags := w.flags ||| 4 }
  match d.woram with
  | none => { d with closing := modAt d.closing (d.closing.length - 1) hit }
  | some w => { d with woram := some (hit w) }

/-- The mirror copy of an offset (R347, R359); none where the use is not mirrored. -/
def mirrorOf (use : DramUse) (a : Nat) : Option Nat :=
  match use with
  | .grid => some (a + 2 * 2 ^ 20)
  | .spill => some (a + 64 * 2 ^ 20)
  | .staging => some (a + 32 * 2 ^ 20)
  | _ => none

/-- Bytes written to an offset, and to its mirror where the use is mirrored (R359). DEDUCED (log entry 51). -/
def writeCopies (use : DramUse) (m : List Host.Cell) (a : Nat) (bs : List Byte) : List Host.Cell :=
  match mirrorOf use a with
  | some c => memWrite (memWrite m a bs) c bs
  | none => memWrite m a bs

/-- A poisoned read is handled by the region it falls in (R361). `mirrorBad`: the mirror is poisoned too. -/
def Dev.poisoned (d : Dev) (q : DramReq) (mirrorBad : Bool) : Dev :=
  let a := q.addr.toNat
  match q.use with
  | .basin num id i => (d.basinPoison num id i).eccUe 0 a
  | .ledger => (d.ledgerPoison a).eccUe 1 a
  | .grid =>
    let d := d.gridPoison (a / (8 * 2 ^ 20) % 16) mirrorBad
    if mirrorBad then d.eccUe 2 a else d
  | .table i => (d.setSlot i none).eccUe 3 a
  | .profile b => ({ d with profiles := modAt d.profiles b (fun _ => none) }).eccUe 4 a
  | .spill => if mirrorBad then (d.spillPoison (a / 2 ^ 20 % 64)).eccUe 5 a else d
  | .staging => if mirrorBad then (d.stagingPoison a).eccUe 6 a else d
  | .other => d.eccUe 7 a

/-- A read has come back poisoned: that of a primary copy is repeated on the mirror (R359). -/
def Dev.badRead (d : Dev) (q : DramReq) : Dev :=
  match mirrorOf q.use q.addr.toNat with
  | none => d.poisoned q true
  | some m => (d.eccRead m q.mirror).poisoned q (q.mirror == .uncorrectable)

/-- A read with what its ECC finds. -/
def Dev.dramRead (d : Dev) (q : DramReq) : Dev :=
  let a := q.addr.toNat
  let d := d.eccRead a q.ecc
  let d := if q.use = .ledger ∧ q.ecc = .corrected then d.fault 21 1 else d
  if q.ecc = .uncorrectable then d.badRead q else d

/-! ## Service (R351 to R354, R357) -/

/-- The rank of a request is not refreshing, and no older request is to the same burst. -/
def Dev.dramReady (d : Dev) (sc i : Nat) : Option (DramWait × DramLoc) :=
  match d.dram.queue[i]? with
  | none => none
  | some w =>
    let l := d.dramLoc w.req.addr.toNat
    if l.sc = sc ∧ d.dram.refUntil.getD l.rs 0 ≤ d.tb3 ∧
        !(d.dram.queue.take i).any (fun o => o.req.addr.toNat / 64 == w.req.addr.toNat / 64) then some (w, l)
    else none

/-- A request of a beam engine whose buffer is below half full (R25, R353). -/
def Dev.refillLow (d : Dev) (q : DramReq) : Bool := q.prio == 0 && decide (d.beBuf q.engine < 262144)

/-- The position in the queue of the request that subchannel sc serves next: a reserved slot's by R353, else
by R352. DEDUCED (log entry 51). -/
def Dev.dramPick (d : Dev) (sc : Nat) : Option (Nat × Bool) :=
  let c := (List.range d.dram.queue.length).filterMap (fun i => (d.dramReady sc i).map (fun x => (i, x.1.req, x.2)))
  let period := d.fld DRAM_SCHED 0 6 * 16
  let low := c.filter (fun x => d.refillLow x.2.1)
  if !low.isEmpty && d.dram.slot.getD sc 0 != d.tb3 / Nat.max 1 period + 1 then
    let last := d.dram.lastEng.getD sc 0
    let turn (e : Nat) : Nat := (e + 18 - last - 1) % 18
    let best := low.foldl (fun m x => Nat.min m (turn x.2.1.engine)) 18
    (low.find? (fun x => turn x.2.1.engine == best)).map (fun x => (x.1, true))
  else
    let prio := c.foldl (fun m x => Nat.min m x.2.1.prio) 4
    let top := c.filter (fun x => x.2.1.prio.val == prio)
    let hit (l : DramLoc) : Bool := bankGet d.dram.open_ l.bank == some l.row
    match top.find? (fun x => hit x.2.2) with
    | some x => some (x.1, false)
    | none => (top.head?).map (fun x => (x.1, false))

/-- The request at position i of the queue is served: a powered-down rank wakes, its row opens. -/
def Dev.dramServe (d : Dev) (sc i : Nat) (reserved : Bool) (m : List Host.Cell) : Dev × List Host.Cell :=
  match d.dram.queue[i]? with
  | none => (d, m)
  | some w =>
    let q := w.req
    let l := d.dramLoc q.addr.toNat
    let d := d.modDram (fun r => { r with
      queue := r.queue.eraseIdx i
      down := r.down.set l.rs false
      open_ := bankSet r.open_ l.bank l.row
      slot := r.slot.set sc (d.tb3 / Nat.max 1 (d.fld DRAM_SCHED 0 6 * 16) + 1)
      lastEng := if reserved then r.lastEng.set sc q.engine else r.lastEng })
    match q.data with
    | some bs => (d, writeCopies q.use m q.addr.toNat (bs.take (64 - q.addr.toNat % 64)))
    | none => (d.dramRead q, m)

/-- DRAM_REQUEST: requests reach the controller, and subchannel `sc` serves one. DEDUCED (log entry 51). -/
def execDramRequest (arrive : List DramReq) (sc : Fin 4) (s : State) : Host.Outcome State Fault Refusal :=
  if s.dev.mode.boot = 0 ∨ s.dev.dramState < 3 then .next s
  else s.onMem (fun d m =>
    let d := d.modDram (fun r => { r with queue := r.queue ++ arrive.map (fun q => DramWait.mk q d.tb3) })
    match d.dramPick sc with
    | some (i, reserved) => d.dramServe sc i reserved m
    | none => (d, m))

/-- DRAM_TIMEOUT: the oldest request of subchannel `sc` is not complete 50 µs after it reached the
controller: its requester takes it as poisoned. DEDUCED (log entry 51). -/
def execDramTimeout (sc : Fin 4) (s : State) : Host.Outcome State Fault Refusal :=
  s.on (fun d =>
    match d.dram.queue.findIdx? (fun w => (d.dramLoc w.req.addr.toNat).sc == sc.val) with
    | none => d
    | some i =>
      match d.dram.queue[i]? with
      | none => d
      | some w =>
        let d := (d.advanceTo (w.at_ + 50 * perUs)).modDram (fun r => { r with queue := r.queue.eraseIdx i })
        let d := d.fault 27 4
        if w.req.data.isSome then d else d.badRead w.req)

/-! ## Refresh, power-down, scrub (R355 to R357, R360) -/

/-- The rank of a rank-subchannel is fitted, and the memory runs. -/
def Dev.rankRuns (d : Dev) (r : Nat) : Bool := decide (3 ≤ d.dramState) && (decide (r < 4) || d.bit DRAM_GEOM 3)

/-- REFRESH: rank-subchannel r takes its all-bank refresh at its instant, and accepts nothing for tRFC.
PRESUMED (log entry 52). -/
def execRefresh (r : Fin 8) (s : State) : Host.Outcome State Fault Refusal :=
  s.on (fun d =>
    if !d.rankRuns r then d
    else
      let d := d.advanceTo (d.dram.refAt.getD r 0)
      let trfc := if d.bit DRAM_GEOM 1 then 410 * 16 else 295 * 16
      d.modDram (fun m => { m with
        refUntil := m.refUntil.set r (d.tb3 + trfc)
        refAt := m.refAt.set r (m.refAt.getD r 0 + d.trefi)
        open_ := m.open_.filter (fun b => b.1 / 32 != r.val) }))

/-- MR4_POLL: whether any rank reports a case temperature above 85 °C. -/
def execMr4Poll (hot : Bool) (s : State) : Host.Outcome State Fault Refusal :=
  s.on (fun d =>
    if d.dramState < 3 then d
    else
      let was := d.bit DRAM_STATUS 4
      let d := d.setBit DRAM_STATUS 4 hot
      if hot && !was then d.fault 27 6 else d)

/-- POWER_DOWN_ENTRY: rank-subchannel r has had no request for PD_IDLE. -/
def execPowerDownEntry (r : Fin 8) (s : State) : Host.Outcome State Fault Refusal :=
  s.on (fun d =>
    let busy := d.dram.queue.any (fun w => (d.dramLoc w.req.addr.toNat).rs == r.val)
    if !d.rankRuns r || d.fld DRAM_PWR 0 16 == 0 || busy then d
    else d.modDram (fun m => { m with down := m.down.set r true }))

/-- SCRUB_READ: the scrubber reads the burst at an offset; a corrected burst is written back as it was
stored, and nothing for a poisoned one. -/
def execScrubRead (off : BitVec 36) (ecc : Ecc) (s : State) : Host.Outcome State Fault Refusal :=
  s.on (fun d =>
    if d.dramState < 3 ∨ !d.bit DRAM_SCRUB 31 ∨ d.dramBytes ≤ off.toNat then d
    else
      let l := d.dramLoc off.toNat
      let d := (d.modDram (fun r => { r with down := r.down.set l.rs false, open_ := bankSet r.open_ l.bank l.row })).eccRead
        off.toNat ecc
      if ecc = .uncorrectable then d.fault 27 3 else d)

/-- DRAM_CNT_CLR: bit k zeroes counter k. -/
def execDramCntClr (val : Word) (s : State) : Host.Outcome State Fault Refusal :=
  s.whenUp (fun d =>
    let d := if val.bit 0 then d.wr DRAM_CE_CNT 0 else d
    if val.bit 1 then d.wr DRAM_UE_CNT 0 else d)

end Sys2Proof.Machine
end

