-- ==== Sys2Proof/Machine/Bist.lean ====
section
/-! DEFINITION. Life-cycle, memory BIST and repair (20). -/

namespace Sys2Proof.Machine

/-! ## Life-cycle (R522 to R525) -/

/-- The fuses after the group of a transition is blown; none for a transition R523 does not allow. -/
def Fuses.advance (f : Fuses) (target confirm : Nat) : Option Fuses :=
  match f.state, target with
  | 0, 1 => some { f with manuf := true }
  | 1, 2 => some { f with deploy := true }
  | 2, 3 => if f.entries < 7 then some { f with entries := f.entries + 1 } else none
  | 3, 2 => some { f with returns := f.returns + 1 }
  | 4, _ => none
  | _, 4 => if confirm = 0x52544952 then some { f with retire := true } else none
  | _, _ => none

/-- The authorisation of R524 verifies. -/
def authorised (f : Fuses) (b : List Byte) : Bool :=
  let key := b.take 96
  BitVec.ofNat 384 (beNat (sha384 key)) == Config.vendorKeyHash &&
    ecdsaVerify (beNat (key.take 48)) (beNat (key.drop 48)) (beNat ((b.drop 96).take 48))
      (beNat ((b.drop 144).take 48)) (sha384 (devIdBytes ++ [3] ++ leBytes 1 f.entries))

/-- While memory BIST runs, the commands of the chapter are refused (R533). -/
def Dev.bistBusy (d : Dev) : Bool × Nat × Nat := limitIf d.bist.run.isSome 0x0C05

/-- DEDUCED (log entry 34). -/
def cmdLcAdvance : Cmd where
  check d q :=
    let target := q.a0.get 0 3
    firstFail (shape q [7, if target = 4 then 0xFFFFFFFF else 0] (if target = 3 then some 192 else none) 0 ++
      [(decide (192 < q.dataLen), stMalformed, 0x0004),
       deniedIf (d.lcState == 4), d.modeIs q [.service], d.bistBusy,
       ((d.bist.fuses.advance target q.a1.toNat).isNone, stDenied, 0x0C01)])
  effect q e d :=
    let target := q.a0.get 0 3
    if target = 3 ∧ !authorised d.bist.fuses e.data then d.fail q stDenied 0x0C03
    else
      match d.bist.fuses.advance target q.a1.toNat with
      | none => d.fail q stDenied 0x0C01
      | some f =>
        if e.ok then ({ d with bist := { d.bist with fuses := f } }).ok q 0 0 0 0
        else (d.fault 37 4).fail q stLimit 0x0C02

/-- LC_ADVANCE; `e.ok`: a fuse of the group reads blown. -/
def execLcAdvance (r : Req) (e : Env) (s : State) : Host.Outcome State Fault Refusal :=
  s.command 0x0C01 cmdLcAdvance r e

/-- BIST_LC. -/
def Dev.bistLc (d : Dev) : Nat :=
  let l := d.bist.latched
  l.state + (if d.bist.fuses = l then 0 else 0x80 + d.bist.fuses.state * 16) + l.entries * 256 + l.returns * 4096

/-! ## Memory BIST (R529) -/

/-- MBIST_RUN and REPAIR_STORE are open in MANUFACTURE and SERVICE (R525). -/
def Dev.bistOpen (d : Dev) : Bool := d.lcState == 1 || d.lcState == 3

/-- The islands of the variant (R527). -/
def islandPresent (v : Config.Variant) (i : Nat) : Bool :=
  if i < 18 then decide (i < nEngines v) else if i = 27 then decide (0 < nByoft v) else decide (i < 28)

def cmdMbistRun : Cmd where
  check d q := firstFail (shape q [0x0FFFFFFF] none 0 ++
    [absentIf ((bitList 28 q.a0.toNat).any (fun i => !islandPresent d.variant i)),
     deniedIf (!d.bistOpen), d.modeIs q [.service], d.bistBusy])
  effect q e d :=
    let d := ({ d with bist := { d.bist with run := some (q, e.blob), mbist := [] } }).wrN BIST_MBIST_STATUS (2 ^ 28)
    if d.rcd.mram.usable then d.flushFor q else d.mbistEnd q

/-- MBIST_RUN: the recorder is flushed, and the test ends with that flush; `e.blob` is the failures found, 16 bytes
each. DESIGN CHOICE (log entry 106). -/
def execMbistRun (r : Req) (e : Env) (s : State) : Host.Outcome State Fault Refusal :=
  s.command 0x0C02 cmdMbistRun r e

/-- BIST_MEM_SELECT: BIST_MEM_INFO of a memory ID. -/
def execBistMemSelect (id : BitVec 10) (s : State) : Host.Outcome State Fault Refusal :=
  s.whenUp (fun d => d.wr BIST_MEM_INFO (Config.memInfo id.toNat))

/-! ## Repair maps (R530, R531) -/

/-- One entry of a map is within its memory. DEDUCED (log entry 21). -/
def repairEntryOk (b : List Byte) : Bool :=
  let info := Config.memInfo (bytesAt b 0 2)
  let kind := bytesAt b 2 1
  let spare := bytesAt b 3 1
  let index := bytesAt b 4 4
  decide (bytesAt b 0 2 < 1024) && info.get 8 5 != 0 &&
    (if kind = 0 then decide (spare < info.get 22 4) && decide (index < 2 ^ (info.get 8 5 - info.get 13 5))
     else if kind = 1 then decide (spare < info.get 18 4) && decide (index < info.get 0 8 * 2 ^ info.get 13 5)
     else false)

/-- Blocks of 8 bytes. -/
def blocks8 : Nat → List Byte → List (List Byte)
  | 0, _ => []
  | n + 1, b => b.take 8 :: blocks8 n (b.drop 8)

/-- No two entries name the same spare of the same memory and kind. -/
def sparesDistinct : List (List Byte) → Bool
  | [] => true
  | b :: bs => bs.all (fun c => c.take 4 != b.take 4) && sparesDistinct bs

/-- The status of a map: OK, CRC_FAIL or MALFORMED (R531). DEDUCED (log entry 21). -/
def repairCheck (b : List Byte) : Nat :=
  let n := bytesAt b 6 2
  let entries := (b.drop 64).take (8 * n)
  if b.length < 64 ∨ bytesAt b 0 4 ≠ 0x52455150 ∨ bytesAt b 4 2 ≠ 1 ∨ 1024 < n ∨ b.length ≠ 64 + 8 * n
      ∨ !allZero ((b.drop 32).take 28) then stMalformed
  else if crc32c (b.take 60) ≠ bytesAt b 60 4 ∨ crc32c entries ≠ bytesAt b 28 4 then stCrc
  else
    let es := blocks8 n entries
    if (b.drop 12).take 16 = devIdBytes ∧ es.all repairEntryOk ∧ sparesDistinct es then stOk else stMalformed

/-- A map is in force; `from_` is BIST_REPAIR_STATUS.STATE. DESIGN CHOICE (log entry 82). -/
def Dev.mapInForce (d : Dev) (b : List Byte) (from_ : Nat) : Dev :=
  ({ d with bist := { d.bist with map := b }, mode := { d.mode with repair := true } }).wrN
    BIST_REPAIR_STATUS (from_ * 2 ^ 28 + bytesAt b 6 2)

/-- A host map failed with a status code: the map in force stays. -/
def Dev.mapRefused (d : Dev) (code : Nat) : Dev :=
  (d.setFld BIST_REPAIR_STATUS 28 4 3).setFld BIST_REPAIR_STATUS 16 8 code

/-- REPAIR_APPLY: a write of BIST_REPAIR_CTRL.APPLY with the map as fetched, none where the fetch
failed. Accepted only in CONFIGURE and before FW_SUP = 1 (R62).
DEDUCED (log entry 19), DESIGN CHOICE (log entry 82). -/
def execRepairApply (map : Option (List Byte)) (s : State) : Host.Outcome State Fault Refusal :=
  s.whenUp (fun d =>
    if d.mode.cur ≠ .configure ∨ d.mode.fwSup then d.mapRefused stReject
    else
      match map with
      | none => (d.send (.aer true)).mapRefused stTimeout
      | some b =>
        let b := b.take (d.fld BIST_REPAIR_LEN 0 14)
        if b.length ≠ d.fld BIST_REPAIR_LEN 0 14 then d.mapRefused stMalformed
        else if repairCheck b = stOk then d.mapInForce b 2
        else d.mapRefused (repairCheck b))

def cmdRepairStore : Cmd where
  check d q := firstFail (shape q [] none 0 ++ [deniedIf (!d.bistOpen), d.modeIs q [.service], d.bistBusy])
  effect q e d :=
    if !d.rcd.mram.usable then d.fail q stTimeout 0x0C04
    else
      match e.xspi with
      | .ok =>
        let m := d.rcd.mram
        ({ d with rcd := { d.rcd with mram := { m with repairCopy := d.bist.map } } }).ok q 0 0 0 0
      | .badVerify => ((d.shadowLog 2 0x20000).fault 36 2).fail q stTimeout 0x0C04
      | .noResponse => ((d.shadowLog 3 0x20000).fault 36 2).fail q stTimeout 0x0C04

def execRepairStore (r : Req) (e : Env) (s : State) : Host.Outcome State Fault Refusal :=
  s.command 0x0C03 cmdRepairStore r e

def cmdBistQuery : Cmd where
  check d q := firstFail (shape q [1] none (if q.a0.bit 0 then 4096 else 0) ++ [d.modeIs q allModes, d.bistBusy])
  effect q _ d :=
    let b := if q.a0.bit 0 then (d.bist.mbist.flatten ++ List.replicate 4096 0).take 4096 else []
    d.okData q b d.bistLc (d.rd BIST_LBIST_FAIL).toNat 0 0

def execBistQuery (r : Req) (e : Env) (s : State) : Host.Outcome State Fault Refusal :=
  s.command 0x0C80 cmdBistQuery r e

end Sys2Proof.Machine
end

