-- ==== Sys2Proof/Machine/Time.lean ====
section
/-! DEFINITION. The time unit (14): TB3 kept to TB1, network time, timed outputs and captures. -/

namespace Sys2Proof.Machine

def Dev.modTime (d : Dev) (f : TimeCtl → TimeCtl) : Dev := { d with time := f d.time }

def Dev.tout (d : Dev) (i : Nat) : Tout := d.time.outs.getD i default

def Dev.modTout (d : Dev) (i : Nat) (f : Tout → Tout) : Dev :=
  d.modTime (fun c => { c with outs := modAt c.outs i f })

/-- The count of base k. -/
def Dev.base (d : Dev) (k : Nat) : Nat :=
  if k = 0 then d.tb0 else if k = 1 then d.time.tb1 else if k = 2 then d.time.tb2 else d.tb3

/-- TIME_STATUS.TB1_STATE: 0 FREE, 1 LOCKING, 2 LOCKED, 3 HOLDOVER. -/
def Dev.tb1State (d : Dev) : Nat := d.fld TIME_STATUS 30 2

/-- TB1_STATE changes; a layer in which TB1 is out of LOCKED is flagged (R404). -/
def Dev.setTb1State (d : Dev) (x : Nat) : Dev :=
  let d := d.setFld TIME_STATUS 30 2 x
  if x = 2 then d
  else { d with woram := d.woram.map (fun w => { w with flags := w.flags ||| 1 }) }

/-! ## Timed outputs (R405 to R408) -/

/-- The next active edge is shown. -/
def Dev.showNext (d : Dev) (i : Nat) : Dev := d.wr64 (TIME_TOUT_NEXT_LO i) (TIME_TOUT_NEXT_HI i) (d.tout i).next

/-- Edges passed by count `now` are skipped and counted; a one-shot so passed ends LATE (R406, R407). -/
def Dev.skipEdges (d : Dev) (i now : Nat) : Dev :=
  let o := d.tout i
  if d.bit (TIME_TOUT_CFG i) 30 then
    let k := (now - o.next) / Nat.max 1 o.period + 1
    ((d.count (TIME_TOUT_SKIP_CNT i) k).modTout i (fun x => { x with next := x.next + k * x.period })).showNext i
  else (d.setBit (TIME_TOUT_CFG i) 31 false).setBit (TIME_TOUT_CFG i) 28 true

/-- Base k has stepped from `old`: what was passed is skipped. -/
def Dev.toutStep (d : Dev) (k old : Nat) : Dev :=
  (List.range 8).foldl (fun d i =>
    if d.bit (TIME_TOUT_CFG i) 31 && d.fld (TIME_TOUT_CFG i) 24 2 == k && decide (old ≤ (d.tout i).next) &&
        decide ((d.tout i).next < d.base k) then d.skipEdges i (d.base k) else d) d

/-- TIME_TOUT_STOPs whose pulses have all ended complete. -/
def Dev.endStops (d : Dev) : Dev :=
  let ovr (q : Req) : Bool := (bitList 8 q.a0.toNat).all (fun i =>
    match (d.tout i).pulse with | some t => decide (t ≤ d.tb0) | none => true)
  let done := d.time.stops.filter ovr
  let d := d.modTime (fun c => { c with stops := c.stops.filter (fun q => !ovr q) })
  done.foldl (fun d q => d.ok q 0 0 0 0) d

/-- TOUT_EDGE: output i reaches its next active edge and pulses; one on TB2 waits for TB2 to run. -/
def execToutEdge (i : Fin 8) (s : State) : Host.Outcome State Fault Refusal :=
  s.on (fun d =>
    if !d.bit (TIME_TOUT_CFG i) 31 || (d.fld (TIME_TOUT_CFG i) 24 2 == 2 && !d.time.tb2Run) then d
    else
      let o := d.tout i
      let k := d.fld (TIME_TOUT_CFG i) 24 2
      let d := d.advanceTo (d.tb3 + (o.next - d.base k))
      let d := d.send (.tout i k o.next o.width (d.bit (TIME_TOUT_CFG i) 29))
      let d := d.modTout i (fun x => { x with pulse := some (d.tb0 + x.width), next := x.next + x.period })
      (if d.bit (TIME_TOUT_CFG i) 30 then d.showNext i else d.setBit (TIME_TOUT_CFG i) 31 false).endStops)

def cmdTimeToutArm : Cmd where
  check d q :=
    let per := q.a0.bit 8
    firstFail (shape q [0x337, anyW, anyW, anyW, anyW] none 0 ++
      [d.modeIs q [.configure, .standby, .calibrate, .build, .hold, .service],
       limitIf (decide (q.a4.toNat < 10) || (per && (decide (q.a3.toNat < 100) || decide (q.a3.toNat ≤ q.a4.toNat)))) 0x0902,
       limitIf (q.a0.get 4 2 == 2 && !d.time.tb2Run) 0x0903])
  effect q _ d :=
    let i := q.a0.get 0 3
    let k := q.a0.get 4 2
    let start := q.a1.toNat + q.a2.toNat * 2 ^ 32
    let per := q.a0.bit 8
    let cfg := d.rd (TIME_TOUT_CFG i)
    let cfg := (((cfg.put 24 8 k).putBit 29 (q.a0.bit 9)).putBit 30 per).putBit 31 true
    let d := ((d.wr (TIME_TOUT_CFG i) cfg).wr (TIME_TOUT_PERIOD i) q.a3).wr (TIME_TOUT_WIDTH i) q.a4
    let d := (d.modTout i (fun x => { x with
      next := start, period := if per then q.a3.toNat * 16 else 0, width := q.a4.toNat * 16 })).showNext i
    let d := if start < d.base k then (d.skipEdges i (d.base k)).fault 35 7 else d
    d.ok q 0 0 0 0

/-- TIME_TOUT_ARM. -/
def execTimeToutArm (r : Req) (e : Env) (s : State) : Host.Outcome State Fault Refusal :=
  s.command 0x0902 cmdTimeToutArm r e

def cmdTimeToutStop : Cmd where
  check d q := firstFail (shape q [0xFF] none 0 ++ [d.modeIs q allModes])
  effect q _ d :=
    let d := (bitList 8 q.a0.toNat).foldl (fun d i => d.setBit (TIME_TOUT_CFG i) 31 false) d
    (d.modTime (fun c => { c with stops := c.stops ++ [q] })).endStops

/-- TIME_TOUT_STOP. -/
def execTimeToutStop (r : Req) (e : Env) (s : State) : Host.Outcome State Fault Refusal :=
  s.command 0x0903 cmdTimeToutStop r e

/-! ## Steps of TB3 and TB1 (R397 to R399, R403) -/

/-- TB3 steps: the ledger's epochs move with it, and everything stamped before is released ahead of the
TB3_STEP event (R399). DEDUCED (log entry 56), DEDUCED (log entry 59). -/
def Dev.stepTb3 (d : Dev) (by_ : Int) : Dev :=
  let old := d.tb3
  let add (t : Nat) : Nat := ((t : Int) + by_).toNat
  let move (c : LCopy) : LCopy := { c with
    starts := c.starts.map (fun p => (p.1, add p.2)), layerStart := c.layerStart.map add }
  let d := d.releaseAll
  let d := { d with
    tb3 := add d.tb3
    ldg := { d.ldg with copy := d.ldg.copy.map move, replay := d.ldg.replay.map move } }
  let d := if d.ldg.copy.isSome then d.ldgRegs else d
  (d.raise 35 5 (BitVec.ofInt 32 by_)).toutStep 3 old

/-- TB1 steps; TB2 does not follow (R392). -/
def Dev.stepTb1 (d : Dev) (by_ : Int) : Dev :=
  let old := d.time.tb1
  (d.modTime (fun c => { c with tb1 := unsigned 64 ((c.tb1 : Int) + by_) })).toutStep 1 old

/-- This device is in a step window (R397). -/
def Dev.stepWindow (d : Dev) : Bool :=
  d.lay.opened.isEmpty && d.replay.isNone && (d.mode.cur == .configure || d.mode.cur == .standby || d.mode.cur == .service)

/-- One REFCLK cycle (R393): TB0 adds 640, TB1 640 × (1 + FREQ), and TB3 slews. DEDUCED (log entry 56). -/
def Dev.refCycle (d : Dev) : Dev :=
  let gap := d.tb3Gap
  let acc1 := d.time.rem1 + 640 * d.rate1
  let run := acc1 / 2 ^ 41
  let acc := d.time.remSlew + run * d.slewPpm
  let s := clampInt (-((acc / 1000000 : Nat) : Int)) (acc / 1000000 : Nat) gap
  (d.pass 640 run s).modTime (fun c => { c with
    rem1 := acc1 % 2 ^ 41, remSlew := if gap = 0 then 0 else acc % 1000000 })

/-- TB3_COMPARE: a REFCLK cycle in which a master or single device compares TB3 with TB1. `peersOpen`: every
admitted member is in a step window. DEDUCED (log entry 56). -/
def execTb3Compare (peersOpen : Bool) (s : State) : Host.Outcome State Fault Refusal :=
  s.on (fun d =>
    if d.mode.boot < 2 then d
    else
      let d := d.refCycle.endStops
      let diff := (d.time.tb1 : Int) - d.tb3
      let lock := (d.rd TIME_LOCK_LIM).toNat * 16
      let d := d.setBit TIME_STATUS 29 (decide (diff.natAbs ≤ lock))
      if d.time.follows then d
      else if d.stepWindow && (d.members.isEmpty || peersOpen) then
        let d := d.modTime (fun c => { c with apart := false })
        let k := divRound diff 8000 * 8000
        if diff.natAbs ≤ (d.rd TIME_STEP_LIM).toNat * 16 ∨ k = 0 ∨ d.time.stepAt.isSome then d
        else if d.members.isEmpty then d.stepTb3 k
        else
          let at_ := ((d.tb3 + 100 * perUs) / perTick + 1) * perTick
          let d := d.modTime (fun c => { c with stepAt := some (at_, k) })
          d.members.foldl (fun d v => d.sendTo v 0x02 [(d.tb3 : Int), k, (at_ : Int)]) d
      else if lock < diff.natAbs ∧ !d.time.apart then
        (d.modTime (fun c => { c with apart := true })).fault 35 6
      else d)

/-- TB3_STEP_APPLY: the announced step is applied at its tick, whatever the window does meanwhile (R413). -/
def execTb3StepApply (s : State) : Host.Outcome State Fault Refusal :=
  s.on (fun d =>
    match d.time.stepAt with
    | none => d
    | some (t, k) => ((d.advanceTo t).modTime (fun c => { c with stepAt := none })).stepTb3 k)

/-! ## Network time (R400 to R404) -/

/-- The protocol stack runs (R400, R412). -/
def Dev.ptpRuns (d : Dev) : Bool := d.mode.fwSup && d.bit TIME_CFG 31 && decide (d.mode.boot ≠ 0) && !d.wdDone

/-- Entry to HOLDOVER sets HOLD_FLAG (R404). -/
def Dev.holdover (d : Dev) : Dev := (d.setTb1State 3).setBit TIME_ERR 8 true

/-- A grandmaster change, or one of PTP port (R401, R403). -/
def Dev.gmChange (d : Dev) (gm : Option Nat) : Dev :=
  if d.tb1State = 0 then d.modTime (fun c => { c with gm := gm })
  else
    let d := if d.tb1State = 3 then d else d.holdover
    (d.modTime (fun c => { c with gm := gm, settle := true, good := 0, bad := 0 })).fault 35 3

/-- PTP_LOST: the source of time is gone. -/
def Dev.ptpLost (d : Dev) : Dev :=
  let d := if d.tb1State = 1 ∨ d.tb1State = 2 then d.holdover else d
  (d.modTime (fun c => { c with good := 0, bad := 0 })).fault 35 2

/-- A frame comes in on Ethernet port e: its link is up. DEDUCED (log entry 58). -/
def Dev.ethUp (d : Dev) (e : Nat) (fast : Bool) : Dev :=
  d.wrN (TIME_ETH_STATUS e) (2 ^ 31 + (if fast then 2 else 1))

/-- TIME_TB1_EPOCH in seconds. -/
def Dev.epoch (d : Dev) : Nat := (d.rd TIME_TB1_EPOCH_LO).toNat + d.fld TIME_TB1_EPOCH_HI 0 16 * 2 ^ 32

/-- The device's own dataset is better than a grandmaster's: it acts as time transmitter (R400).
DEDUCED (log entry 58). -/
def Dev.ownBetter (d : Dev) (p : PtpSync) : Bool :=
  let own := [d.fld TIME_PTP_GM 24 8, d.fld TIME_PTP_GM 8 8, d.fld TIME_PTP_GM 0 8, d.fld TIME_PTP_GM 16 8]
  let his := [p.prio1.toNat, p.cls.toNat, p.accuracy.toNat, p.prio2.toNat]
  match (List.zip own his).find? (fun x => x.1 != x.2) with
  | some x => decide (x.1 < x.2)
  | none => false

/-- TB1 is steered by an offset (R403): a step, or a slew through FREQ, whose new value the spec leaves open
within ±500 ppm. DESIGN CHOICE (log entry 57). -/
def Dev.steer (d : Dev) (ofs : Int) : Dev :=
  if (d.rd TIME_STEP_LIM).toNat * 16 < ofs.natAbs then (d.stepTb1 (-ofs)).fault 35 4
  else
    let (f, d) := d.freeErr 1099511628
    d.wrN TIME_TB1_FREQ (unsigned 32 f)

/-- A Sync of the selected grandmaster steers TB1 and moves TB1_STATE. DEDUCED (log entry 56). -/
def Dev.syncIn (d : Dev) (p : PtpSync) : Dev :=
  let d := if d.tb1State = 0 ∨ d.tb1State = 3 then
      (d.setTb1State 1).modTime (fun c => { c with good := 0, bad := 0 }) else d
  let sec := p.sec.toNat
  let d := if d.epoch = 0 then d.wr64 TIME_TB1_EPOCH_LO TIME_TB1_EPOCH_HI (sec / 86400 * 86400) else d
  let due := (sec - d.epoch) * 16000000000 + p.sub
  if sec < d.epoch ∨ 2 ^ 64 ≤ due then d.ptpLost
  else
    let rx : Int := (d.time.tb1 : Int) - d.fld (TIME_ETH_ING_LAT p.port) 0 16
    let ofs := rx - due - p.delay - d.rdI (TIME_ETH_ASYM p.port)
    let near := decide (ofs.natAbs ≤ (d.rd TIME_LOCK_LIM).toNat * 16)
    let d := d.modTime (fun c => { c with good := if near then c.good + 1 else 0, bad := if near then 0 else c.bad + 1 })
    let d := if d.tb1State = 1 ∧ 16 ≤ d.time.good then d.setTb1State 2
      else if d.tb1State = 2 ∧ 16 ≤ d.time.bad then d.setTb1State 1 else d
    d.steer ofs

/-- PTP_SYNC: a Sync is stamped and steers TB1. -/
def execPtpSync (p : PtpSync) (s : State) : Host.Outcome State Fault Refusal :=
  s.on (fun d =>
    let d := d.ethUp p.port p.fast
    if !d.ptpRuns ∨ p.port.val ≠ d.fld TIME_STATUS 27 1 ∨ p.domain.toNat ≠ d.fld TIME_CFG 16 8 ∨ !p.followUp then d
    else if d.bit TIME_CFG 30 && d.ownBetter p then d.setBit TIME_STATUS 26 true
    else
      let d := d.setBit TIME_STATUS 26 false
      if d.time.gm.isSome ∧ d.time.gm ≠ some p.gm.toNat then d.gmChange (some p.gm.toNat)
      else
        let d := d.modTime (fun c => { c with gm := some p.gm.toNat })
        if d.time.settle then d else d.syncIn p)

/-- PTP_SYNC_LOSS: LOSS_CNT sync intervals have passed with no Sync. DEDUCED (log entry 58). -/
def execPtpSyncLoss (s : State) : Host.Outcome State Fault Refusal :=
  s.on (fun d =>
    if !d.ptpRuns then d
    else
      let d := if d.bit TIME_CFG 30 then d.setBit TIME_STATUS 26 true else d
      if d.tb1State = 1 ∨ d.tb1State = 2 then d.ptpLost else d)

/-- GM_SETTLE_EXPIRY: GM_SETTLE seconds have passed since GM_CHANGE. -/
def execGmSettleExpiry (s : State) : Host.Outcome State Fault Refusal :=
  s.on (fun d =>
    if d.time.settle ∧ d.tb1State = 3 then
      (d.setTb1State 1).modTime (fun c => { c with settle := false, good := 0, bad := 0 })
    else d)

/-- ETH_LINK_LOSS: the link of Ethernet port p goes down; PTP moves to the other port (R401). -/
def execEthLinkLoss (p : Fin 2) (s : State) : Host.Outcome State Fault Refusal :=
  s.on (fun d =>
    let d := d.setBit (TIME_ETH_STATUS p) 31 false
    let other := 1 - p.val
    if d.ptpRuns && d.bit TIME_CFG 24 && d.fld TIME_STATUS 27 1 == p.val && d.bit (TIME_ETH_STATUS other) 31 then
      (d.setFld TIME_STATUS 27 1 other).gmChange d.time.gm
    else d)

/-- ETH_FRAME_RECEIVED: ARP and neighbour discovery for the port's own addresses are answered; every other
frame is discarded (R401). -/
def execEthFrameReceived (p : Fin 2) (k : EthFrame) (s : State) : Host.Outcome State Fault Refusal :=
  s.on (fun d =>
    let d := d.ethUp p k.fast
    let a := d.time.addrs.drop (32 * p.val)
    let hits (x : Option (List Byte)) (own : List Byte) : Bool :=
      match x with | some t => t == own && !allZero own | none => false
    if !d.mode.fwSup then d
    else if hits k.arp (a.take 4) then d.send (.ethReply p false)
    else if hits k.nd ((a.drop 4).take 16) then d.send (.ethReply p true)
    else d)

/-- PTP_TX_INTERVAL: Sync as time transmitter, Delay_Req or Pdelay_Req as receiver. -/
def execPtpTxInterval (s : State) : Host.Outcome State Fault Refusal :=
  s.on (fun d =>
    let p := d.fld TIME_STATUS 27 1
    let stamp := d.epoch * 16000000000 + d.time.tb1 + d.fld (TIME_ETH_EGR_LAT p) 0 16
    if !d.ptpRuns then d
    else if d.bit TIME_STATUS 26 then
      if d.bit TIME_CFG 28 then d.send (.ptp p 0 stamp) else (d.send (.ptp p 0 0)).send (.ptp p 8 stamp)
    else if d.tb1State = 1 ∨ d.tb1State = 2 then d.send (.ptp p (if d.bit TIME_CFG 29 then 2 else 1) stamp)
    else d)

/-- DEDUCED (log entry 58). -/
def cmdPtpAddrSet : Cmd where
  check d q := firstFail (shape q [] (some 64) 0 ++ [d.modeIs q [.configure, .standby]])
  effect q e d :=
    let b := e.data.take 64
    let bad (k : Nat) : Bool := !allZero ((b.drop (32 * k + 20)).take 12)
    if bad 0 || bad 1 then d.fail q stMalformed 0x0004
    else (d.modTime (fun c => { c with addrs := b })).ok q 0 0 0 0

/-- PTP_ADDR_SET. -/
def execPtpAddrSet (r : Req) (e : Env) (s : State) : Host.Outcome State Fault Refusal :=
  s.command 0x0905 cmdPtpAddrSet r e

/-! ## Commands on the bases (R395, R411) -/

def cmdTimeBuildStart : Cmd where
  check d q :=
    let t := q.a0.toNat + q.a1.toNat * 2 ^ 32
    firstFail (shape q [anyW, anyW] none 0 ++ [d.modeIs q [.standby, .build, .hold],
      limitIf (t != 0 && decide (t < d.tb3)) 0x0901])
  effect q _ d :=
    let t := q.a0.toNat + q.a1.toNat * 2 ^ 32
    let at_ := if t = 0 then d.tb3 else t
    (d.modTime (fun c => ({ c with tb2 := 0, tb2Run := false, build := some at_ }).tb2Go d.tb3 0)).ok q 0 0 0 0

/-- TIME_BUILD_START. -/
def execTimeBuildStart (r : Req) (e : Env) (s : State) : Host.Outcome State Fault Refusal :=
  s.command 0x0901 cmdTimeBuildStart r e

def cmdTimeTb1Set : Cmd where
  check d q := firstFail (shape q [anyW, anyW, anyW] none 0 ++
    [d.modeIs q allModes, (d.bit TIME_CFG 31, stReject, 0)])
  effect q _ d :=
    ((d.wr TIME_TB1_FREQ q.a2).stepTb1 (signed 64 (q.a0.toNat + q.a1.toNat * 2 ^ 32))).ok q 0 0 0 0

/-- TIME_TB1_SET. -/
def execTimeTb1Set (r : Req) (e : Env) (s : State) : Host.Outcome State Fault Refusal :=
  s.command 0x0904 cmdTimeTb1Set r e

def cmdTimeQuery : Cmd where
  check d q := firstFail (shape q [] none 32 ++ [d.modeIs q allModes])
  effect q _ d := d.okData q ((List.range 4).flatMap (fun k => leBytes 8 (d.base k))) 0 0 0 0

/-- TIME_QUERY. -/
def execTimeQuery (r : Req) (e : Env) (s : State) : Host.Outcome State Fault Refusal :=
  s.command 0x0980 cmdTimeQuery r e

/-- TIME_SNAP: a write of 1 latches the four bases. -/
def execTimeSnap (s : State) : Host.Outcome State Fault Refusal :=
  s.whenUp (fun d => (List.range 4).foldl (fun d k => d.wr64 (TIME_SNAP_LO k) (TIME_SNAP_HI k) (d.base k)) d)

/-- TIME_CNT_CLR. -/
def execTimeCntClr (val : Word) (s : State) : Host.Outcome State Fault Refusal :=
  s.whenUp (fun d =>
    let d := (bitList 8 (val.get 0 8)).foldl (fun d i => d.wr (TIME_TOUT_SKIP_CNT i) 0) d
    (bitList 8 (val.get 8 8)).foldl (fun d i => d.wr (TIME_TCAP_DROP_CNT i) 0) d)

/-! ## Captures (R409, R410) -/

/-- A dropped edge, with TCAP_DROP at most once per input per second. DEDUCED (log entry 59). -/
def Dev.tcapDrop (d : Dev) (i : Nat) : Dev :=
  let d := d.count (TIME_TCAP_DROP_CNT i) 1
  let due := match d.time.capFault.getD i none with | some t => decide (t + 1000 * perMs ≤ d.tb3) | none => true
  if due then (d.modTime (fun c => { c with capFault := c.capFault.set i (some d.tb3) })).fault 35 8 else d

/-- TCAP_EDGE: an edge on input i, `sub` units on. `stepped`: a step commits in the same REFCLK cycle, after
the capture. DEDUCED (log entry 59). -/
def execTcapEdge (i : Fin 8) (rising : Bool) (sub : Nat) (stepped : Bool) (s : State) :
    Host.Outcome State Fault Refusal :=
  s.on (fun d =>
    let d := d.advanceTo (d.tb3 + sub)
    let cfg := d.fld (TIME_TCAP_CFG i) 0 2
    if !cfg.testBit (if rising then 0 else 1) then d
    else
      let soon := match d.time.caps.getD i none with | some t => decide (d.tb0 < t + 1600) | none => false
      if soon || decide (64 ≤ (d.rcd.waiting.filter (fun (x : Event) => x.src == 35 && x.dev == d.devId)).length) then d.tcapDrop i
      else
        let d := d.modTime (fun c => { c with caps := c.caps.set i (some d.tb0) })
        let d := (d.wr64 (TIME_TCAP_TB3_LO i) (TIME_TCAP_TB3_HI i) d.tb3).wr64 (TIME_TCAP_TB1_LO i) (TIME_TCAP_TB1_HI i)
          d.time.tb1
        d.emit 35 0x41 (leBytes 8 d.time.tb1 ++ leBytes 1 i ++ leBytes 1 (bitOf rising + 2 * bitOf stepped)))

end Sys2Proof.Machine
end

