-- ==== Sys2Proof/Machine/Byoft.lean ====
section
/-! DEFINITION. The Byoft link (13): topology, admission and loss of members, link time, cross-device work,
flits, and the lane tests of scanner and Byoft ports (R339 to R341, R387). -/

namespace Sys2Proof.Machine

/-! ## The graph (R366, R367, R372) -/

/-- The topology breaks a condition of R366: a DEV_ID twice, more than eight devices, more than two
neighbours, more than two ports in a connection. DEDUCED (log entry 60). -/
def Dev.topoBad (d : Dev) (vs : List Nat) : Bool :=
  let ups := (d.byf.ports.filter (fun p => p.state == 2)).filterMap (fun p => p.peer)
  ups.any (fun x => x.1 == d.devId) || ups.length != ups.eraseDups.length || decide (8 < vs.length) ||
  vs.any (fun v =>
    let raw := d.rawNbrs v
    decide (2 < raw.eraseDups.length) || raw.any (fun w => decide (2 < (raw.filter (fun x => x == w)).length)))

/-- The members with this device, where it is admitted, in order. -/
def Dev.allMembers (d : Dev) : List Nat :=
  (List.range 8).filter (fun v => d.members.contains v || (d.byf.inside && v == d.devId))

/-- The time master: the lowest member; a device that stands alone is its own (R372, R373). -/
def Dev.master (d : Dev) : Nat :=
  let seen := d.allMembers ++ (if d.byf.inside then [] else (d.byf.nodes.filter (fun n => n.ready)).map (fun n => n.dev))
  match (List.range 8).find? (fun v => seen.contains v) with
  | some v => v
  | none => d.devId

/-- The port that time comes over: toward the neighbour nearest the master, the lowest-numbered on a tie. -/
def Dev.timePort (d : Dev) : Option Nat :=
  let m := d.master
  let c := (List.range 4).filterMap (fun p =>
    match (d.bport p).state, (d.bport p).peer with
    | 2, some (v, _) => if v = m ∨ d.hops v m ≠ 0 then some (p, d.hops v m) else none
    | _, _ => none)
  let best := c.foldl (fun b x => Nat.min b x.2) 99
  (c.find? (fun x => x.2 == best)).map (fun x => x.1)

/-- BYF_STATUS shows the members, the master and the hops to it. -/
def Dev.showByf (d : Dev) (ok : Bool) : Dev :=
  let all := d.allMembers
  let bits := (if all.isEmpty then [d.devId] else all).foldl (fun m v => m + 2 ^ v) 0
  let ring := ok && decide (3 ≤ all.length) && all.all (fun v => (d.rawNbrs v).eraseDups.length == 2)
  let m := d.master
  let up := (List.range 4).foldl (fun x p => x + (if (d.bport p).state = 2 then 2 ^ p else 0)) 0
  let w := bits * 2 ^ 24 + m * 2 ^ 20 + bitOf ring * 2 ^ 19 + bitOf ok * 2 ^ 18 + d.hops d.devId m * 2 ^ 15
    + d.devId * 2 ^ 8 + up
  (d.wrN BYF_STATUS w).modTime (fun c => { c with follows := m != d.devId, corr := if m = d.devId then 0 else c.corr })

/-- What TOPO says: DEV_ID, ID_PART, the port, the neighbours, the definitions of the cross-device locks, and whether this
device may be admitted and has no open layer (R371). DEDUCED (log entry 60). -/
def Dev.topoWords (d : Dev) (p : Nat) : List Int :=
  let locks := (List.range 64).filter (fun i => d.lockValid i && d.bit (LK_LOCK_XDEV i) 31)
  ([d.devId, (d.rd ID_PART).toNat, p, bitOf (d.byf.inside || d.mode.cur == .standby), bitOf d.lay.opened.isEmpty,
    d.portPeers.length] ++ d.portPeers : List Nat).map (fun (k : Nat) => (k : Int)) ++
  locks.flatMap (fun (i : Nat) => (([i, d.lockPeer i, (d.lockVerts i).length] : List Nat).map (fun (k : Nat) => (k : Int))) ++
    (d.lockVerts i).flatMap (fun v => [v.1, v.2]))

/-- TOPO goes out on every trained port, and to the devices behind the neighbours (R377). -/
def Dev.sendTopo (d : Dev) : Dev :=
  let d := d.modByf (fun b => { b with told := d.topoWords 0 })
  let d := (List.range 4).foldl (fun d p =>
    if (d.bport p).state = 2 then
      d.sendFlit p 0x01 d.devId ((((d.bport p).peer).map (fun x => x.1)).getD 0) (d.topoWords p)
    else d) d
  (((d.graphFrom d.devId).map (fun x => x.1)).filter (fun v => v != d.devId && !d.portPeers.contains v)).foldl
    (fun d v => d.sendTo v 0x01 (d.topoWords 0)) d

/-- TOPO goes out again once what it says has changed, as each tick's strobe finds. DESIGN CHOICE (log entry 103). -/
def Dev.tellTopo (d : Dev) : Dev :=
  if d.byf.ports.any (fun p => p.state == 2) && d.topoWords 0 != d.byf.told then d.sendTopo else d

/-! ## Cross-device locks (R225, R378) -/

/-- XMATCH of lock i by what its peer has told. -/
def Dev.matchLock (d : Dev) (i : Nat) : Dev :=
  let v := d.lockPeer i
  if !d.lockValid i || !d.bit (LK_LOCK_XDEV i) 31 || !d.members.contains v then d.setBit (LK_LOCK_STATUS i) 16 false
  else match d.byf.nodes.find? (fun n => n.dev == v) with
    | none => d.setBit (LK_LOCK_STATUS i) 16 false
    | some n =>
      if n.locks.any (fun l => l.1 == i && l.2.1 == d.lockVerts i && l.2.2 == d.devId) then
        if d.lay.opened.isEmpty && n.idle then d.setBit (LK_LOCK_STATUS i) 16 true else d
      else
        let d := d.setBit (LK_LOCK_STATUS i) 16 false
        if d.byf.mismatch.contains i then d
        else (d.modByf (fun b => { b with mismatch := i :: b.mismatch })).fault 29 8

/-- DEDUCED (log entry 60). -/
def Dev.matchLocks (d : Dev) : Dev := (List.range 64).foldl (fun d i => d.matchLock i) d

/-! ## Admission (R377) -/

/-- A device is admitted. DEDUCED (log entry 60). -/
def Dev.joinDev (d : Dev) (v : Nat) : Dev :=
  let d := if v = d.devId then d.modByf (fun b => { b with inside := true })
    else { d with members := (List.range 8).filter (fun w => w == v || d.members.contains w) }
  let d := d.modByf (fun b => { b with missed := assocPut b.missed v 0, heard := assocPut b.heard v 0 })
  let d := { d with ldg := { d.ldg with bandLost := d.ldg.bandLost.filter (fun w => w != v) } }
  ((d.setBit BYF_JOIN v true).endCause 29 2).fault 29 9

/-- The topology is judged, and what it admits is admitted. -/
def Dev.topoEval (d : Dev) : Dev :=
  let vs := (d.graphFrom d.devId).map (fun x => x.1)
  if vs.length ≤ 1 then (d.modByf (fun b => { b with refused := false })).showByf false
  else if d.topoBad vs then
    let was := d.byf.refused
    let d := ({ d with members := [] }).modByf (fun b => { b with refused := true, inside := false })
    let d := (List.range 64).foldl (fun d i => d.setBit (LK_LOCK_STATUS i) 16 false) d
    (if was then d else d.fault 29 3).showByf false
  else
    let d := d.modByf (fun b => { b with refused := false })
    let others := vs.filter (fun v => v != d.devId)
    if others.any (fun v => !d.byf.nodes.any (fun n => n.dev == v)) then d.showByf false
    else
      let own := if !d.byf.inside && d.mode.cur == .standby then [d.devId] else []
      let d := own.foldl (fun d v => d.joinDev v) d
      let new := if d.byf.inside then others.filter (fun v => !d.members.contains v &&
          d.byf.nodes.any (fun n => n.dev == v && n.ready)) else []
      let d := new.foldl (fun d v => d.joinDev v) d
      (d.showByf true).matchLocks

/-- A TOPO as it is forwarded. -/
def topoMsgWords (t : TopoMsg) : List Int :=
  ([t.dev.val, t.part.toNat, 0, bitOf t.ready, bitOf t.idle, t.nbrs.length] ++ t.nbrs.map (fun v => v.val) : List Nat).map
    (fun (k : Nat) => (k : Int)) ++
  t.locks.flatMap (fun l => [(l.1.val : Int), (l.2.2.val : Int), (l.2.1.length : Int)] ++ l.2.1.flatMap (fun v => [v.1, v.2]))

/-- TOPO: a message about a device arrives on port p, from the neighbour there or from behind it; the latter goes on
where it is for another device (R367). -/
def execTopo (p : Fin 4) (t : TopoMsg) (s : State) : Host.Outcome State Fault Refusal :=
  s.on (fun d =>
    if (d.bport p).state ≠ 2 then d
    else d.routed t.dev (if t.direct.isSome then d.devId else t.dst.val) 0x01 (topoMsgWords t) (fun d =>
      let was := (d.portPeers, (d.graphFrom d.devId).map (fun x => x.1))
      let d : Dev := match t.direct with
        | some k => d.modBport p (fun b => { b with peer := some (t.dev.val, k.val) })
        | none => d
      let n : Node := ⟨t.dev, t.nbrs.map (fun v => v.val), t.locks.map (fun l => (l.1.val, l.2.1, l.2.2.val)), t.ready, t.idle⟩
      let d := if t.dev.val = d.devId then d
        else d.modByf (fun b => { b with nodes := n :: b.nodes.filter (fun x => x.dev != t.dev.val) })
      let d := if (d.portPeers, (d.graphFrom d.devId).map (fun x => x.1)) = was then d else d.sendTopo
      d.topoEval))

/-! ## Loss of a member (R379, R380) -/

/-- DEV_LOST is HOLD-class: CALIBRATE or BUILD, with XDEV records in an open layer or a band neighbour
lost. -/
def Dev.lostHolds (d : Dev) (v : Nat) : Bool :=
  let w := d.rd LDG_NBR
  d.exposing && (d.lay.opened.any (fun l => l.barges.any (fun b => b.recs.any (fun r => r.r.flags.testBit 2))) ||
    [0, 4, 8, 12].any (fun k => w.bit (k + 3) && w.get k 3 == v))

/-- An entry assigned to a lost device is settled: PARTIAL where it was in emission, returned as far as it
had not started. -/
def Dev.settleSent (d : Dev) (x : Sent) : Dev :=
  let peers := (List.range 16).map (fun b => x.dev * 16 + b)
  let u : WUnit := { x.unit with excluded := x.unit.excluded ++ peers }
  let i := u.lock.getD 0
  let left (k : Nat) (d : Dev) : Dev :=
    if u.recs.length ≤ k then d
    else
      let w : WUnit := { u with recs := u.recs.drop k, idxs := u.idxs.drop k }
      d.returnEntry x.beam i w
  match x.prog with
  | none => left x.given.length d
  | some (vec, arc, t) =>
    match u.recs.findIdx? (fun r => r.vecId == vec) with
    | none => left x.given.length d
    | some k =>
      let d : Dev := { d with woram := d.woram.map (fun (w : Woram) => { w with flags := w.flags ||| 16 }) }
      left (k + 1) (d.giveOutcome u k ⟨stPartial, some x.beam, false, 0, arc, t, true⟩)

/-- A stitch half not yet committed whose partner lies on the lost device returns as a half, which runs solo; one that
waits in a lock queue runs solo too (R380). -/
def Dev.settleHalves (d : Dev) (v : Nat) : Dev :=
  let d := d.enterHalves (fun h => h.unit.partner / 16 == v)
  let hit (u : WUnit) : Bool := u.half.isSome && u.partner / 16 == v && u.owner == d.devId
  let alone (u : WUnit) : WUnit := if hit u then { u with solo := true } else u
  let d := (List.range 64).foldl (fun d i => d.modLock i (fun q => { q with queue := q.queue.map alone, wait := q.wait.map alone })) d
  (List.range 18).foldl (fun d n =>
    let open_ := match d.openRun n with | some r => if hit r.unit then [r] else [] | none => []
    let us := open_.map (fun r => r.unit) ++ (d.eng n).queue.filter hit
    let g := d.gbeam ((d.beamOf n).getD 0)
    let d := d.modEng n (fun e => { e with
      queue := e.queue.filter (fun u => !hit u), runs := e.runs.filter (fun r => !open_.any (fun x => x.seq == r.seq)) })
    let d := if open_.isEmpty then d else d.modKeeper (fun k => { k with xwait := k.xwait.filter (fun x => x.engine != n) })
    us.foldl (fun d u => d.returnEntry g (u.lock.getD 0) (alone u)) d) d

/-- Member v is lost, and the work shared with it settled. DEDUCED (log entry 61). -/
def Dev.memberLost (d : Dev) (v : Nat) (test : Bool) : Dev :=
  if !d.members.contains v then d
  else
    let cls : Cls := if !test && d.lostHolds v then .hold else .note
    let d := { d with members := d.members.filter (fun w => w != v) }
    let d := d.modByf (fun b => { b with
      nodes := b.nodes.filter (fun n => n.dev != v), missed := b.missed.filter (fun x => x.1 != v)
      modes := b.modes.filter (fun x => x.1 != v), heard := b.heard.filter (fun x => x.1 != v) })
    let d := (List.range 64).foldl (fun d i =>
      if d.lockPeer i = v then d.setBit (LK_LOCK_STATUS i) 16 false else d) d
    let sent := d.keeper.sent.filter (fun x => x.dev == v)
    let d := d.modKeeper (fun k => { k with sent := k.sent.filter (fun x => x.dev != v) })
    let d := ((sent.foldl Dev.settleSent d).settleHalves v).bandLost v
    let jobs := d.probes.filter (fun j => j.peer == some v)
    let d := { d with probes := d.probes.filter (fun j => j.peer != some v) }
    let d := jobs.foldl (fun d j => if j.serves then d else d.fail j.req stAborted 0) d
    let d := if d.members.isEmpty then d.modByf (fun b => { b with inside := false }) else d
    (d.faultAs cls 29 2).topoEval

/-- MEMBER_LOST: no path remains to a member. -/
def execMemberLost (d : Fin 8) (s : State) : Host.Outcome State Fault Refusal :=
  s.on (fun x => x.memberLost d false)

/-- A message to member v has gone unanswered for ACK_TMO: the third in succession loses the member
(R379). -/
def Dev.unanswered (d : Dev) (v : Nat) : Dev :=
  let k := assocGet d.byf.missed v + 1
  let d := d.modByf (fun b => { b with missed := assocPut b.missed v k })
  if 3 ≤ k then d.memberLost v false else d.fault 20 4

/-- Member v has answered. -/
def Dev.answered (d : Dev) (v : Nat) : Dev := d.modByf (fun b => { b with missed := assocPut b.missed v 0 })

/-! ## Ports (R321, R368, R370, R379) -/

/-- A Byoft port leaves link service: members without a path are lost. DESIGN CHOICE (log entry 103). -/
def Dev.byfLeave (d : Dev) (p state : Nat) (test : Bool) : Dev :=
  let d := (d.modBport p (fun b => { b with state := state, peer := none, run := 0, last := none, sent := [], seq := 0 })).sendTopo
  let vs := (d.graphFrom d.devId).map (fun x => x.1)
  let gone := d.members.filter (fun v => !vs.contains v)
  let d := if gone.isEmpty then (if test then d else d.fault 29 1) else gone.foldl (fun d v => d.memberLost v test) d
  d.topoEval

/-- A link fault of a Byoft port: it retrains, which counts as a restart. -/
def Dev.byfDown (d : Dev) (p : Nat) : Dev :=
  if (d.bport p).state ≠ 2 then d
  else ((d.count (BYF_PORT_RETRAIN_CNT p) 1).sendTraining false p false).byfLeave p 1 false

/-- BYOFT_PORT_FAIL: port p loses lock; `ecc`: by an uncorrectable error in one of its buffers. -/
def execByoftPortFail (p : Fin 4) (ecc : Bool) (s : State) : Host.Outcome State Fault Refusal :=
  s.on (fun d => (if ecc then d.fault 29 11 else d).byfDown p)

/-- A Byoft port completes training. -/
def Dev.byfTrained (d : Dev) (p : Nat) (t : TrainInfo) : Dev :=
  if (d.bport p).state ≠ 1 then d
  else
    let d := (d.sendTraining false p true).modBport p (fun b => { b with
      state := 2, polInv := t.polInv.toNat, laneMap := t.laneMap.toNat, peer := none, run := 0, last := none })
    let jobs := d.byf.retrains.map (fun j => (j.1, j.2.1.filter (fun x => x != p), j.2.2))
    let d := d.modByf (fun b => { b with retrains := jobs.filter (fun j => !j.2.1.isEmpty) })
    let d := (jobs.filter (fun j => j.2.1.isEmpty)).foldl (fun d j => d.ok j.1 0 0 0 0) d
    (d.sendTopo).topoEval

/-- A Byoft training restarts; a LINK_RETRAIN 10 ms old ends (R391). -/
def Dev.byfTimeout (d : Dev) (p : Nat) : Dev :=
  if (d.bport p).state ≠ 1 then d
  else
    let d := (d.count (BYF_PORT_RETRAIN_CNT p) 1).sendTraining false p false
    let late (j : Req × List Nat × Nat) : Bool := j.2.1.contains p && decide (j.2.2 + 10 * perMs ≤ d.tb3)
    let old := d.byf.retrains.filter late
    let d := d.modByf (fun b => { b with retrains := b.retrains.filter (fun j => !late j) })
    old.foldl (fun d j => d.fail j.1 stTimeout 0x0D01) d

/-- TRAINING_COMPLETE: a port completes step 6 of training. -/
def execTrainingComplete (p : PortRef) (t : TrainInfo) (s : State) : Host.Outcome State Fault Refusal :=
  s.on (fun d => match p with
    | .scn b => d.scnTrained b (t.polInv.getLsbD 0)
    | .byf k => d.byfTrained k t)

/-- TRAINING_TIMEOUT: a training restarts. DEDUCED (log entry 61). -/
def execTrainingTimeout (p : PortRef) (s : State) : Host.Outcome State Fault Refusal :=
  s.on (fun d => match p with
    | .scn b => d.scnTrainTimeout b
    | .byf k => d.byfTimeout k)

/-- The flits from number `seq` on are sent again out of the replay buffer: counted, reported at most once per port per
second, the eighth replay in succession of one flit a link fault. DESIGN CHOICE (log entry 103). -/
def Dev.flitReplay (d : Dev) (p seq : Nat) : Dev :=
  let from_ := (d.bport p).sent.dropWhile (fun f => f.seq != seq)
  if from_.isEmpty then d else
  let again := (d.bport p).last == some seq
  let d := d.count (BYF_PORT_RETRY_CNT p) 1
  let due := match (d.bport p).retryAt with | some t => decide (t + 1000 * perMs ≤ d.tb3) | none => true
  let d := if due then (d.modBport p (fun b => { b with retryAt := some d.tb3 })).fault 29 4 else d
  let d := d.modBport p (fun b => { b with run := if again then b.run + 1 else 1, last := some seq })
  if 8 ≤ (d.bport p).run then d.byfDown p else from_.foldl (fun d f => d.send (.flit p f)) d

/-- FLIT_NAK: the peer NAKs this device's flit number `seq`, or (`sent`) a bad flit of that number has come and is
NAKed. -/
def execFlitNak (p : Fin 4) (sent : Bool) (seq : BitVec 12) (s : State) : Host.Outcome State Fault Refusal :=
  s.on (fun d =>
    if (d.bport p).state ≠ 2 then d
    else if sent then
      ((d.send (.nak p seq.toNat)).count (BYF_PORT_CRC_CNT p) 1).laneErrs
        ((List.range 4).map (fun l => 48 + 4 * p.val + l))
    else (d.laneErrs ((List.range 4).map (fun l => 32 + 4 * p.val + l))).flitReplay p seq.toNat)

/-- FLIT_REPLAY_TIMEOUT: a flit unacknowledged for 2 µs is replayed as though NAKed. -/
def execFlitReplayTimeout (p : Fin 4) (seq : BitVec 12) (s : State) : Host.Outcome State Fault Refusal :=
  s.on (fun d => if (d.bport p).state = 2 then d.flitReplay p seq.toNat else d)

/-- DEDUCED (log entry 61). -/
def cmdLinkRetrain : Cmd where
  check d q := firstFail (shape q [0xF] none 0 ++
    [absentIf (decide (2 ^ nByoft d.variant ≤ q.a0.toNat)), d.modeIs q [.standby, .service]])
  effect q _ d :=
    let ps := (bitList 4 q.a0.toNat).filter (fun p => (d.bport p).state == 1 || (d.bport p).state == 2)
    let d := ps.foldl (fun d p => if (d.bport p).state = 2 then d.byfDown p else d) d
    if ps.isEmpty then d.ok q 0 0 0 0
    else d.modByf (fun b => { b with retrains := b.retrains ++ [(q, ps, d.tb3)] })

/-- LINK_RETRAIN. -/
def execLinkRetrain (r : Req) (e : Env) (s : State) : Host.Outcome State Fault Refusal :=
  s.command 0x0D01 cmdLinkRetrain r e

def cmdLinkQuery : Cmd where
  check d q := firstFail (shape q [] none 0 ++ [d.modeIs q allModes])
  effect q _ d :=
    let m := d.byf.modes.foldl (fun x y => x + (if d.members.contains y.1 then y.2 * 2 ^ (3 * y.1) else 0)) 0
    d.ok q (d.rd BYF_STATUS).toNat (m + d.mode.cur.code * 2 ^ (3 * d.devId)) 0 0

/-- LINK_QUERY. -/
def execLinkQuery (r : Req) (e : Env) (s : State) : Host.Outcome State Fault Refusal :=
  s.command 0x0D80 cmdLinkQuery r e

/-- BYF_CNT_CLR: bit p zeroes port p's counters. -/
def execByfCntClr (val : Word) (s : State) : Host.Outcome State Fault Refusal :=
  s.whenUp (fun d => (bitList (nByoft d.variant) val.toNat).foldl (fun d p =>
    ((d.wr (BYF_PORT_RETRY_CNT p) 0).wr (BYF_PORT_CRC_CNT p) 0).wr (BYF_PORT_RETRAIN_CNT p) 0) d)

/-! ## Link time (R374 to R376, R398) -/

/-- TIME_SYNC_INTERVAL: a TIME_SYNC goes to every neighbour that takes its time from here. -/
def execTimeSyncInterval (s : State) : Host.Outcome State Fault Refusal :=
  s.on (fun d =>
    let m := d.master
    (d.portPeers.eraseDups.filter (fun v => d.hops d.devId m < d.hops v m || m == d.devId)).foldl
      (fun d v => d.sendTo v 0x02 [(d.tb3 : Int)]) d)

/-- TIME_SYNC: a TIME_SYNC comes in on port p, with a step announced in it (R398), and is answered; the master's
announcement to another device goes on (R367). -/
def execTimeSync (via : Inlet) (t1 : Word64) (step : Option (Int × Nat)) (s : State) :
    Host.Outcome State Fault Refusal :=
  s.on (fun d => d.routed d.master via.dst 0x02
    ([(t1.toNat : Int)] ++ (match step with | some (k, t) => [k, (t : Int)] | none => [])) (fun d =>
    match (d.bport via.port).state, (d.bport via.port).peer with
    | 2, some (v, _) =>
      let d := match step with
        | some (k, t) => if d.byf.inside then d.modTime (fun c => { c with stepAt := some (t, k) }) else d
        | none => d
      d.sendTo v 0x03 [(t1.toNat : Int), (d.tb3 : Int), (d.tb3 : Int)]
    | _, _ => d))

/-- TIME_REPLY: the four stamps of a measurement on port p. DEDUCED (log entry 60). -/
def execTimeReply (p : Fin 4) (t1 t2 t3 t4 : Word64) (s : State) : Host.Outcome State Fault Refusal :=
  s.on (fun d =>
    let i (w : Word64) : Int := w.toNat
    let delay := ((i t4 - i t1) - (i t3 - i t2)) / 2
    let ofs := i t2 - i t1 - delay
    if !d.time.follows || d.timePort != some p.val then d
    else
      let d := (d.wrN (BYF_PORT_DELAY p) (unsigned 32 delay)).wrN BYF_TIME_OFS (unsigned 32 ofs)
      if !d.byf.inside then (if ofs = 0 then d else d.stepTb3 (-ofs))
      else
        let d := d.modTime (fun c => { c with corr := -ofs })
        let out := decide (d.fld BYF_TIME_CFG 0 8 < ofs.natAbs)
        let was := d.byf.align
        let d := d.modByf (fun b => { b with align := out })
        if out && (!was || (d.exposing && !d.standing 29 5)) then d.fault 29 5 else if !out then d.endCause 29 5 else d)

/-! ## Modes and events of the peers (R383, R384) -/

/-- The mode of a member is known; PEER_HOLD and PEER_SAFE end when no member is in that mode.
DEDUCED (log entry 60). -/
def Dev.peerMode (d : Dev) (v m : Nat) : Dev :=
  let d := d.modByf (fun b => { b with modes := assocPut b.modes v m })
  let d := if d.byf.modes.any (fun x => x.2 == Mode.hold.code) then d else d.endCause 29 6
  if d.byf.modes.any (fun x => x.2 == Mode.safe.code) then d else d.endCause 29 7

/-- MODE_NOTE: member d tells of its entry to HOLD or SAFE. -/
def execModeNote (via : Route) (m : BitVec 3) (cause : BitVec 8) (s : State) : Host.Outcome State Fault Refusal :=
  s.on (fun x => x.routed via.src via.dst 0x04 [(m.toNat : Int), (cause.toNat : Int)] (fun x =>
    if !x.members.contains via.src.val then x
    else
      let x := x.peerMode via.src m.toNat
      if m.toNat = Mode.hold.code then x.fault 29 6
      else if m.toNat = Mode.safe.code then x.fault 29 7 else x))

/-- FORWARDED_EVENT: an event of member d enters the recorder's order; a fault enters the history queue and
takes no reaction here; a mode change is noted. -/
def execForwardedEvent (via : Route) (v : FwdEvent) (s : State) : Host.Outcome State Fault Refusal :=
  s.on (fun x => x.routed via.src via.dst 0x30
    (([v.t.toNat, v.src.toNat, v.code.toNat, v.flags.toNat] : List Nat).map (fun (k : Nat) => (k : Int)) ++ byteWords v.payload) (fun x =>
    if !x.members.contains via.src.val then x
    else
      let e : Event := ⟨v.t.toNat, via.src, v.src.toNat, v.code.toNat, v.flags.toNat ||| 32, pay v.payload⟩
      let x := x.queueEvent e
      let x := if v.src = 1 ∧ v.code = 0x20 then x.peerMode via.src (bytesAt v.payload 0 1) else x
      if v.flags.getLsbD 0 then
        let c : Cls := match v.flags.toNat / 2 % 4 with | 0 => .note | 1 => .fence | 2 => .hold | _ => .safe
        x.enter ⟨v.t.toNat, v.src.toNat, v.code.toNat, c, via.src, v.flags.getLsbD 3, true, v.flags.getLsbD 4, false,
          BitVec.ofNat 32 (bytesAt v.payload 0 4), nextSeq x.flt.seq⟩
      else x))

/-- PROGRESS: member d has reported everything stamped before t. -/
def execProgress (via : Route) (t : Word64) (s : State) : Host.Outcome State Fault Refusal :=
  s.on (fun x => x.routed via.src via.dst 0x31 [(t.toNat : Int)] (fun x => if x.members.contains via.src.val then
    (x.modByf (fun b => { b with heard := assocPut b.heard via.src t.toNat })).admitHalves else x))

/-! ## Cross-device assignment and commits (R225, R380, R382) -/

/-- QTIME: dry times of beams of member d. -/
def execQtime (via : Route) (q : List (Fin 16 × Word)) (s : State) : Host.Outcome State Fault Refusal :=
  s.on (fun x => x.routed via.src via.dst 0x10 (q.flatMap (fun y => [(y.1.val : Int), (y.2.toNat : Int)])) (fun x =>
    if !x.members.contains via.src.val then x else
    x.modKeeper (fun k => { k with
      peerQ := q.foldl (fun l y => assocPut l (via.src.val * 16 + y.1.val) y.2.toNat) k.peerQ })))

/-- The unit an XASSIGN carries: its records stand as in a barge of their own. -/
def XAssign.unit (x : XAssign) (owner reach : Nat) : WUnit :=
  let n := x.recs.length / 32
  let b := List.replicate 64 (0 : Byte) ++ x.recs
  { (default : WUnit) with
    layer := x.layer, barge := x.barge, idxs := (List.range n).map (fun i => x.idx + i)
    recs := recsOf b 0 n 0 x.sx x.sy
    startArc := if x.half = some 1 then (2 * x.p - x.ovl) * 2 ^ 23 else 0
    endArc := if x.half = some 0 then some ((2 * x.p + x.ovl) * 2 ^ 23) else none
    half := x.half.map (fun h => h.val), splitAt := x.splitAt, p := x.p, ovl := x.ovl, partner := x.partner
    lock := some x.lock.val, reach := reach, owner := owner }

/-- XASSIGN: member d sends an entry for a beam of this device; it is queued, a stitch half in the order of R225's key,
and acknowledged. DEDUCED (log entry 61). -/
def execXassign (via : Route) (x : XAssign) (s : State) : Host.Outcome State Fault Refusal :=
  s.on (fun y => y.routed via.src via.dst 0x11 (xassignWords x) (fun y =>
    if !y.members.contains via.src.val || y.mode.cur != .build || !y.beamLive x.beam then y
    else match y.engineOf x.beam with
      | none => y
      | some n =>
        let u := XAssign.unit x via.src y.tick
        let y := if u.half.isSome then
            (y.modKeeper (fun k => { k with halves := putHalf ⟨x.t, via.src, x.seq, n, u, none⟩ k.halves })).admitHalves
          else y.enqueue n u
        y.sendTo via.src 0x12 [(u.vec : Int)]))

/-- XACK: member d has taken an entry; a late one is taken too, where the entry has not been decided
again (R388). -/
def execXack (via : Route) (vec : Word) (s : State) : Host.Outcome State Fault Refusal :=
  s.on (fun x => x.routed via.src via.dst 0x12 [(vec.toNat : Int)] (fun x =>
    if !x.members.contains via.src.val then x
    else
      let x := x.answered via.src
      if x.keeper.sent.any (fun y => y.dev == via.src.val && y.vec == vec.toNat) then
        x.modKeeper (fun k => { k with sent := k.sent.map (fun y =>
          if y.dev = via.src.val ∧ y.vec = vec.toNat then { y with acked := true } else y) })
      else
        let hit (u : WUnit) : Bool := u.vec == vec.toNat && u.excluded.any (fun g => g / 16 == via.src.val)
        match (List.range 64).find? (fun i => (x.lockQ i).queue.any hit) with
        | none => x
        | some i =>
          match (x.lockQ i).queue.find? hit with
          | none => x
          | some u =>
            let g := ((u.excluded.filter (fun g => g / 16 == via.src.val)).getLast?).getD 0
            let x := x.modLock i (fun q => { q with queue := q.queue.filter (fun w => !hit w) })
            x.modKeeper (fun k => { k with sent := k.sent ++ [⟨via.src, vec.toNat, g, u, true, none, []⟩] })))

/-- The track a request to a peer carries. -/
def Dev.askedRun (d : Dev) (w : XWait) : Option Run :=
  match w.kind, d.longRun w.engine, d.openRun w.engine with
  | 2, some r, _ => some r
  | 1, _, some r => (d.syncOf r.unit).map r.coMove
  | _, _, some r => some (r.shift w.shift)
  | _, _, none => none

/-- XDEV_ACK_TIMEOUT: an XASSIGN or XCOMMIT_REQ to member d has not been answered within ACK_TMO: the entry
returns to its lock queue without that beam; the request is sent again. -/
def execXdevAckTimeout (d : Fin 8) (vec : Word) (s : State) : Host.Outcome State Fault Refusal :=
  s.on (fun x =>
    match x.keeper.sent.find? (fun y => y.dev == d.val && y.vec == vec.toNat && !y.acked) with
    | some y =>
      let x := x.modKeeper (fun k => { k with
        sent := k.sent.filter (fun z => !(z.dev == d.val && z.vec == vec.toNat && !z.acked)) })
      let u := { y.unit with excluded := y.unit.excluded ++ [y.beam] }
      (x.modLock (u.lock.getD 0) (fun q => q.takeBack u)).unanswered d
    | none =>
      match x.keeper.xwait.find? (fun y => y.dev == d.val && y.vec == vec.toNat) with
      | none => x
      | some w =>
        let x := x.modKeeper (fun k => { k with xwait := k.xwait.map (fun y =>
          if y.dev = d.val ∧ y.vec = vec.toNat then { y with tries := y.tries + 1 } else y) })
        let x := match x.askedRun w with
          | some r => x.sendTo d 0x14 (xtrackWords { x.xtrackOf r with t := w.t })
          | none => x
        x.unanswered d)

/-- XSYNC: T_sync of a half 0 that committed on member d. -/
def execXsync (via : Route) (vec : Word) (t : Word64) (s : State) : Host.Outcome State Fault Refusal :=
  s.on (fun x => x.routed via.src via.dst 0x13 [(vec.toNat : Int), (t.toNat : Int)] (fun x => match x.running with
    | some l => if x.members.contains via.src.val then
        x.modKeeper (fun k => { k with syncs := (l.num, vec.toNat, t.toNat) :: k.syncs }) else x
    | none => x))

/-- The first tick of a peer's track, shifted, at which it conflicts with a committed track here (R219). -/
def Dev.peerConflict (d : Dev) (x : XTrack) (shift : Nat) : Option (Nat × Track) :=
  let hold := d.plumeHold
  let inp := inPlume d.flow (d.fld LK_PLUME_LEN 0 24) (d.fld LK_PLUME_WID 0 24)
  let live (k : Nat) : Bool := ((x.pts.drop (k - hold)).take (k + 1 - (k - hold))).any (fun p => p.2.2)
  (List.range x.pts.length).findSome? (fun k =>
    match x.pts[k]? with
    | none => none
    | some (px, py, emits) =>
      let m := x.first + k + shift
      let q : Int × Int := (px * 2 ^ 24, py * 2 ^ 24)
      (d.keeper.tracks.find? (fun t =>
        let a := t.run.target (m * perTick)
        (t.run.liveAt hold m && emits && inp a q) || (live k && t.run.emitAt m && inp q a))).map (fun t => (m, t)))

/-- The shift of R220 for a peer's track. -/
def Dev.peerShift (d : Dev) (x : XTrack) (rev : Nat) : Nat → Nat → Nat
  | 0, k => k
  | n + 1, k =>
    match d.peerConflict x k with
    | none => k
    | some (m, t) => d.peerShift x rev n (Nat.max (k + (t.run.lastEmit + d.plumeHold) - m + 1) rev)

/-- The shift this device answers for a peer's track: its own committed tracks and ledger (R220, R221, R382). -/
def Dev.shiftAnswer (d : Dev) (x : XTrack) : Nat :=
  let cells := ((x.pts.filter (fun p => p.2.2)).map (fun p => d.cellOf (p.1 * 2 ^ 24) (p.2.1 * 2 ^ 24))).eraseDups
  let rev := revisitAfter x.revisit (d.exposures cells d.keeper.tracks) - (x.first + x.pts.findIdx (fun p => p.2.2))
  if d.bit LK_PLUME_CFG 31 then d.peerShift x rev (d.keeper.tracks.length + 1) rev else rev

/-- A request of member v may be answered: no request of this device that comes before it, by time-stamp and DEV_ID, is
open (R223, R225). -/
def Dev.mayAnswer (d : Dev) (v t : Nat) : Bool :=
  d.keeper.xwait.all (fun w => decide (t < w.t) || (w.t == t && decide (v < d.devId)))

/-- The requests that may be answered are. -/
def Dev.serveReqs (d : Dev) : Dev :=
  let now (q : Nat × XTrack) : Bool := d.mayAnswer q.1 q.2.t
  let due := d.keeper.xreqs.filter now
  let d := d.modKeeper (fun k => { k with xreqs := k.xreqs.filter (fun q => !now q) })
  due.foldl (fun d q => d.sendTo q.1 0x15 [(q.2.vec.toNat : Int), (d.shiftAnswer q.2 : Int)]) d

/-- XCOMMIT_REQ: member d asks for the shift of a track; a repeated request takes the place of the first. -/
def execXcommitReq (via : Route) (x : XTrack) (s : State) : Host.Outcome State Fault Refusal :=
  s.on (fun y => y.routed via.src via.dst 0x14 (xtrackWords x) (fun y =>
    if !y.members.contains via.src.val || y.mode.cur != .build then y
    else (y.modKeeper (fun k => { k with
      xreqs := k.xreqs.filter (fun q => !(q.1 == via.src.val && q.2.vec == x.vec)) ++ [(via.src.val, x)] })).serveReqs))

/-- The beam whose conflict raised a unit's shift at a peer: R371's answer does not tell it. Without a revisit time it is
some beam of the peer; else revisit time may have decided. DEDUCED (log entry 96). -/
def Dev.causeAt (d : Dev) (w : XWait) (shift : Nat) : Option Nat :=
  let us := match d.askedRun w with | some r => d.revisitOf r.unit | none => 0
  match Config.peerCause w.dev w.vec shift with
  | some b => some (w.dev * 16 + b.val)
  | none => if us = 0 then some (w.dev * 16) else none

/-- XCOMMIT_RSP: member d answers with a shift. The last answer lets the unit commit at the largest shift. -/
def execXcommitRsp (via : Route) (vec shift : Word) (s : State) : Host.Outcome State Fault Refusal :=
  s.on (fun x => x.routed via.src via.dst 0x15 [(vec.toNat : Int), (shift.toNat : Int)] (fun x =>
    match x.keeper.xwait.find? (fun y => y.dev == via.src.val && y.vec == vec.toNat) with
    | none => x
    | some w =>
      let c := match w.conflict with
        | some b => some b
        | none => if w.shift < shift.toNat then x.causeAt w shift.toNat else none
      let x := x.answered via.src
      let k := Nat.max w.shift shift.toNat
      let rest := x.keeper.xwait.filter (fun y => !(y.dev == via.src.val && y.vec == vec.toNat))
      let rest := rest.map (fun y => if y.engine = w.engine then { y with shift := Nat.max y.shift k, conflict := c } else y)
      let x := x.modKeeper (fun q => { q with xwait := rest })
      if x.keeper.xwait.any (fun y => y.engine == w.engine) || !x.committing w.engine then x.serveReqs
      else (x.peersAgree w.engine k c w.kind).serveReqs))

/-- XPROGRESS: member d reports on an entry of this device, at the end with its outcome. -/
def execXprogress (via : Route) (vec arc : Word) (t : Word64) (final : Option (BitVec 8)) (s : State) :
    Host.Outcome State Fault Refusal :=
  s.on (fun x => x.routed via.src via.dst 0x16 (([vec.toNat, arc.toNat, t.toNat] ++ (final.map (fun f => f.toNat)).toList : List Nat).map
      (fun (k : Nat) => (k : Int))) (fun x =>
    let hit (y : Sent) : Bool := y.dev == via.src.val && y.unit.recs.any (fun r => r.vecId == vec.toNat)
    match x.keeper.sent.find? hit with
    | none => x
    | some y =>
      let k := y.unit.recs.findIdx (fun r => r.vecId == vec.toNat)
      match final with
      | none => x.modKeeper (fun q => { q with sent := q.sent.map (fun z =>
          if hit z then { z with prog := some (vec.toNat, arc.toNat, t.toNat) } else z) })
      | some st =>
        let given := if y.given.contains k then y.given else y.given ++ [k]
        let sent := x.keeper.sent.map (fun z => if hit z then { z with prog := none, given := given } else z)
        let sent := sent.filter (fun z => decide (z.given.length < z.unit.recs.length))
        let x := x.modKeeper (fun q => { q with sent := sent })
        x.giveOutcome y.unit k ⟨st.toNat, some y.beam, false, 0, arc.toNat, t.toNat, false⟩))

/-! ## Cross-device residuals (R385) -/

/-- What RESID carries (R385). -/
def xresidWords : XResid → List Int
  | .ask i k px py table set frames =>
    [3, (i.val : Int), (k : Int), px, py, (table.toNat : Int), (set.toNat : Int), (frames : Int)]
  | .answer i k got => [0, (i.val : Int), (k : Int)] ++ residWords k (got.map (fun g => (k, g.1, g.2)))
  | .entry i mx rms n => [1, (i.val : Int), (mx.toNat : Int), (rms.toNat : Int), (n.toNat : Int)]
  | .stale i => [2, (i.val : Int)]

/-- RESID: a residual message of member d. -/
def execResid (via : Route) (x : XResid) (s : State) : Host.Outcome State Fault Refusal :=
  s.on (fun y => y.routed via.src via.dst 0x33 (xresidWords x) (fun y =>
    if !y.members.contains via.src.val then y
    else match x with
      | .ask i k px py table set frames =>
        if y.mode.cur ≠ .calibrate then y
        else
          let sets := match y.table table.toNat with | some t => t.sets | none => []
          let ps := (bitList 16 (y.lockMembers i)).map (fun b => Probe.mk k b px py)
          let q : Req := ⟨64 + via.src.val, k, 0x0D02, 0, 0, 0, 0, 0, 0, 0, 0, 0, 0, 0, 0⟩
          let j := { mkProbes q sets set.toNat frames k ps with lock := some i.val, peer := some via.src.val, serves := true }
          ({ y with probes := y.probes ++ [j] }).stepProbe j
      | .answer i k got =>
        match y.probes.find? (fun j => j.lock == some i.val && j.peer == some via.src.val && !j.serves) with
        | none => y
        | some j =>
          let more := got.map (fun g => (k, g.1, g.2))
          let left := j.away.filter (fun a => a != k)
          let j' : ProbeJob := { j with got := j.got ++ more, away := left }
          let y := { y with probes := y.probes.map (fun z => if keyOf z.req = keyOf j.req ∧ !z.serves then j' else z) }
          if j'.todo.isEmpty then y.probesMade j' else y
      | .entry i mx rms n => { y with
          resids := y.resids.set i.val ⟨n.bit 8, mx.toNat, rms.toNat, n.toNat, y.gridCommits, true⟩ }
      | .stale i => { y with resids := modAt y.resids i.val (fun r => if r.made then { r with r2 := r.r2 ||| 512 } else r) }))

/-! ## Lane tests (R339 to R341, R387) -/

/-- The port of a lane: a scanner port, or a Byoft port with its lane. -/
def laneScn (l : Nat) : Option Nat := if l < 32 then some (l % 16) else none
def laneByf (l : Nat) : Nat × Nat := ((l - 32) % 16 / 4, (l - 32) % 4)

/-- The lane's counters and lock restart. -/
def Dev.laneZero (d : Dev) (l : Nat) : Dev :=
  (((d.wr (LT_ERR l) 0).wr (LT_BITS_LO l) 0).wr (LT_BITS_HI l) 0).wr (LT_STATUS l) 0

/-- Another lane of the same port is under test. -/
def Dev.laneMate (d : Dev) (l : Nat) : Bool :=
  (List.range 64).any (fun k => k != l && d.bit (LT_CFG k) 31 &&
    (match laneScn l, laneScn k with
      | some a, some b => a == b
      | none, none => (laneByf l).1 == (laneByf k).1
      | _, _ => false))

/-- TEST_REQ on port p: the lane, whether it asks (0) or answers no (1) or yes (2), and the tick to start on (R387). -/
def Dev.sendTest (d : Dev) (p l : Nat) (answer : Option Bool) : Dev :=
  d.sendFlit p 0x32 d.devId ((((d.bport p).peer).map (fun x => x.1)).getD 0)
    [(l : Int), match answer with | none => 0 | some b => 1 + (bitOf b : Nat), ((d.tick + 2048 : Nat) : Int)]

/-- A lane goes into test with its port: at once with LOOP, else with the head or the peer. -/
def Dev.laneOn (d : Dev) (l pattern : Nat) (loop : Bool) : Dev :=
  match laneScn l with
  | some b =>
    let d := (d.setEmit b false).send (.prbs (l % 16) pattern)
    if loop then d.modPort b (fun (p : Port) => { p with state := 4, cmd := 0, arg := 0 })
    else d.modPort b (fun (p : Port) => { p with
      cmd := 4, arg := pattern + ((d.tick + 2048) % 2 ^ 24) * 256 })
  | none =>
    if loop then (d.byfLeave (laneByf l).1 4 true).send (.prbs (l - l % 32 + l % 16) pattern) else d.sendTest (laneByf l).1 (laneByf l).2 none

/-- A lane leaves test: its port returns to training with the last one. -/
def Dev.laneOff (d : Dev) (l : Nat) : Dev :=
  if d.laneMate l then d
  else match laneScn l with
    | some b => if (d.port b).state = 4 then d.retrain b else d
    | none =>
      if (d.bport (laneByf l).1).state = 4 then
        (d.sendTraining false (laneByf l).1 false).modBport (laneByf l).1 (fun b => { b with state := 1 })
      else d

/-- The configuration of a lane is written, with what enabling, disabling and a new pattern do. -/
def Dev.laneCfg (d : Dev) (l : Nat) (en loop : Bool) (pattern burst : Nat) : Dev :=
  let old := d.rd (LT_CFG l)
  let w := bitOf en * 2 ^ 31 + pattern * 2 ^ 28 + bitOf loop * 2 ^ 27 + Nat.min burst 64 * 2 ^ 8
  let d := d.wrN (LT_CFG l) w
  let d := if (en && !old.bit 31) || old.get 28 2 != pattern then d.laneZero l else d
  if en && !old.bit 31 then d.laneOn l pattern loop
  else if !en && old.bit 31 then d.laneOff l else d

def cmdLaneTest : Cmd where
  check d q :=
    let l := q.a0.get 0 6
    let quiet := q.a1.bit 3 && !q.a1.bit 2
    firstFail (shape q [0x3F, 0xFF0F] none 0 ++
      [absentIf (!lanePresent d.variant l), d.modeIs q [.service],
       limitIf (d.replay.isSome && (match laneScn l with | some b => (d.engineOf b).isSome | none => false)) 0x0C31,
       limitIf (quiet && (match laneScn l with | some b => !(d.port b).cap.testBit 2 | none => false)) 0x0C32])
  effect q _ d :=
    let l := q.a0.get 0 6
    let d := d.laneCfg l (q.a1.bit 3) (q.a1.bit 2) (q.a1.get 0 2) (q.a1.get 8 8)
    if q.a1.bit 3 && !q.a1.bit 2 && decide (32 ≤ l) then d.modByf (fun b => { b with tests := b.tests ++ [(l, q)] })
    else d.ok q 0 0 0 0

/-- LANE_TEST. -/
def execLaneTest (r : Req) (e : Env) (s : State) : Host.Outcome State Fault Refusal :=
  s.command 0x0C30 cmdLaneTest r e

/-- TEST_REQ: the peer on port p asks for a test of lane l, or answers. -/
def execTestReq (p : Fin 4) (l : Fin 4) (answer : Option Bool) (s : State) : Host.Outcome State Fault Refusal :=
  s.on (fun d =>
    match answer with
    | none =>
      if (d.bport p).state ≠ 2 then d
      else
        let yes := d.mode.cur == .service
        let d := d.sendTest p l (some yes)
        if yes then d.byfLeave p 4 true else d
    | some yes =>
      let hit (t : Nat × Req) : Bool := laneByf t.1 == (p.val, l.val)
      match d.byf.tests.find? hit with
      | none => d
      | some (k, q) =>
        let d := d.modByf (fun b => { b with tests := b.tests.filter (fun t => !hit t) })
        if yes then ((d.byfLeave p 4 true).send (.prbs (32 + 4 * p + l) (d.fld (LT_CFG k) 28 2))).ok q 0 0 0 0
        else (d.setBit (LT_CFG k) 31 false).fail q stLimit 0x0C33)

/-- LANE_INJECT: 1 written to LT_LANEl_CFG.INJ; ignored while a burst is in progress or the test is off. -/
def execLaneInject (l : Fin 64) (s : State) : Host.Outcome State Fault Refusal :=
  s.whenUp (fun d =>
    let busy := d.scn.burst.any (fun b => b.1 == l.val && decide (d.tb3 < b.2))
    if !lanePresent d.variant l || !d.bit (LT_CFG l) 31 || busy then d
    else
      let mbps := if l.val < 32 then 3200 / 2 ^ d.fld (SCN_PORT_CFG (l % 16)) 16 2 else 16000 / 2 ^ d.fld BYF_CFG 0 2
      let bits := Nat.max 1 (d.fld (LT_CFG l) 8 8)
      let n := Nat.min 0xFFFF (d.fld (LT_STATUS l) 0 16 + 1)
      let d := (d.setFld (LT_STATUS l) 0 16 n).send (.prbsInvert l bits)
      { d with scn := { d.scn with
        burst := List.cons (l.val, d.tb3 + ceilDiv (bits * 16000) mbps) (d.scn.burst.filter (fun b => b.1 != l.val)) } })

/-- LANE_CFG_WRITE: the RW fields of LT_LANEl_CFG are written, in CONFIGURE (R345). -/
def execLaneCfgWrite (l : Fin 64) (val : Word) (s : State) : Host.Outcome State Fault Refusal :=
  s.whenUp (fun d =>
    if !lanePresent d.variant l then d
    else
      let v := val &&& 0xB800FF00
      if d.mode.cur ≠ .configure then (if v = d.rd (LT_CFG l) then d else d.refuse (LT_CFG l))
      else d.laneCfg l (v.bit 31) (v.bit 27) (v.get 28 2) (v.get 8 8))

/-- PRBS_CHECKER_LOCK: the checker of lane l locks, and from there counts errors and bits. -/
def execPrbsCheckerLock (l : Fin 64) (errors bits : Nat) (s : State) : Host.Outcome State Fault Refusal :=
  s.on (fun d =>
    if !d.bit (LT_CFG l) 31 then d
    else
      let d := (d.setBit (LT_STATUS l) 31 true).count (LT_ERR l) errors
      d.wr64 (LT_BITS_LO l) (LT_BITS_HI l) ((d.rd64 (LT_BITS_LO l) (LT_BITS_HI l) + bits) % 2 ^ 64))

end Sys2Proof.Machine
end

