-- ==== Sys2Proof/Machine/FaultCmds.lean ====
section
/-! DEFINITION. Detection of the faults that have no chapter of their own, and the fault commands
(18, 21). -/

namespace Sys2Proof.Machine

/-- GHOST_TRAFFIC: `count` transactions of unit u; an unfenced unit's are no ghosts. -/
def execGhostTraffic (u : Fin 22) (count : Nat) (s : State) : Host.Outcome State Fault Refusal :=
  s.on (fun d => if d.fencedUnit u then d.ghost u count else d)

/-- ERR_N_PULSE_END: the pin takes the software level, and ERR_LEVELs that waited complete. -/
def execErrNPulseEnd (s : State) : Host.Outcome State Fault Refusal :=
  s.on (fun d =>
    match d.flt.pulse with
    | none => d
    | some t =>
      let d := d.advanceTo t
      d.flt.levels.foldl (fun d q => d.ok q 0 0 0 0) { d with flt := { d.flt with pulse := none, levels := [] } })

/-! ## Thermal and supply monitors (R468, R469, R538, R550) -/

/-- A sensor's reading in 1/16 °C is valid: −50 to 160 °C. -/
def tjValid (t : Int) : Bool := decide (-800 ≤ t) && decide (t ≤ 2560)

/-- The highest valid reading; none when all are invalid. -/
def tjMax (ts : List Int) : Option Int :=
  (ts.filter tjValid).foldl (fun m t => some (match m with | none => t | some x => if x < t then t else x)) none

/-- The junction temperature last read. -/
def Dev.tj (d : Dev) : Int := signed 16 (d.fld CLK_TJ_MAX 0 16)

/-- The lifetime bin of a junction temperature: 5 °C bins from −40 °C. DEDUCED (log entry 32). -/
def tjBin (t : Int) : Nat := (clampInt 0 31 ((t + 640) / 80)).toNat

/-- Fault (38, cause) with its own mode-transition cause (R48, R485). -/
def Dev.raiseTrig (d : Dev) (cause trig : Nat) : Dev :=
  let (x, d) := d.free
  d.raiseWith ⟨false, some trig, none, true⟩ 38 cause (BitVec.ofNat 32 x)

/-- THERMAL_SAMPLE: the four sensors in 1/16 °C. Both thresholds may be crossed at once; SAFE governs. -/
def execThermalSample (t : List Int) (s : State) : Host.Outcome State Fault Refusal :=
  s.on (fun d =>
    let ts := t.take 4
    let d := (List.range ts.length).foldl (fun d n =>
      let v := ts.getD n 0
      d.wrN (CLK_TJ n) (unsigned 16 v + bitOf (!tjValid v) * 65536)) d
    match tjMax ts with
    | none => if d.standing 38 2 then d else d.raiseTrig 2 0x05
    | some m =>
      let d := d.wrN CLK_TJ_MAX (unsigned 16 m)
      let d := { d with life := { d.life with tjHist := modAt d.life.tjHist (tjBin m) (· + 1) } }
      let d := if 2080 ≤ m ∧ !d.standing 38 2 then d.raiseTrig 2 0x05 else d
      let d := if 1920 ≤ m ∧ !d.standing 38 1 then d.raiseTrig 1 0x04 else d
      let d := if m < 2000 then d.endCause 38 2 else d
      if m < 1840 then d.endCause 38 1 else d)

/-- The monitor limits of rail r in mV (R538). -/
def railLimits (r : Nat) : Nat × Nat :=
  [(705, 795), (800, 900), (1045, 1155), (855, 945), (1140, 1260), (1670, 1930), (3050, 3550), (1670, 1930)].getD r (0, 65535)

/-- CLK_RAILr: the voltage, with LOW and HIGH outside the monitor limits. -/
def railWord (r mv : Nat) : Nat :=
  mv % 65536 + bitOf (decide (mv < (railLimits r).1)) * 65536 + bitOf (decide ((railLimits r).2 < mv)) * 131072

/-- SUPPLY: rail r is at `mv` and was between `low` and `high` over the last 10 µs. DEDUCED (log entry 107). -/
def execSupply (r : Fin 8) (mv low high : Nat) (s : State) : Host.Outcome State Fault Refusal :=
  s.on (fun d =>
    let d := { d with rails := d.rails.set r (railWord r mv) }
    if high < (railLimits r).1 ∨ (railLimits r).2 < low then
      let d := d.setBit CLK_RAIL_EXC r true
      let d := { d with life := { d.life with supply := bump d.life.supply r 1 } }
      d.fault 38 3
    else d)

/-- SUPPLY_RESTORED: rail r is at `mv`; the condition ends when every rail is within its limits. -/
def execSupplyRestored (r : Fin 8) (mv : Nat) (s : State) : Host.Outcome State Fault Refusal :=
  s.on (fun d =>
    let d := { d with rails := d.rails.set r (railWord r mv) }
    if d.rails.all (fun w => decide (w < 65536)) then d.endCause 38 3 else d)

/-- PFAIL_N_HIGH: the PFAIL condition ends. -/
def execPfailNHigh (s : State) : Host.Outcome State Fault Refusal :=
  s.on (fun d => d.endCause 38 4)

/-- LOCKSTEP: what a supervisor pair reports. -/
def execLockstep (_pair : Fin 2) (kind : SupFault) (s : State) : Host.Outcome State Fault Refusal :=
  s.on (fun d => d.fault 1 (match kind with | .disagree => 1 | .eccCorr => 2 | .eccUe => 3))

/-- WATCHDOG: not serviced for 10 ms. -/
def execWatchdog (s : State) : Host.Outcome State Fault Refusal :=
  s.on (fun d => d.fault 1 4)

/-- REFCLK_BAD (R414, R544). -/
def execRefclkBad (s : State) : Host.Outcome State Fault Refusal :=
  s.on (fun d => (d.setBit CLK_STATUS 0 false).fault 35 1)

/-- REFCLK_RESTORED: REFCLK is within its limits again. -/
def execRefclkRestored (s : State) : Host.Outcome State Fault Refusal :=
  s.on (fun d => (d.setBit CLK_STATUS 0 true).endCause 35 1)

/-- SAFE_REQ as a SAFE-class fault with its own mode-transition cause (R48, R468). -/
def Dev.safeReq (d : Dev) : Dev :=
  let (x, d) := d.free
  d.raiseWith ⟨false, some 0x07, none, true⟩ 0 2 (BitVec.ofNat 32 x)

/-- SAFE_REQ: MODE_CTRL.SAFE_REQ written. -/
def execSafeReq (s : State) : Host.Outcome State Fault Refusal := s.whenUp Dev.safeReq

/-! ## History (R472, R473) -/

/-- The words D0 to D4 of entry k. -/
def Dev.histWords (d : Dev) (k : Nat) : List Word :=
  match d.flt.hist[k]? with
  | none => [0, 0, BitVec.ofNat 32 (k * 2 ^ 24), 0, 0]
  | some h =>
    let live := !h.forwarded && (h.cls == .hold || h.cls == .safe) &&
      d.flt.live.any (fun l => l.src == h.src && l.cause == h.cause)
    [BitVec.ofNat 32 h.t, BitVec.ofNat 32 (h.t / 2 ^ 32),
     BitVec.ofNat 32 (h.src + h.cls.code * 64 + h.cause * 256 + h.dev * 65536 + bitOf h.injected * 2 ^ 19
       + bitOf h.forwarded * 2 ^ 20 + bitOf h.promoted * 2 ^ 21 + bitOf live * 2 ^ 22
       + bitOf h.acked * 2 ^ 23 + k * 2 ^ 24 + 2 ^ 29),
     h.payload, BitVec.ofNat 32 h.seq]

/-- HIST_SELECT: entry k is copied to FLT_HIST_D0 to D4. -/
def execHistSelect (k : Fin 32) (s : State) : Host.Outcome State Fault Refusal :=
  s.whenUp (fun d => (List.range 5).foldl (fun d i => d.wr (FLT_HIST_D i) ((d.histWords k).getD i 0)) d)

/-! ## Commands (R489) -/

/-- Faults that sources report in the cycle of a command: source, cause and payload of each, in order. -/
def Dev.raiseAll : List Int → Dev → Dev
  | s :: c :: p :: rest, d => Dev.raiseAll rest (d.raise s.toNat c.toNat (BitVec.ofInt 32 p))
  | _, d => d

/-- Bits of a sticky register that a command of the fault group clears, and a fault of the same cycle sets again: they
stand, and each counts as lost (R43, R488). -/
def Dev.lostSticky (d : Dev) (off : Nat) (cleared : Word) : Dev :=
  let w := d.rd off &&& cleared
  d.lostClear off (popCount w) (lowBit w)

/-- Every cause a FAULT_ACK names is acknowledged; a cause whose condition has ended is no longer live
(R470). -/
def Dev.ackFaults (d : Dev) (hit : Nat → Nat → Bool) : Dev :=
  let live := d.flt.live.map (fun l => if hit l.src l.cause then { l with acked := true } else l)
  let hist := d.flt.hist.map (fun h => if !h.forwarded && hit h.src h.cause then { h with acked := true } else h)
  { d with flt := { d.flt with live := live.filter (fun l => !(l.ended && l.acked)), hist := hist } }

/-- `e.vals`: the faults detected in the same cycle, which win over the acknowledgement (R488).
DEDUCED (log entry 34). -/
def cmdFaultAck : Cmd where
  check d q := firstFail (shape q [if q.a0 = 0xFFFFFFFF then 0xFFFFFFFF else 0xFF3F] none 0 ++
    [d.modeIs q allModes])
  effect q e d :=
    let hit (src cause : Nat) : Bool := q.a0 == 0xFFFFFFFF || (src == q.a0.get 0 6 && cause == q.a0.get 8 8)
    let acked := d.flt.live.filter (fun l => hit l.src l.cause)
    let d := Dev.raiseAll e.vals (d.ackFaults hit)
    let lost := acked.filter (fun l => d.flt.live.any (fun x => x.src == l.src && x.cause == l.cause && !x.acked))
    let d := lost.foldl (fun d l => d.lostClear (FLT_SEEN (l.src / 32)) 1 (l.src % 32)) d
    d.ok q d.flt.live.length 0 0 0

def execFaultAck (r : Req) (e : Env) (s : State) : Host.Outcome State Fault Refusal :=
  s.command 0x0B01 cmdFaultAck r e

/-- What FAULT_CLEAR clears: register and bits (R471). -/
def clearedBits : List (Nat × Word) :=
  [(FLT_SEEN 0, BitVec.allOnes 32), (FLT_SEEN 1, BitVec.allOnes 32), (REC_STATUS, 0x40000000),
   (FLT_FIRST_SAFE, BitVec.allOnes 32), (FLT_FIRST_HOLD, BitVec.allOnes 32), (FLT_GHOST_CNT, BitVec.allOnes 32)]

/-- `e.vals`: the faults that arise in the same cycle: what they set stands, and counts as a lost clear (one for each
bit of FLT_SEEN, MEMFAIL, and one for each field of FLT_FIRST_SAFE and FLT_FIRST_HOLD; R43, R488). -/
def cmdFaultClear : Cmd where
  check d q := firstFail (shape q [1] none 0 ++
    [d.modeIs q (if q.a0.bit 0 then [.service] else allModes)])
  effect q e d :=
    let d := clearedBits.foldl (fun d b => d.wr b.1 (d.rd b.1 &&& ~~~b.2)) d
    let d := if q.a0.bit 0 then
        ({ d with flt := { d.flt with hist := [], seq := 0 } }).wr FLT_HIST_CNT 0
      else d
    let d := Dev.raiseAll e.vals d
    let d := [FLT_SEEN 0, FLT_SEEN 1].foldl (fun d o => d.lostSticky o (BitVec.allOnes 32)) d
    let d := d.lostSticky REC_STATUS 0x40000000
    let d := [FLT_FIRST_SAFE, FLT_FIRST_HOLD].foldl (fun d o => if d.bit o 16 then d.lostClear o 5 0 else d) d
    d.ok q 0 0 0 0

def execFaultClear (r : Req) (e : Env) (s : State) : Host.Outcome State Fault Refusal :=
  s.command 0x0B02 cmdFaultClear r e

/-- FLT_INJ_STATUS. -/
def Dev.injStatus (d : Dev) : Dev :=
  d.wrN FLT_INJ_STATUS (bitOf d.flt.inj.isSome * 2 ^ 31 + Nat.min 255 d.flt.injCount * 65536
    + d.flt.injCause * 256 + d.flt.injSrc)

/-- The injection is raised as though the source had reported it (R485 to R487); `same`: a real fault
of the same source and cause met it, so that the reaction has been taken. DEDUCED (log entry 30). -/
def Dev.fireInject (d : Dev) (i : Inject) (same : Bool) : Dev :=
  let d := { d with flt := { d.flt with inj := none } }
  let fenced := match unitOfSource i.src with | some u => d.fencedUnit u && !same | none => false
  if fenced then
    (d.raiseWith ⟨true, none, none, true⟩ i.src i.cause i.payload).injStatus.fail i.req stFenced 0
  else
    let d := d.raiseHow ⟨true, none, none, !same⟩ i.src i.cause i.payload
    let seq := d.flt.seq
    let d := { d with flt := { d.flt with injCount := d.flt.injCount + 1 } }
    d.injStatus.ok i.req seq 0 0 0

/-- FAULT_INJECT_FIRE: the armed instant arrives; a real fault in the same cycle is admitted first. -/
def execFaultInjectFire (realToo : Option FaultReport) (s : State) : Host.Outcome State Fault Refusal :=
  s.on (fun d =>
    match d.flt.inj with
    | none => d
    | some i =>
      let d := { d with tb3 := Nat.max d.tb3 i.at_ }
      match realToo with
      | none => d.fireInject i false
      | some f =>
        let d := d.raise f.src.toNat f.cause.toNat f.payload
        d.fireInject i (f.src.toNat == i.src && f.cause.toNat == i.cause))

def cmdFaultInject : Cmd where
  check d q :=
    let src := q.a0.get 0 6
    let cause := q.a0.get 8 8
    let t := q.a1.toNat + q.a2.toNat * 2 ^ 32
    firstFail (shape q [0xFF3F, 0xFFFFFFFF, 0xFFFFFFFF, 0xFFFFFFFF] none 0 ++
      [((({ d with variant := .pq16 } : Dev).faultClass src cause q.a3).isNone, stMalformed, 0x0B02),
       absentIf (d.faultClass src cause q.a3).isNone,
       d.modeIs q [.standby, .calibrate, .build, .hold, .service],
       fencedIf (match unitOfSource src with | some u => d.fencedUnit u | none => false),
       limitIf d.flt.inj.isSome 0x0B03,
       limitIf (t != 0 && decide (t < d.tb3)) 0x0B05])
  effect q _ d :=
    let i : Inject := ⟨q.a0.get 0 6, q.a0.get 8 8, q.a1.toNat + q.a2.toNat * 2 ^ 32, q.a3, q⟩
    let d := { d with flt := { d.flt with inj := some i, injSrc := i.src, injCause := i.cause } }
    if i.at_ = 0 then d.fireInject i false else d.injStatus

def execFaultInject (r : Req) (e : Env) (s : State) : Host.Outcome State Fault Refusal :=
  s.command 0x0B03 cmdFaultInject r e

def cmdErrLevel : Cmd where
  check d q := firstFail (shape q [1] none 0 ++ [d.modeIs q allModes])
  effect q _ d :=
    let d : Dev := { d with flt := { d.flt with level := q.a0.bit 0 } }
    if d.flt.pulse.isNone then d.ok q 0 0 0 0 else { d with flt := { d.flt with levels := d.flt.levels ++ [q] } }

def execErrLevel (r : Req) (e : Env) (s : State) : Host.Outcome State Fault Refusal :=
  s.command 0x0B05 cmdErrLevel r e

/-- The bits of FLT_LIVE: the source has a live cause or is fenced (R471). -/
def Dev.liveWord (d : Dev) (k : Nat) : Nat :=
  let has (s : Nat) : Bool := d.flt.live.any (fun l => l.src == s) ||
    (match unitOfSource s with | some u => d.fencedUnit u | none => false)
  ((List.range 32).map (fun i => if has (32 * k + i) then 2 ^ i else 0)).sum

def Dev.fencedWord (d : Dev) : Nat :=
  ((List.range 22).map (fun u => if d.fencedUnit u then 2 ^ u else 0)).sum

def cmdFaultQuery : Cmd where
  check d q := firstFail (shape q [] none 0 ++ [d.modeIs q allModes])
  effect q _ d := d.ok q (d.liveWord 0) (d.liveWord 1) d.fencedWord (d.rd FLT_HIST_CNT).toNat

def execFaultQuery (r : Req) (e : Env) (s : State) : Host.Outcome State Fault Refusal :=
  s.command 0x0B80 cmdFaultQuery r e

def cmdHistRead : Cmd where
  check d q := firstFail (shape q [] none 640 ++ [d.modeIs q allModes])
  effect q _ d :=
    d.okData q ((List.range 32).flatMap (fun k => (d.histWords k).flatMap (fun w => leBytes 4 w.toNat))) 0 0 0 0

def execHistRead (r : Req) (e : Env) (s : State) : Host.Outcome State Fault Refusal :=
  s.command 0x0B81 cmdHistRead r e

end Sys2Proof.Machine
end

