-- ==== Sys2Proof/Machine/Illum.lean ====
section
/-! DEFINITION. Illumination and indicator drive (16). -/

namespace Sys2Proof.Machine

/-- BLOOM_UPDATE: the millisecond of engine k; engine 1 stands still in the safe pattern. -/
def execBloomUpdate (k : Fin 2) (s : State) : Host.Outcome State Fault Refusal :=
  s.on (fun d => if k.val = 1 && d.lampSafe then d else d.bloomSet k)

/-- The level a bloom engine gives a channel: engine 0 where the channel is in its mask. -/
def Dev.bloomOf (d : Dev) (c : Nat) : Option Nat :=
  let k := if d.bit (ILL_BLOOM_MODE 0) (16 + c) then 0 else 1
  ((d.ill.blooms.getD k default).vals.find? (fun p => p.1 == c)).map (·.2)

/-! ## Levels (R447) -/

/-- The short latch of a channel. -/
def Dev.lampLatch (d : Dev) (c : Nat) : Bool := d.bit ILL_STATUS (16 + c)

/-- The duty a channel takes at a period start, a strobe window apart. DESIGN CHOICE (log entry 67). -/
def Dev.lampLevel (d : Dev) (c : Nat) : Nat :=
  if !d.bit (ILL_CH_CFG c) 31 || d.mode.cur == .configure then 0
  else if d.lampSafe then
    let v := ((d.ill.blooms.getD 0 default).vals.find? (fun p => p.1 == c)).map (·.2)
    v.getD (d.fld (ILL_CH_SAFE c) 0 16)
  else if d.lampLatch c then 0
  else (d.bloomOf c).getD (d.lampC c).host

/-- LED_SETs that name channel c have seen its period start; those with no channel left complete. -/
def Dev.lampSetDone (d : Dev) (c : Nat) : Dev :=
  let hit (x : Req × Nat × Nat) : Req × Nat × Nat :=
    if x.2.2 < d.motCycle ∧ x.2.1.testBit c then (x.1, x.2.1 - 2 ^ c, x.2.2) else x
  let sets := d.ill.sets.map hit
  let d := { d with ill := { d.ill with sets := sets.filter (fun x => x.2.1 != 0) } }
  (sets.filter (fun x => x.2.1 == 0)).foldl (fun d x => d.ok x.1 0 0 0 0) d

/-- LED_PERIOD_START: channel c takes its level for the period. DEDUCED (log entry 65). -/
def execLedPeriodStart (c : Fin 12) (s : State) : Host.Outcome State Fault Refusal :=
  s.on (fun d =>
    let c := c.val
    if d.mode.boot < 2 ∨ !d.lampOn c then d
    else
      let l := d.lampC c
      let due := l.next.filter (fun x => decide (x.2.2.2 < d.motCycle))
      let d := match due.getLast? with
        | some (v, set, strobe, _) =>
          (d.modLamp c (fun (l : Lamp) => { l with host := v })).wrN (ILL_CH_TARGET c) (set + strobe * 2 ^ 16)
        | none => d
      let d := d.modLamp c (fun (l : Lamp) => { l with
        next := l.next.filter (fun x => decide (d.motCycle ≤ x.2.2.2)), dark := false })
      let v := d.lampLevel c
      let d := d.lampForce c v
      let d := d.send (.lamp c (lampSlices v (d.fld (ILL_CH_CFG c) 0 16)) (d.lampTarget c false))
      d.lampSetDone c)

/-! ## Strobe windows (R443) -/

/-- A channel follows strobe windows now. -/
def Dev.lampStrobes (d : Dev) (c : Nat) : Bool :=
  d.lampOn c && d.bit (ILL_CH_CFG c) 31 && d.bit (ILL_CH_CFG c) 30 && !d.lampSafe && d.mode.cur != .configure
    && !d.lampLatch c

/-- The window in progress closes. -/
def Dev.lampClose (d : Dev) (c : Nat) : Dev :=
  (d.modLamp c (fun (l : Lamp) => { l with win := none })).send (.lampWindow c (d.lampTarget c false) false)

/-- A strobe request opens or closes its window on channel c. -/
def Dev.strobeWindow (d : Dev) (c : Nat) (opens : Bool) : Dev :=
  let p := 16 + d.fld (ILL_CH_CFG c) 28 2
  match opens, (d.lampC c).win with
  | true, none =>
    match (d.cam p).strobes.find? (fun w => decide (d.tb3 < w.2)) with
    | some (o, cl) =>
      if d.lampStrobes c then
        let d := d.advanceTo o
        (d.modLamp c (fun (l : Lamp) => { l with win := some cl, dark := false })).send
          (.lampWindow c (d.lampTarget c true) true)
      else d
    | none => d
  | false, some cl => (d.advanceTo cl).lampClose c
  | _, _ => d

/-! ## Derating (R445) -/

/-- f of a temperature in 1/16 °C, as a fraction; none where ZERO is not above KNEE, for which the spec
states no value. -/
def derateOf (cfg : Word) (t : Int) : Option (Nat × Nat) :=
  let knee := 16 * signed 8 (cfg.get 8 8)
  let den := 16 * (cfg.get 16 8 : Int) - knee
  let num := den - (t - knee)
  let floor : Int := cfg.get 24 8
  if den ≤ 0 then none
  else if den ≤ num then some (1, 1)
  else if num * 256 ≤ floor * den then some (cfg.get 24 8, 256)
  else some (num.toNat, den.toNat)

/-- f takes a value; DERATE is raised once as it falls below 1. DEDUCED (log entry 68). -/
def Dev.setDerate (d : Dev) (c : Nat) (f : Nat × Nat) : Dev :=
  let below := decide (f.1 < f.2)
  let was := (d.lampC c).below
  let d := d.modLamp c (fun (l : Lamp) => { l with fNum := f.1, fDen := f.2, below := below })
  if below && !was then d.fault 33 4 else d

/-- LED_DERATE: channel c reads its NTC input. DESIGN CHOICE (log entry 66), DEDUCED (log entry 68). -/
def execLedDerate (c : Fin 12) (s : State) : Host.Outcome State Fault Refusal :=
  s.on (fun d =>
    let c := c.val
    if d.mode.boot < 2 ∨ !d.lampOn c then d
    else
      let n := d.fld (ILL_CH_CFG c) 26 2
      let cfg := d.rd ILL_DERATE
      if d.bit (ILL_NTC n) 16 then
        let d := if d.ill.ntcBad.testBit n then d
          else ({ d with ill := { d.ill with ntcBad := d.ill.ntcBad ||| 2 ^ n } }).fault 33 3
        d.setDerate c (cfg.get 24 8, 256)
      else
        let d := { d with ill := { d.ill with ntcBad := d.ill.ntcBad - (d.ill.ntcBad &&& 2 ^ n) } }
        match derateOf cfg (signed 16 (d.fld (ILL_NTC n) 0 16)) with
        | some f => d.setDerate c f
        | none => let (x, d) := d.free; d.setDerate c (x % 257, 256))

/-! ## Open and short (R446) -/

/-- The short latch forces a channel off. -/
def Dev.lampShort (d : Dev) (c : Nat) : Dev :=
  let d := d.setBit ILL_STATUS (16 + c) true
  let d := d.modLamp c (fun (l : Lamp) => { l with shortAt := some d.motCycle, win := none })
  let d := if d.lampSafe then d else (d.lampForce c 0).send (.lampOff c)
  d.fault 33 2

/-- The diagnostic pulse of a dimmed channel with D > 0: slice 0 lasts at least DIAG_W cycles (R446). -/
def Dev.lampPulse (d : Dev) (c : Nat) : Dev :=
  let v := d.fld (ILL_CH_LEVEL c) 0 16
  let slices := lampSlices v (d.fld (ILL_CH_CFG c) 0 16)
  if v = 0 then d
  else d.send (.lamp c (slices.set 0 (Nat.max (slices.headD 0) (d.fld (ILL_CH_CFG c) 16 10))) (d.lampTarget c false))

/-- LED_DIAGNOSTIC: the samples of a diagnosis, of the pulse or the window and of the off-time after it. A
window in progress ends first (R450). DEDUCED (log entry 68). -/
def execLedDiagnostic (c : Fin 12) (onSample offSample : BitVec 10) (s : State) : Host.Outcome State Fault Refusal :=
  s.on (fun d =>
    let c := c.val
    if d.mode.boot < 2 ∨ !d.lampOn c ∨ !d.bit (ILL_CH_CFG c) 31 then d
    else
      let d := match (d.lampC c).win with
        | some cl => (d.advanceTo cl).lampClose c
        | none => d
      let strobe := d.lampStrobes c
      let d := if strobe then d else d.lampPulse c
      let takesOn := strobe || decide (0 < d.fld (ILL_CH_LEVEL c) 0 16)
      let target := d.lampTarget c strobe
      let isOpen := takesOn && decide (4 * onSample.toNat < target)
      let isShort := (takesOn && decide (3 * target < 2 * onSample.toNat)) || decide (16 < offSample.toNat)
      let l := d.lampC c
      let d := d.setFld (ILL_CH_SENSE c) 16 10 offSample.toNat
      let d := if takesOn then d.setFld (ILL_CH_SENSE c) 0 10 onSample.toNat else d
      let d := d.modLamp c (fun (l : Lamp) => { l with wasOpen := isOpen, wasShort := isShort })
      let d := if isOpen && l.wasOpen then d.fault 33 1 else d
      if isShort && l.wasShort then d.lampShort c else d)

/-! ## Commands (R449) -/

/-- The modes of the illumination commands but LED_QUERY. -/
def ledModes : List Mode := [.standby, .calibrate, .build, .hold, .service]

/-- A channel mask names an absent channel. DEDUCED (log entry 68). -/
def Dev.lampMask (d : Dev) (m : Nat) : Bool × Nat × Nat := absentIf (decide (2 ^ nLeds d.variant ≤ m))

def cmdLedSet : Cmd where
  check d q := firstFail (shape q [0xFFF, 0xFFFF, 0x03FF03FF] none 0 ++ [d.lampMask (q.a0.get 0 12), d.modeIs q ledModes])
  effect q _ d :=
    let m := q.a0.get 0 12
    if m = 0 then d.ok q 0 0 0 0
    else
      let d := (bitList 12 m).foldl (fun d c => d.modLamp c (fun (l : Lamp) => { l with
        next := l.next ++ [(q.a1.get 0 16, q.a2.get 0 10, q.a2.get 16 10, d.motCycle)] })) d
      { d with ill := { d.ill with sets := d.ill.sets ++ [(q, m, d.motCycle)] } }

/-- LED_SET. -/
def execLedSet (r : Req) (e : Env) (s : State) : Host.Outcome State Fault Refusal :=
  s.command 0x0701 cmdLedSet r e

/-- DEDUCED (log entry 65). -/
def cmdBloomSet : Cmd where
  check d q := firstFail (shape q [1, 0x0FFF0007, 0xFFFFFFFF, 0xFFFFFFFF] none 0 ++
    [d.lampMask (q.a1.get 16 12), d.modeIs q ledModes,
     limitIf (decide (4 < q.a1.get 0 3) || decide (q.a3.toNat < 2) || decide (65535 < q.a3.toNat)) 0x0701])
  effect q _ d :=
    let d := d.bloomStart (q.a0.get 0 1) (q.a1.get 0 3) (q.a1.get 16 12) (q.a2.get 0 16) (q.a2.get 16 16) (q.a3.get 0 16)
    d.ok q 0 0 0 0

/-- BLOOM_SET. -/
def execBloomSet (r : Req) (e : Env) (s : State) : Host.Outcome State Fault Refusal :=
  s.command 0x0702 cmdBloomSet r e

/-- DEDUCED (log entry 68). -/
def cmdLedRearm : Cmd where
  check d q := firstFail (shape q [0xFFF] none 0 ++ [d.lampMask (q.a0.get 0 12), d.modeIs q ledModes])
  effect q _ d :=
    let clear (d : Dev) (c : Nat) : Dev :=
      if (d.lampC c).shortAt = some d.motCycle then d else d.setBit ILL_STATUS (16 + c) false
    ((bitList 12 (q.a0.get 0 12)).foldl clear d).ok q 0 0 0 0

/-- LED_REARM: a second short finding in the same MOT cycle keeps its latch (R450). -/
def execLedRearm (r : Req) (e : Env) (s : State) : Host.Outcome State Fault Refusal :=
  s.command 0x0703 cmdLedRearm r e

def cmdLedQuery : Cmd where
  check d q := firstFail (shape q [0xF] none 0 ++ [absentIf (!d.lampOn (q.a0.get 0 4)), d.modeIs q allModes])
  effect q _ d :=
    let c := q.a0.get 0 4
    d.ok q (d.fld (ILL_CH_LEVEL c) 0 16) (d.lampTarget c (d.lampC c).win.isSome) (d.rd (ILL_CH_SENSE c)).toNat 0

/-- LED_QUERY. -/
def execLedQuery (r : Req) (e : Env) (s : State) : Host.Outcome State Fault Refusal :=
  s.command 0x0780 cmdLedQuery r e

end Sys2Proof.Machine
end

