-- ==== Sys2Proof/Machine/Motion.lean ====
section
/-! DEFINITION. Axis motion and stepper drive (15). -/

namespace Sys2Proof.Machine

/-- MOT_AXa_CFG.DRIVE. -/
def Dev.axDrive (d : Dev) (a : Nat) : Nat := d.fld (MOT_AX_CFG a) 29 2

/-- The axis can move: enabled, energised, not faulted. DEDUCED (log entry 62). -/
def Dev.axReady (d : Dev) (a : Nat) : Bool := d.bit (MOT_AX_CFG a) 31 && (d.axis a).on && !(d.axis a).faulted

/-- The input k of axis a (0 LIMP, 1 LIMN, 2 HOME) is active. -/
def Dev.axActive (d : Dev) (a k : Nat) : Bool :=
  match (d.axis a).inp.getD k none with
  | some l => l != d.bit (MOT_AX_CFG a) k
  | none => false

/-- A target lies toward an active limit (R430). -/
def Dev.towardLimit (d : Dev) (a : Nat) (tgt : Int) : Bool :=
  let us := (d.axis a).us
  (decide (us < tgt) && d.axActive a 0) || (decide (tgt < us) && d.axActive a 1)

/-- The speed of a move: at most what 4 MHz, and the width of the pulses, allow in step drive (R422). DEDUCED (log entry
62). -/
def Dev.stepSpeed (d : Dev) (a v : Nat) : Nat × Option Nat :=
  let top := Nat.min 4000000 (50000000 / Nat.max 1 (d.fld (MOT_AX_DEB a) 24 8)) * 65536 / d.axScale a
  if d.axDrive a = 1 ∧ top < v then (Nat.max 1 top, some (Nat.max 1 top)) else (v, none)

/-- A move from a position and a speed to a goal, leaving at speed v1 at most. -/
def Dev.mkMove (d : Dev) (a : Nat) (g : Goal) (t0 : Nat) (p : Int) (v0 v1 : Nat) (seq : Bool) (org : Int) : Move :=
  let t := d.ofUs a g.tgt
  let (v, c) := d.stepSpeed a g.v
  let (ps, w) := trapezoid (t - p).natAbs v0 (v * motV) v1 (g.a * 1000)
  { goal := g, t0 := t0, p0 := p, org := org, plus := decide (p ≤ t), phases := ps, vEnd := w, seq := seq
    home := none, latched := false, stop := none, turn := false, ovr := 0, retune := none, clamp := c }

/-- Axis a starts a move from rest. DEDUCED (log entry 62). -/
def Dev.axStart (d : Dev) (a : Nat) (g : Goal) (v1 : Nat) (seq : Bool) : Dev :=
  let p := d.ofUs a (d.axis a).us
  d.modAxis a (fun x => { x with mv := some (d.mkMove a g d.tb3 p 0 v1 seq p), level := 0 })

/-- The exit speed of a move that starts at microsteps `us` with the queue behind it (R427). -/
def exitSpeed (us : Int) (g : Goal) : List Goal → Nat
  | [] => 0
  | h :: _ => if (us < g.tgt ∧ us < h.tgt) ∨ (g.tgt < us ∧ h.tgt < us) then Nat.min g.v h.v * motV else 0

/-- The position and speed registers of an axis (R417). DEDUCED (log entry 64). -/
def Dev.axPut (d : Dev) (a : Nat) (us vel : Int) : Dev :=
  (d.wrN (MOT_AX_POS a) (unsigned 32 us)).wrN (MOT_AX_VEL a) (unsigned 32 vel)

/-- An axis has come to a position: step drive has given a pulse for each microstep (R422). DEDUCED (log entry 64). -/
def Dev.axShow (d : Dev) (a : Nat) (us vel : Int) : Dev :=
  let n := us - d.rdI (MOT_AX_POS a)
  let d := if d.axDrive a % 2 = 1 ∧ n ≠ 0 then
      d.send (.steps a (if d.bit (MOT_AX_CFG a) 27 then -n else n) (d.fld (MOT_AX_DEB a) 24 8 * 10)) else d
  d.axPut a us vel

/-! ## Completion (R431, R433 to R435) -/

/-- MOT_STOPs all of whose axes are at rest complete. -/
def Dev.endMotStops (d : Dev) : Dev :=
  let ovr (s : Nat × Req) : Bool := (bitList 8 s.1).all (fun a => !(d.axis a).moving)
  let done := d.mot.stops.filter ovr
  let d := { d with mot := { d.mot with stops := d.mot.stops.filter (fun s => !ovr s) } }
  done.foldl (fun d s => d.ok s.2 0 0 0 0) d

/-- A step of the sequence is done; the last one completes it. -/
def Dev.seqStepDone (d : Dev) (a : Nat) (good : Bool) : Dev :=
  match d.mot.seq with
  | none => d
  | some s =>
    if !good then d.seqFail
    else
      let left := s.left.filter (fun x => x != a)
      if left.isEmpty ∧ s.steps.length ≤ s.next then
        let d := { d with mot := { d.mot with seq := none } }
        let d := if s.epoch = d.mot.epoch then ({ d with recoated := true }).layerTriggers else d
        match s.req with
        | some q => d.ok q 0 0 0 0
        | none => d
      else { d with mot := { d.mot with seq := some { s with left := left, done := s.done + 1 } } }

/-- A move's command completes, at microsteps `us`. -/
def Dev.moveDone (d : Dev) (a : Nat) (m : Move) (us : Int) : Dev :=
  let um := unsigned 32 (d.usToUm a us)
  let st := match m.stop with | some (st, _, _) => st | none => stOk
  let d := match m.goal.req with
    | none => d
    | some q =>
      match m.stop, m.home with
      | none, some h => d.ok q (unsigned 32 h) um 0 0
      | none, none => d.ok q um m.ovr 0 0
      | some (st, x, _), some h =>
        if m.latched ∧ st = stOk then d.ok q (unsigned 32 h) um 0 0
        else if st = stPartial then
          d.complete q st x (words4 um (divRound ((d.ofUs a us - m.org).natAbs : Int) motV).toNat d.tb3 (d.tb3 / 2 ^ 32))
        else d.fail q st x
      | some (st, x, _), none =>
        if st = stPartial then
          d.complete q st x (words4 um (divRound ((d.ofUs a us - m.org).natAbs : Int) motV).toNat d.tb3 (d.tb3 / 2 ^ 32))
        else d.fail q st x
  let d := if m.seq then d.seqStepDone a (st == stOk) else d
  d.endMotStops

/-- Axis a comes to rest. -/
def Dev.axRest (d : Dev) (a : Nat) (m : Move) (us : Int) : Dev :=
  let lvl := if d.safeState then 2 else if d.fld (MOT_AX_HOLD a) 0 16 = 0 then 1 else 0
  let d := (d.modAxis a (fun x => { x with mv := none, us := us, level := lvl })).axShow a us 0
  d.moveDone a m us

/-- The move of axis a has reached its end: the next queued move takes over, or the axis rests (R427, R428). -/
def Dev.axArrive (d : Dev) (a : Nat) (m : Move) : Dev :=
  let x := d.axis a
  let d := match m.retune with | some (_, _, q) => d.fail q stReject 0 | none => d
  let m := { m with retune := none }
  if m.stop.isSome then d.axRest a m (d.toUs a (m.at_ m.ends).1)
  else if m.turn then
    let p := (m.at_ m.ends).1
    let n := d.mkMove a m.goal m.ends p 0 (exitSpeed (d.toUs a p) m.goal x.queue) m.seq m.org
    d.modAxis a (fun y => { y with mv := some { n with ovr := m.ovr } })
  else
    match x.queue with
    | g :: gs =>
      if m.vEnd = 0 then
        let d := (d.modAxis a (fun y => { y with mv := none, us := m.goal.tgt })).moveDone a m m.goal.tgt
        (d.modAxis a (fun y => { y with queue := gs })).axStart a g (exitSpeed m.goal.tgt g gs) false
      else
        let p := d.ofUs a m.goal.tgt
        let t := d.ofUs a g.tgt
        let stopDist := speedDist m.vEnd 0 (m.goal.a * 1000)
        let ahead := decide (0 < (t - p)) == m.plus && t != p
        let d := d.moveDone a m m.goal.tgt
        if ahead && decide (stopDist ≤ (t - p).natAbs) then
          let n := d.mkMove a g m.ends p m.vEnd (exitSpeed m.goal.tgt g gs) false p
          d.modAxis a (fun y => { y with mv := some n, queue := gs })
        else
          let ovr := stopDist / motV
          let n := d.mkMove a g m.ends p m.vEnd 0 false p
          let n : Move := { n with
            plus := m.plus, phases := [⟨speedTime m.vEnd 0 (m.goal.a * 1000), m.vEnd, 0⟩], vEnd := 0, turn := true, ovr := ovr }
          let d := (d.modAxis a (fun y => { y with mv := some n, queue := gs })).wrN (MOT_AX_OVERSHOOT a) ovr
          d.fault 32 8
    | [] => d.axRest a m m.goal.tgt

/-! ## The profile update (R422, R424, R426, R431) -/

/-- A retune takes effect (R426). -/
def Dev.axRetune (d : Dev) (a : Nat) (m : Move) : Dev :=
  match m.retune with
  | none => d
  | some (v, acc, q) =>
    let (p, now) := m.at_ d.tb3
    let r := (d.ofUs a m.goal.tgt - p).natAbs
    let edec := (d.rd (MOT_AX_EDEC a)).toNat
    let ovr := decide (r < speedDist now 0 (acc * 1000)) && decide (r < speedDist now 0 (edec * 1000))
    if m.stop.isSome ∨ m.turn ∨ r = 0 then (d.modAxis a (fun x => { x with mv := some { m with retune := none } })).fail q stReject 0
    else if ovr then (d.modAxis a (fun x => { x with mv := some { m with retune := none } })).fail q stLimit 0x0603
    else
      let g : Goal := { m.goal with v := v, a := acc }
      let n := d.mkMove a g d.tb3 p now 0 m.seq m.org
      let n : Move := { n with home := m.home, latched := m.latched, plus := m.plus }
      (d.modAxis a (fun x => { x with mv := some n })).ok q 0 0 0 0

/-- One axis at an update. DEDUCED (log entry 64). -/
def Dev.axUpdate (d : Dev) (a : Nat) : Dev :=
  let x := d.axis a
  match x.mv with
  | none =>
    match x.emission, x.queue with
    | some e, _ =>
      let us := e.at_ d.tb3
      let d := (d.modAxis a (fun y => { y with us := us })).axShow a us 0
      if us = e.base + e.fast + e.slow then (d.axHalt a).endMotStops else d
    | none, g :: gs =>
      if d.axReady a then
        (d.modAxis a (fun y => { y with queue := gs })).axStart a g (exitSpeed x.us g gs) false
      else d
    | none, [] => d
  | some m =>
    let d := match m.clamp with
      | some c => if c * motV ≤ (m.at_ d.tb3).2 + motV then
          (d.modAxis a (fun y => { y with mv := some { m with clamp := none } })).fault 32 9 else d
      | none => d
    let m : Move := match (d.axis a).mv with | some y => y | none => m
    if m.ends ≤ d.tb3 then d.axArrive a m
    else
      let d := d.axRetune a m
      let m : Move := match (d.axis a).mv with | some y => y | none => m
      let (p, v) := m.at_ d.tb3
      let um := divRound v motV
      let d := d.axShow a (d.toUs a p) (if m.plus then um else -um)
      let top := (d.rd (MOT_AX_HOME a)).toNat
      if m.home.isSome ∧ m.stop.isNone ∧ top ≠ 0 ∧ top * motV ≤ (p - m.org).natAbs then
        (d.axStop a (d.rd (MOT_AX_ACC a)).toNat stTimeout 0x0607).fault 32 4
      else d

/-- PROFILE_UPDATE: the next 10 µs update of every axis. -/
def execProfileUpdate (s : State) : Host.Outcome State Fault Refusal :=
  s.on (fun d =>
    if d.mode.boot < 2 then d
    else (List.range (nAxes d.variant)).foldl (fun d a => d.axUpdate a)
      (d.advanceTo ((d.tb3 / (10 * perUs) + 1) * (10 * perUs))))

/-! ## Bridge drive (R418 to R421) -/

/-- The microstep position that the table sees (R418). -/
def Dev.tablePos (d : Dev) (a : Nat) : Int := if d.bit (MOT_AX_CFG a) 27 then -d.rdI (MOT_AX_POS a) else d.rdI (MOT_AX_POS a)

/-- The sign of a phase's target, which selects the leg that drives (R418). -/
def Dev.phasePlus (d : Dev) (a ph : Nat) : Bool :=
  let q := (d.tablePos a / 256 % 4).toNat
  if ph = 0 then decide (q < 2) else q == 0 || q == 3

/-- The magnitude of a phase's target in threshold codes: phase 0 is A, 1 is B. -/
def Dev.phaseTarget (d : Dev) (a ph : Nat) : Nat :=
  let us := d.tablePos a
  let i := (us % 256).toNat
  let q := (us / 256 % 4).toNat
  let t (k : Nat) : Nat := if k = 256 then 0x8000 else d.fld (MOT_AX_SIN a k) 0 16
  let lvl := d.fld (MOT_AX_CUR a) ((d.axis a).level * 10) 10
  let fwd := if (q % 2 = 0) = (ph = 0) then t i else t (256 - i)
  lvl * fwd / 32768

/-- The thresholds U and L of a phase in 1/64 code. -/
def Dev.thresholds (d : Dev) (a ph : Nat) : Int × Int :=
  let m : Int := d.phaseTarget a ph
  let h : Int := d.fld (MOT_AX_CHOP a) 0 8
  let o := ((d.axis a).chop.getD ph default).ofs
  (m * 64 + h * 32 + o, m * 64 - h * 32 + o)

/-- OFS after one completed cycle (R420). -/
def ofsNext (td h tr tf : Nat) (ofs : Int) : Int :=
  let target := divRound (-(td * h * 32 : Nat) * ((tf : Int) - tr)) (tr * tf : Nat)
  let q := Int.tdiv (target - ofs) 16
  let step := if q ≠ 0 then q else if ofs < target then 1 else if target < ofs then -1 else 0
  clampInt (-(32 * (h : Int))) (32 * (h : Int)) (ofs + step)

/-- PHASE_SHORT: every gate of the axis goes low. -/
def Dev.phaseShort (d : Dev) (a : Nat) : Dev :=
  let x := d.axis a
  let d := match x.mv with
    | some m =>
      let us := d.toUs a (m.at_ d.tb3).1
      (d.dropQueue a).axRest a { m with stop := some (stPartial, 0, 1) } us
    | none => d
  ((d.modAxis a (fun y => { y with faulted := true, homed := false })).send (.axisEn a false)).fault 32 7

/-- CHOPPER_CROSSING: phase `ph` of axis a crosses a threshold, `ns` after the last crossing; `first`: at the
first comparator sample after blanking. -/
def execChopperCrossing (a : Fin 8) (ph : Fin 2) (upper : Bool) (ns : Nat) (first : Bool) (s : State) :
    Host.Outcome State Fault Refusal :=
  s.on (fun d =>
    if !d.axReady a || d.axDrive a % 2 == 1 then d
    else
      let c := (d.axis a).chop.getD ph default
      let m := d.phaseTarget a ph
      let put (d : Dev) (c : Chop) : Dev := d.modAxis a (fun x => { x with chop := x.chop.set ph c })
      if upper then
        let n := if first then c.early + 1 else 0
        let d := put d { c with tr := ns, mUp := some m, early := n }
        let d := d.send (.bridge a ph false (d.phasePlus a ph) (d.thresholds a ph).2)
        if 3 ≤ n then d.phaseShort a else d
      else
        let same := c.mLow == some m && c.mUp == some m
        let h := d.fld (MOT_AX_CHOP a) 0 8
        let ofs := if d.bit (MOT_AX_CHOP a) 31 && same && c.tr != 0 && ns != 0 then
            ofsNext (d.fld (MOT_AX_CHOP a) 8 12) h c.tr ns c.ofs
          else if d.bit (MOT_AX_CHOP a) 31 then c.ofs else 0
        let d := put d { c with mLow := some m, mUp := none, ofs := ofs }
        d.send (.bridge a ph true (d.phasePlus a ph) (d.thresholds a ph).1))

/-- PHASE_OPEN: no upper crossing within TON_MAX on 16 consecutive cycles, with m at least I_RUN / 4. -/
def execPhaseOpen (a : Fin 8) (ph : Fin 2) (s : State) : Host.Outcome State Fault Refusal :=
  s.on (fun d =>
    if d.axReady a && d.axDrive a % 2 == 0 && decide (d.fld (MOT_AX_CUR a) 0 10 ≤ 4 * d.phaseTarget a ph) then d.fault 32 6
    else d)

/-- HOLD_CURRENT_TIMER: HOLD.MS after rest the level drops to I_HOLD. -/
def execHoldCurrentTimer (a : Fin 8) (s : State) : Host.Outcome State Fault Refusal :=
  s.on (fun d => if !(d.axis a).moving && (d.axis a).level == 0 then d.modAxis a (fun x => { x with level := 1 }) else d)

/-! ## Inputs (R423, R429 to R432) -/

/-- The home edge latches the position as HOME_POS; the axis stops at ACC (R431). DEDUCED (log entry 64). -/
def Dev.homeLatch (d : Dev) (a : Nat) (m : Move) (h : Int) : Dev :=
  let (p, _) := m.at_ d.tb3
  let move := h * 2 ^ 40 - p
  let m' : Move := { m with p0 := m.p0 + move, org := m.org + move, latched := true }
  let d := (d.axShow a (d.toUs a p) (d.rdI (MOT_AX_VEL a))).axPut a (d.toUs a (h * 2 ^ 40)) (d.rdI (MOT_AX_VEL a))
  (d.modAxis a (fun x => { x with mv := some m', homed := true })).axStop a (d.rd (MOT_AX_ACC a)).toNat stOk 0

/-- Interpolated microsteps on their way lead toward an active limit (R430). -/
def Dev.limited (d : Dev) (a : Nat) : Bool :=
  match (d.axis a).emission with
  | some e => (decide (0 < e.slow) && d.axActive a 0) || (decide (e.slow < 0) && d.axActive a 1)
  | none => false

/-- DEBOUNCED_INPUT_EDGE: input k of axis a has a new debounced level, or chatters. -/
def execDebouncedInputEdge (a : Fin 8) (k : AxInput) (level chatter : Bool) (s : State) :
    Host.Outcome State Fault Refusal :=
  s.on (fun d =>
    if nAxes d.variant ≤ a.val then d
    else
      let i := match k with | .limp => 0 | .limn => 1 | .home => 2
      let edec := (d.rd (MOT_AX_EDEC a)).toNat
      let homing := match (d.axis a).mv with | some m => m.home.isSome && m.stop.isNone | none => false
      if chatter then
        if homing && k = .home then (d.axStop a edec stLimit 0x0606).fault 32 3 else d
      else
        let was := (d.axis a).inp.getD i none
        let d := d.modAxis a (fun x => { x with inp := x.inp.set i (some level) })
        match (d.axis a).mv with
        | none => if k ≠ .home && d.limited a then (d.axHalt a).fault 32 1 else d
        | some m =>
          if k = .home then
            match m.home with
            | some h => if homing && was != some level then d.homeLatch a m h else d
            | none => d
          else if d.axActive a i && m.plus == (i == 0) && m.stop != some (stLimit, 0x0605, Nat.max 1 edec) then
            if homing then (d.axStop a edec stLimit 0x0605).fault 32 2
            else (d.axStop a edec stPartial 0).fault 32 1
          else d)

/-- COARSE_STEP_EDGE: a coarse step on axis a, `ns` after the last one (R423). One toward an active limit moves nothing.
DEDUCED (log entry 64). -/
def execCoarseStepEdge (a : Fin 8) (dir : Bool) (ns : Nat) (s : State) : Host.Outcome State Fault Refusal :=
  s.on (fun d =>
    if !d.axReady a || decide (d.axDrive a < 2) || d.safeState || d.mode.cur == .configure || d.axActive a (if dir then 0 else 1) then d
    else
      let x := d.axis a
      let d := match x.coarseAt with | some t => d.advanceTo (t + ns * 16) | none => d
      let n : Int := 2 ^ Nat.min 8 (d.fld (MOT_AX_CFG a) 20 4)
      let up : Int := if dir then n else -n
      let gap := match x.coarseAt with | some t => d.tb3 - t | none => 0
      let ovr := if gap = 0 ∨ 100 * perMs < gap ∨ x.coarseUp ≠ dir then 100 * perUs else gap
      let now := match x.emission with | some e => e.at_ d.tb3 | none => x.us
      let due := match x.emission with | some e => e.base + e.fast + e.slow | none => x.us
      let left := due - now
      let d := d.modAxis a (fun y => { y with
        level := 0, us := now, coarseAt := some d.tb3, coarseUp := dir, emission := some ⟨d.tb3, now, left, up, ovr⟩ })
      if n < left.natAbs then d.fault 32 10 else d)

/-- The encoder of axis a shows a fault: STALL (R432). -/
def Dev.stall (d : Dev) (a : Nat) : Dev :=
  (((d.axStop a (d.rd (MOT_AX_EDEC a)).toNat stPartial 0).axHalt a).modAxis a (fun x => { x with homed := false })).fault 32 5

/-- The encoder of axis a is on. DEDUCED (log entry 64). -/
def Dev.encOn (d : Dev) (a : Nat) : Bool := d.bit (MOT_AX_CFG a) 26 && d.bit (MOT_AX_CFG a) 31

/-- QUADRATURE_EDGE: a transition on one channel counts one up or down; on both, an edge is lost. -/
def execQuadratureEdge (a : Fin 2) (_ch up both : Bool) (s : State) : Host.Outcome State Fault Refusal :=
  s.on (fun d =>
    if !d.encOn a then d
    else if both then d.stall a
    else d.wrN (MOT_AX_ENC a) (unsigned 32 (d.rdI (MOT_AX_ENC a) + (if up then 1 else -1))))

/-- ENCODER_CHECK: the count is compared with the commanded position. -/
def execEncoderCheck (a : Fin 2) (s : State) : Host.Outcome State Fault Refusal :=
  s.on (fun d =>
    if !d.encOn a then d
    else
      let at_ := divRound (d.rdI (MOT_AX_ENC a) * (d.rd (MOT_AX_ENC_SCALE a)).toNat) 65536
      if (d.rd (MOT_AX_FE_LIM a)).toNat < (at_ - d.rdI (MOT_AX_POS a)).natAbs then d.stall a else d)

/-! ## Recoat sequence (R433, R434, R438) -/

/-- The steps that start together from step i on. -/
def seqGroup (steps : List (Nat × Bool × Int)) (i : Nat) : List (Nat × Bool × Int) :=
  match steps.drop i with
  | [] => []
  | x :: xs => x :: xs.takeWhile (fun y => !y.2.1)

/-- The next steps of the running sequence start, once the earlier ones are done; a step whose axis cannot move
ends it. DEDUCED (log entry 64). -/
def Dev.seqNext (d : Dev) : Dev :=
  match d.mot.seq with
  | none => d
  | some s =>
    if !s.left.isEmpty then d
    else
      let g := seqGroup s.steps s.next
      let goal (x : Nat × Bool × Int) : Goal :=
        ⟨(d.axis x.1).us + divRound (x.2.2 * d.axScale x.1) 65536, (d.rd (MOT_AX_VMAX x.1)).toNat,
          (d.rd (MOT_AX_ACC x.1)).toNat, none⟩
      let as := g.map (fun x => x.1)
      if as.eraseDups.length ≠ as.length || g.any (fun x => !d.axReady x.1 || (d.axis x.1).moving || d.towardLimit x.1 (goal x).tgt) then d.seqFail
      else
        let d := { d with mot := { d.mot with seq := some { s with
          next := s.next + g.length, left := g.map (fun x => x.1) } } }
        g.foldl (fun d x => d.axStart x.1 (goal x) 0 true) d

/-- A sequence starts with the stored programme. -/
def Dev.seqStart (d : Dev) (req : Option Req) : Dev :=
  ({ d with mot := { d.mot with seq := some ⟨d.mot.prog, 0, [], 0, req, d.mot.epoch⟩ } }).seqNext

/-- RECOAT_STEP_START: the steps whose earlier steps have completed start. -/
def execRecoatStepStart (s : State) : Host.Outcome State Fault Refusal := s.on (fun d => d.seqNext)

/-- Layer end with AUTO = 1 in BUILD. -/
def Dev.autoRecoat (d : Dev) : Dev :=
  if d.bit MOT_CFG 31 && d.mode.cur == .build && d.mot.seq.isNone && !d.mot.prog.isEmpty then d.seqStart none else d

/-! ## Commands (R435) -/

def motModes : List Mode := [.standby, .calibrate, .build, .hold, .service]

/-- The axis of ARG0 [2:0] is absent. -/
def Dev.axAbsent (d : Dev) (q : Req) : Bool × Nat × Nat := absentIf (decide (nAxes d.variant ≤ q.a0.get 0 3))

/-- A running sequence names the axis. -/
def Dev.axInSeq (d : Dev) (a : Nat) : Bool :=
  match d.mot.seq with | some s => s.steps.any (fun x => x.1 == a) | none => false

def Dev.moveGoal (d : Dev) (q : Req) : Goal :=
  let a := q.a0.get 0 3
  ⟨divRound (signed 32 q.a1.toNat * d.axScale a) 65536,
    if q.a2 = 0 then (d.rd (MOT_AX_VMAX a)).toNat else q.a2.toNat,
    if q.a3 = 0 then (d.rd (MOT_AX_ACC a)).toNat else q.a3.toNat, some q⟩

/-- A speed above VMAX or an acceleration above ACC. -/
def Dev.tooFast (d : Dev) (a v acc : Nat) : Bool :=
  decide ((d.rd (MOT_AX_VMAX a)).toNat < v) || decide ((d.rd (MOT_AX_ACC a)).toNat < acc)

/-- DEDUCED (log entry 62). -/
def cmdMotMove : Cmd where
  check d q :=
    let a := q.a0.get 0 3
    let g := d.moveGoal q
    let compat := d.bit (MOT_AX_CFG a) 28
    firstFail (shape q [7, anyW, anyW, anyW] none 0 ++
      [d.axAbsent q, d.modeIs q motModes,
       (!d.axReady a || decide (2 ≤ d.axDrive a) || d.axInSeq a || (!compat && (d.axis a).mv.isSome), stReject, 0),
       limitIf (d.tooFast a g.v g.a) 0x0608, limitIf (d.towardLimit a g.tgt) 0x0601,
       limitIf (compat && decide (16 ≤ (d.axis a).queue.length)) 0x0602])
  effect q _ d :=
    let a := q.a0.get 0 3
    let g := d.moveGoal q
    if d.bit (MOT_AX_CFG a) 28 then d.modAxis a (fun x => { x with queue := x.queue ++ [g] })
    else d.axStart a g 0 false

/-- MOT_MOVE. -/
def execMotMove (r : Req) (e : Env) (s : State) : Host.Outcome State Fault Refusal :=
  s.command 0x0601 cmdMotMove r e

def cmdMotRetune : Cmd where
  check d q :=
    let a := q.a0.get 0 3
    let g := d.moveGoal q
    firstFail (shape q [7, 0, anyW, anyW] none 0 ++
      [d.axAbsent q, d.modeIs q motModes, (d.bit (MOT_AX_CFG a) 28, stReject, 0x0604),
       (match (d.axis a).mv with | some m => m.stop.isSome || m.retune.isSome | none => true, stReject, 0),
       limitIf (d.tooFast a g.v g.a) 0x0608])
  effect q _ d :=
    let a := q.a0.get 0 3
    let g := d.moveGoal q
    d.modAxis a (fun x => { x with mv := x.mv.map (fun m => { m with retune := some (g.v, g.a, q) }) })

/-- MOT_RETUNE. -/
def execMotRetune (r : Req) (e : Env) (s : State) : Host.Outcome State Fault Refusal :=
  s.command 0x0602 cmdMotRetune r e

/-- An axis mask names an absent axis. -/
def Dev.axMaskAbsent (d : Dev) (q : Req) : Bool × Nat × Nat := absentIf (decide (2 ^ nAxes d.variant ≤ q.a0.get 0 8))

def cmdMotStop : Cmd where
  check d q := firstFail (shape q [0x1FF] none 0 ++ [d.axMaskAbsent q, d.modeIs q allModes])
  effect q _ d :=
    let d := (bitList 8 (q.a0.get 0 8)).foldl (fun d a =>
      let d := match (d.axis a).mv with
        | some m =>
          if m.ends ≤ d.tb3 && !m.turn then (if m.vEnd = 0 then d.dropQueue a else d).axArrive a m else d
        | none => d
      match (d.axis a).mv with
      | some m => d.axStop a (if q.a0.bit 8 then (d.rd (MOT_AX_EDEC a)).toNat else m.goal.a) stPartial 0
      | none => d.dropQueue a) d
    ({ d with mot := { d.mot with stops := d.mot.stops ++ [(q.a0.get 0 8, q)] } }).endMotStops

/-- MOT_STOP. -/
def execMotStop (r : Req) (e : Env) (s : State) : Host.Outcome State Fault Refusal :=
  s.command 0x0603 cmdMotStop r e

/-- DESIGN CHOICE (log entry 63). -/
def cmdMotHome : Cmd where
  check d q :=
    let a := q.a0.get 0 3
    firstFail (shape q [0x107, anyW, anyW] none 0 ++
      [d.axAbsent q, d.modeIs q [.standby, .calibrate, .hold, .service],
       (!d.axReady a || decide (2 ≤ d.axDrive a) || d.axInSeq a || (d.axis a).mv.isSome, stReject, 0),
       limitIf (d.tooFast a q.a1.toNat 0) 0x0608,
       limitIf (d.axActive a (if q.a0.bit 8 then 0 else 1)) 0x0601])
  effect q _ d :=
    let a := q.a0.get 0 3
    let v := if q.a1 = 0 then (d.rd (MOT_AX_VMAX a)).toNat else q.a1.toNat
    let us := (d.axis a).us
    let far : Int := if q.a0.bit 8 then us + 2 ^ 60 else us - 2 ^ 60
    let d := d.axStart a ⟨far, v, (d.rd (MOT_AX_ACC a)).toNat, some q⟩ 0 false
    d.modAxis a (fun x => { x with mv := x.mv.map (fun m => { m with home := some (signed 32 q.a2.toNat) }) })

/-- MOT_HOME. -/
def execMotHome (r : Req) (e : Env) (s : State) : Host.Outcome State Fault Refusal :=
  s.command 0x0604 cmdMotHome r e

def cmdMotEnable : Cmd where
  check d q :=
    let off := (bitList 8 (q.a0.get 0 8)).filter (fun a => !q.a1.bit a)
    firstFail (shape q [0xFF, 0xFF] none 0 ++ [d.axMaskAbsent q, d.modeIs q motModes,
      (off.any (fun a => (d.axis a).moving), stReject, 0)])
  effect q _ d :=
    let d := (bitList 8 (q.a0.get 0 8)).foldl (fun d a => (d.modAxis a (fun x =>
      if q.a1.bit a then { x with on := true, faulted := false } else { x with on := false, homed := false })).send
        (.axisEn a (q.a1.bit a && d.bit (MOT_AX_CFG a) 31))) d
    d.ok q 0 0 0 0

/-- MOT_ENABLE. -/
def execMotEnable (r : Req) (e : Env) (s : State) : Host.Outcome State Fault Refusal :=
  s.command 0x0605 cmdMotEnable r e

def cmdMotRecoatSet : Cmd where
  check d q := firstFail (shape q [] (some 8) 0 ++
    [(decide (q.dataLen % 8 ≠ 0) || decide (64 < q.dataLen), stMalformed, 0x0004), d.modeIs q [.standby, .build, .hold]])
  effect q e d :=
    let bs := entriesOf 8 e.data
    if bs.any (fun b => decide (1 < bytesAt b 1 1) || bytesAt b 2 2 != 0) then d.fail q stMalformed 0x0004
    else if bs.any (fun b => decide (8 ≤ bytesAt b 0 1)) then d.fail q stLimit 0x06FF
    else if bs.any (fun b => decide (nAxes d.variant ≤ bytesAt b 0 1)) then d.fail q stAbsent 0
    else
      let steps := bs.map (fun b => (bytesAt b 0 1, bytesAt b 1 1 == 1, intAt b 4 4))
      ({ d with mot := { d.mot with prog := steps } }).ok q 0 0 0 0

/-- MOT_RECOAT_SET. -/
def execMotRecoatSet (r : Req) (e : Env) (s : State) : Host.Outcome State Fault Refusal :=
  s.command 0x0606 cmdMotRecoatSet r e

/-- DESIGN CHOICE (log entry 63). -/
def cmdMotRecoatRun : Cmd where
  check d q := firstFail (shape q [] none 0 ++ [d.modeIs q [.standby, .build, .hold],
    (d.mot.seq.isSome, stReject, 0), limitIf d.mot.prog.isEmpty 0])
  effect q _ d := d.seqStart (some q)

/-- MOT_RECOAT_RUN. -/
def execMotRecoatRun (r : Req) (e : Env) (s : State) : Host.Outcome State Fault Refusal :=
  s.command 0x0607 cmdMotRecoatRun r e

/-- MOT_AXa_STATE. -/
def Dev.axState (d : Dev) (a : Nat) : Nat :=
  let x := d.axis a
  let st := if x.faulted then 5 else if !x.on then 0 else match x.mv with
    | none => if x.emission.isSome then 2 else 1
    | some m => if m.stop.isSome then 4 else if m.home.isSome then 3 else 2
  let lvl (k : Nat) : Nat := bitOf (x.inp.getD k none == some true)
  st * 2 ^ 28 + bitOf x.homed * 2 ^ 27 + lvl 0 * 2 ^ 26 + lvl 1 * 2 ^ 25 + lvl 2 * 2 ^ 24 + x.queue.length * 2 ^ 16

def cmdMotQuery : Cmd where
  check d q := firstFail (shape q [7] none 0 ++ [d.axAbsent q, d.modeIs q allModes])
  effect q _ d :=
    let a := q.a0.get 0 3
    d.ok q (unsigned 32 (d.usToUm a (d.rdI (MOT_AX_POS a)))) (d.rd (MOT_AX_VEL a)).toNat (d.axState a)
      (d.rd (MOT_AX_ENC a)).toNat

/-- MOT_QUERY. -/
def execMotQuery (r : Req) (e : Env) (s : State) : Host.Outcome State Fault Refusal :=
  s.command 0x0680 cmdMotQuery r e

/-- SINE_TABLE_WRITE: an entry that would make T fall, or T[0] rise above 0, is discarded (R440). -/
def execSineTableWrite (a : Fin 8) (i : Fin 256) (val : Word) (s : State) : Host.Outcome State Fault Refusal :=
  s.whenUp (fun d =>
    let t (k : Nat) : Nat := if k = 256 then 0x8000 else d.fld (MOT_AX_SIN a k) 0 16
    let v := val.get 0 16
    if nAxes d.variant ≤ a.val then d
    else if d.mode.cur ≠ .configure then (if v = t i then d else d.refuse (MOT_AX_SIN a i))
    else if (i.val = 0 ∧ v ≠ 0) ∨ (0 < i.val ∧ v < t (i - 1)) ∨ t (i + 1) < v then d.setBit MOT_ERR 10 true
    else d.wrN (MOT_AX_SIN a i) v)

/-! ## Modes (R436) -/

/-- Entry to CONFIGURE: gates low; a moving axis stops where it is. DEDUCED (log entry 64). -/
def Dev.motConfigure (d : Dev) : Dev :=
  (List.range 8).foldl (fun d a =>
    let d := match (d.axis a).mv with
      | some m => (d.dropQueue a).axRest a { m with stop := some (stPartial, 0, 1) } (d.toUs a (m.at_ d.tb3).1)
      | none => d.dropQueue a
    ((d.axHalt a).modAxis a (fun x => { x with on := false, homed := false })).send (.axisEn a false)) d

/-- Step 2 of wind-down: stop at ACC. -/
def Dev.motWindDown (d : Dev) : Dev :=
  ((List.range 8).foldl (fun d a => (d.axStop a (d.rd (MOT_AX_ACC a)).toNat stPartial 0).axHalt a) d).seqFail

/-- Step 7 of wind-down with AXES_OFF = 1. -/
def Dev.motOff (d : Dev) : Dev :=
  (List.range 8).foldl (fun d a => (d.modAxis a (fun x => { x with on := false, homed := false })).send (.axisEn a false)) d

end Sys2Proof.Machine
end

