-- ==== Sys2Proof/Machine/Trim.lean ====
section
/-! DEFINITION. Analog trim and self-calibration (17). -/

namespace Sys2Proof.Machine

open Sys2Proof.Config (Variant)

def Dev.modTrim (d : Dev) (f : TrimCtl → TrimCtl) : Dev := { d with trim := f d.trim }

/-! ## The trim registers (R452, R453) -/

/-- The offsets from 0x1000 of the trim registers, with the bits that are defined: those of present instances. -/
def trimFields (v : Variant) : List (Nat × Nat) :=
  (List.range (nPdin v)).flatMap (fun c =>
      (List.range 4).map (fun r => (c * 0x20 + r * 4, 0xFFF)) ++ [(c * 0x20 + 0x10, 0xFFF)])
    ++ (List.range (nBeams v)).flatMap (fun b =>
      [(0x800 + b * 0x10, 0x3FF), (0x804 + b * 0x10, 0xFFF), (0x808 + b * 0x10, 0xF)])
    ++ (List.range (nAxes v)).flatMap (fun a => [(0xA00 + a * 0x10, 0x00FF01FF), (0xA04 + a * 0x10, 0x00FF01FF)])
    ++ (List.range (nLeds v)).map (fun c => (0xB00 + c * 4, 0xFF))
    ++ (List.range 3).map (fun g => (0xC00 + g * 4, 0xFF))
    ++ (List.range ((nPdin v + 7) / 8)).map (fun k => (0xC10 + k * 4, 0x3FF))

/-- The active and the shadow register at an offset from 0x1000. -/
def trimActive (o : Nat) : Nat := 0x281000 + o
def trimShadow (o : Nat) : Nat := 0x291000 + o

/-- The 832 words of a page: absent instances and reserved offsets read zero (R460). -/
def Dev.trimWords (d : Dev) (shadow : Bool) : List Word :=
  (List.range 832).map (fun k => d.rd (if shadow then trimShadow (4 * k) else trimActive (4 * k)))

/-- Words as bytes, in order. -/
def wordBytes (ws : List Word) : List Byte := ws.flatMap (fun w => leBytes 4 w.toNat)

/-- The digest of the active set (R463, R507). -/
def Dev.trimDigest (d : Dev) : List Byte := sha384 (wordBytes (d.trimWords false))

/-! ## Commits (R454) -/

/-- A commit is free: no layer in exposure, and no calibration command in emission. -/
def Dev.trimFree (d : Dev) : Bool := d.exposed.isNone && !(List.range 16).any (fun b => d.beamEmits b)

/-- Every shadow register goes into its active register. -/
def Dev.trimCommit (d : Dev) : Dev :=
  ((trimFields d.variant).foldl (fun d p => d.wr (trimActive p.1) (d.rd (trimShadow p.1))) d).count ANA_COMMIT_CNT 1

/-- Commits that wait take place once nothing holds them. -/
def Dev.pumpCommits (d : Dev) : Dev :=
  if d.trim.commits.isEmpty then d
  else if d.trimFree then
    let qs := d.trim.commits
    let d := (d.modTrim (fun t => { t with commits := [] })).setBit ANA_STATUS 30 false
    qs.foldl (fun d q => (d.trimCommit).ok q 0 0 0 0) d
  else d.setBit ANA_STATUS 30 true

/-- A command asks for a commit. -/
def Dev.askCommit (d : Dev) (q : Req) : Dev :=
  (d.modTrim (fun t => { t with commits := t.commits ++ [q] })).pumpCommits

/-! ## The trim image (R460, R462) -/

/-- The trim image of a page. -/
def Dev.trimImage (d : Dev) (shadow : Bool) : List Byte :=
  let body := wordBytes (d.trimWords shadow)
  let head := leBytes 4 0x4D545150 ++ leBytes 2 1 ++ leBytes 2 832 ++ leBytes 4 (d.rd ID_PART).toNat
    ++ leBytes 4 (bitOf shadow) ++ leBytes 8 d.tb3 ++ leBytes 4 (crc32c body) ++ List.replicate 32 0
  head ++ leBytes 4 (crc32c head) ++ body

/-- The checks of R462. -/
def Dev.trimCheck (d : Dev) (b : List Byte) : Option Failure :=
  let part := bytesAt b 8 4
  let own := (d.rd ID_PART).toNat
  let body := b.drop 64
  let mask (o : Nat) : Nat := (((trimFields d.variant).find? (fun p => p.1 == o)).map (·.2)).getD 0
  firstFail [
    (crc32c (b.take 60) != bytesAt b 60 4, stCrc, 0x0532),
    (bytesAt b 0 4 != 0x4D545150 || bytesAt b 4 2 != 1 || bytesAt b 6 2 != 832 || !allZero ((b.drop 28).take 32),
      stMalformed, 0x0533),
    (bitsAt part 8 24 != bitsAt own 8 24, stMalformed, 0x0534),
    (crc32c body != bytesAt b 24 4, stCrc, 0x0535),
    ((List.range 832).any (fun k =>
      let w := bytesAt body (4 * k) 4
      (w &&& mask (4 * k)) != w), stMalformed, 0x0536)]

/-- The shadow takes an image. -/
def Dev.trimTake (d : Dev) (b : List Byte) : Dev :=
  (trimFields d.variant).foldl (fun d p => d.wrN (trimShadow p.1) (bytesAt b (64 + p.1) 4)) d

/-! ## Routines (R455 to R457) -/

/-- The outcome of an instance, as the result masks distinguish it. -/
inductive Verdict where
  | accepted | disagree | range | skipped
  deriving DecidableEq, Repr

/-- Two candidates of one trim: the new value where they agree within `tol` and it lies in lo … hi. -/
def judgeTrim (tol lo hi t1 t2 : Int) : Verdict × Int :=
  let m := Int.fdiv (t1 + t2) 2
  if tol < (t1 - t2).natAbs then (.disagree, m)
  else if m < lo ∨ hi < m then (.range, m) else (.accepted, m)

/-- The outcome of an instance of several trims: one that disagrees decides before one out of range.
DEDUCED (log entry 70). -/
def joinVerdict (a b : Verdict) : Verdict :=
  if a = .disagree ∨ b = .disagree then .disagree
  else if a = .range ∨ b = .range then .range else a

/-- A candidate of the photodiode gain from T0 and a mean in codes times 4096; a mean that is not positive
gives no stated candidate. DESIGN CHOICE (log entry 69). -/
def gainCand (t0 m : Int) : Int :=
  2048 + divRound ((32768 + t0 - 2048) * 1228725 * 4096 - 3276800 * m) (100 * m)

/-- The segments whose step deviates from the mean step by more than 4 LSB: steps in LSB times 4096.
DEDUCED (log entry 70). -/
def badSegs (steps : List Int) : List Nat :=
  let sum := steps.sum
  (List.range 15).filter (fun i => decide (4 * 4096 * 15 < (15 * steps.getD i 0 - sum).natAbs))

/-- A field of a shadow register taken as T0, and its new value. -/
def Dev.trimGet (d : Dev) (o lo n : Nat) (sgn : Bool) : Int :=
  let x := d.fld (trimShadow o) lo n
  if sgn then signed n x else x

def Dev.trimPut (d : Dev) (o lo n : Nat) (v : Int) : Dev := d.setFld (trimShadow o) lo n (unsigned n v)

/-- One trim measured twice: its place, whether it is signed, its tolerance and the candidates. -/
structure Measure where
  o : Nat
  lo : Nat
  n : Nat
  sgn : Bool
  tol : Int
  t1 : Int
  t2 : Int

/-- The outcome of one trim. -/
def Measure.judge (m : Measure) : Verdict × Int :=
  if m.sgn then judgeTrim m.tol (-(2 ^ (m.n - 1) : Nat)) ((2 ^ (m.n - 1) : Nat) - 1) m.t1 m.t2
  else judgeTrim m.tol 0 ((2 ^ m.n : Nat) - 1) m.t1 m.t2

/-- The instance's trims are judged together and written together. DESIGN CHOICE (log entry 69). -/
def Dev.takeMeasures (d : Dev) (ms : List Measure) : Verdict × Dev :=
  let v := ms.foldl (fun v m => joinVerdict v m.judge.1) .accepted
  if v = .accepted then (v, ms.foldl (fun d m => d.trimPut m.o m.lo m.n m.judge.2) d) else (v, d)

/-- The number of values an instance of a routine takes for one measurement. -/
def trimVals (routine : Nat) : Nat := match routine with | 1 => 4 | 3 => 17 | 4 => 2 | _ => 1

/-- The instances of a routine that are present. -/
def trimCount (v : Variant) (routine : Nat) : Nat :=
  match routine with
  | 1 => nPdin v | 2 => nPdin v | 3 => nBeams v | 4 => 2 * nAxes v | 5 => nLeds v | _ => (nPdin v + 7) / 8

/-- One instance of a routine, with the values of its two measurements. -/
def Dev.trimOne (d : Dev) (routine i : Nat) (a b : List Int) : Verdict × Dev :=
  let tolA (lo : Nat) : Int := d.fld ANA_TOL lo 8
  let two (o lo n : Nat) (sgn : Bool) (tol c1 c2 : Int) : Measure :=
    let t0 := d.trimGet o lo n sgn
    ⟨o, lo, n, sgn, tol, t0 - c1, t0 - c2⟩
  match routine with
  | 1 => d.takeMeasures ((List.range 4).map (fun r =>
      two (i * 0x20 + r * 4) 0 12 true (tolA 0) (divRound (4 * a.getD r 0) 4096) (divRound (4 * b.getD r 0) 4096)))
  | 2 =>
    let o := i * 0x20 + 0x10
    let t0 := d.trimGet o 0 12 false
    let m1 := a.headD 0
    let m2 := b.headD 0
    if m1 ≤ 0 ∨ m2 ≤ 0 then
      let (x, d) := d.free
      let (y, d) := d.free
      d.takeMeasures [⟨o, 0, 12, false, tolA 8, x, y⟩]
    else d.takeMeasures [⟨o, 0, 12, false, tolA 8, gainCand t0 m1, gainCand t0 m2⟩]
  | 3 =>
    let o := 0x800 + i * 0x10
    let ms := [two o 0 10 true (tolA 16) (a.getD 0 0) (b.getD 0 0), two (o + 4) 0 12 false (tolA 16) (a.getD 1 0) (b.getD 1 0)]
    let bad := (badSegs (a.drop 2)).filter (fun k => (badSegs (b.drop 2)).contains k)
    let spare := d.fld (trimShadow (o + 8)) 0 4
    let dead := decide (2 ≤ bad.length) || (!bad.isEmpty && spare != 0)
    let (v, d') := d.takeMeasures ms
    if dead then
      let d := (d.setBit ANA_STATUS i true).fault 34 4
      (joinVerdict v .range, d)
    else match v, bad with
      | .accepted, k :: _ => (.accepted, (d'.setFld (trimShadow (o + 8)) 0 4 (k + 1)).fault 34 3)
      | _, _ => (v, d')
  | 4 =>
    if (d.mot.axes.getD (i / 2) default).on then (.skipped, d)
    else
      let o := 0xA00 + (i / 2) * 0x10 + (i % 2) * 4
      d.takeMeasures [two o 0 9 true (tolA 24) (a.getD 0 0) (b.getD 0 0), two o 16 8 false (tolA 24) (a.getD 1 0) (b.getD 1 0)]
  | 5 => d.takeMeasures [two (0xB00 + i * 4) 0 8 true (d.fld ANA_TOL2 0 8 : Nat) (divRound (a.headD 0) 64) (divRound (b.headD 0) 64)]
  | _ => d.takeMeasures [two (0xC10 + i * 4) 0 10 true (d.fld ANA_TOL2 8 8 : Nat) (divRound (4 * a.headD 0) 4096) (divRound (4 * b.headD 0) 4096)]

/-- A routine over instances in ascending order, each measured twice; the values left over remain.
DESIGN CHOICE (log entry 69). -/
def Dev.trimRoutine (routine : Nat) : List Nat → List Int → List (Nat × Verdict) → Dev →
    List (Nat × Verdict) × List Int × Dev
  | [], vs, acc, d => (acc, vs, d)
  | i :: is, vs, acc, d =>
    let k := trimVals routine
    let (v, d) := d.trimOne routine i (vs.take k) ((vs.drop k).take k)
    Dev.trimRoutine routine is (vs.drop (2 * k)) (acc ++ [(i, v)]) d

/-- The routines a code stands for, in their order. -/
def trimSteps (code : Nat) : List Nat := if code = 7 then [6, 1, 2, 3, 4, 5] else [code]

/-- The mask of the instances with a verdict. DEDUCED (log entry 70). -/
def verdictMask (vs : List (Nat × Verdict)) (v : Verdict) : Nat :=
  vs.foldl (fun m x => if x.2 = v then m ||| 2 ^ x.1 else m) 0

/-- A TRIM_RUN runs and completes. DEDUCED (log entry 70). -/
def Dev.trimRun (d : Dev) (q : Req) (e : Env) : Dev :=
  let step (acc : List (Nat × Verdict) × List Int × Dev) (routine : Nat) : List (Nat × Verdict) × List Int × Dev :=
    Dev.trimRoutine routine (bitList (trimCount acc.2.2.variant routine) q.a1.toNat) acc.2.1 acc.1 acc.2.2
  let (vs, _, d) := (trimSteps (q.a0.get 0 3)).foldl step ([], e.vals, d)
  let n (v : Verdict) : Nat := (vs.filter (fun x => x.2 == v)).length
  let d := d.count ANA_REJECT_CNT (n .disagree + n .range)
  let d := if n .disagree = 0 then d else d.fault 34 1
  let d := if n .range = 0 then d else d.fault 34 2
  d.ok q (verdictMask vs .accepted) (verdictMask vs .disagree) (verdictMask vs .range) (verdictMask vs .skipped)

/-- The command must wait for a strobe window of a channel it measures (R456, routine 5). DEDUCED (log entry 70). -/
def Dev.trimHeld (d : Dev) (q : Req) : Bool :=
  q.op = 0x0531 && (trimSteps (q.a0.get 0 3)).contains 5 &&
    (bitList (nLeds d.variant) q.a1.toNat).any (fun c => (d.lampC c).win.isSome)

/-- Shadow writers run one at a time, in the order of their start (R453). -/
def Dev.pumpTrimN : Nat → Dev → Dev
  | 0, d => d
  | k + 1, d =>
    match d.trim.queue with
    | [] => d.setBit ANA_STATUS 31 false
    | (q, e) :: rest =>
      if d.trimHeld q then d.setBit ANA_STATUS 31 true
      else
        let d := d.modTrim (fun t => { t with queue := rest })
        let d := if q.op = 0x0531 then d.trimRun q e
          else
            let d := d.trimTake e.data
            if q.a0.bit 0 then d.askCommit q else d.ok q 0 0 0 0
        Dev.pumpTrimN k d

/-- The trim unit goes on: waiting routines, then waiting commits. -/
def Dev.pumpTrim (d : Dev) : Dev := (Dev.pumpTrimN (d.trim.queue.length + 1) d).pumpCommits

/-- STROBE_WINDOW: a strobe request opens or closes its window; a trim routine that waits for the end goes on. -/
def execStrobeWindow (c : Fin 12) (opens : Bool) (s : State) : Host.Outcome State Fault Refusal :=
  s.on (fun d => if d.mode.boot < 2 then d else (d.strobeWindow c opens).pumpTrim)

/-- A shadow writer starts. -/
def Dev.trimStart (d : Dev) (q : Req) (e : Env) : Dev :=
  (d.modTrim (fun t => { t with queue := t.queue ++ [(q, e)] })).pumpTrim

/-- The mask names an instance that the variant lacks (R10): of one routine, or under ALL of any routine whose instance
the family has. DEDUCED (log entry 70). -/
def Dev.trimAbsent (d : Dev) (routine mask : Nat) : Bool :=
  if routine < 7 then decide (2 ^ trimCount d.variant routine ≤ mask)
  else (trimSteps routine).any (fun k => (bitList (trimCount .pq16 k) mask).any (fun i => decide (trimCount d.variant k ≤ i)))

def cmdTrimRun : Cmd where
  check d q :=
    let r := q.a0.get 0 3
    firstFail (shape q [7, 0xFFFFFFFF] none 0 ++
      [(r == 0, stMalformed, 0x0531),
       absentIf (d.trimAbsent r q.a1.toNat),
       d.modeIs q [.configure, .standby, .service], (!d.mode.fwSup, stReject, 0)])
  effect q e d := d.trimStart q e

/-- TRIM_RUN; `e.vals`: what each instance's two measurements give, in the order of the routine. -/
def execTrimRun (r : Req) (e : Env) (s : State) : Host.Outcome State Fault Refusal :=
  s.command 0x0531 cmdTrimRun r e

def cmdTrimCommit : Cmd where
  check d q := firstFail (shape q [] none 0 ++
    [d.modeIs q [.configure, .standby, .calibrate, .build, .hold, .service]])
  effect q _ d := d.askCommit q

/-- TRIM_COMMIT. -/
def execTrimCommit (r : Req) (e : Env) (s : State) : Host.Outcome State Fault Refusal :=
  s.command 0x0532 cmdTrimCommit r e

def cmdTrimLoad : Cmd where
  check d q := firstFail (shape q [1] (some 3392) 0 ++
    [(q.dataLen != 3392, stMalformed, 0x0004), d.modeIs q [.configure, .standby, .service]])
  effect q e d :=
    match d.trimCheck e.data with
    | some (st, x) => d.fail q st x
    | none => d.trimStart q e

/-- TRIM_LOAD. -/
def execTrimLoad (r : Req) (e : Env) (s : State) : Host.Outcome State Fault Refusal :=
  s.command 0x0533 cmdTrimLoad r e

def cmdTrimRead : Cmd where
  check d q := firstFail (shape q [1] none 3392 ++ [d.modeIs q allModes])
  effect q _ d := d.okData q (d.trimImage (q.a0.bit 0)) 0 0 0 0

/-- TRIM_READ. -/
def execTrimRead (r : Req) (e : Env) (s : State) : Host.Outcome State Fault Refusal :=
  s.command 0x0583 cmdTrimRead r e

/-! ## Bandgaps (R458) -/

/-- Bandgaps g and h differ by at most the limit: values in 0.5 mV. -/
def bgAgree (tol : Nat) (v : List Int) (g h : Nat) : Bool := decide ((v.getD g 0 - v.getD h 0).natAbs ≤ tol)

/-- The other two bandgaps. -/
def bgOthers (g : Nat) : Nat × Nat := match g with | 0 => (1, 2) | 1 => (0, 2) | _ => (0, 1)

/-- A bandgap is excluded. -/
def Dev.bgOut (d : Dev) (g : Nat) : Bool := d.bit ANA_REF_STATUS (4 + g)

/-- The bandgaps that have agreed with both others 1000 times in succession return. -/
def Dev.bgReturn (d : Dev) (tol : Nat) (v : List Int) : Dev :=
  (List.range 3).foldl (fun d g =>
    let (a, b) := bgOthers g
    let n := if bgAgree tol v g a && bgAgree tol v g b then d.trim.agree.getD g 0 + 1 else 0
    let d := d.modTrim (fun t => { t with agree := t.agree.set g n })
    if d.bgOut g && decide (1000 ≤ n) then d.setBit ANA_REF_STATUS (4 + g) false else d) d

/-- BANDGAP_COMPARE: the millisecond comparison of the three bandgaps, `mv2` in 0.5 mV.
DESIGN CHOICE (log entry 71). -/
def execBandgapCompare (mv2 : List Int) (s : State) : Host.Outcome State Fault Refusal :=
  s.on (fun d =>
    if d.mode.boot < 2 then d
    else
      let tol := d.fld ANA_REF_CFG 0 8
      let pref := d.fld ANA_REF_CFG 8 2
      let d := d.bgReturn tol mv2
      let pair (g h : Nat) : Bool := bgAgree tol mv2 g h
      let count := bitOf (pair 0 1) + bitOf (pair 0 2) + bitOf (pair 1 2)
      let ovr (d : Dev) : Dev :=
        if d.trim.lost then (d.modTrim (fun t => { t with lost := false })).endCause 34 6 else d
      if count = 3 then
        ovr (if d.bgOut pref then d else d.setFld ANA_REF_STATUS 0 2 pref)
      else if count = 1 then
        let odd := if pair 0 1 then 2 else if pair 0 2 then 1 else 0
        let (a, b) := bgOthers odd
        let sel := if d.bgOut a && !d.bgOut b then b else a
        let was := d.bgOut odd
        let d := ovr ((d.setFld ANA_REF_STATUS 0 2 sel).setBit ANA_REF_STATUS (4 + odd) true)
        if was then d else d.fault 34 5
      else if count = 0 then
        if d.trim.lost then d else (d.modTrim (fun t => { t with lost := true })).fault 34 6
      else
        let (x, d) := d.free
        ovr (d.setFld ANA_REF_STATUS 0 2 (x % 3)))

/-! ## NTC inputs (R459) -/

/-- 2 Σ y^(2i+1)/(2i+1), the series of ln((1+y)/(1−y)), with y = a / 2^80; `n` terms. -/
def atanhSum (y2 : Int) : Nat → Nat → Int → Int
  | 0, _, _ => 0
  | n + 1, k, p => 2 * Int.fdiv p k + atanhSum y2 n (k + 2) (Int.fdiv (p * y2) (2 ^ 80))

/-- ln(p / q) times 2^80, for positive p and q. DESIGN CHOICE (log entry 72). -/
def lnRatio (p q : Nat) : Int :=
  let k : Int := (Nat.log2 p : Int) - (Nat.log2 q : Int)
  let p' : Int := p * 2 ^ Nat.log2 q
  let q' : Int := q * 2 ^ Nat.log2 p
  let ser (a b : Int) : Int :=
    let y := Int.fdiv (a * 2 ^ 80) b
    atanhSum (Int.fdiv (y * y) (2 ^ 80)) 40 1 y
  ser (p' - q') (p' + q') + k * ser 1 3

/-- The temperature of a code in 1/16 °C; none for an open or shorted input. DESIGN CHOICE (log entry 72). -/
def ntcT16 (n beta ratio : Nat) : Option Int :=
  if 4090 ≤ n ∨ n ≤ 5 then none
  else if ratio = 0 ∨ beta = 0 then some (-640)
  else
    let one : Int := 2 ^ 80
    let den := Int.fdiv (one * 100) 29815 + Int.fdiv (lnRatio (n * ratio) ((4095 - n) * 256)) beta
    if den = 0 then some 2400
    else some (clampInt (-640) 2400 (divRound (16 * (one * one * 100 - 27315 * one * den)) (100 * den * one)))

/-- NTC_CONVERT: a conversion of NTC input n. DESIGN CHOICE (log entry 72). -/
def execNtcConvert (n : Fin 4) (code : BitVec 12) (s : State) : Host.Outcome State Fault Refusal :=
  s.on (fun d =>
    if d.mode.boot < 2 then d
    else
      let cfg := d.rd (ANA_NTC_CFG n)
      match ntcT16 code.toNat (cfg.get 0 16) (cfg.get 16 16) with
      | none => d.setBit (ILL_NTC n) 16 true
      | some t =>
        if cfg.get 0 16 = 0 ∧ code.toNat * cfg.get 16 16 = (4095 - code.toNat) * 256 then
          let (x, d) := d.free
          d.wrN (ILL_NTC n) (x % 65536)
        else d.wrN (ILL_NTC n) (unsigned 16 t))

end Sys2Proof.Machine
end

