-- ==== Sys2Proof/Machine/LayerRun.lean ====
section
/-! DEFINITION. The layer-start tick, the layer end and the barge wait (R110 to R113, R504 to R507), and the tick
strobe and the fault report with all that follows from them. -/

namespace Sys2Proof.Machine

/-! ## The layer-start tick -/

/-- The measurement of an image type, 1 to 3 (R66). -/
def Dev.fwMeasure (d : Dev) (t : Nat) : List Byte := wordBytes ((List.range 12).map (fun w => d.rd (MEAS_FW (t - 1) w)))

/-- The ledger configuration in register order (R255). -/
def Dev.ldgConfig (d : Dev) : List Byte :=
  wordBytes ((List.range 12).map (fun k => d.rd (LDG_CFG + 4 * k)) ++ (List.range 25).map (fun i => d.rd (LDG_W i))
    ++ (List.range 16).map (fun c => d.rd (LDG_CSTEP c))
    ++ (List.range 16).flatMap (fun c => (List.range 33).map (fun i => d.rd (LDG_CURVE c i))))

/-- The GRID entry of a mapped beam: ID and digest of its active grid, zeros where it has none.
DEDUCED (log entry 45). -/
def Dev.gridItem (d : Dev) (b : Nat) : List Byte :=
  match (d.beamGrids b).active with
  | some g => leBytes 1 b ++ [0, 0, 0] ++ leBytes 4 g.id ++ g.digest
  | none => leBytes 1 b ++ [0, 0, 0] ++ leBytes 4 0 ++ List.replicate 48 0

/-- The items written at the layer-start tick (R506). DEDUCED (log entry 45). -/
def Dev.startItems (d : Dev) (l : Layer) : List (Nat × List Byte) :=
  let fw := [1, 2, 3].flatMap (fun t => leBytes 4 t ++ leBytes 4 (d.rd (MODE_FW_VER (t - 1))).toNat ++ d.fwMeasure t)
  let ptab := leBytes 4 l.ptab ++ (match d.table l.ptab with | some t => t.digest | none => List.replicate 48 0)
  let grids := ((List.range 16).filter (fun b => (d.engineOf b).isSome)).flatMap d.gridItem
  let resid := (d.resids.mapIdx (fun i (r : Resid) => if !r.made then [] else
    leBytes 1 i ++ [0, 0, 0] ++ leBytes 4 r.max ++ leBytes 4 r.rms ++ leBytes 4 r.r2 ++ leBytes 4 r.r3)).flatten
  [(1, fw), (2, ptab)] ++ (if grids.isEmpty then [] else [(3, grids)]) ++ (if resid.isEmpty then [] else [(4, resid)])
    ++ [(5, sha384 d.ldgConfig), (6, d.trimDigest)]

/-- The Woram record of a layer opens (R504, R505). DEDUCED (log entry 45). -/
def Dev.openWoram (d : Dev) (l : Layer) : Dev :=
  let w : Woram :=
    { layer := l.num, entry := l.entry, ptab := l.ptab, flowX := unsigned 32 l.flowX, flowY := unsigned 32 l.flowY
      start := d.tb3, recSeq := d.recSeq, flags := bitOf (d.tb1State != 2), items := d.startItems l
      drops := (d.rd REC_DROP_CNT).toNat, closed := none, tail := [] }
  { d with woram := some w, recSeq := d.recSeq + 1 }

/-- The engines, the locks and the laser outputs at a layer-start tick (R208, R280, R331, R332). -/
def Dev.startUnits (d : Dev) : Dev :=
  { d with
    engines := d.engines.map (fun (e : Engine) => { e with law := e.law.zero.clearHeld })
    keeper := { d.keeper with locks := d.keeper.locks.map (fun (q : LockQ) => { q with prev := none }) }
    scn := { d.scn with lasers := d.scn.lasers.map (fun (l : Laser) =>
      { l with clampRaised := false, narrowRaised := false }) } }

/-- Layer `l` starts on tick `s`. -/
def Dev.layerBegin (d : Dev) (l : Layer) (s : Nat) : Dev :=
  let d := d.advanceTo (s * perTick)
  let d := { d with lay := { d.lay with active := d.table l.ptab } }
  let vecs := (List.range 16).map (fun b => d.rd (LAS_EMIT_VEC b))
  let d := d.modLayer l.num (fun x => { x with started := true, emitVecs := vecs })
  let d := (d.startUnits.ldgLayerStart).openWoram l
  let d := d.emit 1 0x21 (leBytes 4 l.num ++ leBytes 4 0 ++ leBytes 8 s)
  (List.range 18).foldl (fun d n => d.reportDry n) d

/-- LAYER_START_TICK: the tick fixed by the start conditions comes (R110). -/
def execLayerStartTick (s : State) : Host.Outcome State Fault Refusal :=
  s.on (fun d =>
    let d := d.checkStart
    if d.mode.cur ≠ .build ∨ d.holding then d
    else match d.starting with
      | none => d
      | some l => match l.startTick with
        | some t => d.layerBegin l t
        | none => d)

/-! ## The close -/

/-- A layer in exposure closes: its record, then what waited for no layer to be in exposure, grids and trims, then its
LAYER_START completes (R112, R183, R454). -/
def Dev.endLayer (d : Dev) (l : Layer) (how : Option CloseHow) (woramFlags : Nat) : Dev :=
  ((d.shutLayer l.num woramFlags).commitGrids.gridsDue.pumpCommits).tellClosed l how

/-- The running layer whose barges have all been accepted and have completed (R112). -/
def Dev.doneLayer (d : Dev) : Option Layer :=
  d.lay.opened.find? (fun l => l.started && l.barges.all (fun b => b.done.isSome) && decide (l.count ≤ l.barges.length))

/-- A layer in exposure, started or not, whose accepted barges have all completed and that lacks some (R113). -/
def Dev.shortLayer (d : Dev) : Option Layer :=
  d.lay.opened.find? (fun l =>
    l.startReq.isSome && l.barges.all (fun b => b.done.isSome) && decide (l.barges.length < l.count))

/-- LAYER_END: every announced barge has been accepted and has completed. DEDUCED (log entry 41). -/
def execLayerEnd (s : State) : Host.Outcome State Fault Refusal :=
  s.on (fun d =>
    match d.doneLayer with
    | none => d
    | some l => ((d.endLayer l none 0).autoRecoat).checkStart)

/-- BARGE_WAIT_TIMEOUT: the wait for further barges expires (R113). DEDUCED (log entry 41). -/
def execBargeWaitTimeout (s : State) : Host.Outcome State Fault Refusal :=
  s.on (fun d =>
    match d.shortLayer with
    | none => d
    | some l => (d.endLayer l (some (stTimeout, 0x0206, l.count - l.barges.length)) 8).checkStart)

/-! ## The tick strobe, and fault reports -/

/-- The dry times of the beams in matched cross-device locks go to the peers every 64 ticks, and progress every
second tick (R225, R371, R384). DESIGN CHOICE (log entry 74). -/
def Dev.tickMessages (d : Dev) : Dev :=
  let d := if d.tick % 2 = 0 then d.members.foldl (fun d v => d.sendTo v 0x31 [(d.tb3 : Int)]) d else d
  if d.tick % 64 ≠ 0 then d
  else d.members.foldl (fun d v =>
    let mask := (List.range 64).foldl (fun m i =>
      if d.lockValid i && d.bit (LK_LOCK_XDEV i) 31 && d.bit (LK_LOCK_STATUS i) 16 && d.lockPeer i == v then
        m ||| d.lockMembers i else m) 0
    if mask = 0 then d
    else d.sendTo v 0x10 ((bitList 16 mask).flatMap (fun (b : Nat) => ([(b : Int), ((d.rd (LK_QTIME b)).toNat : Int)] : List Int)))) d

/-- TICK_STROBE: the strobe of the next tick. -/
def execTickStrobe (t : TickEnv) (s : State) : Host.Outcome State Fault Refusal :=
  s.on (fun d => if d.mode.boot < 2 then d else (d.strobe t).pumpReplay.pumpCal.endStops.tickMessages.tellTopo.pumpCommits)

/-- FAULT_DETECTED: a source reports a fault. A cause that no table gives is reported by no unit and
changes nothing. A beam whose grid is lost underruns (R197); the lock keeper whose state is lost rebuilds it on return to
BUILD (R235); a tile whose error the ledger finds is poisoned (R265). DEDUCED (log entry 29). -/
def execFaultDetected (f : FaultReport) (s : State) : Host.Outcome State Fault Refusal :=
  s.on (fun d =>
    let src := f.src.toNat
    if 2 ≤ src ∧ src - 2 < nEngines d.variant ∧ src ≤ 19 ∧ f.cause.toNat = 0x0B then d.gridLost (src - 2) f.payload
    else if src = 20 ∧ f.cause.toNat = 7 then (d.raise 20 7 f.payload).modKeeper (fun k => { k with lost := true })
    else if src = 21 ∧ f.cause.toNat = 2 then d.cachePoison f.payload.toNat
    else d.raise src f.cause.toNat f.payload)

end Sys2Proof.Machine
end

