-- ==== Sys2Proof/Machine/Modes.lean ====
section
/-! DEFINITION. Mode control (02): MODE_SET and its waiters, what leaving and entering a mode does, the work
in flight at entry to SAFE, wind-down, and port wake (R46 to R56, R68, R69, R327, R477, R478). -/

namespace Sys2Proof.Machine

/-! ## Conditions (R48) -/

/-- The device is ready. -/
def Dev.ready (d : Dev) : Bool := d.mode.fwSup && d.mode.fwBe && d.mode.fwVis && d.mode.dram

/-- MODE_READY.SAFE_CLEAR: no live SAFE-class cause, and Tj below 125 °C. -/
def Dev.safeClear (d : Dev) : Bool := !d.liveOf .safe && decide (d.tj < 2000)

/-- The mapped logical beams. -/
def Dev.mappedBeams (d : Dev) : List Nat := (List.range 16).filter (fun b => (d.engineOf b).isSome)

/-- Every scanner port of a mapped logical beam is trained, that is READY (R322). -/
def Dev.portsTrained (d : Dev) : Bool := d.mappedBeams.all (fun b => (d.port b).state == 3)

/-- What else keeps the device out of CALIBRATE and BUILD: a topology it is not admitted to (R377), and for
BUILD a grid that is lost (R197). -/
def Dev.exposeBar (d : Dev) (m : Mode) : Bool :=
  ((List.range 4).any (fun p => (d.bport p).state == 2) && !d.byf.inside) ||
    (m == .build && d.mappedBeams.any (fun b => (d.beamGrids b).lost))

/-- The conditions of a return from HOLD. -/
def Dev.mayReturn (d : Dev) (m : Mode) : Bool :=
  d.mode.holdFrom == m && !d.liveOf .hold && decide (d.tj < 1840) && d.portsTrained && !d.exposeBar m

/-- R48 lists the transition from the present mode, and its condition holds. DEDUCED (log entry 27). -/
def Dev.mayGo (d : Dev) (m : Mode) : Bool :=
  match d.mode.cur, m with
  | .configure, .standby => d.ready
  | .configure, .service => d.mode.fwSup
  | .standby, .configure => true
  | .standby, .calibrate => d.portsTrained && !d.exposeBar m
  | .standby, .build => d.portsTrained && !d.exposeBar m
  | .standby, .service => true
  | .standby, .windDown => true
  | .calibrate, .standby => true
  | .build, .standby => d.exposed.isNone
  | .build, .hold => true
  | .hold, .build => d.mayReturn m
  | .hold, .calibrate => d.mayReturn m
  | .hold, .standby => true
  | .hold, .windDown => true
  | .service, .standby => d.ready && d.replay.isNone && d.bist.run.isNone
  | .service, .configure => d.replay.isNone && d.bist.run.isNone
  | .service, .windDown => d.replay.isNone && d.bist.run.isNone
  | .safe, .standby => d.safeClear && d.ready
  | _, _ => false

/-! ## Work that ends with the mode (R55, R114, R188, R477) -/

/-- What the engines have gathered and sent reaches the ledger (R247, R261). -/
def Dev.drainLedger (d : Dev) : Dev :=
  let d := (List.range 18).foldl (fun d n => d.flushGather n) d
  (List.range 18).foldl (fun d n =>
    let e := d.eng n
    let d := iter (fun d => d.takeUpdate n) (e.writes.length + e.store.length) d
    iter (fun d => d.takeNotice n) (d.eng n).notices.length d) d

/-- A peer's records that have not started on this device are ABORTED for their owner (R380). -/
def Dev.tellOwner (d : Dev) (u : WUnit) : Dev :=
  if u.owner = d.devId then d
  else u.recs.foldl (fun d r => d.sendTo u.owner 0x16 [(r.vecId : Int), 0, 0, (stAborted : Int)]) d

/-- Engine n is done with the units that `mine` picks: its vector in emission ends PARTIAL where it last
emitted, held ones end PARTIAL at their stop point, and every outcome is reported. -/
def Dev.endEngine (d : Dev) (n : Nat) (mine : WUnit → Bool) : Dev :=
  let e := d.eng n
  let at_ := e.target d.tb3
  let d := d.endEmission n
  let (us, d) := d.splitWork n ((d.beamOf n).getD 0)
  let d := (us.filter mine).foldl (fun d u => d.tellOwner u) d
  let d := d.modEng n (fun e => { e with
    queue := us.filter (fun u => !mine u), runs := [], tickQ := [], held := [], gather := none, barrier := none
    px := at_.1, py := at_.2, stopping := false })
  let xs := (d.eng n).done
  xs.foldl (fun d x => d.reportDone x) (d.modEng n (fun e => { e with done := [] }))

/-- A record of a calibration command not started. -/
def VRec.aborted (v : VRec) : VRec :=
  if v.full then v else { v with outs := v.outs ++ [⟨stAborted, none, false, 0, 0, 0, false⟩] }

/-- A calibration command that has waited ends with nothing started. -/
def Dev.abortWaiter (d : Dev) (q : Req) (e : Env) : Dev :=
  if q.op = 0x0502 then
    match d.bargeCheck e.data true with
    | .ok rs => d.finishRecs q 0 (bytesAt e.data 12 4) (rs.map (fun r => (newRec r d.tb3).aborted))
    | .error _ => d.fail q stAborted 0
  else d.fail q stAborted 0

/-- Every calibration command ends: records without an outcome, probes, and those that wait (R188, R190, R477). -/
def Dev.endCals (d : Dev) : Dev :=
  let keys := d.cals.map (fun (c : CalJob) => keyOf c.req)
  let d := { d with cals := d.cals.map (fun (c : CalJob) => { c with recs := c.recs.map VRec.aborted }) }
  let d := keys.foldl (fun d k => d.checkCal k) d
  let js := d.probes
  let ws := d.calWait
  let d := { d with probes := [], calWait := [] }
  let d := js.foldl (fun d j => if j.serves then d else d.fail j.req stAborted 0) d
  ws.foldl (fun d w => d.abortWaiter w.1 w.2) d

/-- CALIBRATE is left: the work of its commands ends; prefetched layers stay. -/
def Dev.endCalibrate (d : Dev) : Dev :=
  ((List.range 18).foldl (fun d n => d.endEngine n (fun u => u.cal.isSome)) d.drainLedger).endCals

/-- All work in flight ends, and every open layer closes; `flags` go to the Woram record. DEDUCED (log entry 28). -/
def Dev.endWork (d : Dev) (flags : Nat) : Dev :=
  let d := (List.range 18).foldl (fun d n => d.endEngine n (fun _ => true)) (d.drainLedger.enterHalves (fun _ => true))
  let d := d.modKeeper (fun k => { k with
    tracks := [], syncs := [], sent := [], xwait := [], halves := [], xreqs := [], lost := false
    locks := k.locks.map (fun (q : LockQ) => { q with queue := [], wait := [] }) })
  let d := (d.lay.opened.map (fun l => l.num)).foldl (fun d m => (d.abortRest m).closeLayer m none flags) d
  (d.endJogs (fun _ => true) (fun q d => d.fail q stAborted 0)).endCals

/-- The open layers close without having started (R115). -/
def Dev.closeUnstarted (d : Dev) : Dev :=
  (d.lay.opened.map (fun l => l.num)).foldl (fun d m => ((d.purgeLayer m).abortRest m).closeLayer m none 0) d

/-- The work in flight at entry to SAFE, once the ledger holds the energy released (R477). DEDUCED (log entry 28). -/
def Dev.settleSafe (d : Dev) : Dev :=
  if !d.flt.settleDue ∨ d.mode.cur ≠ .safe ∨ d.flt.pfail then d
  else (({ d with flt := { d.flt with settleDue := false } }).endWork 2).commitGrids.pumpCommits

/-! ## Leaving and entering (R56) -/

/-- What leaving the present mode for `m` ends. DEDUCED (log entry 28). -/
def Dev.leaveFor (d : Dev) (m : Mode) : Dev :=
  match d.mode.cur, m with
  | .hold, .standby => d.endWork 0
  | .hold, .windDown => d.endWork 0
  | .calibrate, .standby => d.endCalibrate
  | .standby, .windDown => d.endWork 0
  | .service, .windDown => d.endWork 0
  | .standby, .configure => d.closeUnstarted
  | .service, .configure => d.closeUnstarted
  | .safe, _ => d.settleSafe
  | _, _ => d

/-- The profile copies are written, and each mapped engine's region becomes its beam's copy (R139).
DEDUCED (log entry 28). -/
def Dev.copyProfiles (d : Dev) : Dev :=
  let d := { d with profiles := (List.range 16).map (fun b => (d.engineOf b).map (fun n => d.profileOf n)) }
  d.mappedBeams.foldl (fun d b =>
    match d.engineOf b, d.profiles.getD b none with
    | some n, some c => d.loadProfile n c
    | _, _ => d) d

/-- Held vectors and units not started go on from HOLD (R55, R555). -/
def Dev.resumeEngine (d : Dev) (n : Nat) : Dev :=
  d.modEng n (fun e => { e with
    queue := e.held.map Held.resume ++ e.queue, held := [], stopping := false
    notBefore := d.tick + 401 + d.dmax n, next := d.tick + 1 })

/-- The lock entries of a barge that the basin still holds without an outcome and no engine, and no peer, has (R235).
DEDUCED (log entry 98). -/
def Dev.refetched (d : Dev) (l : Layer) (k : Nat) (b : Barge) : List WUnit :=
  let rs := b.recs.map (fun v => v.r)
  let out : List WUnit := d.engines.flatMap (fun e =>
    e.queue ++ e.runs.map (fun r => r.unit) ++ e.held.map (fun h => h.unit) ++ e.done.map (fun x => x.unit)) ++
    d.keeper.halves.map (fun h => h.unit) ++ d.keeper.sent.map (fun x => x.unit) ++
    d.keeper.locks.flatMap (fun q => q.queue.filter (fun u => u.half.isSome))
  let taken (i : Nat) : Bool := out.any (fun u => u.layer == l.num && u.barge == b.id && u.idxs.contains i)
  (unitsOf rs).filterMap (fun idxs =>
    let whole := mkUnit l.num b.id (k * 65536) d.devId rs idxs
    let open_ := idxs.filter (fun i => decide (i < b.lostFrom.getD rs.length) && !taken i &&
      (match b.recs[i]? with | some v => v.outs.isEmpty | none => false))
    if open_.isEmpty ∨ (whole.recs.headD default).single then none
    else some { mkUnit l.num b.id (k * 65536) d.devId rs open_ with order := whole.order })

/-- After STATE_LOST the keeper rebuilds its track store from the units the engines hold, and fetches its lock queues
again from the basin, without entries that have outcomes (R235). A returned half stays, since its other half gives its
stitch point. DEDUCED (log entry 98). -/
def Dev.rebuildKeeper (d : Dev) : Dev :=
  if !d.keeper.lost then d
  else
    let tracks := (List.range 18).flatMap (fun n => match d.beamOf n with
      | some b => ((d.eng n).runs.filter (fun r => r.committed && r.emits)).map (fun r => (⟨d.gbeam b, r⟩ : Track))
      | none => [])
    let us := d.lay.opened.flatMap (fun l => (l.barges.mapIdx (fun k b =>
      if b.dispatched then d.refetched l k b else [])).flatten)
    let d := d.modKeeper (fun k => { k with
      tracks := tracks, lost := false
      locks := k.locks.map (fun (q : LockQ) => { q with queue := q.queue.filter (fun u => u.half.isSome), wait := [] }) })
    us.foldl (fun d u => match d.entryLock u with
      | some i => d.modLock i (fun q => q.takeBack { u with lock := some i })
      | none => d) d

/-- What entry to CALIBRATE or BUILD brings with it. -/
def Dev.enterExpose (d : Dev) (from_ : Mode) : Dev :=
  let d := if d.mode.cur = .build then (d.modKeeper (fun k => { k with xwait := [] })).rebuildKeeper else d
  let d := if from_ = .hold then (List.range 18).foldl (fun d n => d.resumeEngine n) d
    else (List.range 18).foldl (fun d n => d.modEng n (fun e => { e with stopping := false, next := d.tick + 1 })) d
  let d := if d.mode.cur = .build ∧ from_ ≠ .hold then d.newBoundary else d
  if d.scn.ilk then d else d.ilkOpen

/-- What entry to the present mode from another brings with it. DEDUCED (log entry 28). -/
def Dev.enterFrom (d : Dev) (from_ : Mode) : Dev :=
  match d.mode.cur with
  | .configure => (((d.camsOff).motConfigure).ldgRelease).lampsOff
  | .standby =>
    let d := if from_ = .safe then ({ d with scn := { d.scn with latch := false, moorOk := false } }).restLevel false else d
    let d := if from_ = .configure then
        (({ d with lay := { d.lay with lastClosed := none } }).copyProfiles).ldgAllocate
      else d
    ((d.camChecks).enumAll).topoEval
  | .calibrate => d.enterExpose from_
  | .build => d.enterExpose from_
  | .hold => d.enumAll
  | _ => d

/-- A transition that completes at once. Emission is off outside CALIBRATE and BUILD. DEDUCED (log entry 27). -/
def Dev.goMode (d : Dev) (m : Mode) : Dev :=
  let from_ := d.mode.cur
  let d := d.endJogs (fun _ => true) (fun q d => d.fail q stAborted 0)
  let d := (d.leaveFor m).setMode m 0x01
  let d := if d.exposing then d else (List.range 16).foldl (fun d b => d.setEmit b false) d
  (d.enterFrom from_).pumpCommits

/-! ## Wind-down (R68, R526 to R528) -/

/-- The islands logic BIST tests: every present one. -/
def Dev.lbistIslands (d : Dev) : Nat := ((List.range 28).map (fun i => if islandPresent d.variant i then 2 ^ i else 0)).sum

/-- Step 5: each island under test passes or fails; `fails` are those whose signature does not match.
DEDUCED (log entry 22). -/
def Dev.lbist (d : Dev) (fails : BitVec 64) : Dev :=
  if d.bit MODE_WD_CFG 0 && (d.lcState == 2 || d.lcState == 3) then
    let run := d.lbistIslands
    let bad := (List.range 28).filter (fun i => fails.getLsbD i && run.testBit i)
    let d := (d.wrN BIST_LBIST_RUN run).wrN BIST_LBIST_FAIL ((bad.map (fun i => 2 ^ i)).sum)
    let d := d.wrN BIST_LBIST_STATUS (2 * 2 ^ 28 + 6)
    bad.foldl (fun d i => d.raise 37 1 (BitVec.ofNat 32 i)) d
  else d.setBit MODE_WD_STATUS 9 true

/-- The merge releases what this device has stamped, and of the members what they have reported progress past: a step
of wind-down takes longer than the 2 µs of R35. DEDUCED (log entry 22). -/
def Dev.releaseReady (d : Dev) : Dev :=
  let ready (d : Dev) : Bool := match d.rcd.waiting with | [] => false | e :: _ => d.heardPast e.t
  iter (fun d => if ready d then d.releaseOne else d) d.rcd.waiting.length d

/-- A flush of wind-down: an MRAM error sets FLUSH_FAIL. DEDUCED (log entry 22). -/
def Dev.wdFlush (d : Dev) (x : Xspi) : Dev :=
  let d := d.releaseReady
  let bad := !d.rcd.mram.usable || x != .ok
  let d := if d.rcd.flushing then (d.startFlush.flushEnd x).flushEnd x else d.flushNow x
  if bad then d.setBit MODE_WD_STATUS 10 true else d

/-- Steps 2 to 7. Mooring and the decelerations that begin at step 2 go on by themselves. DEDUCED (log entry 22). -/
def Dev.windDown (d : Dev) (e : Env) : Dev :=
  let d := d.lampsPattern.motWindDown
  let d := (d.wdFlush e.xspi).lbist e.mask
  let d := (d.wdFlush e.xspi).toutSafe
  let d := if d.bit MODE_WD_CFG 2 then d.motOff else d
  let d := (List.range 16).foldl (fun d b =>
    if d.bit (SCN_PORT_CFG b) 30 then (d.modPort b (fun (p : Port) => { p with txSleep := true })).sendSleep b else d) d
  (d.setFld MODE_WD_STATUS 0 4 7).setBit MODE_WD_STATUS 8 true

/-! ## MODE_SET (R48 to R53, R327) -/

/-- A port of a mapped beam has a direction asleep. -/
def Dev.sleepers (d : Dev) : List Nat := d.mappedBeams.filter (fun b => (d.port b).txSleep || (d.port b).rxSleep)

/-- Both directions of every sleeping port of a mapped beam start to wake; a PORT_SLEEP in flight ends
STATE_REJECT (R327, R342). -/
def Dev.wakePorts (d : Dev) : Dev :=
  let js := d.scn.sleeps
  let d := { d with scn := { d.scn with sleeps := [] } }
  let d := js.foldl (fun d j => d.fail j.req stReject 0) d
  let d := (List.range 16).foldl (fun d b => d.modPort b (fun (p : Port) => if p.cmd = 2 then { p with cmd := 0, arg := 0 } else p)) d
  d.sleepers.foldl (fun d b => d.startWake b true true) d

/-- MODE_SET STANDBY from CALIBRATE (R188): emission ends on the next tick that no final stage has run for, with
skywriting out; the mode changes once every engine has stopped. -/
def Dev.leaveCalibrate (d : Dev) (q : Req) : Dev :=
  let d := ({ d with mode := { d.mode with changing := true, holdAt := d.tb3, leaveReq := some q } }).applyHold
  (List.range 18).foldl (fun d n =>
    let k := if (d.eng n).tickQ.any (fun x => x.tick == d.tick + 1 && x.code.isSome) then 2 else 1
    if d.fencedUnit n then d else d.finishAt n ((d.tick + k) * perTick) false) d

/-- A MODE_SET executes: it is judged against the mode in force, and takes effect. DEDUCED (log entry 27). -/
def Dev.judge (d : Dev) (q : Req) (e : Env) : Dev :=
  let m := Mode.ofCode (q.a0.get 0 3)
  if d.wdDone then d.fail q stReject 0
  else if m = d.mode.cur then d.ok q 0 0 0 0
  else if !d.lcMode m then d.fail q stDenied 0
  else if !d.mayGo m then d.fail q stReject 0
  else match m with
    | .hold => (({ d with mode := { d.mode with holdReq := some q } }).holdTrigger 0x01 false false).applyHold
    | .windDown => ((d.goMode m).windDown e).ok q 0 0 0 0
    | .calibrate =>
      let d := d.wakePorts
      if d.sleepers.isEmpty then (d.goMode m).ok q 0 0 0 0
      else { d with mode := { d.mode with wakeReq := some (q, m) } }
    | .build =>
      let d := d.wakePorts
      if d.sleepers.isEmpty then (d.goMode m).ok q 0 0 0 0
      else { d with mode := { d.mode with wakeReq := some (q, m) } }
    | .standby =>
      if d.mode.cur = .calibrate ∧ !d.allStopped then d.leaveCalibrate q else (d.goMode m).ok q 0 0 0 0
    | _ => (d.goMode m).ok q 0 0 0 0

/-- A transition is in progress (R52). -/
def Dev.transition (d : Dev) : Bool := d.mode.changing || d.mode.wakeReq.isSome

/-- DEDUCED (log entry 27). -/
def cmdModeSet : Cmd where
  check d q := firstFail (shape q [7] none 0 ++
    [deniedIf (!d.lcMode (Mode.ofCode (q.a0.get 0 3))), (d.wdDone, stReject, 0),
     (Mode.ofCode (q.a0.get 0 3) == .safe && d.mode.cur == .windDown, stReject, 0)])
  effect q e d :=
    let m := Mode.ofCode (q.a0.get 0 3)
    if m = .safe then
      if d.mode.cur = .safe then d.ok q 0 0 0 0
      else
        let (x, d) := d.free
        (d.raiseWith ⟨false, some 0x01, none, true⟩ 0 2 (BitVec.ofNat 32 x)).ok q 0 0 0 0
    else if d.transition || !d.mode.waiters.isEmpty then { d with mode := { d.mode with waiters := d.mode.waiters ++ [q] } }
    else d.judge q e

/-- MODE_SET. In WIND-DOWN `e.xspi` is how the flushes end, and `e.mask` names the islands that fail logic
BIST. -/
def execModeSet (r : Req) (e : Env) (s : State) : Host.Outcome State Fault Refusal :=
  s.command 0x0101 cmdModeSet r e

/-- MODE_SET_WAIT_RELEASE: the transition has completed, and the oldest waiting MODE_SET executes (R52). -/
def execModeSetWaitRelease (e : Env) (s : State) : Host.Outcome State Fault Refusal :=
  s.whenUp (fun d =>
    match d.mode.waiters with
    | [] => d
    | q :: qs => if d.transition then d else ({ d with mode := { d.mode with waiters := qs } }).judge q e)

/-- A MODE_SET that waited for ports to wake goes on once none sleeps (R327, R342). -/
def Dev.pumpWake (d : Dev) : Dev :=
  match d.mode.wakeReq with
  | none => d
  | some (q, m) =>
    if d.sleepers.isEmpty then
      let d := { d with mode := { d.mode with wakeReq := none } }
      if d.mayGo m then (d.goMode m).ok q 0 0 0 0 else d.fail q stReject 0
    else d

/-- WAKE_COMPLETE: port b has woken, or has exceeded its wake limit (R326, R327). -/
def execWakeComplete (b : Fin 16) (ok : Bool) (s : State) : Host.Outcome State Fault Refusal :=
  s.on (fun d => (d.wakeEnd b ok).pumpWake)

/-- SAFE_POINT_REACHED: every engine has stopped, and the mode becomes HOLD (R54), or STANDBY where a MODE_SET STANDBY
ends CALIBRATE (R188). -/
def execSafePointReached (_e : Env) (s : State) : Host.Outcome State Fault Refusal :=
  s.on (fun d =>
    match d.mode.leaveReq with
    | some r =>
      let d := d.applyHold
      if !d.allStopped then d
      else (({ d with mode := { d.mode with changing := false, leaveReq := none } }).goMode .standby).ok r 0 0 0 0
    | none =>
    let q := d.mode.holdReq
    let t := d.safePoint
    if t.mode.cur = .hold ∧ d.mode.cur ≠ .hold then
      let t := t.enterFrom d.mode.cur
      match q with
      | some q => t.ok q 0 0 0 0
      | none => t
    else t)

/-! ## Entry to SAFE (R477, R478, R499) -/

/-- SAFE_WORK_SETTLE. -/
def execSafeWorkSettle (s : State) : Host.Outcome State Fault Refusal := s.on Dev.settleSafe

end Sys2Proof.Machine
end

