-- ==== Sys2Proof/Machine/Boot.lean ====
section
/-! DEFINITION. Resets, boot, firmware images and power failure (02, 18, 19): R57 to R67, R478, R492, R499,
R519. -/

namespace Sys2Proof.Machine

open Sys2Proof.Config (Variant)

/-! ## Resets (R57 to R60) -/

/-- EMIT_EN low, code 0 and MOD low on every laser output (R60). -/
def Dev.pinsReset (d : Dev) : Dev :=
  (List.range 16).foldl (fun d b => (d.setEmit b false).send (.laser b 0 false none none)) d

/-- The reset values, with what leaves the device kept, and the MRAM out of use until boot finds it.
DEDUCED (log entry 10). -/
def Dev.resetAll (d : Dev) : Dev :=
  { Dev.powerOn d.variant d.bist.fuses { d.rcd.mram with usable := false } d.scn.ilk with
    out := d.out, freeCtr := d.freeCtr }

/-- A reset that keeps the AON retention set (R58), with its bit of MODE_RST_CAUSE. DEDUCED (log entry 10). -/
def Dev.resetKeep (d : Dev) (cause : Nat) : Dev :=
  let t := d.resetAll
  let t := { t with
    rcd := { t.rcd with shadow := d.rcd.shadow, wptr := d.rcd.wptr, full := d.rcd.full }
    flt := Faults.reset d.flt.hist d.flt.seq }
  let t := (t.wr FLT_HIST_CNT (d.rd FLT_HIST_CNT)).wr REC_SHADOW_CNT (d.rd REC_SHADOW_CNT)
  (t.wr MODE_RST_CAUSE (d.rd MODE_RST_CAUSE)).setBit MODE_RST_CAUSE cause true

/-- POWER_ON_RESET: nothing is retained. DRAM contents are lost (R58). -/
def execPowerOnReset (s : State) : Host.Outcome State Fault Refusal :=
  .next { s with dev := s.dev.pinsReset.resetAll, mem := [] }

/-- RST_N_RESET: the pin has been low for `lowNs`; less than 1 µs is no reset. DEDUCED (log entry 10). -/
def execRstNReset (lowNs : Nat) (s : State) : Host.Outcome State Fault Refusal :=
  if lowNs < 1000 then .next s
  else .next { s with dev := s.dev.pinsReset.resetKeep 1, mem := [] }

/-- PERST_N_RESET. -/
def execPerstNReset (s : State) : Host.Outcome State Fault Refusal :=
  .next { s with dev := s.dev.pinsReset.resetKeep 2, mem := [] }

/-- A key written to SOFT_KEY: the right one takes the safe state of R53 and arms the reset. DEDUCED (log entry 10). -/
def Dev.softKey (d : Dev) (key : BitVec 16) : Dev :=
  if key = 0xA5C3 then
    let d := d.safeOutputs
    { d with mode := { d.mode with softPending := true } }
  else d

/-- SOFT_KEY. -/
def execSoftKey (key : BitVec 16) (s : State) : Host.Outcome State Fault Refusal := s.whenUp (fun d => d.softKey key)

/-- SOFTWARE_RESET_FIRE: 10 µs after the key. -/
def execSoftwareResetFire (s : State) : Host.Outcome State Fault Refusal :=
  if s.dev.mode.softPending then .next { s with dev := s.dev.pinsReset.resetKeep 3, mem := [] } else .next s

/-- MODE_RST_CAUSE is cleared: the bits hardware sets in the same cycle stand, and count as lost (R43). -/
def Dev.causeClr (d : Dev) (hwSet : BitVec 4) : Dev :=
  let w := BitVec.ofNat 32 hwSet.toNat
  (d.wr MODE_RST_CAUSE w).lostClear MODE_RST_CAUSE (popCount w) (lowBit w)

/-- CAUSE_CLR. -/
def execCauseClr (hwSet : BitVec 4) (s : State) : Host.Outcome State Fault Refusal := s.whenUp (fun d => d.causeClr hwSet)

/-! ## Boot (R61, R497, R498, R509, R531) -/

/-- A pointer slot to start from: the valid one with the higher GEN. -/
def Mram.pointer (m : Mram) : Option Pointer :=
  if m.slot0.valid ∧ (!m.slot1.valid ∨ m.slot1.gen ≤ m.slot0.gen) then some m.slot0
  else if m.slot1.valid then some m.slot1 else none

/-- Bytes shown in consecutive word registers, byte 4w of word w in bits [7:0]. -/
def Dev.showBytes (d : Dev) (off : Nat) (bs : List Byte) : Dev :=
  (List.range (bs.length / 4)).foldl (fun d w => d.wrN (off + 4 * w) (bytesAt bs (4 * w) 4)) d

/-- Step 1: the MRAM is found, and the recorder takes its pointer. -/
def Dev.bootMram (d : Dev) (mib : Option Nat) : Dev :=
  let n := mib.getD 0
  let ok := decide (2 ≤ n) && decide (n ≤ 32)
  let m := { d.rcd.mram with usable := ok, mib := n }
  let p := m.pointer.getD ⟨0, 0, false, false⟩
  let d := { d with rcd := { d.rcd with mram := m, wptr := p.wptr, full := p.full } }
  if !ok then (d.shadowLog 5 0).fault 36 2
  else
    let d := d.wrN REC_AREA m.area
    if m.pointer.isNone then (d.shadowLog 4 0).fault 36 2 else d

/-- Ports that are present begin blind training: 1 training, 0 off. DEDUCED (log entry 33). -/
def Dev.bootPorts (d : Dev) : Dev :=
  let d := (List.range (nBeams d.variant)).foldl (fun d b => d.sendTraining true b false) d
  let d := if d.bit BYF_CFG 31 then (List.range (nByoft d.variant)).foldl (fun d p => d.sendTraining false p false) d else d
  { d with
    scn := { d.scn with ports := d.scn.ports.mapIdx (fun b (p : Port) =>
      { p with state := if b < nBeams d.variant then 1 else 0 }) }
    byf := { d.byf with ports := d.byf.ports.mapIdx (fun p (x : BPort) =>
      { x with state := if p < nByoft d.variant ∧ d.bit BYF_CFG 31 then 1 else 0 }) } }

/-- Step 4: the repair copy that MRAM holds is applied, unless a check fails; STATE is then 3. DEDUCED (log entries 11
and 21). DEDUCED (log entry 11), DEDUCED (log entry 21), DESIGN CHOICE (log entry 82). -/
def Dev.bootRepair (d : Dev) (b : List Byte) : Dev :=
  if !d.rcd.mram.usable then d
  else
    let b := if d.rcd.mram.repairCopy.isEmpty then b else d.rcd.mram.repairCopy
    if repairCheck b = stOk then d.mapInForce b 1 else (d.setFld BIST_REPAIR_STATUS 28 4 3).fault 37 3

/-- RESET_RELEASE_BOOT: steps 1 to 5, from the release of the last reset to CONFIGURE. DEDUCED (log entry 6). -/
def execResetReleaseBoot (b : BootEnv) (s : State) : Host.Outcome State Fault Refusal :=
  if s.dev.mode.boot ≠ 0 then .next s
  else
    let d := s.dev
    let d := { d with
      bist := { d.bist with latched := d.bist.fuses }
      life := { d.life with boots := 1 }
      devId := if nByoft d.variant = 0 then 0 else b.straps.toNat
      scn := { d.scn with ilk := b.ilk } }
    let d := (d.bootMram b.mramMib).wrN CLK_STATUS (2 ^ 31 + 3)
    let d := d.setBit MEAS_STATUS 8 true
    let d := (d.bootPorts.showByf false).bootRepair b.repair
    .next { s with dev := { d with mode := { d.mode with boot := 4 } } }

/-! ## Commands that end with the supervisor or with the supply (R67, R499) -/

/-- An axis without the commands `hit` picks. -/
def Axis.forget (hit : Req → Bool) (a : Axis) : Axis :=
  let goal (g : Goal) : Goal := { g with req := g.req.filter (fun q => !hit q) }
  { a with
    mv := a.mv.map (fun (m : Move) => { m with
      goal := goal m.goal, retune := m.retune.filter (fun r => !hit r.2.2) })
    queue := a.queue.map goal }

/-- A camera port without the commands `hit` picks. -/
def Cam.forget (hit : Req → Bool) (c : Cam) : Cam :=
  { c with
    changes := c.changes.filter (fun x => !hit x.req)
    tapReqs := c.tapReqs.filter (fun x => !hit x.1)
    hosts := c.hosts.filter (fun x => !(x.req.any hit)) }

/-- No unit holds on to a command that `hit` picks. DEDUCED (log entry 13). -/
def Dev.forget (d : Dev) (hit : Req → Bool) : Dev :=
  let keep (q : Req) : Bool := !hit q
  { d with
    hif := { d.hif with waitData := d.hif.waitData.filter keep }
    mode := { d.mode with
      holdReq := d.mode.holdReq.filter keep
      leaveReq := d.mode.leaveReq.filter keep
      wakeReq := d.mode.wakeReq.filter (fun w => keep w.1)
      waiters := d.mode.waiters.filter keep }
    flt := { d.flt with inj := d.flt.inj.filter (fun i => keep i.req) }
    rcd := { d.rcd with
      flushReqs := d.rcd.flushReqs.filter keep, nextReqs := d.rcd.nextReqs.filter keep
      clearReq := d.rcd.clearReq.filter keep, clearing := d.rcd.clearing.filter keep }
    bist := { d.bist with run := d.bist.run.filter (fun x => keep x.1) }
    cals := d.cals.filter (fun c => keep c.req)
    probes := d.probes.filter (fun j => keep j.req)
    calWait := d.calWait.filter (fun w => keep w.1)
    scn := { d.scn with moors := d.scn.moors.filter keep, sleeps := d.scn.sleeps.filter (fun j => keep j.req) }
    vis := { d.vis with
      cams := d.vis.cams.map (fun c => c.forget hit)
      i2c := d.vis.i2c.map (fun js => js.filter (fun j => keep j.req))
      reads := d.vis.reads.filter (fun r => keep r.1) }
    time := { d.time with stops := d.time.stops.filter keep }
    byf := { d.byf with
      retrains := d.byf.retrains.filter (fun r => keep r.1), tests := d.byf.tests.filter (fun t => keep t.2) }
    mot := { d.mot with
      axes := d.mot.axes.map (fun a => a.forget hit)
      seq := d.mot.seq.map (fun (x : RecoatSeq) => { x with req := x.req.filter keep })
      stops := d.mot.stops.filter (fun x => keep x.2) }
    ill := { d.ill with sets := d.ill.sets.filter (fun x => keep x.1) }
    trim := { d.trim with
      queue := d.trim.queue.filter (fun x => keep x.1), commits := d.trim.commits.filter keep } }

/-- Every command in flight on a CONTROL ring completes ABORTED. DEDUCED (log entry 12). -/
def Dev.abortControl (d : Dev) : Dev :=
  let reqs := (List.range 64).flatMap (fun n => if d.ringType n = 2 then (d.ring n).inflight else [])
  let d := (d.forget (fun q => d.ringType q.ring == 2)).injStatus
  reqs.foldl (fun d q => d.fail q stAborted 0) d

/-! ## Firmware (R63 to R67) -/

/-- MODE_FW_STATUS. -/
def Dev.fwStatus (d : Dev) (state code step type : Nat) : Dev :=
  d.wrN MODE_FW_STATUS (state * 2 ^ 28 + code * 65536 + step * 256 + type)

/-- FW_LOAD_START: MODE_FW_CTRL is written. TYPE follows R47; START is taken in every mode and ignored while
a load runs. DEDUCED (log entry 12). -/
def execFwLoadStart (ctrl : Word) (s : State) : Host.Outcome State Fault Refusal :=
  s.whenUp (fun d =>
    let t := ctrl.get 0 2
    let d :=
      if d.mode.cur = .configure then d.setFld MODE_FW_CTRL 0 2 t
      else if t = d.fld MODE_FW_CTRL 0 2 then d else d.refuse MODE_FW_CTRL
    let t := d.fld MODE_FW_CTRL 0 2
    if !ctrl.bit 31 ∨ d.mode.fwLoad.isSome then d
    else if d.mode.cur ≠ .configure then d.fwStatus 4 stReject 0 t
    else if t = 0 then d.fwStatus 4 stMalformed 1 0
    else ({ d with mode := { d.mode with fwLoad := some t } }).fwStatus 1 0 0 t)

/-- The variant's bit of VARIANTS. -/
def variantBit : Variant → Nat
  | .pq8 => 0 | .pq12 => 1 | .pq16 => 2

/-- The checks of R65 in order: status and step of the first that fails. -/
def Dev.verifyImage (d : Dev) (b : List Byte) (type : Nat) : Option (Nat × Nat) :=
  let len := d.fld MODE_FW_LEN 0 23
  let body := bytesAt b 12 4
  let most := if type = 1 then 4194304 else if type = 2 then 262144 else 524288
  let key := (b.drop 64).take 96
  let part := idPart d.variant
  if bytesAt b 0 4 ≠ 0x51465750 ∨ bytesAt b 4 2 ≠ 1 ∨ bytesAt b 6 2 ≠ type
      ∨ !allZero ((b.drop 18).take 46) ∨ !allZero ((b.drop 256).take 256) then some (stMalformed, 1)
  else if body + 512 ≠ len ∨ most < body then some (stMalformed, 2)
  else if !(bytesAt b 17 1).testBit (variantBit d.variant) ∨ part % 256 < bytesAt b 16 1 then some (stDenied, 3)
  else if BitVec.ofNat 384 (beNat (sha384 key)) ≠ Config.vendorKeyHash then some (stDenied, 4)
  else if !ecdsaVerify (beNat (key.take 48)) (beNat (key.drop 48)) (beNat ((b.drop 160).take 48))
      (beNat ((b.drop 208).take 48)) (sha384 (b.take 160 ++ b.drop 512)) then some (stDenied, 5)
  else none

/-- A verified image comes into force: measurement, program memory, VERSION and the MODE_READY bit (R66). A
supervisor in force is replaced once its commands have ended (R67). DEDUCED (log entry 12). -/
def Dev.installImage (d : Dev) (b : List Byte) (type : Nat) : Dev :=
  let d := if type = 1 ∧ d.mode.fwSup then d.abortControl else d
  let d := (d.showBytes (MEAS_FW (type - 1) 0) (sha384 b)).setBit MEAS_STATUS (type - 1) true
  let d := d.wrN (MODE_FW_VER (type - 1)) (bytesAt b 8 4)
  let d := { d with mode := { d.mode with
    fwLoad := none
    programs := d.mode.programs.set (type - 1) (b.drop 512)
    fwSup := d.mode.fwSup || type == 1
    fwBe := d.mode.fwBe || type == 2
    fwVis := d.mode.fwVis || type == 3
    boot := if type = 1 then 5 else d.mode.boot } }
  d.fwStatus 3 stOk 0 type

/-- FW_LOAD_DONE: the fetch ends, with the image, or with none where it failed as R71 gives. DEDUCED (log entry 12). -/
def execFwLoadDone (image : Option (List Byte)) (s : State) : Host.Outcome State Fault Refusal :=
  s.whenUp (fun d =>
    match d.mode.fwLoad with
    | none => d
    | some t =>
      let off := { d with mode := { d.mode with fwLoad := none } }
      match image with
      | none => (off.send (.aer true)).fwStatus 4 stTimeout 0 t
      | some b =>
        let b := b.take (d.fld MODE_FW_LEN 0 23)
        match d.verifyImage b t with
        | some (st, step) => off.fwStatus 4 st step t
        | none => d.installImage b t)

/-! ## Power failure (R478, R499, R504) -/

/-- PFAIL_STOP, for each beam whose LASb_EMIT_VEC has changed since the layer-start tick. -/
def Dev.pfailStops (d : Dev) : Dev :=
  match d.running with
  | none => d
  | some l => (List.range (nBeams d.variant)).foldl (fun d b =>
      if d.rd (LAS_EMIT_VEC b) = l.emitVecs.getD b 0 then d
      else d.emit 31 0x10 (leBytes 4 (d.rd (LAS_EMIT_VEC b)).toNat ++ leBytes 4 (d.rd (LAS_EMIT_ARC b)).toNat
        ++ leBytes 6 (d.rd64 (LAS_EMIT_TICK_LO b) (LAS_EMIT_TICK_HI b)) ++ [BitVec.ofNat 8 b, 0])) d

/-- WORAM_LOST for the record being built, and for one not yet emitted. -/
def Dev.loseWoram (d : Dev) : Dev :=
  { (d.closing ++ d.woram.toList).foldl (fun d w =>
      d.emit 36 0x52 (leBytes 4 w.layer ++ leBytes 4 w.entry ++ leBytes 4 w.recSeq)) d with woram := none, closing := [] }

/-- The register pages of the units other than AON, SUP, ANA and the xSPI interface (R18). DEDUCED (log entry 13). -/
def islandPage (off : Nat) : Bool :=
  let p := off / 65536
  p == 0x03 || (decide (4 ≤ p) && decide (p ≤ 0x19)) || (decide (0x20 ≤ p) && decide (p ≤ 0x27))
    || p == 0x2A || p == 0x2B || p == 0x2D || p == 0x32

/-- Those units are in reset; ports begin to train again once it is released. DEDUCED (log entry 13). -/
def Dev.dropIslands (d : Dev) : Dev :=
  let d := { d with
    regs := d.regs.filter (fun r => !islandPage r.1)
    copies := d.copies.filter (fun r => !islandPage r.1)
    rings := List.replicate 64 default
    hif := Hif.reset
    lay := Layers.reset
    grids := List.replicate 16 default
    resids := List.replicate 64 default
    engines := List.replicate 18 default
    keeper := Keeper.reset
    ldg := Ledger.reset
    feats := List.replicate 16 []
    profiles := List.replicate 16 none
    cals := []
    probes := []
    calWait := []
    scn := { Scanner.reset d.scn.ilk with latch := d.scn.latch }
    vis := Vis.reset
    dram := Dram.reset
    byf := Byoft.reset
    mot := Motion.reset
    ill := Illum.reset
    members := []
    staged := []
    recoated := false
    mode := { d.mode with dram := false }
    time := { d.time with follows := false, corr := 0 } }
  let d := [(27, 2), (28, 1), (29, 2), (29, 5), (29, 6), (29, 7), (30, 1), (30, 6), (36, 5)].foldl
    (fun d (c : Nat × Nat) => d.endCause c.1 c.2) d
  d.bootPorts

/-- PFAIL_N_LOW: SAFE by R476, the stop points into the recorder, the power-fail flush, and every unit the
flush does not need in reset. The work in flight writes no completion entry. DEDUCED (log entry 13). -/
def execPfailNLow (s : State) : Host.Outcome State Fault Refusal :=
  if s.dev.mode.boot = 0 ∨ s.dev.standing 38 4 then .next s
  else
    let d := (s.dev.forget (fun _ => true)).raiseTrig 4 0x06
    let d := { d with flt := { d.flt with pfail := true, settleDue := false } }
    let d := d.pfailStops.loseWoram.releaseAll
    let d := { d with rcd := { d.rcd with pfail := d.rcd.mram.usable } }
    .next { s with dev := d.dropIslands, mem := [] }

end Sys2Proof.Machine
end

