-- ==== Sys2Proof/Machine/Replay.lean ====
section
/-! DEFINITION. The start of the replay of a recorded layer (07): R228 and R229. -/

namespace Sys2Proof.Machine

/-- The items of a record body: TYPE and content. -/
def parseItems : Nat → List Byte → List (Nat × List Byte)
  | 0, _ => []
  | n + 1, b =>
    if b.length < 4 then []
    else
      let len := bytesAt b 2 2
      (bytesAt b 0 2, (b.drop 4).take len) :: parseItems n (b.drop (4 + len))

/-- The content of every item of a type, in order. -/
def itemsOf (type : Nat) (items : List (Nat × List Byte)) : List Byte :=
  (items.filter (fun i => i.1 == type)).flatMap (fun i => i.2)

/-- Blocks of `k` bytes. -/
def piecesOf (k : Nat) : Nat → List Byte → List (List Byte)
  | 0, _ => []
  | n + 1, b => if b.length < k ∨ k = 0 then [] else b.take k :: piecesOf k n (b.drop k)

/-- Consecutive pieces of a block, by their lengths. -/
def cutBy : List Nat → List Byte → List (List Byte)
  | [], _ => []
  | n :: ns, b => b.take n :: cutBy ns (b.drop n)

/-- Check 2 of R229 fails. -/
def manifestBad (m : List Byte) : Bool :=
  let n := bytesAt m 6 2
  let rows := (piecesOf 16 n (m.drop 64))
  bytesAt m 0 4 != 0x50525150 || bytesAt m 4 2 != 1 || n == 0 || m.length != 64 + 16 * n
    || !allZero ((m.drop 20).take 40) || bytesAt m 8 8 % 64 != 0
    || rows.any (fun r => bytesAt r 0 8 % 64 != 0 || bytesAt r 12 4 != 0)

/-- Check 3 of R229: the trailer signs header and body under the identity key (R510). -/
def recordSigned (r : List Byte) : Bool :=
  let n := 128 + bytesAt r 80 4
  decide (r.length = n + 96) && bytesAt r 0 4 == 0x524F5150 &&
    ecdsaVerify Config.pubX.toNat Config.pubY.toNat (beNat ((r.drop n).take 48)) (beNat ((r.drop (n + 48)).take 48))
      (sha384 (r.take n))

/-- The recorded layer, as it stands open for its replay, started on a tick. -/
def recordedLayer (r : List Byte) (barges : List Barge) (start : Nat) : Layer :=
  { num := bytesAt r 8 4, count := 65535, ptab := bytesAt r 20 4, flowX := intAt r 24 4, flowY := intAt r 28 4,
    bargeWait := 0, entry := bytesAt r 12 4, barges := barges, startReq := none, recoatWait := false, startWait := 0,
    startTick := some start, started := true, emitVecs := [] }

/-- The device with the recorded layer alone open: its barges are checked against that. -/
def Dev.scene (d : Dev) (l : Layer) : Dev := { d with lay := { d.lay with opened := [l] } }

/-- The checks of R126 that no set of the table takes part in: where the table is not loaded, a record may fail only for
its set, its focus or its stitch. DESIGN CHOICE (log entry 25). -/
def Dev.recsPass (d : Dev) (b : List Byte) : Bool :=
  let n := bytesAt b 20 4
  let rs := recsOf b (bytesAt b 24 2) n 0 0 0
  (List.range n).all (fun i =>
    match d.recBad b (List.replicate 256 []) rs i false with
    | none => true
    | some x => x == 0x030B || (x == 0x0308 && (rs.getD i default).flags.testBit 1))

/-- Barge k passes R126 and is entry k of the record's BARGES, by digest: its records (check 4 of R229). -/
def Dev.replayBarge (d : Dev) (b x : List Byte) : Option (List Rec) :=
  if bytesAt b 12 4 = bytesAt x 0 4 ∧ sha384 b = (x.drop 8).take 48 then
    match d.bargeCheck b false with
    | .ok rs => some rs
    | .error (_, _, r0) => if r0 ≠ 0xFFFFFFFF ∧ (d.table (bytesAt b 16 4)).isNone ∧ d.recsPass b then
        some (recsOf b (bytesAt b 24 2) (bytesAt b 20 4) 0 0 0) else none
  else none

/-- The barges of the manifest, as accepted one by one (R116); none where one fails check 4. -/
def Dev.replayBarges (d : Dev) (q : Req) (r : List Byte) (start : Nat) :
    List Barge → List (List Byte) → List (List Byte) → Option (List Barge)
  | acc, [], _ => some acc
  | _, _ :: _, [] => none
  | acc, b :: bs, x :: xs =>
    match (d.scene (recordedLayer r acc start)).replayBarge b x with
    | none => none
    | some rs => d.replayBarges q r start
        (acc ++ [⟨q, bytesAt b 12 4, 0, rs.map (fun r => newRec r d.tb3), sha384 b, false, none, none⟩]) bs xs

/-- Check 5 of R229: the table and the grids the record names are loaded with matching digests.
DESIGN CHOICE (log entry 25). -/
def Dev.replayLoaded (d : Dev) (items : List (Nat × List Byte)) : Bool :=
  let tabs := piecesOf 52 4 (itemsOf 2 items)
  let grids := piecesOf 56 16 (itemsOf 3 items)
  tabs.all (fun t => match d.table (bytesAt t 0 4) with
    | some x => x.digest == t.drop 4
    | none => false) &&
  grids.all (fun g => match (d.beamGrids (bytesAt g 0 1)).active with
    | some x => x.id == bytesAt g 4 4 && x.digest == g.drop 8
    | none => allZero (g.drop 4))

/-- The recorded events of the lock keeper, in the record's order. -/
def keeperEvents (items : List (Nat × List Byte)) : List (List Byte) :=
  (piecesOf 32 ((itemsOf 7 items).length / 32) (itemsOf 7 items)).filter (fun e =>
    bytesAt e 12 1 == 20 && decide (0x10 ≤ decisionCode e) && decide (decisionCode e ≤ 0x14))

/-- The decisions to impose: an assignment that a later RETURN took back is none (R227, R230). DESIGN CHOICE (log
entry 25). DESIGN CHOICE (log entry 25). -/
def recordedDecisions : List (List Byte) → List (List Byte) → List (List Byte)
  | acc, [] => acc
  | acc, e :: es =>
    if decisionCode e = 0x14 then
      let mine (x : List Byte) : Bool :=
        decisionCode x == 0x10 && decisionVec x == decisionVec e && decisionBeam x == decisionBeam e
      recordedDecisions (acc.reverse.eraseP mine).reverse es
    else recordedDecisions (acc ++ [e]) es

/-- An engine at the start of a replay: nothing planned or queued, no correction. -/
def Engine.bare (e : Engine) : Engine :=
  { e with
    queue := [], runs := [], tickQ := [], barrier := none, done := [], held := [], qpos := [], gather := none
    writes := [], store := [], notices := [], retries := [], stuck := none, stopping := false
    law := e.law.zero.clearHeld }

/-- The layer-start tick a replay sets: as R110 has it from the present tick. -/
def Dev.replayStart (d : Dev) : Nat :=
  d.tick + 401 + (List.range 18).foldl (fun m n => Nat.max m (d.dmax n)) 0

/-- The replay begins: what it sets aside is kept, the replay copy of the ledger is clear and has its layer start, and
engines and keeper are empty (R168, R228, R261). -/
def Dev.startReplay (d : Dev) (q : Req) (l : Layer) (events : List (List Byte)) : Dev :=
  let script := recordedDecisions [] events
  let r : Replay :=
    { req := q, script := script
      places := (script.filter (fun e => decisionCode e == 0x10)).map (fun e => (decisionBeam e, decisionWord e))
      imposed := 0, diverged := 0, skipped := 0, opened := d.lay.opened, active := d.lay.active
      engines := d.engines, keeper := d.keeper }
  { d with
    replay := some r
    lay := { d.lay with opened := [l], active := d.table l.ptab }
    engines := d.engines.map (fun e => { e.bare with next := d.tick + 1 })
    keeper := { Keeper.reset with peerQ := d.keeper.peerQ }
    ldg := { d.ldg with replay := d.ldg.replay.map (fun _ => (LCopy.cleared d.tb3).epoch d.tb3 true) } }

/-- A second replay while one runs completes STATE_REJECT. DESIGN CHOICE (log entry 25). -/
def cmdReplayLayer : Cmd where
  check d q := firstFail (shape q [] (some 64) 0 ++
    [deniedIf (d.lcState == 0), d.modeIs q [.service], (d.replay.isSome, stReject, 0)])
  effect q e d :=
    let m := e.data
    let r := e.blob.take (bytesAt m 16 4)
    let rows := piecesOf 16 (bytesAt m 6 2) (m.drop 64)
    let barges := cutBy (rows.map (fun x => bytesAt x 8 4)) (e.blob.drop (bytesAt m 16 4))
    let items := parseItems r.length ((r.drop 128).take (bytesAt r 80 4))
    if crc32c (m.take 60) ≠ bytesAt m 60 4 then d.fail q stCrc 0x0C21
    else if manifestBad m then d.fail q stMalformed 0x0C22
    else if !recordSigned r then d.fail q stDenied 0x0C23
    else match d.replayBarges q r d.replayStart [] barges (piecesOf 56 65535 (itemsOf 8 items)) with
      | none => d.fail q stMalformed 0x0C24
      | some bs =>
        if !d.replayLoaded items then d.fail q stLimit 0x0C25
        else d.startReplay q (recordedLayer r bs d.replayStart) (keeperEvents items)

/-- REPLAY_LAYER. `e.blob` is the record, then the barges, as read. The replay runs with the engines' and the keeper's
own commands, and completes once every vector has been run (R228, R230). -/
def execReplayLayer (r : Req) (e : Env) (s : State) : Host.Outcome State Fault Refusal :=
  s.command 0x0C20 cmdReplayLayer r e

end Sys2Proof.Machine
end

