-- ==== Sys2Proof/Machine/Rings.lean ====
section
/-! DEFINITION. The host rings (03): doorbells, descriptors, their order of execution, stream buffers,
interrupts and ring control (R71 to R102). -/

namespace Sys2Proof.Machine

/-! ## Opcodes -/

/-- Opcodes 0x01xx. -/
def cmdOfMode : Nat → Option Cmd
  | 0x01 => some cmdModeSet
  | _ => none

/-- Opcodes 0x02xx. -/
def cmdOfLayer : Nat → Option Cmd
  | 0x01 => some cmdLayerOpen
  | 0x02 => some cmdLayerStart
  | 0x03 => some cmdLayerDiscard
  | 0x80 => some cmdLayerQuery
  | _ => none

/-- Opcodes 0x03xx. -/
def cmdOfBarge : Nat → Option Cmd
  | 0x01 => some cmdBarge
  | _ => none

/-- Opcodes 0x04xx. -/
def cmdOfTable : Nat → Option Cmd
  | 0x01 => some cmdPtabLoad
  | 0x02 => some cmdPtabDrop
  | 0x80 => some cmdPtabQuery
  | _ => none

/-- Opcodes 0x05xx. -/
def cmdOfCalib : Nat → Option Cmd
  | 0x01 => some cmdGridLoad
  | 0x02 => some cmdCalMark
  | 0x03 => some cmdCalProbe
  | 0x04 => some cmdCalEdge
  | 0x05 => some cmdCalResid
  | 0x11 => some cmdLedgerClear
  | 0x21 => some cmdHeadJog
  | 0x22 => some cmdHeadMoor
  | 0x23 => some cmdPortSleep
  | 0x31 => some cmdTrimRun
  | 0x32 => some cmdTrimCommit
  | 0x33 => some cmdTrimLoad
  | 0x80 => some cmdGridQuery
  | 0x81 => some cmdResidQuery
  | 0x82 => some cmdPortQuery
  | 0x83 => some cmdTrimRead
  | 0x90 => some cmdLedgerRead
  | _ => none

/-- Opcodes 0x06xx. -/
def cmdOfMotion : Nat → Option Cmd
  | 0x01 => some cmdMotMove
  | 0x02 => some cmdMotRetune
  | 0x03 => some cmdMotStop
  | 0x04 => some cmdMotHome
  | 0x05 => some cmdMotEnable
  | 0x06 => some cmdMotRecoatSet
  | 0x07 => some cmdMotRecoatRun
  | 0x80 => some cmdMotQuery
  | _ => none

/-- Opcodes 0x07xx. -/
def cmdOfLight : Nat → Option Cmd
  | 0x01 => some cmdLedSet
  | 0x02 => some cmdBloomSet
  | 0x03 => some cmdLedRearm
  | 0x80 => some cmdLedQuery
  | _ => none

/-- Opcodes 0x08xx. -/
def cmdOfVision : Nat → Option Cmd
  | 0x01 => some cmdCamSensorSet
  | 0x02 => some cmdCamPipeSet
  | 0x03 => some cmdCamDefectLoad
  | 0x04 => some cmdCamTrigger
  | 0x05 => some cmdCamTapSet
  | 0x80 => some cmdCamQuery
  | 0x81 => some cmdCamI2cRead
  | _ => none

/-- Opcodes 0x09xx. -/
def cmdOfTime : Nat → Option Cmd
  | 0x01 => some cmdTimeBuildStart
  | 0x02 => some cmdTimeToutArm
  | 0x03 => some cmdTimeToutStop
  | 0x04 => some cmdTimeTb1Set
  | 0x05 => some cmdPtpAddrSet
  | 0x80 => some cmdTimeQuery
  | _ => none

/-- Opcodes 0x0Axx. -/
def cmdOfRecorder : Nat → Option Cmd
  | 0x01 => some cmdRecFlush
  | 0x02 => some cmdRecClear
  | 0x03 => some cmdMonSet
  | 0x04 => some cmdMonCapture
  | 0x05 => some cmdLifeReset
  | 0x80 => some cmdRecRead
  | 0x81 => some cmdLifeRead
  | 0x82 => some cmdWoramQuery
  | _ => none

/-- Opcodes 0x0Bxx. -/
def cmdOfFault : Nat → Option Cmd
  | 0x01 => some cmdFaultAck
  | 0x02 => some cmdFaultClear
  | 0x03 => some cmdFaultInject
  | 0x04 => some cmdFenceLift
  | 0x05 => some cmdErrLevel
  | 0x80 => some cmdFaultQuery
  | 0x81 => some cmdHistRead
  | _ => none

/-- Opcodes 0x0Cxx. -/
def cmdOfService : Nat → Option Cmd
  | 0x01 => some cmdLcAdvance
  | 0x02 => some cmdMbistRun
  | 0x03 => some cmdRepairStore
  | 0x20 => some cmdReplayLayer
  | 0x30 => some cmdLaneTest
  | 0x80 => some cmdBistQuery
  | _ => none

/-- Opcodes 0x0Dxx. -/
def cmdOfLink : Nat → Option Cmd
  | 0x01 => some cmdLinkRetrain
  | 0x02 => some cmdCalXresid
  | 0x80 => some cmdLinkQuery
  | _ => none

/-- The command of an opcode; none where the group or its command byte is not defined. -/
def cmdOf (op : Nat) : Option Cmd :=
  let c := op % 256
  match op / 256 with
  | 0x01 => cmdOfMode c
  | 0x02 => cmdOfLayer c
  | 0x03 => cmdOfBarge c
  | 0x04 => cmdOfTable c
  | 0x05 => cmdOfCalib c
  | 0x06 => cmdOfMotion c
  | 0x07 => cmdOfLight c
  | 0x08 => cmdOfVision c
  | 0x09 => cmdOfTime c
  | 0x0A => cmdOfRecorder c
  | 0x0B => cmdOfFault c
  | 0x0C => cmdOfService c
  | 0x0D => cmdOfLink c
  | _ => none

/-! ## Host reads that fail (R71, R82) -/

/-- HOST_LOST, while it does not stand already. DEDUCED (log entry 17). -/
def Dev.hostLost (d : Dev) : Dev :=
  if d.standing 28 1 then d else d.fault 28 1

/-- A doorbell poll or descriptor read failed; the sixteenth in succession loses the host. -/
def Dev.readFailed (d : Dev) (bit ring : Nat) : Dev :=
  let d := d.hifError bit ring
  let k := d.hif.fails + 1
  let d := { d with hif := { d.hif with fails := k } }
  if 15 < k then d.hostLost else d

/-- A descriptor read of ring n failed: it is made again after the next poll. DEDUCED (log entry 84). -/
def Dev.descFailed (d : Dev) (n : Nat) : Dev := (d.modRing n (fun r => { r with retry := true })).readFailed 2 n

/-- One of them succeeded. -/
def Dev.readGood (d : Dev) : Dev := { d with hif := { d.hif with fails := 0 } }

/-! ## Stream buffers (R96, R97) -/

/-- BUFFER_DESCRIPTOR: the checks of R96. -/
def bufferCheck (q : Req) : Option Failure :=
  firstFail [
    (q.flags &&& 0xFFFB != 0 || badArgs q [] || q.resultLen != 0 || q.resultAddr != 0, stMalformed, 0x0004),
    (q.dataAddr % 4096 != 0 || q.dataLen % 4096 != 0, stMalformed, 0x0005),
    (decide (q.dataLen < 4096) || decide (16777216 < q.dataLen), stMalformed, 0x0004)]

/-- A buffer is posted behind the others, and takes what its source holds. -/
def Dev.postBuffer (d : Dev) (q : Req) : Dev :=
  let d := d.launch q
  match bufferCheck q with
  | some (st, x) => d.fail q st x
  | none =>
    let b : Buf := ⟨q.idx, q.tag, reqIrq q, q.dataAddr, q.dataLen, 0, 0, 0⟩
    ((d.modRing q.ring (fun r => { r with bufs := r.bufs ++ [b] })).fillRing q.ring).pumpStaging

/-- BUFFER_DESCRIPTOR. -/
def execBufferDescriptor (r : Req) (_e : Env) (s : State) : Host.Outcome State Fault Refusal :=
  s.whenUp (fun d =>
    let q := { r with op := 0 }
    if !d.mayTake q then d
    else if d.ringType q.ring ≠ 3 then (d.launch q).fail q stMalformed 0x0003
    else d.postBuffer q)

/-- STREAM_FLUSH_TIMEOUT: FLUSH_US after the first record of the buffer being filled (R97). -/
def execStreamFlushTimeout (n : Fin 64) (s : State) : Host.Outcome State Fault Refusal :=
  s.on (fun d =>
    match (d.ring n).bufs with
    | b :: _ => if d.ringOn n && d.fld (HIF_RING_STREAM n) 16 16 != 0 && b.recs != 0 then d.closeBuf n stOk else d
    | [] => d)

/-! ## Descriptors (R77, R83 to R88) -/

/-- Check 3 of R84 on the bytes that no argument holds: 56 to 59, and DCRC where it is not checked. -/
def descBad (crcOn : Bool) (b : List Byte) : Bool :=
  bytesAt b 56 4 != 0 || (!crcOn && bytesAt b 60 4 != 0)

/-- Checks 1 to 3 of R84 that need the descriptor's bytes. -/
def Dev.descFail (d : Dev) (q : Req) (b : List Byte) : Option Failure :=
  let crcOn := d.bit (HIF_RING_OPT q.ring) 0
  firstFail [
    (crcOn && crc32c (b.take 60) != bytesAt b 60 4, stCrc, 0x0001),
    (q.op != 0 && (cmdOf q.op).isNone, stMalformed, 0x0002),
    (!groupOn q.op (d.ringType q.ring), stMalformed, 0x0003),
    (descBad crcOn b, stMalformed, 0x0004)]

/-- A fetched descriptor starts: it is checked, and takes its effect, or waits for its input data. -/
def Dev.startDesc (d : Dev) (q : Req) (b : List Byte) (e : Env) : Dev :=
  match d.descFail q b with
  | some (st, x) => (d.launch q).fail q st x
  | none =>
    match cmdOf q.op with
    | none => d.postBuffer q
    | some c =>
      let d := d.launch q
      match c.check d q with
      | some (st, x) => d.fail q st x
      | none =>
        if q.dataLen = 0 then c.effect q e d
        else { d with hif := { d.hif with waitData := d.hif.waitData ++ [q] } }

/-- The ring starts what it has fetched, in ring order, as far as it can. DESIGN CHOICE (log entry 16). -/
def Dev.pump (n : Nat) (e : Env) : Nat → Dev → Dev
  | 0, d => d
  | k + 1, d =>
    match (d.ring n).prefetch with
    | [] => d
    | (idx, b) :: rest =>
      let q := parseReq n idx b
      if d.canStart q then
        let d := d.modRing n (fun r => { r with prefetch := rest, sqHead := (r.sqHead + 1) % (2 * d.sqSize n) })
        Dev.pump n e k (d.startDesc q b e)
      else d

/-- A turn of a ring: at most 16 descriptors (R88). DEDUCED (log entry 14), DESIGN CHOICE (log entry 16). -/
def Dev.pumpRing (d : Dev) (n : Nat) (e : Env) : Dev := Dev.pump n e 16 d

/-- The first descriptor fetched and not started is one the ring stops at: nothing behind it is fetched (R77,
R107). -/
def Dev.headWaits (d : Dev) (n : Nat) : Bool :=
  match (d.ring n).prefetch with
  | [] => false
  | (idx, b) :: _ => d.needsWait (parseReq n idx b)

/-- The spill area stops the ring (R24, R99): it is full; on a STREAM ring, of completion entries alone, for
posting buffers frees what records take. -/
def Dev.spillStops (d : Dev) (n : Nat) : Bool :=
  let r := d.ring n
  r.spillFull && (d.ringType n != 3 || r.held.isEmpty)

/-- A ring is ready: a descriptor of it can be read, and there is room for it (R22, R24, R77, R82). -/
def Dev.ringReady (d : Dev) (n : Nat) : Bool :=
  let r := d.ring n
  let due := posDiff r.sqTail r.sqHead (d.sqSize n)
  d.hif.linkUp && d.bit HIF_DB_CTRL 31 && d.ringLive n && !d.spillStops n && !r.retry && !d.headWaits n
    && decide (r.prefetch.length < 16) && decide (r.prefetch.length < due)

/-- The ring whose descriptor is taken next: ready rings in round-robin order of ring number, at most 16
descriptors from one ring per turn (R88). DEDUCED (log entry 84). -/
def Dev.turnRing (d : Dev) : Option Nat :=
  let first := if d.hif.taken < 16 then d.hif.turn else d.hif.turn + 1
  ((List.range 64).map (fun i => (first + i) % 64)).find? d.ringReady

/-- The device reads this ring's next descriptor. -/
def Dev.fetches (d : Dev) (n : Nat) : Bool := d.turnRing == some n

/-- A descriptor of ring n has been taken in its turn. DEDUCED (log entry 84). -/
def Dev.tookTurn (d : Dev) (n : Nat) : Dev :=
  { d with hif := { d.hif with
    turn := n, taken := if n = d.hif.turn ∧ d.hif.taken < 16 then d.hif.taken + 1 else 1 } }

/-- DESCRIPTOR_READ_DONE: the next descriptor of ring n arrives, or its read has failed. The descriptor joins
those fetched, and the ring starts what it can. -/
def execDescriptorReadDone (n : Fin 64) (desc : Option (List Byte)) (e : Env) (s : State) :
    Host.Outcome State Fault Refusal :=
  s.whenUp (fun d =>
    if !d.fetches n then d
    else match desc with
      | none => (d.send (.aer true)).descFailed n
      | some b =>
        let d := (d.readGood).tookTurn n
        let r := d.ring n
        let idx := (r.sqHead + r.prefetch.length) % d.sqSize n
        (d.modRing n (fun r => { r with prefetch := r.prefetch ++ [(idx, (b ++ List.replicate 64 0).take 64)] })).pumpRing
          n e)

/-- DATA_READ_DONE: the input data of a command are in, or their read has failed (check 9 of R84). -/
def execDataReadDone (n : Fin 64) (idx : BitVec 16) (e : Env) (s : State) : Host.Outcome State Fault Refusal :=
  s.whenUp (fun d =>
    match d.hif.waitData.find? (fun q => q.ring == n.val && q.idx == idx.toNat) with
    | none => d
    | some q =>
      let d := { d with hif := { d.hif with waitData := d.hif.waitData.filter (fun x => x != q) } }
      match cmdOf q.op with
      | none => d
      | some c => (c.finish q e d).pumpRing n e)

/-! ## Doorbells (R78 to R82) -/

/-- A half of a doorbell word is well formed: the index below 2^k, and no bit that must be zero (R78, R81).
DEDUCED (log entry 17). -/
def halfOk (w genAt k : Nat) : Bool := decide (w % 2 ^ genAt < 2 ^ k) && decide (w < 2 ^ (genAt + 1))

/-- The position a half names. -/
def halfPos (w genAt size : Nat) : Nat := w % 2 ^ genAt + (if w.testBit genAt then size else 0)

/-- The SQ half of ring n's word. -/
def Dev.takeSq (d : Dev) (n w : Nat) : Dev :=
  let r := d.ring n
  let s := d.sqSize n
  let pos := halfPos w 16 s
  if halfOk w 16 (Nat.log2 s) && decide (posDiff pos r.sqHead s ≤ s) then
    d.modRing n (fun r => { r with sqTail := pos, badSq := none })
  else if r.badSq = some w then d
  else (d.modRing n (fun r => { r with badSq := some w })).hifError 0 n

/-- The CQ half of ring n's word; the spill area drains into what it frees. -/
def Dev.takeCq (d : Dev) (n w : Nat) : Dev :=
  let r := d.ring n
  let s := d.cqSize n
  let pos := halfPos w 20 s
  if halfOk w 20 (Nat.log2 s) && decide (posDiff r.cqTail pos s ≤ s) then
    Dev.drainSpill n r.spill.length (d.modRing n (fun r => { r with cqHead := pos, badCq := none }))
  else if r.badCq = some w then d
  else (d.modRing n (fun r => { r with badCq := some w })).hifError 0 n

/-- The rings in the order of this turn (R88). -/
def Dev.turnOrder (d : Dev) : List Nat := (List.range 64).map (fun i => (d.hif.turn + i) % 64)

/-- A host that was lost is back: spill areas drain, and held records move into buffers (R82, R99). -/
def Dev.hostBack (d : Dev) : Dev :=
  let d := (List.range 64).foldl (fun d n =>
    if (d.ring n).spill.isEmpty && (d.ring n).held.isEmpty then d
    else (Dev.drainSpill n (d.ring n).spill.length d).fillRing n) d
  if d.staged.isEmpty then d else d.pumpStaging

/-- A poll has been made: failed descriptor reads may be made again (R82). -/
def Dev.polled (d : Dev) : Dev := { d with rings := d.rings.map (fun (r : Ring) => { r with retry := false }) }

/-- A poll read the page: its word of every enabled ring is taken, and rings start what they have fetched.
DEDUCED (log entry 17). -/
def Dev.pollGood (d : Dev) (page : List Word64) (e : Env) : Dev :=
  let d := ((d.readGood).endCause 28 1).hostBack
  let d := (List.range 64).foldl (fun d n =>
    if d.ringOn n then
      let w := (page.getD n 0).toNat
      (d.takeSq n (w % 2 ^ 32)).takeCq n (w / 2 ^ 32)
    else d) d
  d.turnOrder.foldl (fun d n => d.pumpRing n e) d

/-- DOORBELL_POLL: the page as read, one word for each ring, or none where the read failed. The page is read
while polling is on and a ring is enabled. DEDUCED (log entry 17). -/
def execDoorbellPoll (page : Option (List Word64)) (e : Env) (s : State) : Host.Outcome State Fault Refusal :=
  s.whenUp (fun d =>
    if !d.bit HIF_DB_CTRL 31 || !(List.range 64).any (fun n => d.ringOn n) then d
    else match d.hif.linkUp, page with
      | true, some p => (d.polled).pollGood p e
      | true, none => ((d.polled).send (.aer true)).readFailed 1 0xFF
      | false, _ => (d.polled).readFailed 1 0xFF)

/-! ## Ring control (R73, R87, R98, R102) -/

/-- The ring stops fetching; a STREAM ring's buffers complete at once. Descriptors fetched and not started are
read again once the ring is enabled. DEDUCED (log entry 14). -/
def Dev.disableRing (d : Dev) (n : Nat) : Dev :=
  if !d.ringOn n then d
  else
    let stream := d.ringType n == 3
    let d := (d.setBit (HIF_RING_CTRL n) 31 false).modRing n (fun r => { r with prefetch := [] })
    if stream then
      (d.ring n).bufs.foldl (fun d b => d.closeBuf n (if b.recs = 0 then stAborted else stOk)) d
    else d

/-- The ring goes on: TYPE 0 and a reserved stream source keep it off. -/
def Dev.enableRing (d : Dev) (n : Nat) : Dev :=
  if d.ringType n = 0 ∨ (d.ringType n = 3 ∧ 7 ≤ d.fld (HIF_RING_STREAM n) 0 4) then d
  else ((d.setBit (HIF_RING_CTRL n) 31 true).fillRing n).pumpStaging

/-- RESET of a ring that is off with nothing in flight; ignored otherwise. DEDUCED (log entry 14). -/
def Dev.resetRing (d : Dev) (n : Nat) : Dev :=
  if d.ringOn n || !(d.ring n).inflight.isEmpty then d.hifError 9 n
  else (d.modRing n (fun _ => default)).wr (HIF_RING_DROP n) 0

/-- TYPE is taken while the ring is off; another TYPE while it is on is discarded. DEDUCED (log entry 15). -/
def Dev.typeRing (d : Dev) (n t : Nat) : Dev :=
  if !d.ringOn n then d.setFld (HIF_RING_CTRL n) 0 2 t
  else if t = d.ringType n then d else d.hifError 8 n

/-- A write of HIF_RINGn_CTRL: TYPE, then ENABLE, then RESET. DEDUCED (log entry 15). -/
def Dev.ringCtrl (d : Dev) (n : Nat) (w : Word) : Dev :=
  let on := d.ringOn n
  let d := d.typeRing n (w.get 0 2)
  let d := if !w.bit 31 then d.disableRing n else if on then d else d.enableRing n
  if w.bit 30 then d.resetRing n else d

/-- RING_ENABLE. -/
def execRingEnable (n : Fin 64) (type : Fin 4) (s : State) : Host.Outcome State Fault Refusal :=
  s.whenUp (fun d => d.ringCtrl n (BitVec.ofNat 32 (2 ^ 31 + type.val)))

/-- RING_DISABLE. -/
def execRingDisable (n : Fin 64) (s : State) : Host.Outcome State Fault Refusal :=
  s.whenUp (fun d => d.disableRing n)

/-- RING_RESET. -/
def execRingReset (n : Fin 64) (s : State) : Host.Outcome State Fault Refusal :=
  s.whenUp (fun d => d.resetRing n)

/-- BARRIER_ACK: the stop ends, and the ring goes on behind the barrier. -/
def execBarrierAck (n : Fin 64) (e : Env) (s : State) : Host.Outcome State Fault Refusal :=
  s.whenUp (fun d =>
    if d.barrierStop n then (d.setBit (HIF_BARRIER_STOP (n.val / 32)) (n.val % 32) false).pumpRing n e else d)

/-- LAYER_OPEN_WAIT_RELEASE: a layer has closed, and the LAYER_OPEN at the head of ring n executes (R107).
DESIGN CHOICE (log entry 16). -/
def execLayerOpenWaitRelease (n : Fin 64) (e : Env) (s : State) : Host.Outcome State Fault Refusal :=
  s.whenUp (fun d => if d.lay.opened.length < 2 then d.pumpRing n e else d)

/-! ## Interrupts (R100, R101) -/

/-- COALESCE_TIMEOUT: COAL_TIME after the oldest unsignalled entry. -/
def execCoalesceTimeout (n : Fin 64) (s : State) : Host.Outcome State Fault Refusal :=
  s.on (fun d => if (d.ring n).unsig ≠ 0 ∧ d.fld (HIF_RING_OPT n) 24 8 ≠ 0 then d.ringSignal n else d)

/-- MSIX_UNMASK: a pending message is sent. -/
def execMsixUnmask (v : Fin 256) (s : State) : Host.Outcome State Fault Refusal :=
  s.whenUp (fun d =>
    let bit : BitVec 256 := 1 <<< v.val
    let due := d.hif.msixPend.getLsbD v
    let d := { d with hif := { d.hif with
      msixMask := d.hif.msixMask &&& ~~~bit, msixPend := d.hif.msixPend &&& ~~~bit } }
    if due then d.send (.msix v) else d)

/-! ## The PCIe link (R70, R71, R82, R556) -/

/-- PCIE_LINK_UP. -/
def execPcieLinkUp (speed : Fin 6) (width : Fin 9) (s : State) : Host.Outcome State Fault Refusal :=
  s.whenUp (fun d => { d with hif := { d.hif with linkUp := true, linkSpeed := speed, linkWidth := width } })

/-- PCIE_LINK_DOWN: the data link is lost, and with it the host. -/
def execPcieLinkDown (s : State) : Host.Outcome State Fault Refusal :=
  s.whenUp (fun d =>
    if !d.hif.linkUp then d
    else ({ d with hif := { d.hif with linkUp := false, linkSpeed := 0, linkWidth := 0 } }).hostLost)

/-- HOST_READ_TIMEOUT: a read has no completion within 10 ms. It is reported through AER, and by the unit that
issued it. -/
def execHostReadTimeout (w : HostRead) (s : State) : Host.Outcome State Fault Refusal :=
  s.whenUp (fun d =>
    let d := d.send (.aer true)
    match w with
    | .doorbell =>
      if !d.bit HIF_DB_CTRL 31 || !(List.range 64).any (fun n => d.ringOn n) then d else (d.polled).readFailed 1 0xFF
    | .desc n => if d.fetches n then d.descFailed n else d
    | .data n idx =>
      match d.hif.waitData.find? (fun q => q.ring == n.val && q.idx == idx.toNat) with
      | none => d
      | some q =>
        let d := { d with hif := { d.hif with waitData := d.hif.waitData.filter (fun x => x != q) } }
        (d.hifError 3 n).fail q stTimeout 0x0009
    | .firmware =>
      match d.mode.fwLoad with
      | none => d
      | some t => ({ d with mode := { d.mode with fwLoad := none } }).fwStatus 4 stTimeout 0 t
    | .repairMap =>
      if d.mode.cur ≠ .configure ∨ d.mode.fwSup then d.mapRefused stReject else d.mapRefused stTimeout)

end Sys2Proof.Machine
end

