-- ==== Sys2Proof/Machine/Flags.lean ====
section
/-! DEFINITION. What the host reads in BAR0: the words the register bank holds, and the status words that
show the state (R9, R14, R15, R26, R43 to R45, R481). -/

namespace Sys2Proof.Machine

/-! ## Status words -/

/-- MODE_STATUS. -/
def Dev.modeStatus (d : Dev) : Nat :=
  let m := d.mode
  m.lastCause * 2 ^ 24 + m.boot * 2 ^ 16 + bitOf (m.changing || m.wakeReq.isSome) * 2 ^ 8 + m.prev.code * 16 + m.cur.code

/-- MODE_READY. -/
def Dev.modeReady (d : Dev) : Nat :=
  let m := d.mode
  bitOf m.fwSup + 2 * bitOf m.fwBe + 4 * bitOf m.fwVis + 8 * bitOf m.dram + 16 * bitOf m.repair
    + 32 * bitOf d.safeClear + 64 * bitOf (d.lcMode .build)

/-- SAFE_N is asserted: in reset, and in the safe state (R60, R474, R475). -/
def Dev.safeN (d : Dev) : Bool := d.mode.boot == 0 || d.safeState

/-- ERR_N is low: by a pulse or by the software level (R474). -/
def Dev.errN (d : Dev) : Bool := d.flt.pulse.isSome || !d.flt.level

/-- A lost-clear counter of the pages `lo` to `hi` is not zero. -/
def Dev.lostIn (d : Dev) (lo hi : Nat) : Bool :=
  d.regs.any (fun r => decide (0x8000 ≤ r.1 % 0x10000) && decide (lo ≤ r.1 / 0x10000) && decide (r.1 / 0x10000 ≤ hi)
    && r.2.get 0 16 != 0)

/-- The first and last page of each block of ID_LOSTCLR_SUM, from bit 1 on. -/
def lostBlocks : List (Nat × Nat) :=
  [(1, 1), (2, 2), (3, 3), (4, 7), (0x08, 0x19), (0x20, 0x20), (0x21, 0x21), (0x22, 0x23), (0x24, 0x25), (0x26, 0x27),
   (0x28, 0x29), (0x2A, 0x2A), (0x2B, 0x2B), (0x2C, 0x2C), (0x2D, 0x2D), (0x2E, 0x2E), (0x2F, 0x2F), (0x30, 0x30),
   (0x31, 0x31), (0x32, 0x32), (0x33, 0x33)]

/-- ID_LOSTCLR_SUM. -/
def Dev.lostSum (d : Dev) : Nat :=
  (lostBlocks.mapIdx (fun i b => if d.lostIn b.1 b.2 then 2 ^ (i + 1) else 0)).sum

/-- ID_LOSTCLR_BE. -/
def Dev.lostBe (d : Dev) : Nat :=
  ((List.range (nEngines d.variant)).map (fun n => if d.lostIn (8 + n) (8 + n) then 2 ^ n else 0)).sum

/-- HIF_LINK_STATUS. DEDUCED (log entry 18). -/
def Dev.linkStatus (d : Dev) : Nat := bitOf d.hif.linkUp * 1024 + d.hif.linkWidth * 16 + d.hif.linkSpeed

/-- HIF_RINGn_STATUS. -/
def Dev.ringStatus (d : Dev) (n : Nat) : Nat :=
  let r := d.ring n
  let s := d.sqSize n
  bitOf (d.ringLive n && d.bit HIF_DB_CTRL 31) * 2 ^ 31 + bitOf (d.barrierStop n) * 2 ^ 30 + bitOf r.spillFull * 2 ^ 29
    + Nat.min 4095 r.inflight.length * 2 ^ 17 + r.sqHead / s * 65536 + r.sqHead % s

/-- HIF_RINGn_CQ_TAIL. -/
def Dev.ringCqTail (d : Dev) (n : Nat) : Nat :=
  let r := d.ring n
  let s := d.cqSize n
  bitOf (decide (r.cqTail < s)) * 2 ^ 21 + r.cqTail / s * 2 ^ 20 + r.cqTail % s

/-- A mask of `n` bits, bit i set where `f i`. -/
def maskOf (n : Nat) (f : Nat → Bool) : Nat := ((List.range n).map (fun i => if f i then 2 ^ i else 0)).sum

/-- LAS_STATUS. -/
def Dev.lasStatus (d : Dev) : Nat :=
  bitOf d.scn.latch * 2 ^ 17 + bitOf d.scn.ilk * 65536 + maskOf 16 (fun b => (d.laser b).emit)

/-- SCN_STATUS. -/
def Dev.scnStatus (d : Dev) : Nat :=
  maskOf 16 (fun b => (d.port b).state == 3) + maskOf 16 (fun b => (d.port b).state == 2 || (d.port b).state == 3) * 65536

/-- VIS_STATUS. -/
def Dev.visStatus (d : Dev) : Nat :=
  maskOf 20 (fun p => (d.cam p).on && !d.fencedUnit (18 + camEngine p)) + maskOf 4 (fun k => d.fencedUnit (18 + k)) * 2 ^ 20

/-- LK_STATUS. DEDUCED (log entry 20). -/
def Dev.lkStatus (d : Dev) : Nat :=
  let st := if d.replay.isSome then 4 else match d.mode.cur with
    | .configure => 0 | .windDown => 0 | .standby => 1 | .service => 1 | .calibrate => 5 | .build => 2 | _ => 3
  st * 2 ^ 28 + (d.keeper.locks.map (fun q => q.queue.length)).sum

/-- LDG_STATUS. DEDUCED (log entry 20). -/
def Dev.ldgStatus (d : Dev) : Nat :=
  let st := if d.ldg.copy.isNone then 0 else if d.replay.isSome then 4 else if d.mode.cur = .build ∨ d.mode.cur = .hold then 2 else 1
  st * 2 ^ 28 + 2 * bitOf d.ldg.replay.isSome + bitOf d.ldg.copy.isSome

/-- MOT_STATUS. -/
def Dev.motStatus (d : Dev) : Nat :=
  maskOf 8 (fun a => (d.axis a).moving) + bitOf d.mot.seq.isSome * 2 ^ 24 + bitOf (d.recoated && d.mot.seq.isNone) * 2 ^ 25

/-- MOT_AXa_OFS. -/
def Dev.axOfs (d : Dev) (a : Nat) : Nat :=
  let o (k : Nat) : Nat := unsigned 16 ((d.axis a).chop.getD k default).ofs
  o 1 * 65536 + o 0

/-- REC_STATUS; a window load is complete at once. DEDUCED (log entry 31). -/
def Dev.recStatus (d : Dev) : Nat :=
  let r := d.rcd
  bitOf r.full * 2 ^ 31 + bitOf (d.bit REC_STATUS 30) * 2 ^ 30 + bitOf r.bypass * 2 ^ 29 + bitOf r.flushing * 2 ^ 28
    + Nat.min 8192 r.buf.length

/-- BYF_PORTp_STATE. -/
def Dev.byfPortWord (d : Dev) (p : Nat) : Nat :=
  let b := d.bport p
  let (v, k) := b.peer.getD (0, 0)
  b.state * 2 ^ 28 + b.polInv * 2 ^ 24 + b.laneMap * 65536 + v * 256 + k

/-- Words of the identity, once the key is derived (R509). DEDUCED (log entry 11). -/
def identityWord (page : Nat) : Option Nat :=
  let w (bs : List Byte) (at_ : Nat) : Option Nat := some (bytesAt bs (page - at_) 4)
  if 0x200 ≤ page ∧ page < 0x230 then w (beBytes 48 Config.pubX.toNat) 0x200
  else if 0x240 ≤ page ∧ page < 0x270 then w (beBytes 48 Config.pubY.toNat) 0x240
  else if 0x280 ≤ page ∧ page < 0x290 then w devIdBytes 0x280
  else none

/-- A word that shows the state rather than the bank; `i` is the first array index of its row. -/
def Dev.shown (d : Dev) (off i : Nat) : Option Nat :=
  let page := off / 0x10000
  let k := off % 0x10000
  if page = 0 then (if k = 0x10 then some d.lostSum else if k = 0x14 then some d.lostBe else none)
  else if page = 1 then (if k = 0 then some d.modeStatus else if k = 4 then some d.modeReady else none)
  else if page = 2 then (if 0x20 ≤ k ∧ k < 0x40 ∧ k ≠ 0x30 then some (d.rails.getD i 0) else none)
  else if page = 3 then
    if k = 0 then some d.linkStatus
    else if 0x1000 ≤ k ∧ k < 0x2000 then
      match k % 0x40 with
      | 0x20 => some (d.ringStatus i)
      | 0x24 => some (d.ringCqTail i)
      | 0x28 => some (d.ring i).spillBytes
      | 0x30 => some (d.ring i).inflight.length
      | _ => none
    else none
  else if 8 ≤ page ∧ page ≤ 0x19 then d.engWord (page - 8) k
  else if page = 0x20 then
    if k = 0 then some d.lkStatus
    else if 0x1000 ≤ k ∧ k < 0x5000 ∧ k % 0x100 = 8 then
      some ((d.rd off).toNat + Nat.min 4096 ((d.keeper.locks.getD i default).queue.length))
    else none
  else if page = 0x21 then (if k = 0 then some d.ldgStatus else none)
  else if page = 0x22 then
    if k = 0 then some d.scnStatus
    else if 0x1000 ≤ k ∧ k % 0x40 = 4 then some (d.portWord i)
    else if 0x1000 ≤ k ∧ k % 0x40 = 8 then some (if (d.port i).state = 3 then (d.port i).headId else 0)
    else none
  else if page = 0x24 then (if k = 0 then some d.lasStatus else none)
  else if page = 0x26 then (if k = 0 then some d.visStatus else none)
  else if page = 0x2A then
    if k = 0 then some d.motStatus
    else if 0x1000 ≤ k ∧ k < 0x1400 ∧ k % 0x80 = 0x30 then some (d.axState i)
    else if 0x1000 ≤ k ∧ k < 0x1400 ∧ k % 0x80 = 0x34 then some (d.axOfs i)
    else none
  else if page = 0x2C then
    if k = 0 then some ((d.rd off).toNat + bitOf d.time.tb2Run * 2 ^ 28)
    else if 0x100 ≤ k ∧ k < 0x120 then
      some (if k % 8 = 0 then d.base ((k - 0x100) / 8) else d.base ((k - 0x100) / 8) / 2 ^ 32)
    else none
  else if page = 0x2D then (if 0x1000 ≤ k ∧ k % 0x40 = 0 then some (d.byfPortWord i) else none)
  else if page = 0x2E then
    if k = 0 then some (d.liveWord 0) else if k = 4 then some (d.liveWord 1)
    else if k = 8 then some d.fencedWord else none
  else if page = 0x2F then
    if k = 0 then some d.recStatus else if k = 4 then some d.rcd.wptr else none
  else if page = 0x30 then (if k = 0 then some d.bistLc else none)
  else if page = 0x33 then (if d.bit MEAS_STATUS 8 then identityWord k else none)
  else none

/-! ## Reads (R9, R14, R26, R44) -/

/-- The live word at a BAR0 offset. -/
def Dev.readLive (d : Dev) (off : Nat) : Word :=
  match regRow off with
  | none =>
    if !isLostClear d.variant off then 0
    else if d.fencedBlock off then d.snapWord (off / 0x10000 - 8) off else d.rd off
  | some (r, i, _) =>
    if !r.present d.variant off i then 0
    else
      if d.fencedBlock off then d.snapWord (off / 0x10000 - 8) off
      else match d.shown off i with
        | some v => BitVec.ofNat 32 v
        | none => d.rd off

/-- The low words of 64-bit pairs (R44), as offset, count and stride. -/
def pairRows : List (Nat × Nat × Nat) :=
  [(MODE_FW_ADDR_LO, 1, 4), (HIF_DB_ADDR_LO, 1, 4), (HIF_BAR2_BASE_LO, 1, 4), (HIF_RING_SQ_BASE_LO 0, 64, 0x40),
   (HIF_RING_CQ_BASE_LO 0, 64, 0x40), (DRAM_BASIN_BASE_LO, 1, 4), (DRAM_UE_ADDR_LO, 1, 4), (LDG_BASE_LO, 1, 4),
   (LDG_RBASE_LO, 1, 4), (LDG_EPOCH_T_LO, 1, 4), (LAS_EMIT_TICK_LO 0, 16, 0x40), (TIME_TB1_EPOCH_LO, 1, 4),
   (TIME_TB_LO 0, 4, 8), (TIME_SNAP_LO 0, 4, 8), (TIME_TOUT_NEXT_LO 0, 8, 0x20), (TIME_TCAP_TB3_LO 0, 8, 0x20),
   (TIME_TCAP_TB1_LO 0, 8, 0x20), (FLT_HIST_D 0, 1, 4), (REC_SHADOW_D 0, 1, 4), (BIST_REPAIR_ADDR_LO, 1, 4),
   (MON_COUNT_LO 0, 32, 0x40), (MON_SUM_LO 0, 32, 0x40), (LT_BITS_LO 0, 64, 0x20)]

/-- The word at an offset is the low word of a pair. -/
def pairLow (off : Nat) : Bool :=
  pairRows.any (fun p => decide (p.1 ≤ off) && (off - p.1) % p.2.2 == 0 && decide ((off - p.1) / p.2.2 < p.2.1))

/-- What a BAR0 read of an aligned word answers: a high word answers the holding copy, once there is one.
DEDUCED (log entry 18). -/
def Dev.readReg (d : Dev) (off : Nat) : Word :=
  let here := match regRow off with | some (r, i, _) => r.present d.variant off i | none => false
  match (if 4 ≤ off && pairLow (off - 4) && !pairLow off && here then bankGet d.copies off else none) with
  | some w => w
  | none => d.readLive off

end Sys2Proof.Machine
end

