-- ==== Sys2Proof/Machine/Access.lean ====
section
/-! DEFINITION. Host accesses through BAR0 and BAR2 (R14, R15, R43, R44, R47, R72, R73). -/

namespace Sys2Proof.Machine

/-! ## Fields (R15, R43, R47) -/

/-- What a write does to one field: the register's new word, whether the field was refused, and the number of
bits or fields lost, with the lowest of them. -/
structure FieldWrite where
  w : Word
  refused : Bool
  lost : Nat
  last : Nat

/-- One field of a write of `val`. `hwMask` are the bits hardware writes in the same cycle, with the values
`hwVal`. `takes`: the mode admits RW fields. `clear`: it admits W1C fields. -/
def writeField (takes clear : Bool) (val hwMask hwVal : Word) (a : FieldWrite) (f : Field) : FieldWrite :=
  let v := val.get f.lo f.width
  let m := hwMask.get f.lo f.width
  let h := hwVal.get f.lo f.width
  let old := a.w.get f.lo f.width
  match f.acc with
  | .wo => a
  | .w1c =>
    let v' := if clear then v else 0
    let set := m &&& h
    let lost := BitVec.ofNat 32 (v' &&& set)
    { w := a.w.put f.lo f.width ((old &&& (2 ^ f.width - 1 - v' % 2 ^ f.width)) ||| set)
      refused := a.refused || (!clear && v != 0)
      lost := a.lost + popCount lost
      last := if lost = 0 then a.last else Nat.min a.last (f.lo + lowBit lost) }
  | .rw =>
    if m ≠ 0 then
      let w := a.w.put f.lo f.width (f.clamp.store f.width ((old &&& (2 ^ f.width - 1 - m)) ||| (m &&& h)))
      if takes then { a with w := w, lost := a.lost + 1, last := Nat.min a.last f.lo }
      else { a with w := w, refused := a.refused || v != old }
    else if takes then { a with w := a.w.put f.lo f.width (f.clamp.store f.width v) }
    else { a with refused := a.refused || v != old }

/-- The host's RW writes are admitted: in CONFIGURE, and in every mode by the host interface set-up block and
REC_CURSOR (R47). -/
def Dev.admitsWrite (d : Dev) (off : Nat) : Bool :=
  d.mode.cur == .configure || off / 0x10000 == 3 || off == REC_CURSOR

/-- TIME_ERR.HOLD_FLAG is written in CONFIGURE only (R404). -/
def Dev.clearsField (d : Dev) (off : Nat) (f : Field) : Bool :=
  !(off == TIME_ERR && f.lo == 8) || d.mode.cur == .configure

/-- Bits of HIF_ERR_STATUS that change from 0 to 1 signal (R101). DEDUCED (log entry 18). -/
def Dev.signalNew (d : Dev) (off : Nat) (old new : Word) : Dev :=
  if off = HIF_ERR_STATUS ∧ new &&& ~~~old ≠ 0 then d.signal 24 else d

/-- A write of the fields `fs` of a register. A write with a refused field raises WRITE_REFUSED. -/
def Dev.writeWord (d : Dev) (off : Nat) (lc : Bool) (fs : List Field) (val hwMask hwVal : Word) : Dev :=
  let old := d.rd off
  let a := fs.foldl (fun a f => writeField (d.admitsWrite off) (d.clearsField off f) val hwMask hwVal a f)
    ⟨old, false, 0, 32⟩
  let d := (d.wr off a.w).signalNew off old a.w
  let d := if lc then d.lostClear off a.lost a.last else d
  if a.refused then d.refuse off else d

/-! ## What a write brings about -/

/-- PTP is off: TB1 runs free (R403). -/
def Dev.ptpSwitch (d : Dev) : Dev :=
  if d.bit TIME_CFG 31 ∨ d.tb1State = 0 then d
  else (d.setTb1State 0).modTime (fun c => { c with gm := none, good := 0, bad := 0, settle := false })

/-- The Byoft ports follow BYF_CFG.EN: off, or training. -/
def Dev.byfSwitch (d : Dev) : Dev :=
  (List.range (nByoft d.variant)).foldl (fun d p =>
    if d.bit BYF_CFG 31 then
      (if (d.bport p).state = 0 then (d.sendTraining false p false).modBport p (fun (b : BPort) => { b with state := 1 }) else d)
    else if (d.bport p).state = 2 then d.byfLeave p 0 true
    else d.modBport p (fun (b : BPort) => { b with state := 0, peer := none })) d

/-- A register write whose register has no command of its own. DEDUCED (log entry 18). -/
def Dev.plainWrite (d : Dev) (off i : Nat) (r : RegRow) (val hwMask hwVal : Word) : Dev :=
  let page := off / 0x10000
  let k := off % 0x10000
  if 8 ≤ page ∧ page ≤ 0x19 ∧ d.fencedUnit (page - 8) then d
  else if page = 3 ∧ 0x1000 ≤ k ∧ d.ringOn i then d.hifError 8 i
  else if page = 0x20 ∧ 0x1000 ≤ k ∧ d.lockValid i ∧ k % 0x100 ≠ 8 then
    let bad := d.setBit LK_ERR 8 true
    if d.mode.cur = .configure then bad else bad.writeWord off r.lc r.fields val hwMask hwVal
  else
    let d := d.writeWord off r.lc r.fields val hwMask hwVal
    if off = TIME_CFG then d.ptpSwitch
    else if off = BYF_CFG then d.byfSwitch
    else d

/-! ## BAR0 -/

/-- CLR of a lost-clear counter zeroes it; what hardware loses in the same cycle stands (R43). A fenced block takes no
write (R481). DEDUCED (log entry 18). -/
def Dev.lostClearWrite (d : Dev) (off : Nat) (val : Word) (inc last : Nat) : Dev :=
  if d.fencedBlock off then d
  else
  let d := if val.bit 31 then d.wr off 0 else d
  d.lostClear (off - 0x8000) inc last

/-- A write of MODE_CTRL: each of its fields acts. -/
def Dev.modeCtrl (d : Dev) (val : Word) : Dev :=
  let d := if val.bit 2 then d.causeClr 0 else d
  let d := if val.bit 1 then d.safeReq else d
  d.softKey (BitVec.ofNat 16 (val.get 16 16))

/-- A command over the state. -/
abbrev Meaning := State → Host.Outcome State Fault Refusal

/-- The registers that stand alone and have a command of their own. -/
def ownSingles (val : Word) : List (Nat × Meaning) :=
  [(MODE_CTRL, fun s => s.whenUp (fun d => d.modeCtrl val)),
   (MODE_FW_CTRL, execFwLoadStart val),
   (DRAM_CTRL, fun s => if val.bit 31 then execDramTrain s else .next s),
   (DRAM_CNT_CLR, execDramCntClr val),
   (LK_CNT_CLR, execLkCntClr val),
   (LDG_CNT_CLR, execLdgCntClr val),
   (VIS_CNT_CLR, execVisCntClr val),
   (SCN_CNT_CLR, execScnCntClr val),
   (LAS_CNT_CLR, execLasCntClr val),
   (BYF_CNT_CLR, execByfCntClr val),
   (TIME_CNT_CLR, execTimeCntClr val),
   (TIME_SNAP_CTRL, fun s => if val.bit 0 then execTimeSnap s else .next s),
   (FLT_HIST_SEL, execHistSelect (Fin.ofNat 32 (val.get 0 5))),
   (REC_CURSOR, execRecCursorLoad val),
   (REC_SHADOW_SEL, execRecShadowSelect (Fin.ofNat 16 (val.get 0 4))),
   (BIST_MEM_SEL, execBistMemSelect (BitVec.ofNat 10 (val.get 0 10)))]

/-- Registers of an engine's block with a command of their own, by their offset k in it. -/
def ownEngine (n : Fin 18) (k i j : Nat) (val : Word) : Option Meaning :=
  if k = 8 then some (execBenMapWrite n val)
  else if k = 0x50 then some (execBenCntClr n val)
  else if k = 0xD4 then some (execMpCntClr n val)
  else if 0x2000 ≤ k then some (execRampTableWrite n (Fin.ofNat 32 i) (Fin.ofNat 33 j) val)
  else none

/-- Register arrays of the other blocks with a command of their own. -/
def ownArray (page k i j : Nat) (val : Word) : Option Meaning :=
  if page = 3 then
    (if 0x1000 ≤ k ∧ k % 0x40 = 0 then some (fun s => s.whenUp (fun d => d.ringCtrl i val)) else none)
  else if page = 0x20 then
    (if 0x1000 ≤ k ∧ k % 0x100 = 0 then some (execLockDefine (Fin.ofNat 64 i) val)
     else if 0x100 ≤ k ∧ k < 0x180 then some (execFadeWrite (Fin.ofNat 32 i) val) else none)
  else if page = 0x32 then
    (if k % 0x20 = 0 then some (execLaneCfgWrite (Fin.ofNat 64 i) val) else none)
  else if page = 0x2A then
    (if 0x4000 ≤ k then some (execSineTableWrite (Fin.ofNat 8 i) (Fin.ofNat 256 j) val) else none)
  else none

/-- The command that a write of this register is, where it has one; `i` and `j` are its array indices.
DEDUCED (log entry 19). -/
def ownWrite (off i j : Nat) (val : Word) : Option Meaning :=
  let page := off / 0x10000
  let k := off % 0x10000
  match bankGet (ownSingles val) off with
  | some f => some f
  | none =>
    if 8 ≤ page ∧ page ≤ 0x19 then ownEngine (Fin.ofNat 18 (page - 8)) k i j val else ownArray page k i j val

/-- Hardware updates RW fields of a register in the cycle of a host write of `val`: its values stand, the host's are
lost there, and what is left of the write carries the values that stand (R43). -/
def Dev.hwUpdate (d : Dev) (off : Nat) (r : RegRow) (val hwMask hwVal : Word) : Word × Dev :=
  let hit := r.fields.filter (fun f => f.acc == .rw && hwMask.get f.lo f.width != 0)
  if hit.isEmpty ∨ d.fencedBlock off then (val, d)
  else
    let w := (d.rd off &&& ~~~hwMask) ||| (hwVal &&& hwMask)
    let put (old : Word) (f : Field) : Word := old.put f.lo f.width (w.get f.lo f.width)
    let d' := d.wr off (hit.foldl put (d.rd off))
    (hit.foldl put val,
      if r.lc && d.admitsWrite off then d'.lostClear off hit.length ((hit.map (fun f => f.lo)).foldl Nat.min 32) else d')

/-- REGISTER_WRITE. A register that has a command of its own takes that command's effect. DEDUCED (log entry 18). -/
def execRegisterWrite (off : BitVec 25) (val hwMask hwVal : Word) (s : State) : Host.Outcome State Fault Refusal :=
  let o := off.toNat
  match regRow o with
  | none => s.whenUp (fun d => if isLostClear d.variant o then d.lostClearWrite o val 0 0 else d)
  | some (r, i, j) =>
    if o % 4 ≠ 0 ∨ !r.present s.dev.variant o i then s.whenUp id
    else match ownWrite o i j val with
      | some _ =>
        let (val, d) := s.dev.hwUpdate o r val hwMask hwVal
        (match ownWrite o i j val with
          | some f => f (if s.dev.mode.boot < 4 || s.dev.rcd.pfail then s else { s with dev := d })
          | none => .next s)
      | none => s.whenUp (fun d => d.plainWrite o i r val hwMask hwVal)

/-- W1C_CLEAR: the W1C fields of a register take a write of `val`; `hwSet` are the bits hardware sets in the same
cycle. -/
def execW1cClear (off : BitVec 25) (val hwSet : Word) (s : State) : Host.Outcome State Fault Refusal :=
  s.whenUp (fun d =>
    let o := off.toNat
    match regRow o with
    | none => d
    | some (r, i, _) =>
      let page := o / 0x10000
      if !r.present d.variant o i || (decide (8 ≤ page) && decide (page ≤ 0x19) && d.fencedUnit (page - 8)) then d
      else d.writeWord o r.lc (r.fields.filter (fun f => f.acc == .w1c)) val hwSet hwSet)

/-- LOST_CLEAR_CLR: a write of a lost-clear counter, with the increments hardware gives it in the same cycle and
the lowest bit lost. -/
def execLostClearClr (off : BitVec 25) (val : Word) (inc : Nat) (lastBit : Fin 32) (s : State) :
    Host.Outcome State Fault Refusal :=
  s.whenUp (fun d => if isLostClear d.variant off.toNat then d.lostClearWrite off.toNat val inc lastBit else d)

/-- LOW_WORD_READ, a read of the word at `off`: the low word of a pair captures its high word, and a high word answers
what was captured (R44). -/
def execLowWordRead (off : BitVec 25) (s : State) : Host.Outcome State Fault Refusal :=
  s.whenUp (fun d =>
    let o := off.toNat
    let d' := d.send (.regRead o (d.readReg o))
    if pairLow o then { d' with copies := bankSet d.copies (o + 4) (d.readLive (o + 4)) } else d')

/-- BAR0_BAD_REQUEST: not executed; a write is reported through AER, a read answers Unsupported Request. -/
def execBar0BadRequest (isWrite : Bool) (s : State) : Host.Outcome State Fault Refusal :=
  s.whenUp (fun d => (d.send (if isWrite then .aer false else .unsupported)).hifError 10 0xFF)

/-! ## BAR2 (R72) -/

/-- The DRAM offset of a window address. DESIGN CHOICE (log entry 23). -/
def Dev.bar2At (d : Dev) (addr : BitVec 26) : Nat :=
  d.fld HIF_BAR2_BASE_LO 26 6 * 2 ^ 26 + d.fld HIF_BAR2_BASE_HI 0 4 * 2 ^ 32 + addr.toNat

/-- The byte range of an access that lies in installed and running DRAM. DESIGN CHOICE (log entry 53). -/
def Dev.dramHolds (d : Dev) (a : Nat) : Bool := decide (3 ≤ d.dramState) && decide (a < d.dramBytes)

/-- The offset lies in a ledger copy: the copy, with the offset in it (R242). -/
def Dev.ledgerAt (d : Dev) (a : Nat) : Option (Bool × Nat) :=
  let inside (b : Nat) : Bool := decide (b ≠ 0) && decide (b ≤ a) && decide (a < b + d.ldgBytes)
  if !d.bit LDG_CFG 31 then none
  else if inside d.ldgBase then some (false, a - d.ldgBase)
  else if inside d.ldgRbase then some (true, a - d.ldgRbase)
  else none

/-- The offset belongs to a region the device writes: the system area, the basin and the ledger copies (R242, R347,
R348). DESIGN CHOICE (log entry 23). -/
def Dev.dramManaged (d : Dev) (a : Nat) : Bool :=
  decide (a < 0x20000000) ||
  (decide (d.rd64 DRAM_BASIN_BASE_LO DRAM_BASIN_BASE_HI ≤ a) &&
    decide (a < d.rd64 DRAM_BASIN_BASE_LO DRAM_BASIN_BASE_HI + d.fld DRAM_BASIN_SIZE 0 15 * 2 ^ 20)) ||
  (d.ledgerAt a).isSome

/-- A byte of a stored correction grid, as it was loaded: beam b at b × 8 MiB of its 128 MiB, the active and the
pending grid, each with its mirror (R347, R359). None where no grid lies. DESIGN CHOICE (log entry 23). -/
def Dev.gridByte (d : Dev) (a : Nat) : Option Byte :=
  let o := a - 0x8000000
  let g := d.beamGrids (o / (8 * 2 ^ 20))
  let k := o % (2 * 2 ^ 20)
  if a < 0x8000000 ∨ 0x10000000 ≤ a then none
  else match (if o % (8 * 2 ^ 20) < 4 * 2 ^ 20 then g.active else g.pending) with
    | none => none
    | some g => if k < 64 then g.header[k]? else g.nodes[k - 64]?

/-- The directory entry of a tile (R240). DESIGN CHOICE (log entry 99). -/
def Dev.dirWord (d : Dev) (t : Tile) (tn : Nat) : Nat :=
  bitOf t.empty * 2 ^ 31 + bitOf t.poison * 2 ^ 30 + bitOf t.inexact * 2 ^ 29
    + bitOf ((List.range 8).any (fun v => d.tileInBand v tn)) * 2 ^ 28 + t.gen % 2 ^ 24

/-- A byte of a ledger copy (R242): of a tile whose latest state is still in the cache DRAM holds an older one, and
the cells of an empty tile hold what lay there. DESIGN CHOICE (log entry 99). -/
def Dev.ledgerByte (d : Dev) (rep : Bool) (o : Nat) : Option Byte :=
  let tn := if o < 4 * 2 ^ 20 then o / 4 else (o - 4 * 2 ^ 20) / 4096
  match d.copyOf rep with
  | none => none
  | some c =>
    let t := c.tile tn
    if d.ldgTx * d.ldgTy ≤ tn ∨ d.ldg.cache.any (fun p => p.1 == 2 * tn + bitOf rep && p.2) then none
    else if o < 4 * 2 ^ 20 then some (BitVec.ofNat 8 (d.dirWord t tn / 256 ^ (o % 4)))
    else if t.empty || t.poison then none
    else some (BitVec.ofNat 8 ((bankGet t.cells (o % 4096 / 4)).getD coldCell / 256 ^ (o % 4)))

/-- What the device's own structures hold at an offset, where the spec gives it byte by byte.
DESIGN CHOICE (log entry 23). -/
def Dev.knownByte (d : Dev) (a : Nat) : Option Byte :=
  match d.ledgerAt a with
  | some (rep, o) => d.ledgerByte rep o
  | none => d.gridByte a

/-- BAR2_READ: `len` bytes, of which those beyond installed DRAM, and all before DRAM is ready, are zero (R72, R362). In
a region the device writes, a byte whose contents the spec does not give is free (log entry 23). -/
def execBar2Read (addr : BitVec 26) (len : Nat) (ecc : Ecc) (s : State) : Host.Outcome State Fault Refusal :=
  if s.dev.mode.boot < 4 ∨ s.dev.rcd.pfail then .next s
  else
    let d := s.dev
    let a := d.bar2At addr
    if ecc = .uncorrectable ∧ d.dramHolds a ∧ d.mode.dram then
      .next { s with dev := (d.send (.barRead a none)).hifError 7 0xFF }
    else
      let take (x : List Byte × Dev) (i : Nat) : List Byte × Dev :=
        if !d.dramHolds (a + i) || !d.mode.dram then (x.1 ++ [0], x.2)
        else if d.dramManaged (a + i) then
          match d.knownByte (a + i) with
          | some v => (x.1 ++ [v], x.2)
          | none => let (v, e) := x.2.free; (x.1 ++ [BitVec.ofNat 8 v], e)
        else (x.1 ++ [memRead s.mem (a + i)], x.2)
      let (bs, d) := (List.range len).foldl take ([], d)
      .next { s with dev := d.send (.barRead a (some bs)) }

/-- BAR2_WRITE: applied in CONFIGURE and SERVICE, where installed DRAM takes it; discarded otherwise. -/
def execBar2Write (addr : BitVec 26) (bytes : List Byte) (s : State) : Host.Outcome State Fault Refusal :=
  if s.dev.mode.boot < 4 ∨ s.dev.rcd.pfail then .next s
  else
    let d := s.dev
    let a := d.bar2At addr
    if d.mode.cur ≠ .configure ∧ d.mode.cur ≠ .service then .next { s with dev := d.hifError 6 0xFF }
    else if !d.dramHolds a then .next s
    else .next { s with mem := memWrite s.mem a (bytes.take (d.dramBytes - a)) }

end Sys2Proof.Machine
end

