-- ==== Sys2Proof/Machine/Dispatch.lean ====
section
/-! DEFINITION. One arm for each command. -/

namespace Sys2Proof.Machine

def exec (i : Instr) (s : State) : Host.Outcome State Fault Refusal :=
  match i with
  | .powerOnReset => Sys2Proof.Machine.execPowerOnReset s
  | .rstNReset lowNs => Sys2Proof.Machine.execRstNReset lowNs s
  | .perstNReset => Sys2Proof.Machine.execPerstNReset s
  | .softKey key => Sys2Proof.Machine.execSoftKey key s
  | .softwareResetFire => Sys2Proof.Machine.execSoftwareResetFire s
  | .resetReleaseBoot b => Sys2Proof.Machine.execResetReleaseBoot b s
  | .causeClr hwSet => Sys2Proof.Machine.execCauseClr hwSet s
  | .safeReq => Sys2Proof.Machine.execSafeReq s
  | .fwLoadStart ctrl => Sys2Proof.Machine.execFwLoadStart ctrl s
  | .fwLoadDone image => Sys2Proof.Machine.execFwLoadDone image s
  | .registerWrite off val hwMask hwVal => Sys2Proof.Machine.execRegisterWrite off val hwMask hwVal s
  | .w1cClear off val hwSet => Sys2Proof.Machine.execW1cClear off val hwSet s
  | .lostClearClr off val inc lastBit => Sys2Proof.Machine.execLostClearClr off val inc lastBit s
  | .lowWordRead off => Sys2Proof.Machine.execLowWordRead off s
  | .bar0BadRequest isWrite => Sys2Proof.Machine.execBar0BadRequest isWrite s
  | .bar2Read addr len ecc => Sys2Proof.Machine.execBar2Read addr len ecc s
  | .bar2Write addr bytes => Sys2Proof.Machine.execBar2Write addr bytes s
  | .ringEnable n type => Sys2Proof.Machine.execRingEnable n type s
  | .ringDisable n => Sys2Proof.Machine.execRingDisable n s
  | .ringReset n => Sys2Proof.Machine.execRingReset n s
  | .barrierAck n e => Sys2Proof.Machine.execBarrierAck n e s
  | .doorbellPoll page e => Sys2Proof.Machine.execDoorbellPoll page e s
  | .descriptorReadDone n desc e => Sys2Proof.Machine.execDescriptorReadDone n desc e s
  | .dataReadDone n idx e => Sys2Proof.Machine.execDataReadDone n idx e s
  | .pcieLinkDown => Sys2Proof.Machine.execPcieLinkDown s
  | .coalesceTimeout n => Sys2Proof.Machine.execCoalesceTimeout n s
  | .streamFlushTimeout n => Sys2Proof.Machine.execStreamFlushTimeout n s
  | .bufferDescriptor r e => Sys2Proof.Machine.execBufferDescriptor r e s
  | .modeSet r e => Sys2Proof.Machine.execModeSet r e s
  | .modeSetWaitRelease e => Sys2Proof.Machine.execModeSetWaitRelease e s
  | .finishLimitExpiry => Sys2Proof.Machine.execFinishLimitExpiry s
  | .safePointReached e => Sys2Proof.Machine.execSafePointReached e s
  | .layerOpen r e => Sys2Proof.Machine.execLayerOpen r e s
  | .layerOpenWaitRelease n e => Sys2Proof.Machine.execLayerOpenWaitRelease n e s
  | .layerStart r e => Sys2Proof.Machine.execLayerStart r e s
  | .layerStartTick => Sys2Proof.Machine.execLayerStartTick s
  | .startWaitTimeout => Sys2Proof.Machine.execStartWaitTimeout s
  | .layerEnd => Sys2Proof.Machine.execLayerEnd s
  | .bargeWaitTimeout => Sys2Proof.Machine.execBargeWaitTimeout s
  | .layerDiscard r e => Sys2Proof.Machine.execLayerDiscard r e s
  | .layerQuery r e => Sys2Proof.Machine.execLayerQuery r e s
  | .barge r e => Sys2Proof.Machine.execBarge r e s
  | .basinSpaceFetch n idx e => Sys2Proof.Machine.execBasinSpaceFetch n idx e s
  | .bargeDispatch => Sys2Proof.Machine.execBargeDispatch s
  | .lockQueueRoom ix => Sys2Proof.Machine.execLockQueueRoom ix s
  | .ptabLoad r e => Sys2Proof.Machine.execPtabLoad r e s
  | .ptabDrop r e => Sys2Proof.Machine.execPtabDrop r e s
  | .ptabQuery r e => Sys2Proof.Machine.execPtabQuery r e s
  | .benMapWrite n val => Sys2Proof.Machine.execBenMapWrite n val s
  | .rampTableWrite n t ix val => Sys2Proof.Machine.execRampTableWrite n t ix val s
  | .benCntClr n val => Sys2Proof.Machine.execBenCntClr n val s
  | .mpCntClr n val => Sys2Proof.Machine.execMpCntClr n val s
  | .tickStrobe t => Sys2Proof.Machine.execTickStrobe t s
  | .fbCutoff n p => Sys2Proof.Machine.execFbCutoff n p s
  | .enginePlan n k => Sys2Proof.Machine.execEnginePlan n k s
  | .residueMismatch n => Sys2Proof.Machine.execResidueMismatch n s
  | .islandEccError n kind => Sys2Proof.Machine.execIslandEccError n kind s
  | .barrierRelease => Sys2Proof.Machine.execBarrierRelease s
  | .vectorOutcome n => Sys2Proof.Machine.execVectorOutcome n s
  | .dryTimeReport n => Sys2Proof.Machine.execDryTimeReport n s
  | .spareTakeoverDone b => Sys2Proof.Machine.execSpareTakeoverDone b s
  | .lkCycle => Sys2Proof.Machine.execLkCycle s
  | .unitCommit n => Sys2Proof.Machine.execUnitCommit n s
  | .half1Commit n => Sys2Proof.Machine.execHalf1Commit n s
  | .trackExpiry => Sys2Proof.Machine.execTrackExpiry s
  | .lockDefine ix val => Sys2Proof.Machine.execLockDefine ix val s
  | .fadeWrite ix val => Sys2Proof.Machine.execFadeWrite ix val s
  | .lkCntClr val => Sys2Proof.Machine.execLkCntClr val s
  | .replayLayer r e => Sys2Proof.Machine.execReplayLayer r e s
  | .lookaheadRead n => Sys2Proof.Machine.execLookaheadRead n s
  | .ledgerUpdate n => Sys2Proof.Machine.execLedgerUpdate n s
  | .ledgerLossNotice n => Sys2Proof.Machine.execLedgerLossNotice n s
  | .epochStart => Sys2Proof.Machine.execEpochStart s
  | .ldgCntClr val => Sys2Proof.Machine.execLdgCntClr val s
  | .ledgerClear r e => Sys2Proof.Machine.execLedgerClear r e s
  | .ledgerRead r e => Sys2Proof.Machine.execLedgerRead r e s
  | .featureArrival p => Sys2Proof.Machine.execFeatureArrival p s
  | .gridLoad r e => Sys2Proof.Machine.execGridLoad r e s
  | .gridCommit b => Sys2Proof.Machine.execGridCommit b s
  | .calMark r e => Sys2Proof.Machine.execCalMark r e s
  | .calProbe r e => Sys2Proof.Machine.execCalProbe r e s
  | .calEdge r e => Sys2Proof.Machine.execCalEdge r e s
  | .calResid r e => Sys2Proof.Machine.execCalResid r e s
  | .gridQuery r e => Sys2Proof.Machine.execGridQuery r e s
  | .residQuery r e => Sys2Proof.Machine.execResidQuery r e s
  | .cameraTrigger p => Sys2Proof.Machine.execCameraTrigger p s
  | .csiFrameStart p => Sys2Proof.Machine.execCsiFrameStart p s
  | .csiLongPacket p k => Sys2Proof.Machine.execCsiLongPacket p k s
  | .csiFrameEnd p => Sys2Proof.Machine.execCsiFrameEnd p s
  | .frameTimeout p => Sys2Proof.Machine.execFrameTimeout p s
  | .frameStartTimeout p => Sys2Proof.Machine.execFrameStartTimeout p s
  | .i2cWriteStart c => Sys2Proof.Machine.execI2cWriteStart c s
  | .i2cWriteEnd c nack => Sys2Proof.Machine.execI2cWriteEnd c nack s
  | .i2cSetTimeout c => Sys2Proof.Machine.execI2cSetTimeout c s
  | .camSensorSet r e => Sys2Proof.Machine.execCamSensorSet r e s
  | .camPipeSet r e => Sys2Proof.Machine.execCamPipeSet r e s
  | .camDefectLoad r e => Sys2Proof.Machine.execCamDefectLoad r e s
  | .camTrigger r e => Sys2Proof.Machine.execCamTrigger r e s
  | .camTapSet r e => Sys2Proof.Machine.execCamTapSet r e s
  | .camQuery r e => Sys2Proof.Machine.execCamQuery r e s
  | .camI2cRead r e => Sys2Proof.Machine.execCamI2cRead r e s
  | .visCntClr val => Sys2Proof.Machine.execVisCntClr val s
  | .feedbackFrame b f => Sys2Proof.Machine.execFeedbackFrame b f s
  | .feedbackWindowEnd b => Sys2Proof.Machine.execFeedbackWindowEnd b s
  | .trainingComplete p t => Sys2Proof.Machine.execTrainingComplete p t s
  | .trainingTimeout p => Sys2Proof.Machine.execTrainingTimeout p s
  | .headResponse b rsp data => Sys2Proof.Machine.execHeadResponse b rsp data s
  | .headCmdTimeout b => Sys2Proof.Machine.execHeadCmdTimeout b s
  | .enumRetry b => Sys2Proof.Machine.execEnumRetry b s
  | .wakeComplete b ok => Sys2Proof.Machine.execWakeComplete b ok s
  | .headJog r e => Sys2Proof.Machine.execHeadJog r e s
  | .headMoor r e => Sys2Proof.Machine.execHeadMoor r e s
  | .portSleep r e => Sys2Proof.Machine.execPortSleep r e s
  | .portQuery r e => Sys2Proof.Machine.execPortQuery r e s
  | .laneTest r e => Sys2Proof.Machine.execLaneTest r e s
  | .laneInject l => Sys2Proof.Machine.execLaneInject l s
  | .laneCfgWrite l val => Sys2Proof.Machine.execLaneCfgWrite l val s
  | .scnCntClr val => Sys2Proof.Machine.execScnCntClr val s
  | .lasCntClr val => Sys2Proof.Machine.execLasCntClr val s
  | .safeMoorHoldExpiry => Sys2Proof.Machine.execSafeMoorHoldExpiry s
  | .ilkNLow => Sys2Proof.Machine.execIlkNLow s
  | .ilkNHigh => Sys2Proof.Machine.execIlkNHigh s
  | .emitReadback b level => Sys2Proof.Machine.execEmitReadback b level s
  | .dramTrain => Sys2Proof.Machine.execDramTrain s
  | .dramTrainDone t => Sys2Proof.Machine.execDramTrainDone t s
  | .dramRequest arrive sc => Sys2Proof.Machine.execDramRequest arrive sc s
  | .dramTimeout sc => Sys2Proof.Machine.execDramTimeout sc s
  | .refresh r => Sys2Proof.Machine.execRefresh r s
  | .mr4Poll hot => Sys2Proof.Machine.execMr4Poll hot s
  | .powerDownEntry r => Sys2Proof.Machine.execPowerDownEntry r s
  | .scrubRead off ecc => Sys2Proof.Machine.execScrubRead off ecc s
  | .dramCntClr val => Sys2Proof.Machine.execDramCntClr val s
  | .topo p t => Sys2Proof.Machine.execTopo p t s
  | .memberLost d => Sys2Proof.Machine.execMemberLost d s
  | .timeSyncInterval => Sys2Proof.Machine.execTimeSyncInterval s
  | .timeSync via t1 step => Sys2Proof.Machine.execTimeSync via t1 step s
  | .timeReply p t1 t2 t3 t4 => Sys2Proof.Machine.execTimeReply p t1 t2 t3 t4 s
  | .modeNote via m cause => Sys2Proof.Machine.execModeNote via m cause s
  | .qtime via q => Sys2Proof.Machine.execQtime via q s
  | .xassign via x => Sys2Proof.Machine.execXassign via x s
  | .xack via vec => Sys2Proof.Machine.execXack via vec s
  | .xdevAckTimeout d vec => Sys2Proof.Machine.execXdevAckTimeout d vec s
  | .xsync via vec t => Sys2Proof.Machine.execXsync via vec t s
  | .xcommitReq via x => Sys2Proof.Machine.execXcommitReq via x s
  | .xcommitRsp via vec shift => Sys2Proof.Machine.execXcommitRsp via vec shift s
  | .xprogress via vec arc t final => Sys2Proof.Machine.execXprogress via vec arc t final s
  | .bandUpd via x y nj t => Sys2Proof.Machine.execBandUpd via x y nj t s
  | .bandLoss via x y => Sys2Proof.Machine.execBandLoss via x y s
  | .forwardedEvent via v => Sys2Proof.Machine.execForwardedEvent via v s
  | .progress via t => Sys2Proof.Machine.execProgress via t s
  | .testReq p l answer => Sys2Proof.Machine.execTestReq p l answer s
  | .resid via x => Sys2Proof.Machine.execResid via x s
  | .flitNak p sent seq => Sys2Proof.Machine.execFlitNak p sent seq s
  | .flitReplayTimeout p seq => Sys2Proof.Machine.execFlitReplayTimeout p seq s
  | .linkRetrain r e => Sys2Proof.Machine.execLinkRetrain r e s
  | .calXresid r e => Sys2Proof.Machine.execCalXresid r e s
  | .linkQuery r e => Sys2Proof.Machine.execLinkQuery r e s
  | .byfCntClr val => Sys2Proof.Machine.execByfCntClr val s
  | .tb3Compare peersOpen => Sys2Proof.Machine.execTb3Compare peersOpen s
  | .tb3StepApply => Sys2Proof.Machine.execTb3StepApply s
  | .ptpSync p => Sys2Proof.Machine.execPtpSync p s
  | .ptpSyncLoss => Sys2Proof.Machine.execPtpSyncLoss s
  | .gmSettleExpiry => Sys2Proof.Machine.execGmSettleExpiry s
  | .ethLinkLoss p => Sys2Proof.Machine.execEthLinkLoss p s
  | .toutEdge ix => Sys2Proof.Machine.execToutEdge ix s
  | .tcapEdge ix rising sub stepped => Sys2Proof.Machine.execTcapEdge ix rising sub stepped s
  | .timeSnap => Sys2Proof.Machine.execTimeSnap s
  | .timeCntClr val => Sys2Proof.Machine.execTimeCntClr val s
  | .refclkBad => Sys2Proof.Machine.execRefclkBad s
  | .timeBuildStart r e => Sys2Proof.Machine.execTimeBuildStart r e s
  | .timeToutArm r e => Sys2Proof.Machine.execTimeToutArm r e s
  | .timeToutStop r e => Sys2Proof.Machine.execTimeToutStop r e s
  | .timeTb1Set r e => Sys2Proof.Machine.execTimeTb1Set r e s
  | .ptpAddrSet r e => Sys2Proof.Machine.execPtpAddrSet r e s
  | .timeQuery r e => Sys2Proof.Machine.execTimeQuery r e s
  | .profileUpdate => Sys2Proof.Machine.execProfileUpdate s
  | .chopperCrossing a ph upper ns first => Sys2Proof.Machine.execChopperCrossing a ph upper ns first s
  | .phaseOpen a ph => Sys2Proof.Machine.execPhaseOpen a ph s
  | .holdCurrentTimer a => Sys2Proof.Machine.execHoldCurrentTimer a s
  | .debouncedInputEdge a k level chatter => Sys2Proof.Machine.execDebouncedInputEdge a k level chatter s
  | .coarseStepEdge a dir ns => Sys2Proof.Machine.execCoarseStepEdge a dir ns s
  | .encoderCheck a => Sys2Proof.Machine.execEncoderCheck a s
  | .recoatStepStart => Sys2Proof.Machine.execRecoatStepStart s
  | .motMove r e => Sys2Proof.Machine.execMotMove r e s
  | .motRetune r e => Sys2Proof.Machine.execMotRetune r e s
  | .motStop r e => Sys2Proof.Machine.execMotStop r e s
  | .motHome r e => Sys2Proof.Machine.execMotHome r e s
  | .motEnable r e => Sys2Proof.Machine.execMotEnable r e s
  | .motRecoatSet r e => Sys2Proof.Machine.execMotRecoatSet r e s
  | .motRecoatRun r e => Sys2Proof.Machine.execMotRecoatRun r e s
  | .motQuery r e => Sys2Proof.Machine.execMotQuery r e s
  | .sineTableWrite a ix val => Sys2Proof.Machine.execSineTableWrite a ix val s
  | .ledPeriodStart c => Sys2Proof.Machine.execLedPeriodStart c s
  | .bloomUpdate k => Sys2Proof.Machine.execBloomUpdate k s
  | .strobeWindow c opens => Sys2Proof.Machine.execStrobeWindow c opens s
  | .ledDerate c => Sys2Proof.Machine.execLedDerate c s
  | .ledDiagnostic c onSample offSample => Sys2Proof.Machine.execLedDiagnostic c onSample offSample s
  | .ledSet r e => Sys2Proof.Machine.execLedSet r e s
  | .bloomSet r e => Sys2Proof.Machine.execBloomSet r e s
  | .ledRearm r e => Sys2Proof.Machine.execLedRearm r e s
  | .ledQuery r e => Sys2Proof.Machine.execLedQuery r e s
  | .bandgapCompare mv2 => Sys2Proof.Machine.execBandgapCompare mv2 s
  | .ntcConvert n code => Sys2Proof.Machine.execNtcConvert n code s
  | .trimRun r e => Sys2Proof.Machine.execTrimRun r e s
  | .trimCommit r e => Sys2Proof.Machine.execTrimCommit r e s
  | .trimLoad r e => Sys2Proof.Machine.execTrimLoad r e s
  | .trimRead r e => Sys2Proof.Machine.execTrimRead r e s
  | .faultDetected f => Sys2Proof.Machine.execFaultDetected f s
  | .safeWorkSettle => Sys2Proof.Machine.execSafeWorkSettle s
  | .ghostTraffic u count => Sys2Proof.Machine.execGhostTraffic u count s
  | .errNPulseEnd => Sys2Proof.Machine.execErrNPulseEnd s
  | .thermalSample t => Sys2Proof.Machine.execThermalSample t s
  | .supply r mv low high => Sys2Proof.Machine.execSupply r mv low high s
  | .pfailNLow => Sys2Proof.Machine.execPfailNLow s
  | .pfailNHigh => Sys2Proof.Machine.execPfailNHigh s
  | .lockstep pair kind => Sys2Proof.Machine.execLockstep pair kind s
  | .watchdog => Sys2Proof.Machine.execWatchdog s
  | .histSelect k => Sys2Proof.Machine.execHistSelect k s
  | .faultInjectFire realToo => Sys2Proof.Machine.execFaultInjectFire realToo s
  | .faultAck r e => Sys2Proof.Machine.execFaultAck r e s
  | .faultClear r e => Sys2Proof.Machine.execFaultClear r e s
  | .faultInject r e => Sys2Proof.Machine.execFaultInject r e s
  | .fenceLift r e => Sys2Proof.Machine.execFenceLift r e s
  | .errLevel r e => Sys2Proof.Machine.execErrLevel r e s
  | .faultQuery r e => Sys2Proof.Machine.execFaultQuery r e s
  | .histRead r e => Sys2Proof.Machine.execHistRead r e s
  | .eventMergeRelease => Sys2Proof.Machine.execEventMergeRelease s
  | .noteFlushTimer => Sys2Proof.Machine.execNoteFlushTimer s
  | .flushComplete x => Sys2Proof.Machine.execFlushComplete x s
  | .recSramFail word => Sys2Proof.Machine.execRecSramFail word s
  | .recCursorLoad idx => Sys2Proof.Machine.execRecCursorLoad idx s
  | .recWin7Read => Sys2Proof.Machine.execRecWin7Read s
  | .recShadowSelect k => Sys2Proof.Machine.execRecShadowSelect k s
  | .monitorSample slot v => Sys2Proof.Machine.execMonitorSample slot v s
  | .recFlush r e => Sys2Proof.Machine.execRecFlush r e s
  | .recClear r e => Sys2Proof.Machine.execRecClear r e s
  | .monSet r e => Sys2Proof.Machine.execMonSet r e s
  | .monCapture r e => Sys2Proof.Machine.execMonCapture r e s
  | .lifeReset r e => Sys2Proof.Machine.execLifeReset r e s
  | .recRead r e => Sys2Proof.Machine.execRecRead r e s
  | .lifeRead r e => Sys2Proof.Machine.execLifeRead r e s
  | .woramQuery r e => Sys2Proof.Machine.execWoramQuery r e s
  | .lcAdvance r e => Sys2Proof.Machine.execLcAdvance r e s
  | .mbistRun r e => Sys2Proof.Machine.execMbistRun r e s
  | .repairStore r e => Sys2Proof.Machine.execRepairStore r e s
  | .bistQuery r e => Sys2Proof.Machine.execBistQuery r e s
  | .repairApply map => Sys2Proof.Machine.execRepairApply map s
  | .bistMemSelect id => Sys2Proof.Machine.execBistMemSelect id s
  | .scannerSymbolLockLoss b => Sys2Proof.Machine.execScannerSymbolLockLoss b s
  | .byoftPortFail p ecc => Sys2Proof.Machine.execByoftPortFail p ecc s
  | .laneErr p => Sys2Proof.Machine.execLaneErr p s
  | .pcieLinkUp speed width => Sys2Proof.Machine.execPcieLinkUp speed width s
  | .supplyRestored r mv => Sys2Proof.Machine.execSupplyRestored r mv s
  | .refclkRestored => Sys2Proof.Machine.execRefclkRestored s
  | .hostReadTimeout w => Sys2Proof.Machine.execHostReadTimeout w s
  | .msixUnmask v => Sys2Proof.Machine.execMsixUnmask v s
  | .prbsCheckerLock l errors bits => Sys2Proof.Machine.execPrbsCheckerLock l errors bits s
  | .quadratureEdge a ch up both => Sys2Proof.Machine.execQuadratureEdge a ch up both s
  | .ethFrameReceived p k => Sys2Proof.Machine.execEthFrameReceived p k s
  | .ptpTxInterval => Sys2Proof.Machine.execPtpTxInterval s

end Sys2Proof.Machine
end

