-- ==== Sys2Proof/Safety.lean ====
section
/-! DEFINITION. The terms the statements use: when a command of the host acts, what its checks pass on, and what
every state keeps. -/

namespace Sys2Proof

open Sys2Proof.Machine

/-- The device memory is in canonical form: offsets rise, and no zero is listed. -/
abbrev MemoryCanonical (s : State) : Prop := Memory.wf s.mem = true

/-- The device is out of reset: its own events act (R60, R61). -/
abbrev Awake (s : State) : Prop := s.dev.mode.boot ≠ 0

/-- The host reaches the device: boot step 4 or later, and no power-fail flush (R499, R556). -/
abbrev Up (s : State) : Prop := 4 ≤ s.dev.mode.boot ∧ s.dev.rcd.pfail = false

/-- The descriptor with the opcode of its row. -/
def asOp (op : Nat) (r : Req) : Req := { r with op := op }

/-- The device once the descriptor has joined its ring's work in flight (R86). -/
def started (s : State) (op : Nat) (r : Req) : Dev := s.dev.launch (asOp op r)

/-- A descriptor without input data starts and passes every check of R84: its ring is enabled, runs and is not stopped
(R77, R87), nothing before it holds it back (R86, R107), the ring's type accepts the group (R75), and the command's
own checks find nothing. -/
abbrev Takes (s : State) (op : Nat) (c : Cmd) (r : Req) : Prop :=
  Up s ∧ s.dev.mayTake (asOp op r) = true ∧ groupOn op (s.dev.ringType r.ring) = true ∧ r.dataLen = 0 ∧
    c.check (started s op r) (asOp op r) = none

/-- As `Takes`, for a descriptor whose input data have arrived. -/
abbrev TakesData (s : State) (op : Nat) (c : Cmd) (r : Req) (e : Env) : Prop :=
  Up s ∧ s.dev.mayTake (asOp op r) = true ∧ groupOn op (s.dev.ringType r.ring) = true ∧ r.dataLen ≠ 0 ∧
    e.dataFail = none ∧ c.check (started s op r) (asOp op r) = none

/-- The input data a command takes: as many bytes as it names. -/
def dataOf (r : Req) (e : Env) : List Byte := e.data.take r.dataLen

/-- The image as far as MODE_FW_LEN names it (R65). -/
def imageOf (s : State) (b : List Byte) : List Byte := b.take (s.dev.fld MODE_FW_LEN 0 23)

/-- The commands that may change the device memory: a host write through BAR2, a request to the DRAM controller, a
training (DRAM_TRAIN, or a write of DRAM_CTRL), and what resets the DRAM. -/
def touchesMemory : Instr → Bool
  | .bar2Write _ _ => true
  | .dramRequest _ _ => true
  | .dramTrain => true
  | .dramTrainDone _ => true
  | .registerWrite off _ _ _ => off.toNat == DRAM_CTRL
  | .powerOnReset => true
  | .rstNReset _ => true
  | .perstNReset => true
  | .softwareResetFire => true
  | .pfailNLow => true
  | _ => false

/-- Only the device changes: the memory and the waiting commands stay. -/
abbrev OnlyDevice (s t : State) : Prop := t.mem = s.mem ∧ t.pending = s.pending

/-- The commands that act in reset: the resets, and the release of it. -/
def actsInReset : Instr → Bool
  | .powerOnReset => true
  | .rstNReset _ => true
  | .perstNReset => true
  | .softwareResetFire => true
  | .resetReleaseBoot _ => true
  | _ => false

/-- The fuses as LC_ADVANCE leaves them: a service visit is entered in DEPLOYED and closed before the next, and nothing is
deployed that was not manufactured (R522, R523). -/
abbrev Machine.Fuses.sound (f : Fuses) : Prop :=
  f.returns ≤ f.entries ∧ f.entries ≤ f.returns + 1 ∧ f.entries ≤ 7 ∧ (f.deploy = false → f.entries = 0) ∧
    (f.deploy = true → f.manuf = true)

/-- A report is taken as it stands: its source is no fenced unit, and the report is neither the lost grid of an engine,
which underruns first, nor a tile of the ledger, which is poisoned once (R197, R265, R483). -/
def plainReport (d : Dev) (src cause : Nat) : Prop :=
  (∀ u, unitOfSource src = some u → d.fencedUnit u = false) ∧
    ¬ (2 ≤ src ∧ src - 2 < nEngines d.variant ∧ src ≤ 19 ∧ cause = 0x0B) ∧ ¬ (src = 21 ∧ cause = 2)

/-- The word a write of `val` leaves in a register of RW fields: each field by its limit (R15). -/
def storedWord (fs : List Field) (val old : Word) : Word :=
  fs.foldl (fun w f => w.put f.lo f.width (f.clamp.store f.width (val.get f.lo f.width))) old

/-- The register is none that its block treats in a way of its own: an engine's, which may be fenced, a ring's, a lock's,
TIME_CFG, BYF_CFG and HIF_ERR_STATUS, and it is a whole word. -/
abbrev ordinary (off : Nat) : Prop :=
  off % 4 = 0 ∧ off ≠ HIF_ERR_STATUS ∧ (off < 0x80000 ∨ 0x1A0000 ≤ off) ∧ ¬ (off / 0x10000 = 3 ∧ 0x1000 ≤ off % 0x10000) ∧
    ¬ (off / 0x10000 = 0x20 ∧ 0x1000 ≤ off % 0x10000) ∧ off ≠ TIME_CFG ∧ off ≠ BYF_CFG

end Sys2Proof
end

