-- ==== Sys2Proof/Certificates/Slice0/Obligations.lean ====
section
/-! DEFINITION. The statements for the provers. -/

open Sys2Proof Sys2Proof.Machine

/-- A step runs the command at the front of the queue on the state with the rest left to wait; on an empty queue the
block idles (the model's choice, log entry 1). -/
def Obligations.EveryStepRunsItsCommand : Prop :=
  (∀ (c : Instr) (s : State) (rest : List Instr), s.pending = c :: rest →
    step s = exec c { s with pending := rest }) ∧
  (∀ s : State, s.pending = [] → step s = .next s)

/-- Every command, in every state, answers a next state: no command of the device stops the machine. No command touches
the commands that wait. -/
def Obligations.EveryCommandGoesOn : Prop :=
  (∀ (c : Instr) (s : State), ∃ t, exec c s = .next t) ∧
  (∀ (c : Instr) (s t : State), exec c s = .next t → t.pending = s.pending)

/-- Memory changes only by a host write through BAR2, a request to the DRAM controller, a training, and what resets the
DRAM; every other command leaves every byte of it. -/
def Obligations.MemoryFrame : Prop :=
  ∀ (c : Instr) (s t : State), touchesMemory c = false → exec c s = .next t →
    ∀ a, memRead t.mem a = memRead s.mem a

/-- The memory keeps its canonical form through every step, from every state that has it. -/
def Obligations.MemoryStaysCanonical : Prop :=
  ∀ s t : State, MemoryCanonical s → step s = .next t → MemoryCanonical t

/-- The state right after reset: memory canonical and empty, nothing waiting, CONFIGURE before boot, and every register
at its reset value but MODE_RST_CAUSE, which holds the power-on cause (R57, R58). What the spec gives no value for, the
memory's bytes and the part's inputs among it, is the model's choice (log entries 3 and 53). -/
def Obligations.ResetState : Prop :=
  MemoryCanonical State.reset ∧ State.reset.mem = [] ∧ State.reset.pending = [] ∧
  State.reset.dev.mode.cur = .configure ∧ State.reset.dev.mode.boot = 0 ∧ State.reset.dev.flt.hist = [] ∧
  ∀ off, State.reset.dev.rd off = if off = MODE_RST_CAUSE then 1 else resetOf State.reset.dev.variant off

/-- While the device is in reset, only a reset and the release of it act. The resets (R57, R58, R59). A power-on reset
restores every register and keeps no history; the others set their bit of MODE_RST_CAUSE and keep the fault history, the
shadow log and their counts. RST_N must be low for 1 µs. -/
def Obligations.ResetsRestore : Prop :=
  (∀ (c : Instr) (s : State), s.dev.mode.boot = 0 → actsInReset c = false → exec c s = .next s) ∧
  (∀ s : State, ∃ t, exec .powerOnReset s = .next t ∧ t.mem = [] ∧ t.dev.mode = ModeCtl.reset ∧
    t.dev.flt = Faults.reset [] 0 ∧ t.dev.rcd.shadow = [] ∧
    ∀ off, t.dev.rd off = if off = MODE_RST_CAUSE then 1 else resetOf s.dev.variant off) ∧
  (∀ (c : Instr) (bit : Nat) (s : State),
    ((∃ ns, 1000 ≤ ns ∧ c = .rstNReset ns ∧ bit = 1) ∨ (c = .perstNReset ∧ bit = 2) ∨
      (c = .softwareResetFire ∧ s.dev.mode.softPending = true ∧ bit = 3)) →
    ∃ t, exec c s = .next t ∧ t.mem = [] ∧ t.dev.mode = ModeCtl.reset ∧
      t.dev.flt = Faults.reset s.dev.flt.hist s.dev.flt.seq ∧ t.dev.rcd.shadow = s.dev.rcd.shadow ∧
      t.dev.bist.fuses = s.dev.bist.fuses ∧
      t.dev.rd MODE_RST_CAUSE = (s.dev.rd MODE_RST_CAUSE).putBit bit true ∧
      t.dev.rd FLT_HIST_CNT = s.dev.rd FLT_HIST_CNT ∧ t.dev.rd REC_SHADOW_CNT = s.dev.rd REC_SHADOW_CNT ∧
      ∀ off, off ≠ MODE_RST_CAUSE → off ≠ FLT_HIST_CNT → off ≠ REC_SHADOW_CNT →
        t.dev.rd off = resetOf s.dev.variant off) ∧
  (∀ (ns : Nat) (s : State), ns < 1000 → exec (.rstNReset ns) s = .next s)

/-- Boot from the release of the last reset (R61), where the MRAM is found with a pointer: step 4 is reached, the fuses
are latched, DEV_ID and ILK_N are those of the pins, and the ports that are present train; a repair copy that checks is
in force (R531). Firmware (R63 to R67). START in CONFIGURE with a TYPE and no load running begins the fetch, with STATE
1. The end of a fetch of a beam engine or vision image (types 2 and 3) ends the load: an image that verifies is in
force, with STATE 3; any other leaves what is in force, with STATE 4 and the check that failed; a failed fetch reports
TIMEOUT, and through AER. A supervisor image that verifies is boot step 5 (R61): it lets CONTROL rings run. -/
def Obligations.BootAndFirmware : Prop :=
  (∀ (b : BootEnv) (s : State) (n : Nat), s.dev.mode.boot = 0 → s.dev.mode.cur = .configure →
    s.dev.bit FLT_PROMOTE1 5 = false → b.mramMib = some n → 2 ≤ n → n ≤ 32 → s.dev.rcd.mram.pointer.isSome →
    ∃ t, exec (.resetReleaseBoot b) s = .next t ∧ OnlyDevice s t ∧ t.dev.mode.boot = 4 ∧
      t.dev.mode.cur = .configure ∧ t.dev.bist.latched = s.dev.bist.fuses ∧ t.dev.scn.ilk = b.ilk ∧
      t.dev.devId = (if nByoft s.dev.variant = 0 then 0 else b.straps.toNat) ∧ t.dev.rcd.mram.usable = true ∧
      (∀ p, p < s.dev.scn.ports.length → (t.dev.port p).state = (if p < nBeams s.dev.variant then 1 else 0)) ∧
      (s.dev.rcd.mram.repairCopy = [] → repairCheck b.repair = stOk →
        t.dev.bist.map = b.repair ∧ t.dev.mode.repair = true)) ∧
  (∀ (ctrl : Word) (s : State), Up s → s.dev.mode.cur = .configure → ctrl.bit 31 = true → ctrl.get 0 2 ≠ 0 →
    s.dev.mode.fwLoad = none →
    ∃ t, exec (.fwLoadStart ctrl) s = .next t ∧ OnlyDevice s t ∧ t.dev.mode.fwLoad = some (ctrl.get 0 2) ∧
      t.dev.rd MODE_FW_STATUS = BitVec.ofNat 32 (2 ^ 28 + ctrl.get 0 2)) ∧
  (∀ (image : List Byte) (type : Nat) (s : State), Up s → s.dev.mode.fwLoad = some type → 2 ≤ type → type ≤ 3 →
    ∃ t, exec (.fwLoadDone (some image)) s = .next t ∧ OnlyDevice s t ∧ t.dev.mode.fwLoad = none ∧
      t.dev.mode.cur = s.dev.mode.cur ∧
      (match s.dev.verifyImage (imageOf s image) type with
       | none =>
         t.dev.mode.fwBe = (s.dev.mode.fwBe || type == 2) ∧ t.dev.mode.fwVis = (s.dev.mode.fwVis || type == 3) ∧
         t.dev.mode.programs = s.dev.mode.programs.set (type - 1) ((imageOf s image).drop 512) ∧
         t.dev.rd MODE_FW_STATUS = BitVec.ofNat 32 (3 * 2 ^ 28 + type)
       | some (st, step) =>
         t.dev.mode.fwBe = s.dev.mode.fwBe ∧ t.dev.mode.fwVis = s.dev.mode.fwVis ∧
         t.dev.mode.programs = s.dev.mode.programs ∧
         t.dev.rd MODE_FW_STATUS = BitVec.ofNat 32 (4 * 2 ^ 28 + st * 65536 + step * 256 + type))) ∧
  (∀ (type : Nat) (s : State), Up s → s.dev.mode.fwLoad = some type →
    exec (.fwLoadDone none) s =
      .next { s with dev :=
        (Dev.send { s.dev with mode := { s.dev.mode with fwLoad := none } } (.aer true)).fwStatus 4 stTimeout 0 type }) ∧
  (∀ (image : List Byte) (s : State), Up s → s.dev.mode.fwLoad = some 1 → s.dev.mode.fwSup = false →
    ∃ t, exec (.fwLoadDone (some image)) s = .next t ∧ OnlyDevice s t ∧
      (s.dev.verifyImage (imageOf s image) 1 = none →
        t.dev.mode.fwSup = true ∧ t.dev.mode.boot = 5 ∧ ∀ n, t.dev.ringRuns n = t.dev.ringOn n))

/-- The key of SOFT_KEY takes the safe state and arms the reset (R59); any other key does nothing. CAUSE_CLR leaves in
MODE_RST_CAUSE what hardware sets in the same cycle (R43, R57). A power failure (R499): the work of the units in reset
is gone, with the memory, and the flush holds the host off where the MRAM is in use; the return of the supply ends the
condition of its cause and touches nothing else. -/
def Obligations.SoftResetAndPowerFail : Prop :=
  (∀ (key : BitVec 16) (s : State), Up s → key = 0xA5C3 →
    exec (.softKey key) s = .next { s with dev := ({ s.dev.safeOutputs with
      mode := { s.dev.safeOutputs.mode with softPending := true } }) }) ∧
  (∀ (key : BitVec 16) (s : State), Up s → key ≠ 0xA5C3 → exec (.softKey key) s = .next s) ∧
  (∀ (hwSet : BitVec 4) (s : State), Up s →
    ∃ t, exec (.causeClr hwSet) s = .next t ∧ OnlyDevice s t ∧
      t.dev.rd MODE_RST_CAUSE = BitVec.ofNat 32 hwSet.toNat ∧
      ∀ off, off ≠ MODE_RST_CAUSE → off ≠ MODE_RST_CAUSE + 0x8000 → t.dev.rd off = s.dev.rd off) ∧
  (∀ s : State, Awake s → s.dev.standing 38 4 = false →
    ∃ t, exec .pfailNLow s = .next t ∧ t.mem = [] ∧ t.pending = s.pending ∧
      t.dev.rings = List.replicate 64 default ∧ t.dev.engines = List.replicate 18 default ∧
      t.dev.keeper = Keeper.reset ∧ t.dev.ldg = Ledger.reset ∧ t.dev.vis = Vis.reset ∧ t.dev.dram = Dram.reset ∧
      t.dev.mot = Motion.reset ∧ t.dev.ill = Illum.reset ∧ t.dev.lay = Layers.reset ∧
      t.dev.rcd.pfail = t.dev.rcd.mram.usable ∧
      ∀ off, islandPage off = true → t.dev.rd off = resetOf t.dev.variant off) ∧
  (∀ s : State, Awake s →
    ∃ t, exec .pfailNHigh s = .next t ∧ t = { s with dev := { s.dev with flt := t.dev.flt } } ∧
      t.dev.standing 38 4 = false)

/-- A NOTE-class fault whose source is not promoted is recorded and takes no reaction (R465, R467, R472): it stands
newest in the history queue of at most 32, with the next sequence number, and modes, live causes, fences and every unit
stay. -/
def Obligations.NoteFaultIsRecorded : Prop :=
  ∀ (f : FaultReport) (s : State), Awake s → plainReport s.dev f.src.toNat f.cause.toNat →
    s.dev.faultClass f.src.toNat f.cause.toNat f.payload = some .note → s.dev.promotes f.src.toNat .note = false →
    ∃ t, exec (.faultDetected f) s = .next t ∧ OnlyDevice s t ∧
      (∃ h, t.dev.flt.hist = (h :: s.dev.flt.hist).take 32 ∧ h.src = f.src.toNat ∧ h.cause = f.cause.toNat ∧
        h.payload = f.payload ∧ h.cls = .note ∧ h.t = s.dev.tb3 ∧ h.seq = nextSeq s.dev.flt.seq) ∧
      t.dev.flt.seq = nextSeq s.dev.flt.seq ∧ t.dev.rd FLT_HIST_CNT = BitVec.ofNat 32 (nextSeq s.dev.flt.seq) ∧
      t.dev.flt.live = s.dev.flt.live ∧ t.dev.flt.fenced = s.dev.flt.fenced ∧ t.dev.mode = s.dev.mode ∧
      t.dev.engines = s.dev.engines ∧ t.dev.keeper = s.dev.keeper ∧ t.dev.scn = s.dev.scn ∧ t.dev.mot = s.dev.mot ∧
      t.dev.ill = s.dev.ill ∧ t.dev.vis = s.dev.vis

/-- A SAFE-class fault takes the device from any mode but SAFE and WIND-DOWN to SAFE (R48, R465): the previous mode is
kept, LAST_CAUSE is 0x02, a transition in progress ends, and the fault is a live cause. The SAFE-class triggers with
causes of their own (R48, R468, R538): SAFE_REQ (0x07), a supply outside its limits for 10 µs, a supervisor that disagrees or
meets an uncorrectable error, a watchdog that runs out, and the loss of REFCLK. -/
def Obligations.SafeIsEntered : Prop :=
  (∀ (f : FaultReport) (s : State), Awake s → plainReport s.dev f.src.toNat f.cause.toNat →
    s.dev.faultClass f.src.toNat f.cause.toNat f.payload = some .safe → s.dev.mode.cur ≠ .safe →
    s.dev.mode.cur ≠ .windDown →
    ∃ t, exec (.faultDetected f) s = .next t ∧ OnlyDevice s t ∧ t.dev.mode.cur = .safe ∧
      t.dev.mode.prev = s.dev.mode.cur ∧ t.dev.mode.lastCause = 0x02 ∧ t.dev.mode.changing = false ∧
      t.dev.flt.settleDue = true ∧
      t.dev.flt.live.any (fun l => l.src == f.src.toNat && l.cause == f.cause.toNat && l.cls == .safe) = true) ∧
  (∀ s : State, s.dev.mode.cur ≠ .safe → s.dev.mode.cur ≠ .windDown →
    (Up s → ∃ t, exec .safeReq s = .next t ∧ OnlyDevice s t ∧ t.dev.mode.cur = .safe ∧ t.dev.mode.lastCause = 0x07) ∧
    (Awake s →
      (∀ (r : Fin 8) (mv low high : Nat), low ≤ mv → mv ≤ high → (high < (railLimits r).1 ∨ (railLimits r).2 < low) →
        ∃ t, exec (.supply r mv low high) s = .next t ∧ OnlyDevice s t ∧ t.dev.mode.cur = .safe ∧
          t.dev.rails = s.dev.rails.set r (mv % 65536 + (if mv < (railLimits r).1 then 65536 else 0) +
            (if (railLimits r).2 < mv then 131072 else 0))) ∧
      (∀ (pair : Fin 2) (k : SupFault), k ≠ .eccCorr →
        ∃ t, exec (.lockstep pair k) s = .next t ∧ OnlyDevice s t ∧ t.dev.mode.cur = .safe) ∧
      (∃ t, exec .watchdog s = .next t ∧ OnlyDevice s t ∧ t.dev.mode.cur = .safe ∧
        t.dev.flt.live.any (fun l => l.src == 1 && l.cause == 4) = true) ∧
      (∃ t, exec .refclkBad s = .next t ∧ OnlyDevice s t ∧ t.dev.mode.cur = .safe)))

/-- The end of a condition (R469): a supply back within its limits when every rail is, REFCLK back, and the work in
flight at entry to SAFE settled once. A thermal sample with four valid readings below 115 °C (R550): each is shown, the
highest is Tj, it counts in its lifetime bin, and the thermal causes end; with one at 130 °C or above the device goes to
SAFE with LAST_CAUSE 0x05. -/
def Obligations.ConditionsEnd : Prop :=
  (∀ (r : Fin 8) (mv : Nat) (s : State), Awake s → (railLimits r).1 ≤ mv → mv ≤ (railLimits r).2 →
    ∃ t, exec (.supplyRestored r mv) s = .next t ∧ OnlyDevice s t ∧ t.dev.rails = s.dev.rails.set r mv ∧
      ((s.dev.rails.set r mv).all (fun w => decide (w < 65536)) = true → t.dev.standing 38 3 = false) ∧
      t.dev.mode = s.dev.mode) ∧
  (∀ s : State, Awake s →
    ∃ t, exec .refclkRestored s = .next t ∧ OnlyDevice s t ∧ t.dev.rd CLK_STATUS = (s.dev.rd CLK_STATUS).putBit 0 true ∧
      t.dev.standing 35 1 = false ∧ t.dev.mode = s.dev.mode) ∧
  (∀ s : State, Awake s → s.dev.flt.settleDue = true → s.dev.mode.cur = .safe → s.dev.flt.pfail = false →
    exec .safeWorkSettle s = .next { s with dev :=
      (((({ s.dev with flt := { s.dev.flt with settleDue := false } }).endWork 2).commitGrids).pumpCommits) }) ∧
  (∀ s : State, Awake s → s.dev.flt.settleDue = false → exec .safeWorkSettle s = .next s) ∧
  (∀ (a b c e : Int) (s : State), Awake s → (∀ v ∈ [a, b, c, e], -800 ≤ v ∧ v < 1840) →
    ∃ t m, tjMax [a, b, c, e] = some m ∧ exec (.thermalSample [a, b, c, e]) s = .next t ∧ OnlyDevice s t ∧
      t.dev.rd CLK_TJ_MAX = BitVec.ofNat 32 (unsigned 16 m) ∧ t.dev.rd (CLK_TJ 0) = BitVec.ofNat 32 (unsigned 16 a) ∧
      t.dev.rd (CLK_TJ 3) = BitVec.ofNat 32 (unsigned 16 e) ∧
      t.dev.life.tjHist = modAt s.dev.life.tjHist (tjBin m) (· + 1) ∧
      t.dev.standing 38 1 = false ∧ t.dev.standing 38 2 = false ∧ t.dev.mode = s.dev.mode) ∧
  (∀ (a : Int) (s : State), Awake s → 2080 ≤ a → a ≤ 2560 → s.dev.standing 38 2 = false →
    s.dev.mode.cur ≠ .safe → s.dev.mode.cur ≠ .windDown →
    ∃ t, exec (.thermalSample [a, a, a, a]) s = .next t ∧ OnlyDevice s t ∧ t.dev.mode.cur = .safe ∧
      t.dev.mode.lastCause = 0x05)

/-- ERR_N, ghost traffic and the history registers (R473, R474, R483): the pulse ends at its instant, and the ERR_LEVELs
that waited for it complete; a fenced unit's transactions
count and raise no second FENCED_SPEAK within 1 ms; HIST_SELECT copies the five words of entry k. The fault commands
that touch live causes and the history (R470, R471, R489): FAULT_ACK acknowledges what it names and counts what stays
live; FAULT_CLEAR clears the sticky records, and in SERVICE the history; ERR_LEVEL sets the level, at once or with the end of the
pulse. Injection (R485): a
FAULT_INJECT with an instant to come is armed and stays in flight; at its instant a source that is not fenced raises it
as an injected fault, the injection is spent and counted. -/
def Obligations.FaultCommands : Prop :=
  (∀ s : State, Awake s → s.dev.flt.pulse = none → exec .errNPulseEnd s = .next s) ∧
  (∀ (at_ : Nat) (s : State) (d : Dev), Awake s → s.dev.flt.pulse = some at_ → d = s.dev.advanceTo at_ →
    exec .errNPulseEnd s = .next { s with dev := (s.dev.flt.levels.foldl (fun d q => d.ok q 0 0 0 0)
      ({ d with flt := { d.flt with pulse := none, levels := [] } })) }) ∧
  (∀ (u : Fin 22) (count last : Nat) (g : Ghost) (s : State), Awake s → s.dev.fencedUnit u = true →
    s.dev.flt.ghosts.find? (fun g => g.unit == u.val) = some g → g.last = some last → s.dev.tb3 < last + perMs →
    ∃ t, exec (.ghostTraffic u count) s = .next t ∧ OnlyDevice s t ∧
      t.dev.rd FLT_GHOST_CNT = satInc (s.dev.rd FLT_GHOST_CNT) count ∧ t.dev.flt.hist = s.dev.flt.hist ∧
      t.dev.flt.ghosts.head? = some ⟨u, g.count + count, g.last⟩) ∧
  (∀ (k : Fin 32) (s : State), Up s →
    ∃ t, exec (.histSelect k) s = .next t ∧ OnlyDevice s t ∧
      (∀ i, i < 5 → t.dev.rd (FLT_HIST_D i) = (s.dev.histWords k).getD i 0) ∧
      (∀ off, (∀ i, i < 5 → off ≠ FLT_HIST_D i) → t.dev.rd off = s.dev.rd off) ∧ t.dev.flt = s.dev.flt) ∧
  (∀ (r : Req) (e : Env) (s : State),
    (Takes s 0x0B01 cmdFaultAck r → e.vals = [] →
      ∃ d, d = (started s 0x0B01 r).ackFaults (fun src cause =>
          r.a0 == 0xFFFFFFFF || (src == r.a0.get 0 6 && cause == r.a0.get 8 8)) ∧
        exec (.faultAck r e) s = .next { s with dev := d.ok (asOp 0x0B01 r) d.flt.live.length 0 0 0 } ∧
        (r.a0 = 0xFFFFFFFF → ∀ l ∈ d.flt.live, l.acked = true ∧ l.ended = false)) ∧
    (Takes s 0x0B02 cmdFaultClear r → e.vals = [] →
      ∃ t, exec (.faultClear r e) s = .next t ∧ OnlyDevice s t ∧ t.dev.rd (FLT_SEEN 0) = 0 ∧
        t.dev.rd (FLT_SEEN 1) = 0 ∧ t.dev.rd FLT_FIRST_SAFE = 0 ∧ t.dev.rd FLT_FIRST_HOLD = 0 ∧
        t.dev.rd FLT_GHOST_CNT = 0 ∧ t.dev.flt.hist = (if r.a0.bit 0 then [] else s.dev.flt.hist) ∧
        t.dev.flt.live = s.dev.flt.live) ∧
    (Takes s 0x0B05 cmdErrLevel r → s.dev.flt.pulse = none →
      exec (.errLevel r e) s = .next { s with dev := (
        ({ started s 0x0B05 r with flt := { s.dev.flt with level := r.a0.bit 0 } }).ok (asOp 0x0B05 r) 0 0 0 0) }) ∧
    (Takes s 0x0B05 cmdErrLevel r → s.dev.flt.pulse ≠ none →
      exec (.errLevel r e) s = .next { s with dev := { started s 0x0B05 r with flt := { s.dev.flt with
        level := r.a0.bit 0, levels := s.dev.flt.levels ++ [asOp 0x0B05 r] } } }) ∧
    (Takes s 0x0B80 cmdFaultQuery r →
      exec (.faultQuery r e) s = .next { s with dev := ((started s 0x0B80 r).ok (asOp 0x0B80 r)
        (s.dev.liveWord 0) (s.dev.liveWord 1) s.dev.fencedWord (s.dev.rd FLT_HIST_CNT).toNat) }) ∧
    (Takes s 0x0B81 cmdHistRead r →
      exec (.histRead r e) s = .next { s with dev := ((started s 0x0B81 r).okData (asOp 0x0B81 r)
        ((List.range 32).flatMap (fun k => (s.dev.histWords k).flatMap (fun w => leBytes 4 w.toNat))) 0 0 0 0) })) ∧
  (∀ (r : Req) (e : Env) (s : State), Takes s 0x0B03 cmdFaultInject r → r.a1.toNat + r.a2.toNat * 2 ^ 32 ≠ 0 →
    ∃ t, exec (.faultInject r e) s = .next t ∧ OnlyDevice s t ∧
      t.dev.flt.inj = some ⟨r.a0.get 0 6, r.a0.get 8 8, r.a1.toNat + r.a2.toNat * 2 ^ 32, r.a3, asOp 0x0B03 r⟩ ∧
      t.dev.flt.hist = s.dev.flt.hist ∧ t.dev.mode = s.dev.mode) ∧
  (∀ (i : Inject) (s : State), Awake s → s.dev.flt.inj = some i →
    s.dev.faultClass i.src i.cause i.payload = some .note → s.dev.promotes i.src .note = false →
    (∀ u, unitOfSource i.src = some u → s.dev.fencedUnit u = false) →
    ∃ t h, exec (.faultInjectFire none) s = .next t ∧ OnlyDevice s t ∧ t.dev.flt.inj = none ∧
      t.dev.flt.injCount = s.dev.flt.injCount + 1 ∧ t.dev.flt.hist = (h :: s.dev.flt.hist).take 32 ∧
      h.src = i.src ∧ h.cause = i.cause ∧ h.injected = true ∧ t.dev.mode = s.dev.mode)

/-- R9: the registers of an absent unit ignore writes, with no fault and no event, and read as zero. -/
def Obligations.AbsentBlocksAreInert : Prop :=
  ∀ (off : BitVec 25) (val hwMask hwVal : Word) (s : State) (row : RegRow) (i j : Nat),
    regRow off.toNat = some (row, i, j) → row.present s.dev.variant off.toNat i = false →
    exec (.registerWrite off val hwMask hwVal) s = .next s ∧ exec (.w1cClear off val hwVal) s = .next s ∧
      s.dev.readLive off.toNat = 0 ∧
      (Up s → ∃ t, exec (.lowWordRead off) s = .next t ∧ OnlyDevice s t ∧
        t.dev.out = .regRead off.toNat 0 :: s.dev.out ∧ t.dev.regs = s.dev.regs ∧ t.dev.flt = s.dev.flt ∧
        t.dev.rcd = s.dev.rcd)

/-- A host write of RW fields (R15, R43, R47). In CONFIGURE each field takes its value by the field's limit, and no
other register changes; in another mode the register keeps its word, and a value that differs from it raises
WRITE_REFUSED. W1C fields (R15, R43): a 1 clears its bit, and a bit that hardware sets in the same cycle stays set;
every other bit, and every other register but the lost-clear counter, stays. -/
def Obligations.RegisterWrites : Prop :=
  (∀ (off : BitVec 25) (val hwVal : Word) (s : State) (row : RegRow) (i j : Nat), Up s →
    regRow off.toNat = some (row, i, j) → row.present s.dev.variant off.toNat i = true → ordinary off.toNat →
    ownWrite off.toNat i j val = none → (∀ f ∈ row.fields, f.acc = .rw) →
    (s.dev.mode.cur = .configure →
      ∃ t, exec (.registerWrite off val 0 hwVal) s = .next t ∧ OnlyDevice s t ∧
        t.dev = s.dev.wr off.toNat (storedWord row.fields val (s.dev.rd off.toNat)) ∧
        t.dev.rd off.toNat = storedWord row.fields val (s.dev.rd off.toNat) ∧
        ∀ o, o ≠ off.toNat → t.dev.rd o = s.dev.rd o) ∧
    (s.dev.admitsWrite off.toNat = false →
      ∃ d, (∀ o, d.rd o = s.dev.rd o) ∧ d = s.dev.wr off.toNat (s.dev.rd off.toNat) ∧
        exec (.registerWrite off val 0 hwVal) s = .next { s with dev := (
          if row.fields.all (fun f => val.get f.lo f.width == (s.dev.rd off.toNat).get f.lo f.width) then d
          else d.refuse off.toNat) })) ∧
  (∀ (off : BitVec 25) (val hwSet : Word) (s : State) (row : RegRow) (i j : Nat), Up s →
    regRow off.toNat = some (row, i, j) → row.present s.dev.variant off.toNat i = true →
    (off.toNat < 0x80000 ∨ 0x1A0000 ≤ off.toNat) → off.toNat ≠ HIF_ERR_STATUS → off.toNat ≠ TIME_ERR →
    (∀ f ∈ row.fields, f.lo + f.width ≤ 32) →
    ∃ t, exec (.w1cClear off val hwSet) s = .next t ∧ OnlyDevice s t ∧
      (∀ k, k < 32 → (t.dev.rd off.toNat).bit k =
        if row.fields.any (fun f => f.acc == .w1c && decide (f.lo ≤ k) && decide (k < f.lo + f.width)) then
          ((s.dev.rd off.toNat).bit k && !val.bit k) || hwSet.bit k
        else (s.dev.rd off.toNat).bit k) ∧
      (val &&& hwSet = 0 → t.dev.rd (off.toNat + 0x8000) = s.dev.rd (off.toNat + 0x8000)) ∧
      ∀ o, o ≠ off.toNat → o ≠ off.toNat + 0x8000 → t.dev.rd o = s.dev.rd o)

/-- Lost-clear counters (R43, R45), 64-bit pairs (R44) and requests that are no aligned word (R14). CLR zeroes a
counter, and what is lost in the same cycle stands in it, but for one of a fenced block, which takes no write (R481); a
read of a low word captures the high word, which is what a
read of the high word then answers; a bad request changes no register but what its report writes. BAR2 (R72). In
CONFIGURE and SERVICE a write puts its bytes in the memory and touches no byte beyond them; in every other mode it is
discarded and reported. A read answers the bytes held where the device itself writes none, what a structure of the
device holds where the rules give it byte by byte, zeros beyond installed DRAM and before DRAM is ready (R362), and a
poisoned completion where ECC cannot correct. -/
def Obligations.HostWindows : Prop :=
  (∀ (off : BitVec 25) (val : Word) (n : Nat) (b : Fin 32) (s : State), s.dev.fencedBlock off.toNat = true →
    exec (.lostClearClr off val n b) s = .next s) ∧
  (∀ (off : BitVec 25) (val : Word) (b : Fin 32) (s : State), Up s → isLostClear s.dev.variant off.toNat = true →
    s.dev.fencedBlock off.toNat = false → val.bit 31 = true →
    ∃ t, exec (.lostClearClr off val 0 b) s = .next t ∧ OnlyDevice s t ∧ t.dev.rd off.toNat = 0 ∧
      ∀ o, o ≠ off.toNat → t.dev.rd o = s.dev.rd o) ∧
  (∀ (off : BitVec 25) (val : Word) (n : Nat) (b : Fin 32) (s : State), Up s →
    isLostClear s.dev.variant off.toNat = true → s.dev.fencedBlock off.toNat = false → val.bit 31 = true →
    0 < n → n < 65536 →
    ∃ t, exec (.lostClearClr off val n b) s = .next t ∧ OnlyDevice s t ∧
      (t.dev.rd off.toNat).get 0 16 = n ∧ (t.dev.rd off.toNat).get 16 5 = b.val) ∧
  (∀ (off : BitVec 25) (s : State), Up s → pairLow off.toNat = true →
    ∃ t, exec (.lowWordRead off) s = .next t ∧ OnlyDevice s t ∧
      t.dev.out = .regRead off.toNat (s.dev.readLive off.toNat) :: s.dev.out ∧
      t.dev.readReg (off.toNat + 4) = s.dev.readLive (off.toNat + 4) ∧ t.dev.regs = s.dev.regs) ∧
  (∀ (w : Bool) (s : State), Up s →
    exec (.bar0BadRequest w) s =
      .next { s with dev := (s.dev.send (if w then .aer false else .unsupported)).hifError 10 0xFF }) ∧
  (∀ (addr : BitVec 26) (bytes : List Byte) (s : State) (a : Nat), Up s → a = s.dev.bar2At addr →
    (s.dev.mode.cur = .configure ∨ s.dev.mode.cur = .service) → 3 ≤ s.dev.dramState →
    a + bytes.length ≤ s.dev.dramBytes → bytes ≠ [] →
    ∃ t, exec (.bar2Write addr bytes) s = .next t ∧ t.dev = s.dev ∧ t.pending = s.pending ∧
      (∀ k (h : k < bytes.length), memRead t.mem (a + k) = bytes[k]) ∧
      ∀ k, (k < a ∨ a + bytes.length ≤ k) → memRead t.mem k = memRead s.mem k) ∧
  (∀ (addr : BitVec 26) (bytes : List Byte) (s : State), Up s → s.dev.mode.cur ≠ .configure →
    s.dev.mode.cur ≠ .service →
    exec (.bar2Write addr bytes) s = .next { s with dev := s.dev.hifError 6 0xFF }) ∧
  (∀ (addr : BitVec 26) (len : Nat) (ecc : Ecc) (s : State) (a : Nat), Up s → a = s.dev.bar2At addr →
    ((ecc ≠ .uncorrectable → s.dev.mode.dram = true → 3 ≤ s.dev.dramState → a + len ≤ s.dev.dramBytes →
      (∀ i, i < len → s.dev.dramManaged (a + i) = false) →
      exec (.bar2Read addr len ecc) s =
        .next { s with dev := s.dev.send (.barRead a (some (memBytes s.mem a len))) }) ∧
     (∀ v, ecc ≠ .uncorrectable → s.dev.mode.dram = true → s.dev.dramHolds a = true → s.dev.dramManaged a = true →
      s.dev.knownByte a = some v → len = 1 →
      exec (.bar2Read addr len ecc) s = .next { s with dev := s.dev.send (.barRead a (some [v])) }) ∧
     ((s.dev.dramBytes ≤ a ∨ s.dev.mode.dram = false) →
      exec (.bar2Read addr len ecc) s =
        .next { s with dev := s.dev.send (.barRead a (some (List.replicate len 0))) }) ∧
     (ecc = .uncorrectable → s.dev.mode.dram = true → 3 ≤ s.dev.dramState → a < s.dev.dramBytes →
      exec (.bar2Read addr len ecc) s =
        .next { s with dev := (s.dev.send (.barRead a none)).hifError 7 0xFF })))

/-- Ring control (R73, R102). Enabling a ring that is off takes TYPE and ENABLE together; a ring that is on takes no
other TYPE; clearing ENABLE keeps what is in flight, and completes a STREAM ring's buffers; RESET acts on a ring that is
off with nothing in flight, and is ignored otherwise. -/
def Obligations.RingControl : Prop :=
  ∀ (n : Fin 64) (s : State), Up s →
    (∀ (type : Fin 4), s.dev.ringOn n = false → type ≠ 0 →
      (type = 3 → s.dev.fld (HIF_RING_STREAM n) 0 4 < 7) →
      ∃ d, d = (s.dev.setFld (HIF_RING_CTRL n) 0 2 type).setBit (HIF_RING_CTRL n) 31 true ∧ d.ringOn n = true ∧
        d.ringType n = type ∧ (∀ off, off ≠ HIF_RING_CTRL n → d.rd off = s.dev.rd off) ∧
        exec (.ringEnable n type) s = .next { s with dev := (d.fillRing n).pumpStaging }) ∧
    (∀ (type : Fin 4), s.dev.ringOn n = true →
      exec (.ringEnable n type) s =
        .next (if type.val = s.dev.ringType n then s else { s with dev := s.dev.hifError 8 n })) ∧
    (s.dev.ringOn n = true → s.dev.ringType n ≠ 3 →
      ∃ t, exec (.ringDisable n) s = .next t ∧ OnlyDevice s t ∧ t.dev.ringOn n = false ∧
        t.dev.ringType n = s.dev.ringType n ∧
        t.dev.rings = modAt s.dev.rings n (fun r => { r with prefetch := [] }) ∧
        (∀ off, off ≠ HIF_RING_CTRL n → t.dev.rd off = s.dev.rd off)) ∧
    (∀ b, s.dev.ringOn n = true → s.dev.ringType n = 3 → (s.dev.ring n).bufs = [b] →
      exec (.ringDisable n) s = .next { s with dev :=
        (((s.dev.setBit (HIF_RING_CTRL n) 31 false).modRing n (fun r => { r with prefetch := [] })).closeBuf n
          (if b.recs = 0 then stAborted else stOk)) }) ∧
    (s.dev.ringOn n = false → (s.dev.ring n).inflight = [] → s.dev.rings.length = 64 →
      ∃ t, exec (.ringReset n) s = .next t ∧ OnlyDevice s t ∧ t.dev.ring n = default ∧
        t.dev.rd (HIF_RING_DROP n) = 0 ∧ (∀ off, off ≠ HIF_RING_DROP n → t.dev.rd off = s.dev.rd off) ∧
        ∀ m, m ≠ n.val → t.dev.ring m = s.dev.ring m) ∧
    ((s.dev.ringOn n = true ∨ (s.dev.ring n).inflight ≠ []) →
      exec (.ringReset n) s = .next { s with dev := s.dev.hifError 9 n })

/-- The halves of a doorbell word (R81): a valid one moves the position it names; an invalid one moves nothing, and is
reported once however often it stands. A poll of the doorbell page (R80 to R82). With one ring enabled and nothing
fetched, held or spilled, a page read moves that ring's positions and no other's, and ends a run of failed reads; a
failed one is reported, through AER where the link is up (R71), and the sixteenth in succession loses the host. -/
def Obligations.Doorbells : Prop :=
  (∀ (d : Dev) (n w : Nat), n < d.rings.length →
    (halfOk w 16 (Nat.log2 (d.sqSize n)) = true →
      posDiff (halfPos w 16 (d.sqSize n)) (d.ring n).sqHead (d.sqSize n) ≤ d.sqSize n →
      ((d.takeSq n w).ring n).sqTail = halfPos w 16 (d.sqSize n) ∧ (d.takeSq n w).regs = d.regs ∧
        (d.takeSq n w).flt = d.flt) ∧
    (halfOk w 16 (Nat.log2 (d.sqSize n)) = false →
      (d.takeSq n w = if (d.ring n).badSq = some w then d
        else (d.modRing n (fun r => { r with badSq := some w })).hifError 0 n) ∧
      ((d.modRing n (fun r => { r with badSq := some w })).takeSq n w =
        d.modRing n (fun r => { r with badSq := some w })))) ∧
  (∀ (n : Fin 64) (page : List Word64) (e : Env) (s : State) (w : Nat), Up s → s.dev.bit HIF_DB_CTRL 31 = true →
    s.dev.hif.linkUp = true → (∀ m, m < 64 → (s.dev.ringOn m = true ↔ m = n.val)) →
    (∀ m, m < 64 → (s.dev.ring m).prefetch = [] ∧ (s.dev.ring m).spill = [] ∧ (s.dev.ring m).held = [] ∧
      (s.dev.ring m).retry = false) → s.dev.rings.length = 64 → s.dev.staged = [] →
    w = (page.getD n 0).toNat →
    halfOk (w % 2 ^ 32) 16 (Nat.log2 (s.dev.sqSize n)) = true →
    posDiff (halfPos (w % 2 ^ 32) 16 (s.dev.sqSize n)) (s.dev.ring n).sqHead (s.dev.sqSize n) ≤ s.dev.sqSize n →
    halfOk (w / 2 ^ 32) 20 (Nat.log2 (s.dev.cqSize n)) = true →
    posDiff (s.dev.ring n).cqTail (halfPos (w / 2 ^ 32) 20 (s.dev.cqSize n)) (s.dev.cqSize n) ≤ s.dev.cqSize n →
    ∃ t, exec (.doorbellPoll (some page) e) s = .next t ∧ OnlyDevice s t ∧
      (t.dev.ring n).sqTail = halfPos (w % 2 ^ 32) 16 (s.dev.sqSize n) ∧
      (t.dev.ring n).cqHead = halfPos (w / 2 ^ 32) 20 (s.dev.cqSize n) ∧ t.dev.hif.fails = 0 ∧
      (∀ m, m ≠ n.val → t.dev.ring m = s.dev.ring m) ∧ t.dev.regs = s.dev.regs) ∧
  (∀ (page : Option (List Word64)) (e : Env) (s : State), Up s → s.dev.bit HIF_DB_CTRL 31 = true →
    (∃ n, n < 64 ∧ s.dev.ringOn n = true) → (page = none ∨ s.dev.hif.linkUp = false) →
    ∃ d, d = (if s.dev.hif.linkUp then s.dev.polled.send (.aer true) else s.dev.polled).hifError 1 0xFF ∧
      exec (.doorbellPoll page e) s = .next { s with dev := (
        let d := { d with hif := { d.hif with fails := d.hif.fails + 1 } }
        if 15 < d.hif.fails then d.hostLost else d) }) ∧
  (∀ (page : Option (List Word64)) (e : Env) (s : State), Up s → s.dev.bit HIF_DB_CTRL 31 = false →
    exec (.doorbellPoll page e) s = .next s)

/-- A descriptor arrives (R84, R86). One that can start on a ring with nothing else fetched leaves the queue, joins the
work in flight, and takes its command's effect or completes with its first failed check; one whose read fails is not
executed, and the submission head stays; it is told through AER (R71). The input data of a waiting command (R84, check 9): in, they let the command
take its effect on as many bytes as it names; failed, they complete it with the failure. -/
def Obligations.DescriptorsStart : Prop :=
  (∀ (n : Fin 64) (b : List Byte) (e : Env) (s : State) (q : Req) (d : Dev), Up s → s.dev.fetches n = true →
    (s.dev.ring n).prefetch = [] → b.length = 64 → s.dev.rings.length = 64 →
    q = parseReq n ((s.dev.ring n).sqHead % s.dev.sqSize n) b → s.dev.canStart q = true →
    d = (({ s.dev with hif := { s.dev.hif with fails := 0 } } : Dev).tookTurn n).modRing n (fun r => { r with
      prefetch := [], sqHead := ((s.dev.ring n).sqHead + 1) % (2 * s.dev.sqSize n) }) →
    (∀ st x, s.dev.descFail q b = some (st, x) →
      exec (.descriptorReadDone n (some b) e) s =
        .next { s with dev := Dev.pump n e 15 ((d.launch q).fail q st x) }) ∧
    (∀ c, s.dev.descFail q b = none → cmdOf q.op = some c →
      (∀ st x, c.check (d.launch q) q = some (st, x) →
        exec (.descriptorReadDone n (some b) e) s =
          .next { s with dev := Dev.pump n e 15 ((d.launch q).fail q st x) }) ∧
      (c.check (d.launch q) q = none → q.dataLen = 0 →
        exec (.descriptorReadDone n (some b) e) s =
          .next { s with dev := Dev.pump n e 15 (c.effect q e (d.launch q)) }))) ∧
  (∀ (n : Fin 64) (e : Env) (s : State), Up s → s.dev.fetches n = true →
    exec (.descriptorReadDone n none e) s = .next { s with dev := (s.dev.send (.aer true)).descFailed n }) ∧
  (∀ (n : Fin 64) (desc : Option (List Byte)) (e : Env) (s : State), Up s → s.dev.fetches n = false →
    exec (.descriptorReadDone n desc e) s = .next s) ∧
  (∀ (n : Fin 64) (idx : BitVec 16) (e : Env) (s : State) (q : Req) (c : Cmd) (d : Dev), Up s →
    s.dev.hif.waitData.find? (fun q => q.ring == n.val && q.idx == idx.toNat) = some q → cmdOf q.op = some c →
    q.dataLen ≠ 0 →
    d = { s.dev with hif := { s.dev.hif with waitData := s.dev.hif.waitData.filter (fun x => x != q) } } →
    (e.dataFail = none →
      exec (.dataReadDone n idx e) s =
        .next { s with dev := (c.effect q { e with data := e.data.take q.dataLen } d).pumpRing n e }) ∧
    (∀ f, e.dataFail = some f →
      exec (.dataReadDone n idx e) s =
        .next { s with dev := (((d.send (.aer true)).hifError 3 q.ring).fail q (dataFailure f).1
          (dataFailure f).2).pumpRing n e }))

/-- Stream buffers (R96, R97): a buffer that keeps the rules is posted behind the others; one that breaks them completes
MALFORMED; FLUSH_US after the first record a buffer completes OK. Barriers and layers that wait (R87, R107): an
acknowledged stop ends; a LAYER_OPEN that waits at the head of its ring starts once fewer than two layers are open.
Interrupts and the link (R71, R82, R100, R101). -/
def Obligations.StreamsStopsAndInterrupts : Prop :=
  (∀ (r : Req) (e : Env) (s : State), Up s → s.dev.mayTake (asOp 0 r) = true → s.dev.ringType r.ring = 3 →
    (bufferCheck (asOp 0 r) = none →
      ∃ d, d = (started s 0 r).modRing r.ring (fun x => { x with
          bufs := x.bufs ++ [⟨r.idx, r.tag, reqIrq r, r.dataAddr, r.dataLen, 0, 0, 0⟩] }) ∧
        exec (.bufferDescriptor r e) s = .next { s with dev := (d.fillRing r.ring).pumpStaging }) ∧
    (∀ st x, bufferCheck (asOp 0 r) = some (st, x) → st = stMalformed ∧
      exec (.bufferDescriptor r e) s = .next { s with dev := (started s 0 r).fail (asOp 0 r) stMalformed x })) ∧
  (∀ (n : Fin 64) (b : Buf) (bs : List Buf) (s : State), Awake s → (s.dev.ring n).bufs = b :: bs → b.recs ≠ 0 →
    s.dev.ringOn n = true → s.dev.fld (HIF_RING_STREAM n) 16 16 ≠ 0 →
    exec (.streamFlushTimeout n) s = .next { s with dev := s.dev.closeBuf n stOk }) ∧
  (∀ (n : Fin 64) (e : Env) (s : State), Up s →
    (s.dev.barrierStop n = true → (s.dev.ring n).prefetch = [] →
      ∃ t, exec (.barrierAck n e) s = .next t ∧ OnlyDevice s t ∧ t.dev.barrierStop n = false ∧
        (∀ m, m < 64 → m ≠ n.val → t.dev.barrierStop m = s.dev.barrierStop m) ∧ t.dev.rings = s.dev.rings) ∧
    (s.dev.barrierStop n = false → exec (.barrierAck n e) s = .next s) ∧
    (s.dev.lay.opened.length < 2 → ∀ idx b rest d, (s.dev.ring n).prefetch = (idx, b) :: rest →
      s.dev.canStart (parseReq n idx b) = true →
      d = s.dev.modRing n (fun r => { r with prefetch := rest, sqHead := (r.sqHead + 1) % (2 * s.dev.sqSize n) }) →
      exec (.layerOpenWaitRelease n e) s =
        .next { s with dev := Dev.pump n e 15 (d.startDesc (parseReq n idx b) b e) }) ∧
    (2 ≤ s.dev.lay.opened.length → exec (.layerOpenWaitRelease n e) s = .next s)) ∧
  (∀ (n : Fin 64) (s : State), Awake s → (s.dev.ring n).unsig ≠ 0 → s.dev.fld (HIF_RING_OPT n) 24 8 ≠ 0 →
    s.dev.hif.msixMask.getLsbD (s.dev.fld (HIF_RING_OPT n) 8 8) = false → s.dev.rings.length = 64 →
    ∃ t, exec (.coalesceTimeout n) s = .next t ∧ OnlyDevice s t ∧ (t.dev.ring n).unsig = 0 ∧
      t.dev.out = .msix (s.dev.fld (HIF_RING_OPT n) 8 8) :: s.dev.out ∧ t.dev.regs = s.dev.regs) ∧
  (∀ (v : Fin 256) (s : State), Up s →
    ∃ t, exec (.msixUnmask v) s = .next t ∧ OnlyDevice s t ∧
      t.dev.out = (if s.dev.hif.msixPend.getLsbD v then .msix v :: s.dev.out else s.dev.out) ∧
      t.dev.hif.msixPend.getLsbD v = false ∧ t.dev.hif.msixMask.getLsbD v = false ∧
      (∀ w, w < 256 → w ≠ v.val → t.dev.hif.msixPend.getLsbD w = s.dev.hif.msixPend.getLsbD w ∧
        t.dev.hif.msixMask.getLsbD w = s.dev.hif.msixMask.getLsbD w)) ∧
  (∀ (speed : Fin 6) (width : Fin 9) (s : State), Up s →
    exec (.pcieLinkUp speed width) s = .next { s with dev := ({ s.dev with
      hif := { s.dev.hif with linkUp := true, linkSpeed := speed, linkWidth := width } }) }) ∧
  (∀ s : State, Up s → s.dev.hif.linkUp = true →
    ∃ d, d = { s.dev with hif := { s.dev.hif with linkUp := false, linkSpeed := 0, linkWidth := 0 } } ∧
      exec .pcieLinkDown s = .next { s with dev := if d.standing 28 1 then d else d.fault 28 1 }) ∧
  (∀ s : State, Up s → s.dev.hif.linkUp = false → exec .pcieLinkDown s = .next s) ∧
  (∀ (n : Fin 64) (idx : BitVec 16) (q : Req) (s : State), Up s →
    s.dev.hif.waitData.find? (fun q => q.ring == n.val && q.idx == idx.toNat) = some q →
    ∃ d, d = { s.dev.send (.aer true) with
        hif := { s.dev.hif with waitData := s.dev.hif.waitData.filter (fun x => x != q) } } ∧
      exec (.hostReadTimeout (.data n idx)) s =
        .next { s with dev := (d.hifError 3 n).fail q stTimeout 0x0009 }) ∧
  (∀ (n : Fin 64) (s : State), Up s → s.dev.fetches n = true →
    exec (.hostReadTimeout (.desc n)) s = .next { s with dev := (s.dev.send (.aer true)).descFailed n }) ∧
  (∀ s : State, Up s → s.dev.bit HIF_DB_CTRL 31 = true → (∃ n, n < 64 ∧ s.dev.ringOn n = true) →
    exec (.hostReadTimeout .doorbell) s = .next { s with dev := (s.dev.send (.aer true)).polled.readFailed 1 0xFF }) ∧
  (∀ (type : Nat) (s : State), Up s → s.dev.mode.fwLoad = some type →
    exec (.hostReadTimeout .firmware) s = .next { s with dev :=
      ({ s.dev.send (.aer true) with mode := { s.dev.mode with fwLoad := none } } : Dev).fwStatus 4 stTimeout 0 type })

/-- MODE_SET (R48, R49, R52, R53, R54, R327). A transition to CONFIGURE, SERVICE or STANDBY that R48 lists, with its
conditions, takes place at once, STANDBY from CALIBRATE once the engines have stopped (R188); between CONFIGURE and
SERVICE, and from STANDBY to SERVICE, the previous mode and the cause 0x01 are kept. To CALIBRATE and BUILD the sleeping
ports of mapped beams wake first; to WIND-DOWN the steps of R68 run. The mode in force is no transition; one that R48
does not list completes STATE_REJECT and changes no mode; while a transition is in progress the command waits. MODE_SET
HOLD from BUILD begins the run to the safe point: the mode stays, the transition is in progress, and the
command completes at its end (R54). MODE_SET SAFE takes the device to SAFE, with cause 0x01 (R48, R51). -/
def Obligations.ModeSetMoves : Prop :=
  ∀ (r : Req) (e : Env) (s : State) (m : Mode) (d : Dev) (q : Req), Takes s 0x0101 cmdModeSet r →
    m = Mode.ofCode (r.a0.get 0 3) → d = started s 0x0101 r → q = asOp 0x0101 r →
    (m ≠ .safe → (s.dev.transition = true ∨ s.dev.mode.waiters ≠ []) →
      exec (.modeSet r e) s = .next { s with dev := { d with mode := { d.mode with waiters := d.mode.waiters ++ [q] } } }) ∧
    (m ≠ .safe → s.dev.transition = false → s.dev.mode.waiters = [] →
      (m = s.dev.mode.cur → exec (.modeSet r e) s = .next { s with dev := d.ok q 0 0 0 0 }) ∧
      (m ≠ s.dev.mode.cur → s.dev.mayGo m = false →
        exec (.modeSet r e) s = .next { s with dev := d.fail q stReject 0 } ∧ (d.fail q stReject 0).mode = s.dev.mode) ∧
      (s.dev.mayGo m = true →
        ((m = .configure ∨ m = .service ∨ (m = .standby ∧ (s.dev.mode.cur ≠ .calibrate ∨ s.dev.allStopped = true))) →
          exec (.modeSet r e) s = .next { s with dev := (d.goMode m).ok q 0 0 0 0 }) ∧
        (m = .standby → s.dev.mode.cur = .calibrate → s.dev.allStopped = false →
          exec (.modeSet r e) s = .next { s with dev := d.leaveCalibrate q }) ∧
        ((m = .calibrate ∨ m = .build) → d.wakePorts.sleepers = [] →
          exec (.modeSet r e) s = .next { s with dev := (d.wakePorts.goMode m).ok q 0 0 0 0 }) ∧
        ((m = .calibrate ∨ m = .build) → d.wakePorts.sleepers ≠ [] →
          exec (.modeSet r e) s =
            .next { s with dev := { d.wakePorts with mode := { d.wakePorts.mode with wakeReq := some (q, m) } } }) ∧
        (m = .windDown → exec (.modeSet r e) s = .next { s with dev := ((d.goMode m).windDown e).ok q 0 0 0 0 }) ∧
        (m = .hold →
          ∃ t, exec (.modeSet r e) s = .next t ∧ OnlyDevice s t ∧ t.dev.mode.cur = s.dev.mode.cur ∧
            t.dev.mode.changing = true ∧ t.dev.mode.holdTrig = 0x01 ∧ t.dev.mode.holdAtLayerEnd = false ∧
            t.dev.mode.holdAt = s.dev.tb3 ∧ t.dev.mode.holdReq = some q) ∧
        (((s.dev.mode.cur = .configure ∧ m = .service) ∨ (s.dev.mode.cur = .service ∧ m = .configure) ∨
            (s.dev.mode.cur = .standby ∧ m = .service)) →
          ∃ t, exec (.modeSet r e) s = .next t ∧ OnlyDevice s t ∧ t.dev.mode.cur = m ∧
            t.dev.mode.prev = s.dev.mode.cur ∧ t.dev.mode.lastCause = 0x01 ∧ t.dev.mode.changing = false))) ∧
    (m = .safe → s.dev.mode.cur = .safe → exec (.modeSet r e) s = .next { s with dev := d.ok q 0 0 0 0 }) ∧
    (m = .safe → s.dev.mode.cur ≠ .safe →
      ∃ t, exec (.modeSet r e) s = .next t ∧ OnlyDevice s t ∧ t.dev.mode.cur = .safe ∧
        t.dev.mode.prev = s.dev.mode.cur ∧ t.dev.mode.lastCause = 0x01)

/-- The rest of a mode transition (R52, R54, R188, R327): the oldest waiting MODE_SET is judged once none is in progress;
at FINISH_LIMIT the engines stop where the limit finds them; with every engine stopped the mode becomes HOLD, or STANDBY
where MODE_SET STANDBY leaves CALIBRATE, and until then the run to the safe point goes on; a port that has woken carries
data again, and one that has not within its limit is a link fault. FENCE_LIFT (R142, R484): the unit is fenced no more,
and no other unit's fence changes; an engine comes back unmapped, as a spare, with its queue empty. A unit that is not
fenced completes LIMIT with XSTATUS 0x0B04. -/
def Obligations.TransitionsAndFences : Prop :=
  (∀ (e : Env) (q : Req) (qs : List Req) (s : State), Up s → s.dev.mode.waiters = q :: qs → s.dev.transition = false →
    exec (.modeSetWaitRelease e) s =
      .next { s with dev := ({ s.dev with mode := { s.dev.mode with waiters := qs } }).judge q e }) ∧
  (∀ (e : Env) (s : State), Up s → (s.dev.mode.waiters = [] ∨ s.dev.transition = true) →
    exec (.modeSetWaitRelease e) s = .next s) ∧
  (∀ s : State, Awake s → s.dev.holding = true → s.dev.exposing = true →
    ∃ d ts, ts = s.dev.mode.holdAt + s.dev.fld MODE_HOLD_CFG 0 16 * perUs ∧ d = (s.dev.advanceTo ts).applyHold ∧
      exec .finishLimitExpiry s = .next { s with dev := ((List.range 18).foldl (fun x n =>
        if x.fencedUnit n then x else x.finishAt n (Nat.max ts x.tb3)) d) }) ∧
  (∀ s : State, Awake s → (s.dev.holding = false ∨ s.dev.exposing = false) → exec .finishLimitExpiry s = .next s) ∧
  (∀ (e : Env) (s : State), Awake s → s.dev.mode.changing = true → s.dev.exposing = true →
    s.dev.mode.leaveReq = none →
    ((s.dev.applyHold.allStopped = true ∧ (s.dev.mode.holdAtLayerEnd = true → s.dev.applyHold.running = none)) →
      ∃ t, exec (.safePointReached e) s = .next t ∧ OnlyDevice s t ∧ t.dev.mode.cur = .hold ∧
        t.dev.mode.prev = s.dev.mode.cur ∧ t.dev.mode.holdFrom = s.dev.mode.cur ∧
        t.dev.mode.lastCause = s.dev.mode.holdTrig ∧ t.dev.mode.changing = false) ∧
    (s.dev.applyHold.allStopped = false →
      exec (.safePointReached e) s = .next { s with dev := s.dev.applyHold })) ∧
  (∀ (e : Env) (q : Req) (s : State), Awake s → s.dev.mode.leaveReq = some q →
    (s.dev.applyHold.allStopped = true →
      exec (.safePointReached e) s = .next { s with dev := ((({ s.dev.applyHold with
        mode := { s.dev.applyHold.mode with changing := false, leaveReq := none } } : Dev).goMode .standby).ok q 0 0 0 0) }) ∧
    (s.dev.applyHold.allStopped = false →
      exec (.safePointReached e) s = .next { s with dev := s.dev.applyHold })) ∧
  (∀ (e : Env) (s : State), Awake s → s.dev.mode.changing = false → s.dev.mode.leaveReq = none →
    exec (.safePointReached e) s = .next s) ∧
  (∀ (b : Fin 16) (s : State), Awake s → ((s.dev.port b).wakeTx = true ∨ (s.dev.port b).wakeRx = true) →
    (s.dev.scn.sleeps = [] → s.dev.mode.wakeReq = none → s.dev.scn.ports.length = 16 →
      ∃ t, exec (.wakeComplete b true) s = .next t ∧ OnlyDevice s t ∧
        (t.dev.port b).txSleep = ((s.dev.port b).txSleep && !(s.dev.port b).wakeTx) ∧
        (t.dev.port b).rxSleep = ((s.dev.port b).rxSleep && !(s.dev.port b).wakeRx) ∧
        (t.dev.port b).wakeTx = false ∧ (t.dev.port b).wakeRx = false ∧ t.dev.mode = s.dev.mode ∧
        ∀ c, c ≠ b.val → t.dev.port c = s.dev.port c) ∧
    exec (.wakeComplete b false) s = .next { s with dev := (s.dev.linkFault b).pumpWake }) ∧
  (∀ (r : Req) (e : Env) (s : State) (u : Nat), Takes s 0x0B04 cmdFenceLift r → u = r.a0.get 0 5 →
    ∃ t, exec (.fenceLift r e) s = .next t ∧ OnlyDevice s t ∧ t.dev.fencedUnit u = false ∧
      (∀ v, v ≠ u → t.dev.fencedUnit v = s.dev.fencedUnit v) ∧ t.dev.mode = s.dev.mode ∧
      (u < 18 → s.dev.engines.length = 18 →
        t.dev.rd (BE_MAP u) = 0x100 ∧ (t.dev.eng u).queue = [] ∧ (t.dev.eng u).runs = [] ∧
        ∀ v, v ≠ u → t.dev.eng v = s.dev.eng v)) ∧
  (∀ (r : Req) (e : Env) (s : State) (d : Dev), Up s → s.dev.mayTake (asOp 0x0B04 r) = true →
    s.dev.ringType r.ring = 2 → d = started s 0x0B04 r → cmdFenceLift.check d (asOp 0x0B04 r) = some (stLimit, 0x0B04) →
    s.dev.fencedUnit (r.a0.get 0 5) = false ∧
      exec (.fenceLift r e) s = .next { s with dev := d.fail (asOp 0x0B04 r) stLimit 0x0B04 })

/-- LAYER_OPEN (R105 to R109). One that passes opens its layer behind the one that is open, with its table referenced
and the flow vector normalised; a number out of order, a flow vector out of tolerance and a table that is not loaded
complete LIMIT and open nothing; with two layers open it is not executed. LAYER_START and the layer-start tick (R77,
R110, R111, R183). In BUILD the command puts its conditions on the layer and stays in flight, and with no other layer in
exposure the grids that wait are due; outside BUILD it is not executed. The tick, once fixed, starts the layer: emission
counts and the Woram record begin, and time has come to it. A start wait that runs out completes TIMEOUT with the
conditions missing. -/
def Obligations.LayersOpenAndStart : Prop :=
  (∀ (r : Req) (e : Env) (s : State) (d : Dev) (q : Req), Takes s 0x0201 cmdLayerOpen r →
    d = started s 0x0201 r → q = asOp 0x0201 r →
    (∀ fx fy, flowOf (signed 32 r.a3.toNat) (signed 32 r.a4.toNat) = some (fx, fy) →
      s.dev.numberBad (r.a0.get 0 24) = false → (s.dev.table r.a2.toNat).isSome = true →
      ∃ t l, exec (.layerOpen r e) s = .next t ∧ OnlyDevice s t ∧ t.dev.lay.opened = s.dev.lay.opened ++ [l] ∧
        l.num = r.a0.get 0 24 ∧ l.count = r.a1.get 0 16 ∧ l.ptab = r.a2.toNat ∧ l.flowX = fx ∧ l.flowY = fy ∧
        l.bargeWait = (if r.a5 = 0 then 1000 else r.a5.get 0 16) ∧ l.barges = [] ∧ l.started = false ∧
        (s.dev.replay = none → t.dev.tableUsed r.a2.toNat = true) ∧ t.dev.lay.slots = s.dev.lay.slots) ∧
    (s.dev.numberBad (r.a0.get 0 24) = true →
      exec (.layerOpen r e) s = .next { s with dev := d.fail q stLimit 0x0201 }) ∧
    (flowOf (signed 32 r.a3.toNat) (signed 32 r.a4.toNat) = none → s.dev.numberBad (r.a0.get 0 24) = false →
      exec (.layerOpen r e) s = .next { s with dev := d.fail q stLimit 0x0203 }) ∧
    ((flowOf (signed 32 r.a3.toNat) (signed 32 r.a4.toNat)).isSome = true → s.dev.numberBad (r.a0.get 0 24) = false →
      s.dev.table r.a2.toNat = none →
      exec (.layerOpen r e) s = .next { s with dev := d.fail q stLimit 0x0204 })) ∧
  (∀ (r : Req) (e : Env) (s : State), s.dev.ringType r.ring = 1 → 2 ≤ s.dev.lay.opened.length →
    exec (.layerOpen r e) s = .next s) ∧
  (∀ (r : Req) (e : Env) (s : State), Takes s 0x0202 cmdLayerStart r →
    ∃ d, d = (if s.dev.exposed = none then (started s 0x0202 r).gridsDue else started s 0x0202 r) ∧
      exec (.layerStart r e) s = .next { s with dev := (d.modLayer r.a0.toNat (fun l => { l with
        startReq := some (asOp 0x0202 r), recoatWait := r.a1.bit 0
        startWait := if r.a2 = 0 then 60000 else r.a2.toNat })) }) ∧
  (∀ (r : Req) (e : Env) (s : State), s.dev.mode.cur ≠ .build → s.dev.ringType r.ring = 1 →
    exec (.layerStart r e) s = .next s) ∧
  (∀ (s : State) (l : Layer) (k : Nat), Awake s → s.dev.mode.cur = .build → s.dev.holding = false →
    s.dev.starting = some l → l.startTick = some k →
    exec .layerStartTick s = .next { s with dev := s.dev.layerBegin l k }) ∧
  (∀ s : State, Awake s → s.dev.mode.cur ≠ .build → exec .layerStartTick s = .next s) ∧
  (∀ (s : State) (l : Layer) (q : Req), Awake s → s.dev.mode.cur = .build → s.dev.starting = some l →
    l.startTick = none → l.startReq = some q → (s.dev.recoatOk l && s.dev.thresholdOk l) = false →
    ∃ d, d = s.dev.modLayer l.num (fun x => { x with startReq := none, startTick := none }) ∧
      exec .startWaitTimeout s = .next { s with dev := (d.complete q stTimeout 0x0207
        (words4 (bitOf (!s.dev.recoatOk l) + 2 * bitOf (!s.dev.thresholdOk l)) 0 0 0)) }) ∧
  (∀ s : State, Awake s → s.dev.starting = none → exec .startWaitTimeout s = .next s)

/-- A layer closes (R112 to R115, R183): at its end, when every announced barge has completed, with the status of R112;
when the wait for further barges expires, TIMEOUT with XSTATUS 0x0206 and the number missing; what waited for no layer to
be in exposure comes before LAYER_START completes. LAYER_DISCARD closes an open layer that has not started and rejects
one whose LAYER_START has. LAYER_QUERY answers what stands of the layer, zeros where it is not open. -/
def Obligations.LayersClose : Prop :=
  (∀ (d : Dev) (num flags : Nat) (how : Option CloseHow), (d.closeLayer num how flags).layer? num = none) ∧
  (∀ (d : Dev) (l : Layer) (how : Option CloseHow) (flags : Nat),
    d.endLayer l how flags = ((d.shutLayer l.num flags).commitGrids.gridsDue.pumpCommits).tellClosed l how) ∧
  (∀ (d : Dev) (l : Layer) (q : Req), l.startReq = some q →
    d.tellClosed l none = d.complete q l.status 0 (words4 l.tally.1 l.tally.2 0 0) ∧
    d.tellClosed l (some (stTimeout, 0x0206, l.count - l.barges.length)) =
      d.complete q stTimeout 0x0206 (words4 l.tally.1 l.tally.2 (l.count - l.barges.length) 0)) ∧
  (∀ (s : State) (l : Layer), Awake s → s.dev.doneLayer = some l →
    l.barges.all (fun b => b.done.isSome) = true ∧ l.count ≤ l.barges.length ∧
      exec .layerEnd s = .next { s with dev := ((s.dev.endLayer l none 0).autoRecoat).checkStart }) ∧
  (∀ s : State, Awake s → s.dev.doneLayer = none → exec .layerEnd s = .next s) ∧
  (∀ (s : State) (l : Layer), Awake s → s.dev.shortLayer = some l →
    l.startReq.isSome = true ∧ l.barges.length < l.count ∧
      exec .bargeWaitTimeout s = .next { s with dev :=
        ((s.dev.endLayer l (some (stTimeout, 0x0206, l.count - l.barges.length)) 8).checkStart) }) ∧
  (∀ s : State, Awake s → s.dev.shortLayer = none → exec .bargeWaitTimeout s = .next s) ∧
  (∀ (r : Req) (e : Env) (s : State) (l : Layer) (d : Dev), Takes s 0x0203 cmdLayerDiscard r →
    s.dev.layer? r.a0.toNat = some l → d = started s 0x0203 r →
    (l.startReq = none →
      exec (.layerDiscard r e) s = .next { s with dev :=
        ((((d.purgeLayer r.a0.toNat).abortRest r.a0.toNat).closeLayer r.a0.toNat none 0).ok (asOp 0x0203 r) 0 0 0 0) }) ∧
    (l.startReq.isSome = true →
      exec (.layerDiscard r e) s = .next { s with dev := d.fail (asOp 0x0203 r) stReject 0x0205 })) ∧
  (∀ (r : Req) (e : Env) (s : State), Takes s 0x0203 cmdLayerDiscard r → s.dev.layer? r.a0.toNat = none →
    exec (.layerDiscard r e) s =
      .next { s with dev := (started s 0x0203 r).fail (asOp 0x0203 r) stMalformed 0x0202 }) ∧
  (∀ (r : Req) (e : Env) (s : State), Takes s 0x0280 cmdLayerQuery r →
    (∀ l, s.dev.layer? r.a0.toNat = some l →
      exec (.layerQuery r e) s = .next { s with dev := ((started s 0x0280 r).ok (asOp 0x0280 r)
        ((if l.startReq.isSome then 2 else 1) + l.barges.length * 65536) l.count
        ((l.barges.flatMap (fun b => b.recs)).filter VRec.full).length 0) }) ∧
    (s.dev.layer? r.a0.toNat = none →
      exec (.layerQuery r e) s = .next { s with dev := (started s 0x0280 r).ok (asOp 0x0280 r) 0 0 0 0 }))

/-- A barge is accepted whole or not at all (R126, R127). A record that ends outside the bed is no part of any barge the
device accepts (R104). -/
def Obligations.BargesAreAcceptedWhole : Prop :=
  (∀ (r : Req) (e : Env) (s : State), TakesData s 0x0301 cmdBarge r e →
    (s.dev.basinRoom r.dataLen = true →
      (∀ rs, s.dev.bargeCheck (dataOf r e) false = .ok rs →
        ∃ t, exec (.barge r e) s = .next t ∧ OnlyDevice s t ∧
          t.dev = (started s 0x0301 r).modLayer (bytesAt (dataOf r e) 8 4) (fun l => { l with barges := l.barges ++
            [⟨asOp 0x0301 r, bytesAt (dataOf r e) 12 4, (dataOf r e).length, rs.map (fun x => newRec x s.dev.tb3),
              sha384 (dataOf r e), false, none, none⟩] })) ∧
      (∀ st x r0, s.dev.bargeCheck (dataOf r e) false = .error (st, x, r0) →
        ∃ t, exec (.barge r e) s = .next t ∧ OnlyDevice s t ∧ t.dev.lay = s.dev.lay ∧
          t.dev = (started s 0x0301 r).complete (asOp 0x0301 r) st x (words4 r0 0 0 0))) ∧
    (s.dev.basinRoom r.dataLen = false →
      ∃ t, exec (.barge r e) s = .next t ∧ OnlyDevice s t ∧
        t.dev.lay = { s.dev.lay with basinWait := s.dev.lay.basinWait ++ [asOp 0x0301 r] })) ∧
  (∀ (d : Dev) (b : List Byte) (cal : Bool) (rs : List Rec), d.bargeCheck b cal = .ok rs →
    rs.length = bytesAt b 20 4 ∧
      ∀ r ∈ rs, -2144000 ≤ r.x ∧ r.x ≤ 2144000 ∧ -2144000 ≤ r.y ∧ r.y ≤ 2144000)

/-- Dispatch (R20, R122, R205, R231): a barge that waited for basin space is fetched when there is room; while the lock
keeper is neither off nor frozen, the oldest barge not yet dispatched gives its units to engines and lock queues, in
order; entries that waited enter a lock's queue as far as there is room. Parameter tables (R109, R129 to R132): a table that passes every check replaces the one of its ID, or
takes a free slot; no table that an open layer references is replaced or dropped. -/
def Obligations.BargesAndTables : Prop :=
  (∀ (n : Fin 64) (idx : BitVec 16) (e : Env) (q : Req) (s : State), Up s → e.dataFail = none →
    s.dev.lay.basinWait.find? (fun q => q.ring == n.val && q.idx == idx.toNat) = some q →
    (s.dev.basinRoom q.dataLen = true →
      exec (.basinSpaceFetch n idx e) s = .next { s with dev :=
        ((s.dev.modLay (fun y => { y with basinWait := y.basinWait.filter (fun x => x != q) })).acceptBarge q
          (e.data.take q.dataLen)) }) ∧
    (s.dev.basinRoom q.dataLen = false → exec (.basinSpaceFetch n idx e) s = .next s)) ∧
  (∀ (s : State) (l : Layer) (b : Barge) (k : Nat) (d : Dev) (rs : List Rec), Awake s → s.dev.keeperOn = true →
    s.dev.lay.opened.find? (fun l => l.barges.any (fun b => !b.dispatched)) = some l →
    l.barges.findIdx? (fun b => !b.dispatched) = some k → l.barges[k]? = some b →
    d = s.dev.modLayer l.num (fun x => { x with barges := modAt x.barges k (fun b => { b with dispatched := true }) }) →
    rs = b.recs.map (fun v => v.r) →
    exec .bargeDispatch s = .next { s with dev := ((((unitsOf rs).map (fun is => is.filter (fun i =>
        decide (i < b.lostFrom.getD rs.length)))).filter (fun is => !is.isEmpty)).foldl (fun d idxs =>
          d.dispatch (mkUnit l.num b.id (k * 65536) d.devId rs idxs)) d).checkBarge l.num b.id }) ∧
  (∀ (d : Dev) (u : WUnit) (b n : Nat), bitList 16 (u.recs.headD default).elig = [b] → d.beamLive b = true →
    d.engineOf b = some n → d.dispatch u = d.enqueue n u) ∧
  (∀ s : State, Awake s → ((∀ l ∈ s.dev.lay.opened, l.barges.all (fun b => b.dispatched) = true) ∨
      s.dev.keeperOn = false) →
    exec .bargeDispatch s = .next s) ∧
  (∀ (i : Fin 64) (s : State), Awake s → s.dev.keeper.locks.length = 64 →
    ∃ t, exec (.lockQueueRoom i) s = .next t ∧ OnlyDevice s t ∧
      (t.dev.lockQ i).queue = (s.dev.lockQ i).queue ++ (s.dev.lockQ i).wait.take (4096 - (s.dev.lockQ i).queue.length) ∧
      (t.dev.lockQ i).wait = (s.dev.lockQ i).wait.drop (4096 - (s.dev.lockQ i).queue.length) ∧
      ∀ j, j ≠ i.val → t.dev.lockQ j = s.dev.lockQ j) ∧
  (∀ (r : Req) (e : Env) (s : State) (tab : Table), TakesData s 0x0401 cmdPtabLoad r e →
    parseTable (dataOf r e) = .ok tab →
    (s.dev.tableUsed tab.id = true →
      exec (.ptabLoad r e) s = .next { s with dev := (started s 0x0401 r).fail (asOp 0x0401 r) stLimit 0x0402 }) ∧
    (∀ i, s.dev.tableUsed tab.id = false →
      (s.dev.slotOf tab.id = some i ∨ (s.dev.slotOf tab.id = none ∧
        s.dev.lay.slots.findIdx? (fun x => x.isNone) = some i)) →
      ∃ t, exec (.ptabLoad r e) s = .next t ∧ OnlyDevice s t ∧ t.dev.lay.slots = s.dev.lay.slots.set i (some tab) ∧
        (t.dev.table tab.id).isSome = true ∧ t.dev.lay.opened = s.dev.lay.opened) ∧
    (s.dev.tableUsed tab.id = false → s.dev.slotOf tab.id = none →
      s.dev.lay.slots.findIdx? (fun x => x.isNone) = none →
      exec (.ptabLoad r e) s = .next { s with dev := (started s 0x0401 r).fail (asOp 0x0401 r) stLimit 0x0403 })) ∧
  (∀ (r : Req) (e : Env) (s : State), TakesData s 0x0401 cmdPtabLoad r e →
    ∀ st x r0 r1, parseTable (dataOf r e) = .error (st, x, r0, r1) →
      exec (.ptabLoad r e) s = .next { s with dev :=
        ((started s 0x0401 r).complete (asOp 0x0401 r) st x (words4 r0 r1 0 0)) }) ∧
  (∀ (r : Req) (e : Env) (s : State), Takes s 0x0402 cmdPtabDrop r →
    ∃ t i, exec (.ptabDrop r e) s = .next t ∧ OnlyDevice s t ∧ s.dev.slotOf r.a0.toNat = some i ∧
      t.dev.lay.slots = s.dev.lay.slots.set i none ∧ t.dev.lay.opened = s.dev.lay.opened) ∧
  (∀ (r : Req) (e : Env) (s : State), Takes s 0x0480 cmdPtabQuery r →
    ∃ f : Nat → Nat, (∀ i, f i = match s.dev.lay.slots.getD i none with | some t => t.id | none => 0) ∧
      exec (.ptabQuery r e) s = .next { s with dev := (started s 0x0480 r).ok (asOp 0x0480 r) (f 0) (f 1) (f 2) (f 3) })

/-- A write of a CNT_CLR register zeroes the counters whose bits are 1, and no other register changes (R166, R236, R265,
R288, R318, R332, R363): engines, melt-pool law, lock keeper, ledger, DRAM; in the block of an absent or fenced engine it
does nothing (R9, R481). The same for the ports: bit b zeroes the
counters of scanner port, laser output, camera port, Byoft port b; timed outputs and captures by bits 7:0 and 15:8
(R318, R332, R308, R388, R406, R410). -/
def Obligations.CountersClear : Prop :=
  (∀ (val : Word) (s : State) (c : Instr) (regs : List Nat), Up s →
    ((∃ n : Fin 18, s.dev.engBlock n = true ∧ c = .benCntClr n val ∧ regs = [BE_CNT n 0, BE_CNT n 1, BE_CNT n 2]) ∨
     (∃ n : Fin 18, s.dev.engBlock n = true ∧ c = .mpCntClr n val ∧
        regs = [BE_MP_CNT n 0, BE_MP_CNT n 1, BE_MP_CNT n 2, BE_MP_CNT n 3]) ∨
     (c = .lkCntClr val ∧ regs = [LK_CNT 0, LK_CNT 1, LK_CNT 2, LK_CNT 3, LK_CNT 4]) ∨
     (c = .ldgCntClr val ∧ regs = [LDG_CNT 0, LDG_CNT 1, LDG_CNT 2, LDG_CNT 3]) ∨
     (c = .dramCntClr val ∧ regs = [DRAM_CE_CNT, DRAM_UE_CNT])) →
    ∃ t, exec c s = .next t ∧ OnlyDevice s t ∧ t.dev = { s.dev with regs := t.dev.regs } ∧
      (∀ i (h : i < regs.length), t.dev.rd regs[i] = if val.bit i then 0 else s.dev.rd regs[i]) ∧
      ∀ off, off ∉ regs → t.dev.rd off = s.dev.rd off) ∧
  (∀ (n : Fin 18) (val : Word) (s : State), s.dev.engBlock n = false →
    exec (.benCntClr n val) s = .next s ∧ exec (.mpCntClr n val) s = .next s) ∧
  (∀ (val : Word) (s : State) (c : Instr) (regs : Nat → List Nat) (n : Nat), Up s →
    ((c = .scnCntClr val ∧ n = nBeams s.dev.variant ∧
        regs = fun b => [SCN_PORT_CNT b 0, SCN_PORT_CNT b 1, SCN_PORT_CNT b 2]) ∨
     (c = .lasCntClr val ∧ n = nBeams s.dev.variant ∧ regs = fun b => [LAS_CNT b 0, LAS_CNT b 1]) ∨
     (c = .visCntClr val ∧ n = 20 ∧
        regs = fun p => [VIS_PORT_CNT p 0, VIS_PORT_CNT p 1, VIS_PORT_CNT p 2, VIS_PORT_DISC_CNT p]) ∨
     (c = .byfCntClr val ∧ n = nByoft s.dev.variant ∧
        regs = fun p => [BYF_PORT_RETRY_CNT p, BYF_PORT_CRC_CNT p, BYF_PORT_RETRAIN_CNT p]) ∨
     (c = .timeCntClr val ∧ n = 16 ∧
        regs = fun i => if i < 8 then [TIME_TOUT_SKIP_CNT i] else [TIME_TCAP_DROP_CNT (i - 8)])) →
    ∃ t, exec c s = .next t ∧ OnlyDevice s t ∧ t.dev = { s.dev with regs := t.dev.regs } ∧
      (∀ i off, i < n → off ∈ regs i → t.dev.rd off = if val.bit i then 0 else s.dev.rd off) ∧
      ∀ off, (∀ i, i < n → off ∉ regs i) → t.dev.rd off = s.dev.rd off)

/-- A ramp table entry is common to every present engine (R170): a write in any present engine that is not fenced writes
it in all of them, with 0x8000 for what is above it. Outside CONFIGURE, and in a fenced or absent engine, it writes
none. -/
def Obligations.RampTablesAreCommon : Prop :=
  ∀ (n : Fin 18) (k : Fin 32) (i : Fin 33) (val : Word) (s : State), Up s →
    (s.dev.mode.cur = .configure → s.dev.engBlock n = true →
      ∃ t, exec (.rampTableWrite n k i val) s = .next t ∧ OnlyDevice s t ∧ t.dev = { s.dev with regs := t.dev.regs } ∧
        (∀ m, m < nEngines s.dev.variant →
          t.dev.rd (BE_RAMP m k i) = BitVec.ofNat 32 (Nat.min 0x8000 (val.get 0 16))) ∧
        ∀ off, (∀ m, m < nEngines s.dev.variant → off ≠ BE_RAMP m k i) → t.dev.rd off = s.dev.rd off) ∧
    ((s.dev.fencedUnit n = true ∨ nEngines s.dev.variant ≤ n) → exec (.rampTableWrite n k i val) s = .next s) ∧
    (s.dev.mode.cur ≠ .configure → s.dev.engBlock n = true → val.get 0 16 ≠ s.dev.fld (BE_RAMP n k i) 0 16 →
      exec (.rampTableWrite n k i val) s = .next { s with dev := s.dev.refuse (BE_RAMP n k i) }) ∧
    (s.dev.mode.cur ≠ .configure → val.get 0 16 = s.dev.fld (BE_RAMP n k i) 0 16 →
      exec (.rampTableWrite n k i val) s = .next s)

/-- The beam map (R136, R137): in CONFIGURE a map to a present beam that no other engine serves is stored; one that
conflicts, or names an absent beam, is discarded and sets MAP_BAD; elsewhere a write that differs is refused. Residues
and island memories (R42, R162, R164): a mismatch on the segment in planning, or an uncorrectable error in a vector
record the engine holds, has that segment computed again, twice at most, counted and reported; the third is a fault of
the engine; so is an uncorrectable error in program memory or the tick queue; a corrected error is reported. -/
def Obligations.EngineMapAndErrors : Prop :=
  (∀ (n : Fin 18) (val v : Word) (s : State), Up s → v = val &&& 0x8000011F →
    (s.dev.engBlock n = false → exec (.benMapWrite n val) s = .next s) ∧
    (s.dev.engBlock n = true → s.dev.mode.cur = .configure →
      (v.get 0 5 < nBeams s.dev.variant →
        (∀ m, m < nEngines s.dev.variant → m ≠ n.val → s.dev.beamOf m = some (v.get 0 5) → v.bit 31 = false) →
        ∃ t, exec (.benMapWrite n val) s = .next t ∧ OnlyDevice s t ∧ t.dev.rd (BE_MAP n) = v ∧
          ∀ off, off ≠ BE_MAP n → t.dev.rd off = s.dev.rd off) ∧
      ((nBeams s.dev.variant ≤ v.get 0 5 ∨
          ∃ m, m < nEngines s.dev.variant ∧ m ≠ n.val ∧ s.dev.beamOf m = some (v.get 0 5) ∧ v.bit 31 = true) →
        ∃ t, exec (.benMapWrite n val) s = .next t ∧ OnlyDevice s t ∧ t.dev.bit (BE_ERR n) 8 = true ∧
          ∀ off, off ≠ BE_ERR n → t.dev.rd off = s.dev.rd off)) ∧
    (s.dev.engBlock n = true → s.dev.mode.cur ≠ .configure →
      exec (.benMapWrite n val) s = .next (if v = s.dev.rd (BE_MAP n) then s
        else { s with dev := s.dev.refuse (BE_MAP n) }))) ∧
  (∀ (n : Fin 18) (s : State), Awake s → s.dev.fencedUnit n = false →
    (∀ u i, (s.dev.eng n).segment = some (u, i) →
      exec (.residueMismatch n) s = .next { s with dev := s.dev.mismatch n u i }) ∧
    ((s.dev.eng n).segment = none → exec (.residueMismatch n) s = .next s) ∧
    (∀ k u i, (s.dev.eng n).records[k]? = some (u, i) →
      exec (.islandEccError n (.record k)) s = .next { s with dev := s.dev.mismatch n u i }) ∧
    (∀ k, (s.dev.eng n).records[k]? = none → exec (.islandEccError n (.record k)) s = .next s) ∧
    exec (.islandEccError n .corrected) s = .next { s with dev := s.dev.fault (n + 2) 5 } ∧
    exec (.islandEccError n .program) s = .next { s with dev := s.dev.fault (n + 2) 6 }) ∧
  (∀ (d : Dev) (n : Nat) (u : WUnit) (i : Nat),
    ((d.eng n).retriesOf (u.segKey i) < 2 → n < d.engines.length →
      ∃ d' : Dev, d.mismatch n u i = d'.fault (n + 2) 3 ∧ d'.rd (BE_CNT n 0) = satInc (d.rd (BE_CNT n 0)) 1 ∧
        (d'.eng n).retriesOf (u.segKey i) = (d.eng n).retriesOf (u.segKey i) + 1) ∧
    (2 ≤ (d.eng n).retriesOf (u.segKey i) → d.mismatch n u i = d.fault (n + 2) 4))

/-- The final stage (R133, R157, R158, R163): no correction raises a tick's power above the ceiling of its beam, and a
mismatch of the two datapaths gives the tick code 0 and MOD low. The correction law (R278): what it answers lies within
the set's limits, whatever the measurements were, and its integrators within theirs or where they were. -/
def Obligations.PowerAndCorrectionStayWithin : Prop :=
  (∀ (d : Dev) (n b : Nat) (x : TickEntry) (mismatch : Bool), x ∈ (d.eng n).tickQ →
    (mismatch = false →
      ∀ y ∈ ((d.finalStage n b x mismatch).eng n).tickQ, y.tick = x.tick →
        y.code.isSome = true ∧ y.power ≤ d.fld (LAS_CEIL b) 0 24 ∧ y.power ≤ x.weir ∧
          (d.mode.cur = .calibrate → y.power ≤ d.fld (BE_CAL_CEIL n) 0 24)) ∧
    (mismatch = true →
      ∃ d' : Dev, d.finalStage n b x mismatch = d'.fault (n + 2) 2 ∧
        ∀ y ∈ (d'.eng n).tickQ, y.tick = x.tick →
          y.code = some 0 ∧ y.power = 0 ∧ y.modHigh = false ∧ y.rise = none ∧ y.fall = none)) ∧
  (∀ (l : Law) (p : LawSet) (k : LawTick), p.fbMin ≤ p.fbMax →
    p.fbMin ≤ (l.fbTick p k).fb ∧ (l.fbTick p k).fb ≤ p.fbMax ∧
      (p.fbMin * 2 ^ 8 ≤ l.ipd → l.ipd ≤ p.fbMax * 2 ^ 8 →
        p.fbMin * 2 ^ 8 ≤ (l.fbTick p k).ipd ∧ (l.fbTick p k).ipd ≤ p.fbMax * 2 ^ 8) ∧
      (p.fbMin * 2 ^ 8 ≤ l.icam → l.icam ≤ p.fbMax * 2 ^ 8 →
        p.fbMin * 2 ^ 8 ≤ (l.fbTick p k).icam ∧ (l.fbTick p k).icam ≤ p.fbMax * 2 ^ 8))

/-- The tick (R30, R31, R143, R144). A strobe brings the time to the next tick boundary and releases every beam; the FB
cut-off, 250 ns before it, shows the photodiode windows and, where the engine computes, forms the law and runs the final
stage on the entry of the tick; the plan stage goes on with the unit in hand. Engines go on (R124, R140, R207, R247,
R273, R274): a barrier wait with nothing left to wait with ends; a spare that has taken a beam over serves it; the dry
time of a served beam is shown in ticks from the layer-start tick, that of any other as none; an outcome is reported once
the ledger holds its energy; a feature record that is usable and in time is shown and waits for the law, one that comes
late is counted, and one of no use leaves its frame stale. -/
def Obligations.TicksAndEngines : Prop :=
  (∀ (d : Dev) (t : Nat), d.tb3 ≤ t → (d.advanceTo t).tb3 = t) ∧
  (∀ (e : TickEnv) (s : State), Awake s → 2 ≤ s.dev.mode.boot →
    exec (.tickStrobe e) s = .next { s with dev :=
      (s.dev.strobe e).pumpReplay.pumpCal.endStops.tickMessages.tellTopo.pumpCommits }) ∧
  (∀ (n : Fin 18) (p : PdEnv) (s : State) (d : Dev), Awake s →
    d = s.dev.advanceTo ((s.dev.tick + 1) * perTick - 4000) →
    ((s.dev.mode.boot < 2 ∨ s.dev.fencedUnit n = true ∨ s.dev.wdDone = true) →
      exec (.fbCutoff n p) s = .next { s with dev := d }) ∧
    (2 ≤ s.dev.mode.boot → s.dev.fencedUnit n = false → s.dev.wdDone = false →
      ((s.dev.computing = false ∨ s.dev.beamOf n = none) →
        exec (.fbCutoff n p) s = .next { s with dev := d.pdLive n (d.pdWindow n p) }) ∧
      (∀ b x, s.dev.computing = true → s.dev.beamOf n = some b →
        (s.dev.eng n).tickQ.find? (fun x => x.tick == s.dev.tick + 1) = some x →
        ∃ d' : Dev, exec (.fbCutoff n p) s = .next { s with dev := d'.finalStage n b x p.mismatch }))) ∧
  (∀ (n : Fin 18) (k : Nat) (s : State) (d : Dev), Awake s → d = s.dev.applyHold →
    (d.planning n = true →
      exec (.enginePlan n k) s = .next { s with dev :=
        (Dev.planTicks n (Nat.min k 2048) (if (d.openRun n).isSome then d else d.startRun n)) }) ∧
    (d.planning n = false → exec (.enginePlan n k) s = .next { s with dev := d })) ∧
  (∀ s : State, Awake s → (∀ n, (s.dev.eng n).queue = []) →
    ∃ t, exec .barrierRelease s = .next t ∧ OnlyDevice s t ∧ (∀ n, n < 18 → (t.dev.eng n).barrier = none) ∧
      t.dev.regs = s.dev.regs) ∧
  (∀ (b : Fin 16) (m : Nat) (s : State), Awake s → s.dev.engineOf b = some m → s.dev.engines.length = 18 →
    ((s.dev.eng m).taking = true → s.dev.fencedUnit m = false →
      ∃ t, exec (.spareTakeoverDone b) s = .next t ∧ OnlyDevice s t ∧ (t.dev.eng m).taking = false ∧
        (t.dev.eng m).next = s.dev.tick + 1 ∧ t.dev.mode = s.dev.mode ∧ ∀ k, k ≠ m → t.dev.eng k = s.dev.eng k) ∧
    ((s.dev.eng m).taking = false → exec (.spareTakeoverDone b) s = .next s)) ∧
  (∀ (n : Fin 18) (b : Nat) (s : State), Awake s → s.dev.fencedUnit n = false → s.dev.beamOf n = some b →
    ∃ t, exec (.dryTimeReport n) s = .next t ∧ OnlyDevice s t ∧
      t.dev.rd (LK_QTIME b) =
        (if s.dev.served b = true then BitVec.ofNat 32 (s.dev.dryTick n - s.dev.layerTick) else 0xFFFFFFFF) ∧
      ∀ off, off ≠ LK_QTIME b → t.dev.rd off = s.dev.rd off) ∧
  (∀ (n : Fin 18) (x : Done) (xs : List Done) (s : State), Awake s → (s.dev.eng n).done = x :: xs →
    (((s.dev.eng n).owes x.seq = false ∨ s.dev.fencedUnit n = true) →
      ∃ d, d = (s.dev.modEng n (fun e => { e with done := xs })).reportDone x ∧
        exec (.vectorOutcome n) s = .next { s with dev := d.pumpCal }) ∧
    ((s.dev.eng n).owes x.seq = true → s.dev.fencedUnit n = false →
      exec (.vectorOutcome n) s = .next { s with dev := s.dev.pumpCal })) ∧
  (∀ (p : Fin 16) (n : Nat) (f : Feat) (fs : List Feat) (s : State) (d : Dev) (due : Nat), Awake s →
    s.dev.feats.getD p [] = f :: fs → s.dev.engineOf p = some n → s.dev.fencedUnit n = false →
    d = { s.dev with feats := s.dev.feats.set p fs } → due = f.end_ + s.dev.fld (BE_CAM_CFG n) 0 16 * 16 →
    (s.dev.tb3 ≤ due → s.dev.usable n f = true →
      exec (.featureArrival p) s = .next { s with dev :=
        ((d.wrN (BE_CAM_LAST n) (f.area % 2 ^ 13 + (f.seq % 2 ^ 16) * 2 ^ 16)).modLaw n (fun l =>
          { l with stale := 0, waiting := l.waiting ++ [{ f with came := s.dev.tb3 }] })) }) ∧
    (s.dev.tb3 ≤ due → s.dev.usable n f = false →
      exec (.featureArrival p) s = .next { s with dev := d.staleFrame n f.trig }) ∧
    (due < s.dev.tb3 →
      exec (.featureArrival p) s = .next { s with dev := (d.count (BE_MP_CNT n 2) 1).staleFrame n f.trig }))

/-- The choice of a beam (R208): the beam that takes an entry is a candidate, and no candidate runs dry before it. A
decision (R208, R209, R225, R231): in BUILD outside a transition, once the halves whose turn has come have entered their
queues and no held vector has still to be committed again, each defined lock decides its head entry. The entry of the
layer in exposure whose least candidate is in reach goes to it, or to the beam served last where that is within the
hysteresis; one that no beam can take is skipped; nothing is decided outside BUILD but in a replay, whose recorded
decisions are imposed (R230). -/
def Obligations.LocksDecide : Prop :=
  (∀ (d : Dev) (gs : List Nat) (g : Nat), d.bestOf gs = some g → g ∈ gs ∧ ∀ h ∈ gs, d.qOf g ≤ d.qOf h) ∧
  (∀ (d : Dev) (gs : List Nat), d.bestOf gs = none → gs = []) ∧
  (∀ s : State, Awake s → s.dev.replay = none → s.dev.mode.cur = .build → s.dev.holding = false →
    exec .lkCycle s = .next { s with dev := (
      if s.dev.admitHalves.recommits then s.dev.admitHalves
      else (List.range 64).foldl (fun d i => if d.lockValid i then d.decideHead i else d) s.dev.admitHalves) }) ∧
  (∀ s : State, Awake s → s.dev.replay = none → (s.dev.mode.cur ≠ .build ∨ s.dev.holding = true) →
    exec .lkCycle s = .next s) ∧
  (∀ (r : Replay) (s : State), Awake s → s.dev.replay = some r →
    exec .lkCycle s = .next { s with dev := s.dev.replayCycle }) ∧
  (∀ (d : Dev) (i g : Nat) (u : WUnit) (rest : List WUnit) (l : Layer), (d.lockQ i).queue = u :: rest →
    d.running = some l → l.num = u.layer → u.half = none → (d.lockOfRecs u.recs).isSome = true →
    d.bestOf (d.candidates u i) = some g → d.qOf g ≤ d.now + d.fld LK_ASSIGN_CFG 0 16 →
    ((d.lockQ i).prev = none → d.decideHead i = (d.lockPop i).assign u g i) ∧
    (∀ p, (d.lockQ i).prev = some p → p ∈ d.candidates u i → d.qOf p ≤ d.qOf g + d.fld LK_ASSIGN_CFG 16 16 →
      d.decideHead i = (d.lockPop i).assign u p i)) ∧
  (∀ (d : Dev) (i : Nat) (u : WUnit) (rest : List WUnit) (l : Layer), (d.lockQ i).queue = u :: rest →
    d.running = some l → l.num = u.layer → u.half = none → (d.lockOfRecs u.recs).isSome = true →
    d.candidates u i = [] → d.decideHead i = (d.lockPop i).noExposure u 0 stSkipped)

/-- Commits (R214, R218, R220, R224, R225). The unit that waits on an engine is placed on ticks still ahead; one that no
peer must test commits with its shift, and its track is stored, and one that peers must test is sent to them; the next
part of a long chain commits in its place. A half 1 commits only after its half 0: co-moving where its half 0's sync time
can be met, else like any unit. Nothing commits where the keeper may not. A track leaves the store only when its last
tick and the hold have passed and the ledger has its energy. -/
def Obligations.UnitsCommit : Prop :=
  (∀ (n : Fin 18) (r : Run) (s : State), Awake s → s.dev.replay = none → s.dev.longRun n = none →
    s.dev.openRun n = some r → s.dev.committing n = true →
    (r.unit.half ≠ some 1 ∨ r.unit.resumed = true ∨ r.unit.solo = true) →
    ∀ f k c d, f = s.dev.freshStart n r → s.dev.ownShift n f = (k, c) → d = s.dev.setLastRun n f →
      (d.commitPeers (f.shift k) = [] → exec (.unitCommit n) s = .next { s with dev := d.commitWith n f k c }) ∧
      (d.commitPeers (f.shift k) ≠ [] → exec (.unitCommit n) s =
        .next { s with dev := d.askPeers n k c 0 f (d.commitPeers (f.shift k)) })) ∧
  (∀ (n : Fin 18) (r : Run) (s : State), Awake s → s.dev.committing n = true → s.dev.longRun n = some r →
    s.dev.commitPeers { r with upTo := r.nextPart (r.upTo.getD 0) } = [] →
    exec (.unitCommit n) s = .next { s with dev := s.dev.extendRun n r false }) ∧
  (∀ (n : Fin 18) (s : State), Awake s → s.dev.committing n = false →
    exec (.unitCommit n) s = .next s ∧ exec (.half1Commit n) s = .next s) ∧
  (∀ (n : Fin 18) (r : Run) (s : State), Awake s → s.dev.openRun n = some r → s.dev.committing n = true →
    r.unit.half = some 1 → r.unit.resumed = false →
    (s.dev.longRun n = none → r.unit.solo = false → exec (.unitCommit n) s = .next s) ∧
    (s.dev.syncOf r.unit = none → exec (.half1Commit n) s = .next s) ∧
    (∀ sync f, s.dev.syncOf r.unit = some sync → f = s.dev.freshStart n r → s.dev.replay = none →
      (s.dev.mayCoMove n f sync = true → s.dev.commitPeers (f.coMove sync) = [] →
        f.stamp f.holdT + (toTs f.tOn - toTs f.holdT) ≤ sync ∧ r.unit.solo = false ∧
          exec (.half1Commit n) s = .next { s with dev := s.dev.commitCo n f sync }) ∧
      (s.dev.mayCoMove n f sync = false →
        exec (.half1Commit n) s = .next { s with dev := s.dev.submit n f }))) ∧
  (∀ (d : Dev) (n : Nat) (r : Run), ∃ g x, (d.commitRun n r).keeper.tracks = d.keeper.tracks ++ [⟨g, x⟩] ∧
    x.unit = r.unit ∧ x.committed = true) ∧
  (∀ s : State, Awake s → s.dev.keeperOn = true →
    ∃ t, exec .trackExpiry s = .next t ∧ OnlyDevice s t ∧ t.dev = { s.dev with keeper := t.dev.keeper } ∧
      (∀ x, x ∈ t.dev.keeper.tracks ↔ x ∈ s.dev.keeper.tracks ∧
        (s.dev.tick ≤ x.run.endTick + s.dev.plumeHold ∨
          ∃ n, s.dev.engineOf (x.beam % 16) = some n ∧ (s.dev.eng n).owes x.run.seq = true))) ∧
  (∀ s : State, Awake s → s.dev.keeperOn = false → exec .trackExpiry s = .next s)

/-- The fade table (R216, R236). In CONFIGURE a table that never rises never rises after a write either, whatever is
written: an entry that would make it rise is discarded and sets FADE_BAD, and entries 0 and 31 keep; elsewhere a write
that differs is refused. Lock definitions (R200, R201): VALID stands only on a definition that meets R200; a lock in
force keeps its fields, and while a layer is open none comes into or goes out of force: such a write sets LOCK_BAD in
every mode. A lock not in force takes what is written. -/
def Obligations.LockTables : Prop :=
  (∀ (i : Fin 32) (val : Word) (s : State), Up s → s.dev.mode.cur = .configure →
    (∀ k, k < 31 → s.dev.fld (LK_FADE (k + 1)) 0 16 ≤ s.dev.fld (LK_FADE k) 0 16) →
    ∃ t, exec (.fadeWrite i val) s = .next t ∧ OnlyDevice s t ∧
      (∀ k, k < 31 → t.dev.fld (LK_FADE (k + 1)) 0 16 ≤ t.dev.fld (LK_FADE k) 0 16) ∧
      t.dev.rd (LK_FADE 0) = s.dev.rd (LK_FADE 0) ∧ t.dev.rd (LK_FADE 31) = s.dev.rd (LK_FADE 31) ∧
      (0 < i.val → i.val < 31 → s.dev.fld (LK_FADE (i + 1)) 0 16 ≤ val.get 0 16 →
        val.get 0 16 ≤ s.dev.fld (LK_FADE (i - 1)) 0 16 → t.dev.fld (LK_FADE i) 0 16 = val.get 0 16) ∧
      (0 < i.val → i.val < 31 → s.dev.fld (LK_FADE (i - 1)) 0 16 < val.get 0 16 → t.dev.bit LK_ERR 9 = true)) ∧
  (∀ (i : Fin 32) (val : Word) (s : State), Up s →
    ((i.val = 0 ∨ i.val = 31) → exec (.fadeWrite i val) s = .next s) ∧
    (0 < i.val → i.val < 31 → s.dev.mode.cur ≠ .configure → val.get 0 16 ≠ s.dev.fld (LK_FADE i) 0 16 →
      exec (.fadeWrite i val) s = .next { s with dev := s.dev.refuse (LK_FADE i) })) ∧
  (∀ (i : Fin 64) (val v : Word) (s : State), Up s → s.dev.mode.cur = .configure → v = val &&& 0x80F0FFFF →
    (s.dev.lockValid i = false → v.bit 31 = true → s.dev.lay.opened = [] →
      ∃ t, exec (.lockDefine i val) s = .next t ∧ OnlyDevice s t ∧
        (t.dev.lockValid i = true →
          (((s.dev.wr (LK_LOCK_CTRL i) v).setBit (LK_LOCK_STATUS i) 16 false)).lockOk i = true ∧
            t.dev.rd (LK_LOCK_CTRL i) = v ∧ t.dev.bit (LK_LOCK_STATUS i) 16 = false) ∧
        (t.dev.lockValid i = false → t.dev.bit LK_ERR 8 = true)) ∧
    (s.dev.lockValid i ≠ v.bit 31 → s.dev.lay.opened ≠ [] →
      ∃ t, exec (.lockDefine i val) s = .next t ∧ OnlyDevice s t ∧ t.dev.bit LK_ERR 8 = true ∧
        ∀ off, off ≠ LK_ERR → t.dev.rd off = s.dev.rd off) ∧
    (s.dev.lockValid i = true → v.bit 31 = true → v ≠ s.dev.rd (LK_LOCK_CTRL i) →
      ∃ t, exec (.lockDefine i val) s = .next t ∧ OnlyDevice s t ∧ t.dev.bit LK_ERR 8 = true ∧
        ∀ off, off ≠ LK_ERR → t.dev.rd off = s.dev.rd off) ∧
    (s.dev.lockValid i = false → v.bit 31 = false →
      exec (.lockDefine i val) s = .next { s with dev := s.dev.wr (LK_LOCK_CTRL i) v }) ∧
    (s.dev.lockValid i = true → v.bit 31 = false → s.dev.lay.opened = [] →
      ∃ t, exec (.lockDefine i val) s = .next t ∧ OnlyDevice s t ∧ t.dev.lockValid i = false ∧
        t.dev.rd (LK_LOCK_CTRL i) = v ∧ t.dev.bit (LK_LOCK_STATUS i) 16 = false)) ∧
  (∀ (i : Fin 64) (val v : Word) (s : State), Up s → s.dev.mode.cur ≠ .configure → v = val &&& 0x80F0FFFF →
    (v = s.dev.rd (LK_LOCK_CTRL i) → exec (.lockDefine i val) s = .next s) ∧
    (v ≠ s.dev.rd (LK_LOCK_CTRL i) →
      ((s.dev.lockValid i ≠ v.bit 31 ∧ s.dev.lay.opened ≠ []) ∨ (s.dev.lockValid i = true ∧ v.bit 31 = true)) →
      exec (.lockDefine i val) s = .next { s with dev := (s.dev.setBit LK_ERR 8 true).refuse (LK_LOCK_CTRL i) }))

/-- A cleared ledger is cold (R250, R260): no point of it is preheated and none of its tiles is poisoned. The ledger's
work (R239, R246, R248, R250, R258, R260, R261): updates and loss notices are taken oldest first, one beyond the grid is
counted; a neighbour's update is applied to the cell of this device it names where the operational copy is open to it,
and one lost marks its tile; 32,000 ms after its start an epoch ends while a layer runs; LEDGER_CLEAR clears a copy, and
LEDGER_READ reads one cell by cell. The look-ahead (R250, R252): the oldest outstanding read of an engine is served,
once, in order. A fenced engine's traffic is ghost traffic (R483). -/
def Obligations.LedgerWork : Prop :=
  (∀ (d : Dev) (now : Nat) (cx cy : Int) (tArr : Nat), d.preheat (LCopy.cleared now) cx cy tArr = (0, false)) ∧
  (∀ (n : Fin 18) (u : LUpd) (us : List LUpd) (s : State) (d : Dev), Awake s → (s.dev.eng n).writes = u :: us →
    d = { s.dev with engines := modAt s.dev.engines n (fun e => { e with writes := us }.refill) } →
    (s.dev.fencedUnit n = true → exec (.ledgerUpdate n) s = .next { s with dev := d.ghost n 1 }) ∧
    (s.dev.fencedUnit n = false → s.dev.inGrid u.cx u.cy = true →
      exec (.ledgerUpdate n) s = .next { s with dev := (d.applyUpdate u.cx u.cy u.nj u.t).forwardUpdate u }) ∧
    (s.dev.fencedUnit n = false → s.dev.inGrid u.cx u.cy = false →
      exec (.ledgerUpdate n) s = .next { s with dev := d.count (LDG_CNT 3) 1 })) ∧
  (∀ (n : Fin 18) (s : State), Awake s → (s.dev.eng n).writes = [] → exec (.ledgerUpdate n) s = .next s) ∧
  (∀ (n : Fin 18) (u : LUpd) (rest : List LUpd) (s : State) (d : Dev), Awake s →
    (s.dev.eng n).notices = u :: rest →
    d = { s.dev with engines := modAt s.dev.engines n (fun e => { e with notices := rest }) } →
    (s.dev.fencedUnit n = true → exec (.ledgerLossNotice n) s = .next { s with dev := d.ghost n 1 }) ∧
    (s.dev.fencedUnit n = false →
      exec (.ledgerLossNotice n) s = .next { s with dev :=
        ((((d.bandPeers u.cx u.cy true).foldl (fun x v => if x.members.contains v then
          x.sendTo v 0x21 [(d.cellCorner u.cx u.cy).1, (d.cellCorner u.cx u.cy).2] else x) d).markInexact
            s.dev.onReplay (s.dev.tileOf u.cx u.cy).1).fault 21 4) })) ∧
  (∀ (n : Fin 18) (s : State), Awake s → (s.dev.eng n).notices = [] → exec (.ledgerLossNotice n) s = .next s) ∧
  (∀ (dev dst : Fin 8) (x y : Int) (nj : Word) (t : Word64) (s : State), Awake s → dst.val = s.dev.devId →
    (∀ cx cy, s.dev.bandOpen dev = true → s.dev.cellAt x y = some (cx, cy) →
      exec (.bandUpd ⟨dev, dst⟩ x y nj t) s = .next { s with dev := s.dev.applyTo false cx cy nj.toNat t.toNat } ∧
      exec (.bandLoss ⟨dev, dst⟩ x y) s =
        .next { s with dev := (s.dev.markInexact false (s.dev.tileOf cx cy).1).fault 21 4 }) ∧
    ((s.dev.bandOpen dev = false ∨ s.dev.cellAt x y = none) →
      exec (.bandUpd ⟨dev, dst⟩ x y nj t) s = .next s ∧ exec (.bandLoss ⟨dev, dst⟩ x y) s = .next s)) ∧
  (∀ (c : LCopy) (s : State), Awake s → s.dev.ldg.copy = some c → s.dev.running.isSome = true →
    (s.dev.mode.cur = .build ∨ s.dev.mode.cur = .hold) →
    ∃ t, exec .epochStart s = .next t ∧ OnlyDevice s t ∧
      t.dev.ldg.copy = some (c.epoch ((c.startOf c.gen).getD 0 + 32000 * perMs) false) ∧
      t.dev.rd LDG_EPOCH = BitVec.ofNat 32 ((c.gen + 1) % 2 ^ 24) ∧ t.dev.mode = s.dev.mode) ∧
  (∀ s : State, Awake s → s.dev.running = none → exec .epochStart s = .next s) ∧
  (∀ (r : Req) (e : Env) (s : State), Takes s 0x0511 cmdLedgerClear r →
    ∃ t, exec (.ledgerClear r e) s = .next t ∧ OnlyDevice s t ∧
      (r.a0.bit 0 = true →
        t.dev.ldg.replay = some (LCopy.cleared s.dev.tb3) ∧ t.dev.ldg.copy = s.dev.ldg.copy) ∧
      (r.a0.bit 0 = false →
        t.dev.ldg.copy = some (LCopy.cleared s.dev.tb3) ∧ t.dev.ldg.replay = s.dev.ldg.replay ∧
          t.dev.rd LDG_EPOCH = 0) ∧
      t.dev.ldg.bandLost = s.dev.ldg.bandLost ∧ t.dev.lay = s.dev.lay) ∧
  (∀ (r : Req) (e : Env) (s : State) (c : LCopy), Takes s 0x0590 cmdLedgerRead r →
    (if r.a2.bit 0 then s.dev.ldg.replay else s.dev.ldg.copy) = some c →
    exec (.ledgerRead r e) s = .next { s with dev := ((started s 0x0590 r).okData (asOp 0x0590 r)
      ((List.range (r.a1.get 16 16)).flatMap (fun y => (List.range (r.a1.get 0 16)).flatMap (fun x =>
        s.dev.ldgEntry c (r.a0.get 0 16 + x) (r.a0.get 16 16 + y)))) 0 0 0 0) }) ∧
  (∀ (n : Fin 18) (i : Nat) (r : Run) (s : State), Awake s →
    (s.dev.eng n).runs.findIdx? (fun r => decide (r.served < s.dev.issued n r)) = some i →
    (s.dev.eng n).runs[i]? = some r → n.val < s.dev.engines.length →
    (s.dev.fencedUnit n = true → exec (.lookaheadRead n) s = .next { s with dev := s.dev.ghost n 1 }) ∧
    (s.dev.fencedUnit n = false →
      ∃ t x, exec (.lookaheadRead n) s = .next t ∧ OnlyDevice s t ∧ (t.dev.eng n).runs[i]? = some x ∧
        x.served = r.served + 1 ∧ x.unit = r.unit ∧ x.pieces = r.pieces ∧ t.dev.regs = s.dev.regs ∧
        t.dev.ldg.copy = s.dev.ldg.copy ∧ t.dev.ldg.replay = s.dev.ldg.replay)) ∧
  (∀ (n : Fin 18) (s : State), Awake s →
    (s.dev.eng n).runs.findIdx? (fun r => decide (r.served < s.dev.issued n r)) = none →
    exec (.lookaheadRead n) s = .next s)

/-- REPLAY_LAYER (R228, R229): a manifest that is damaged or misformed, a record whose signature does not check, barges
that are not those of the record, and tables or grids that are not loaded, complete with their failure and replay
nothing; one that passes every check starts the replay of the recorded layer, beside the operational ledger, which stays.
-/
def Obligations.ReplayRefusesWhatDoesNotCheck : Prop :=
  ∀ (r : Req) (e : Env) (s : State) (q : Req) (d : Dev) (m rec : List Byte) (items : List (Nat × List Byte))
      (barges rows : List (List Byte)),
    TakesData s 0x0C20 cmdReplayLayer r e → q = asOp 0x0C20 r → d = started s 0x0C20 r → m = dataOf r e →
    rec = e.blob.take (bytesAt m 16 4) → items = parseItems rec.length ((rec.drop 128).take (bytesAt rec 80 4)) →
    barges = cutBy ((piecesOf 16 (bytesAt m 6 2) (m.drop 64)).map (fun x => bytesAt x 8 4))
      (e.blob.drop (bytesAt m 16 4)) → rows = piecesOf 56 65535 (itemsOf 8 items) →
    (crc32c (m.take 60) ≠ bytesAt m 60 4 →
      exec (.replayLayer r e) s = .next { s with dev := d.fail q stCrc 0x0C21 }) ∧
    (crc32c (m.take 60) = bytesAt m 60 4 → manifestBad m = true →
      exec (.replayLayer r e) s = .next { s with dev := d.fail q stMalformed 0x0C22 }) ∧
    (crc32c (m.take 60) = bytesAt m 60 4 → manifestBad m = false →
      (recordSigned rec = false → exec (.replayLayer r e) s = .next { s with dev := d.fail q stDenied 0x0C23 }) ∧
      (recordSigned rec = true →
        (d.replayBarges q rec d.replayStart [] barges rows = none →
          exec (.replayLayer r e) s = .next { s with dev := d.fail q stMalformed 0x0C24 }) ∧
        ∀ bs, d.replayBarges q rec d.replayStart [] barges rows = some bs →
          (d.replayLoaded items = false →
            exec (.replayLayer r e) s = .next { s with dev := d.fail q stLimit 0x0C25 }) ∧
          (d.replayLoaded items = true →
            ∃ t x, exec (.replayLayer r e) s = .next t ∧ OnlyDevice s t ∧
              t.dev = d.startReplay q (recordedLayer rec bs d.replayStart) (keeperEvents items) ∧
              t.dev.replay = some x ∧ x.req = q ∧ x.opened = s.dev.lay.opened ∧ x.keeper = s.dev.keeper ∧
              x.engines = s.dev.engines ∧ t.dev.ldg.copy = s.dev.ldg.copy ∧ t.dev.mode = s.dev.mode)))

/-- Grids (R181 to R184): a grid that fails a check changes nothing and names the check; one that passes becomes
pending, and active at once where no layer is in exposure and its beam has no vector without its outcome; a pending grid
becomes active at the first moment its beam is free, and stays while it is not. The grid queries (R186, R194). -/
def Obligations.GridsCommit : Prop :=
  (∀ (r : Req) (e : Env) (s : State) (st x r0 : Nat), TakesData s 0x0501 cmdGridLoad r e →
    parseGrid s.dev.variant (dataOf r e) = .error (st, x, r0) →
    ∃ t, exec (.gridLoad r e) s = .next t ∧ OnlyDevice s t ∧ t.dev.grids = s.dev.grids ∧
      t.dev = (started s 0x0501 r).complete (asOp 0x0501 r) st x (words4 r0 0 0 0)) ∧
  (∀ (r : Req) (e : Env) (s : State) (g : Grid), TakesData s 0x0501 cmdGridLoad r e →
    parseGrid s.dev.variant (dataOf r e) = .ok g → g.beam < s.dev.grids.length →
    (s.dev.exposed = none → s.dev.beamEmits g.beam = false → (s.dev.beamGrids g.beam).commitAt ≠ some s.dev.tb3 →
      (∀ a, (s.dev.beamGrids g.beam).active = some a → a.digest ≠ g.digest) →
      ∃ t, exec (.gridLoad r e) s = .next t ∧ OnlyDevice s t ∧
        t.dev.beamGrids g.beam = ⟨some g, none, false, false, some s.dev.tb3⟩ ∧
        t.dev.gridCommits = s.dev.gridCommits + 1) ∧
    ((s.dev.exposed ≠ none ∨ s.dev.beamEmits g.beam = true ∨ (s.dev.beamGrids g.beam).commitAt = some s.dev.tb3) →
      (∀ a, (s.dev.beamGrids g.beam).active = some a → a.digest ≠ g.digest) →
      ∃ t, exec (.gridLoad r e) s = .next t ∧ OnlyDevice s t ∧ (t.dev.beamGrids g.beam).pending = some g ∧
        (t.dev.beamGrids g.beam).active = (s.dev.beamGrids g.beam).active) ∧
    (∀ a, (s.dev.beamGrids g.beam).active = some a → a.digest = g.digest →
      ∃ t, exec (.gridLoad r e) s = .next t ∧ OnlyDevice s t ∧
        t.dev.beamGrids g.beam = { s.dev.beamGrids g.beam with lost := false })) ∧
  (∀ (b : Fin 16) (s : State) (g : Grid), Awake s → (s.dev.beamGrids b).pending = some g → s.dev.grids.length = 16 →
    (s.dev.gridFree b = true →
      ∃ t, exec (.gridCommit b) s = .next t ∧ OnlyDevice s t ∧
        t.dev.beamGrids b = ⟨some g, none, false, false, some s.dev.tb3⟩ ∧
        t.dev.gridCommits = s.dev.gridCommits + 1 ∧ ∀ c, c ≠ b.val → t.dev.beamGrids c = s.dev.beamGrids c) ∧
    (s.dev.gridFree b = false → exec (.gridCommit b) s = .next s)) ∧
  (∀ (r : Req) (e : Env) (s : State) (g : BeamGrids), Takes s 0x0580 cmdGridQuery r →
    g = s.dev.beamGrids (r.a0.get 0 5) →
    exec (.gridQuery r e) s = .next { s with dev := ((started s 0x0580 r).ok (asOp 0x0580 r)
      (match g.active with | some a => a.id | none => 0) (match g.pending with | some a => a.id | none => 0)
      (match g.active with | some a => a.nx + a.ny * 65536 | none => 0) 0) }) ∧
  (∀ (r : Req) (e : Env) (s : State) (x : Resid), Takes s 0x0581 cmdResidQuery r →
    x = s.dev.resids.getD (r.a0.get 0 6) default →
    exec (.residQuery r e) s =
      .next { s with dev := (started s 0x0581 r).ok (asOp 0x0581 r) x.max x.rms x.r2 x.r3 })

/-- Calibration commands (R187 to R193, R385). A CAL_MARK whose barge does not check completes with what the checks of
R188 found, and one of a beam that no unfenced engine serves completes UNIT_FENCED; one that passes starts its records.
A CAL_EDGE of a line outside the grid's extent, or of no length, completes LIMIT (the model's choice, log entry 49), and
so does a CAL_RESID or CAL_XRESID with a point outside (R193); else CAL_EDGE exposes its one mark and watches the
photodiode, CAL_PROBE makes its probe, and CAL_RESID and CAL_XRESID probe every point with every member, CAL_XRESID with
those of the peer that the lock names. A command of a beam in use, or behind one that waits, or in a hold, waits (R189). -/
def Obligations.CalibrationStarts : Prop :=
  ∀ (r : Req) (e : Env) (s : State) (d : Dev) (q : Req) (b : List Byte) (waits : Nat → Prop),
    b = dataOf r e → (∀ m, waits m ↔ (m &&& d.calBusy ≠ 0 ∨ d.calWait ≠ [] ∨ d.holding = true)) →
    (TakesData s 0x0502 cmdCalMark r e → d = started s 0x0502 r → q = asOp 0x0502 r →
      (∀ st x r0, d.bargeCheck b true = .error (st, x, r0) →
        exec (.calMark r e) s = .next { s with dev := d.complete q st x (words4 r0 0 0 0) }) ∧
      (∀ rs, d.bargeCheck b true = .ok rs →
        (d.unserved (recBeams rs) = true → exec (.calMark r e) s = .next { s with dev := d.fail q stFenced 0 }) ∧
        (d.unserved (recBeams rs) = false →
          (waits (recBeams rs) → exec (.calMark r e) s =
            .next { s with dev := { d with calWait := d.calWait ++ [(q, { e with data := b })] } }) ∧
          (¬ waits (recBeams rs) → exec (.calMark r e) s = .next { s with dev := (d.startCal q (bytesAt b 12 4)
            (match d.table (bytesAt b 16 4) with | some t => t.sets | none => []) rs none) })))) ∧
    (∀ (k n : Nat) (sx sy x y : Int) (band : Bool), TakesData s 0x0504 cmdCalEdge r e → d = started s 0x0504 r →
      q = asOp 0x0504 r → k = r.a0.get 0 5 → band = r.a0.bit 8 → d.engineOf k = some n →
      sx = intAt b 0 4 → sy = intAt b 4 4 → x = intAt b 8 4 → y = intAt b 12 4 →
      ((d.inActive k sx sy = false ∨ d.inActive k x y = false ∨ (sx = x ∧ sy = y)) →
        exec (.calEdge r e) s = .next { s with dev := d.fail q stLimit 0x05FF }) ∧
      (d.inActive k sx sy = true → d.inActive k x y = true → ¬ (sx = x ∧ sy = y) →
        (waits (2 ^ k) → exec (.calEdge r e) s =
          .next { s with dev := { d with calWait := d.calWait ++ [(q, { e with data := b })] } }) ∧
        (¬ waits (2 ^ k) → ∃ range : Nat, range = d.fld (BE_PD_CFG n) (if band then 4 else 0) 2 ∧
          exec (.calEdge r e) s = .next { s with dev := (d.startCal q 0
            (match d.table r.a1.toNat with | some t => t.sets | none => []) (edgeRecs k (r.a2.get 0 8) sx sy x y)
            (some ⟨r.a3.get 0 14, r.a0.bit 9, pdDelay range * 16, e.vals.map (fun v =>
              if d.bit (BE_PD_CFG n) (if band then 30 else 31) then (pdCode range v : Int) else 0)⟩)) }))) ∧
    (∀ k : Nat, Takes s 0x0503 cmdCalProbe r → d = started s 0x0503 r → q = asOp 0x0503 r → k = r.a0.get 0 5 →
      (waits (2 ^ k) →
        exec (.calProbe r e) s = .next { s with dev := { d with calWait := d.calWait ++ [(q, e)] } }) ∧
      (¬ waits (2 ^ k) →
        ∃ j, j = mkProbes q (match d.table r.a4.toNat with | some t => t.sets | none => []) (r.a5.get 0 8)
            (r.a3.get 0 7) 1 [⟨0, k, signed 32 r.a1.toNat, signed 32 r.a2.toNat⟩] ∧
          exec (.calProbe r e) s =
            .next { s with dev := ({ d with probes := d.probes ++ [j] } : Dev).stepProbe j })) ∧
    (∀ (i : Nat) (outside : Prop), i = r.a0.get 0 6 →
      (outside ↔ ∃ p ∈ residPoints b, ∃ k ∈ bitList 16 (d.lockMembers i), d.inActive k p.1 p.2 = false) →
      (TakesData s 0x0505 cmdCalResid r e → d = started s 0x0505 r → q = asOp 0x0505 r →
        (outside → exec (.calResid r e) s = .next { s with dev := d.fail q stLimit 0x0509 }) ∧
        (¬ outside → waits (d.lockMembers i) → exec (.calResid r e) s =
          .next { s with dev := { d with calWait := d.calWait ++ [(q, { e with data := b })] } }) ∧
        (¬ outside → ¬ waits (d.lockMembers i) →
          ∃ j : ProbeJob, j.req = q ∧ j.lock = some i ∧ j.peer = none ∧ j.away = [] ∧ j.frames = r.a3.get 0 7 ∧
            j.pset = r.a2.get 0 8 ∧ j.todo = d.residProbes i (residPoints b) ∧ j.got = [] ∧
            exec (.calResid r e) s =
              .next { s with dev := ({ d with probes := d.probes ++ [j] } : Dev).stepProbe j })) ∧
      (TakesData s 0x0D02 cmdCalXresid r e → d = started s 0x0D02 r → q = asOp 0x0D02 r →
        (outside → exec (.calXresid r e) s = .next { s with dev := d.fail q stLimit 0x0509 }) ∧
        (¬ outside → waits (d.lockMembers i) → exec (.calXresid r e) s =
          .next { s with dev := { d with calWait := d.calWait ++ [(q, { e with data := b })] } }) ∧
        (¬ outside → ¬ waits (d.lockMembers i) →
          ∃ (j : ProbeJob) (d' : Dev), j.req = q ∧ j.lock = some i ∧ j.peer = some (d.lockPeer i) ∧
            j.away = List.range (residPoints b).length ∧ j.frames = r.a3.get 0 7 ∧ j.pset = r.a2.get 0 8 ∧
            j.todo = d.residProbes i (residPoints b) ∧
            d' = ((residPoints b).mapIdx (fun (k : Nat) p => ([3, (i : Int), (k : Int), p.1, p.2, (r.a1.toNat : Int),
              (r.a2.get 0 8 : Int), (r.a3.get 0 7 : Int)] : List Int))).foldl (fun (g : Dev) m => g.sendTo (d.lockPeer i) 0x33 m) d ∧
            exec (.calXresid r e) s =
              .next { s with dev := ({ d' with probes := d'.probes ++ [j] } : Dev).stepProbe j })))

/-- Feedback frames (R317, R318, R320, R326), at a port that is TRAINED or READY and whose receive side is awake: a good
frame without a flag shows what it reports and ends a run of bad ones; a bad one is counted, and the third in a row is a
link fault; a window without a good frame counts as one bad one, where no bad frame came in it (the model's reading, log
entry 102); loss of symbol lock is a link fault. Any other port hears nothing. Training starts with no command and awake. Head commands (R323 to R326): an answer to ENUM in STANDBY makes the port READY with its head, an
answer to SLEEP_TX puts the receive side to sleep, an answer to WAKE_TX or LT_START ends the command, after LT_START in
lane test; an answer to what was not sent changes nothing; an unanswered command is a link fault; a failed ENUM is sent
again. Port commands (R328, R338): HEAD_JOG plans a laser-off move to the point named; HEAD_MOOR ends the jogs of its
ports, gives them back to the mooring generator and waits; PORT_SLEEP puts transmit sides to sleep, sends SLEEP_TX, or
wakes; PORT_QUERY shows a port. -/
def Obligations.ScannerPorts : Prop :=
  (∀ (b : Fin 16) (s : State), Awake s →
    ((s.dev.port b).state = 2 ∨ (s.dev.port b).state = 3) → (s.dev.port b).rxSleep = false →
    (∀ f : FbFrame, frameGood f = true →
      exec (.feedbackFrame b f) s = .next { s with dev := s.dev.goodFeedback b f.bytes } ∧
      ((s.dev.port b).state = 3 → (s.dev.port b).seen = true → bytesAt f.bytes 1 1 = 0 → s.dev.scn.ports.length = 16 →
        ∃ t, exec (.feedbackFrame b f) s = .next t ∧ OnlyDevice s t ∧
          t.dev.rd (SCN_PORT_ENC b 0) = BitVec.ofNat 32 (unsigned 24 (intAt f.bytes 4 3)) ∧
          t.dev.rd (SCN_PORT_ENC b 1) = BitVec.ofNat 32 (unsigned 24 (intAt f.bytes 7 3)) ∧
          t.dev.rd (SCN_PORT_ENC b 2) = BitVec.ofNat 32 (unsigned 24 (intAt f.bytes 10 3)) ∧
          t.dev.rd (SCN_PORT_TEMP b) = BitVec.ofNat 32 (bytesAt f.bytes 13 3) ∧
          (t.dev.port b).bad = 0 ∧ (t.dev.port b).good = true ∧ (t.dev.port b).fault = false ∧
          (t.dev.port b).hot = false ∧ (t.dev.port b).state = 3 ∧ t.dev.mode = s.dev.mode)) ∧
    (∀ f : FbFrame, frameGood f = false → exec (.feedbackFrame b f) s =
      .next { s with dev := (s.dev.modPort b (fun (p : Port) => { p with badIn := true })).badFeedback b }) ∧
    (∃ d : Dev, d = s.dev.modPort b (fun (p : Port) => { p with good := false, badIn := false }) ∧
      (((s.dev.port b).good = true ∨ (s.dev.port b).badIn = true) →
        exec (.feedbackWindowEnd b) s = .next { s with dev := d }) ∧
      ((s.dev.port b).good = false → (s.dev.port b).badIn = false →
        exec (.feedbackWindowEnd b) s = .next { s with dev := d.badFeedback b })) ∧
    exec (.scannerSymbolLockLoss b) s = .next { s with dev := s.dev.linkFault b }) ∧
  (∀ (b : Fin 16) (f : FbFrame) (s : State), Awake s →
    (((s.dev.port b).state ≠ 2 ∧ (s.dev.port b).state ≠ 3) ∨ (s.dev.port b).rxSleep = true) →
    exec (.feedbackFrame b f) s = .next s ∧ exec (.feedbackWindowEnd b) s = .next s ∧
    exec (.scannerSymbolLockLoss b) s = .next s) ∧
  (∀ (d : Dev) (b : Nat), b < d.scn.ports.length →
    ((d.retrain b).port b).state = 1 ∧ ((d.retrain b).port b).cmd = 0 ∧ ((d.retrain b).port b).txSleep = false ∧
      ∀ c, c ≠ b → (d.retrain b).port c = d.port c) ∧
  (∀ (b : Fin 16) (rsp : BitVec 8) (data : List Byte) (s : State), Awake s →
    ((s.dev.port b).state = 2 ∨ (s.dev.port b).state = 3) → rsp.toNat = 0x80 + (s.dev.port b).cmd →
    s.dev.scn.ports.length = 16 →
    ((s.dev.port b).cmd = 1 → s.dev.mode.cur = .standby →
      (s.dev.bit (LAS_CFG b) 30 = true → (bytesAt data 4 1).testBit 1 = true) →
      ((s.dev.port b).prevHead = none ∨ (s.dev.port b).prevHead = some (bytesAt data 0 4)) →
      ∃ t, exec (.headResponse b rsp data) s = .next t ∧ OnlyDevice s t ∧ (t.dev.port b).state = 3 ∧
        (t.dev.port b).headId = bytesAt data 0 4 ∧ (t.dev.port b).cap = bytesAt data 4 1 % 16 ∧
        (s.dev.scn.sleeps = [] → (t.dev.port b).cmd = 0) ∧ t.dev.regs = s.dev.regs ∧
        ∀ c, c ≠ b.val → t.dev.port c = s.dev.port c) ∧
    ((s.dev.port b).cmd = 2 →
      ∃ t, exec (.headResponse b rsp data) s = .next t ∧ OnlyDevice s t ∧ (t.dev.port b).rxSleep = true ∧
        (t.dev.port b).cmd = 0 ∧ ∀ c, c ≠ b.val → t.dev.port c = s.dev.port c) ∧
    ((s.dev.port b).cmd = 3 → exec (.headResponse b rsp data) s =
      .next { s with dev := s.dev.modPort b (fun (p : Port) => { p with cmd := 0, arg := 0 }) }) ∧
    ((s.dev.port b).cmd = 4 → exec (.headResponse b rsp data) s = .next { s with dev :=
      ((s.dev.setEmit b false).modPort b (fun (p : Port) => { p with cmd := 0, arg := 0, state := 4 })) })) ∧
  (∀ (b : Fin 16) (rsp : BitVec 8) (data : List Byte) (s : State), Awake s →
    ((s.dev.port b).cmd = 0 ∨ rsp.toNat ≠ 0x80 + (s.dev.port b).cmd ∨
      ((s.dev.port b).state ≠ 2 ∧ (s.dev.port b).state ≠ 3)) →
    exec (.headResponse b rsp data) s = .next s) ∧
  (∀ (b : Fin 16) (s : State), Awake s →
    ((s.dev.port b).cmd = 0 → exec (.headCmdTimeout b) s = .next s) ∧
    ((s.dev.port b).cmd ≠ 0 → exec (.headCmdTimeout b) s = .next { s with dev :=
      ((if (s.dev.port b).cmd = 1 then s.dev.fault 30 3 else s.dev).linkFault b) })) ∧
  (∀ (b : Fin 16) (s : State), Awake s → s.dev.scn.ports.length = 16 →
    ((s.dev.port b).enum ≠ 2 → exec (.enumRetry b) s = .next s) ∧
    ((s.dev.port b).state = 2 → (s.dev.port b).seen = true → (s.dev.port b).enum = 2 → (s.dev.port b).cmd = 0 →
      (s.dev.mode.cur = .standby ∨ s.dev.mode.cur = .hold) →
      ∃ t, exec (.enumRetry b) s = .next t ∧ OnlyDevice s t ∧ (t.dev.port b).cmd = 1 ∧ (t.dev.port b).enum = 1 ∧
        t.dev.regs = s.dev.regs)) ∧
  (∀ (r : Req) (e : Env) (s : State) (b : Nat), Takes s 0x0521 cmdHeadJog r → s.dev.scn.ports.length = 16 →
    b = r.a0.get 0 5 →
    ∃ (t : State) (n : Nat) (run : Run), exec (.headJog r e) s = .next t ∧ OnlyDevice s t ∧ s.dev.engineOf b = some n ∧
      run.endPt = (signed 32 r.a1.toNat * 2 ^ 24, signed 32 r.a2.toNat * 2 ^ 24) ∧ run.tOn = run.tOff ∧
      run.foc = [(0, signed 16 (r.a3.get 0 16))] ∧ run.started = false ∧
      t.dev.scn.jogs = s.dev.scn.jogs ++ [(asOp 0x0521 r, n, run.seq)] ∧ (t.dev.port b).jog = true ∧
      t.dev.mode = s.dev.mode ∧ t.dev.scn.lasers = s.dev.scn.lasers ∧
      (n < s.dev.engines.length → (t.dev.eng n).runs = (s.dev.eng n).runs ++ [run])) ∧
  (∀ (r : Req) (e : Env) (s : State), Takes s 0x0522 cmdHeadMoor r →
    ∃ d, d = (bitList 16 r.a0.toNat).foldl (fun d b => (d.abortJog b).modPort b (fun (p : Port) => { p with jog := false }))
        (started s 0x0522 r) ∧
      exec (.headMoor r e) s = .next { s with dev :=
        (({ d with scn := { d.scn with moors := d.scn.moors ++ [asOp 0x0522 r] } }).finishMoors) }) ∧
  (∀ (r : Req) (e : Env) (s : State) (named : Nat → Bool), Takes s 0x0523 cmdPortSleep r → s.dev.scn.sleeps = [] →
    s.dev.scn.ports.length = 16 →
    (∀ b, named b = (r.a0.toNat.testBit b && ((s.dev.port b).state == 2 || (s.dev.port b).state == 3))) →
    ∃ t, exec (.portSleep r e) s = .next t ∧ OnlyDevice s t ∧ (∀ b, (t.dev.port b).state = (s.dev.port b).state) ∧
      t.dev.mode = s.dev.mode ∧
      (r.a1 = 1 → t.dev.scn.sleeps = [] ∧
        ∀ b, b < 16 → (t.dev.port b).txSleep = ((s.dev.port b).txSleep || named b)) ∧
      (r.a1 = 4 → ∀ b, b < 16 → (t.dev.port b).cmd =
        if named b = true ∧ (s.dev.port b).rxSleep = false ∧ (s.dev.port b).cmd = 0 then 2 else (s.dev.port b).cmd) ∧
      (r.a1 = 2 → ∀ b, b < 16 →
        (t.dev.port b).wakeTx = ((s.dev.port b).wakeTx || (named b && (s.dev.port b).txSleep))) ∧
      (r.a1 = 8 → ∀ b, b < 16 →
        (t.dev.port b).wakeRx = ((s.dev.port b).wakeRx || (named b && (s.dev.port b).rxSleep)))) ∧
  (∀ (r : Req) (e : Env) (s : State) (b : Nat), Takes s 0x0582 cmdPortQuery r → b = r.a0.get 0 5 →
    exec (.portQuery r e) s = .next { s with dev := ((started s 0x0582 r).ok (asOp 0x0582 r) (s.dev.portWord b)
      (if (s.dev.port b).state = 3 then (s.dev.port b).headId else 0) (s.dev.rd (SCN_PORT_CNT b 1)).toNat
      (s.dev.rd (SCN_PORT_CNT b 0)).toNat) })

/-- The interlock and emission (R329, R335, R336): a fall of ILK_N opens the interlock, latched in CALIBRATE and BUILD;
its rise ends the condition and not the latch; the sluice of a beam is closed unless interlock, latch, mode, enable,
engine and port all allow it, and while a software reset is due (R59); a readback that disagrees is a fault; once
MOOR_HOLD has passed in SAFE the mooring generators take over. -/
def Obligations.InterlockAndEmission : Prop :=
  (∀ s : State, Awake s → s.dev.scn.ilk = true → s.dev.exposing = true →
    ∃ d, d = { s.dev with scn := { s.dev.scn with ilk := false, latch := true } } ∧ d.gate = false ∧
      exec .ilkNLow s = .next { s with dev := d.applyGate.fault 0 1 }) ∧
  (∀ s : State, Awake s → s.dev.scn.ilk = true → s.dev.exposing = false →
    ∃ d, d = { s.dev with scn := { s.dev.scn with ilk := false } } ∧ d.gate = false ∧
      exec .ilkNLow s = .next { s with dev := d.applyGate.fault 0 1 }) ∧
  (∀ s : State, Awake s → s.dev.scn.ilk = false → exec .ilkNLow s = .next s) ∧
  (∀ s : State, Awake s →
    ∃ t, exec .ilkNHigh s = .next t ∧ OnlyDevice s t ∧ t.dev.scn = { s.dev.scn with ilk := true } ∧
      t.dev.standing 0 1 = false ∧ t.dev.mode = s.dev.mode ∧ t.dev.regs = s.dev.regs) ∧
  (∀ (d : Dev) (b : Nat), d.sluice b = true →
    d.scn.ilk = true ∧ d.scn.latch = false ∧ (d.mode.cur = .calibrate ∨ d.mode.cur = .build) ∧
      d.mode.softPending = false ∧ d.bit (LAS_CFG b) 31 = true ∧ (d.port b).state = 3 ∧ (d.port b).linkFault = false ∧
      ∃ n, d.engineOf b = some n ∧ d.fencedUnit n = false ∧ (d.eng n).taking = false) ∧
  (∀ (d : Dev) (b : Nat), d.gate = false → d.scn.lasers.length = 16 → b < 16 → (d.applyGate.laser b).emit = false) ∧
  (∀ s : State, Awake s → s.dev.mode.cur = .safe →
    exec .safeMoorHoldExpiry s =
      .next { s with dev := { s.dev with scn := { s.dev.scn with moorOk := true } } }) ∧
  (∀ s : State, Awake s → s.dev.mode.cur ≠ .safe → exec .safeMoorHoldExpiry s = .next s) ∧
  (∀ (b : Fin 16) (level : Bool) (s : State), Awake s →
    (b.val < nBeams s.dev.variant → exec (.emitReadback b level) s =
      .next (if level = (s.dev.laser b).emit then s else { s with dev := s.dev.fault 0 3 })) ∧
    (nBeams s.dev.variant ≤ b.val → exec (.emitReadback b level) s = .next s))

/-- Triggers (R292, R293): the earlier of a port's scheduled instant and that of a CAM_TRIGGER comes, the host's first
where they are equal; a trigger issued gives the next frame sequence number, opens its frame at the present time, and
counts on. Frames (R291, R293, R306): a frame-start packet begins the open frame, and one with no open frame is
unsolicited; a good packet of the port's data type is a line, cut at the width, and beyond the height it is an overrun;
every other packet is counted and truncates the open frame; a frame ends at its frame-end packet, at FRAME_US, or, with no
frame-start packet in FS_US, missing. A port that is absent or whose engine is fenced hears nothing (R311). A lane error
of a port that is present is a fault. -/
def Obligations.CameraFrames : Prop :=
  (∀ (p : Fin 20) (s : State) (k : Option Nat), Awake s → k = (if s.dev.schedOn p then s.dev.schedNext p else none) →
    (∀ h, s.dev.hostNext p = some h → (∀ t, k = some t → h ≤ t) →
      exec (.cameraTrigger p) s = .next { s with dev := (s.dev.advanceTo h).fireTrigger p true }) ∧
    (∀ t, k = some t → (∀ h, s.dev.hostNext p = some h → t < h) →
      exec (.cameraTrigger p) s = .next { s with dev := s.dev.schedTrigger p t }) ∧
    (s.dev.hostNext p = none → k = none → exec (.cameraTrigger p) s = .next s)) ∧
  (∀ (d : Dev) (p : Nat) (host : Bool), p < d.vis.cams.length → (d.cam p).tapReqs = [] →
    ∃ f, ((d.fireTrigger p host).cam p).frame = some f ∧ f.seq = (d.cam p).seq % 2 ^ 32 ∧ f.trig = d.tb3 ∧ f.rows = [] ∧
      f.started = false ∧ ((d.fireTrigger p host).cam p).seq = (d.cam p).seq + 1 ∧
      (d.fireTrigger p host).mode = d.mode ∧ (d.fireTrigger p host).flt = d.flt) ∧
  (∀ (p : Fin 20) (s : State) (k : CsiPacket), Awake s →
    (visPresent s.dev.variant p = false ∨ s.dev.fencedUnit (camUnit p) = true) →
    exec (.csiFrameStart p) s = .next s ∧ exec (.csiLongPacket p k) s = .next s) ∧
  (∀ (p : Fin 20) (s : State), Awake s → visPresent s.dev.variant p = true → s.dev.fencedUnit (camUnit p) = false →
    s.dev.vis.cams.length = 20 →
    (∀ f, (s.dev.cam p).frame = some f →
      (∃ t, exec (.csiFrameStart p) s = .next t ∧ OnlyDevice s t ∧
        (t.dev.cam p).frame = some { f with started := true } ∧ t.dev.regs = s.dev.regs) ∧
      (∀ k : CsiPacket, k.vc = 0 → k.dt = s.dev.fld (VIS_PORT_CFG p) 0 6 → k.hdrBad = false → k.crcBad = false →
        ∃ t, exec (.csiLongPacket p k) s = .next t ∧ OnlyDevice s t ∧ t.dev.regs = s.dev.regs ∧
          (f.rows.length < s.dev.camHeight p → (t.dev.cam p).frame = some { f with
            rows := f.rows ++ [(k.px.map (fun v => v % 2 ^ s.dev.camBits p)).take (s.dev.camWidth p)],
            trunc := f.trunc || decide (k.px.length < s.dev.camWidth p),
            ovr := f.ovr || decide (s.dev.camWidth p < k.px.length) }) ∧
          (s.dev.camHeight p ≤ f.rows.length → (t.dev.cam p).frame = some { f with ovr := true })) ∧
      (∀ k : CsiPacket, (k.vc ≠ 0 ∨ k.dt ≠ s.dev.fld (VIS_PORT_CFG p) 0 6 ∨ k.hdrBad = true ∨ k.crcBad = true) →
        ∃ t g, exec (.csiLongPacket p k) s = .next t ∧ OnlyDevice s t ∧ (t.dev.cam p).frame = some g ∧
          g.trunc = true ∧ g.rows = f.rows ∧
          t.dev.rd (VIS_PORT_DISC_CNT p) = satInc (s.dev.rd (VIS_PORT_DISC_CNT p)) 1) ∧
      ((s.dev.cam p).unsol = false →
        exec (.csiFrameEnd p) s = .next (if f.started then { s with dev := s.dev.endFrame p f false } else s)) ∧
      exec (.frameTimeout p) s = .next { s with dev :=
        ((s.dev.advanceTo (f.trig + camTmo p (s.dev.fld (VIS_PORT_TMO p) 16 16))).endFrame p f false) } ∧
      (f.started = true → exec (.frameStartTimeout p) s = .next s) ∧
      (f.started = false →
        exec (.frameStartTimeout p) s = .next { s with dev :=
          ((s.dev.advanceTo (f.trig + camTmo p (s.dev.fld (VIS_PORT_TMO p) 8 8))).endFrame p f true) })) ∧
    ((s.dev.cam p).frame = none → (s.dev.cam p).on = true →
      exec (.csiFrameStart p) s = .next { s with dev :=
        (((s.dev.modCam p (fun (c : Cam) => { c with unsol := true })).count (VIS_PORT_DISC_CNT p) 1).camFault p 8) } ∧
      (∀ k : CsiPacket, (k.vc ≠ 0 ∨ k.dt ≠ s.dev.fld (VIS_PORT_CFG p) 0 6 ∨ k.hdrBad = true ∨ k.crcBad = true) →
        exec (.csiLongPacket p k) s = .next { s with dev := s.dev.count (VIS_PORT_DISC_CNT p) 1 })) ∧
    ((s.dev.cam p).frame = none → exec (.frameTimeout p) s = .next s ∧ exec (.frameStartTimeout p) s = .next s) ∧
    ((s.dev.cam p).unsol = true → exec (.csiFrameEnd p) s =
      .next { s with dev := s.dev.modCam p (fun (c : Cam) => { c with unsol := false }) }) ∧
    exec (.laneErr p) s = .next { s with dev := s.dev.fault 26 4 })

/-- Sensor writes (R301, R304, R308): the oldest write of a controller starts in blanking, where it fits before the next
scheduled trigger or holds the triggers; its end sends its messages, up to a byte that was not acknowledged, and the
change it makes can take effect DELAY frames on, with the tag 0xFFFF where a byte was not acknowledged; one that has not
started in SET_TMO is dropped, TIMEOUT with XSTATUS 0x0807. The settings of a camera port (R302, R303, R308): each
accepted change joins the port's pending changes in order, with its tag, to take effect together with the ones before it;
entries out of form change nothing. The other camera commands (R292, R300, R308): CAM_TRIGGER asks for frames,
CAM_TAP_SET for taps from the next trigger, CAM_QUERY shows the port, and CAM_I2C_READ reads a sensor in blanking. -/
def Obligations.CameraSettings : Prop :=
  (∀ (c : Fin 4) (s : State), Awake s → s.dev.vis.i2c.getD c [] = [] →
    exec (.i2cWriteStart c) s = .next s ∧ (∀ nack, exec (.i2cWriteEnd c nack) s = .next s) ∧
    exec (.i2cSetTimeout c) s = .next s) ∧
  (∀ (c : Fin 4) (s : State) (j : I2cJob) (js : List I2cJob) (may : Prop), Awake s → s.dev.vis.i2c.getD c [] = j :: js →
    s.dev.vis.i2c.length = 4 →
    (may ↔ (j.started = false ∧ (s.dev.cam j.port).frame = none ∧ s.dev.fencedUnit (18 + c) = false ∧ (j.hold = true ∨
      ∀ t, s.dev.schedOn j.port = true → s.dev.schedNext j.port = some t → s.dev.tb3 + j.dur ≤ t))) →
    (may → ∃ t, exec (.i2cWriteStart c) s = .next t ∧ OnlyDevice s t ∧
      t.dev.vis.i2c.getD c [] = { j with started := true } :: js ∧ t.dev.regs = s.dev.regs) ∧
    (¬ may → exec (.i2cWriteStart c) s = .next s) ∧
    (∀ nack, (j.started = false ∨ s.dev.fencedUnit (18 + c) = true) → exec (.i2cWriteEnd c nack) s = .next s) ∧
    (∀ (nack : Option Nat) (ms : List (List Byte)) (bad : Option Nat) (d : Dev), j.started = true →
      s.dev.fencedUnit (18 + c) = false → ms = j.entries.map i2cMessage →
      bad = nack.filter (fun k => decide (k < ms.flatten.length)) →
      d = (((s.dev.modI2c c (fun _ => js)).send (.i2c c (cutAtNack bad ms))).modCam j.port (fun (k : Cam) =>
        { k with changes := k.changes.map (fun (g : Change) => if g.of j.req then { g with
          raw := some ((s.dev.cam j.port).seq + s.dev.fld (VIS_PORT_SENSOR j.port) 0 2),
          tag := if bad.isSome then 0xFFFF else g.tag } else g) })) →
      exec (.i2cWriteEnd c nack) s = .next { s with dev := (((match bad with
        | none => d
        | some k => (d.fault (22 + c) 3).complete j.req stTimeout 0x0808 (words4 (fullEntries k ms) 0 0 0)).settleCam
          j.port).afterWrite j.port) }) ∧
    ((∀ i ∈ j :: js, i.started = true) → exec (.i2cSetTimeout c) s = .next s) ∧
    (∀ i, (j :: js).find? (fun x => !x.started) = some i →
      ∃ d, d = (s.dev.advanceTo (i.issued + s.dev.fld VIS_I2C_CFG 16 16 * perMs)).modI2c c
          (fun l => l.filter (fun x => x.started || x != i)) ∧
        exec (.i2cSetTimeout c) s = .next { s with dev := (((d.modCam i.port (fun (k : Cam) => { k with
          changes := k.changes.filter (fun g => !g.of i.req) })).fail i.req stTimeout 0x0807).settleCam i.port) })) ∧
  (∀ (r : Req) (e : Env) (s : State) (p : Nat) (d : Dev) (q : Req) (b : List Byte), p = r.a0.get 0 5 → b = dataOf r e →
    (TakesData s 0x0801 cmdCamSensorSet r e → d = started s 0x0801 r → q = asOp 0x0801 r →
      ((∃ x ∈ entriesOf 8 b, 2 ≤ bytesAt x 1 1 % 4 ∨ 16 ≤ bytesAt x 1 1 ∨ 128 ≤ bytesAt x 0 1) →
        exec (.camSensorSet r e) s = .next { s with dev := d.fail q stMalformed 0x0004 }) ∧
      ((∀ x ∈ entriesOf 8 b, bytesAt x 1 1 % 4 < 2 ∧ bytesAt x 1 1 < 16 ∧ bytesAt x 0 1 < 128) →
        ∃ j : I2cJob, j.port = p ∧ j.req = q ∧ j.entries = entriesOf 8 b ∧ j.hold = r.a0.bit 8 ∧
          j.started = false ∧ j.issued = s.dev.tb3 ∧
          exec (.camSensorSet r e) s = .next { s with dev :=
            ((d.modI2c (camEngine p) (fun l => l ++ [j])).issueChange p ⟨q, r.a1.get 0 16, none, none, [], none⟩) })) ∧
    (∀ (es : List (Nat × Word)) (ws : List (Nat × Word)), TakesData s 0x0802 cmdCamPipeSet r e → d = started s 0x0802 r →
      q = asOp 0x0802 r → es = (entriesOf 8 b).map (fun x => (bytesAt x 0 4, BitVec.ofNat 32 (bytesAt x 4 4))) →
      ws = es.map (fun x => (VIS_P_BLACK p + x.1, x.2 &&& pipeMask x.1)) →
      ((∃ x ∈ es, d.pipeKind p x.1 = 0 ∨ (x.1 = 0x14 ∧ 4096 < Word.get x.2 0 16 * Word.get x.2 16 16)) →
        exec (.camPipeSet r e) s = .next { s with dev := d.fail q stMalformed 0x0804 }) ∧
      ((∀ x ∈ es, d.pipeKind p x.1 ≠ 0 ∧ (x.1 = 0x14 → Word.get x.2 0 16 * Word.get x.2 16 16 ≤ 4096)) →
        ((∃ x ∈ es, d.pipeKind p x.1 = 2) → exec (.camPipeSet r e) s = .next { s with dev := d.fail q stAbsent 0 }) ∧
        ((∀ x ∈ es, d.pipeKind p x.1 ≠ 2) → (∃ x ∈ es, x.1 = 0x10 ∨ x.1 = 0x14) → d.roiFits p ws = false →
          exec (.camPipeSet r e) s = .next { s with dev := d.fail q stMalformed 0x0804 }) ∧
        ((∀ x ∈ es, d.pipeKind p x.1 ≠ 2) → ((∃ x ∈ es, x.1 = 0x10 ∨ x.1 = 0x14) → d.roiFits p ws = true) →
          exec (.camPipeSet r e) s = .next { s with dev := (d.issueChange p
            ⟨q, r.a1.get 0 16, some ((d.cam p).seq + bitOf (d.trigNow p)), none, ws, none⟩) }))) ∧
    (∀ es : List (Nat × Nat), d = started s 0x0803 r → q = asOp 0x0803 r →
      ((TakesData s 0x0803 cmdCamDefectLoad r e ∧ es = (entriesOf 4 b).map (fun x => (bytesAt x 0 2, bytesAt x 2 2))) ∨
        (Takes s 0x0803 cmdCamDefectLoad r ∧ es = [])) →
      ((∃ x ∈ es, d.camWidth p ≤ x.1 ∨ d.camHeight p ≤ x.2) →
        exec (.camDefectLoad r e) s = .next { s with dev := d.fail q stLimit 0x0805 }) ∧
      ((∀ x ∈ es, x.1 < d.camWidth p ∧ x.2 < d.camHeight p) →
        exec (.camDefectLoad r e) s = .next { s with dev := (d.issueChange p
          ⟨q, r.a1.get 0 16, some ((d.cam p).seq + bitOf (d.trigNow p)), none, [], some es⟩) })) ∧
    (∀ (d : Dev) (g : Change) (q : Nat), q ≠ p → (d.issueChange p g).cam q = d.cam q)) ∧
  (∀ (r : Req) (e : Env) (s : State) (p : Nat), p = r.a0.get 0 5 →
    (Takes s 0x0804 cmdCamTrigger r →
      exec (.camTrigger r e) s = .next { s with dev := ((started s 0x0804 r).modCam p (fun (c : Cam) => { c with
        hosts := c.hosts ++ [⟨some (asOp 0x0804 r), r.a1.get 0 16, r.a2.toNat * perUs, s.dev.tb3, none, 0⟩] })) }) ∧
    (Takes s 0x0805 cmdCamTapSet r →
      exec (.camTapSet r e) s = .next { s with dev := ((started s 0x0805 r).modCam p (fun (c : Cam) => { c with
        tapReqs := c.tapReqs ++
          [(asOp 0x0805 r, ⟨r.a1.bit 2, r.a1.get 0 2, r.a2.get 0 16, r.a3.get 0 11⟩)] })) }) ∧
    (Takes s 0x0880 cmdCamQuery r →
      exec (.camQuery r e) s = .next { s with dev := ((started s 0x0880 r).ok (asOp 0x0880 r) (s.dev.cam p).ended.1
        ((s.dev.cam p).ended.2 + (s.dev.cam p).tagAt (s.dev.cam p).seq * 65536) (s.dev.cam p).changes.length 0) }) ∧
    (Takes s 0x0881 cmdCamI2cRead r →
      exec (.camI2cRead r e) s = .next { s with dev := (({ started s 0x0881 r with
        vis := { s.dev.vis with reads := s.dev.vis.reads ++ [(asOp 0x0881 r, e)] } }).pumpReads) }))

/-- Training (R348, R362): it is taken in CONFIGURE, loses what the memory held, and ends READY with the map in order,
MAPPED_BAD with a fault where the basin or the organisation breaks the rules, or with the failing lane and its fault. Refresh, temperature, power-down and scrub (R355 to R357, R360): a refresh comes
at its instant, closes the rows of its rank and keeps it for tRFC; the rise of the case temperature is reported; an idle
rank powers down; a scrub read counts what its ECC finds. -/
def Obligations.DramTrains : Prop :=
  (∀ s : State, Up s → s.dev.mode.cur = .configure → s.dev.dram.training = false →
    ∃ t, exec .dramTrain s = .next t ∧ t.pending = s.pending ∧ t.mem = [] ∧ t.dev.dramState = 1 ∧
      t.dev.dram.training = true ∧ t.dev.dram.queue = [] ∧ t.dev.mode.dram = false ∧
      t.dev.lay.slots = List.replicate 4 none ∧ t.dev.profiles = List.replicate 16 none) ∧
  (∀ s : State, (s.dev.mode.cur ≠ .configure ∨ s.dev.dram.training = true) → exec .dramTrain s = .next s) ∧
  (∀ (a : DramTrain) (s : State), Awake s → s.dev.dram.training = true → a.fail = none → s.dev.mapOk = true →
    ∃ t, exec (.dramTrainDone a) s = .next t ∧ t.pending = s.pending ∧ t.mem = [] ∧ t.dev.dramState = 4 ∧
      t.dev.dram.training = false ∧ t.dev.mode.dram = true ∧
      (∀ k, k < 20 → t.dev.rd (DRAM_TRAIN (k / 5) (k % 5)) = a.results.getD k 0)) ∧
  (∀ (a : DramTrain) (s : State), Awake s → s.dev.dram.training = true → a.fail = none → s.dev.mapOk = false →
    ∃ d : Dev, exec (.dramTrainDone a) s = .next { s with dev := d.fault 27 7, mem := [] } ∧ d.dramState = 3 ∧
      d.bit DRAM_STATUS 5 = true ∧ d.dram.training = false ∧ d.mode = s.dev.mode) ∧
  (∀ (a : DramTrain) (s : State) (sc : Fin 4) (lane : Fin 5), Awake s → s.dev.dram.training = true →
    a.fail = some (sc, lane) →
    ∃ d : Dev, exec (.dramTrainDone a) s = .next { s with dev := d.fault 27 5, mem := [] } ∧ d.dramState = 0 ∧
      d.bit DRAM_STATUS 6 = true ∧ d.fld DRAM_STATUS 7 2 = sc ∧ d.fld DRAM_STATUS 9 3 = lane ∧
      d.bit DRAM_STATUS 3 = a.geomBad ∧ d.dram.training = false ∧ d.mode = s.dev.mode) ∧
  (∀ (a : DramTrain) (s : State), s.dev.dram.training = false → exec (.dramTrainDone a) s = .next s) ∧
  (∀ (r : Fin 8) (s : State) (d : Dev), Awake s → s.dev.rankRuns r = true →
    d = s.dev.advanceTo (s.dev.dram.refAt.getD r 0) →
    exec (.refresh r) s = .next { s with dev := (d.modDram (fun m => { m with
      refUntil := m.refUntil.set r (d.tb3 + (if s.dev.bit DRAM_GEOM 1 then 410 * 16 else 295 * 16))
      refAt := m.refAt.set r (s.dev.dram.refAt.getD r 0 + (if s.dev.bit DRAM_STATUS 4 then 31200 else 62400))
      open_ := m.open_.filter (fun b => b.1 / 32 != r.val) })) }) ∧
  (∀ (r : Fin 8) (s : State), s.dev.rankRuns r = false →
    exec (.refresh r) s = .next s ∧ exec (.powerDownEntry r) s = .next s) ∧
  (∀ (off : BitVec 36) (ecc : Ecc) (hot : Bool) (s : State), s.dev.dramState < 3 →
    exec (.scrubRead off ecc) s = .next s ∧ exec (.mr4Poll hot) s = .next s) ∧
  (∀ (off : BitVec 36) (ecc : Ecc) (s : State), (s.dev.bit DRAM_SCRUB 31 = false ∨ s.dev.dramBytes ≤ off.toNat) →
    exec (.scrubRead off ecc) s = .next s) ∧
  (∀ (hot : Bool) (s : State), Awake s → 3 ≤ s.dev.dramState →
    exec (.mr4Poll hot) s = .next { s with dev :=
      (if hot && !s.dev.bit DRAM_STATUS 4 then (s.dev.setBit DRAM_STATUS 4 hot).fault 27 6
        else s.dev.setBit DRAM_STATUS 4 hot) }) ∧
  (∀ (r : Fin 8) (s : State), Awake s → s.dev.rankRuns r = true → s.dev.fld DRAM_PWR 0 16 ≠ 0 →
    (∀ w ∈ s.dev.dram.queue, (s.dev.dramLoc w.req.addr.toNat).rs ≠ r) →
    exec (.powerDownEntry r) s = .next { s with dev :=
      (s.dev.modDram (fun m => { m with down := m.down.set r true })) }) ∧
  (∀ (r : Fin 8) (s : State), (s.dev.fld DRAM_PWR 0 16 = 0 ∨
      ∃ w ∈ s.dev.dram.queue, (s.dev.dramLoc w.req.addr.toNat).rs = r) → exec (.powerDownEntry r) s = .next s) ∧
  (∀ (off : BitVec 36) (ecc : Ecc) (s : State), Awake s → 3 ≤ s.dev.dramState → s.dev.bit DRAM_SCRUB 31 = true →
    off.toNat < s.dev.dramBytes →
    ∃ d : Dev, exec (.scrubRead off ecc) s = .next { s with dev :=
        (match ecc with
          | .clean => d
          | .corrected => (d.count DRAM_CE_CNT 1).fault 27 1
          | .uncorrectable =>
            ((d.count DRAM_UE_CNT 1).wr64 DRAM_UE_ADDR_LO DRAM_UE_ADDR_HI (off.toNat / 64 * 64)).fault 27 3) } ∧
      d.regs = s.dev.regs ∧ d.dram.queue = s.dev.dram.queue)

/-- Requests (R352, R359, R364): a subchannel serves one of its ready requests, of the best class there is where no slot
is reserved, never before an older one to the same burst; a served write is stored, at its mirror too where its use has
one; a request 50 µs old is given up, a read as one that came back poisoned. -/
def Obligations.DramServes : Prop :=
  (∀ (arrive : List DramReq) (sc : Fin 4) (s : State) (d : Dev), Awake s → 3 ≤ s.dev.dramState →
    d = s.dev.modDram (fun r => { r with queue := r.queue ++ arrive.map (fun q => DramWait.mk q s.dev.tb3) }) →
    (∀ i res, d.dramPick sc = some (i, res) →
      exec (.dramRequest arrive sc) s =
        .next { s with dev := (d.dramServe sc i res s.mem).1, mem := (d.dramServe sc i res s.mem).2 }) ∧
    (d.dramPick sc = none → exec (.dramRequest arrive sc) s = .next { s with dev := d })) ∧
  (∀ (arrive : List DramReq) (sc : Fin 4) (s : State), s.dev.dramState < 3 →
    exec (.dramRequest arrive sc) s = .next s) ∧
  (∀ (d : Dev) (sc i : Nat), d.dramPick sc = some (i, false) →
    ∃ w l, d.dramReady sc i = some (w, l) ∧
      ∀ j v k, d.dramReady sc j = some (v, k) → w.req.prio ≤ v.req.prio) ∧
  (∀ (d : Dev) (sc i : Nat) (res : Bool) (w : DramWait), d.dramPick sc = some (i, res) → d.dram.queue[i]? = some w →
    ∀ j v, j < i → d.dram.queue[j]? = some v → v.req.addr.toNat / 64 ≠ w.req.addr.toNat / 64) ∧
  (∀ (d : Dev) (sc i : Nat) (res : Bool) (m : List Host.Cell) (w : DramWait) (bs : List Byte),
    Memory.wf m = true → d.dram.queue[i]? = some w → w.req.data = some bs → w.req.addr.toNat % 64 + bs.length ≤ 64 →
    (d.dramServe sc i res m).1.dram.queue = d.dram.queue.eraseIdx i ∧ (d.dramServe sc i res m).1.regs = d.regs ∧
    ∀ a, memRead (d.dramServe sc i res m).2 a =
      match mirrorOf w.req.use w.req.addr.toNat with
      | some c => if c ≤ a ∧ a < c + bs.length then bs.getD (a - c) 0
          else if w.req.addr.toNat ≤ a ∧ a < w.req.addr.toNat + bs.length then bs.getD (a - w.req.addr.toNat) 0
          else memRead m a
      | none => if w.req.addr.toNat ≤ a ∧ a < w.req.addr.toNat + bs.length then bs.getD (a - w.req.addr.toNat) 0
          else memRead m a) ∧
  (∀ (sc : Fin 4) (s : State) (i : Nat) (w : DramWait) (d : Dev), Awake s →
    s.dev.dram.queue.findIdx? (fun v => (s.dev.dramLoc v.req.addr.toNat).sc == sc.val) = some i →
    s.dev.dram.queue[i]? = some w →
    d = (((s.dev.advanceTo (w.at_ + 50 * perUs)).modDram (fun r => { r with queue := r.queue.eraseIdx i })).fault 27 4) →
    exec (.dramTimeout sc) s = .next { s with dev := if w.req.data.isSome then d else d.badRead w.req }) ∧
  (∀ (sc : Fin 4) (s : State), (∀ w ∈ s.dev.dram.queue, (s.dev.dramLoc w.req.addr.toNat).sc ≠ sc.val) →
    exec (.dramTimeout sc) s = .next s)

/-- Topology (R366, R367, R377): what a TOPO message for this device tells is kept, with the peer of the port where it
comes from the neighbour; the news goes on where the peers changed, and the topology is judged; a TOPO for another device
goes on its way; a device that is not in STANDBY is not admitted. Losses (R379, R380): a lost member is one no more, with
what is known of it and what it had been sent; a port that fails, by ECC too, trains again and is counted; a message
without an answer is a fault, and the third in a row loses the member. -/
def Obligations.MembersJoinAndAreLost : Prop :=
  (∀ (p : Fin 4) (m : TopoMsg) (s : State) (n : Node) (d0 d : Dev), Awake s → (s.dev.bport p).state = 2 →
    n = ⟨m.dev, m.nbrs.map (fun v => v.val), m.locks.map (fun l => (l.1.val, l.2.1, l.2.2.val)), m.ready, m.idle⟩ →
    d0 = (match m.direct with
      | some k => s.dev.modBport p (fun b => { b with peer := some (m.dev.val, k.val) })
      | none => s.dev) →
    d = (if m.dev.val = s.dev.devId then d0
      else d0.modByf (fun b => { b with nodes := List.cons n (b.nodes.filter (fun x => x.dev != m.dev.val)) })) →
    ((m.direct.isSome = true ∨ m.dst.val = s.dev.devId) →
      exec (.topo p m) s = .next { s with dev :=
        (if (d.portPeers, (d.graphFrom d.devId).map (fun x => x.1)) =
            (s.dev.portPeers, (s.dev.graphFrom s.dev.devId).map (fun x => x.1)) then d else d.sendTopo).topoEval }) ∧
    (m.direct = none → m.dst.val ≠ s.dev.devId →
      exec (.topo p m) s = .next { s with dev := s.dev.sendFrom m.dev m.dst 0x01 (topoMsgWords m) })) ∧
  (∀ (p : Fin 4) (m : TopoMsg) (s : State), (s.dev.bport p).state ≠ 2 → exec (.topo p m) s = .next s) ∧
  (∀ d : Dev, d.byf.inside = false → d.mode.cur ≠ .standby →
    d.topoEval.byf.inside = false ∧ ∀ v, d.topoEval.members.contains v = true → d.members.contains v = true) ∧
  (∀ (v : Nat) (d : Dev), v < 8 → v ≠ d.devId →
    (d.joinDev v).members.contains v = true ∧ (d.joinDev v).bit BYF_JOIN v = true) ∧
  (∀ (v : Fin 8) (s : State), Awake s → s.dev.members.contains v.val = true →
    ∃ t, exec (.memberLost v) s = .next t ∧ OnlyDevice s t ∧ t.dev.members.contains v.val = false ∧
      (∀ n ∈ t.dev.byf.nodes, n.dev ≠ v.val) ∧ (∀ x ∈ t.dev.keeper.sent, x.dev ≠ v.val)) ∧
  (∀ (v : Fin 8) (s : State), s.dev.members.contains v.val = false → exec (.memberLost v) s = .next s) ∧
  (∀ (p : Fin 4) (s : State), Awake s →
    exec (.byoftPortFail p false) s = .next { s with dev := s.dev.byfDown p } ∧
    exec (.byoftPortFail p true) s = .next { s with dev := (s.dev.fault 29 11).byfDown p }) ∧
  (∀ (d : Dev) (p : Nat),
    ((d.bport p).state ≠ 2 → d.byfDown p = d) ∧
    ((d.bport p).state = 2 → d.byfDown p =
      ((d.count (BYF_PORT_RETRAIN_CNT p) 1).sendTraining false p false).byfLeave p 1 false)) ∧
  (∀ (d : Dev) (p st : Nat) (test : Bool), p < d.byf.ports.length →
    ((d.byfLeave p st test).bport p).state = st ∧ ((d.byfLeave p st test).bport p).peer = none) ∧
  (∀ (d : Dev) (v : Nat),
    (assocGet d.byf.missed v < 2 →
      d.unanswered v = (d.modByf (fun b => { b with missed := assocPut b.missed v (assocGet b.missed v + 1) })).fault 20 4) ∧
    (2 ≤ assocGet d.byf.missed v →
      d.unanswered v =
        (d.modByf (fun b => { b with missed := assocPut b.missed v (assocGet b.missed v + 1) })).memberLost v false))

/-- Training of ports (R321, R368, R391): a port that trains becomes trained at its sixth step, with its training blocks
sent; a training that runs over restarts and is counted; LINK_RETRAIN takes its ports down and waits for them, to
TIMEOUT after 10 ms. Flits (R370): a replay, after a NAK or 2 µs without an acknowledgement, is counted, reported at
most once per port per second, sends again from that flit on, and the eighth in a row of one flit is a link fault; a bad
flit is counted and NAKed; a port out of link service takes neither. What lies in the replay buffer is the model's
choice (log entry 103). -/
def Obligations.PortsTrainAndReplay : Prop :=
  (∀ (p : Fin 4) (a : TrainInfo) (s : State), Awake s → (s.dev.bport p).state = 1 → s.dev.byf.retrains = [] →
    exec (.trainingComplete (.byf p) a) s = .next { s with dev :=
      ((((s.dev.sendTraining false p true).modBport p (fun b => { b with
        state := 2, polInv := a.polInv.toNat, laneMap := a.laneMap.toNat, peer := none, run := 0
        last := none })).sendTopo).topoEval) }) ∧
  (∀ (b : Fin 16) (a : TrainInfo) (s : State), Awake s → (s.dev.port b).state = 1 → s.dev.scn.ports.length = 16 →
    ∃ t, exec (.trainingComplete (.scn b) a) s = .next t ∧ OnlyDevice s t ∧ (t.dev.port b).state = 2 ∧
      (t.dev.port b).linkFault = false ∧ (t.dev.port b).polInv = a.polInv.getLsbD 0 ∧ (t.dev.port b).cmd = 0 ∧
      ∀ c, c ≠ b.val → t.dev.port c = s.dev.port c) ∧
  (∀ (p : Fin 4) (a : TrainInfo) (s : State), (s.dev.bport p).state ≠ 1 →
    exec (.trainingComplete (.byf p) a) s = .next s ∧ exec (.trainingTimeout (.byf p)) s = .next s) ∧
  (∀ (b : Fin 16) (a : TrainInfo) (s : State), (s.dev.port b).state ≠ 1 →
    exec (.trainingComplete (.scn b) a) s = .next s ∧ exec (.trainingTimeout (.scn b)) s = .next s) ∧
  (∀ (b : Fin 16) (s : State), Awake s → (s.dev.port b).state = 1 →
    exec (.trainingTimeout (.scn b)) s =
      .next { s with dev := (s.dev.count (SCN_PORT_CNT b 2) 1).sendTraining true b false }) ∧
  (∀ (p : Fin 4) (s : State) (d : Dev), Awake s → (s.dev.bport p).state = 1 →
    d = (s.dev.count (BYF_PORT_RETRAIN_CNT p) 1).sendTraining false p false →
    ((∀ j ∈ s.dev.byf.retrains, p.val ∉ j.2.1 ∨ s.dev.tb3 < j.2.2 + 10 * perMs) →
      exec (.trainingTimeout (.byf p)) s = .next { s with dev := d }) ∧
    (∀ (q : Req) (at_ : Nat), s.dev.byf.retrains = [(q, [p.val], at_)] → at_ + 10 * perMs ≤ s.dev.tb3 →
      exec (.trainingTimeout (.byf p)) s = .next { s with dev :=
        ((d.modByf (fun k => { k with retrains := [] })).fail q stTimeout 0x0D01) })) ∧
  (∀ (r : Req) (e : Env) (s : State) (ps : List Nat) (d : Dev), Takes s 0x0D01 cmdLinkRetrain r →
    ps = (bitList 4 r.a0.toNat).filter (fun p => (s.dev.bport p).state == 1 || (s.dev.bport p).state == 2) →
    d = ps.foldl (fun d p => d.byfDown p) (started s 0x0D01 r) →
    (ps = [] → exec (.linkRetrain r e) s = .next { s with dev := d.ok (asOp 0x0D01 r) 0 0 0 0 }) ∧
    (ps ≠ [] → exec (.linkRetrain r e) s = .next { s with dev :=
      (d.modByf (fun b => { b with retrains := b.retrains ++ [(asOp 0x0D01 r, ps, d.tb3)] })) })) ∧
  (∀ (p : Fin 4) (n : BitVec 12) (s : State), Awake s → (s.dev.bport p).state = 2 →
    exec (.flitNak p false n) s = .next { s with dev :=
      ((s.dev.laneErrs ((List.range 4).map (fun l => 32 + 4 * p.val + l))).flitReplay p n.toNat) } ∧
    exec (.flitNak p true n) s = .next { s with dev :=
      (((s.dev.send (.nak p n.toNat)).count (BYF_PORT_CRC_CNT p) 1).laneErrs
        ((List.range 4).map (fun l => 48 + 4 * p.val + l))) } ∧
    exec (.flitReplayTimeout p n) s = .next { s with dev := s.dev.flitReplay p n.toNat }) ∧
  (∀ (p : Fin 4) (sent : Bool) (n : BitVec 12) (s : State), (s.dev.bport p).state ≠ 2 →
    exec (.flitNak p sent n) s = .next s ∧ exec (.flitReplayTimeout p n) s = .next s) ∧
  (∀ (d : Dev) (p n t : Nat) (fs : List Flit), p < d.byf.ports.length → (d.bport p).state = 2 →
    fs = (d.bport p).sent.dropWhile (fun f => f.seq != n) →
    (fs = [] → d.flitReplay p n = d) ∧
    (fs ≠ [] → (d.bport p).retryAt = some t → d.tb3 < t + 1000 * perMs →
      ((d.bport p).last ≠ some n → d.flitReplay p n = fs.foldl (fun d f => d.send (.flit p f))
        ((d.count (BYF_PORT_RETRY_CNT p) 1).modBport p (fun b => { b with run := 1, last := some n }))) ∧
      ((d.bport p).last = some n → (d.bport p).run < 7 → d.flitReplay p n = fs.foldl (fun d f => d.send (.flit p f))
        ((d.count (BYF_PORT_RETRY_CNT p) 1).modBport p (fun b => { b with run := b.run + 1, last := some n }))) ∧
      ((d.bport p).last = some n → (d.bport p).run = 7 → ((d.flitReplay p n).bport p).state = 1)))

/-- What the members tell (R367, R374, R383, R384, R225). A message for this device: a TIME_SYNC is answered on the
connection, and a step it announces is kept; the answer of the neighbour that time comes from gives delay and offset,
and a device that is not admitted steps by the offset; a note of HOLD or SAFE raises its fault; a forwarded event enters
the recorder's order, and a fault the history; progress, dry times and T_sync are kept; a device that is no member is
not heard. A message for another device goes on its way, with its source, where this device is admitted. -/
def Obligations.MembersTell : Prop :=
  (∀ (p : Fin 4) (dst : Fin 8) (t1 : Word64) (s : State), Awake s → dst.val = s.dev.devId →
    (∀ v k, (s.dev.bport p).state = 2 → (s.dev.bport p).peer = some (v, k) →
      exec (.timeSync ⟨p, dst⟩ t1 none) s =
        .next { s with dev := s.dev.sendTo v 0x03 [(t1.toNat : Int), (s.dev.tb3 : Int), (s.dev.tb3 : Int)] } ∧
      (∀ (k : Int) (n : Nat), s.dev.byf.inside = true →
        exec (.timeSync ⟨p, dst⟩ t1 (some (k, n))) s = .next { s with dev :=
          ((s.dev.modTime (fun c => { c with stepAt := some (n, k) })).sendTo v 0x03
            [(t1.toNat : Int), (s.dev.tb3 : Int), (s.dev.tb3 : Int)]) })) ∧
    (∀ step, ((s.dev.bport p).state ≠ 2 ∨ (s.dev.bport p).peer = none) → exec (.timeSync ⟨p, dst⟩ t1 step) s = .next s)) ∧
  (∀ s : State, Awake s → s.dev.portPeers = [] → exec .timeSyncInterval s = .next s) ∧
  (∀ (s : State) (v : Nat), Awake s → s.dev.portPeers = [v] → s.dev.master = s.dev.devId →
    exec .timeSyncInterval s = .next { s with dev := s.dev.sendTo v 0x02 [(s.dev.tb3 : Int)] }) ∧
  (∀ (p : Fin 4) (t1 t2 t3 t4 : Word64) (s : State) (delay ofs : Int), Awake s → s.dev.time.follows = true →
    s.dev.timePort = some p.val → p.val < nByoft s.dev.variant →
    delay = (((t4.toNat : Int) - t1.toNat) - ((t3.toNat : Int) - t2.toNat)) / 2 →
    ofs = (t2.toNat : Int) - t1.toNat - delay →
    (s.dev.byf.inside = true →
      ∃ t, exec (.timeReply p t1 t2 t3 t4) s = .next t ∧ OnlyDevice s t ∧ t.dev.time.corr = -ofs) ∧
    (s.dev.byf.inside = false →
      ∃ d, d = (s.dev.wrN (BYF_PORT_DELAY p) (unsigned 32 delay)).wrN BYF_TIME_OFS (unsigned 32 ofs) ∧
        exec (.timeReply p t1 t2 t3 t4) s = .next { s with dev := if ofs = 0 then d else d.stepTb3 (-ofs) })) ∧
  (∀ (p : Fin 4) (t1 t2 t3 t4 : Word64) (s : State), (s.dev.time.follows = false ∨ s.dev.timePort ≠ some p.val) →
    exec (.timeReply p t1 t2 t3 t4) s = .next s) ∧
  (∀ (v dst : Fin 8) (s : State), Awake s → dst.val = s.dev.devId → s.dev.members.contains v.val = true →
    (∀ (m : BitVec 3) (c : BitVec 8),
      exec (.modeNote ⟨v, dst⟩ m c) s = .next { s with dev := (if m = 4 then (s.dev.peerMode v 4).fault 29 6
        else if m = 5 then (s.dev.peerMode v 5).fault 29 7 else s.dev.peerMode v m.toNat) }) ∧
    (∀ (x : FwdEvent) (d : Dev),
      d = s.dev.queueEvent ⟨x.t.toNat, v, x.src.toNat, x.code.toNat, x.flags.toNat ||| 32, pay x.payload⟩ →
      (x.flags.getLsbD 0 = false →
        (¬ (x.src = 1 ∧ x.code = 0x20) → exec (.forwardedEvent ⟨v, dst⟩ x) s = .next { s with dev := d }) ∧
        (x.src = 1 → x.code = 0x20 →
          exec (.forwardedEvent ⟨v, dst⟩ x) s = .next { s with dev := d.peerMode v (bytesAt x.payload 0 1) })) ∧
      (x.flags.getLsbD 0 = true → ¬ (x.src = 1 ∧ x.code = 0x20) →
        ∃ f : Hist, f.t = x.t.toNat ∧ f.src = x.src.toNat ∧ f.cause = x.code.toNat ∧ f.dev = v.val ∧ f.forwarded = true ∧
          exec (.forwardedEvent ⟨v, dst⟩ x) s = .next { s with dev := d.enter f })) ∧
    (∀ t : Word64, exec (.progress ⟨v, dst⟩ t) s = .next { s with dev :=
      (s.dev.modByf (fun b => { b with heard := assocPut b.heard v t.toNat })).admitHalves }) ∧
    (∀ (vec : Word) (t : Word64),
      (s.dev.running = none → exec (.xsync ⟨v, dst⟩ vec t) s = .next s) ∧
      (∀ l : Layer, s.dev.running = some l →
        exec (.xsync ⟨v, dst⟩ vec t) s = .next { s with dev :=
          (s.dev.modKeeper (fun k => { k with syncs := List.cons (l.num, vec.toNat, t.toNat) k.syncs })) })) ∧
    (∀ q : List (Fin 16 × Word), ∃ t', exec (.qtime ⟨v, dst⟩ q) s = .next t' ∧ OnlyDevice s t' ∧ t'.dev.regs = s.dev.regs ∧
      ∀ b w, q = [(b, w)] → assocGet t'.dev.keeper.peerQ (v.val * 16 + b.val) = w.toNat)) ∧
  (∀ (v dst : Fin 8) (m : BitVec 3) (c : BitVec 8) (x : FwdEvent) (t : Word64) (q : List (Fin 16 × Word)) (vec : Word)
      (s : State), dst.val = s.dev.devId → s.dev.members.contains v.val = false →
    exec (.modeNote ⟨v, dst⟩ m c) s = .next s ∧ exec (.forwardedEvent ⟨v, dst⟩ x) s = .next s ∧
    exec (.progress ⟨v, dst⟩ t) s = .next s ∧ exec (.qtime ⟨v, dst⟩ q) s = .next s ∧ exec (.xsync ⟨v, dst⟩ vec t) s = .next s) ∧
  (∀ (p : Fin 4) (v dst : Fin 8) (m : BitVec 3) (c : BitVec 8) (x : FwdEvent) (t : Word64) (q : List (Fin 16 × Word))
      (vec : Word) (s : State), Awake s → dst.val ≠ s.dev.devId →
    (s.dev.byf.inside = true →
      exec (.timeSync ⟨p, dst⟩ t none) s = .next { s with dev := s.dev.sendFrom s.dev.master dst 0x02 [(t.toNat : Int)] } ∧
      exec (.modeNote ⟨v, dst⟩ m c) s =
        .next { s with dev := s.dev.sendFrom v dst 0x04 [(m.toNat : Int), (c.toNat : Int)] } ∧
      exec (.qtime ⟨v, dst⟩ q) s = .next { s with dev :=
        (s.dev.sendFrom v dst 0x10 (q.flatMap (fun y => [(y.1.val : Int), (y.2.toNat : Int)]))) } ∧
      exec (.xsync ⟨v, dst⟩ vec t) s =
        .next { s with dev := s.dev.sendFrom v dst 0x13 [(vec.toNat : Int), (t.toNat : Int)] } ∧
      exec (.forwardedEvent ⟨v, dst⟩ x) s = .next { s with dev := (s.dev.sendFrom v dst 0x30
        ([(x.t.toNat : Int), (x.src.toNat : Int), (x.code.toNat : Int), (x.flags.toNat : Int)] ++ byteWords x.payload)) } ∧
      exec (.progress ⟨v, dst⟩ t) s = .next { s with dev := s.dev.sendFrom v dst 0x31 [(t.toNat : Int)] }) ∧
    (s.dev.byf.inside = false →
      exec (.timeSync ⟨p, dst⟩ t none) s = .next s ∧ exec (.modeNote ⟨v, dst⟩ m c) s = .next s ∧
      exec (.qtime ⟨v, dst⟩ q) s = .next s ∧ exec (.xsync ⟨v, dst⟩ vec t) s = .next s ∧
      exec (.forwardedEvent ⟨v, dst⟩ x) s = .next s ∧ exec (.progress ⟨v, dst⟩ t) s = .next s))

/-- Entries across devices (R225, R380, R382, R388). A message for this device: an entry for a live beam is queued, a
stitch half in its place among the halves, and acknowledged; the acknowledgement of an entry marks it; an entry
unanswered returns to its lock without that beam, and an unanswered request is sent again; a last report gives its
vector's outcome; a request for a shift is answered where no request of this device comes before it; the last answer lets
the unit commit at the largest shift. Residuals and queries of the link (R385, R391): in CALIBRATE a point asked for is
probed with the members of the lock here; an entry of the peer is written, and a grid commit there makes it stale;
LINK_QUERY shows the link. A message for another device goes on its way (R367). -/
def Obligations.WorkCrossesDevices : Prop :=
  (∀ (v dst : Fin 8) (x : XAssign) (s : State) (u : WUnit), Awake s → dst.val = s.dev.devId →
    u = XAssign.unit x v s.dev.tick →
    (∀ n, s.dev.members.contains v.val = true → s.dev.mode.cur = .build → s.dev.beamLive x.beam = true →
      s.dev.engineOf x.beam = some n →
      (x.half = none → exec (.xassign ⟨v, dst⟩ x) s =
        .next { s with dev := (s.dev.enqueue n u).sendTo v 0x12 [(u.vec : Int)] }) ∧
      (x.half ≠ none → exec (.xassign ⟨v, dst⟩ x) s = .next { s with dev := ((s.dev.modKeeper (fun k => { k with
        halves := putHalf ⟨x.t, v, x.seq, n, u, none⟩ k.halves })).admitHalves.sendTo v 0x12 [(u.vec : Int)]) })) ∧
    ((s.dev.members.contains v.val = false ∨ s.dev.mode.cur ≠ .build ∨ s.dev.beamLive x.beam = false) →
      exec (.xassign ⟨v, dst⟩ x) s = .next s)) ∧
  (∀ (v dst : Fin 8) (vec : Word) (s : State), Awake s → dst.val = s.dev.devId →
    (s.dev.members.contains v.val = false → exec (.xack ⟨v, dst⟩ vec) s = .next s) ∧
    (∀ y : Sent, s.dev.members.contains v.val = true → s.dev.keeper.sent = [y] → y.dev = v.val → y.vec = vec.toNat →
      ∃ t, exec (.xack ⟨v, dst⟩ vec) s = .next t ∧ OnlyDevice s t ∧ t.dev.keeper.sent = [{ y with acked := true }] ∧
        assocGet t.dev.byf.missed v = 0 ∧ t.dev.regs = s.dev.regs)) ∧
  (∀ (v : Fin 8) (vec : Word) (s : State), Awake s →
    (∀ (y : Sent) (l : Nat), s.dev.keeper.sent = [y] → y.dev = v.val → y.vec = vec.toNat → y.acked = false →
      y.unit.lock = some l →
      exec (.xdevAckTimeout v vec) s = .next { s with dev :=
        (((s.dev.modKeeper (fun k => { k with sent := [] })).modLock l (fun q =>
          q.takeBack { y.unit with excluded := y.unit.excluded ++ [y.beam] })).unanswered v) }) ∧
    (∀ (w : XWait) (d : Dev), s.dev.keeper.sent = [] → s.dev.keeper.xwait = [w] → w.dev = v.val → w.vec = vec.toNat →
      d = s.dev.modKeeper (fun k => { k with xwait := [{ w with tries := w.tries + 1 }] }) →
      exec (.xdevAckTimeout v vec) s = .next { s with dev := ((match d.askedRun w with
        | some r => d.sendTo v 0x14 (xtrackWords { d.xtrackOf r with t := w.t })
        | none => d).unanswered v) }) ∧
    (s.dev.keeper.sent = [] → s.dev.keeper.xwait = [] → exec (.xdevAckTimeout v vec) s = .next s)) ∧
  (∀ (v dst : Fin 8) (vec arc : Word) (t : Word64) (s : State), Awake s → dst.val = s.dev.devId →
    (∀ o, s.dev.keeper.sent = [] → exec (.xprogress ⟨v, dst⟩ vec arc t o) s = .next s) ∧
    (∀ y : Sent, s.dev.keeper.sent = [y] → y.dev = v.val → y.unit.recs.any (fun r => r.vecId == vec.toNat) = true →
      (∃ u, exec (.xprogress ⟨v, dst⟩ vec arc t none) s = .next u ∧ OnlyDevice s u ∧
        u.dev.keeper.sent = [{ y with prog := some (vec.toNat, arc.toNat, t.toNat) }] ∧ u.dev.regs = s.dev.regs) ∧
      (∀ st : BitVec 8, y.unit.recs.length = 1 →
        exec (.xprogress ⟨v, dst⟩ vec arc t (some st)) s = .next { s with dev :=
          ((s.dev.modKeeper (fun k => { k with sent := [] })).giveOutcome y.unit 0
            ⟨st.toNat, some y.beam, false, 0, arc.toNat, t.toNat, false⟩) }))) ∧
  (∀ (v dst : Fin 8) (x : XTrack) (s : State), Awake s → dst.val = s.dev.devId →
    ((s.dev.members.contains v.val = false ∨ s.dev.mode.cur ≠ .build) → exec (.xcommitReq ⟨v, dst⟩ x) s = .next s) ∧
    (s.dev.members.contains v.val = true → s.dev.mode.cur = .build → s.dev.keeper.xreqs = [] →
      (s.dev.mayAnswer v x.t = true → exec (.xcommitReq ⟨v, dst⟩ x) s =
        .next { s with dev := s.dev.sendTo v 0x15 [(x.vec.toNat : Int), (s.dev.shiftAnswer x : Int)] }) ∧
      (s.dev.mayAnswer v x.t = false → exec (.xcommitReq ⟨v, dst⟩ x) s =
        .next { s with dev := s.dev.modKeeper (fun k => { k with xreqs := [(v.val, x)] }) })) ∧
    (s.dev.bit LK_PLUME_CFG 31 = false → x.revisit = 0 → s.dev.shiftAnswer x = 0)) ∧
  (∀ (v dst : Fin 8) (vec shift : Word) (s : State), Awake s → dst.val = s.dev.devId →
    (s.dev.keeper.xwait = [] → exec (.xcommitRsp ⟨v, dst⟩ vec shift) s = .next s) ∧
    (∀ (w : XWait) (d : Dev) (c : Option Nat), s.dev.keeper.xwait = [w] → w.dev = v.val → w.vec = vec.toNat →
      d = (s.dev.answered v).modKeeper (fun q => { q with xwait := [] }) →
      c = (match w.conflict with
        | some b => some b
        | none => if w.shift < shift.toNat then s.dev.causeAt w shift.toNat else none) →
      exec (.xcommitRsp ⟨v, dst⟩ vec shift) s = .next { s with dev :=
        ((if d.committing w.engine then d.peersAgree w.engine (Nat.max w.shift shift.toNat) c w.kind
          else d).serveReqs) })) ∧
  (∀ (v dst : Fin 8) (s : State) (i : Fin 64), Awake s → dst.val = s.dev.devId →
    (∀ x, s.dev.members.contains v.val = false → exec (.resid ⟨v, dst⟩ x) s = .next s) ∧
    (s.dev.members.contains v.val = true →
      (∀ mx rms n : Word, exec (.resid ⟨v, dst⟩ (.entry i mx rms n)) s = .next { s with dev := ({ s.dev with
        resids := s.dev.resids.set i.val ⟨n.bit 8, mx.toNat, rms.toNat, n.toNat, s.dev.gridCommits, true⟩ }) }) ∧
      (∀ x, s.dev.resids[i.val]? = some x →
        ∃ t, exec (.resid ⟨v, dst⟩ (.stale i)) s = .next t ∧ OnlyDevice s t ∧
          t.dev.resids[i.val]? = some (if x.made then { x with r2 := x.r2 ||| 512 } else x) ∧
          t.dev.regs = s.dev.regs) ∧
      (∀ k got, s.dev.probes = [] → exec (.resid ⟨v, dst⟩ (.answer i k got)) s = .next s) ∧
      (∀ (k : Nat) (px py : Int) (tab : Word) (set : BitVec 8) (fr : Nat),
        (s.dev.mode.cur ≠ .calibrate → exec (.resid ⟨v, dst⟩ (.ask i k px py tab set fr)) s = .next s) ∧
        (s.dev.mode.cur = .calibrate →
          ∃ j : ProbeJob, j.lock = some i.val ∧ j.peer = some v.val ∧ j.serves = true ∧ j.frames = fr ∧
            j.todo = (bitList 16 (s.dev.lockMembers i)).map (fun b => Probe.mk k b px py) ∧
            exec (.resid ⟨v, dst⟩ (.ask i k px py tab set fr)) s =
              .next { s with dev := (({ s.dev with probes := s.dev.probes ++ [j] } : Dev).stepProbe j) })))) ∧
  (∀ (r : Req) (e : Env) (s : State), Takes s 0x0D80 cmdLinkQuery r →
    exec (.linkQuery r e) s = .next { s with dev := ((started s 0x0D80 r).ok (asOp 0x0D80 r)
      (s.dev.rd BYF_STATUS).toNat (s.dev.byf.modes.foldl (fun x y => x + (if s.dev.members.contains y.1 then
        y.2 * 2 ^ (3 * y.1) else 0)) 0 + s.dev.mode.cur.code * 2 ^ (3 * s.dev.devId)) 0 0) }) ∧
  (∀ (v dst : Fin 8) (x : XAssign) (y : XTrack) (z : XResid) (vec w : Word) (t : Word64) (o : Option (BitVec 8)) (s : State),
    Awake s → dst.val ≠ s.dev.devId →
    (s.dev.byf.inside = true →
      exec (.xassign ⟨v, dst⟩ x) s = .next { s with dev := s.dev.sendFrom v dst 0x11 (xassignWords x) } ∧
      exec (.xack ⟨v, dst⟩ vec) s = .next { s with dev := s.dev.sendFrom v dst 0x12 [(vec.toNat : Int)] } ∧
      exec (.xcommitReq ⟨v, dst⟩ y) s = .next { s with dev := s.dev.sendFrom v dst 0x14 (xtrackWords y) } ∧
      exec (.xcommitRsp ⟨v, dst⟩ vec w) s =
        .next { s with dev := s.dev.sendFrom v dst 0x15 [(vec.toNat : Int), (w.toNat : Int)] } ∧
      exec (.xprogress ⟨v, dst⟩ vec w t o) s = .next { s with dev := (s.dev.sendFrom v dst 0x16
        ([(vec.toNat : Int), (w.toNat : Int), (t.toNat : Int)] ++ (o.map (fun f => (f.toNat : Int))).toList)) } ∧
      exec (.resid ⟨v, dst⟩ z) s = .next { s with dev := s.dev.sendFrom v dst 0x33 (xresidWords z) }) ∧
    (s.dev.byf.inside = false →
      exec (.xassign ⟨v, dst⟩ x) s = .next s ∧ exec (.xack ⟨v, dst⟩ vec) s = .next s ∧
      exec (.xcommitReq ⟨v, dst⟩ y) s = .next s ∧ exec (.xcommitRsp ⟨v, dst⟩ vec w) s = .next s ∧
      exec (.xprogress ⟨v, dst⟩ vec w t o) s = .next s ∧ exec (.resid ⟨v, dst⟩ z) s = .next s))

/-- Lane tests (R339 to R341, R345, R387): the checker of a lane under test counts; a burst of errors is injected unless
one runs or the lane is not under test; LT_LANEl_CFG is written in CONFIGURE, and a write that would change it is refused
elsewhere; the peer agrees to a test in SERVICE alone, and an answer ends the LANE_TEST that waits for it; LANE_TEST
writes the lane's configuration, and without LOOP on a Byoft lane waits for the peer. -/
def Obligations.LanesAreTested : Prop :=
  (∀ (l : Fin 64) (errors bits : Nat) (s : State), Awake s →
    (s.dev.bit (LT_CFG l) 31 = true →
      ∃ t, exec (.prbsCheckerLock l errors bits) s = .next t ∧ OnlyDevice s t ∧ t.dev.bit (LT_STATUS l) 31 = true ∧
        t.dev.rd (LT_ERR l) = satInc (s.dev.rd (LT_ERR l)) errors ∧
        t.dev.rd64 (LT_BITS_LO l) (LT_BITS_HI l) = (s.dev.rd64 (LT_BITS_LO l) (LT_BITS_HI l) + bits) % 2 ^ 64) ∧
    (s.dev.bit (LT_CFG l) 31 = false → exec (.prbsCheckerLock l errors bits) s = .next s)) ∧
  (∀ (l : Fin 64) (s : State) (busy : Bool),
    busy = s.dev.scn.burst.any (fun b => b.1 == l.val && decide (s.dev.tb3 < b.2)) →
    (Up s → lanePresent s.dev.variant l = true → s.dev.bit (LT_CFG l) 31 = true → busy = false →
      ∃ t, exec (.laneInject l) s = .next t ∧ OnlyDevice s t ∧
        t.dev.fld (LT_STATUS l) 0 16 = Nat.min 0xFFFF (s.dev.fld (LT_STATUS l) 0 16 + 1) ∧
        t.dev.scn.burst.any (fun b => b.1 == l.val && decide (s.dev.tb3 < b.2)) = true) ∧
    ((lanePresent s.dev.variant l = false ∨ s.dev.bit (LT_CFG l) 31 = false ∨ busy = true) →
      exec (.laneInject l) s = .next s)) ∧
  (∀ (l : Fin 64) (val : Word) (s : State),
    (lanePresent s.dev.variant l = false → exec (.laneCfgWrite l val) s = .next s) ∧
    (Up s → lanePresent s.dev.variant l = true →
      (s.dev.mode.cur = .configure →
        ∃ t, exec (.laneCfgWrite l val) s = .next t ∧ OnlyDevice s t ∧ t.dev.bit (LT_CFG l) 31 = val.bit 31 ∧
          t.dev.bit (LT_CFG l) 27 = val.bit 27 ∧ t.dev.fld (LT_CFG l) 28 2 = val.get 28 2 ∧
          t.dev.fld (LT_CFG l) 8 8 = Nat.min (val.get 8 8) 64) ∧
      (s.dev.mode.cur ≠ .configure → exec (.laneCfgWrite l val) s = .next (if val &&& 0xB800FF00 = s.dev.rd (LT_CFG l)
        then s else { s with dev := s.dev.refuse (LT_CFG l) })))) ∧
  (∀ (p l : Fin 4) (s : State), Awake s →
    ((s.dev.bport p).state ≠ 2 → exec (.testReq p l none) s = .next s) ∧
    ((s.dev.bport p).state = 2 → s.dev.mode.cur ≠ .service →
      exec (.testReq p l none) s = .next { s with dev := s.dev.sendTest p l (some false) }) ∧
    ((s.dev.bport p).state = 2 → s.dev.mode.cur = .service →
      exec (.testReq p l none) s = .next { s with dev := (s.dev.sendTest p l (some true)).byfLeave p 4 true }) ∧
    (∀ a, s.dev.byf.tests = [] → exec (.testReq p l (some a)) s = .next s) ∧
    (∀ (k : Nat) (q : Req) (d : Dev), s.dev.byf.tests = [(k, q)] → laneByf k = (p.val, l.val) →
      d = s.dev.modByf (fun b => { b with tests := [] }) →
      exec (.testReq p l (some true)) s = .next { s with dev := (((d.byfLeave p 4 true).send
        (.prbs (32 + 4 * p + l) (d.fld (LT_CFG k) 28 2))).ok q 0 0 0 0) } ∧
      exec (.testReq p l (some false)) s =
        .next { s with dev := (d.setBit (LT_CFG k) 31 false).fail q stLimit 0x0C33 })) ∧
  (∀ (r : Req) (e : Env) (s : State) (d : Dev), Takes s 0x0C30 cmdLaneTest r →
    d = (started s 0x0C30 r).laneCfg (r.a0.get 0 6) (r.a1.bit 3) (r.a1.bit 2) (r.a1.get 0 2) (r.a1.get 8 8) →
    ((r.a1.bit 3 && !r.a1.bit 2 && decide (32 ≤ r.a0.get 0 6)) = false →
      exec (.laneTest r e) s = .next { s with dev := d.ok (asOp 0x0C30 r) 0 0 0 0 }) ∧
    ((r.a1.bit 3 && !r.a1.bit 2 && decide (32 ≤ r.a0.get 0 6)) = true →
      exec (.laneTest r e) s = .next { s with dev :=
        (d.modByf (fun b => { b with tests := b.tests ++ [(r.a0.get 0 6, asOp 0x0C30 r)] })) }))

/-- The time bases (R392 to R399): a REFCLK cycle adds 640 units to TB0 and 640 × (1 + FREQ) to TB1 with the remainder
carried; a comparison shows LOCKED, outside a step window changes nothing more, and inside one steps a device that
stands alone by the offset in whole ticks, and has a master with members announce the step to them; an announced step comes at its tick; TIME_SNAP latches the four bases
together. Commands on the bases (R395, R401, R411). -/
def Obligations.TimeBases : Prop :=
  (∀ d : Dev, d.refCycle.tb0 = d.tb0 + 640 ∧
    (d.time.tb1 + (d.time.rem1 + 640 * d.rate1) / 2 ^ 41 < 2 ^ 64 →
      d.refCycle.time.tb1 * 2 ^ 41 + d.refCycle.time.rem1 = d.time.tb1 * 2 ^ 41 + d.time.rem1 + 640 * d.rate1)) ∧
  (∀ (open_ : Bool) (s : State) (d : Dev) (diff : Int), 2 ≤ s.dev.mode.boot → d = s.dev.refCycle.endStops →
    diff = (d.time.tb1 : Int) - d.tb3 → d.time.follows = false →
    ((d.stepWindow = false ∨ (d.members ≠ [] ∧ open_ = false)) →
      (diff.natAbs ≤ (d.rd TIME_LOCK_LIM).toNat * 16 →
        exec (.tb3Compare open_) s = .next { s with dev := d.setBit TIME_STATUS 29 true }) ∧
      ((d.rd TIME_LOCK_LIM).toNat * 16 < diff.natAbs → d.time.apart = false →
        exec (.tb3Compare open_) s = .next { s with dev :=
          (((d.setBit TIME_STATUS 29 false).modTime (fun c => { c with apart := true })).fault 35 6) })) ∧
    (∀ g : Dev, g = ((d.setBit TIME_STATUS 29 (decide (diff.natAbs ≤ (d.rd TIME_LOCK_LIM).toNat * 16))).modTime
        (fun c => { c with apart := false })) →
      (d.stepWindow = true → (d.members = [] ∨ open_ = true) → diff.natAbs ≤ (d.rd TIME_STEP_LIM).toNat * 16 →
        exec (.tb3Compare open_) s = .next { s with dev := g }) ∧
      (d.stepWindow = true → (d.rd TIME_STEP_LIM).toNat * 16 < diff.natAbs → divRound diff 8000 ≠ 0 →
        d.time.stepAt = none →
        (d.members = [] →
          exec (.tb3Compare open_) s = .next { s with dev := g.stepTb3 (divRound diff 8000 * 8000) }) ∧
        (d.members ≠ [] → open_ = true → ∀ at_, at_ = ((d.tb3 + 100 * perUs) / perTick + 1) * perTick →
          exec (.tb3Compare open_) s = .next { s with dev := (d.members.foldl (fun g v => g.sendTo v 0x02
            [(g.tb3 : Int), divRound diff 8000 * 8000, (at_ : Int)])
            (g.modTime (fun c => { c with stepAt := some (at_, divRound diff 8000 * 8000) }))) })))) ∧
  (∀ (open_ : Bool) (s : State) (d : Dev), 2 ≤ s.dev.mode.boot → d = s.dev.refCycle.endStops → d.time.follows = true →
    exec (.tb3Compare open_) s = .next { s with dev := (d.setBit TIME_STATUS 29
      (decide (((d.time.tb1 : Int) - d.tb3).natAbs ≤ (d.rd TIME_LOCK_LIM).toNat * 16))) }) ∧
  (∀ (open_ : Bool) (s : State), s.dev.mode.boot < 2 → exec (.tb3Compare open_) s = .next s) ∧
  (∀ (s : State) (t : Nat) (k : Int), Awake s → s.dev.time.stepAt = some (t, k) →
    exec .tb3StepApply s = .next { s with dev :=
      (((s.dev.advanceTo t).modTime (fun c => { c with stepAt := none })).stepTb3 k) }) ∧
  (∀ s : State, s.dev.time.stepAt = none → exec .tb3StepApply s = .next s) ∧
  (∀ (d : Dev) (by_ : Int), 0 ≤ (d.tb3 : Int) + by_ → ((d.stepTb3 by_).tb3 : Int) = d.tb3 + by_ ∧
    (d.stepTb3 by_).time.tb1 = d.time.tb1) ∧
  (∀ s : State, Up s →
    ∃ t, exec .timeSnap s = .next t ∧ OnlyDevice s t ∧
      ∀ k, k < 4 → t.dev.rd64 (TIME_SNAP_LO k) (TIME_SNAP_HI k) = s.dev.base k % 2 ^ 64) ∧
  (∀ (r : Req) (e : Env) (s : State),
    (Takes s 0x0901 cmdTimeBuildStart r →
      ∃ t, exec (.timeBuildStart r e) s = .next t ∧ OnlyDevice s t ∧ t.dev.time.tb2 = 0 ∧
        (s.dev.tb3 < r.a0.toNat + r.a1.toNat * 2 ^ 32 →
          t.dev.time.tb2Run = false ∧ t.dev.time.build = some (r.a0.toNat + r.a1.toNat * 2 ^ 32)) ∧
        ((r.a0.toNat + r.a1.toNat * 2 ^ 32 = s.dev.tb3 ∨ r.a0.toNat + r.a1.toNat * 2 ^ 32 = 0) →
          t.dev.time.tb2Run = true)) ∧
    (Takes s 0x0904 cmdTimeTb1Set r →
      exec (.timeTb1Set r e) s = .next { s with dev := ((((started s 0x0904 r).wr TIME_TB1_FREQ r.a2).stepTb1
        (signed 64 (r.a0.toNat + r.a1.toNat * 2 ^ 32))).ok (asOp 0x0904 r) 0 0 0 0) }) ∧
    (Takes s 0x0980 cmdTimeQuery r →
      exec (.timeQuery r e) s = .next { s with dev := ((started s 0x0980 r).okData (asOp 0x0980 r)
        (leBytes 8 s.dev.tb0 ++ leBytes 8 s.dev.time.tb1 ++ leBytes 8 s.dev.time.tb2 ++ leBytes 8 s.dev.tb3) 0 0 0 0) }) ∧
    (∀ b, b = (dataOf r e).take 64 → TakesData s 0x0905 cmdPtpAddrSet r e →
      (allZero ((b.drop 20).take 12) = true → allZero ((b.drop 52).take 12) = true →
        ∃ t, exec (.ptpAddrSet r e) s = .next t ∧ OnlyDevice s t ∧ t.dev.time.addrs = b) ∧
      ((allZero ((b.drop 20).take 12) = false ∨ allZero ((b.drop 52).take 12) = false) →
        exec (.ptpAddrSet r e) s =
          .next { s with dev := (started s 0x0905 r).fail (asOp 0x0905 r) stMalformed 0x0004 })))

/-- Network time (R400 to R404): a Sync of the domain, with its follow-up, on the port of PTP steers TB1, where the
device does not act as time transmitter and no grandmaster settles; LOCKED takes sixteen good Syncs in a row; a better
own dataset makes it act as one; another grandmaster is a change; the end of Syncs, a link that goes down and the end of
the settling time do what the rules say; frames are answered for the port's own addresses alone; each interval sends what
the role asks. -/
def Obligations.NetworkTime : Prop :=
  (∀ (p : PtpSync) (s : State) (d : Dev), Awake s → d = s.dev.ethUp p.port p.fast →
    ((d.ptpRuns = false ∨ p.port.val ≠ d.fld TIME_STATUS 27 1 ∨ p.domain.toNat ≠ d.fld TIME_CFG 16 8 ∨
      p.followUp = false) → exec (.ptpSync p) s = .next { s with dev := d }) ∧
    (d.ptpRuns = true → p.port.val = d.fld TIME_STATUS 27 1 → p.domain.toNat = d.fld TIME_CFG 16 8 → p.followUp = true →
      (d.bit TIME_CFG 30 = true → d.ownBetter p = true →
        exec (.ptpSync p) s = .next { s with dev := d.setBit TIME_STATUS 26 true }) ∧
      ((d.bit TIME_CFG 30 = false ∨ d.ownBetter p = false) →
        ((d.time.gm = none ∨ d.time.gm = some p.gm.toNat) → ∀ g : Dev,
          g = (d.setBit TIME_STATUS 26 false).modTime (fun c => { c with gm := some p.gm.toNat }) →
          exec (.ptpSync p) s = .next { s with dev := if d.time.settle then g else g.syncIn p }) ∧
        (∀ g, d.time.gm = some g → g ≠ p.gm.toNat →
          exec (.ptpSync p) s =
            .next { s with dev := (d.setBit TIME_STATUS 26 false).gmChange (some p.gm.toNat) })))) ∧
  (∀ (d : Dev) (p : PtpSync), (d.syncIn p).tb1State = 2 → d.tb1State ≠ 2 → 15 ≤ d.time.good ∧ d.tb1State = 1) ∧
  (∀ s : State, Awake s →
    (s.dev.ptpRuns = false → exec .ptpSyncLoss s = .next s) ∧
    (s.dev.ptpRuns = true → s.dev.bit TIME_CFG 30 = false →
      ((s.dev.tb1State = 1 ∨ s.dev.tb1State = 2) → exec .ptpSyncLoss s = .next { s with dev := s.dev.ptpLost }) ∧
      ((s.dev.tb1State = 0 ∨ s.dev.tb1State = 3) → exec .ptpSyncLoss s = .next s)) ∧
    (s.dev.ptpRuns = true → s.dev.bit TIME_CFG 30 = true → (s.dev.tb1State = 1 ∨ s.dev.tb1State = 2) →
      exec .ptpSyncLoss s = .next { s with dev := (s.dev.setBit TIME_STATUS 26 true).ptpLost })) ∧
  (∀ d : Dev, d.tb1State = 2 → d.ptpLost.tb1State = 3 ∧ d.ptpLost.bit TIME_ERR 8 = true) ∧
  (∀ s : State, Awake s → s.dev.time.settle = true → s.dev.tb1State = 3 →
    ∃ t, exec .gmSettleExpiry s = .next t ∧ OnlyDevice s t ∧ t.dev.tb1State = 1 ∧ t.dev.time.settle = false) ∧
  (∀ s : State, (s.dev.time.settle = false ∨ s.dev.tb1State ≠ 3) → exec .gmSettleExpiry s = .next s) ∧
  (∀ (p : Fin 2) (s : State) (d : Dev) (other : Nat), Awake s → d = s.dev.setBit (TIME_ETH_STATUS p) 31 false →
    other = 1 - p.val →
    ((s.dev.ptpRuns = false ∨ s.dev.bit TIME_CFG 24 = false ∨ s.dev.fld TIME_STATUS 27 1 ≠ p.val ∨
      s.dev.bit (TIME_ETH_STATUS other) 31 = false) → exec (.ethLinkLoss p) s = .next { s with dev := d }) ∧
    (s.dev.ptpRuns = true → s.dev.bit TIME_CFG 24 = true → s.dev.fld TIME_STATUS 27 1 = p.val →
      s.dev.bit (TIME_ETH_STATUS other) 31 = true →
      exec (.ethLinkLoss p) s = .next { s with dev := (d.setFld TIME_STATUS 27 1 other).gmChange s.dev.time.gm })) ∧
  (∀ (p : Fin 2) (k : EthFrame) (s : State) (d : Dev), Awake s → d = s.dev.ethUp p k.fast →
    ((s.dev.mode.fwSup = false ∨ (k.arp = none ∧ k.nd = none)) →
      exec (.ethFrameReceived p k) s = .next { s with dev := d }) ∧
    (∀ a, s.dev.mode.fwSup = true → k.arp = some a → a = (s.dev.time.addrs.drop (32 * p.val)).take 4 →
      allZero a = false → exec (.ethFrameReceived p k) s = .next { s with dev := d.send (.ethReply p false) }) ∧
    (∀ a, s.dev.mode.fwSup = true → k.arp = none → k.nd = some a →
      a = ((s.dev.time.addrs.drop (32 * p.val)).drop 4).take 16 → allZero a = false →
      exec (.ethFrameReceived p k) s = .next { s with dev := d.send (.ethReply p true) })) ∧
  (∀ (s : State) (p stamp : Nat), Awake s → p = s.dev.fld TIME_STATUS 27 1 →
    stamp = s.dev.epoch * 16000000000 + s.dev.time.tb1 + s.dev.fld (TIME_ETH_EGR_LAT p) 0 16 →
    (s.dev.ptpRuns = false → exec .ptpTxInterval s = .next s) ∧
    (s.dev.ptpRuns = true → s.dev.bit TIME_STATUS 26 = true →
      exec .ptpTxInterval s = .next { s with dev := (if s.dev.bit TIME_CFG 28 then s.dev.send (.ptp p 0 stamp)
        else (s.dev.send (.ptp p 0 0)).send (.ptp p 8 stamp)) }) ∧
    (s.dev.ptpRuns = true → s.dev.bit TIME_STATUS 26 = false →
      ((s.dev.tb1State = 1 ∨ s.dev.tb1State = 2) →
        exec .ptpTxInterval s = .next { s with dev := s.dev.send (.ptp p (if s.dev.bit TIME_CFG 29 then 2 else 1) stamp) }) ∧
      ((s.dev.tb1State = 0 ∨ s.dev.tb1State = 3) → exec .ptpTxInterval s = .next s)))

/-- Timed outputs and captures (R405 to R410): TIME_TOUT_ARM arms its output for START, and a one-shot whose START has
passed ends LATE; an armed output pulses at its edge, on TB2 once that runs, and a periodic one goes on; TIME_TOUT_STOP disarms; an edge on an
input that takes it latches TB3 and TB1 and is an event; one too soon, or with 64 captures waiting, is dropped. -/
def Obligations.OutputsAndCaptures : Prop :=
  (∀ (r : Req) (e : Env) (s : State) (i k start : Nat), Takes s 0x0902 cmdTimeToutArm r → i = r.a0.get 0 3 →
    k = r.a0.get 4 2 → start = r.a1.toNat + r.a2.toNat * 2 ^ 32 → s.dev.time.outs.length = 8 →
    (s.dev.base k ≤ start →
      ∃ t, exec (.timeToutArm r e) s = .next t ∧ OnlyDevice s t ∧ t.dev.bit (TIME_TOUT_CFG i) 31 = true ∧
        t.dev.fld (TIME_TOUT_CFG i) 24 2 = k ∧ t.dev.bit (TIME_TOUT_CFG i) 30 = r.a0.bit 8 ∧
        (t.dev.tout i).next = start ∧ (t.dev.tout i).width = r.a4.toNat * 16 ∧
        (t.dev.tout i).period = (if r.a0.bit 8 then r.a3.toNat * 16 else 0) ∧ (t.dev.tout i).pulse = (s.dev.tout i).pulse ∧
        ∀ j, j ≠ i → t.dev.tout j = s.dev.tout j) ∧
    (start < s.dev.base k → r.a0.bit 8 = false →
      ∃ d : Dev, exec (.timeToutArm r e) s = .next { s with dev := ((d.fault 35 7).ok (asOp 0x0902 r) 0 0 0 0) } ∧
        d.bit (TIME_TOUT_CFG i) 31 = false ∧ d.bit (TIME_TOUT_CFG i) 28 = true) ∧
    (start < s.dev.base k → r.a0.bit 8 = true →
      ∃ d : Dev, exec (.timeToutArm r e) s = .next { s with dev := ((d.fault 35 7).ok (asOp 0x0902 r) 0 0 0 0) } ∧
        d.bit (TIME_TOUT_CFG i) 31 = true ∧ s.dev.base k < (d.tout i).next ∧
        (d.tout i).next ≤ s.dev.base k + r.a3.toNat * 16 ∧
        (∃ n, (d.tout i).next = start + n * (r.a3.toNat * 16) ∧
          d.rd (TIME_TOUT_SKIP_CNT i) = satInc (s.dev.rd (TIME_TOUT_SKIP_CNT i)) n))) ∧
  (∀ (i : Fin 8) (s : State) (d : Dev), Awake s → s.dev.bit (TIME_TOUT_CFG i) 31 = true → s.dev.time.outs.length = 8 →
    s.dev.time.stops = [] → (s.dev.fld (TIME_TOUT_CFG i) 24 2 = 2 → s.dev.time.tb2Run = true) →
    d = s.dev.advanceTo (s.dev.tb3 + ((s.dev.tout i).next - s.dev.base (s.dev.fld (TIME_TOUT_CFG i) 24 2))) →
    ∃ t, exec (.toutEdge i) s = .next t ∧ OnlyDevice s t ∧
      t.dev.out = List.cons (.tout i (s.dev.fld (TIME_TOUT_CFG i) 24 2) (s.dev.tout i).next (s.dev.tout i).width
        (s.dev.bit (TIME_TOUT_CFG i) 29)) s.dev.out ∧
      (t.dev.tout i).pulse = some (d.tb0 + (s.dev.tout i).width) ∧
      (t.dev.tout i).next = (s.dev.tout i).next + (s.dev.tout i).period ∧
      t.dev.bit (TIME_TOUT_CFG i) 31 = s.dev.bit (TIME_TOUT_CFG i) 30) ∧
  (∀ (i : Fin 8) (s : State), (s.dev.bit (TIME_TOUT_CFG i) 31 = false ∨
      (s.dev.fld (TIME_TOUT_CFG i) 24 2 = 2 ∧ s.dev.time.tb2Run = false)) → exec (.toutEdge i) s = .next s) ∧
  (∀ (r : Req) (e : Env) (s : State), Takes s 0x0903 cmdTimeToutStop r →
    ∃ t, exec (.timeToutStop r e) s = .next t ∧ OnlyDevice s t ∧
      (∀ i, i < 8 → t.dev.bit (TIME_TOUT_CFG i) 31 = (s.dev.bit (TIME_TOUT_CFG i) 31 && !r.a0.bit i)) ∧
      t.dev.time.outs = s.dev.time.outs) ∧
  (∀ (i : Fin 8) (rising : Bool) (sub : Nat) (stepped : Bool) (s : State) (d : Dev) (takes soon : Prop), Awake s →
    d = s.dev.advanceTo (s.dev.tb3 + sub) →
    (takes ↔ (d.fld (TIME_TCAP_CFG i) 0 2).testBit (if rising then 0 else 1) = true) →
    (soon ↔ (64 ≤ (d.rcd.waiting.filter (fun (x : Event) => x.src == 35 && x.dev == d.devId)).length ∨
      ∃ t, d.time.caps.getD i none = some t ∧ d.tb0 < t + 1600)) →
    (¬ takes → exec (.tcapEdge i rising sub stepped) s = .next { s with dev := d }) ∧
    (takes → soon → exec (.tcapEdge i rising sub stepped) s = .next { s with dev := d.tcapDrop i }) ∧
    (takes → ¬ soon →
      ∃ t, exec (.tcapEdge i rising sub stepped) s = .next t ∧ OnlyDevice s t ∧
        t.dev.rd64 (TIME_TCAP_TB3_LO i) (TIME_TCAP_TB3_HI i) = d.tb3 % 2 ^ 64 ∧
        t.dev.rd64 (TIME_TCAP_TB1_LO i) (TIME_TCAP_TB1_HI i) = d.time.tb1 % 2 ^ 64))

/-- R440: a write of MOT_AXa_SINi that would make the table fall between neighbours, or T[0] rise above 0, is discarded
and sets MOT_ERR.TABLE_BAD. (Tables are written in CONFIGURE, R47.) -/
def Obligations.SineTablesNeverFall : Prop :=
  ∀ (a : Fin 8) (i : Fin 256) (val : Word) (s : State) (tab : Nat → Nat), Up s → a.val < nAxes s.dev.variant →
    s.dev.mode.cur = .configure →
    (tab = fun k => if k = 256 then 0x8000 else s.dev.fld (MOT_AX_SIN a k) 0 16) →
    (((i.val = 0 ∧ val.get 0 16 ≠ 0) ∨ (0 < i.val ∧ val.get 0 16 < tab (i.val - 1)) ∨ tab (i.val + 1) < val.get 0 16) →
      exec (.sineTableWrite a i val) s = .next { s with dev := s.dev.setBit MOT_ERR 10 true }) ∧
    (¬ ((i.val = 0 ∧ val.get 0 16 ≠ 0) ∨ (0 < i.val ∧ val.get 0 16 < tab (i.val - 1)) ∨
        tab (i.val + 1) < val.get 0 16) →
      ∃ t, exec (.sineTableWrite a i val) s = .next t ∧ OnlyDevice s t ∧
        t.dev.fld (MOT_AX_SIN a i) 0 16 = val.get 0 16 ∧
        ∀ k, k < 256 → k ≠ i.val → t.dev.fld (MOT_AX_SIN a k) 0 16 = s.dev.fld (MOT_AX_SIN a k) 0 16)

/-- R425: a native axis takes a new target at rest alone; MOT_MOVE to a moving one completes STATE_REJECT, and the axis
moves on as it did. -/
def Obligations.NativeAxesRejectAMove : Prop :=
  ∀ (r : Req) (e : Env) (s : State) (a : Nat), a = r.a0.get 0 3 → Up s → s.dev.mayTake (asOp 0x0601 r) = true →
    groupOn 0x0601 (s.dev.ringType r.ring) = true → firstFail (shape (asOp 0x0601 r) [7, anyW, anyW, anyW] none 0) = none →
    a < nAxes s.dev.variant → motModes.contains s.dev.mode.cur = true → s.dev.bit (MOT_AX_CFG a) 28 = false →
    ((s.dev.axis a).mv.isSome = true →
      exec (.motMove r e) s = .next { s with dev := (started s 0x0601 r).fail (asOp 0x0601 r) stReject 0 } ∧
      ((started s 0x0601 r).fail (asOp 0x0601 r) stReject 0).mot = s.dev.mot) ∧
    ((s.dev.axis a).mv = none → Takes s 0x0601 cmdMotMove r →
      exec (.motMove r e) s = .next { s with dev := ((started s 0x0601 r).axStart a
        ⟨divRound (signed 32 r.a1.toNat * s.dev.axScale a) 65536,
          if r.a2 = 0 then (s.dev.rd (MOT_AX_VMAX a)).toNat else r.a2.toNat,
          if r.a3 = 0 then (s.dev.rd (MOT_AX_ACC a)).toNat else r.a3.toNat, some (asOp 0x0601 r)⟩ 0 false) })

/-- The moves of an axis (R417, R424, R426, R427, R435): at an update a moving axis shows where its profile has come; at
its end it rests on its target, the drive at its holding level; a compat axis queues its targets; MOT_RETUNE waits for
the update; MOT_STOP brings the axis to rest, and completes at once where none moves. Enabling, homing and recoating
(R431, R433 to R435): MOT_ENABLE energises its axes and ends their faults; MOT_HOME starts toward its side;
MOT_RECOAT_SET stores a programme; a sequence starts its next steps once the earlier ones are done. -/
def Obligations.AxesMove : Prop :=
  (∀ s : State, 2 ≤ s.dev.mode.boot →
    exec .profileUpdate s = .next { s with dev := ((List.range (nAxes s.dev.variant)).foldl (fun d a => d.axUpdate a)
      (s.dev.advanceTo ((s.dev.tb3 / (10 * perUs) + 1) * (10 * perUs)))) }) ∧
  (∀ (d : Dev) (a : Nat), (d.axis a).mv = none → (d.axis a).emission = none → (d.axis a).queue = [] →
    d.axUpdate a = d) ∧
  (∀ s : State, s.dev.mode.boot < 2 → exec .profileUpdate s = .next s) ∧
  (∀ (d : Dev) (a : Nat) (m : Move), (d.axis a).mv = some m → m.clamp = none → m.retune = none → m.home = none →
    (d.tb3 < m.ends →
      d.axUpdate a = d.axShow a (d.toUs a (m.at_ d.tb3).1)
        (if m.plus then divRound (m.at_ d.tb3).2 motV else -divRound (m.at_ d.tb3).2 motV)) ∧
    (m.ends ≤ d.tb3 → m.stop = none → m.turn = false → m.seq = false → (d.axis a).queue = [] → a < d.mot.axes.length →
      ((d.axUpdate a).axis a).us = m.goal.tgt ∧ ((d.axUpdate a).axis a).mv = none)) ∧
  (∀ (r : Req) (e : Env) (s : State) (a : Nat), a = r.a0.get 0 3 →
    (Takes s 0x0601 cmdMotMove r → s.dev.bit (MOT_AX_CFG a) 28 = true → a < s.dev.mot.axes.length →
      ∃ t g, exec (.motMove r e) s = .next t ∧ OnlyDevice s t ∧ g = s.dev.moveGoal (asOp 0x0601 r) ∧
        (t.dev.axis a).queue = (s.dev.axis a).queue ++ [g] ∧ (t.dev.axis a).mv = (s.dev.axis a).mv ∧
        t.dev.regs = s.dev.regs) ∧
    (Takes s 0x0602 cmdMotRetune r → a < s.dev.mot.axes.length →
      ∃ t m, exec (.motRetune r e) s = .next t ∧ OnlyDevice s t ∧ (s.dev.axis a).mv = some m ∧
        (t.dev.axis a).mv = some { m with retune := some ((s.dev.moveGoal (asOp 0x0602 r)).v,
          (s.dev.moveGoal (asOp 0x0602 r)).a, asOp 0x0602 r) } ∧ t.dev.regs = s.dev.regs) ∧
    (Takes s 0x0603 cmdMotStop r → s.dev.mot.stops = [] →
      (∀ k, k < 8 → (s.dev.axis k).moving = false ∧ (s.dev.axis k).queue = []) →
      exec (.motStop r e) s = .next { s with dev := (started s 0x0603 r).ok (asOp 0x0603 r) 0 0 0 0 }) ∧
    (∀ (k : Nat) (m : Move), Takes s 0x0603 cmdMotStop r → r.a0.get 0 8 = 2 ^ k → (s.dev.axis k).mv = some m →
      m.stop = none → s.dev.tb3 < m.ends →
      ∃ t n, exec (.motStop r e) s = .next t ∧ OnlyDevice s t ∧ (t.dev.axis k).mv = some n ∧ (t.dev.axis k).queue = [] ∧
        n.vEnd = 0 ∧ n.t0 = s.dev.tb3 ∧ n.stop = some (stPartial, 0, Nat.max 1
          (if r.a0.bit 8 then (s.dev.rd (MOT_AX_EDEC k)).toNat else m.goal.a))) ∧
    (Takes s 0x0680 cmdMotQuery r →
      exec (.motQuery r e) s = .next { s with dev := ((started s 0x0680 r).ok (asOp 0x0680 r)
        (unsigned 32 (s.dev.usToUm a (s.dev.rdI (MOT_AX_POS a)))) (s.dev.rd (MOT_AX_VEL a)).toNat (s.dev.axState a)
        (s.dev.rd (MOT_AX_ENC a)).toNat) })) ∧
  (∀ (r : Req) (e : Env) (s : State),
    (Takes s 0x0605 cmdMotEnable r → s.dev.mot.axes.length = 8 →
      ∃ t, exec (.motEnable r e) s = .next t ∧ OnlyDevice s t ∧ t.dev.mode = s.dev.mode ∧
        ∀ a, a < 8 →
          (r.a0.bit a = false → t.dev.axis a = s.dev.axis a) ∧
          (r.a0.bit a = true → r.a1.bit a = true →
            t.dev.axis a = { s.dev.axis a with on := true, faulted := false }) ∧
          (r.a0.bit a = true → r.a1.bit a = false →
            t.dev.axis a = { s.dev.axis a with on := false, homed := false })) ∧
    (Takes s 0x0604 cmdMotHome r → r.a0.get 0 3 < s.dev.mot.axes.length →
      ∃ t m, exec (.motHome r e) s = .next t ∧ OnlyDevice s t ∧ (t.dev.axis (r.a0.get 0 3)).mv = some m ∧
        m.home = some (signed 32 r.a2.toNat) ∧ m.plus = r.a0.bit 8 ∧ m.stop = none ∧ m.t0 = s.dev.tb3 ∧
        m.goal.v = (if r.a1 = 0 then (s.dev.rd (MOT_AX_VMAX (r.a0.get 0 3))).toNat else r.a1.toNat)) ∧
    (TakesData s 0x0606 cmdMotRecoatSet r e →
      (∀ b ∈ entriesOf 8 (dataOf r e),
        bytesAt b 0 1 < nAxes s.dev.variant ∧ bytesAt b 1 1 < 2 ∧ bytesAt b 2 2 = 0) →
      ∃ d : Dev, d = { started s 0x0606 r with mot := { s.dev.mot with
          prog := (entriesOf 8 (dataOf r e)).map (fun b => (bytesAt b 0 1, bytesAt b 1 1 == 1, intAt b 4 4)) } } ∧
        exec (.motRecoatSet r e) s = .next { s with dev := d.ok (asOp 0x0606 r) 0 0 0 0 }) ∧
    (TakesData s 0x0606 cmdMotRecoatSet r e →
      ((∃ b ∈ entriesOf 8 (dataOf r e), 1 < bytesAt b 1 1 ∨ bytesAt b 2 2 ≠ 0) →
        exec (.motRecoatSet r e) s =
          .next { s with dev := (started s 0x0606 r).fail (asOp 0x0606 r) stMalformed 0x0004 }) ∧
      ((∀ b ∈ entriesOf 8 (dataOf r e), bytesAt b 1 1 < 2 ∧ bytesAt b 2 2 = 0 ∧ bytesAt b 0 1 < 8) →
        (∃ b ∈ entriesOf 8 (dataOf r e), nAxes s.dev.variant ≤ bytesAt b 0 1) →
        exec (.motRecoatSet r e) s = .next { s with dev := (started s 0x0606 r).fail (asOp 0x0606 r) stAbsent 0 })) ∧
    (Takes s 0x0607 cmdMotRecoatRun r →
      ∃ d : Dev, d = { started s 0x0607 r with mot := { s.dev.mot with
          seq := some ⟨s.dev.mot.prog, 0, [], 0, some (asOp 0x0607 r), s.dev.mot.epoch⟩ } } ∧
        exec (.motRecoatRun r e) s = .next { s with dev := d.seqNext }) ∧
    (s.dev.mot.seq = none → exec .recoatStepStart s = .next s) ∧
    (∀ q a g, Awake s → s.dev.mot.seq = some q → q.left = [] → seqGroup q.steps q.next = [(a, g)] →
      s.dev.axReady a = true → (s.dev.axis a).moving = false → a < s.dev.mot.axes.length →
      s.dev.towardLimit a ((s.dev.axis a).us + divRound (g.2 * s.dev.axScale a) 65536) = false →
      ∃ t m, exec .recoatStepStart s = .next t ∧ OnlyDevice s t ∧ (t.dev.axis a).mv = some m ∧ m.seq = true ∧
        m.goal.tgt = (s.dev.axis a).us + divRound (g.2 * s.dev.axScale a) 65536 ∧
        t.dev.mot.seq = some { q with next := q.next + 1, left := [a] }) ∧
    (∀ q, s.dev.mot.seq = some q → q.left ≠ [] → exec .recoatStepStart s = .next s))

/-- Drive and inputs (R418 to R423, R429 to R432): the chopper's correction stays within half a hysteresis; a crossing
turns the bridge, with the threshold to come, and an early one three times in a row is a short, which turns the axis off;
limits stop a move toward them, home edges latch the home position, and an input that chatters ends a homing; the encoder
counts, a lost edge and a following error are STALL; a coarse step is interpolated, where none leads toward an active
limit; the holding level follows rest. -/
def Obligations.AxesAreDriven : Prop :=
  (∀ (td h tr tf : Nat) (ofs : Int), -(32 * (h : Int)) ≤ ofsNext td h tr tf ofs ∧ ofsNext td h tr tf ofs ≤ 32 * (h : Int)) ∧
  (∀ (a : Fin 8) (ph : Fin 2) (ns : Nat) (first : Bool) (s : State) (c : Chop) (m : Nat), Awake s →
    s.dev.axReady a = true → s.dev.axDrive a % 2 = 0 → c = (s.dev.axis a).chop.getD ph default →
    m = s.dev.phaseTarget a ph →
    (∀ (n : Nat) (d g : Dev), n = (if first then c.early + 1 else 0) →
      d = s.dev.modAxis a (fun x => { x with chop := x.chop.set ph { c with tr := ns, mUp := some m, early := n } }) →
      g = d.send (.bridge a ph false (d.phasePlus a ph) (d.thresholds a ph).2) →
      exec (.chopperCrossing a ph true ns first) s = .next { s with dev := (if 3 ≤ n then g.phaseShort a else g) }) ∧
    (∀ (ofs : Int) (d : Dev),
      ofs = (if s.dev.bit (MOT_AX_CHOP a) 31 = false then 0
        else if c.mLow = some m ∧ c.mUp = some m ∧ c.tr ≠ 0 ∧ ns ≠ 0 then
          ofsNext (s.dev.fld (MOT_AX_CHOP a) 8 12) (s.dev.fld (MOT_AX_CHOP a) 0 8) c.tr ns c.ofs
        else c.ofs) →
      d = s.dev.modAxis a (fun x => { x with
        chop := x.chop.set ph { c with mLow := some m, mUp := none, ofs := ofs } }) →
      exec (.chopperCrossing a ph false ns first) s =
        .next { s with dev := d.send (.bridge a ph true (d.phasePlus a ph) (d.thresholds a ph).1) })) ∧
  (∀ (a : Fin 8) (ph : Fin 2) (up first : Bool) (ns : Nat) (s : State),
    (s.dev.axReady a = false ∨ s.dev.axDrive a % 2 = 1) →
    exec (.chopperCrossing a ph up ns first) s = .next s ∧ exec (.phaseOpen a ph) s = .next s) ∧
  (∀ (d : Dev) (a : Nat), a < d.mot.axes.length → (d.axis a).mv = none →
    ((d.phaseShort a).axis a).faulted = true ∧ (d.phaseShort a).axReady a = false) ∧
  (∀ (a : Fin 8) (ph : Fin 2) (s : State), Awake s → s.dev.axReady a = true → s.dev.axDrive a % 2 = 0 →
    exec (.phaseOpen a ph) s = .next (if s.dev.fld (MOT_AX_CUR a) 0 10 ≤ 4 * s.dev.phaseTarget a ph
      then { s with dev := s.dev.fault 32 6 } else s)) ∧
  (∀ (a : Fin 8) (s : State), Awake s →
    ((s.dev.axis a).moving = false → (s.dev.axis a).level = 0 →
      exec (.holdCurrentTimer a) s = .next { s with dev := s.dev.modAxis a (fun x => { x with level := 1 }) }) ∧
    (((s.dev.axis a).moving = true ∨ (s.dev.axis a).level ≠ 0) → exec (.holdCurrentTimer a) s = .next s)) ∧
  (∀ (a : Fin 8) (k : AxInput) (level chatter : Bool) (s : State), nAxes s.dev.variant ≤ a.val →
    exec (.debouncedInputEdge a k level chatter) s = .next s) ∧
  (∀ (a : Fin 8) (k : AxInput) (level : Bool) (s : State) (i : Nat) (d : Dev) (edec : Nat), Awake s →
    a.val < nAxes s.dev.variant → i = (match k with | .limp => 0 | .limn => 1 | .home => 2) →
    edec = (s.dev.rd (MOT_AX_EDEC a)).toNat → d = s.dev.modAxis a (fun x => { x with inp := x.inp.set i (some level) }) →
    ((s.dev.axis a).mv = none →
      ((k = .home ∨ d.limited a = false) →
        exec (.debouncedInputEdge a k level false) s = .next { s with dev := d }) ∧
      (k ≠ .home → d.limited a = true →
        exec (.debouncedInputEdge a k level false) s = .next { s with dev := (d.axHalt a).fault 32 1 }) ∧
      exec (.debouncedInputEdge a k level true) s = .next s) ∧
    (∀ m, (s.dev.axis a).mv = some m → m.stop = none → (s.dev.axis a).inp.length = 3 → s.dev.mot.axes.length = 8 →
      (k ≠ .home → m.plus = (i == 0) → level ≠ s.dev.bit (MOT_AX_CFG a) i →
        exec (.debouncedInputEdge a k level false) s = .next { s with dev := (if m.home.isSome then
          (d.axStop a edec stLimit 0x0605).fault 32 2 else (d.axStop a edec stPartial 0).fault 32 1) }) ∧
      (∀ h, k = .home → m.home = some h → (s.dev.axis a).inp.getD 2 none ≠ some level →
        exec (.debouncedInputEdge a k level false) s = .next { s with dev := d.homeLatch a m h }) ∧
      (k = .home → m.home.isSome = true →
        exec (.debouncedInputEdge a k level true) s =
          .next { s with dev := (s.dev.axStop a edec stLimit 0x0606).fault 32 3 }))) ∧
  (∀ (a : Fin 2) (ch up : Bool) (s : State), Awake s →
    (s.dev.encOn a = true →
      exec (.quadratureEdge a ch up false) s = .next { s with dev :=
        (s.dev.wrN (MOT_AX_ENC a) (unsigned 32 (s.dev.rdI (MOT_AX_ENC a) + (if up then 1 else -1)))) } ∧
      exec (.quadratureEdge a ch up true) s = .next { s with dev := s.dev.stall a } ∧
      ((s.dev.rd (MOT_AX_FE_LIM a)).toNat <
          (divRound (s.dev.rdI (MOT_AX_ENC a) * (s.dev.rd (MOT_AX_ENC_SCALE a)).toNat) 65536
            - s.dev.rdI (MOT_AX_POS a)).natAbs →
        exec (.encoderCheck a) s = .next { s with dev := s.dev.stall a }) ∧
      ((divRound (s.dev.rdI (MOT_AX_ENC a) * (s.dev.rd (MOT_AX_ENC_SCALE a)).toNat) 65536
            - s.dev.rdI (MOT_AX_POS a)).natAbs ≤ (s.dev.rd (MOT_AX_FE_LIM a)).toNat →
        exec (.encoderCheck a) s = .next s)) ∧
    (s.dev.encOn a = false →
      exec (.encoderCheck a) s = .next s ∧ ∀ both, exec (.quadratureEdge a ch up both) s = .next s)) ∧
  (∀ (a : Fin 8) (dir : Bool) (ns : Nat) (s : State), (s.dev.axReady a = false ∨ s.dev.axDrive a < 2 ∨
      s.dev.safeState = true ∨ s.dev.mode.cur = .configure ∨ s.dev.axActive a (if dir then 0 else 1) = true) →
    exec (.coarseStepEdge a dir ns) s = .next s) ∧
  (∀ (a : Fin 8) (dir : Bool) (ns : Nat) (s : State) (n : Int), Awake s → s.dev.axReady a = true → 2 ≤ s.dev.axDrive a →
    s.dev.safeState = false → s.dev.mode.cur ≠ .configure → s.dev.axActive a (if dir then 0 else 1) = false →
    (s.dev.axis a).coarseAt = none → (s.dev.axis a).emission = none →
    n = 2 ^ Nat.min 8 (s.dev.fld (MOT_AX_CFG a) 20 4) →
    exec (.coarseStepEdge a dir ns) s = .next { s with dev := (s.dev.modAxis a (fun x => { x with
      level := 0, us := (s.dev.axis a).us, coarseAt := some s.dev.tb3, coarseUp := dir
      emission := some ⟨s.dev.tb3, (s.dev.axis a).us, 0, if dir then n else -n, 100 * perUs⟩ })) })

/-- Levels (R442, R447): the on-times of the 256 slices of a period come to N = (D × SLICE) >> 8 in all, none longer by
more than one cycle than another; a channel that is off, or in CONFIGURE, or latched short outside the safe pattern has
no level, a bloom member that of its engine, any other the host's; at its period start the channel takes that level.
Bloom and strobe (R443, R444, R448): an engine sets its members every millisecond, and engine 1 stands still in the safe
pattern; a strobe request opens its window on a channel that follows it, and closes it. Derating and diagnosis (R445,
R446): f lies between FLOOR / 256 and 1, and is FLOOR / 256 with its input bad; DERATE is raised as it falls below 1;
the samples of a diagnosis are shown, and a short found twice running turns the channel off. The commands of the lamps
(R449): LED_SET takes effect at the next period start, BLOOM_SET at once with t = 0 (the model's reading, log entry 65);
LED_REARM clears the short latches it names; LED_QUERY shows a channel. -/
def Obligations.Lamps : Prop :=
  (∀ d slice : Nat, (lampSlices d slice).sum = d * slice / 256) ∧
  (∀ d slice j k : Nat, onCycles d slice j ≤ onCycles d slice k + 1) ∧
  (∀ (d : Dev) (c : Nat), (d.bit (ILL_CH_CFG c) 31 = false → d.lampLevel c = 0) ∧
    (d.bit (ILL_CH_CFG c) 31 = true → d.mode.cur ≠ .configure → d.lampSafe = false →
      (d.lampLatch c = true → d.lampLevel c = 0) ∧
      (d.lampLatch c = false → ∀ v, d.bloomOf c = some v → d.lampLevel c = v) ∧
      (d.lampLatch c = false → d.bloomOf c = none → d.lampLevel c = (d.lampC c).host))) ∧
  (∀ (c : Fin 12) (s : State), 2 ≤ s.dev.mode.boot → s.dev.lampOn c = true → (s.dev.lampC c).next = [] →
    s.dev.ill.sets = [] →
    ∃ t, exec (.ledPeriodStart c) s = .next t ∧ OnlyDevice s t ∧
      t.dev.fld (ILL_CH_LEVEL c) 0 16 = s.dev.lampLevel c % 65536 ∧
      t.dev.bit ILL_STATUS c = decide (0 < s.dev.lampLevel c) ∧ t.dev.mode = s.dev.mode ∧ t.dev.flt = s.dev.flt ∧
      t.dev.out = List.cons (.lamp c (lampSlices (s.dev.lampLevel c) (s.dev.fld (ILL_CH_CFG c) 0 16))
        (s.dev.lampTarget c false)) s.dev.out) ∧
  (∀ (c : Fin 12) (s : State) (v set strobe at_ : Nat), 2 ≤ s.dev.mode.boot → s.dev.lampOn c = true →
    c.val < s.dev.ill.lamps.length → (s.dev.lampC c).next = [(v, set, strobe, at_)] → at_ < s.dev.motCycle →
    ∃ t, exec (.ledPeriodStart c) s = .next t ∧ OnlyDevice s t ∧ (t.dev.lampC c).host = v ∧
      (t.dev.lampC c).next = [] ∧ t.dev.rd (ILL_CH_TARGET c) = BitVec.ofNat 32 (set + strobe * 2 ^ 16)) ∧
  (∀ (c : Fin 12) (s : State), s.dev.lampOn c = false → exec (.ledPeriodStart c) s = .next s ∧
    exec (.ledDerate c) s = .next s ∧ ∀ on off, exec (.ledDiagnostic c on off) s = .next s) ∧
  (∀ (k : Fin 2) (s : State), Awake s → (k.val = 0 ∨ s.dev.lampSafe = false) →
    exec (.bloomUpdate k) s = .next { s with dev := s.dev.bloomSet k }) ∧
  (∀ (k : Fin 2) (s : State), Awake s → s.dev.lampSafe = false → s.dev.fld (ILL_BLOOM_MODE k) 0 3 = 4 →
    s.dev.fld (ILL_BLOOM_PERIOD k) 0 16 ≠ 0 → s.dev.ill.blooms.length = 2 →
    ∃ t, exec (.bloomUpdate k) s = .next t ∧ OnlyDevice s t ∧ t.dev.regs = s.dev.regs ∧
      (t.dev.ill.blooms.getD k default).vals = (bitList 12 (s.dev.fld (ILL_BLOOM_MODE k) 16 12)).mapIdx (fun i c =>
        (c, if i = (s.dev.tb3 - (s.dev.ill.blooms.getD k default).start) / perMs % s.dev.fld (ILL_BLOOM_PERIOD k) 0 16
              * (bitList 12 (s.dev.fld (ILL_BLOOM_MODE k) 16 12)).length / s.dev.fld (ILL_BLOOM_PERIOD k) 0 16
            then s.dev.fld (ILL_BLOOM_LEVEL k) 16 16 else s.dev.fld (ILL_BLOOM_LEVEL k) 0 16))) ∧
  (∀ s : State, s.dev.lampSafe = true → exec (.bloomUpdate 1) s = .next s) ∧
  (∀ (c : Fin 12) (s : State) (o cl : Nat), 2 ≤ s.dev.mode.boot → s.dev.lampStrobes c = true →
    s.dev.trim.queue = [] → s.dev.trim.commits = [] → s.dev.bit ANA_STATUS 31 = false →
    ((s.dev.lampC c).win = none →
      (s.dev.cam (16 + s.dev.fld (ILL_CH_CFG c) 28 2)).strobes.find? (fun w => decide (s.dev.tb3 < w.2)) = some (o, cl) →
      c.val < s.dev.ill.lamps.length →
      ∃ t, exec (.strobeWindow c true) s = .next t ∧ OnlyDevice s t ∧ (t.dev.lampC c).win = some cl ∧
        t.dev.out = List.cons (.lampWindow c (s.dev.lampTarget c true) true) s.dev.out) ∧
    ((s.dev.lampC c).win = some cl →
      ∃ t, exec (.strobeWindow c false) s = .next t ∧ OnlyDevice s t ∧ (t.dev.lampC c).win = none ∧
        t.dev.out = List.cons (.lampWindow c (s.dev.lampTarget c false) false) s.dev.out)) ∧
  (∀ (cfg : Word) (t : Int) (f : Nat × Nat), derateOf cfg t = some f →
    0 < f.2 ∧ f.1 ≤ f.2 ∧ cfg.get 24 8 * f.2 ≤ f.1 * 256) ∧
  (∀ (c : Fin 12) (s : State) (n : Nat), 2 ≤ s.dev.mode.boot → s.dev.lampOn c = true → n = s.dev.fld (ILL_CH_CFG c) 26 2 →
    (s.dev.bit (ILL_NTC n) 16 = true → s.dev.ill.ntcBad.testBit n = true →
      exec (.ledDerate c) s = .next { s with dev := s.dev.setDerate c ((s.dev.rd ILL_DERATE).get 24 8, 256) }) ∧
    (s.dev.bit (ILL_NTC n) 16 = true → s.dev.ill.ntcBad.testBit n = false →
      exec (.ledDerate c) s = .next { s with dev := ((({ s.dev with ill := { s.dev.ill with
        ntcBad := s.dev.ill.ntcBad ||| 2 ^ n } } : Dev).fault 33 3).setDerate c ((s.dev.rd ILL_DERATE).get 24 8, 256)) }) ∧
    (s.dev.bit (ILL_NTC n) 16 = false → s.dev.ill.ntcBad = 0 →
      derateOf (s.dev.rd ILL_DERATE) (signed 16 (s.dev.fld (ILL_NTC n) 0 16)) = none →
      exec (.ledDerate c) s = .next { s with dev := s.dev.free.2.setDerate c (s.dev.free.1 % 257, 256) }) ∧
    (∀ f, s.dev.bit (ILL_NTC n) 16 = false → s.dev.ill.ntcBad = 0 →
      derateOf (s.dev.rd ILL_DERATE) (signed 16 (s.dev.fld (ILL_NTC n) 0 16)) = some f →
      exec (.ledDerate c) s = .next { s with dev := s.dev.setDerate c f })) ∧
  (∀ (d : Dev) (c : Nat) (f : Nat × Nat), c < d.ill.lamps.length →
    (f.2 ≤ f.1 ∨ (d.lampC c).below = true →
      d.setDerate c f = d.modLamp c (fun (l : Lamp) => { l with fNum := f.1, fDen := f.2, below := decide (f.1 < f.2) })) ∧
    (f.1 < f.2 → (d.lampC c).below = false →
      d.setDerate c f = (d.modLamp c (fun (l : Lamp) => { l with
        fNum := f.1, fDen := f.2, below := true })).fault 33 4)) ∧
  (∀ (c : Fin 12) (on off : BitVec 10) (s : State), 2 ≤ s.dev.mode.boot → s.dev.lampOn c = true →
    s.dev.bit (ILL_CH_CFG c) 31 = true → s.dev.bit (ILL_CH_CFG c) 30 = false → (s.dev.lampC c).win = none →
    0 < s.dev.fld (ILL_CH_LEVEL c) 0 16 → c.val < s.dev.ill.lamps.length →
    (s.dev.lampTarget c false ≤ 4 * on.toNat → 2 * on.toNat ≤ 3 * s.dev.lampTarget c false → off.toNat ≤ 16 →
      ∃ t, exec (.ledDiagnostic c on off) s = .next t ∧ OnlyDevice s t ∧ t.dev.flt = s.dev.flt ∧
        t.dev.fld (ILL_CH_SENSE c) 0 10 = on.toNat ∧ t.dev.fld (ILL_CH_SENSE c) 16 10 = off.toNat ∧
        (t.dev.lampC c).wasOpen = false ∧ (t.dev.lampC c).wasShort = false) ∧
    (s.dev.lampTarget c false ≤ 4 * on.toNat → 16 < off.toNat → (s.dev.lampC c).wasShort = true →
      ∃ d : Dev, exec (.ledDiagnostic c on off) s = .next { s with dev := d.lampShort c } ∧
        d.fld (ILL_CH_SENSE c) 16 10 = off.toNat)) ∧
  (∀ (d : Dev) (c : Nat), d.lampSafe = false → c < 12 → c < d.ill.lamps.length →
    ∃ x : Dev, d.lampShort c = x.fault 33 2 ∧ x.lampLatch c = true ∧ x.fld (ILL_CH_LEVEL c) 0 16 = 0) ∧
  (∀ (r : Req) (e : Env) (s : State),
    (Takes s 0x0701 cmdLedSet r → r.a0.get 0 12 ≠ 0 → s.dev.ill.lamps.length = 12 →
      ∃ t, exec (.ledSet r e) s = .next t ∧ OnlyDevice s t ∧ t.dev.regs = s.dev.regs ∧
        (∀ c, c < 12 → (t.dev.lampC c).host = (s.dev.lampC c).host ∧
          (t.dev.lampC c).next = (s.dev.lampC c).next ++ (if r.a0.bit c then
            [(r.a1.get 0 16, r.a2.get 0 10, r.a2.get 16 10, s.dev.motCycle)] else [])) ∧
        t.dev.ill.sets = s.dev.ill.sets ++ [(asOp 0x0701 r, r.a0.get 0 12, s.dev.motCycle)]) ∧
    (Takes s 0x0701 cmdLedSet r → r.a0.get 0 12 = 0 →
      exec (.ledSet r e) s = .next { s with dev := (started s 0x0701 r).ok (asOp 0x0701 r) 0 0 0 0 }) ∧
    (Takes s 0x0702 cmdBloomSet r →
      exec (.bloomSet r e) s = .next { s with dev := (((started s 0x0702 r).bloomStart (r.a0.get 0 1) (r.a1.get 0 3)
        (r.a1.get 16 12) (r.a2.get 0 16) (r.a2.get 16 16) (r.a3.get 0 16)).ok (asOp 0x0702 r) 0 0 0 0) }) ∧
    (Takes s 0x0703 cmdLedRearm r →
      ∃ t, exec (.ledRearm r e) s = .next t ∧ OnlyDevice s t ∧ ∀ c, c < 12 → t.dev.lampLatch c =
        (s.dev.lampLatch c && !(r.a0.bit c && (s.dev.lampC c).shortAt != some s.dev.motCycle))) ∧
    (Takes s 0x0780 cmdLedQuery r →
      exec (.ledQuery r e) s = .next { s with dev := ((started s 0x0780 r).ok (asOp 0x0780 r)
        (s.dev.fld (ILL_CH_LEVEL (r.a0.get 0 4)) 0 16)
        (s.dev.lampTarget (r.a0.get 0 4) (s.dev.lampC (r.a0.get 0 4)).win.isSome)
        (s.dev.rd (ILL_CH_SENSE (r.a0.get 0 4))).toNat 0) }))

/-- Trim (R453, R454, R460 to R462): a routine accepts a value alone that two measurements agree on, within its range,
and touches no active register; a commit copies every shadow register, or waits while a layer is in exposure; an image
that fails a check changes no shadow; TRIM_READ writes the image. Bandgaps and temperatures (R458, R459): with all three
agreeing the preferred one is in use, with one odd it is excluded, once with a fault, with none BG_LOST; an excluded one
takes 1000 comparisons to return; a conversion is shown, and an open or shorted input is bad. -/
def Obligations.TrimsAndReferences : Prop :=
  (∀ tol lo hi t1 t2 v : Int, judgeTrim tol lo hi t1 t2 = (.accepted, v) →
    ((t1 - t2).natAbs : Int) ≤ tol ∧ lo ≤ v ∧ v ≤ hi ∧ v = Int.fdiv (t1 + t2) 2) ∧
  (∀ (r : Req) (e : Env) (s : State), Takes s 0x0531 cmdTrimRun r → s.dev.trim.queue = [] → s.dev.trim.commits = [] →
    ((started s 0x0531 r).trimHeld (asOp 0x0531 r) = false →
      exec (.trimRun r e) s = .next { s with dev :=
        ((((started s 0x0531 r).trimRun (asOp 0x0531 r) e).setBit ANA_STATUS 31 false).pumpCommits) }) ∧
    ((started s 0x0531 r).trimHeld (asOp 0x0531 r) = true →
      ∃ t, exec (.trimRun r e) s = .next t ∧ OnlyDevice s t ∧ t.dev.bit ANA_STATUS 31 = true ∧
        t.dev.trim.queue = [(asOp 0x0531 r, e)])) ∧
  (∀ (d : Dev) (q : Req) (e : Env) (o : Nat), o < 0x1000 → o % 4 = 0 →
    (d.trimRun q e).rd (trimActive o) = d.rd (trimActive o)) ∧
  (∀ (r : Req) (e : Env) (s : State), Takes s 0x0532 cmdTrimCommit r → s.dev.trim.commits = [] →
    (s.dev.trimFree = true →
      ∃ t, exec (.trimCommit r e) s = .next t ∧ OnlyDevice s t ∧
        (∀ p ∈ trimFields s.dev.variant, t.dev.rd (trimActive p.1) = s.dev.rd (trimShadow p.1)) ∧
        t.dev.rd ANA_COMMIT_CNT = satInc (s.dev.rd ANA_COMMIT_CNT) 1) ∧
    (s.dev.trimFree = false →
      ∃ t, exec (.trimCommit r e) s = .next t ∧ OnlyDevice s t ∧ t.dev.trim.commits = [asOp 0x0532 r] ∧
        t.dev.bit ANA_STATUS 30 = true ∧
        ∀ p ∈ trimFields s.dev.variant, t.dev.rd (trimActive p.1) = s.dev.rd (trimActive p.1))) ∧
  (∀ (r : Req) (e : Env) (s : State), TakesData s 0x0533 cmdTrimLoad r e →
    (∀ st x, s.dev.trimCheck (dataOf r e) = some (st, x) →
      exec (.trimLoad r e) s = .next { s with dev := (started s 0x0533 r).fail (asOp 0x0533 r) st x }) ∧
    (s.dev.trimCheck (dataOf r e) = none → s.dev.trim.queue = [] → s.dev.trim.commits = [] → r.a0.bit 0 = false →
      ∃ t, exec (.trimLoad r e) s = .next t ∧ OnlyDevice s t ∧
        ∀ p ∈ trimFields s.dev.variant,
          t.dev.rd (trimShadow p.1) = BitVec.ofNat 32 (bytesAt (dataOf r e) (64 + p.1) 4) ∧
          t.dev.rd (trimActive p.1) = s.dev.rd (trimActive p.1))) ∧
  (∀ (r : Req) (e : Env) (s : State), Takes s 0x0583 cmdTrimRead r →
    exec (.trimRead r e) s = .next { s with dev :=
      ((started s 0x0583 r).okData (asOp 0x0583 r) (s.dev.trimImage (r.a0.bit 0)) 0 0 0 0) }) ∧
  (∀ (v : List Int) (s : State) (tol : Nat) (d : Dev), 2 ≤ s.dev.mode.boot → tol = s.dev.fld ANA_REF_CFG 0 8 →
    d = s.dev.bgReturn tol v → s.dev.trim.lost = false →
    (bgAgree tol v 0 1 = true → bgAgree tol v 0 2 = true → bgAgree tol v 1 2 = true →
      d.bgOut (s.dev.fld ANA_REF_CFG 8 2) = false →
      exec (.bandgapCompare v) s = .next { s with dev := d.setFld ANA_REF_STATUS 0 2 (s.dev.fld ANA_REF_CFG 8 2) }) ∧
    (∀ (odd a b : Nat) (g : Dev), odd < 3 → (a, b) = bgOthers odd → bgAgree tol v a b = true →
      bgAgree tol v odd a = false → bgAgree tol v odd b = false →
      g = (d.setFld ANA_REF_STATUS 0 2 (if d.bgOut a = true ∧ d.bgOut b = false then b else a)).setBit
        ANA_REF_STATUS (4 + odd) true →
      exec (.bandgapCompare v) s = .next { s with dev := (if d.bgOut odd then g else g.fault 34 5) }) ∧
    (bgAgree tol v 0 1 = false → bgAgree tol v 0 2 = false → bgAgree tol v 1 2 = false →
      exec (.bandgapCompare v) s = .next { s with dev :=
        ((d.modTrim (fun t => { t with lost := true })).fault 34 6) })) ∧
  (∀ (d : Dev) (tol : Nat) (v : List Int) (g : Nat), g < 3 → d.trim.agree.length = 3 → d.bgOut g = true →
    ((d.bgReturn tol v).bgOut g = false ↔
      bgAgree tol v g (bgOthers g).1 = true ∧ bgAgree tol v g (bgOthers g).2 = true ∧ 999 ≤ d.trim.agree.getD g 0)) ∧
  (∀ (n : Fin 4) (code : BitVec 12) (s : State), 2 ≤ s.dev.mode.boot →
    ((4090 ≤ code.toNat ∨ code.toNat ≤ 5) →
      exec (.ntcConvert n code) s = .next { s with dev := s.dev.setBit (ILL_NTC n) 16 true }) ∧
    (∀ t, ntcT16 code.toNat (s.dev.fld (ANA_NTC_CFG n) 0 16) (s.dev.fld (ANA_NTC_CFG n) 16 16) = some t →
      s.dev.fld (ANA_NTC_CFG n) 0 16 ≠ 0 →
      exec (.ntcConvert n code) s = .next { s with dev := s.dev.wrN (ILL_NTC n) (unsigned 16 t) })) ∧
  (∀ (v : List Int) (n : Fin 4) (code : BitVec 12) (s : State), s.dev.mode.boot < 2 →
    exec (.bandgapCompare v) s = .next s ∧ exec (.ntcConvert n code) s = .next s) ∧
  (∀ (n beta ratio : Nat) (t : Int), ntcT16 n beta ratio = some t → -640 ≤ t ∧ t ≤ 2400)

/-- The merge and the flushes (R35, R493 to R503): the first event that waits is released once every source has gone
past it, with the next sequence number; a flush that the MRAM verifies moves the records it was started with from the
buffer to the record area, one that fails moves none and is logged; a loss in the buffer loses one record and puts
bypass in force. The recorder's commands (R495, R502, R514, R518): REC_FLUSH waits for its flush, and for the second one
where one is running; REC_CLEAR empties the log once no flush runs, and leaves lifetime, shadow log and history; it
completes when the merge releases CLEARED; LIFE_RESET zeroes the image in MANUFACTURE and is DENIED in every other state
of the life-cycle. -/
def Obligations.RecorderFlushes : Prop :=
  (∀ (s : State) (v : Event) (vs : List Event), Awake s → s.dev.rcd.waiting = v :: vs → s.dev.mergeReady = true →
    s.dev.rcd.clearing = none → s.dev.rcd.bypass = false → s.dev.rcd.full = false → s.dev.rcd.mram.usable = true →
    s.dev.rcd.buf.length + 1 < 4096 → s.dev.rcd.clearedAt = none →
    ∃ d : Dev, exec .eventMergeRelease s =
        .next { s with dev := (d.stream 1 0 (v.bytes s.dev.rcd.seq) false).finishWorams.reportDrops } ∧
      d.rcd.waiting = vs ∧ d.rcd.seq = (s.dev.rcd.seq + 1) % 2 ^ 32 ∧
      d.rcd.buf = (if s.dev.admits v then s.dev.rcd.buf ++ [v.bytes s.dev.rcd.seq] else s.dev.rcd.buf)) ∧
  (∀ (s : State) (v : Event) (vs : List Event) (q : Req), Awake s → s.dev.rcd.waiting = v :: vs →
    s.dev.mergeReady = true → s.dev.rcd.clearing = some q → v.src = 36 → v.code = 0x51 →
    ∃ (d : Dev) (f : Woram → Woram), d.rcd.clearing = none ∧ exec .eventMergeRelease s =
      .next { s with dev := (Dev.stream { d.ok q 0 0 0 0 with
        woram := (d.ok q 0 0 0 0).woram.map f, closing := (d.ok q 0 0 0 0).closing.map f }
          1 0 (v.bytes s.dev.rcd.seq) false).finishWorams.reportDrops }) ∧
  (∀ (s : State), Awake s → (s.dev.mergeReady = false ∨ s.dev.rcd.waiting = []) → s.dev.closing = [] →
    s.dev.rcd.dropped = 0 → exec .eventMergeRelease s = .next s) ∧
  (∀ (v : Event) (n : Nat), (v.bytes n).length = 32) ∧
  (∀ s : State, Awake s →
    (s.dev.rcd.noteDue = true → exec .noteFlushTimer s = .next { s with dev := s.dev.startFlush }) ∧
    (s.dev.rcd.noteDue = false → exec .noteFlushTimer s = .next s)) ∧
  (∀ s : State, Awake s → s.dev.rcd.flushing = true → s.dev.rcd.again = false → s.dev.rcd.flushReqs = [] →
    s.dev.rcd.nextReqs = [] → s.dev.rcd.clearReq = none → s.dev.rcd.full = false → s.dev.rcd.dropped = 0 →
    (∀ n, n = s.dev.rcd.writing → n ≤ s.dev.rcd.buf.length → s.dev.rcd.wptr + n < s.dev.rcd.mram.area →
      ∃ t, exec (.flushComplete .ok) s = .next t ∧ OnlyDevice s t ∧ t.dev.rcd.flushing = false ∧
        t.dev.rcd.buf = s.dev.rcd.buf.drop n ∧ t.dev.rcd.wptr = s.dev.rcd.wptr + n ∧ t.dev.rcd.full = false ∧
        t.dev.rcd.mram.recs = s.dev.rcd.mram.recs.take s.dev.rcd.wptr ++ s.dev.rcd.buf.take n ∧
        t.dev.rcd.mram.lifeGen = s.dev.rcd.mram.lifeGen + 1) ∧
    (∀ x kind, (x = .badVerify ∧ kind = 2 ∨ x = .noResponse ∧ kind = 3) →
      exec (.flushComplete x) s = .next { s with dev :=
        (((s.dev.shadowLog kind (0x100000 + 32 * s.dev.rcd.wptr)).fault 36 2).afterFlush false) })) ∧
  (∀ (s : State) (x : Xspi), s.dev.rcd.flushing = false → exec (.flushComplete x) s = .next s) ∧
  (∀ (word : BitVec 29) (s : State), Awake s → s.dev.rcd.mram.usable = false →
    ∃ d : Dev, exec (.recSramFail word) s = .next { s with dev := ((d.fault 36 1).endCause 36 1) } ∧ d.rcd.bypass = true ∧
      d.rcd.buf = s.dev.rcd.buf.eraseIdx (word.toNat / 8) ∧ d.bit REC_STATUS 30 = true) ∧
  (∀ (r : Req) (e : Env) (s : State),
    (Takes s 0x0A01 cmdRecFlush r →
      (s.dev.rcd.mram.usable = false →
        exec (.recFlush r e) s = .next { s with dev := (started s 0x0A01 r).fail (asOp 0x0A01 r) stTimeout 0x0A01 }) ∧
      (s.dev.rcd.mram.usable = true →
        ∃ t, exec (.recFlush r e) s = .next t ∧ OnlyDevice s t ∧ t.dev.rcd.flushing = true ∧
          t.dev.rcd.buf = s.dev.rcd.buf ∧
          (s.dev.rcd.flushing = false → t.dev.rcd.writing = s.dev.rcd.buf.length ∧
            t.dev.rcd.flushReqs = s.dev.rcd.flushReqs ++ [asOp 0x0A01 r]) ∧
          (s.dev.rcd.flushing = true → t.dev.rcd.again = true ∧
            t.dev.rcd.nextReqs = s.dev.rcd.nextReqs ++ [asOp 0x0A01 r]))) ∧
    (Takes s 0x0A02 cmdRecClear r → s.dev.rcd.flushing = false →
      ∃ t, exec (.recClear r e) s = .next t ∧ OnlyDevice s t ∧ t.dev.rcd.wptr = 0 ∧ t.dev.rcd.full = false ∧
        t.dev.rcd.buf = [] ∧ t.dev.rcd.clearing = some (asOp 0x0A02 r) ∧ t.dev.rcd.clearedAt = some s.dev.tb3 ∧
        t.dev.rcd.shadow = s.dev.rcd.shadow ∧
        t.dev.life = s.dev.life ∧ t.dev.rcd.mram.life = s.dev.rcd.mram.life ∧ t.dev.flt.hist = s.dev.flt.hist) ∧
    (Takes s 0x0A02 cmdRecClear r → s.dev.rcd.flushing = true →
      ∃ t, exec (.recClear r e) s = .next t ∧ OnlyDevice s t ∧ t.dev.rcd.clearReq = some (asOp 0x0A02 r) ∧
        t.dev.rcd.buf = s.dev.rcd.buf ∧ t.dev.rcd.wptr = s.dev.rcd.wptr) ∧
    (Takes s 0x0A05 cmdLifeReset r →
      ∃ t, exec (.lifeReset r e) s = .next t ∧ OnlyDevice s t ∧ s.dev.lcState = 1 ∧ t.dev.rcd.mram.life = Life.zero ∧
        t.dev.rcd.mram.recs = s.dev.rcd.mram.recs) ∧
    (Up s → s.dev.mayTake (asOp 0x0A05 r) = true → groupOn 0x0A05 (s.dev.ringType r.ring) = true →
      firstFail (shape (asOp 0x0A05 r) [] none 0) = none → s.dev.lcState ≠ 1 →
      exec (.lifeReset r e) s = .next { s with dev := (started s 0x0A05 r).fail (asOp 0x0A05 r) stDenied 0 }))

/-- The window of the recorder (R501, R503): a write of REC_CURSOR loads the record of that index, zeros for none; a
read of REC_WIN7 gives its word and loads the next record; REC_SHADOW_SEL copies an entry of the shadow log. Monitor
slots (R515 to R517): a slot that is on, of an instance that is present, keeps minimum, maximum, count, sum and the bin
of a sample of its quantity; any other samples nothing; MON_SET restarts it empty; MON_CAPTURE gives a record of 320
bytes of each slot of its mask, in order, and restarts those it captured where it is told to. -/
def Obligations.RecorderIsRead : Prop :=
  (∀ (idx : Word) (s : State), Up s →
    ∃ t, exec (.recCursorLoad idx) s = .next t ∧ OnlyDevice s t ∧ t.dev.rd REC_CURSOR = idx ∧ t.dev.rcd = s.dev.rcd ∧
      ∀ w, w < 8 → t.dev.rd (REC_WIN w) = BitVec.ofNat 32 (bytesAt ((s.dev.recAt idx.toNat).getD []) (4 * w) 4)) ∧
  (∀ s : State, Up s →
    ∃ t, exec .recWin7Read s = .next t ∧ OnlyDevice s t ∧
      t.dev.out = List.cons (.regRead (REC_WIN 7) (s.dev.rd (REC_WIN 7))) s.dev.out ∧
      t.dev.rd REC_CURSOR = s.dev.rd REC_CURSOR + 1 ∧
      ∀ w, w < 8 → t.dev.rd (REC_WIN w) =
        BitVec.ofNat 32 (bytesAt ((s.dev.recAt (s.dev.rd REC_CURSOR + 1).toNat).getD []) (4 * w) 4)) ∧
  (∀ (k : Fin 16) (s : State), Up s →
    (∀ x, s.dev.rcd.shadow[k.val]? = some x →
      ∃ t, exec (.recShadowSelect k) s = .next t ∧ OnlyDevice s t ∧
        t.dev.rd (REC_SHADOW_D 0) = BitVec.ofNat 32 x.t ∧ t.dev.rd (REC_SHADOW_D 1) = BitVec.ofNat 32 (x.t / 2 ^ 32) ∧
        t.dev.rd (REC_SHADOW_D 2) = BitVec.ofNat 32 (x.kind * 2 ^ 29 + x.addr)) ∧
    (s.dev.rcd.shadow.length ≤ k.val →
      ∃ t, exec (.recShadowSelect k) s = .next t ∧ OnlyDevice s t ∧ ∀ i, i < 3 → t.dev.rd (REC_SHADOW_D i) = 0)) ∧
  (∀ (r : Req) (e : Env) (s : State),
    (Takes s 0x0A80 cmdRecRead r →
      exec (.recRead r e) s = .next { s with dev := ((started s 0x0A80 r).okData (asOp 0x0A80 r)
        (s.dev.recRun r.a1.toNat r.a0.toNat).flatten (s.dev.recRun r.a1.toNat r.a0.toNat).length 0 0 0) }) ∧
    (Takes s 0x0A81 cmdLifeRead r →
      exec (.lifeRead r e) s = .next { s with dev := ((started s 0x0A81 r).okData (asOp 0x0A81 r)
        ((s.dev.rcd.mram.life.add s.dev.lifeDelta).image (idPart s.dev.variant) s.dev.rcd.mram.lifeGen) 0 0 0 0) }) ∧
    (Takes s 0x0A82 cmdWoramQuery r →
      exec (.woramQuery r e) s = .next { s with dev := ((started s 0x0A82 r).ok (asOp 0x0A82 r)
        (s.dev.rd MEAS_WORAM_SEQ).toNat s.dev.stagingBytes s.dev.staged.length 0) })) ∧
  (∀ (k : Fin 32) (v x : Int) (s : State), Awake s → s.dev.bit (MON_CFG k) 31 = true →
    monPresent s.dev.variant (s.dev.fld (MON_CFG k) 16 8) (s.dev.fld (MON_CFG k) 8 5) = some true →
    -(2 ^ 31) ≤ v → v < 2 ^ 31 →
    v = (s.dev.monValue (s.dev.fld (MON_CFG k) 16 8) (s.dev.fld (MON_CFG k) 8 5)).getD x →
    ∃ t, exec (.monitorSample k x) s = .next t ∧ OnlyDevice s t ∧
      t.dev.rdI (MON_MIN k) = min (s.dev.rdI (MON_MIN k)) v ∧ t.dev.rdI (MON_MAX k) = max (s.dev.rdI (MON_MAX k)) v ∧
      t.dev.rd64 (MON_COUNT_LO k) (MON_COUNT_HI k) = (s.dev.rd64 (MON_COUNT_LO k) (MON_COUNT_HI k) + 1) % 2 ^ 64 ∧
      (t.dev.rd64 (MON_SUM_LO k) (MON_SUM_HI k) : Int) = (s.dev.rd64 (MON_SUM_LO k) (MON_SUM_HI k) + v) % 2 ^ 64 ∧
      ∃ b : Nat, b < 64 ∧
        (b : Int) = max 0 (min 63 ((v - s.dev.rdI (MON_LO k)) / (2 ^ s.dev.fld (MON_CFG k) 0 5 : Nat))) ∧
        t.dev.rd (MON_BIN k b) = satInc (s.dev.rd (MON_BIN k b)) 1 ∧
        ∀ j, j < 64 → j ≠ b → t.dev.rd (MON_BIN k j) = s.dev.rd (MON_BIN k j)) ∧
  (∀ (k : Fin 32) (x : Int) (s : State), (s.dev.bit (MON_CFG k) 31 = false ∨
      monPresent s.dev.variant (s.dev.fld (MON_CFG k) 16 8) (s.dev.fld (MON_CFG k) 8 5) ≠ some true) →
    exec (.monitorSample k x) s = .next s) ∧
  (∀ (r : Req) (e : Env) (s : State) (k : Nat), Takes s 0x0A03 cmdMonSet r → k = r.a0.get 0 5 →
    ∃ t, exec (.monSet r e) s = .next t ∧ OnlyDevice s t ∧ t.dev.rd (MON_CFG k) = r.a1 ∧ t.dev.rd (MON_LO k) = r.a2 ∧
      t.dev.rd (MON_SAMPLE k) = r.a3 ∧ t.dev.rd (MON_MIN k) = 0x7FFFFFFF ∧ t.dev.rd (MON_MAX k) = 0x80000000 ∧
      t.dev.rd64 (MON_COUNT_LO k) (MON_COUNT_HI k) = 0 ∧ t.dev.rd64 (MON_SUM_LO k) (MON_SUM_HI k) = 0 ∧
      ∀ i, i < 64 → t.dev.rd (MON_BIN k i) = 0) ∧
  (∀ (r : Req) (e : Env) (s : State) (f : Dev → Nat → Dev), Takes s 0x0A04 cmdMonCapture r →
    (∀ d k, f d k = if r.a1.bit 0 then (d.stream 6 k (d.capture k) false).monEmpty k
      else d.stream 6 k (d.capture k) false) →
    exec (.monCapture r e) s = .next { s with dev :=
      ((bitList 32 r.a0.toNat).foldl f (started s 0x0A04 r)).ok (asOp 0x0A04 r) 0 0 0 0 }) ∧
  (∀ (d : Dev) (k : Nat), k < 32 → (d.monEmpty k).rd (MON_MIN k) = 0x7FFFFFFF ∧
    (d.monEmpty k).rd (MON_MAX k) = 0x80000000 ∧ (d.monEmpty k).rd64 (MON_COUNT_LO k) (MON_COUNT_HI k) = 0 ∧
    (d.monEmpty k).rd64 (MON_SUM_LO k) (MON_SUM_HI k) = 0 ∧ ∀ i, i < 64 → (d.monEmpty k).rd (MON_BIN k i) = 0) ∧
  (∀ (d : Dev) (k : Nat), (d.capture k).length = 320)

/-- The life-cycle (R522 to R524): a transition is one of those the rules allow, and burns its group alone; LC_ADVANCE
burns it at once, while what the device opens goes by the state latched at boot; any other completes DENIED with 0x0C01.
LC_ADVANCE
to SERVICE also needs its authorisation. Memory BIST and repair (R529 to R533): MBIST_RUN flushes the recorder first and
ends with that flush (the model's choice, log entry 106), keeps the first 256 failures and counts the rest; while it runs
BIST_QUERY completes LIMIT with 0x0C05; a repair map that fails a check leaves the one in force, with its status;
REPAIR_STORE copies the map in force to MRAM; BIST_MEM_INFO follows its selector; BIST_QUERY shows what was found. -/
def Obligations.LifeCycleAndRepair : Prop :=
  (∀ (f g : Fuses) (target confirm : Nat), f.sound → f.advance target confirm = some g → g.sound ∧ g.state = target ∧
    ((f.state, target) = (0, 1) ∨ (f.state, target) = (1, 2) ∨ (f.state, target) = (2, 3) ∨ (f.state, target) = (3, 2) ∨
      (f.state ≠ 4 ∧ target = 4 ∧ confirm = 0x52544952)) ∧
    f.entries ≤ g.entries ∧ f.returns ≤ g.returns ∧ (f.manuf = true → g.manuf = true) ∧
    (f.deploy = true → g.deploy = true) ∧ (f.retire = true → g.retire = true)) ∧
  State.reset.dev.bist.fuses.sound ∧
  (∀ (r : Req) (e : Env) (s : State) (f : Fuses), Takes s 0x0C01 cmdLcAdvance r → r.a0.get 0 3 ≠ 3 →
    s.dev.bist.fuses.advance (r.a0.get 0 3) r.a1.toNat = some f →
    (e.ok = true → ∃ t, exec (.lcAdvance r e) s = .next t ∧ OnlyDevice s t ∧ t.dev.bist.fuses = f ∧
      t.dev.bist.latched = s.dev.bist.latched ∧ t.dev.lcState = s.dev.lcState) ∧
    (e.ok = false → exec (.lcAdvance r e) s = .next { s with dev :=
      (((started s 0x0C01 r).fault 37 4).fail (asOp 0x0C01 r) stLimit 0x0C02) })) ∧
  (∀ (r : Req) (e : Env) (s : State), TakesData s 0x0C01 cmdLcAdvance r e → r.a0.get 0 3 = 3 →
    authorised s.dev.bist.fuses (dataOf r e) = false →
    exec (.lcAdvance r e) s =
      .next { s with dev := (started s 0x0C01 r).fail (asOp 0x0C01 r) stDenied 0x0C03 }) ∧
  (∀ (r : Req) (e : Env) (s : State) (f : Fuses), TakesData s 0x0C01 cmdLcAdvance r e → r.a0.get 0 3 = 3 →
    authorised s.dev.bist.fuses (dataOf r e) = true → s.dev.bist.fuses.advance 3 r.a1.toNat = some f → e.ok = true →
    ∃ t, exec (.lcAdvance r e) s = .next t ∧ OnlyDevice s t ∧ t.dev.bist.fuses = f ∧
      t.dev.bist.latched = s.dev.bist.latched) ∧
  (∀ (map : Option (List Byte)) (s : State), Up s →
    ((s.dev.mode.cur ≠ .configure ∨ s.dev.mode.fwSup = true) →
      exec (.repairApply map) s = .next { s with dev := s.dev.mapRefused stReject }) ∧
    (s.dev.mode.cur = .configure → s.dev.mode.fwSup = false → map = none →
      exec (.repairApply map) s = .next { s with dev := (s.dev.send (.aer true)).mapRefused stTimeout }) ∧
    (∀ b, s.dev.mode.cur = .configure → s.dev.mode.fwSup = false → map = some b →
      b.length < s.dev.fld BIST_REPAIR_LEN 0 14 →
      exec (.repairApply map) s = .next { s with dev := s.dev.mapRefused stMalformed }) ∧
    (∀ c b, s.dev.mode.cur = .configure → s.dev.mode.fwSup = false → map = some c →
      b = c.take (s.dev.fld BIST_REPAIR_LEN 0 14) → b.length = s.dev.fld BIST_REPAIR_LEN 0 14 →
      (repairCheck b = stOk →
        ∃ t, exec (.repairApply map) s = .next t ∧ OnlyDevice s t ∧ t.dev.bist.map = b ∧ t.dev.mode.repair = true ∧
          t.dev.rd BIST_REPAIR_STATUS = BitVec.ofNat 32 (2 * 2 ^ 28 + bytesAt b 6 2)) ∧
      (repairCheck b ≠ stOk →
        ∃ t, exec (.repairApply map) s = .next t ∧ OnlyDevice s t ∧ t.dev.bist = s.dev.bist ∧
          t.dev.fld BIST_REPAIR_STATUS 28 4 = 3 ∧ t.dev.fld BIST_REPAIR_STATUS 16 8 = repairCheck b))) ∧
  (∀ (id : BitVec 10) (s : State), Up s →
    exec (.bistMemSelect id) s = .next { s with dev := s.dev.wr BIST_MEM_INFO (Config.memInfo id.toNat) }) ∧
  (∀ (r : Req) (e : Env) (s : State),
    (Takes s 0x0C02 cmdMbistRun r →
      ∃ d : Dev, d.bist.run = some (asOp 0x0C02 r, e.blob) ∧ d.bist.mbist = [] ∧
        d.rd BIST_MBIST_STATUS = BitVec.ofNat 32 (2 ^ 28) ∧ d.rcd = s.dev.rcd ∧
        (s.dev.rcd.mram.usable = true → exec (.mbistRun r e) s = .next { s with dev := d.flushFor (asOp 0x0C02 r) }) ∧
        (s.dev.rcd.mram.usable = false → exec (.mbistRun r e) s = .next { s with dev := d.mbistEnd (asOp 0x0C02 r) })) ∧
    (Takes s 0x0C03 cmdRepairStore r → s.dev.rcd.mram.usable = true → e.xspi = .ok →
      ∃ t, exec (.repairStore r e) s = .next t ∧ OnlyDevice s t ∧ t.dev.rcd.mram.repairCopy = s.dev.bist.map ∧
        t.dev.bist = s.dev.bist) ∧
    (Takes s 0x0C03 cmdRepairStore r → s.dev.rcd.mram.usable = false →
      exec (.repairStore r e) s =
        .next { s with dev := (started s 0x0C03 r).fail (asOp 0x0C03 r) stTimeout 0x0C04 }) ∧
    (∀ x kind, Takes s 0x0C03 cmdRepairStore r → s.dev.rcd.mram.usable = true →
      (x = .badVerify ∧ kind = 2 ∨ x = .noResponse ∧ kind = 3) → e.xspi = x →
      exec (.repairStore r e) s = .next { s with dev :=
        (((started s 0x0C03 r).shadowLog kind 0x20000).fault 36 2).fail (asOp 0x0C03 r) stTimeout 0x0C04 }) ∧
    (Takes s 0x0C80 cmdBistQuery r → r.a0.bit 0 = false →
      exec (.bistQuery r e) s = .next { s with dev :=
        ((started s 0x0C80 r).ok (asOp 0x0C80 r) s.dev.bistLc (s.dev.rd BIST_LBIST_FAIL).toNat 0 0) }) ∧
    (Takes s 0x0C80 cmdBistQuery r → r.a0.bit 0 = true →
      ∃ b : List Byte, b.length = 4096 ∧ b = (s.dev.bist.mbist.flatten ++ List.replicate 4096 0).take 4096 ∧
        exec (.bistQuery r e) s = .next { s with dev :=
          ((started s 0x0C80 r).okData (asOp 0x0C80 r) b s.dev.bistLc (s.dev.rd BIST_LBIST_FAIL).toNat 0 0) }) ∧
    (Up s → s.dev.mayTake (asOp 0x0C80 r) = true → groupOn 0x0C80 (s.dev.ringType r.ring) = true →
      firstFail (shape (asOp 0x0C80 r) [1] none (if r.a0.bit 0 then 4096 else 0)) = none → s.dev.bist.run.isSome →
      exec (.bistQuery r e) s =
        .next { s with dev := (started s 0x0C80 r).fail (asOp 0x0C80 r) stLimit 0x0C05 })) ∧
  (∀ (d : Dev) (q p : Req) (blob : List Byte) (n : Nat), d.bist.run = some (p, blob) → blob.length = 16 * n →
    ∃ g : Dev, d.mbistEnd q = (if n = 0 then g else g.fault 37 2).ok q (Nat.min 256 n) (Nat.min 0xFFFF (n - 256)) 0 0 ∧
      g.bist.run = none ∧ g.bist.mbist.length = Nat.min 256 n ∧
      g.rd BIST_MBIST_STATUS = BitVec.ofNat 32 (2 * 2 ^ 28 + Nat.min 256 n * 65536 + Nat.min 0xFFFF (n - 256)) ∧
      ∀ i, i < 256 → i < n → g.bist.mbist[i]? = some ((blob.drop (16 * i)).take 16)) ∧
  (∀ (d : Dev) (good : Bool) (q : Req), q.op = 0x0C02 → d.flushed good q = d.mbistEnd q)
end

