-- ==== Sys2Proof/Laws/Bank.lean ====
section
/-! SUPPORT. Laws of sparse data by key, of the register bank and of the device memory: what a write leaves
to be read, and that the canonical form is kept. -/

namespace Sys2Proof.Machine

variable {α : Type}

@[simp] theorem bankGet_nil (k : Nat) : bankGet ([] : List (Nat × α)) k = none := rfl

theorem bankGet_set_same (l : List (Nat × α)) (k : Nat) (a : α) : bankGet (bankSet l k a) k = some a := by
  induction l with
  | nil => simp [bankSet, bankGet]
  | cons p l ih =>
    obtain ⟨j, b⟩ := p
    unfold bankSet
    split
    · simp [bankGet]
    · split
      · simp [bankGet]
      · simp_all [bankGet]

theorem bankGet_set_other (l : List (Nat × α)) (k i : Nat) (a : α) (h : i ≠ k) :
    bankGet (bankSet l k a) i = bankGet l i := by
  have h' : ¬k = i := fun e => h e.symm
  induction l with
  | nil => simp [bankSet, bankGet, h']
  | cons p l ih =>
    obtain ⟨j, b⟩ := p
    unfold bankSet
    split
    · simp [bankGet, h']
    · split
      · next hj => subst hj; simp [bankGet, h']
      · simp [bankGet, ih]

theorem bankGet_del_same (l : List (Nat × α)) (k : Nat) : bankGet (bankDel l k) k = none := by
  induction l with
  | nil => rfl
  | cons p l ih =>
    obtain ⟨j, b⟩ := p
    unfold bankDel
    split
    · exact ih
    · next hj => simp [bankGet, hj, ih]

theorem bankGet_del_other (l : List (Nat × α)) (k i : Nat) (h : i ≠ k) : bankGet (bankDel l k) i = bankGet l i := by
  induction l with
  | nil => rfl
  | cons p l ih =>
    obtain ⟨j, b⟩ := p
    unfold bankDel
    split
    · next hj =>
      subst hj
      have h' : ¬j = i := fun e => h e.symm
      simp [bankGet, h', ih]
    · simp [bankGet, ih]

/-- What a key reads as after it has been set: the value, listed or not. -/
theorem bankGet_put_same [DecidableEq α] (l : List (Nat × α)) (k : Nat) (dflt a : α) :
    (bankGet (bankPut l k dflt a) k).getD dflt = a := by
  unfold bankPut
  split
  · next h => simp [bankGet_del_same, h]
  · simp [bankGet_set_same]

theorem bankGet_put_other [DecidableEq α] (l : List (Nat × α)) (k i : Nat) (dflt a : α) (h : i ≠ k) :
    bankGet (bankPut l k dflt a) i = bankGet l i := by
  unfold bankPut
  split
  · exact bankGet_del_other l k i h
  · exact bankGet_set_other l k i a h

/-! ## The canonical form -/

/-- Every key of the list is above `k`. -/
def bankAbove (k : Nat) (l : List (Nat × α)) : Prop := ∀ p ∈ l, k < p.1

theorem bankSorted_cons (p : Nat × α) (l : List (Nat × α)) :
    bankSorted (p :: l) = true ↔ bankAbove p.1 l ∧ bankSorted l = true := by
  induction l generalizing p with
  | nil => simp [bankSorted, bankAbove]
  | cons q l ih =>
    obtain ⟨i, a⟩ := p
    obtain ⟨j, b⟩ := q
    simp only [bankSorted, Bool.and_eq_true, decide_eq_true_eq]
    constructor
    · rintro ⟨hij, hs⟩
      refine ⟨?_, hs⟩
      have hj := ((ih (j, b)).mp hs).1
      intro r hr
      rcases List.mem_cons.mp hr with rfl | hr
      · exact hij
      · exact lt_trans hij (hj r hr)
    · rintro ⟨ha, hs⟩
      exact ⟨ha (j, b) (by simp), hs⟩

theorem mem_bankSet {l : List (Nat × α)} {k : Nat} {a : α} {p : Nat × α} (h : p ∈ bankSet l k a) :
    p = (k, a) ∨ p ∈ l := by
  induction l with
  | nil => simpa [bankSet] using h
  | cons q l ih =>
    obtain ⟨j, b⟩ := q
    unfold bankSet at h
    split at h
    · simpa using h
    · split at h
      · rcases List.mem_cons.mp h with rfl | h
        · exact Or.inl rfl
        · exact Or.inr (List.mem_cons_of_mem _ h)
      · rcases List.mem_cons.mp h with rfl | h
        · exact Or.inr (by simp)
        · rcases ih h with h | h
          · exact Or.inl h
          · exact Or.inr (List.mem_cons_of_mem _ h)

theorem mem_bankDel {l : List (Nat × α)} {k : Nat} {p : Nat × α} (h : p ∈ bankDel l k) : p ∈ l := by
  induction l with
  | nil => exact h
  | cons q l ih =>
    obtain ⟨j, b⟩ := q
    unfold bankDel at h
    split at h
    · exact List.mem_cons_of_mem _ (ih h)
    · rcases List.mem_cons.mp h with rfl | h
      · simp
      · exact List.mem_cons_of_mem _ (ih h)

theorem bankSorted_set (l : List (Nat × α)) (k : Nat) (a : α) (h : bankSorted l = true) :
    bankSorted (bankSet l k a) = true := by
  induction l with
  | nil => rfl
  | cons p l ih =>
    obtain ⟨j, b⟩ := p
    obtain ⟨ha, hs⟩ := (bankSorted_cons _ _).mp h
    unfold bankSet
    split
    · next hk =>
      refine (bankSorted_cons _ _).mpr ⟨?_, h⟩
      intro r hr
      rcases List.mem_cons.mp hr with rfl | hr
      · exact hk
      · exact lt_trans hk (ha r hr)
    · split
      · next hj => subst hj; exact (bankSorted_cons _ _).mpr ⟨ha, hs⟩
      · refine (bankSorted_cons _ _).mpr ⟨?_, ih hs⟩
        intro r hr
        rcases mem_bankSet hr with rfl | hr
        · show j < k
          omega
        · exact ha r hr

theorem bankSorted_del (l : List (Nat × α)) (k : Nat) (h : bankSorted l = true) :
    bankSorted (bankDel l k) = true := by
  induction l with
  | nil => rfl
  | cons p l ih =>
    obtain ⟨j, b⟩ := p
    obtain ⟨ha, hs⟩ := (bankSorted_cons _ _).mp h
    unfold bankDel
    split
    · exact ih hs
    · exact (bankSorted_cons _ _).mpr ⟨fun r hr => ha r (mem_bankDel hr), ih hs⟩

/-- Setting a key, to the value it reads as when unlisted or to another, keeps the canonical form. -/
theorem bankWf_put [DecidableEq α] (dflt : Nat → α) (l : List (Nat × α)) (k : Nat) (a : α)
    (h : bankWf dflt l = true) : bankWf dflt (bankPut l k (dflt k) a) = true := by
  simp only [bankWf, Bool.and_eq_true, List.all_eq_true] at h ⊢
  unfold bankPut
  split
  · exact ⟨bankSorted_del l k h.1, fun p hp => h.2 p (mem_bankDel hp)⟩
  · next hne =>
    refine ⟨bankSorted_set l k a h.1, fun p hp => ?_⟩
    rcases mem_bankSet hp with rfl | hp
    · simpa using hne
    · exact h.2 p hp

/-! ## Registers -/

@[simp] theorem Dev.rd_wr_same (d : Dev) (o : Nat) (w : Word) : (d.wr o w).rd o = w :=
  bankGet_put_same d.regs o _ w

theorem Dev.rd_wr_other (d : Dev) (o i : Nat) (w : Word) (h : i ≠ o) : (d.wr o w).rd i = d.rd i := by
  show (bankGet (bankPut d.regs o _ w) i).getD _ = _
  rw [bankGet_put_other _ _ _ _ _ h]; rfl

/-- What a register reads after a write of any. -/
theorem Dev.rd_wr (d : Dev) (o i : Nat) (w : Word) : (d.wr o w).rd i = if i = o then w else d.rd i := by
  split
  · next h => subst h; simp
  · next h => exact d.rd_wr_other o i w h

/-- The register bank is in canonical form: offsets rise, and no register is listed at its reset value. -/
def Dev.bankOk (d : Dev) : Bool := bankWf (resetOf d.variant) d.regs

theorem Dev.bankOk_wr (d : Dev) (o : Nat) (w : Word) (h : d.bankOk = true) : (d.wr o w).bankOk = true :=
  bankWf_put (resetOf d.variant) d.regs o w h

/-! ## Memory -/

@[simp] theorem memRead_put_same (m : List Host.Cell) (a : Nat) (b : Byte) : memRead (memPut m a b) a = b :=
  bankGet_put_same m a 0 b

theorem memRead_put_other (m : List Host.Cell) (a i : Nat) (b : Byte) (h : i ≠ a) :
    memRead (memPut m a b) i = memRead m i := by
  show (bankGet (bankPut m a 0 b) i).getD 0 = _
  rw [bankGet_put_other _ _ _ _ _ h]; rfl

theorem memoryWf_put (m : List Host.Cell) (a : Nat) (b : Byte) (h : Memory.wf m = true) :
    Memory.wf (memPut m a b) = true :=
  bankWf_put (fun _ => (0 : Byte)) m a b h

theorem memoryWf_nil : Memory.wf [] = true := rfl

/-- A write of bytes keeps the canonical form. -/
theorem memoryWf_write (m : List Host.Cell) (a : Nat) (bs : List Byte) (h : Memory.wf m = true) :
    Memory.wf (memWrite m a bs) = true := by
  induction bs generalizing m a with
  | nil => exact h
  | cons b bs ih => exact ih _ _ (memoryWf_put m a b h)

/-- A byte outside the bytes written reads as before. -/
theorem memRead_write_outside (m : List Host.Cell) (a i : Nat) (bs : List Byte) (h : i < a ∨ a + bs.length ≤ i) :
    memRead (memWrite m a bs) i = memRead m i := by
  induction bs generalizing m a with
  | nil => rfl
  | cons b bs ih =>
    simp only [List.length_cons] at h
    show memRead (memWrite (memPut m a b) (a + 1) bs) i = _
    rw [ih _ _ (by omega), memRead_put_other _ _ _ _ (by omega)]

/-- The byte at offset `j` of those written reads as it was given. -/
theorem memRead_write_inside (m : List Host.Cell) (a j : Nat) (bs : List Byte) (h : j < bs.length) :
    memRead (memWrite m a bs) (a + j) = bs[j] := by
  induction bs generalizing m a j with
  | nil => simp at h
  | cons b bs ih =>
    show memRead (memWrite (memPut m a b) (a + 1) bs) (a + j) = _
    cases j with
    | zero => rw [memRead_write_outside _ _ _ _ (by omega)]; simp
    | succ j =>
      have := ih (memPut m a b) (a + 1) j (by simpa using h)
      simpa [Nat.add_assoc, Nat.add_comm 1 j] using this

end Sys2Proof.Machine
end

