-- ==== Sys2Proof/Laws/State.lean ====
section
/-! SUPPORT. What each named update of the device leaves of each field: one lemma for each update and each
field it does not change, true by definition. -/

namespace Sys2Proof.Machine

/-! ## wr -/

@[simp] theorem Dev.wr_variant (d : Dev) (o : Nat) (w : Word) : (d.wr o w).variant = d.variant := rfl
@[simp] theorem Dev.wr_devId (d : Dev) (o : Nat) (w : Word) : (d.wr o w).devId = d.devId := rfl
@[simp] theorem Dev.wr_copies (d : Dev) (o : Nat) (w : Word) : (d.wr o w).copies = d.copies := rfl
@[simp] theorem Dev.wr_tb0 (d : Dev) (o : Nat) (w : Word) : (d.wr o w).tb0 = d.tb0 := rfl
@[simp] theorem Dev.wr_tb3 (d : Dev) (o : Nat) (w : Word) : (d.wr o w).tb3 = d.tb3 := rfl
@[simp] theorem Dev.wr_mode (d : Dev) (o : Nat) (w : Word) : (d.wr o w).mode = d.mode := rfl
@[simp] theorem Dev.wr_rings (d : Dev) (o : Nat) (w : Word) : (d.wr o w).rings = d.rings := rfl
@[simp] theorem Dev.wr_hif (d : Dev) (o : Nat) (w : Word) : (d.wr o w).hif = d.hif := rfl
@[simp] theorem Dev.wr_rcd (d : Dev) (o : Nat) (w : Word) : (d.wr o w).rcd = d.rcd := rfl
@[simp] theorem Dev.wr_life (d : Dev) (o : Nat) (w : Word) : (d.wr o w).life = d.life := rfl
@[simp] theorem Dev.wr_woram (d : Dev) (o : Nat) (w : Word) : (d.wr o w).woram = d.woram := rfl
@[simp] theorem Dev.wr_closing (d : Dev) (o : Nat) (w : Word) : (d.wr o w).closing = d.closing := rfl
@[simp] theorem Dev.wr_staged (d : Dev) (o : Nat) (w : Word) : (d.wr o w).staged = d.staged := rfl
@[simp] theorem Dev.wr_recSeq (d : Dev) (o : Nat) (w : Word) : (d.wr o w).recSeq = d.recSeq := rfl
@[simp] theorem Dev.wr_lay (d : Dev) (o : Nat) (w : Word) : (d.wr o w).lay = d.lay := rfl
@[simp] theorem Dev.wr_grids (d : Dev) (o : Nat) (w : Word) : (d.wr o w).grids = d.grids := rfl
@[simp] theorem Dev.wr_resids (d : Dev) (o : Nat) (w : Word) : (d.wr o w).resids = d.resids := rfl
@[simp] theorem Dev.wr_flt (d : Dev) (o : Nat) (w : Word) : (d.wr o w).flt = d.flt := rfl
@[simp] theorem Dev.wr_rails (d : Dev) (o : Nat) (w : Word) : (d.wr o w).rails = d.rails := rfl
@[simp] theorem Dev.wr_bist (d : Dev) (o : Nat) (w : Word) : (d.wr o w).bist = d.bist := rfl
@[simp] theorem Dev.wr_engines (d : Dev) (o : Nat) (w : Word) : (d.wr o w).engines = d.engines := rfl
@[simp] theorem Dev.wr_keeper (d : Dev) (o : Nat) (w : Word) : (d.wr o w).keeper = d.keeper := rfl
@[simp] theorem Dev.wr_replay (d : Dev) (o : Nat) (w : Word) : (d.wr o w).replay = d.replay := rfl
@[simp] theorem Dev.wr_ldg (d : Dev) (o : Nat) (w : Word) : (d.wr o w).ldg = d.ldg := rfl
@[simp] theorem Dev.wr_feats (d : Dev) (o : Nat) (w : Word) : (d.wr o w).feats = d.feats := rfl
@[simp] theorem Dev.wr_profiles (d : Dev) (o : Nat) (w : Word) : (d.wr o w).profiles = d.profiles := rfl
@[simp] theorem Dev.wr_cals (d : Dev) (o : Nat) (w : Word) : (d.wr o w).cals = d.cals := rfl
@[simp] theorem Dev.wr_probes (d : Dev) (o : Nat) (w : Word) : (d.wr o w).probes = d.probes := rfl
@[simp] theorem Dev.wr_calWait (d : Dev) (o : Nat) (w : Word) : (d.wr o w).calWait = d.calWait := rfl
@[simp] theorem Dev.wr_scn (d : Dev) (o : Nat) (w : Word) : (d.wr o w).scn = d.scn := rfl
@[simp] theorem Dev.wr_vis (d : Dev) (o : Nat) (w : Word) : (d.wr o w).vis = d.vis := rfl
@[simp] theorem Dev.wr_dram (d : Dev) (o : Nat) (w : Word) : (d.wr o w).dram = d.dram := rfl
@[simp] theorem Dev.wr_time (d : Dev) (o : Nat) (w : Word) : (d.wr o w).time = d.time := rfl
@[simp] theorem Dev.wr_byf (d : Dev) (o : Nat) (w : Word) : (d.wr o w).byf = d.byf := rfl
@[simp] theorem Dev.wr_mot (d : Dev) (o : Nat) (w : Word) : (d.wr o w).mot = d.mot := rfl
@[simp] theorem Dev.wr_ill (d : Dev) (o : Nat) (w : Word) : (d.wr o w).ill = d.ill := rfl
@[simp] theorem Dev.wr_trim (d : Dev) (o : Nat) (w : Word) : (d.wr o w).trim = d.trim := rfl
@[simp] theorem Dev.wr_gridCommits (d : Dev) (o : Nat) (w : Word) : (d.wr o w).gridCommits = d.gridCommits := rfl
@[simp] theorem Dev.wr_recoated (d : Dev) (o : Nat) (w : Word) : (d.wr o w).recoated = d.recoated := rfl
@[simp] theorem Dev.wr_members (d : Dev) (o : Nat) (w : Word) : (d.wr o w).members = d.members := rfl
@[simp] theorem Dev.wr_out (d : Dev) (o : Nat) (w : Word) : (d.wr o w).out = d.out := rfl
@[simp] theorem Dev.wr_freeCtr (d : Dev) (o : Nat) (w : Word) : (d.wr o w).freeCtr = d.freeCtr := rfl

/-! ## setFld -/

@[simp] theorem Dev.setFld_variant (d : Dev) (o lo n v : Nat) : (d.setFld o lo n v).variant = d.variant := rfl
@[simp] theorem Dev.setFld_devId (d : Dev) (o lo n v : Nat) : (d.setFld o lo n v).devId = d.devId := rfl
@[simp] theorem Dev.setFld_copies (d : Dev) (o lo n v : Nat) : (d.setFld o lo n v).copies = d.copies := rfl
@[simp] theorem Dev.setFld_tb0 (d : Dev) (o lo n v : Nat) : (d.setFld o lo n v).tb0 = d.tb0 := rfl
@[simp] theorem Dev.setFld_tb3 (d : Dev) (o lo n v : Nat) : (d.setFld o lo n v).tb3 = d.tb3 := rfl
@[simp] theorem Dev.setFld_mode (d : Dev) (o lo n v : Nat) : (d.setFld o lo n v).mode = d.mode := rfl
@[simp] theorem Dev.setFld_rings (d : Dev) (o lo n v : Nat) : (d.setFld o lo n v).rings = d.rings := rfl
@[simp] theorem Dev.setFld_hif (d : Dev) (o lo n v : Nat) : (d.setFld o lo n v).hif = d.hif := rfl
@[simp] theorem Dev.setFld_rcd (d : Dev) (o lo n v : Nat) : (d.setFld o lo n v).rcd = d.rcd := rfl
@[simp] theorem Dev.setFld_life (d : Dev) (o lo n v : Nat) : (d.setFld o lo n v).life = d.life := rfl
@[simp] theorem Dev.setFld_woram (d : Dev) (o lo n v : Nat) : (d.setFld o lo n v).woram = d.woram := rfl
@[simp] theorem Dev.setFld_closing (d : Dev) (o lo n v : Nat) : (d.setFld o lo n v).closing = d.closing := rfl
@[simp] theorem Dev.setFld_staged (d : Dev) (o lo n v : Nat) : (d.setFld o lo n v).staged = d.staged := rfl
@[simp] theorem Dev.setFld_recSeq (d : Dev) (o lo n v : Nat) : (d.setFld o lo n v).recSeq = d.recSeq := rfl
@[simp] theorem Dev.setFld_lay (d : Dev) (o lo n v : Nat) : (d.setFld o lo n v).lay = d.lay := rfl
@[simp] theorem Dev.setFld_grids (d : Dev) (o lo n v : Nat) : (d.setFld o lo n v).grids = d.grids := rfl
@[simp] theorem Dev.setFld_resids (d : Dev) (o lo n v : Nat) : (d.setFld o lo n v).resids = d.resids := rfl
@[simp] theorem Dev.setFld_flt (d : Dev) (o lo n v : Nat) : (d.setFld o lo n v).flt = d.flt := rfl
@[simp] theorem Dev.setFld_rails (d : Dev) (o lo n v : Nat) : (d.setFld o lo n v).rails = d.rails := rfl
@[simp] theorem Dev.setFld_bist (d : Dev) (o lo n v : Nat) : (d.setFld o lo n v).bist = d.bist := rfl
@[simp] theorem Dev.setFld_engines (d : Dev) (o lo n v : Nat) : (d.setFld o lo n v).engines = d.engines := rfl
@[simp] theorem Dev.setFld_keeper (d : Dev) (o lo n v : Nat) : (d.setFld o lo n v).keeper = d.keeper := rfl
@[simp] theorem Dev.setFld_replay (d : Dev) (o lo n v : Nat) : (d.setFld o lo n v).replay = d.replay := rfl
@[simp] theorem Dev.setFld_ldg (d : Dev) (o lo n v : Nat) : (d.setFld o lo n v).ldg = d.ldg := rfl
@[simp] theorem Dev.setFld_feats (d : Dev) (o lo n v : Nat) : (d.setFld o lo n v).feats = d.feats := rfl
@[simp] theorem Dev.setFld_profiles (d : Dev) (o lo n v : Nat) : (d.setFld o lo n v).profiles = d.profiles := rfl
@[simp] theorem Dev.setFld_cals (d : Dev) (o lo n v : Nat) : (d.setFld o lo n v).cals = d.cals := rfl
@[simp] theorem Dev.setFld_probes (d : Dev) (o lo n v : Nat) : (d.setFld o lo n v).probes = d.probes := rfl
@[simp] theorem Dev.setFld_calWait (d : Dev) (o lo n v : Nat) : (d.setFld o lo n v).calWait = d.calWait := rfl
@[simp] theorem Dev.setFld_scn (d : Dev) (o lo n v : Nat) : (d.setFld o lo n v).scn = d.scn := rfl
@[simp] theorem Dev.setFld_vis (d : Dev) (o lo n v : Nat) : (d.setFld o lo n v).vis = d.vis := rfl
@[simp] theorem Dev.setFld_dram (d : Dev) (o lo n v : Nat) : (d.setFld o lo n v).dram = d.dram := rfl
@[simp] theorem Dev.setFld_time (d : Dev) (o lo n v : Nat) : (d.setFld o lo n v).time = d.time := rfl
@[simp] theorem Dev.setFld_byf (d : Dev) (o lo n v : Nat) : (d.setFld o lo n v).byf = d.byf := rfl
@[simp] theorem Dev.setFld_mot (d : Dev) (o lo n v : Nat) : (d.setFld o lo n v).mot = d.mot := rfl
@[simp] theorem Dev.setFld_ill (d : Dev) (o lo n v : Nat) : (d.setFld o lo n v).ill = d.ill := rfl
@[simp] theorem Dev.setFld_trim (d : Dev) (o lo n v : Nat) : (d.setFld o lo n v).trim = d.trim := rfl
@[simp] theorem Dev.setFld_gridCommits (d : Dev) (o lo n v : Nat) : (d.setFld o lo n v).gridCommits = d.gridCommits := rfl
@[simp] theorem Dev.setFld_recoated (d : Dev) (o lo n v : Nat) : (d.setFld o lo n v).recoated = d.recoated := rfl
@[simp] theorem Dev.setFld_members (d : Dev) (o lo n v : Nat) : (d.setFld o lo n v).members = d.members := rfl
@[simp] theorem Dev.setFld_out (d : Dev) (o lo n v : Nat) : (d.setFld o lo n v).out = d.out := rfl
@[simp] theorem Dev.setFld_freeCtr (d : Dev) (o lo n v : Nat) : (d.setFld o lo n v).freeCtr = d.freeCtr := rfl

/-! ## setBit -/

@[simp] theorem Dev.setBit_variant (d : Dev) (o i : Nat) (b : Bool) : (d.setBit o i b).variant = d.variant := rfl
@[simp] theorem Dev.setBit_devId (d : Dev) (o i : Nat) (b : Bool) : (d.setBit o i b).devId = d.devId := rfl
@[simp] theorem Dev.setBit_copies (d : Dev) (o i : Nat) (b : Bool) : (d.setBit o i b).copies = d.copies := rfl
@[simp] theorem Dev.setBit_tb0 (d : Dev) (o i : Nat) (b : Bool) : (d.setBit o i b).tb0 = d.tb0 := rfl
@[simp] theorem Dev.setBit_tb3 (d : Dev) (o i : Nat) (b : Bool) : (d.setBit o i b).tb3 = d.tb3 := rfl
@[simp] theorem Dev.setBit_mode (d : Dev) (o i : Nat) (b : Bool) : (d.setBit o i b).mode = d.mode := rfl
@[simp] theorem Dev.setBit_rings (d : Dev) (o i : Nat) (b : Bool) : (d.setBit o i b).rings = d.rings := rfl
@[simp] theorem Dev.setBit_hif (d : Dev) (o i : Nat) (b : Bool) : (d.setBit o i b).hif = d.hif := rfl
@[simp] theorem Dev.setBit_rcd (d : Dev) (o i : Nat) (b : Bool) : (d.setBit o i b).rcd = d.rcd := rfl
@[simp] theorem Dev.setBit_life (d : Dev) (o i : Nat) (b : Bool) : (d.setBit o i b).life = d.life := rfl
@[simp] theorem Dev.setBit_woram (d : Dev) (o i : Nat) (b : Bool) : (d.setBit o i b).woram = d.woram := rfl
@[simp] theorem Dev.setBit_closing (d : Dev) (o i : Nat) (b : Bool) : (d.setBit o i b).closing = d.closing := rfl
@[simp] theorem Dev.setBit_staged (d : Dev) (o i : Nat) (b : Bool) : (d.setBit o i b).staged = d.staged := rfl
@[simp] theorem Dev.setBit_recSeq (d : Dev) (o i : Nat) (b : Bool) : (d.setBit o i b).recSeq = d.recSeq := rfl
@[simp] theorem Dev.setBit_lay (d : Dev) (o i : Nat) (b : Bool) : (d.setBit o i b).lay = d.lay := rfl
@[simp] theorem Dev.setBit_grids (d : Dev) (o i : Nat) (b : Bool) : (d.setBit o i b).grids = d.grids := rfl
@[simp] theorem Dev.setBit_resids (d : Dev) (o i : Nat) (b : Bool) : (d.setBit o i b).resids = d.resids := rfl
@[simp] theorem Dev.setBit_flt (d : Dev) (o i : Nat) (b : Bool) : (d.setBit o i b).flt = d.flt := rfl
@[simp] theorem Dev.setBit_rails (d : Dev) (o i : Nat) (b : Bool) : (d.setBit o i b).rails = d.rails := rfl
@[simp] theorem Dev.setBit_bist (d : Dev) (o i : Nat) (b : Bool) : (d.setBit o i b).bist = d.bist := rfl
@[simp] theorem Dev.setBit_engines (d : Dev) (o i : Nat) (b : Bool) : (d.setBit o i b).engines = d.engines := rfl
@[simp] theorem Dev.setBit_keeper (d : Dev) (o i : Nat) (b : Bool) : (d.setBit o i b).keeper = d.keeper := rfl
@[simp] theorem Dev.setBit_replay (d : Dev) (o i : Nat) (b : Bool) : (d.setBit o i b).replay = d.replay := rfl
@[simp] theorem Dev.setBit_ldg (d : Dev) (o i : Nat) (b : Bool) : (d.setBit o i b).ldg = d.ldg := rfl
@[simp] theorem Dev.setBit_feats (d : Dev) (o i : Nat) (b : Bool) : (d.setBit o i b).feats = d.feats := rfl
@[simp] theorem Dev.setBit_profiles (d : Dev) (o i : Nat) (b : Bool) : (d.setBit o i b).profiles = d.profiles := rfl
@[simp] theorem Dev.setBit_cals (d : Dev) (o i : Nat) (b : Bool) : (d.setBit o i b).cals = d.cals := rfl
@[simp] theorem Dev.setBit_probes (d : Dev) (o i : Nat) (b : Bool) : (d.setBit o i b).probes = d.probes := rfl
@[simp] theorem Dev.setBit_calWait (d : Dev) (o i : Nat) (b : Bool) : (d.setBit o i b).calWait = d.calWait := rfl
@[simp] theorem Dev.setBit_scn (d : Dev) (o i : Nat) (b : Bool) : (d.setBit o i b).scn = d.scn := rfl
@[simp] theorem Dev.setBit_vis (d : Dev) (o i : Nat) (b : Bool) : (d.setBit o i b).vis = d.vis := rfl
@[simp] theorem Dev.setBit_dram (d : Dev) (o i : Nat) (b : Bool) : (d.setBit o i b).dram = d.dram := rfl
@[simp] theorem Dev.setBit_time (d : Dev) (o i : Nat) (b : Bool) : (d.setBit o i b).time = d.time := rfl
@[simp] theorem Dev.setBit_byf (d : Dev) (o i : Nat) (b : Bool) : (d.setBit o i b).byf = d.byf := rfl
@[simp] theorem Dev.setBit_mot (d : Dev) (o i : Nat) (b : Bool) : (d.setBit o i b).mot = d.mot := rfl
@[simp] theorem Dev.setBit_ill (d : Dev) (o i : Nat) (b : Bool) : (d.setBit o i b).ill = d.ill := rfl
@[simp] theorem Dev.setBit_trim (d : Dev) (o i : Nat) (b : Bool) : (d.setBit o i b).trim = d.trim := rfl
@[simp] theorem Dev.setBit_gridCommits (d : Dev) (o i : Nat) (b : Bool) : (d.setBit o i b).gridCommits = d.gridCommits := rfl
@[simp] theorem Dev.setBit_recoated (d : Dev) (o i : Nat) (b : Bool) : (d.setBit o i b).recoated = d.recoated := rfl
@[simp] theorem Dev.setBit_members (d : Dev) (o i : Nat) (b : Bool) : (d.setBit o i b).members = d.members := rfl
@[simp] theorem Dev.setBit_out (d : Dev) (o i : Nat) (b : Bool) : (d.setBit o i b).out = d.out := rfl
@[simp] theorem Dev.setBit_freeCtr (d : Dev) (o i : Nat) (b : Bool) : (d.setBit o i b).freeCtr = d.freeCtr := rfl

/-! ## wrN -/

@[simp] theorem Dev.wrN_variant (d : Dev) (o v : Nat) : (d.wrN o v).variant = d.variant := rfl
@[simp] theorem Dev.wrN_devId (d : Dev) (o v : Nat) : (d.wrN o v).devId = d.devId := rfl
@[simp] theorem Dev.wrN_copies (d : Dev) (o v : Nat) : (d.wrN o v).copies = d.copies := rfl
@[simp] theorem Dev.wrN_tb0 (d : Dev) (o v : Nat) : (d.wrN o v).tb0 = d.tb0 := rfl
@[simp] theorem Dev.wrN_tb3 (d : Dev) (o v : Nat) : (d.wrN o v).tb3 = d.tb3 := rfl
@[simp] theorem Dev.wrN_mode (d : Dev) (o v : Nat) : (d.wrN o v).mode = d.mode := rfl
@[simp] theorem Dev.wrN_rings (d : Dev) (o v : Nat) : (d.wrN o v).rings = d.rings := rfl
@[simp] theorem Dev.wrN_hif (d : Dev) (o v : Nat) : (d.wrN o v).hif = d.hif := rfl
@[simp] theorem Dev.wrN_rcd (d : Dev) (o v : Nat) : (d.wrN o v).rcd = d.rcd := rfl
@[simp] theorem Dev.wrN_life (d : Dev) (o v : Nat) : (d.wrN o v).life = d.life := rfl
@[simp] theorem Dev.wrN_woram (d : Dev) (o v : Nat) : (d.wrN o v).woram = d.woram := rfl
@[simp] theorem Dev.wrN_closing (d : Dev) (o v : Nat) : (d.wrN o v).closing = d.closing := rfl
@[simp] theorem Dev.wrN_staged (d : Dev) (o v : Nat) : (d.wrN o v).staged = d.staged := rfl
@[simp] theorem Dev.wrN_recSeq (d : Dev) (o v : Nat) : (d.wrN o v).recSeq = d.recSeq := rfl
@[simp] theorem Dev.wrN_lay (d : Dev) (o v : Nat) : (d.wrN o v).lay = d.lay := rfl
@[simp] theorem Dev.wrN_grids (d : Dev) (o v : Nat) : (d.wrN o v).grids = d.grids := rfl
@[simp] theorem Dev.wrN_resids (d : Dev) (o v : Nat) : (d.wrN o v).resids = d.resids := rfl
@[simp] theorem Dev.wrN_flt (d : Dev) (o v : Nat) : (d.wrN o v).flt = d.flt := rfl
@[simp] theorem Dev.wrN_rails (d : Dev) (o v : Nat) : (d.wrN o v).rails = d.rails := rfl
@[simp] theorem Dev.wrN_bist (d : Dev) (o v : Nat) : (d.wrN o v).bist = d.bist := rfl
@[simp] theorem Dev.wrN_engines (d : Dev) (o v : Nat) : (d.wrN o v).engines = d.engines := rfl
@[simp] theorem Dev.wrN_keeper (d : Dev) (o v : Nat) : (d.wrN o v).keeper = d.keeper := rfl
@[simp] theorem Dev.wrN_replay (d : Dev) (o v : Nat) : (d.wrN o v).replay = d.replay := rfl
@[simp] theorem Dev.wrN_ldg (d : Dev) (o v : Nat) : (d.wrN o v).ldg = d.ldg := rfl
@[simp] theorem Dev.wrN_feats (d : Dev) (o v : Nat) : (d.wrN o v).feats = d.feats := rfl
@[simp] theorem Dev.wrN_profiles (d : Dev) (o v : Nat) : (d.wrN o v).profiles = d.profiles := rfl
@[simp] theorem Dev.wrN_cals (d : Dev) (o v : Nat) : (d.wrN o v).cals = d.cals := rfl
@[simp] theorem Dev.wrN_probes (d : Dev) (o v : Nat) : (d.wrN o v).probes = d.probes := rfl
@[simp] theorem Dev.wrN_calWait (d : Dev) (o v : Nat) : (d.wrN o v).calWait = d.calWait := rfl
@[simp] theorem Dev.wrN_scn (d : Dev) (o v : Nat) : (d.wrN o v).scn = d.scn := rfl
@[simp] theorem Dev.wrN_vis (d : Dev) (o v : Nat) : (d.wrN o v).vis = d.vis := rfl
@[simp] theorem Dev.wrN_dram (d : Dev) (o v : Nat) : (d.wrN o v).dram = d.dram := rfl
@[simp] theorem Dev.wrN_time (d : Dev) (o v : Nat) : (d.wrN o v).time = d.time := rfl
@[simp] theorem Dev.wrN_byf (d : Dev) (o v : Nat) : (d.wrN o v).byf = d.byf := rfl
@[simp] theorem Dev.wrN_mot (d : Dev) (o v : Nat) : (d.wrN o v).mot = d.mot := rfl
@[simp] theorem Dev.wrN_ill (d : Dev) (o v : Nat) : (d.wrN o v).ill = d.ill := rfl
@[simp] theorem Dev.wrN_trim (d : Dev) (o v : Nat) : (d.wrN o v).trim = d.trim := rfl
@[simp] theorem Dev.wrN_gridCommits (d : Dev) (o v : Nat) : (d.wrN o v).gridCommits = d.gridCommits := rfl
@[simp] theorem Dev.wrN_recoated (d : Dev) (o v : Nat) : (d.wrN o v).recoated = d.recoated := rfl
@[simp] theorem Dev.wrN_members (d : Dev) (o v : Nat) : (d.wrN o v).members = d.members := rfl
@[simp] theorem Dev.wrN_out (d : Dev) (o v : Nat) : (d.wrN o v).out = d.out := rfl
@[simp] theorem Dev.wrN_freeCtr (d : Dev) (o v : Nat) : (d.wrN o v).freeCtr = d.freeCtr := rfl

/-! ## wr64 -/

@[simp] theorem Dev.wr64_variant (d : Dev) (lo hi v : Nat) : (d.wr64 lo hi v).variant = d.variant := rfl
@[simp] theorem Dev.wr64_devId (d : Dev) (lo hi v : Nat) : (d.wr64 lo hi v).devId = d.devId := rfl
@[simp] theorem Dev.wr64_copies (d : Dev) (lo hi v : Nat) : (d.wr64 lo hi v).copies = d.copies := rfl
@[simp] theorem Dev.wr64_tb0 (d : Dev) (lo hi v : Nat) : (d.wr64 lo hi v).tb0 = d.tb0 := rfl
@[simp] theorem Dev.wr64_tb3 (d : Dev) (lo hi v : Nat) : (d.wr64 lo hi v).tb3 = d.tb3 := rfl
@[simp] theorem Dev.wr64_mode (d : Dev) (lo hi v : Nat) : (d.wr64 lo hi v).mode = d.mode := rfl
@[simp] theorem Dev.wr64_rings (d : Dev) (lo hi v : Nat) : (d.wr64 lo hi v).rings = d.rings := rfl
@[simp] theorem Dev.wr64_hif (d : Dev) (lo hi v : Nat) : (d.wr64 lo hi v).hif = d.hif := rfl
@[simp] theorem Dev.wr64_rcd (d : Dev) (lo hi v : Nat) : (d.wr64 lo hi v).rcd = d.rcd := rfl
@[simp] theorem Dev.wr64_life (d : Dev) (lo hi v : Nat) : (d.wr64 lo hi v).life = d.life := rfl
@[simp] theorem Dev.wr64_woram (d : Dev) (lo hi v : Nat) : (d.wr64 lo hi v).woram = d.woram := rfl
@[simp] theorem Dev.wr64_closing (d : Dev) (lo hi v : Nat) : (d.wr64 lo hi v).closing = d.closing := rfl
@[simp] theorem Dev.wr64_staged (d : Dev) (lo hi v : Nat) : (d.wr64 lo hi v).staged = d.staged := rfl
@[simp] theorem Dev.wr64_recSeq (d : Dev) (lo hi v : Nat) : (d.wr64 lo hi v).recSeq = d.recSeq := rfl
@[simp] theorem Dev.wr64_lay (d : Dev) (lo hi v : Nat) : (d.wr64 lo hi v).lay = d.lay := rfl
@[simp] theorem Dev.wr64_grids (d : Dev) (lo hi v : Nat) : (d.wr64 lo hi v).grids = d.grids := rfl
@[simp] theorem Dev.wr64_resids (d : Dev) (lo hi v : Nat) : (d.wr64 lo hi v).resids = d.resids := rfl
@[simp] theorem Dev.wr64_flt (d : Dev) (lo hi v : Nat) : (d.wr64 lo hi v).flt = d.flt := rfl
@[simp] theorem Dev.wr64_rails (d : Dev) (lo hi v : Nat) : (d.wr64 lo hi v).rails = d.rails := rfl
@[simp] theorem Dev.wr64_bist (d : Dev) (lo hi v : Nat) : (d.wr64 lo hi v).bist = d.bist := rfl
@[simp] theorem Dev.wr64_engines (d : Dev) (lo hi v : Nat) : (d.wr64 lo hi v).engines = d.engines := rfl
@[simp] theorem Dev.wr64_keeper (d : Dev) (lo hi v : Nat) : (d.wr64 lo hi v).keeper = d.keeper := rfl
@[simp] theorem Dev.wr64_replay (d : Dev) (lo hi v : Nat) : (d.wr64 lo hi v).replay = d.replay := rfl
@[simp] theorem Dev.wr64_ldg (d : Dev) (lo hi v : Nat) : (d.wr64 lo hi v).ldg = d.ldg := rfl
@[simp] theorem Dev.wr64_feats (d : Dev) (lo hi v : Nat) : (d.wr64 lo hi v).feats = d.feats := rfl
@[simp] theorem Dev.wr64_profiles (d : Dev) (lo hi v : Nat) : (d.wr64 lo hi v).profiles = d.profiles := rfl
@[simp] theorem Dev.wr64_cals (d : Dev) (lo hi v : Nat) : (d.wr64 lo hi v).cals = d.cals := rfl
@[simp] theorem Dev.wr64_probes (d : Dev) (lo hi v : Nat) : (d.wr64 lo hi v).probes = d.probes := rfl
@[simp] theorem Dev.wr64_calWait (d : Dev) (lo hi v : Nat) : (d.wr64 lo hi v).calWait = d.calWait := rfl
@[simp] theorem Dev.wr64_scn (d : Dev) (lo hi v : Nat) : (d.wr64 lo hi v).scn = d.scn := rfl
@[simp] theorem Dev.wr64_vis (d : Dev) (lo hi v : Nat) : (d.wr64 lo hi v).vis = d.vis := rfl
@[simp] theorem Dev.wr64_dram (d : Dev) (lo hi v : Nat) : (d.wr64 lo hi v).dram = d.dram := rfl
@[simp] theorem Dev.wr64_time (d : Dev) (lo hi v : Nat) : (d.wr64 lo hi v).time = d.time := rfl
@[simp] theorem Dev.wr64_byf (d : Dev) (lo hi v : Nat) : (d.wr64 lo hi v).byf = d.byf := rfl
@[simp] theorem Dev.wr64_mot (d : Dev) (lo hi v : Nat) : (d.wr64 lo hi v).mot = d.mot := rfl
@[simp] theorem Dev.wr64_ill (d : Dev) (lo hi v : Nat) : (d.wr64 lo hi v).ill = d.ill := rfl
@[simp] theorem Dev.wr64_trim (d : Dev) (lo hi v : Nat) : (d.wr64 lo hi v).trim = d.trim := rfl
@[simp] theorem Dev.wr64_gridCommits (d : Dev) (lo hi v : Nat) : (d.wr64 lo hi v).gridCommits = d.gridCommits := rfl
@[simp] theorem Dev.wr64_recoated (d : Dev) (lo hi v : Nat) : (d.wr64 lo hi v).recoated = d.recoated := rfl
@[simp] theorem Dev.wr64_members (d : Dev) (lo hi v : Nat) : (d.wr64 lo hi v).members = d.members := rfl
@[simp] theorem Dev.wr64_out (d : Dev) (lo hi v : Nat) : (d.wr64 lo hi v).out = d.out := rfl
@[simp] theorem Dev.wr64_freeCtr (d : Dev) (lo hi v : Nat) : (d.wr64 lo hi v).freeCtr = d.freeCtr := rfl

/-! ## count -/

@[simp] theorem Dev.count_variant (d : Dev) (o k : Nat) : (d.count o k).variant = d.variant := rfl
@[simp] theorem Dev.count_devId (d : Dev) (o k : Nat) : (d.count o k).devId = d.devId := rfl
@[simp] theorem Dev.count_copies (d : Dev) (o k : Nat) : (d.count o k).copies = d.copies := rfl
@[simp] theorem Dev.count_tb0 (d : Dev) (o k : Nat) : (d.count o k).tb0 = d.tb0 := rfl
@[simp] theorem Dev.count_tb3 (d : Dev) (o k : Nat) : (d.count o k).tb3 = d.tb3 := rfl
@[simp] theorem Dev.count_mode (d : Dev) (o k : Nat) : (d.count o k).mode = d.mode := rfl
@[simp] theorem Dev.count_rings (d : Dev) (o k : Nat) : (d.count o k).rings = d.rings := rfl
@[simp] theorem Dev.count_hif (d : Dev) (o k : Nat) : (d.count o k).hif = d.hif := rfl
@[simp] theorem Dev.count_rcd (d : Dev) (o k : Nat) : (d.count o k).rcd = d.rcd := rfl
@[simp] theorem Dev.count_life (d : Dev) (o k : Nat) : (d.count o k).life = d.life := rfl
@[simp] theorem Dev.count_woram (d : Dev) (o k : Nat) : (d.count o k).woram = d.woram := rfl
@[simp] theorem Dev.count_closing (d : Dev) (o k : Nat) : (d.count o k).closing = d.closing := rfl
@[simp] theorem Dev.count_staged (d : Dev) (o k : Nat) : (d.count o k).staged = d.staged := rfl
@[simp] theorem Dev.count_recSeq (d : Dev) (o k : Nat) : (d.count o k).recSeq = d.recSeq := rfl
@[simp] theorem Dev.count_lay (d : Dev) (o k : Nat) : (d.count o k).lay = d.lay := rfl
@[simp] theorem Dev.count_grids (d : Dev) (o k : Nat) : (d.count o k).grids = d.grids := rfl
@[simp] theorem Dev.count_resids (d : Dev) (o k : Nat) : (d.count o k).resids = d.resids := rfl
@[simp] theorem Dev.count_flt (d : Dev) (o k : Nat) : (d.count o k).flt = d.flt := rfl
@[simp] theorem Dev.count_rails (d : Dev) (o k : Nat) : (d.count o k).rails = d.rails := rfl
@[simp] theorem Dev.count_bist (d : Dev) (o k : Nat) : (d.count o k).bist = d.bist := rfl
@[simp] theorem Dev.count_engines (d : Dev) (o k : Nat) : (d.count o k).engines = d.engines := rfl
@[simp] theorem Dev.count_keeper (d : Dev) (o k : Nat) : (d.count o k).keeper = d.keeper := rfl
@[simp] theorem Dev.count_replay (d : Dev) (o k : Nat) : (d.count o k).replay = d.replay := rfl
@[simp] theorem Dev.count_ldg (d : Dev) (o k : Nat) : (d.count o k).ldg = d.ldg := rfl
@[simp] theorem Dev.count_feats (d : Dev) (o k : Nat) : (d.count o k).feats = d.feats := rfl
@[simp] theorem Dev.count_profiles (d : Dev) (o k : Nat) : (d.count o k).profiles = d.profiles := rfl
@[simp] theorem Dev.count_cals (d : Dev) (o k : Nat) : (d.count o k).cals = d.cals := rfl
@[simp] theorem Dev.count_probes (d : Dev) (o k : Nat) : (d.count o k).probes = d.probes := rfl
@[simp] theorem Dev.count_calWait (d : Dev) (o k : Nat) : (d.count o k).calWait = d.calWait := rfl
@[simp] theorem Dev.count_scn (d : Dev) (o k : Nat) : (d.count o k).scn = d.scn := rfl
@[simp] theorem Dev.count_vis (d : Dev) (o k : Nat) : (d.count o k).vis = d.vis := rfl
@[simp] theorem Dev.count_dram (d : Dev) (o k : Nat) : (d.count o k).dram = d.dram := rfl
@[simp] theorem Dev.count_time (d : Dev) (o k : Nat) : (d.count o k).time = d.time := rfl
@[simp] theorem Dev.count_byf (d : Dev) (o k : Nat) : (d.count o k).byf = d.byf := rfl
@[simp] theorem Dev.count_mot (d : Dev) (o k : Nat) : (d.count o k).mot = d.mot := rfl
@[simp] theorem Dev.count_ill (d : Dev) (o k : Nat) : (d.count o k).ill = d.ill := rfl
@[simp] theorem Dev.count_trim (d : Dev) (o k : Nat) : (d.count o k).trim = d.trim := rfl
@[simp] theorem Dev.count_gridCommits (d : Dev) (o k : Nat) : (d.count o k).gridCommits = d.gridCommits := rfl
@[simp] theorem Dev.count_recoated (d : Dev) (o k : Nat) : (d.count o k).recoated = d.recoated := rfl
@[simp] theorem Dev.count_members (d : Dev) (o k : Nat) : (d.count o k).members = d.members := rfl
@[simp] theorem Dev.count_out (d : Dev) (o k : Nat) : (d.count o k).out = d.out := rfl
@[simp] theorem Dev.count_freeCtr (d : Dev) (o k : Nat) : (d.count o k).freeCtr = d.freeCtr := rfl

/-! ## send -/

@[simp] theorem Dev.send_variant (d : Dev) (x : Output) : (d.send x).variant = d.variant := rfl
@[simp] theorem Dev.send_devId (d : Dev) (x : Output) : (d.send x).devId = d.devId := rfl
@[simp] theorem Dev.send_regs (d : Dev) (x : Output) : (d.send x).regs = d.regs := rfl
@[simp] theorem Dev.send_copies (d : Dev) (x : Output) : (d.send x).copies = d.copies := rfl
@[simp] theorem Dev.send_tb0 (d : Dev) (x : Output) : (d.send x).tb0 = d.tb0 := rfl
@[simp] theorem Dev.send_tb3 (d : Dev) (x : Output) : (d.send x).tb3 = d.tb3 := rfl
@[simp] theorem Dev.send_mode (d : Dev) (x : Output) : (d.send x).mode = d.mode := rfl
@[simp] theorem Dev.send_rings (d : Dev) (x : Output) : (d.send x).rings = d.rings := rfl
@[simp] theorem Dev.send_hif (d : Dev) (x : Output) : (d.send x).hif = d.hif := rfl
@[simp] theorem Dev.send_rcd (d : Dev) (x : Output) : (d.send x).rcd = d.rcd := rfl
@[simp] theorem Dev.send_life (d : Dev) (x : Output) : (d.send x).life = d.life := rfl
@[simp] theorem Dev.send_woram (d : Dev) (x : Output) : (d.send x).woram = d.woram := rfl
@[simp] theorem Dev.send_closing (d : Dev) (x : Output) : (d.send x).closing = d.closing := rfl
@[simp] theorem Dev.send_staged (d : Dev) (x : Output) : (d.send x).staged = d.staged := rfl
@[simp] theorem Dev.send_recSeq (d : Dev) (x : Output) : (d.send x).recSeq = d.recSeq := rfl
@[simp] theorem Dev.send_lay (d : Dev) (x : Output) : (d.send x).lay = d.lay := rfl
@[simp] theorem Dev.send_grids (d : Dev) (x : Output) : (d.send x).grids = d.grids := rfl
@[simp] theorem Dev.send_resids (d : Dev) (x : Output) : (d.send x).resids = d.resids := rfl
@[simp] theorem Dev.send_flt (d : Dev) (x : Output) : (d.send x).flt = d.flt := rfl
@[simp] theorem Dev.send_rails (d : Dev) (x : Output) : (d.send x).rails = d.rails := rfl
@[simp] theorem Dev.send_bist (d : Dev) (x : Output) : (d.send x).bist = d.bist := rfl
@[simp] theorem Dev.send_engines (d : Dev) (x : Output) : (d.send x).engines = d.engines := rfl
@[simp] theorem Dev.send_keeper (d : Dev) (x : Output) : (d.send x).keeper = d.keeper := rfl
@[simp] theorem Dev.send_replay (d : Dev) (x : Output) : (d.send x).replay = d.replay := rfl
@[simp] theorem Dev.send_ldg (d : Dev) (x : Output) : (d.send x).ldg = d.ldg := rfl
@[simp] theorem Dev.send_feats (d : Dev) (x : Output) : (d.send x).feats = d.feats := rfl
@[simp] theorem Dev.send_profiles (d : Dev) (x : Output) : (d.send x).profiles = d.profiles := rfl
@[simp] theorem Dev.send_cals (d : Dev) (x : Output) : (d.send x).cals = d.cals := rfl
@[simp] theorem Dev.send_probes (d : Dev) (x : Output) : (d.send x).probes = d.probes := rfl
@[simp] theorem Dev.send_calWait (d : Dev) (x : Output) : (d.send x).calWait = d.calWait := rfl
@[simp] theorem Dev.send_scn (d : Dev) (x : Output) : (d.send x).scn = d.scn := rfl
@[simp] theorem Dev.send_vis (d : Dev) (x : Output) : (d.send x).vis = d.vis := rfl
@[simp] theorem Dev.send_dram (d : Dev) (x : Output) : (d.send x).dram = d.dram := rfl
@[simp] theorem Dev.send_time (d : Dev) (x : Output) : (d.send x).time = d.time := rfl
@[simp] theorem Dev.send_byf (d : Dev) (x : Output) : (d.send x).byf = d.byf := rfl
@[simp] theorem Dev.send_mot (d : Dev) (x : Output) : (d.send x).mot = d.mot := rfl
@[simp] theorem Dev.send_ill (d : Dev) (x : Output) : (d.send x).ill = d.ill := rfl
@[simp] theorem Dev.send_trim (d : Dev) (x : Output) : (d.send x).trim = d.trim := rfl
@[simp] theorem Dev.send_gridCommits (d : Dev) (x : Output) : (d.send x).gridCommits = d.gridCommits := rfl
@[simp] theorem Dev.send_recoated (d : Dev) (x : Output) : (d.send x).recoated = d.recoated := rfl
@[simp] theorem Dev.send_members (d : Dev) (x : Output) : (d.send x).members = d.members := rfl
@[simp] theorem Dev.send_freeCtr (d : Dev) (x : Output) : (d.send x).freeCtr = d.freeCtr := rfl
@[simp] theorem Dev.send_rd (d : Dev) (x : Output) (off : Nat) : (d.send x).rd off = d.rd off := rfl

/-! ## modRing -/

@[simp] theorem Dev.modRing_variant (d : Dev) (n : Nat) (f : Ring → Ring) : (d.modRing n f).variant = d.variant := rfl
@[simp] theorem Dev.modRing_devId (d : Dev) (n : Nat) (f : Ring → Ring) : (d.modRing n f).devId = d.devId := rfl
@[simp] theorem Dev.modRing_regs (d : Dev) (n : Nat) (f : Ring → Ring) : (d.modRing n f).regs = d.regs := rfl
@[simp] theorem Dev.modRing_copies (d : Dev) (n : Nat) (f : Ring → Ring) : (d.modRing n f).copies = d.copies := rfl
@[simp] theorem Dev.modRing_tb0 (d : Dev) (n : Nat) (f : Ring → Ring) : (d.modRing n f).tb0 = d.tb0 := rfl
@[simp] theorem Dev.modRing_tb3 (d : Dev) (n : Nat) (f : Ring → Ring) : (d.modRing n f).tb3 = d.tb3 := rfl
@[simp] theorem Dev.modRing_mode (d : Dev) (n : Nat) (f : Ring → Ring) : (d.modRing n f).mode = d.mode := rfl
@[simp] theorem Dev.modRing_hif (d : Dev) (n : Nat) (f : Ring → Ring) : (d.modRing n f).hif = d.hif := rfl
@[simp] theorem Dev.modRing_rcd (d : Dev) (n : Nat) (f : Ring → Ring) : (d.modRing n f).rcd = d.rcd := rfl
@[simp] theorem Dev.modRing_life (d : Dev) (n : Nat) (f : Ring → Ring) : (d.modRing n f).life = d.life := rfl
@[simp] theorem Dev.modRing_woram (d : Dev) (n : Nat) (f : Ring → Ring) : (d.modRing n f).woram = d.woram := rfl
@[simp] theorem Dev.modRing_closing (d : Dev) (n : Nat) (f : Ring → Ring) : (d.modRing n f).closing = d.closing := rfl
@[simp] theorem Dev.modRing_staged (d : Dev) (n : Nat) (f : Ring → Ring) : (d.modRing n f).staged = d.staged := rfl
@[simp] theorem Dev.modRing_recSeq (d : Dev) (n : Nat) (f : Ring → Ring) : (d.modRing n f).recSeq = d.recSeq := rfl
@[simp] theorem Dev.modRing_lay (d : Dev) (n : Nat) (f : Ring → Ring) : (d.modRing n f).lay = d.lay := rfl
@[simp] theorem Dev.modRing_grids (d : Dev) (n : Nat) (f : Ring → Ring) : (d.modRing n f).grids = d.grids := rfl
@[simp] theorem Dev.modRing_resids (d : Dev) (n : Nat) (f : Ring → Ring) : (d.modRing n f).resids = d.resids := rfl
@[simp] theorem Dev.modRing_flt (d : Dev) (n : Nat) (f : Ring → Ring) : (d.modRing n f).flt = d.flt := rfl
@[simp] theorem Dev.modRing_rails (d : Dev) (n : Nat) (f : Ring → Ring) : (d.modRing n f).rails = d.rails := rfl
@[simp] theorem Dev.modRing_bist (d : Dev) (n : Nat) (f : Ring → Ring) : (d.modRing n f).bist = d.bist := rfl
@[simp] theorem Dev.modRing_engines (d : Dev) (n : Nat) (f : Ring → Ring) : (d.modRing n f).engines = d.engines := rfl
@[simp] theorem Dev.modRing_keeper (d : Dev) (n : Nat) (f : Ring → Ring) : (d.modRing n f).keeper = d.keeper := rfl
@[simp] theorem Dev.modRing_replay (d : Dev) (n : Nat) (f : Ring → Ring) : (d.modRing n f).replay = d.replay := rfl
@[simp] theorem Dev.modRing_ldg (d : Dev) (n : Nat) (f : Ring → Ring) : (d.modRing n f).ldg = d.ldg := rfl
@[simp] theorem Dev.modRing_feats (d : Dev) (n : Nat) (f : Ring → Ring) : (d.modRing n f).feats = d.feats := rfl
@[simp] theorem Dev.modRing_profiles (d : Dev) (n : Nat) (f : Ring → Ring) : (d.modRing n f).profiles = d.profiles := rfl
@[simp] theorem Dev.modRing_cals (d : Dev) (n : Nat) (f : Ring → Ring) : (d.modRing n f).cals = d.cals := rfl
@[simp] theorem Dev.modRing_probes (d : Dev) (n : Nat) (f : Ring → Ring) : (d.modRing n f).probes = d.probes := rfl
@[simp] theorem Dev.modRing_calWait (d : Dev) (n : Nat) (f : Ring → Ring) : (d.modRing n f).calWait = d.calWait := rfl
@[simp] theorem Dev.modRing_scn (d : Dev) (n : Nat) (f : Ring → Ring) : (d.modRing n f).scn = d.scn := rfl
@[simp] theorem Dev.modRing_vis (d : Dev) (n : Nat) (f : Ring → Ring) : (d.modRing n f).vis = d.vis := rfl
@[simp] theorem Dev.modRing_dram (d : Dev) (n : Nat) (f : Ring → Ring) : (d.modRing n f).dram = d.dram := rfl
@[simp] theorem Dev.modRing_time (d : Dev) (n : Nat) (f : Ring → Ring) : (d.modRing n f).time = d.time := rfl
@[simp] theorem Dev.modRing_byf (d : Dev) (n : Nat) (f : Ring → Ring) : (d.modRing n f).byf = d.byf := rfl
@[simp] theorem Dev.modRing_mot (d : Dev) (n : Nat) (f : Ring → Ring) : (d.modRing n f).mot = d.mot := rfl
@[simp] theorem Dev.modRing_ill (d : Dev) (n : Nat) (f : Ring → Ring) : (d.modRing n f).ill = d.ill := rfl
@[simp] theorem Dev.modRing_trim (d : Dev) (n : Nat) (f : Ring → Ring) : (d.modRing n f).trim = d.trim := rfl
@[simp] theorem Dev.modRing_gridCommits (d : Dev) (n : Nat) (f : Ring → Ring) : (d.modRing n f).gridCommits = d.gridCommits := rfl
@[simp] theorem Dev.modRing_recoated (d : Dev) (n : Nat) (f : Ring → Ring) : (d.modRing n f).recoated = d.recoated := rfl
@[simp] theorem Dev.modRing_members (d : Dev) (n : Nat) (f : Ring → Ring) : (d.modRing n f).members = d.members := rfl
@[simp] theorem Dev.modRing_out (d : Dev) (n : Nat) (f : Ring → Ring) : (d.modRing n f).out = d.out := rfl
@[simp] theorem Dev.modRing_freeCtr (d : Dev) (n : Nat) (f : Ring → Ring) : (d.modRing n f).freeCtr = d.freeCtr := rfl
@[simp] theorem Dev.modRing_rd (d : Dev) (n : Nat) (f : Ring → Ring) (off : Nat) : (d.modRing n f).rd off = d.rd off := rfl

/-! ## queueEvent -/

@[simp] theorem Dev.queueEvent_variant (d : Dev) (e : Event) : (d.queueEvent e).variant = d.variant := rfl
@[simp] theorem Dev.queueEvent_devId (d : Dev) (e : Event) : (d.queueEvent e).devId = d.devId := rfl
@[simp] theorem Dev.queueEvent_regs (d : Dev) (e : Event) : (d.queueEvent e).regs = d.regs := rfl
@[simp] theorem Dev.queueEvent_copies (d : Dev) (e : Event) : (d.queueEvent e).copies = d.copies := rfl
@[simp] theorem Dev.queueEvent_tb0 (d : Dev) (e : Event) : (d.queueEvent e).tb0 = d.tb0 := rfl
@[simp] theorem Dev.queueEvent_tb3 (d : Dev) (e : Event) : (d.queueEvent e).tb3 = d.tb3 := rfl
@[simp] theorem Dev.queueEvent_mode (d : Dev) (e : Event) : (d.queueEvent e).mode = d.mode := rfl
@[simp] theorem Dev.queueEvent_rings (d : Dev) (e : Event) : (d.queueEvent e).rings = d.rings := rfl
@[simp] theorem Dev.queueEvent_hif (d : Dev) (e : Event) : (d.queueEvent e).hif = d.hif := rfl
@[simp] theorem Dev.queueEvent_life (d : Dev) (e : Event) : (d.queueEvent e).life = d.life := rfl
@[simp] theorem Dev.queueEvent_woram (d : Dev) (e : Event) : (d.queueEvent e).woram = d.woram := rfl
@[simp] theorem Dev.queueEvent_closing (d : Dev) (e : Event) : (d.queueEvent e).closing = d.closing := rfl
@[simp] theorem Dev.queueEvent_staged (d : Dev) (e : Event) : (d.queueEvent e).staged = d.staged := rfl
@[simp] theorem Dev.queueEvent_recSeq (d : Dev) (e : Event) : (d.queueEvent e).recSeq = d.recSeq := rfl
@[simp] theorem Dev.queueEvent_lay (d : Dev) (e : Event) : (d.queueEvent e).lay = d.lay := rfl
@[simp] theorem Dev.queueEvent_grids (d : Dev) (e : Event) : (d.queueEvent e).grids = d.grids := rfl
@[simp] theorem Dev.queueEvent_resids (d : Dev) (e : Event) : (d.queueEvent e).resids = d.resids := rfl
@[simp] theorem Dev.queueEvent_flt (d : Dev) (e : Event) : (d.queueEvent e).flt = d.flt := rfl
@[simp] theorem Dev.queueEvent_rails (d : Dev) (e : Event) : (d.queueEvent e).rails = d.rails := rfl
@[simp] theorem Dev.queueEvent_bist (d : Dev) (e : Event) : (d.queueEvent e).bist = d.bist := rfl
@[simp] theorem Dev.queueEvent_engines (d : Dev) (e : Event) : (d.queueEvent e).engines = d.engines := rfl
@[simp] theorem Dev.queueEvent_keeper (d : Dev) (e : Event) : (d.queueEvent e).keeper = d.keeper := rfl
@[simp] theorem Dev.queueEvent_replay (d : Dev) (e : Event) : (d.queueEvent e).replay = d.replay := rfl
@[simp] theorem Dev.queueEvent_ldg (d : Dev) (e : Event) : (d.queueEvent e).ldg = d.ldg := rfl
@[simp] theorem Dev.queueEvent_feats (d : Dev) (e : Event) : (d.queueEvent e).feats = d.feats := rfl
@[simp] theorem Dev.queueEvent_profiles (d : Dev) (e : Event) : (d.queueEvent e).profiles = d.profiles := rfl
@[simp] theorem Dev.queueEvent_cals (d : Dev) (e : Event) : (d.queueEvent e).cals = d.cals := rfl
@[simp] theorem Dev.queueEvent_probes (d : Dev) (e : Event) : (d.queueEvent e).probes = d.probes := rfl
@[simp] theorem Dev.queueEvent_calWait (d : Dev) (e : Event) : (d.queueEvent e).calWait = d.calWait := rfl
@[simp] theorem Dev.queueEvent_scn (d : Dev) (e : Event) : (d.queueEvent e).scn = d.scn := rfl
@[simp] theorem Dev.queueEvent_vis (d : Dev) (e : Event) : (d.queueEvent e).vis = d.vis := rfl
@[simp] theorem Dev.queueEvent_dram (d : Dev) (e : Event) : (d.queueEvent e).dram = d.dram := rfl
@[simp] theorem Dev.queueEvent_time (d : Dev) (e : Event) : (d.queueEvent e).time = d.time := rfl
@[simp] theorem Dev.queueEvent_byf (d : Dev) (e : Event) : (d.queueEvent e).byf = d.byf := rfl
@[simp] theorem Dev.queueEvent_mot (d : Dev) (e : Event) : (d.queueEvent e).mot = d.mot := rfl
@[simp] theorem Dev.queueEvent_ill (d : Dev) (e : Event) : (d.queueEvent e).ill = d.ill := rfl
@[simp] theorem Dev.queueEvent_trim (d : Dev) (e : Event) : (d.queueEvent e).trim = d.trim := rfl
@[simp] theorem Dev.queueEvent_gridCommits (d : Dev) (e : Event) : (d.queueEvent e).gridCommits = d.gridCommits := rfl
@[simp] theorem Dev.queueEvent_recoated (d : Dev) (e : Event) : (d.queueEvent e).recoated = d.recoated := rfl
@[simp] theorem Dev.queueEvent_members (d : Dev) (e : Event) : (d.queueEvent e).members = d.members := rfl
@[simp] theorem Dev.queueEvent_out (d : Dev) (e : Event) : (d.queueEvent e).out = d.out := rfl
@[simp] theorem Dev.queueEvent_freeCtr (d : Dev) (e : Event) : (d.queueEvent e).freeCtr = d.freeCtr := rfl
@[simp] theorem Dev.queueEvent_rd (d : Dev) (e : Event) (off : Nat) : (d.queueEvent e).rd off = d.rd off := rfl

/-! ## modLay -/

@[simp] theorem Dev.modLay_variant (d : Dev) (f : Layers → Layers) : (d.modLay f).variant = d.variant := rfl
@[simp] theorem Dev.modLay_devId (d : Dev) (f : Layers → Layers) : (d.modLay f).devId = d.devId := rfl
@[simp] theorem Dev.modLay_regs (d : Dev) (f : Layers → Layers) : (d.modLay f).regs = d.regs := rfl
@[simp] theorem Dev.modLay_copies (d : Dev) (f : Layers → Layers) : (d.modLay f).copies = d.copies := rfl
@[simp] theorem Dev.modLay_tb0 (d : Dev) (f : Layers → Layers) : (d.modLay f).tb0 = d.tb0 := rfl
@[simp] theorem Dev.modLay_tb3 (d : Dev) (f : Layers → Layers) : (d.modLay f).tb3 = d.tb3 := rfl
@[simp] theorem Dev.modLay_mode (d : Dev) (f : Layers → Layers) : (d.modLay f).mode = d.mode := rfl
@[simp] theorem Dev.modLay_rings (d : Dev) (f : Layers → Layers) : (d.modLay f).rings = d.rings := rfl
@[simp] theorem Dev.modLay_hif (d : Dev) (f : Layers → Layers) : (d.modLay f).hif = d.hif := rfl
@[simp] theorem Dev.modLay_rcd (d : Dev) (f : Layers → Layers) : (d.modLay f).rcd = d.rcd := rfl
@[simp] theorem Dev.modLay_life (d : Dev) (f : Layers → Layers) : (d.modLay f).life = d.life := rfl
@[simp] theorem Dev.modLay_woram (d : Dev) (f : Layers → Layers) : (d.modLay f).woram = d.woram := rfl
@[simp] theorem Dev.modLay_closing (d : Dev) (f : Layers → Layers) : (d.modLay f).closing = d.closing := rfl
@[simp] theorem Dev.modLay_staged (d : Dev) (f : Layers → Layers) : (d.modLay f).staged = d.staged := rfl
@[simp] theorem Dev.modLay_recSeq (d : Dev) (f : Layers → Layers) : (d.modLay f).recSeq = d.recSeq := rfl
@[simp] theorem Dev.modLay_grids (d : Dev) (f : Layers → Layers) : (d.modLay f).grids = d.grids := rfl
@[simp] theorem Dev.modLay_resids (d : Dev) (f : Layers → Layers) : (d.modLay f).resids = d.resids := rfl
@[simp] theorem Dev.modLay_flt (d : Dev) (f : Layers → Layers) : (d.modLay f).flt = d.flt := rfl
@[simp] theorem Dev.modLay_rails (d : Dev) (f : Layers → Layers) : (d.modLay f).rails = d.rails := rfl
@[simp] theorem Dev.modLay_bist (d : Dev) (f : Layers → Layers) : (d.modLay f).bist = d.bist := rfl
@[simp] theorem Dev.modLay_engines (d : Dev) (f : Layers → Layers) : (d.modLay f).engines = d.engines := rfl
@[simp] theorem Dev.modLay_keeper (d : Dev) (f : Layers → Layers) : (d.modLay f).keeper = d.keeper := rfl
@[simp] theorem Dev.modLay_replay (d : Dev) (f : Layers → Layers) : (d.modLay f).replay = d.replay := rfl
@[simp] theorem Dev.modLay_ldg (d : Dev) (f : Layers → Layers) : (d.modLay f).ldg = d.ldg := rfl
@[simp] theorem Dev.modLay_feats (d : Dev) (f : Layers → Layers) : (d.modLay f).feats = d.feats := rfl
@[simp] theorem Dev.modLay_profiles (d : Dev) (f : Layers → Layers) : (d.modLay f).profiles = d.profiles := rfl
@[simp] theorem Dev.modLay_cals (d : Dev) (f : Layers → Layers) : (d.modLay f).cals = d.cals := rfl
@[simp] theorem Dev.modLay_probes (d : Dev) (f : Layers → Layers) : (d.modLay f).probes = d.probes := rfl
@[simp] theorem Dev.modLay_calWait (d : Dev) (f : Layers → Layers) : (d.modLay f).calWait = d.calWait := rfl
@[simp] theorem Dev.modLay_scn (d : Dev) (f : Layers → Layers) : (d.modLay f).scn = d.scn := rfl
@[simp] theorem Dev.modLay_vis (d : Dev) (f : Layers → Layers) : (d.modLay f).vis = d.vis := rfl
@[simp] theorem Dev.modLay_dram (d : Dev) (f : Layers → Layers) : (d.modLay f).dram = d.dram := rfl
@[simp] theorem Dev.modLay_time (d : Dev) (f : Layers → Layers) : (d.modLay f).time = d.time := rfl
@[simp] theorem Dev.modLay_byf (d : Dev) (f : Layers → Layers) : (d.modLay f).byf = d.byf := rfl
@[simp] theorem Dev.modLay_mot (d : Dev) (f : Layers → Layers) : (d.modLay f).mot = d.mot := rfl
@[simp] theorem Dev.modLay_ill (d : Dev) (f : Layers → Layers) : (d.modLay f).ill = d.ill := rfl
@[simp] theorem Dev.modLay_trim (d : Dev) (f : Layers → Layers) : (d.modLay f).trim = d.trim := rfl
@[simp] theorem Dev.modLay_gridCommits (d : Dev) (f : Layers → Layers) : (d.modLay f).gridCommits = d.gridCommits := rfl
@[simp] theorem Dev.modLay_recoated (d : Dev) (f : Layers → Layers) : (d.modLay f).recoated = d.recoated := rfl
@[simp] theorem Dev.modLay_members (d : Dev) (f : Layers → Layers) : (d.modLay f).members = d.members := rfl
@[simp] theorem Dev.modLay_out (d : Dev) (f : Layers → Layers) : (d.modLay f).out = d.out := rfl
@[simp] theorem Dev.modLay_freeCtr (d : Dev) (f : Layers → Layers) : (d.modLay f).freeCtr = d.freeCtr := rfl
@[simp] theorem Dev.modLay_rd (d : Dev) (f : Layers → Layers) (off : Nat) : (d.modLay f).rd off = d.rd off := rfl

/-! ## modEng -/

@[simp] theorem Dev.modEng_variant (d : Dev) (n : Nat) (f : Engine → Engine) : (d.modEng n f).variant = d.variant := rfl
@[simp] theorem Dev.modEng_devId (d : Dev) (n : Nat) (f : Engine → Engine) : (d.modEng n f).devId = d.devId := rfl
@[simp] theorem Dev.modEng_regs (d : Dev) (n : Nat) (f : Engine → Engine) : (d.modEng n f).regs = d.regs := rfl
@[simp] theorem Dev.modEng_copies (d : Dev) (n : Nat) (f : Engine → Engine) : (d.modEng n f).copies = d.copies := rfl
@[simp] theorem Dev.modEng_tb0 (d : Dev) (n : Nat) (f : Engine → Engine) : (d.modEng n f).tb0 = d.tb0 := rfl
@[simp] theorem Dev.modEng_tb3 (d : Dev) (n : Nat) (f : Engine → Engine) : (d.modEng n f).tb3 = d.tb3 := rfl
@[simp] theorem Dev.modEng_mode (d : Dev) (n : Nat) (f : Engine → Engine) : (d.modEng n f).mode = d.mode := rfl
@[simp] theorem Dev.modEng_rings (d : Dev) (n : Nat) (f : Engine → Engine) : (d.modEng n f).rings = d.rings := rfl
@[simp] theorem Dev.modEng_hif (d : Dev) (n : Nat) (f : Engine → Engine) : (d.modEng n f).hif = d.hif := rfl
@[simp] theorem Dev.modEng_rcd (d : Dev) (n : Nat) (f : Engine → Engine) : (d.modEng n f).rcd = d.rcd := rfl
@[simp] theorem Dev.modEng_life (d : Dev) (n : Nat) (f : Engine → Engine) : (d.modEng n f).life = d.life := rfl
@[simp] theorem Dev.modEng_woram (d : Dev) (n : Nat) (f : Engine → Engine) : (d.modEng n f).woram = d.woram := rfl
@[simp] theorem Dev.modEng_closing (d : Dev) (n : Nat) (f : Engine → Engine) : (d.modEng n f).closing = d.closing := rfl
@[simp] theorem Dev.modEng_staged (d : Dev) (n : Nat) (f : Engine → Engine) : (d.modEng n f).staged = d.staged := rfl
@[simp] theorem Dev.modEng_recSeq (d : Dev) (n : Nat) (f : Engine → Engine) : (d.modEng n f).recSeq = d.recSeq := rfl
@[simp] theorem Dev.modEng_lay (d : Dev) (n : Nat) (f : Engine → Engine) : (d.modEng n f).lay = d.lay := rfl
@[simp] theorem Dev.modEng_grids (d : Dev) (n : Nat) (f : Engine → Engine) : (d.modEng n f).grids = d.grids := rfl
@[simp] theorem Dev.modEng_resids (d : Dev) (n : Nat) (f : Engine → Engine) : (d.modEng n f).resids = d.resids := rfl
@[simp] theorem Dev.modEng_flt (d : Dev) (n : Nat) (f : Engine → Engine) : (d.modEng n f).flt = d.flt := rfl
@[simp] theorem Dev.modEng_rails (d : Dev) (n : Nat) (f : Engine → Engine) : (d.modEng n f).rails = d.rails := rfl
@[simp] theorem Dev.modEng_bist (d : Dev) (n : Nat) (f : Engine → Engine) : (d.modEng n f).bist = d.bist := rfl
@[simp] theorem Dev.modEng_keeper (d : Dev) (n : Nat) (f : Engine → Engine) : (d.modEng n f).keeper = d.keeper := rfl
@[simp] theorem Dev.modEng_replay (d : Dev) (n : Nat) (f : Engine → Engine) : (d.modEng n f).replay = d.replay := rfl
@[simp] theorem Dev.modEng_ldg (d : Dev) (n : Nat) (f : Engine → Engine) : (d.modEng n f).ldg = d.ldg := rfl
@[simp] theorem Dev.modEng_feats (d : Dev) (n : Nat) (f : Engine → Engine) : (d.modEng n f).feats = d.feats := rfl
@[simp] theorem Dev.modEng_profiles (d : Dev) (n : Nat) (f : Engine → Engine) : (d.modEng n f).profiles = d.profiles := rfl
@[simp] theorem Dev.modEng_cals (d : Dev) (n : Nat) (f : Engine → Engine) : (d.modEng n f).cals = d.cals := rfl
@[simp] theorem Dev.modEng_probes (d : Dev) (n : Nat) (f : Engine → Engine) : (d.modEng n f).probes = d.probes := rfl
@[simp] theorem Dev.modEng_calWait (d : Dev) (n : Nat) (f : Engine → Engine) : (d.modEng n f).calWait = d.calWait := rfl
@[simp] theorem Dev.modEng_scn (d : Dev) (n : Nat) (f : Engine → Engine) : (d.modEng n f).scn = d.scn := rfl
@[simp] theorem Dev.modEng_vis (d : Dev) (n : Nat) (f : Engine → Engine) : (d.modEng n f).vis = d.vis := rfl
@[simp] theorem Dev.modEng_dram (d : Dev) (n : Nat) (f : Engine → Engine) : (d.modEng n f).dram = d.dram := rfl
@[simp] theorem Dev.modEng_time (d : Dev) (n : Nat) (f : Engine → Engine) : (d.modEng n f).time = d.time := rfl
@[simp] theorem Dev.modEng_byf (d : Dev) (n : Nat) (f : Engine → Engine) : (d.modEng n f).byf = d.byf := rfl
@[simp] theorem Dev.modEng_mot (d : Dev) (n : Nat) (f : Engine → Engine) : (d.modEng n f).mot = d.mot := rfl
@[simp] theorem Dev.modEng_ill (d : Dev) (n : Nat) (f : Engine → Engine) : (d.modEng n f).ill = d.ill := rfl
@[simp] theorem Dev.modEng_trim (d : Dev) (n : Nat) (f : Engine → Engine) : (d.modEng n f).trim = d.trim := rfl
@[simp] theorem Dev.modEng_gridCommits (d : Dev) (n : Nat) (f : Engine → Engine) : (d.modEng n f).gridCommits = d.gridCommits := rfl
@[simp] theorem Dev.modEng_recoated (d : Dev) (n : Nat) (f : Engine → Engine) : (d.modEng n f).recoated = d.recoated := rfl
@[simp] theorem Dev.modEng_members (d : Dev) (n : Nat) (f : Engine → Engine) : (d.modEng n f).members = d.members := rfl
@[simp] theorem Dev.modEng_out (d : Dev) (n : Nat) (f : Engine → Engine) : (d.modEng n f).out = d.out := rfl
@[simp] theorem Dev.modEng_freeCtr (d : Dev) (n : Nat) (f : Engine → Engine) : (d.modEng n f).freeCtr = d.freeCtr := rfl
@[simp] theorem Dev.modEng_rd (d : Dev) (n : Nat) (f : Engine → Engine) (off : Nat) : (d.modEng n f).rd off = d.rd off := rfl

/-! ## modKeeper -/

@[simp] theorem Dev.modKeeper_variant (d : Dev) (f : Keeper → Keeper) : (d.modKeeper f).variant = d.variant := rfl
@[simp] theorem Dev.modKeeper_devId (d : Dev) (f : Keeper → Keeper) : (d.modKeeper f).devId = d.devId := rfl
@[simp] theorem Dev.modKeeper_regs (d : Dev) (f : Keeper → Keeper) : (d.modKeeper f).regs = d.regs := rfl
@[simp] theorem Dev.modKeeper_copies (d : Dev) (f : Keeper → Keeper) : (d.modKeeper f).copies = d.copies := rfl
@[simp] theorem Dev.modKeeper_tb0 (d : Dev) (f : Keeper → Keeper) : (d.modKeeper f).tb0 = d.tb0 := rfl
@[simp] theorem Dev.modKeeper_tb3 (d : Dev) (f : Keeper → Keeper) : (d.modKeeper f).tb3 = d.tb3 := rfl
@[simp] theorem Dev.modKeeper_mode (d : Dev) (f : Keeper → Keeper) : (d.modKeeper f).mode = d.mode := rfl
@[simp] theorem Dev.modKeeper_rings (d : Dev) (f : Keeper → Keeper) : (d.modKeeper f).rings = d.rings := rfl
@[simp] theorem Dev.modKeeper_hif (d : Dev) (f : Keeper → Keeper) : (d.modKeeper f).hif = d.hif := rfl
@[simp] theorem Dev.modKeeper_rcd (d : Dev) (f : Keeper → Keeper) : (d.modKeeper f).rcd = d.rcd := rfl
@[simp] theorem Dev.modKeeper_life (d : Dev) (f : Keeper → Keeper) : (d.modKeeper f).life = d.life := rfl
@[simp] theorem Dev.modKeeper_woram (d : Dev) (f : Keeper → Keeper) : (d.modKeeper f).woram = d.woram := rfl
@[simp] theorem Dev.modKeeper_closing (d : Dev) (f : Keeper → Keeper) : (d.modKeeper f).closing = d.closing := rfl
@[simp] theorem Dev.modKeeper_staged (d : Dev) (f : Keeper → Keeper) : (d.modKeeper f).staged = d.staged := rfl
@[simp] theorem Dev.modKeeper_recSeq (d : Dev) (f : Keeper → Keeper) : (d.modKeeper f).recSeq = d.recSeq := rfl
@[simp] theorem Dev.modKeeper_lay (d : Dev) (f : Keeper → Keeper) : (d.modKeeper f).lay = d.lay := rfl
@[simp] theorem Dev.modKeeper_grids (d : Dev) (f : Keeper → Keeper) : (d.modKeeper f).grids = d.grids := rfl
@[simp] theorem Dev.modKeeper_resids (d : Dev) (f : Keeper → Keeper) : (d.modKeeper f).resids = d.resids := rfl
@[simp] theorem Dev.modKeeper_flt (d : Dev) (f : Keeper → Keeper) : (d.modKeeper f).flt = d.flt := rfl
@[simp] theorem Dev.modKeeper_rails (d : Dev) (f : Keeper → Keeper) : (d.modKeeper f).rails = d.rails := rfl
@[simp] theorem Dev.modKeeper_bist (d : Dev) (f : Keeper → Keeper) : (d.modKeeper f).bist = d.bist := rfl
@[simp] theorem Dev.modKeeper_engines (d : Dev) (f : Keeper → Keeper) : (d.modKeeper f).engines = d.engines := rfl
@[simp] theorem Dev.modKeeper_replay (d : Dev) (f : Keeper → Keeper) : (d.modKeeper f).replay = d.replay := rfl
@[simp] theorem Dev.modKeeper_ldg (d : Dev) (f : Keeper → Keeper) : (d.modKeeper f).ldg = d.ldg := rfl
@[simp] theorem Dev.modKeeper_feats (d : Dev) (f : Keeper → Keeper) : (d.modKeeper f).feats = d.feats := rfl
@[simp] theorem Dev.modKeeper_profiles (d : Dev) (f : Keeper → Keeper) : (d.modKeeper f).profiles = d.profiles := rfl
@[simp] theorem Dev.modKeeper_cals (d : Dev) (f : Keeper → Keeper) : (d.modKeeper f).cals = d.cals := rfl
@[simp] theorem Dev.modKeeper_probes (d : Dev) (f : Keeper → Keeper) : (d.modKeeper f).probes = d.probes := rfl
@[simp] theorem Dev.modKeeper_calWait (d : Dev) (f : Keeper → Keeper) : (d.modKeeper f).calWait = d.calWait := rfl
@[simp] theorem Dev.modKeeper_scn (d : Dev) (f : Keeper → Keeper) : (d.modKeeper f).scn = d.scn := rfl
@[simp] theorem Dev.modKeeper_vis (d : Dev) (f : Keeper → Keeper) : (d.modKeeper f).vis = d.vis := rfl
@[simp] theorem Dev.modKeeper_dram (d : Dev) (f : Keeper → Keeper) : (d.modKeeper f).dram = d.dram := rfl
@[simp] theorem Dev.modKeeper_time (d : Dev) (f : Keeper → Keeper) : (d.modKeeper f).time = d.time := rfl
@[simp] theorem Dev.modKeeper_byf (d : Dev) (f : Keeper → Keeper) : (d.modKeeper f).byf = d.byf := rfl
@[simp] theorem Dev.modKeeper_mot (d : Dev) (f : Keeper → Keeper) : (d.modKeeper f).mot = d.mot := rfl
@[simp] theorem Dev.modKeeper_ill (d : Dev) (f : Keeper → Keeper) : (d.modKeeper f).ill = d.ill := rfl
@[simp] theorem Dev.modKeeper_trim (d : Dev) (f : Keeper → Keeper) : (d.modKeeper f).trim = d.trim := rfl
@[simp] theorem Dev.modKeeper_gridCommits (d : Dev) (f : Keeper → Keeper) : (d.modKeeper f).gridCommits = d.gridCommits := rfl
@[simp] theorem Dev.modKeeper_recoated (d : Dev) (f : Keeper → Keeper) : (d.modKeeper f).recoated = d.recoated := rfl
@[simp] theorem Dev.modKeeper_members (d : Dev) (f : Keeper → Keeper) : (d.modKeeper f).members = d.members := rfl
@[simp] theorem Dev.modKeeper_out (d : Dev) (f : Keeper → Keeper) : (d.modKeeper f).out = d.out := rfl
@[simp] theorem Dev.modKeeper_freeCtr (d : Dev) (f : Keeper → Keeper) : (d.modKeeper f).freeCtr = d.freeCtr := rfl
@[simp] theorem Dev.modKeeper_rd (d : Dev) (f : Keeper → Keeper) (off : Nat) : (d.modKeeper f).rd off = d.rd off := rfl

/-! ## modTime -/

@[simp] theorem Dev.modTime_variant (d : Dev) (f : TimeCtl → TimeCtl) : (d.modTime f).variant = d.variant := rfl
@[simp] theorem Dev.modTime_devId (d : Dev) (f : TimeCtl → TimeCtl) : (d.modTime f).devId = d.devId := rfl
@[simp] theorem Dev.modTime_regs (d : Dev) (f : TimeCtl → TimeCtl) : (d.modTime f).regs = d.regs := rfl
@[simp] theorem Dev.modTime_copies (d : Dev) (f : TimeCtl → TimeCtl) : (d.modTime f).copies = d.copies := rfl
@[simp] theorem Dev.modTime_tb0 (d : Dev) (f : TimeCtl → TimeCtl) : (d.modTime f).tb0 = d.tb0 := rfl
@[simp] theorem Dev.modTime_tb3 (d : Dev) (f : TimeCtl → TimeCtl) : (d.modTime f).tb3 = d.tb3 := rfl
@[simp] theorem Dev.modTime_mode (d : Dev) (f : TimeCtl → TimeCtl) : (d.modTime f).mode = d.mode := rfl
@[simp] theorem Dev.modTime_rings (d : Dev) (f : TimeCtl → TimeCtl) : (d.modTime f).rings = d.rings := rfl
@[simp] theorem Dev.modTime_hif (d : Dev) (f : TimeCtl → TimeCtl) : (d.modTime f).hif = d.hif := rfl
@[simp] theorem Dev.modTime_rcd (d : Dev) (f : TimeCtl → TimeCtl) : (d.modTime f).rcd = d.rcd := rfl
@[simp] theorem Dev.modTime_life (d : Dev) (f : TimeCtl → TimeCtl) : (d.modTime f).life = d.life := rfl
@[simp] theorem Dev.modTime_woram (d : Dev) (f : TimeCtl → TimeCtl) : (d.modTime f).woram = d.woram := rfl
@[simp] theorem Dev.modTime_closing (d : Dev) (f : TimeCtl → TimeCtl) : (d.modTime f).closing = d.closing := rfl
@[simp] theorem Dev.modTime_staged (d : Dev) (f : TimeCtl → TimeCtl) : (d.modTime f).staged = d.staged := rfl
@[simp] theorem Dev.modTime_recSeq (d : Dev) (f : TimeCtl → TimeCtl) : (d.modTime f).recSeq = d.recSeq := rfl
@[simp] theorem Dev.modTime_lay (d : Dev) (f : TimeCtl → TimeCtl) : (d.modTime f).lay = d.lay := rfl
@[simp] theorem Dev.modTime_grids (d : Dev) (f : TimeCtl → TimeCtl) : (d.modTime f).grids = d.grids := rfl
@[simp] theorem Dev.modTime_resids (d : Dev) (f : TimeCtl → TimeCtl) : (d.modTime f).resids = d.resids := rfl
@[simp] theorem Dev.modTime_flt (d : Dev) (f : TimeCtl → TimeCtl) : (d.modTime f).flt = d.flt := rfl
@[simp] theorem Dev.modTime_rails (d : Dev) (f : TimeCtl → TimeCtl) : (d.modTime f).rails = d.rails := rfl
@[simp] theorem Dev.modTime_bist (d : Dev) (f : TimeCtl → TimeCtl) : (d.modTime f).bist = d.bist := rfl
@[simp] theorem Dev.modTime_engines (d : Dev) (f : TimeCtl → TimeCtl) : (d.modTime f).engines = d.engines := rfl
@[simp] theorem Dev.modTime_keeper (d : Dev) (f : TimeCtl → TimeCtl) : (d.modTime f).keeper = d.keeper := rfl
@[simp] theorem Dev.modTime_replay (d : Dev) (f : TimeCtl → TimeCtl) : (d.modTime f).replay = d.replay := rfl
@[simp] theorem Dev.modTime_ldg (d : Dev) (f : TimeCtl → TimeCtl) : (d.modTime f).ldg = d.ldg := rfl
@[simp] theorem Dev.modTime_feats (d : Dev) (f : TimeCtl → TimeCtl) : (d.modTime f).feats = d.feats := rfl
@[simp] theorem Dev.modTime_profiles (d : Dev) (f : TimeCtl → TimeCtl) : (d.modTime f).profiles = d.profiles := rfl
@[simp] theorem Dev.modTime_cals (d : Dev) (f : TimeCtl → TimeCtl) : (d.modTime f).cals = d.cals := rfl
@[simp] theorem Dev.modTime_probes (d : Dev) (f : TimeCtl → TimeCtl) : (d.modTime f).probes = d.probes := rfl
@[simp] theorem Dev.modTime_calWait (d : Dev) (f : TimeCtl → TimeCtl) : (d.modTime f).calWait = d.calWait := rfl
@[simp] theorem Dev.modTime_scn (d : Dev) (f : TimeCtl → TimeCtl) : (d.modTime f).scn = d.scn := rfl
@[simp] theorem Dev.modTime_vis (d : Dev) (f : TimeCtl → TimeCtl) : (d.modTime f).vis = d.vis := rfl
@[simp] theorem Dev.modTime_dram (d : Dev) (f : TimeCtl → TimeCtl) : (d.modTime f).dram = d.dram := rfl
@[simp] theorem Dev.modTime_byf (d : Dev) (f : TimeCtl → TimeCtl) : (d.modTime f).byf = d.byf := rfl
@[simp] theorem Dev.modTime_mot (d : Dev) (f : TimeCtl → TimeCtl) : (d.modTime f).mot = d.mot := rfl
@[simp] theorem Dev.modTime_ill (d : Dev) (f : TimeCtl → TimeCtl) : (d.modTime f).ill = d.ill := rfl
@[simp] theorem Dev.modTime_trim (d : Dev) (f : TimeCtl → TimeCtl) : (d.modTime f).trim = d.trim := rfl
@[simp] theorem Dev.modTime_gridCommits (d : Dev) (f : TimeCtl → TimeCtl) : (d.modTime f).gridCommits = d.gridCommits := rfl
@[simp] theorem Dev.modTime_recoated (d : Dev) (f : TimeCtl → TimeCtl) : (d.modTime f).recoated = d.recoated := rfl
@[simp] theorem Dev.modTime_members (d : Dev) (f : TimeCtl → TimeCtl) : (d.modTime f).members = d.members := rfl
@[simp] theorem Dev.modTime_out (d : Dev) (f : TimeCtl → TimeCtl) : (d.modTime f).out = d.out := rfl
@[simp] theorem Dev.modTime_freeCtr (d : Dev) (f : TimeCtl → TimeCtl) : (d.modTime f).freeCtr = d.freeCtr := rfl
@[simp] theorem Dev.modTime_rd (d : Dev) (f : TimeCtl → TimeCtl) (off : Nat) : (d.modTime f).rd off = d.rd off := rfl

/-! ## modByf -/

@[simp] theorem Dev.modByf_variant (d : Dev) (f : Byoft → Byoft) : (d.modByf f).variant = d.variant := rfl
@[simp] theorem Dev.modByf_devId (d : Dev) (f : Byoft → Byoft) : (d.modByf f).devId = d.devId := rfl
@[simp] theorem Dev.modByf_regs (d : Dev) (f : Byoft → Byoft) : (d.modByf f).regs = d.regs := rfl
@[simp] theorem Dev.modByf_copies (d : Dev) (f : Byoft → Byoft) : (d.modByf f).copies = d.copies := rfl
@[simp] theorem Dev.modByf_tb0 (d : Dev) (f : Byoft → Byoft) : (d.modByf f).tb0 = d.tb0 := rfl
@[simp] theorem Dev.modByf_tb3 (d : Dev) (f : Byoft → Byoft) : (d.modByf f).tb3 = d.tb3 := rfl
@[simp] theorem Dev.modByf_mode (d : Dev) (f : Byoft → Byoft) : (d.modByf f).mode = d.mode := rfl
@[simp] theorem Dev.modByf_rings (d : Dev) (f : Byoft → Byoft) : (d.modByf f).rings = d.rings := rfl
@[simp] theorem Dev.modByf_hif (d : Dev) (f : Byoft → Byoft) : (d.modByf f).hif = d.hif := rfl
@[simp] theorem Dev.modByf_rcd (d : Dev) (f : Byoft → Byoft) : (d.modByf f).rcd = d.rcd := rfl
@[simp] theorem Dev.modByf_life (d : Dev) (f : Byoft → Byoft) : (d.modByf f).life = d.life := rfl
@[simp] theorem Dev.modByf_woram (d : Dev) (f : Byoft → Byoft) : (d.modByf f).woram = d.woram := rfl
@[simp] theorem Dev.modByf_closing (d : Dev) (f : Byoft → Byoft) : (d.modByf f).closing = d.closing := rfl
@[simp] theorem Dev.modByf_staged (d : Dev) (f : Byoft → Byoft) : (d.modByf f).staged = d.staged := rfl
@[simp] theorem Dev.modByf_recSeq (d : Dev) (f : Byoft → Byoft) : (d.modByf f).recSeq = d.recSeq := rfl
@[simp] theorem Dev.modByf_lay (d : Dev) (f : Byoft → Byoft) : (d.modByf f).lay = d.lay := rfl
@[simp] theorem Dev.modByf_grids (d : Dev) (f : Byoft → Byoft) : (d.modByf f).grids = d.grids := rfl
@[simp] theorem Dev.modByf_resids (d : Dev) (f : Byoft → Byoft) : (d.modByf f).resids = d.resids := rfl
@[simp] theorem Dev.modByf_flt (d : Dev) (f : Byoft → Byoft) : (d.modByf f).flt = d.flt := rfl
@[simp] theorem Dev.modByf_rails (d : Dev) (f : Byoft → Byoft) : (d.modByf f).rails = d.rails := rfl
@[simp] theorem Dev.modByf_bist (d : Dev) (f : Byoft → Byoft) : (d.modByf f).bist = d.bist := rfl
@[simp] theorem Dev.modByf_engines (d : Dev) (f : Byoft → Byoft) : (d.modByf f).engines = d.engines := rfl
@[simp] theorem Dev.modByf_keeper (d : Dev) (f : Byoft → Byoft) : (d.modByf f).keeper = d.keeper := rfl
@[simp] theorem Dev.modByf_replay (d : Dev) (f : Byoft → Byoft) : (d.modByf f).replay = d.replay := rfl
@[simp] theorem Dev.modByf_ldg (d : Dev) (f : Byoft → Byoft) : (d.modByf f).ldg = d.ldg := rfl
@[simp] theorem Dev.modByf_feats (d : Dev) (f : Byoft → Byoft) : (d.modByf f).feats = d.feats := rfl
@[simp] theorem Dev.modByf_profiles (d : Dev) (f : Byoft → Byoft) : (d.modByf f).profiles = d.profiles := rfl
@[simp] theorem Dev.modByf_cals (d : Dev) (f : Byoft → Byoft) : (d.modByf f).cals = d.cals := rfl
@[simp] theorem Dev.modByf_probes (d : Dev) (f : Byoft → Byoft) : (d.modByf f).probes = d.probes := rfl
@[simp] theorem Dev.modByf_calWait (d : Dev) (f : Byoft → Byoft) : (d.modByf f).calWait = d.calWait := rfl
@[simp] theorem Dev.modByf_scn (d : Dev) (f : Byoft → Byoft) : (d.modByf f).scn = d.scn := rfl
@[simp] theorem Dev.modByf_vis (d : Dev) (f : Byoft → Byoft) : (d.modByf f).vis = d.vis := rfl
@[simp] theorem Dev.modByf_dram (d : Dev) (f : Byoft → Byoft) : (d.modByf f).dram = d.dram := rfl
@[simp] theorem Dev.modByf_time (d : Dev) (f : Byoft → Byoft) : (d.modByf f).time = d.time := rfl
@[simp] theorem Dev.modByf_mot (d : Dev) (f : Byoft → Byoft) : (d.modByf f).mot = d.mot := rfl
@[simp] theorem Dev.modByf_ill (d : Dev) (f : Byoft → Byoft) : (d.modByf f).ill = d.ill := rfl
@[simp] theorem Dev.modByf_trim (d : Dev) (f : Byoft → Byoft) : (d.modByf f).trim = d.trim := rfl
@[simp] theorem Dev.modByf_gridCommits (d : Dev) (f : Byoft → Byoft) : (d.modByf f).gridCommits = d.gridCommits := rfl
@[simp] theorem Dev.modByf_recoated (d : Dev) (f : Byoft → Byoft) : (d.modByf f).recoated = d.recoated := rfl
@[simp] theorem Dev.modByf_members (d : Dev) (f : Byoft → Byoft) : (d.modByf f).members = d.members := rfl
@[simp] theorem Dev.modByf_out (d : Dev) (f : Byoft → Byoft) : (d.modByf f).out = d.out := rfl
@[simp] theorem Dev.modByf_freeCtr (d : Dev) (f : Byoft → Byoft) : (d.modByf f).freeCtr = d.freeCtr := rfl
@[simp] theorem Dev.modByf_rd (d : Dev) (f : Byoft → Byoft) (off : Nat) : (d.modByf f).rd off = d.rd off := rfl

/-! ## modDram -/

@[simp] theorem Dev.modDram_variant (d : Dev) (f : Dram → Dram) : (d.modDram f).variant = d.variant := rfl
@[simp] theorem Dev.modDram_devId (d : Dev) (f : Dram → Dram) : (d.modDram f).devId = d.devId := rfl
@[simp] theorem Dev.modDram_regs (d : Dev) (f : Dram → Dram) : (d.modDram f).regs = d.regs := rfl
@[simp] theorem Dev.modDram_copies (d : Dev) (f : Dram → Dram) : (d.modDram f).copies = d.copies := rfl
@[simp] theorem Dev.modDram_tb0 (d : Dev) (f : Dram → Dram) : (d.modDram f).tb0 = d.tb0 := rfl
@[simp] theorem Dev.modDram_tb3 (d : Dev) (f : Dram → Dram) : (d.modDram f).tb3 = d.tb3 := rfl
@[simp] theorem Dev.modDram_mode (d : Dev) (f : Dram → Dram) : (d.modDram f).mode = d.mode := rfl
@[simp] theorem Dev.modDram_rings (d : Dev) (f : Dram → Dram) : (d.modDram f).rings = d.rings := rfl
@[simp] theorem Dev.modDram_hif (d : Dev) (f : Dram → Dram) : (d.modDram f).hif = d.hif := rfl
@[simp] theorem Dev.modDram_rcd (d : Dev) (f : Dram → Dram) : (d.modDram f).rcd = d.rcd := rfl
@[simp] theorem Dev.modDram_life (d : Dev) (f : Dram → Dram) : (d.modDram f).life = d.life := rfl
@[simp] theorem Dev.modDram_woram (d : Dev) (f : Dram → Dram) : (d.modDram f).woram = d.woram := rfl
@[simp] theorem Dev.modDram_closing (d : Dev) (f : Dram → Dram) : (d.modDram f).closing = d.closing := rfl
@[simp] theorem Dev.modDram_staged (d : Dev) (f : Dram → Dram) : (d.modDram f).staged = d.staged := rfl
@[simp] theorem Dev.modDram_recSeq (d : Dev) (f : Dram → Dram) : (d.modDram f).recSeq = d.recSeq := rfl
@[simp] theorem Dev.modDram_lay (d : Dev) (f : Dram → Dram) : (d.modDram f).lay = d.lay := rfl
@[simp] theorem Dev.modDram_grids (d : Dev) (f : Dram → Dram) : (d.modDram f).grids = d.grids := rfl
@[simp] theorem Dev.modDram_resids (d : Dev) (f : Dram → Dram) : (d.modDram f).resids = d.resids := rfl
@[simp] theorem Dev.modDram_flt (d : Dev) (f : Dram → Dram) : (d.modDram f).flt = d.flt := rfl
@[simp] theorem Dev.modDram_rails (d : Dev) (f : Dram → Dram) : (d.modDram f).rails = d.rails := rfl
@[simp] theorem Dev.modDram_bist (d : Dev) (f : Dram → Dram) : (d.modDram f).bist = d.bist := rfl
@[simp] theorem Dev.modDram_engines (d : Dev) (f : Dram → Dram) : (d.modDram f).engines = d.engines := rfl
@[simp] theorem Dev.modDram_keeper (d : Dev) (f : Dram → Dram) : (d.modDram f).keeper = d.keeper := rfl
@[simp] theorem Dev.modDram_replay (d : Dev) (f : Dram → Dram) : (d.modDram f).replay = d.replay := rfl
@[simp] theorem Dev.modDram_ldg (d : Dev) (f : Dram → Dram) : (d.modDram f).ldg = d.ldg := rfl
@[simp] theorem Dev.modDram_feats (d : Dev) (f : Dram → Dram) : (d.modDram f).feats = d.feats := rfl
@[simp] theorem Dev.modDram_profiles (d : Dev) (f : Dram → Dram) : (d.modDram f).profiles = d.profiles := rfl
@[simp] theorem Dev.modDram_cals (d : Dev) (f : Dram → Dram) : (d.modDram f).cals = d.cals := rfl
@[simp] theorem Dev.modDram_probes (d : Dev) (f : Dram → Dram) : (d.modDram f).probes = d.probes := rfl
@[simp] theorem Dev.modDram_calWait (d : Dev) (f : Dram → Dram) : (d.modDram f).calWait = d.calWait := rfl
@[simp] theorem Dev.modDram_scn (d : Dev) (f : Dram → Dram) : (d.modDram f).scn = d.scn := rfl
@[simp] theorem Dev.modDram_vis (d : Dev) (f : Dram → Dram) : (d.modDram f).vis = d.vis := rfl
@[simp] theorem Dev.modDram_time (d : Dev) (f : Dram → Dram) : (d.modDram f).time = d.time := rfl
@[simp] theorem Dev.modDram_byf (d : Dev) (f : Dram → Dram) : (d.modDram f).byf = d.byf := rfl
@[simp] theorem Dev.modDram_mot (d : Dev) (f : Dram → Dram) : (d.modDram f).mot = d.mot := rfl
@[simp] theorem Dev.modDram_ill (d : Dev) (f : Dram → Dram) : (d.modDram f).ill = d.ill := rfl
@[simp] theorem Dev.modDram_trim (d : Dev) (f : Dram → Dram) : (d.modDram f).trim = d.trim := rfl
@[simp] theorem Dev.modDram_gridCommits (d : Dev) (f : Dram → Dram) : (d.modDram f).gridCommits = d.gridCommits := rfl
@[simp] theorem Dev.modDram_recoated (d : Dev) (f : Dram → Dram) : (d.modDram f).recoated = d.recoated := rfl
@[simp] theorem Dev.modDram_members (d : Dev) (f : Dram → Dram) : (d.modDram f).members = d.members := rfl
@[simp] theorem Dev.modDram_out (d : Dev) (f : Dram → Dram) : (d.modDram f).out = d.out := rfl
@[simp] theorem Dev.modDram_freeCtr (d : Dev) (f : Dram → Dram) : (d.modDram f).freeCtr = d.freeCtr := rfl
@[simp] theorem Dev.modDram_rd (d : Dev) (f : Dram → Dram) (off : Nat) : (d.modDram f).rd off = d.rd off := rfl

/-! ## modAxis -/

@[simp] theorem Dev.modAxis_variant (d : Dev) (a : Nat) (f : Axis → Axis) : (d.modAxis a f).variant = d.variant := rfl
@[simp] theorem Dev.modAxis_devId (d : Dev) (a : Nat) (f : Axis → Axis) : (d.modAxis a f).devId = d.devId := rfl
@[simp] theorem Dev.modAxis_regs (d : Dev) (a : Nat) (f : Axis → Axis) : (d.modAxis a f).regs = d.regs := rfl
@[simp] theorem Dev.modAxis_copies (d : Dev) (a : Nat) (f : Axis → Axis) : (d.modAxis a f).copies = d.copies := rfl
@[simp] theorem Dev.modAxis_tb0 (d : Dev) (a : Nat) (f : Axis → Axis) : (d.modAxis a f).tb0 = d.tb0 := rfl
@[simp] theorem Dev.modAxis_tb3 (d : Dev) (a : Nat) (f : Axis → Axis) : (d.modAxis a f).tb3 = d.tb3 := rfl
@[simp] theorem Dev.modAxis_mode (d : Dev) (a : Nat) (f : Axis → Axis) : (d.modAxis a f).mode = d.mode := rfl
@[simp] theorem Dev.modAxis_rings (d : Dev) (a : Nat) (f : Axis → Axis) : (d.modAxis a f).rings = d.rings := rfl
@[simp] theorem Dev.modAxis_hif (d : Dev) (a : Nat) (f : Axis → Axis) : (d.modAxis a f).hif = d.hif := rfl
@[simp] theorem Dev.modAxis_rcd (d : Dev) (a : Nat) (f : Axis → Axis) : (d.modAxis a f).rcd = d.rcd := rfl
@[simp] theorem Dev.modAxis_life (d : Dev) (a : Nat) (f : Axis → Axis) : (d.modAxis a f).life = d.life := rfl
@[simp] theorem Dev.modAxis_woram (d : Dev) (a : Nat) (f : Axis → Axis) : (d.modAxis a f).woram = d.woram := rfl
@[simp] theorem Dev.modAxis_closing (d : Dev) (a : Nat) (f : Axis → Axis) : (d.modAxis a f).closing = d.closing := rfl
@[simp] theorem Dev.modAxis_staged (d : Dev) (a : Nat) (f : Axis → Axis) : (d.modAxis a f).staged = d.staged := rfl
@[simp] theorem Dev.modAxis_recSeq (d : Dev) (a : Nat) (f : Axis → Axis) : (d.modAxis a f).recSeq = d.recSeq := rfl
@[simp] theorem Dev.modAxis_lay (d : Dev) (a : Nat) (f : Axis → Axis) : (d.modAxis a f).lay = d.lay := rfl
@[simp] theorem Dev.modAxis_grids (d : Dev) (a : Nat) (f : Axis → Axis) : (d.modAxis a f).grids = d.grids := rfl
@[simp] theorem Dev.modAxis_resids (d : Dev) (a : Nat) (f : Axis → Axis) : (d.modAxis a f).resids = d.resids := rfl
@[simp] theorem Dev.modAxis_flt (d : Dev) (a : Nat) (f : Axis → Axis) : (d.modAxis a f).flt = d.flt := rfl
@[simp] theorem Dev.modAxis_rails (d : Dev) (a : Nat) (f : Axis → Axis) : (d.modAxis a f).rails = d.rails := rfl
@[simp] theorem Dev.modAxis_bist (d : Dev) (a : Nat) (f : Axis → Axis) : (d.modAxis a f).bist = d.bist := rfl
@[simp] theorem Dev.modAxis_engines (d : Dev) (a : Nat) (f : Axis → Axis) : (d.modAxis a f).engines = d.engines := rfl
@[simp] theorem Dev.modAxis_keeper (d : Dev) (a : Nat) (f : Axis → Axis) : (d.modAxis a f).keeper = d.keeper := rfl
@[simp] theorem Dev.modAxis_replay (d : Dev) (a : Nat) (f : Axis → Axis) : (d.modAxis a f).replay = d.replay := rfl
@[simp] theorem Dev.modAxis_ldg (d : Dev) (a : Nat) (f : Axis → Axis) : (d.modAxis a f).ldg = d.ldg := rfl
@[simp] theorem Dev.modAxis_feats (d : Dev) (a : Nat) (f : Axis → Axis) : (d.modAxis a f).feats = d.feats := rfl
@[simp] theorem Dev.modAxis_profiles (d : Dev) (a : Nat) (f : Axis → Axis) : (d.modAxis a f).profiles = d.profiles := rfl
@[simp] theorem Dev.modAxis_cals (d : Dev) (a : Nat) (f : Axis → Axis) : (d.modAxis a f).cals = d.cals := rfl
@[simp] theorem Dev.modAxis_probes (d : Dev) (a : Nat) (f : Axis → Axis) : (d.modAxis a f).probes = d.probes := rfl
@[simp] theorem Dev.modAxis_calWait (d : Dev) (a : Nat) (f : Axis → Axis) : (d.modAxis a f).calWait = d.calWait := rfl
@[simp] theorem Dev.modAxis_scn (d : Dev) (a : Nat) (f : Axis → Axis) : (d.modAxis a f).scn = d.scn := rfl
@[simp] theorem Dev.modAxis_vis (d : Dev) (a : Nat) (f : Axis → Axis) : (d.modAxis a f).vis = d.vis := rfl
@[simp] theorem Dev.modAxis_dram (d : Dev) (a : Nat) (f : Axis → Axis) : (d.modAxis a f).dram = d.dram := rfl
@[simp] theorem Dev.modAxis_time (d : Dev) (a : Nat) (f : Axis → Axis) : (d.modAxis a f).time = d.time := rfl
@[simp] theorem Dev.modAxis_byf (d : Dev) (a : Nat) (f : Axis → Axis) : (d.modAxis a f).byf = d.byf := rfl
@[simp] theorem Dev.modAxis_ill (d : Dev) (a : Nat) (f : Axis → Axis) : (d.modAxis a f).ill = d.ill := rfl
@[simp] theorem Dev.modAxis_trim (d : Dev) (a : Nat) (f : Axis → Axis) : (d.modAxis a f).trim = d.trim := rfl
@[simp] theorem Dev.modAxis_gridCommits (d : Dev) (a : Nat) (f : Axis → Axis) : (d.modAxis a f).gridCommits = d.gridCommits := rfl
@[simp] theorem Dev.modAxis_recoated (d : Dev) (a : Nat) (f : Axis → Axis) : (d.modAxis a f).recoated = d.recoated := rfl
@[simp] theorem Dev.modAxis_members (d : Dev) (a : Nat) (f : Axis → Axis) : (d.modAxis a f).members = d.members := rfl
@[simp] theorem Dev.modAxis_out (d : Dev) (a : Nat) (f : Axis → Axis) : (d.modAxis a f).out = d.out := rfl
@[simp] theorem Dev.modAxis_freeCtr (d : Dev) (a : Nat) (f : Axis → Axis) : (d.modAxis a f).freeCtr = d.freeCtr := rfl
@[simp] theorem Dev.modAxis_rd (d : Dev) (a : Nat) (f : Axis → Axis) (off : Nat) : (d.modAxis a f).rd off = d.rd off := rfl

/-! ## modLamp -/

@[simp] theorem Dev.modLamp_variant (d : Dev) (c : Nat) (f : Lamp → Lamp) : (d.modLamp c f).variant = d.variant := rfl
@[simp] theorem Dev.modLamp_devId (d : Dev) (c : Nat) (f : Lamp → Lamp) : (d.modLamp c f).devId = d.devId := rfl
@[simp] theorem Dev.modLamp_regs (d : Dev) (c : Nat) (f : Lamp → Lamp) : (d.modLamp c f).regs = d.regs := rfl
@[simp] theorem Dev.modLamp_copies (d : Dev) (c : Nat) (f : Lamp → Lamp) : (d.modLamp c f).copies = d.copies := rfl
@[simp] theorem Dev.modLamp_tb0 (d : Dev) (c : Nat) (f : Lamp → Lamp) : (d.modLamp c f).tb0 = d.tb0 := rfl
@[simp] theorem Dev.modLamp_tb3 (d : Dev) (c : Nat) (f : Lamp → Lamp) : (d.modLamp c f).tb3 = d.tb3 := rfl
@[simp] theorem Dev.modLamp_mode (d : Dev) (c : Nat) (f : Lamp → Lamp) : (d.modLamp c f).mode = d.mode := rfl
@[simp] theorem Dev.modLamp_rings (d : Dev) (c : Nat) (f : Lamp → Lamp) : (d.modLamp c f).rings = d.rings := rfl
@[simp] theorem Dev.modLamp_hif (d : Dev) (c : Nat) (f : Lamp → Lamp) : (d.modLamp c f).hif = d.hif := rfl
@[simp] theorem Dev.modLamp_rcd (d : Dev) (c : Nat) (f : Lamp → Lamp) : (d.modLamp c f).rcd = d.rcd := rfl
@[simp] theorem Dev.modLamp_life (d : Dev) (c : Nat) (f : Lamp → Lamp) : (d.modLamp c f).life = d.life := rfl
@[simp] theorem Dev.modLamp_woram (d : Dev) (c : Nat) (f : Lamp → Lamp) : (d.modLamp c f).woram = d.woram := rfl
@[simp] theorem Dev.modLamp_closing (d : Dev) (c : Nat) (f : Lamp → Lamp) : (d.modLamp c f).closing = d.closing := rfl
@[simp] theorem Dev.modLamp_staged (d : Dev) (c : Nat) (f : Lamp → Lamp) : (d.modLamp c f).staged = d.staged := rfl
@[simp] theorem Dev.modLamp_recSeq (d : Dev) (c : Nat) (f : Lamp → Lamp) : (d.modLamp c f).recSeq = d.recSeq := rfl
@[simp] theorem Dev.modLamp_lay (d : Dev) (c : Nat) (f : Lamp → Lamp) : (d.modLamp c f).lay = d.lay := rfl
@[simp] theorem Dev.modLamp_grids (d : Dev) (c : Nat) (f : Lamp → Lamp) : (d.modLamp c f).grids = d.grids := rfl
@[simp] theorem Dev.modLamp_resids (d : Dev) (c : Nat) (f : Lamp → Lamp) : (d.modLamp c f).resids = d.resids := rfl
@[simp] theorem Dev.modLamp_flt (d : Dev) (c : Nat) (f : Lamp → Lamp) : (d.modLamp c f).flt = d.flt := rfl
@[simp] theorem Dev.modLamp_rails (d : Dev) (c : Nat) (f : Lamp → Lamp) : (d.modLamp c f).rails = d.rails := rfl
@[simp] theorem Dev.modLamp_bist (d : Dev) (c : Nat) (f : Lamp → Lamp) : (d.modLamp c f).bist = d.bist := rfl
@[simp] theorem Dev.modLamp_engines (d : Dev) (c : Nat) (f : Lamp → Lamp) : (d.modLamp c f).engines = d.engines := rfl
@[simp] theorem Dev.modLamp_keeper (d : Dev) (c : Nat) (f : Lamp → Lamp) : (d.modLamp c f).keeper = d.keeper := rfl
@[simp] theorem Dev.modLamp_replay (d : Dev) (c : Nat) (f : Lamp → Lamp) : (d.modLamp c f).replay = d.replay := rfl
@[simp] theorem Dev.modLamp_ldg (d : Dev) (c : Nat) (f : Lamp → Lamp) : (d.modLamp c f).ldg = d.ldg := rfl
@[simp] theorem Dev.modLamp_feats (d : Dev) (c : Nat) (f : Lamp → Lamp) : (d.modLamp c f).feats = d.feats := rfl
@[simp] theorem Dev.modLamp_profiles (d : Dev) (c : Nat) (f : Lamp → Lamp) : (d.modLamp c f).profiles = d.profiles := rfl
@[simp] theorem Dev.modLamp_cals (d : Dev) (c : Nat) (f : Lamp → Lamp) : (d.modLamp c f).cals = d.cals := rfl
@[simp] theorem Dev.modLamp_probes (d : Dev) (c : Nat) (f : Lamp → Lamp) : (d.modLamp c f).probes = d.probes := rfl
@[simp] theorem Dev.modLamp_calWait (d : Dev) (c : Nat) (f : Lamp → Lamp) : (d.modLamp c f).calWait = d.calWait := rfl
@[simp] theorem Dev.modLamp_scn (d : Dev) (c : Nat) (f : Lamp → Lamp) : (d.modLamp c f).scn = d.scn := rfl
@[simp] theorem Dev.modLamp_vis (d : Dev) (c : Nat) (f : Lamp → Lamp) : (d.modLamp c f).vis = d.vis := rfl
@[simp] theorem Dev.modLamp_dram (d : Dev) (c : Nat) (f : Lamp → Lamp) : (d.modLamp c f).dram = d.dram := rfl
@[simp] theorem Dev.modLamp_time (d : Dev) (c : Nat) (f : Lamp → Lamp) : (d.modLamp c f).time = d.time := rfl
@[simp] theorem Dev.modLamp_byf (d : Dev) (c : Nat) (f : Lamp → Lamp) : (d.modLamp c f).byf = d.byf := rfl
@[simp] theorem Dev.modLamp_mot (d : Dev) (c : Nat) (f : Lamp → Lamp) : (d.modLamp c f).mot = d.mot := rfl
@[simp] theorem Dev.modLamp_trim (d : Dev) (c : Nat) (f : Lamp → Lamp) : (d.modLamp c f).trim = d.trim := rfl
@[simp] theorem Dev.modLamp_gridCommits (d : Dev) (c : Nat) (f : Lamp → Lamp) : (d.modLamp c f).gridCommits = d.gridCommits := rfl
@[simp] theorem Dev.modLamp_recoated (d : Dev) (c : Nat) (f : Lamp → Lamp) : (d.modLamp c f).recoated = d.recoated := rfl
@[simp] theorem Dev.modLamp_members (d : Dev) (c : Nat) (f : Lamp → Lamp) : (d.modLamp c f).members = d.members := rfl
@[simp] theorem Dev.modLamp_out (d : Dev) (c : Nat) (f : Lamp → Lamp) : (d.modLamp c f).out = d.out := rfl
@[simp] theorem Dev.modLamp_freeCtr (d : Dev) (c : Nat) (f : Lamp → Lamp) : (d.modLamp c f).freeCtr = d.freeCtr := rfl
@[simp] theorem Dev.modLamp_rd (d : Dev) (c : Nat) (f : Lamp → Lamp) (off : Nat) : (d.modLamp c f).rd off = d.rd off := rfl

/-! ## modTrim -/

@[simp] theorem Dev.modTrim_variant (d : Dev) (f : TrimCtl → TrimCtl) : (d.modTrim f).variant = d.variant := rfl
@[simp] theorem Dev.modTrim_devId (d : Dev) (f : TrimCtl → TrimCtl) : (d.modTrim f).devId = d.devId := rfl
@[simp] theorem Dev.modTrim_regs (d : Dev) (f : TrimCtl → TrimCtl) : (d.modTrim f).regs = d.regs := rfl
@[simp] theorem Dev.modTrim_copies (d : Dev) (f : TrimCtl → TrimCtl) : (d.modTrim f).copies = d.copies := rfl
@[simp] theorem Dev.modTrim_tb0 (d : Dev) (f : TrimCtl → TrimCtl) : (d.modTrim f).tb0 = d.tb0 := rfl
@[simp] theorem Dev.modTrim_tb3 (d : Dev) (f : TrimCtl → TrimCtl) : (d.modTrim f).tb3 = d.tb3 := rfl
@[simp] theorem Dev.modTrim_mode (d : Dev) (f : TrimCtl → TrimCtl) : (d.modTrim f).mode = d.mode := rfl
@[simp] theorem Dev.modTrim_rings (d : Dev) (f : TrimCtl → TrimCtl) : (d.modTrim f).rings = d.rings := rfl
@[simp] theorem Dev.modTrim_hif (d : Dev) (f : TrimCtl → TrimCtl) : (d.modTrim f).hif = d.hif := rfl
@[simp] theorem Dev.modTrim_rcd (d : Dev) (f : TrimCtl → TrimCtl) : (d.modTrim f).rcd = d.rcd := rfl
@[simp] theorem Dev.modTrim_life (d : Dev) (f : TrimCtl → TrimCtl) : (d.modTrim f).life = d.life := rfl
@[simp] theorem Dev.modTrim_woram (d : Dev) (f : TrimCtl → TrimCtl) : (d.modTrim f).woram = d.woram := rfl
@[simp] theorem Dev.modTrim_closing (d : Dev) (f : TrimCtl → TrimCtl) : (d.modTrim f).closing = d.closing := rfl
@[simp] theorem Dev.modTrim_staged (d : Dev) (f : TrimCtl → TrimCtl) : (d.modTrim f).staged = d.staged := rfl
@[simp] theorem Dev.modTrim_recSeq (d : Dev) (f : TrimCtl → TrimCtl) : (d.modTrim f).recSeq = d.recSeq := rfl
@[simp] theorem Dev.modTrim_lay (d : Dev) (f : TrimCtl → TrimCtl) : (d.modTrim f).lay = d.lay := rfl
@[simp] theorem Dev.modTrim_grids (d : Dev) (f : TrimCtl → TrimCtl) : (d.modTrim f).grids = d.grids := rfl
@[simp] theorem Dev.modTrim_resids (d : Dev) (f : TrimCtl → TrimCtl) : (d.modTrim f).resids = d.resids := rfl
@[simp] theorem Dev.modTrim_flt (d : Dev) (f : TrimCtl → TrimCtl) : (d.modTrim f).flt = d.flt := rfl
@[simp] theorem Dev.modTrim_rails (d : Dev) (f : TrimCtl → TrimCtl) : (d.modTrim f).rails = d.rails := rfl
@[simp] theorem Dev.modTrim_bist (d : Dev) (f : TrimCtl → TrimCtl) : (d.modTrim f).bist = d.bist := rfl
@[simp] theorem Dev.modTrim_engines (d : Dev) (f : TrimCtl → TrimCtl) : (d.modTrim f).engines = d.engines := rfl
@[simp] theorem Dev.modTrim_keeper (d : Dev) (f : TrimCtl → TrimCtl) : (d.modTrim f).keeper = d.keeper := rfl
@[simp] theorem Dev.modTrim_replay (d : Dev) (f : TrimCtl → TrimCtl) : (d.modTrim f).replay = d.replay := rfl
@[simp] theorem Dev.modTrim_ldg (d : Dev) (f : TrimCtl → TrimCtl) : (d.modTrim f).ldg = d.ldg := rfl
@[simp] theorem Dev.modTrim_feats (d : Dev) (f : TrimCtl → TrimCtl) : (d.modTrim f).feats = d.feats := rfl
@[simp] theorem Dev.modTrim_profiles (d : Dev) (f : TrimCtl → TrimCtl) : (d.modTrim f).profiles = d.profiles := rfl
@[simp] theorem Dev.modTrim_cals (d : Dev) (f : TrimCtl → TrimCtl) : (d.modTrim f).cals = d.cals := rfl
@[simp] theorem Dev.modTrim_probes (d : Dev) (f : TrimCtl → TrimCtl) : (d.modTrim f).probes = d.probes := rfl
@[simp] theorem Dev.modTrim_calWait (d : Dev) (f : TrimCtl → TrimCtl) : (d.modTrim f).calWait = d.calWait := rfl
@[simp] theorem Dev.modTrim_scn (d : Dev) (f : TrimCtl → TrimCtl) : (d.modTrim f).scn = d.scn := rfl
@[simp] theorem Dev.modTrim_vis (d : Dev) (f : TrimCtl → TrimCtl) : (d.modTrim f).vis = d.vis := rfl
@[simp] theorem Dev.modTrim_dram (d : Dev) (f : TrimCtl → TrimCtl) : (d.modTrim f).dram = d.dram := rfl
@[simp] theorem Dev.modTrim_time (d : Dev) (f : TrimCtl → TrimCtl) : (d.modTrim f).time = d.time := rfl
@[simp] theorem Dev.modTrim_byf (d : Dev) (f : TrimCtl → TrimCtl) : (d.modTrim f).byf = d.byf := rfl
@[simp] theorem Dev.modTrim_mot (d : Dev) (f : TrimCtl → TrimCtl) : (d.modTrim f).mot = d.mot := rfl
@[simp] theorem Dev.modTrim_ill (d : Dev) (f : TrimCtl → TrimCtl) : (d.modTrim f).ill = d.ill := rfl
@[simp] theorem Dev.modTrim_gridCommits (d : Dev) (f : TrimCtl → TrimCtl) : (d.modTrim f).gridCommits = d.gridCommits := rfl
@[simp] theorem Dev.modTrim_recoated (d : Dev) (f : TrimCtl → TrimCtl) : (d.modTrim f).recoated = d.recoated := rfl
@[simp] theorem Dev.modTrim_members (d : Dev) (f : TrimCtl → TrimCtl) : (d.modTrim f).members = d.members := rfl
@[simp] theorem Dev.modTrim_out (d : Dev) (f : TrimCtl → TrimCtl) : (d.modTrim f).out = d.out := rfl
@[simp] theorem Dev.modTrim_freeCtr (d : Dev) (f : TrimCtl → TrimCtl) : (d.modTrim f).freeCtr = d.freeCtr := rfl
@[simp] theorem Dev.modTrim_rd (d : Dev) (f : TrimCtl → TrimCtl) (off : Nat) : (d.modTrim f).rd off = d.rd off := rfl

/-! ## modPort -/

@[simp] theorem Dev.modPort_variant (d : Dev) (b : Nat) (f : Port → Port) : (d.modPort b f).variant = d.variant := rfl
@[simp] theorem Dev.modPort_devId (d : Dev) (b : Nat) (f : Port → Port) : (d.modPort b f).devId = d.devId := rfl
@[simp] theorem Dev.modPort_regs (d : Dev) (b : Nat) (f : Port → Port) : (d.modPort b f).regs = d.regs := rfl
@[simp] theorem Dev.modPort_copies (d : Dev) (b : Nat) (f : Port → Port) : (d.modPort b f).copies = d.copies := rfl
@[simp] theorem Dev.modPort_tb0 (d : Dev) (b : Nat) (f : Port → Port) : (d.modPort b f).tb0 = d.tb0 := rfl
@[simp] theorem Dev.modPort_tb3 (d : Dev) (b : Nat) (f : Port → Port) : (d.modPort b f).tb3 = d.tb3 := rfl
@[simp] theorem Dev.modPort_mode (d : Dev) (b : Nat) (f : Port → Port) : (d.modPort b f).mode = d.mode := rfl
@[simp] theorem Dev.modPort_rings (d : Dev) (b : Nat) (f : Port → Port) : (d.modPort b f).rings = d.rings := rfl
@[simp] theorem Dev.modPort_hif (d : Dev) (b : Nat) (f : Port → Port) : (d.modPort b f).hif = d.hif := rfl
@[simp] theorem Dev.modPort_rcd (d : Dev) (b : Nat) (f : Port → Port) : (d.modPort b f).rcd = d.rcd := rfl
@[simp] theorem Dev.modPort_life (d : Dev) (b : Nat) (f : Port → Port) : (d.modPort b f).life = d.life := rfl
@[simp] theorem Dev.modPort_woram (d : Dev) (b : Nat) (f : Port → Port) : (d.modPort b f).woram = d.woram := rfl
@[simp] theorem Dev.modPort_closing (d : Dev) (b : Nat) (f : Port → Port) : (d.modPort b f).closing = d.closing := rfl
@[simp] theorem Dev.modPort_staged (d : Dev) (b : Nat) (f : Port → Port) : (d.modPort b f).staged = d.staged := rfl
@[simp] theorem Dev.modPort_recSeq (d : Dev) (b : Nat) (f : Port → Port) : (d.modPort b f).recSeq = d.recSeq := rfl
@[simp] theorem Dev.modPort_lay (d : Dev) (b : Nat) (f : Port → Port) : (d.modPort b f).lay = d.lay := rfl
@[simp] theorem Dev.modPort_grids (d : Dev) (b : Nat) (f : Port → Port) : (d.modPort b f).grids = d.grids := rfl
@[simp] theorem Dev.modPort_resids (d : Dev) (b : Nat) (f : Port → Port) : (d.modPort b f).resids = d.resids := rfl
@[simp] theorem Dev.modPort_flt (d : Dev) (b : Nat) (f : Port → Port) : (d.modPort b f).flt = d.flt := rfl
@[simp] theorem Dev.modPort_rails (d : Dev) (b : Nat) (f : Port → Port) : (d.modPort b f).rails = d.rails := rfl
@[simp] theorem Dev.modPort_bist (d : Dev) (b : Nat) (f : Port → Port) : (d.modPort b f).bist = d.bist := rfl
@[simp] theorem Dev.modPort_engines (d : Dev) (b : Nat) (f : Port → Port) : (d.modPort b f).engines = d.engines := rfl
@[simp] theorem Dev.modPort_keeper (d : Dev) (b : Nat) (f : Port → Port) : (d.modPort b f).keeper = d.keeper := rfl
@[simp] theorem Dev.modPort_replay (d : Dev) (b : Nat) (f : Port → Port) : (d.modPort b f).replay = d.replay := rfl
@[simp] theorem Dev.modPort_ldg (d : Dev) (b : Nat) (f : Port → Port) : (d.modPort b f).ldg = d.ldg := rfl
@[simp] theorem Dev.modPort_feats (d : Dev) (b : Nat) (f : Port → Port) : (d.modPort b f).feats = d.feats := rfl
@[simp] theorem Dev.modPort_profiles (d : Dev) (b : Nat) (f : Port → Port) : (d.modPort b f).profiles = d.profiles := rfl
@[simp] theorem Dev.modPort_cals (d : Dev) (b : Nat) (f : Port → Port) : (d.modPort b f).cals = d.cals := rfl
@[simp] theorem Dev.modPort_probes (d : Dev) (b : Nat) (f : Port → Port) : (d.modPort b f).probes = d.probes := rfl
@[simp] theorem Dev.modPort_calWait (d : Dev) (b : Nat) (f : Port → Port) : (d.modPort b f).calWait = d.calWait := rfl
@[simp] theorem Dev.modPort_vis (d : Dev) (b : Nat) (f : Port → Port) : (d.modPort b f).vis = d.vis := rfl
@[simp] theorem Dev.modPort_dram (d : Dev) (b : Nat) (f : Port → Port) : (d.modPort b f).dram = d.dram := rfl
@[simp] theorem Dev.modPort_time (d : Dev) (b : Nat) (f : Port → Port) : (d.modPort b f).time = d.time := rfl
@[simp] theorem Dev.modPort_byf (d : Dev) (b : Nat) (f : Port → Port) : (d.modPort b f).byf = d.byf := rfl
@[simp] theorem Dev.modPort_mot (d : Dev) (b : Nat) (f : Port → Port) : (d.modPort b f).mot = d.mot := rfl
@[simp] theorem Dev.modPort_ill (d : Dev) (b : Nat) (f : Port → Port) : (d.modPort b f).ill = d.ill := rfl
@[simp] theorem Dev.modPort_trim (d : Dev) (b : Nat) (f : Port → Port) : (d.modPort b f).trim = d.trim := rfl
@[simp] theorem Dev.modPort_gridCommits (d : Dev) (b : Nat) (f : Port → Port) : (d.modPort b f).gridCommits = d.gridCommits := rfl
@[simp] theorem Dev.modPort_recoated (d : Dev) (b : Nat) (f : Port → Port) : (d.modPort b f).recoated = d.recoated := rfl
@[simp] theorem Dev.modPort_members (d : Dev) (b : Nat) (f : Port → Port) : (d.modPort b f).members = d.members := rfl
@[simp] theorem Dev.modPort_out (d : Dev) (b : Nat) (f : Port → Port) : (d.modPort b f).out = d.out := rfl
@[simp] theorem Dev.modPort_freeCtr (d : Dev) (b : Nat) (f : Port → Port) : (d.modPort b f).freeCtr = d.freeCtr := rfl
@[simp] theorem Dev.modPort_rd (d : Dev) (b : Nat) (f : Port → Port) (off : Nat) : (d.modPort b f).rd off = d.rd off := rfl

/-! ## modLaser -/

@[simp] theorem Dev.modLaser_variant (d : Dev) (b : Nat) (f : Laser → Laser) : (d.modLaser b f).variant = d.variant := rfl
@[simp] theorem Dev.modLaser_devId (d : Dev) (b : Nat) (f : Laser → Laser) : (d.modLaser b f).devId = d.devId := rfl
@[simp] theorem Dev.modLaser_regs (d : Dev) (b : Nat) (f : Laser → Laser) : (d.modLaser b f).regs = d.regs := rfl
@[simp] theorem Dev.modLaser_copies (d : Dev) (b : Nat) (f : Laser → Laser) : (d.modLaser b f).copies = d.copies := rfl
@[simp] theorem Dev.modLaser_tb0 (d : Dev) (b : Nat) (f : Laser → Laser) : (d.modLaser b f).tb0 = d.tb0 := rfl
@[simp] theorem Dev.modLaser_tb3 (d : Dev) (b : Nat) (f : Laser → Laser) : (d.modLaser b f).tb3 = d.tb3 := rfl
@[simp] theorem Dev.modLaser_mode (d : Dev) (b : Nat) (f : Laser → Laser) : (d.modLaser b f).mode = d.mode := rfl
@[simp] theorem Dev.modLaser_rings (d : Dev) (b : Nat) (f : Laser → Laser) : (d.modLaser b f).rings = d.rings := rfl
@[simp] theorem Dev.modLaser_hif (d : Dev) (b : Nat) (f : Laser → Laser) : (d.modLaser b f).hif = d.hif := rfl
@[simp] theorem Dev.modLaser_rcd (d : Dev) (b : Nat) (f : Laser → Laser) : (d.modLaser b f).rcd = d.rcd := rfl
@[simp] theorem Dev.modLaser_life (d : Dev) (b : Nat) (f : Laser → Laser) : (d.modLaser b f).life = d.life := rfl
@[simp] theorem Dev.modLaser_woram (d : Dev) (b : Nat) (f : Laser → Laser) : (d.modLaser b f).woram = d.woram := rfl
@[simp] theorem Dev.modLaser_closing (d : Dev) (b : Nat) (f : Laser → Laser) : (d.modLaser b f).closing = d.closing := rfl
@[simp] theorem Dev.modLaser_staged (d : Dev) (b : Nat) (f : Laser → Laser) : (d.modLaser b f).staged = d.staged := rfl
@[simp] theorem Dev.modLaser_recSeq (d : Dev) (b : Nat) (f : Laser → Laser) : (d.modLaser b f).recSeq = d.recSeq := rfl
@[simp] theorem Dev.modLaser_lay (d : Dev) (b : Nat) (f : Laser → Laser) : (d.modLaser b f).lay = d.lay := rfl
@[simp] theorem Dev.modLaser_grids (d : Dev) (b : Nat) (f : Laser → Laser) : (d.modLaser b f).grids = d.grids := rfl
@[simp] theorem Dev.modLaser_resids (d : Dev) (b : Nat) (f : Laser → Laser) : (d.modLaser b f).resids = d.resids := rfl
@[simp] theorem Dev.modLaser_flt (d : Dev) (b : Nat) (f : Laser → Laser) : (d.modLaser b f).flt = d.flt := rfl
@[simp] theorem Dev.modLaser_rails (d : Dev) (b : Nat) (f : Laser → Laser) : (d.modLaser b f).rails = d.rails := rfl
@[simp] theorem Dev.modLaser_bist (d : Dev) (b : Nat) (f : Laser → Laser) : (d.modLaser b f).bist = d.bist := rfl
@[simp] theorem Dev.modLaser_engines (d : Dev) (b : Nat) (f : Laser → Laser) : (d.modLaser b f).engines = d.engines := rfl
@[simp] theorem Dev.modLaser_keeper (d : Dev) (b : Nat) (f : Laser → Laser) : (d.modLaser b f).keeper = d.keeper := rfl
@[simp] theorem Dev.modLaser_replay (d : Dev) (b : Nat) (f : Laser → Laser) : (d.modLaser b f).replay = d.replay := rfl
@[simp] theorem Dev.modLaser_ldg (d : Dev) (b : Nat) (f : Laser → Laser) : (d.modLaser b f).ldg = d.ldg := rfl
@[simp] theorem Dev.modLaser_feats (d : Dev) (b : Nat) (f : Laser → Laser) : (d.modLaser b f).feats = d.feats := rfl
@[simp] theorem Dev.modLaser_profiles (d : Dev) (b : Nat) (f : Laser → Laser) : (d.modLaser b f).profiles = d.profiles := rfl
@[simp] theorem Dev.modLaser_cals (d : Dev) (b : Nat) (f : Laser → Laser) : (d.modLaser b f).cals = d.cals := rfl
@[simp] theorem Dev.modLaser_probes (d : Dev) (b : Nat) (f : Laser → Laser) : (d.modLaser b f).probes = d.probes := rfl
@[simp] theorem Dev.modLaser_calWait (d : Dev) (b : Nat) (f : Laser → Laser) : (d.modLaser b f).calWait = d.calWait := rfl
@[simp] theorem Dev.modLaser_vis (d : Dev) (b : Nat) (f : Laser → Laser) : (d.modLaser b f).vis = d.vis := rfl
@[simp] theorem Dev.modLaser_dram (d : Dev) (b : Nat) (f : Laser → Laser) : (d.modLaser b f).dram = d.dram := rfl
@[simp] theorem Dev.modLaser_time (d : Dev) (b : Nat) (f : Laser → Laser) : (d.modLaser b f).time = d.time := rfl
@[simp] theorem Dev.modLaser_byf (d : Dev) (b : Nat) (f : Laser → Laser) : (d.modLaser b f).byf = d.byf := rfl
@[simp] theorem Dev.modLaser_mot (d : Dev) (b : Nat) (f : Laser → Laser) : (d.modLaser b f).mot = d.mot := rfl
@[simp] theorem Dev.modLaser_ill (d : Dev) (b : Nat) (f : Laser → Laser) : (d.modLaser b f).ill = d.ill := rfl
@[simp] theorem Dev.modLaser_trim (d : Dev) (b : Nat) (f : Laser → Laser) : (d.modLaser b f).trim = d.trim := rfl
@[simp] theorem Dev.modLaser_gridCommits (d : Dev) (b : Nat) (f : Laser → Laser) : (d.modLaser b f).gridCommits = d.gridCommits := rfl
@[simp] theorem Dev.modLaser_recoated (d : Dev) (b : Nat) (f : Laser → Laser) : (d.modLaser b f).recoated = d.recoated := rfl
@[simp] theorem Dev.modLaser_members (d : Dev) (b : Nat) (f : Laser → Laser) : (d.modLaser b f).members = d.members := rfl
@[simp] theorem Dev.modLaser_out (d : Dev) (b : Nat) (f : Laser → Laser) : (d.modLaser b f).out = d.out := rfl
@[simp] theorem Dev.modLaser_freeCtr (d : Dev) (b : Nat) (f : Laser → Laser) : (d.modLaser b f).freeCtr = d.freeCtr := rfl
@[simp] theorem Dev.modLaser_rd (d : Dev) (b : Nat) (f : Laser → Laser) (off : Nat) : (d.modLaser b f).rd off = d.rd off := rfl

/-! ## modCam -/

@[simp] theorem Dev.modCam_variant (d : Dev) (p : Nat) (f : Cam → Cam) : (d.modCam p f).variant = d.variant := rfl
@[simp] theorem Dev.modCam_devId (d : Dev) (p : Nat) (f : Cam → Cam) : (d.modCam p f).devId = d.devId := rfl
@[simp] theorem Dev.modCam_regs (d : Dev) (p : Nat) (f : Cam → Cam) : (d.modCam p f).regs = d.regs := rfl
@[simp] theorem Dev.modCam_copies (d : Dev) (p : Nat) (f : Cam → Cam) : (d.modCam p f).copies = d.copies := rfl
@[simp] theorem Dev.modCam_tb0 (d : Dev) (p : Nat) (f : Cam → Cam) : (d.modCam p f).tb0 = d.tb0 := rfl
@[simp] theorem Dev.modCam_tb3 (d : Dev) (p : Nat) (f : Cam → Cam) : (d.modCam p f).tb3 = d.tb3 := rfl
@[simp] theorem Dev.modCam_mode (d : Dev) (p : Nat) (f : Cam → Cam) : (d.modCam p f).mode = d.mode := rfl
@[simp] theorem Dev.modCam_rings (d : Dev) (p : Nat) (f : Cam → Cam) : (d.modCam p f).rings = d.rings := rfl
@[simp] theorem Dev.modCam_hif (d : Dev) (p : Nat) (f : Cam → Cam) : (d.modCam p f).hif = d.hif := rfl
@[simp] theorem Dev.modCam_rcd (d : Dev) (p : Nat) (f : Cam → Cam) : (d.modCam p f).rcd = d.rcd := rfl
@[simp] theorem Dev.modCam_life (d : Dev) (p : Nat) (f : Cam → Cam) : (d.modCam p f).life = d.life := rfl
@[simp] theorem Dev.modCam_woram (d : Dev) (p : Nat) (f : Cam → Cam) : (d.modCam p f).woram = d.woram := rfl
@[simp] theorem Dev.modCam_closing (d : Dev) (p : Nat) (f : Cam → Cam) : (d.modCam p f).closing = d.closing := rfl
@[simp] theorem Dev.modCam_staged (d : Dev) (p : Nat) (f : Cam → Cam) : (d.modCam p f).staged = d.staged := rfl
@[simp] theorem Dev.modCam_recSeq (d : Dev) (p : Nat) (f : Cam → Cam) : (d.modCam p f).recSeq = d.recSeq := rfl
@[simp] theorem Dev.modCam_lay (d : Dev) (p : Nat) (f : Cam → Cam) : (d.modCam p f).lay = d.lay := rfl
@[simp] theorem Dev.modCam_grids (d : Dev) (p : Nat) (f : Cam → Cam) : (d.modCam p f).grids = d.grids := rfl
@[simp] theorem Dev.modCam_resids (d : Dev) (p : Nat) (f : Cam → Cam) : (d.modCam p f).resids = d.resids := rfl
@[simp] theorem Dev.modCam_flt (d : Dev) (p : Nat) (f : Cam → Cam) : (d.modCam p f).flt = d.flt := rfl
@[simp] theorem Dev.modCam_rails (d : Dev) (p : Nat) (f : Cam → Cam) : (d.modCam p f).rails = d.rails := rfl
@[simp] theorem Dev.modCam_bist (d : Dev) (p : Nat) (f : Cam → Cam) : (d.modCam p f).bist = d.bist := rfl
@[simp] theorem Dev.modCam_engines (d : Dev) (p : Nat) (f : Cam → Cam) : (d.modCam p f).engines = d.engines := rfl
@[simp] theorem Dev.modCam_keeper (d : Dev) (p : Nat) (f : Cam → Cam) : (d.modCam p f).keeper = d.keeper := rfl
@[simp] theorem Dev.modCam_replay (d : Dev) (p : Nat) (f : Cam → Cam) : (d.modCam p f).replay = d.replay := rfl
@[simp] theorem Dev.modCam_ldg (d : Dev) (p : Nat) (f : Cam → Cam) : (d.modCam p f).ldg = d.ldg := rfl
@[simp] theorem Dev.modCam_feats (d : Dev) (p : Nat) (f : Cam → Cam) : (d.modCam p f).feats = d.feats := rfl
@[simp] theorem Dev.modCam_profiles (d : Dev) (p : Nat) (f : Cam → Cam) : (d.modCam p f).profiles = d.profiles := rfl
@[simp] theorem Dev.modCam_cals (d : Dev) (p : Nat) (f : Cam → Cam) : (d.modCam p f).cals = d.cals := rfl
@[simp] theorem Dev.modCam_probes (d : Dev) (p : Nat) (f : Cam → Cam) : (d.modCam p f).probes = d.probes := rfl
@[simp] theorem Dev.modCam_calWait (d : Dev) (p : Nat) (f : Cam → Cam) : (d.modCam p f).calWait = d.calWait := rfl
@[simp] theorem Dev.modCam_scn (d : Dev) (p : Nat) (f : Cam → Cam) : (d.modCam p f).scn = d.scn := rfl
@[simp] theorem Dev.modCam_dram (d : Dev) (p : Nat) (f : Cam → Cam) : (d.modCam p f).dram = d.dram := rfl
@[simp] theorem Dev.modCam_time (d : Dev) (p : Nat) (f : Cam → Cam) : (d.modCam p f).time = d.time := rfl
@[simp] theorem Dev.modCam_byf (d : Dev) (p : Nat) (f : Cam → Cam) : (d.modCam p f).byf = d.byf := rfl
@[simp] theorem Dev.modCam_mot (d : Dev) (p : Nat) (f : Cam → Cam) : (d.modCam p f).mot = d.mot := rfl
@[simp] theorem Dev.modCam_ill (d : Dev) (p : Nat) (f : Cam → Cam) : (d.modCam p f).ill = d.ill := rfl
@[simp] theorem Dev.modCam_trim (d : Dev) (p : Nat) (f : Cam → Cam) : (d.modCam p f).trim = d.trim := rfl
@[simp] theorem Dev.modCam_gridCommits (d : Dev) (p : Nat) (f : Cam → Cam) : (d.modCam p f).gridCommits = d.gridCommits := rfl
@[simp] theorem Dev.modCam_recoated (d : Dev) (p : Nat) (f : Cam → Cam) : (d.modCam p f).recoated = d.recoated := rfl
@[simp] theorem Dev.modCam_members (d : Dev) (p : Nat) (f : Cam → Cam) : (d.modCam p f).members = d.members := rfl
@[simp] theorem Dev.modCam_out (d : Dev) (p : Nat) (f : Cam → Cam) : (d.modCam p f).out = d.out := rfl
@[simp] theorem Dev.modCam_freeCtr (d : Dev) (p : Nat) (f : Cam → Cam) : (d.modCam p f).freeCtr = d.freeCtr := rfl
@[simp] theorem Dev.modCam_rd (d : Dev) (p : Nat) (f : Cam → Cam) (off : Nat) : (d.modCam p f).rd off = d.rd off := rfl

/-! ## modGrids -/

@[simp] theorem Dev.modGrids_variant (d : Dev) (b : Nat) (f : BeamGrids → BeamGrids) : (d.modGrids b f).variant = d.variant := rfl
@[simp] theorem Dev.modGrids_devId (d : Dev) (b : Nat) (f : BeamGrids → BeamGrids) : (d.modGrids b f).devId = d.devId := rfl
@[simp] theorem Dev.modGrids_regs (d : Dev) (b : Nat) (f : BeamGrids → BeamGrids) : (d.modGrids b f).regs = d.regs := rfl
@[simp] theorem Dev.modGrids_copies (d : Dev) (b : Nat) (f : BeamGrids → BeamGrids) : (d.modGrids b f).copies = d.copies := rfl
@[simp] theorem Dev.modGrids_tb0 (d : Dev) (b : Nat) (f : BeamGrids → BeamGrids) : (d.modGrids b f).tb0 = d.tb0 := rfl
@[simp] theorem Dev.modGrids_tb3 (d : Dev) (b : Nat) (f : BeamGrids → BeamGrids) : (d.modGrids b f).tb3 = d.tb3 := rfl
@[simp] theorem Dev.modGrids_mode (d : Dev) (b : Nat) (f : BeamGrids → BeamGrids) : (d.modGrids b f).mode = d.mode := rfl
@[simp] theorem Dev.modGrids_rings (d : Dev) (b : Nat) (f : BeamGrids → BeamGrids) : (d.modGrids b f).rings = d.rings := rfl
@[simp] theorem Dev.modGrids_hif (d : Dev) (b : Nat) (f : BeamGrids → BeamGrids) : (d.modGrids b f).hif = d.hif := rfl
@[simp] theorem Dev.modGrids_rcd (d : Dev) (b : Nat) (f : BeamGrids → BeamGrids) : (d.modGrids b f).rcd = d.rcd := rfl
@[simp] theorem Dev.modGrids_life (d : Dev) (b : Nat) (f : BeamGrids → BeamGrids) : (d.modGrids b f).life = d.life := rfl
@[simp] theorem Dev.modGrids_woram (d : Dev) (b : Nat) (f : BeamGrids → BeamGrids) : (d.modGrids b f).woram = d.woram := rfl
@[simp] theorem Dev.modGrids_closing (d : Dev) (b : Nat) (f : BeamGrids → BeamGrids) : (d.modGrids b f).closing = d.closing := rfl
@[simp] theorem Dev.modGrids_staged (d : Dev) (b : Nat) (f : BeamGrids → BeamGrids) : (d.modGrids b f).staged = d.staged := rfl
@[simp] theorem Dev.modGrids_recSeq (d : Dev) (b : Nat) (f : BeamGrids → BeamGrids) : (d.modGrids b f).recSeq = d.recSeq := rfl
@[simp] theorem Dev.modGrids_lay (d : Dev) (b : Nat) (f : BeamGrids → BeamGrids) : (d.modGrids b f).lay = d.lay := rfl
@[simp] theorem Dev.modGrids_resids (d : Dev) (b : Nat) (f : BeamGrids → BeamGrids) : (d.modGrids b f).resids = d.resids := rfl
@[simp] theorem Dev.modGrids_flt (d : Dev) (b : Nat) (f : BeamGrids → BeamGrids) : (d.modGrids b f).flt = d.flt := rfl
@[simp] theorem Dev.modGrids_rails (d : Dev) (b : Nat) (f : BeamGrids → BeamGrids) : (d.modGrids b f).rails = d.rails := rfl
@[simp] theorem Dev.modGrids_bist (d : Dev) (b : Nat) (f : BeamGrids → BeamGrids) : (d.modGrids b f).bist = d.bist := rfl
@[simp] theorem Dev.modGrids_engines (d : Dev) (b : Nat) (f : BeamGrids → BeamGrids) : (d.modGrids b f).engines = d.engines := rfl
@[simp] theorem Dev.modGrids_keeper (d : Dev) (b : Nat) (f : BeamGrids → BeamGrids) : (d.modGrids b f).keeper = d.keeper := rfl
@[simp] theorem Dev.modGrids_replay (d : Dev) (b : Nat) (f : BeamGrids → BeamGrids) : (d.modGrids b f).replay = d.replay := rfl
@[simp] theorem Dev.modGrids_ldg (d : Dev) (b : Nat) (f : BeamGrids → BeamGrids) : (d.modGrids b f).ldg = d.ldg := rfl
@[simp] theorem Dev.modGrids_feats (d : Dev) (b : Nat) (f : BeamGrids → BeamGrids) : (d.modGrids b f).feats = d.feats := rfl
@[simp] theorem Dev.modGrids_profiles (d : Dev) (b : Nat) (f : BeamGrids → BeamGrids) : (d.modGrids b f).profiles = d.profiles := rfl
@[simp] theorem Dev.modGrids_cals (d : Dev) (b : Nat) (f : BeamGrids → BeamGrids) : (d.modGrids b f).cals = d.cals := rfl
@[simp] theorem Dev.modGrids_probes (d : Dev) (b : Nat) (f : BeamGrids → BeamGrids) : (d.modGrids b f).probes = d.probes := rfl
@[simp] theorem Dev.modGrids_calWait (d : Dev) (b : Nat) (f : BeamGrids → BeamGrids) : (d.modGrids b f).calWait = d.calWait := rfl
@[simp] theorem Dev.modGrids_scn (d : Dev) (b : Nat) (f : BeamGrids → BeamGrids) : (d.modGrids b f).scn = d.scn := rfl
@[simp] theorem Dev.modGrids_vis (d : Dev) (b : Nat) (f : BeamGrids → BeamGrids) : (d.modGrids b f).vis = d.vis := rfl
@[simp] theorem Dev.modGrids_dram (d : Dev) (b : Nat) (f : BeamGrids → BeamGrids) : (d.modGrids b f).dram = d.dram := rfl
@[simp] theorem Dev.modGrids_time (d : Dev) (b : Nat) (f : BeamGrids → BeamGrids) : (d.modGrids b f).time = d.time := rfl
@[simp] theorem Dev.modGrids_byf (d : Dev) (b : Nat) (f : BeamGrids → BeamGrids) : (d.modGrids b f).byf = d.byf := rfl
@[simp] theorem Dev.modGrids_mot (d : Dev) (b : Nat) (f : BeamGrids → BeamGrids) : (d.modGrids b f).mot = d.mot := rfl
@[simp] theorem Dev.modGrids_ill (d : Dev) (b : Nat) (f : BeamGrids → BeamGrids) : (d.modGrids b f).ill = d.ill := rfl
@[simp] theorem Dev.modGrids_trim (d : Dev) (b : Nat) (f : BeamGrids → BeamGrids) : (d.modGrids b f).trim = d.trim := rfl
@[simp] theorem Dev.modGrids_gridCommits (d : Dev) (b : Nat) (f : BeamGrids → BeamGrids) : (d.modGrids b f).gridCommits = d.gridCommits := rfl
@[simp] theorem Dev.modGrids_recoated (d : Dev) (b : Nat) (f : BeamGrids → BeamGrids) : (d.modGrids b f).recoated = d.recoated := rfl
@[simp] theorem Dev.modGrids_members (d : Dev) (b : Nat) (f : BeamGrids → BeamGrids) : (d.modGrids b f).members = d.members := rfl
@[simp] theorem Dev.modGrids_out (d : Dev) (b : Nat) (f : BeamGrids → BeamGrids) : (d.modGrids b f).out = d.out := rfl
@[simp] theorem Dev.modGrids_freeCtr (d : Dev) (b : Nat) (f : BeamGrids → BeamGrids) : (d.modGrids b f).freeCtr = d.freeCtr := rfl
@[simp] theorem Dev.modGrids_rd (d : Dev) (b : Nat) (f : BeamGrids → BeamGrids) (off : Nat) : (d.modGrids b f).rd off = d.rd off := rfl

end Sys2Proof.Machine
end

