-- ==== Sys2Proof/Laws/Commands.lean ====
section
/-! SUPPORT. How a command runs: what `State.whenUp`, `State.on` and `State.command` answer, and what completing
a command leaves alone. -/

namespace Sys2Proof.Machine

/-- A host access acts while the device is up. -/
theorem whenUp_up (s : State) (f : Dev → Dev) (h : Up s) : s.whenUp f = .next { s with dev := f s.dev } := by
  obtain ⟨hb, hp⟩ := h
  have hb' : ¬ s.dev.mode.boot < 4 := by omega
  simp [State.whenUp, hb', hp]

/-- Before that it leaves the state as it is. -/
theorem whenUp_down (s : State) (f : Dev → Dev) (h : ¬ Up s) : s.whenUp f = .next s := by
  by_cases hb : s.dev.mode.boot < 4
  · simp [State.whenUp, hb]
  · cases hp : s.dev.rcd.pfail with
    | true => simp [State.whenUp, hp]
    | false => exact absurd ⟨by omega, hp⟩ h

/-- An event acts out of reset. -/
theorem on_awake (s : State) (f : Dev → Dev) (h : Awake s) : s.on f = .next { s with dev := f s.dev } := by
  have h' : ¬ s.dev.mode.boot = 0 := h
  simp [State.on, h']

/-- Whatever it is, a host access answers a next state that differs in the device alone. -/
theorem whenUp_next (s : State) (f : Dev → Dev) : ∃ d, s.whenUp f = .next { s with dev := d } := by
  by_cases h : Up s
  · exact ⟨_, whenUp_up s f h⟩
  · exact ⟨s.dev, whenUp_down s f h⟩

theorem on_next (s : State) (f : Dev → Dev) : ∃ d, s.on f = .next { s with dev := d } := by
  by_cases h : s.dev.mode.boot = 0
  · exact ⟨s.dev, by simp [State.on, h]⟩
  · exact ⟨f s.dev, by simp [State.on, h]⟩

/-- A command whose checks pass takes its effect. -/
theorem command_takes (s : State) (op : Nat) (c : Cmd) (r : Req) (e : Env) (h : Takes s op c r) :
    s.command op c r e = .next { s with dev := c.effect (asOp op r) e (started s op r) } := by
  obtain ⟨hu, hr, hg, hd, hc⟩ := h
  unfold State.command
  rw [whenUp_up _ _ hu]
  have hl : (asOp op r).dataLen = 0 := hd
  change Host.Outcome.next { s with dev := (if (!s.dev.mayTake (asOp op r)) = true then s.dev
    else if (!groupOn op (s.dev.ringType r.ring)) = true then (s.dev.launch (asOp op r)).fail (asOp op r) stMalformed 0x0003
    else c.run (asOp op r) e s.dev) } = _
  have hrun : c.run (asOp op r) e s.dev = c.effect (asOp op r) e (started s op r) := by
    unfold Cmd.run
    change (match c.check (started s op r) (asOp op r) with
      | some (st, x) => (started s op r).fail (asOp op r) st x
      | none => c.finish (asOp op r) e (started s op r)) = _
    rw [hc]
    simp only [Cmd.finish, hl]
  simp [hr, hg, hrun]

/-- The same with input data, of which it takes as many bytes as it names. -/
theorem command_takesData (s : State) (op : Nat) (c : Cmd) (r : Req) (e : Env) (h : TakesData s op c r e) :
    s.command op c r e =
      .next { s with dev := c.effect (asOp op r) { e with data := dataOf r e } (started s op r) } := by
  obtain ⟨hu, hr, hg, hd, hf, hc⟩ := h
  unfold State.command
  rw [whenUp_up _ _ hu]
  have hl : (asOp op r).dataLen = r.dataLen := rfl
  change Host.Outcome.next { s with dev := (if (!s.dev.mayTake (asOp op r)) = true then s.dev
    else if (!groupOn op (s.dev.ringType r.ring)) = true then (s.dev.launch (asOp op r)).fail (asOp op r) stMalformed 0x0003
    else c.run (asOp op r) e s.dev) } = _
  have hrun : c.run (asOp op r) e s.dev = c.effect (asOp op r) { e with data := dataOf r e } (started s op r) := by
    unfold Cmd.run
    change (match c.check (started s op r) (asOp op r) with
      | some (st, x) => (started s op r).fail (asOp op r) st x
      | none => c.finish (asOp op r) e (started s op r)) = _
    rw [hc]
    have hfin : ∀ n, n ≠ 0 → (asOp op r).dataLen = n → c.finish (asOp op r) e (started s op r) =
        c.effect (asOp op r) { e with data := e.data.take n } (started s op r) := by
      intro n hn h'
      unfold Cmd.finish
      rw [h']
      cases n with
      | zero => exact absurd rfl hn
      | succ k => simp only [hf]
    exact hfin r.dataLen hd hl
  simp [hr, hg, hrun]

/-! ## What completing a command changes -/

/-- `b` differs from `a` at most in the registers, the rings, the host interface and what has left the device. -/
def HostSide (a b : Dev) : Prop :=
  ∃ regs rings hif out, b = { a with regs := regs, rings := rings, hif := hif, out := out }

theorem HostSide.refl (a : Dev) : HostSide a a := ⟨a.regs, a.rings, a.hif, a.out, rfl⟩

theorem HostSide.trans {a b c : Dev} (h : HostSide a b) (k : HostSide b c) : HostSide a c := by
  obtain ⟨r, g, i, o, rfl⟩ := h
  obtain ⟨r', g', i', o', rfl⟩ := k
  exact ⟨r', g', i', o', rfl⟩

theorem hostSide_msix (d : Dev) (v : Nat) : HostSide d (d.msix v) := by
  unfold Dev.msix
  split
  · exact ⟨d.regs, d.rings, _, d.out, rfl⟩
  · exact ⟨d.regs, d.rings, d.hif, _, rfl⟩

theorem hostSide_signal (d : Dev) (lo : Nat) : HostSide d (d.signal lo) := by
  unfold Dev.signal
  simp only
  split
  · exact HostSide.refl d
  · refine HostSide.trans ?_ (hostSide_msix _ _)
    exact ⟨d.regs, d.rings, _, d.out, rfl⟩

theorem hostSide_modRing (d : Dev) (n : Nat) (f : Ring → Ring) : HostSide d (d.modRing n f) :=
  ⟨d.regs, _, d.hif, d.out, rfl⟩

theorem hostSide_send (d : Dev) (o : Output) : HostSide d (d.send o) := ⟨d.regs, d.rings, d.hif, _, rfl⟩

theorem hostSide_wr (d : Dev) (o : Nat) (w : Word) : HostSide d (d.wr o w) := ⟨_, d.rings, d.hif, d.out, rfl⟩

theorem hostSide_writeCqe (d : Dev) (n : Nat) (c : Cqe) : HostSide d (d.writeCqe n c) := by
  unfold Dev.writeCqe
  have h1 : ∀ (f : Ring → Ring) (o : Output), HostSide d ((d.send o).modRing n f) :=
    fun f o => (hostSide_send d o).trans (hostSide_modRing _ _ _)
  simp only
  split
  · exact (h1 _ _).trans ((hostSide_modRing _ _ _).trans (hostSide_msix _ _))
  · exact h1 _ _

theorem hostSide_putCqe (d : Dev) (n : Nat) (c : Cqe) : HostSide d (d.putCqe n c) := by
  unfold Dev.putCqe
  split
  · exact hostSide_writeCqe d n c
  · exact hostSide_modRing d n _

theorem hostSide_retire (d : Dev) (q : Req) (st : Nat) : HostSide d (d.retire q st) := by
  unfold Dev.retire
  simp only
  split
  · exact (hostSide_modRing _ _ _).trans ((hostSide_wr _ _ _).trans (hostSide_signal _ _))
  · exact hostSide_modRing _ _ _

/-- Completing with any status but STATE_REJECT changes the host side alone. -/
theorem hostSide_complete (d : Dev) (q : Req) (st x : Nat) (b : List Byte) (h : st ≠ stReject) :
    HostSide d (d.complete q st x b) := by
  unfold Dev.complete
  rw [if_neg h]
  exact (hostSide_retire d q st).trans (hostSide_putCqe _ _ _)

theorem hostSide_ok (d : Dev) (q : Req) (a b c e : Nat) : HostSide d (d.ok q a b c e) :=
  hostSide_complete d q stOk 0 _ (by decide)

theorem hostSide_fail (d : Dev) (q : Req) (st x : Nat) (h : st ≠ stReject) : HostSide d (d.fail q st x) :=
  hostSide_complete d q st x [] h

theorem hostSide_okData (d : Dev) (q : Req) (bs : List Byte) (a b c e : Nat) : HostSide d (d.okData q bs a b c e) := by
  unfold Dev.okData
  split
  · exact hostSide_ok d q a b c e
  · exact (hostSide_send d _).trans (hostSide_ok _ q a b c e)

theorem hostSide_launch (d : Dev) (q : Req) : HostSide d (d.launch q) := hostSide_modRing d _ _

theorem hostSide_started (s : State) (op : Nat) (r : Req) : HostSide s.dev (started s op r) := hostSide_launch _ _

end Sys2Proof.Machine
end

