-- ==== Sys2Proof/Laws/Access.lean ====
section
/-! SUPPORT. What a register write can do, by the command its register has. -/

namespace Sys2Proof.Machine

/-- The command changes the device alone, but for a training at DRAM_CTRL, which empties the memory. -/
def AnswersDev (off : Nat) (f : Meaning) : Prop :=
  ∀ s, (∃ d, f s = .next { s with dev := d }) ∨ (off = DRAM_CTRL ∧ ∃ d, f s = .next { s with dev := d, mem := [] })
theorem mem_of_bankGet {α : Type} {l : List (Nat × α)} {k : Nat} {a : α} (h : bankGet l k = some a) : (k, a) ∈ l := by
  induction l with
  | nil => simp at h
  | cons p l ih =>
    obtain ⟨j, b⟩ := p
    unfold bankGet at h
    split at h
    · next hj => subst hj; simp_all
    · exact List.mem_cons_of_mem _ (ih h)
theorem up_answers (off : Nat) (g : Dev → Dev) : AnswersDev off (fun s => s.whenUp g) := fun s => Or.inl (whenUp_next s g)

theorem dramTrain_answers (b : Bool) : AnswersDev DRAM_CTRL (fun s => if b then execDramTrain s else .next s) := by
  intro s
  cases b with
  | false => exact Or.inl ⟨s.dev, rfl⟩
  | true =>
    show (∃ d, execDramTrain s = _) ∨ (DRAM_CTRL = DRAM_CTRL ∧ ∃ d, execDramTrain s = _)
    unfold execDramTrain
    split
    · exact Or.inl ⟨s.dev, rfl⟩
    · exact Or.inr ⟨rfl, _, rfl⟩

theorem timeSnap_answers (off : Nat) (b : Bool) : AnswersDev off (fun s => if b then execTimeSnap s else .next s) := by
  intro s
  cases b with
  | false => exact Or.inl ⟨s.dev, rfl⟩
  | true =>
    refine Or.inl ?_
    show ∃ d, execTimeSnap s = _
    exact whenUp_next s _

theorem ownSingles_answers (v : Word) (p : Nat × Meaning) (h : p ∈ ownSingles v) : AnswersDev p.1 p.2 := by
  simp only [ownSingles, List.mem_cons, List.not_mem_nil, or_false] at h
  rcases h with h | h | h | h | h | h | h | h | h | h | h | h | h | h | h | h <;> subst h
  case inr.inr.inl => exact dramTrain_answers _
  case inr.inr.inr.inr.inr.inr.inr.inr.inr.inr.inr.inl => exact timeSnap_answers _ _
  all_goals
    intro s
    refine Or.inl ?_
    dsimp only
    exact whenUp_next s _

theorem ownEngine_answers (n : Fin 18) (k i j : Nat) (v : Word) (f : Meaning) (off : Nat)
    (h : ownEngine n k i j v = some f) : AnswersDev off f := by
  unfold ownEngine at h
  split_ifs at h <;> cases h <;> exact fun s => Or.inl (whenUp_next s _)

theorem ownArray_answers (page k i j : Nat) (v : Word) (f : Meaning) (off : Nat)
    (h : ownArray page k i j v = some f) : AnswersDev off f := by
  unfold ownArray at h
  split_ifs at h <;> cases h <;> exact fun s => Or.inl (whenUp_next s _)

theorem ownWrite_answers (off i j : Nat) (v : Word) (f : Meaning) (h : ownWrite off i j v = some f) : AnswersDev off f := by
  unfold ownWrite at h
  simp only at h
  split at h
  · next g hg => cases h; exact ownSingles_answers v _ (mem_of_bankGet hg)
  · split at h
    · exact ownEngine_answers _ _ _ _ _ _ _ h
    · exact ownArray_answers _ _ _ _ _ _ _ h
theorem registerWrite_answers (o : BitVec 25) (v m h : Word) : AnswersDev o.toNat (execRegisterWrite o v m h) := by
  intro s
  unfold execRegisterWrite
  simp only
  split
  · exact Or.inl (whenUp_next s _)
  · split
    · exact Or.inl (whenUp_next s _)
    · split
      · split
        · next f hf =>
          split
          · exact ownWrite_answers _ _ _ _ _ hf s
          · exact ownWrite_answers _ _ _ _ _ hf { s with dev := _ }
        · exact Or.inl ⟨s.dev, rfl⟩
      · exact Or.inl (whenUp_next s _)

end Sys2Proof.Machine
end

