-- ==== Sys2Proof/Laws/Boot.lean ====
section
/-! SUPPORT. What the pins in reset, and a reset, leave of the device. -/

namespace Sys2Proof.Machine

/-- Folding a step that keeps a relation keeps it. -/
theorem foldl_keeps {α β : Type} (R : α → α → Prop) (refl : ∀ a, R a a) (trans : ∀ a b c, R a b → R b c → R a c)
    (f : α → β → α) (h : ∀ a b, R a (f a b)) (l : List β) (a : α) : R a (l.foldl f a) := by
  induction l generalizing a with
  | nil => exact refl a
  | cons b l ih => exact trans _ _ _ (h a b) (ih (f a b))

/-- `b` differs from `a` at most in the scanner and laser outputs and in what has left the device. -/
def PinSide (a b : Dev) : Prop := ∃ scn out, b = { a with scn := scn, out := out }

theorem PinSide.refl (a : Dev) : PinSide a a := ⟨a.scn, a.out, rfl⟩

theorem PinSide.trans {a b c : Dev} (h : PinSide a b) (k : PinSide b c) : PinSide a c := by
  obtain ⟨s, o, rfl⟩ := h
  obtain ⟨s', o', rfl⟩ := k
  exact ⟨s', o', rfl⟩

theorem pinSide_setEmit (d : Dev) (b : Nat) (on : Bool) : PinSide d (d.setEmit b on) := by
  unfold Dev.setEmit
  split
  · exact PinSide.refl d
  · split
    · exact PinSide.refl d
    · exact ⟨_, _, rfl⟩

theorem pinSide_pinsReset (d : Dev) : PinSide d d.pinsReset :=
  foldl_keeps PinSide PinSide.refl (fun _ _ _ => PinSide.trans) _
    (fun a b => (pinSide_setEmit a b false).trans ⟨_, _, rfl⟩) _ d

/-- Every register at its reset value but MODE_RST_CAUSE. -/
theorem resetAll_rd (d : Dev) (off : Nat) :
    d.resetAll.rd off = if off = MODE_RST_CAUSE then 1 else resetOf d.variant off := by
  show (bankGet [(0x10008, (1 : Word))] off).getD (resetOf d.variant off) = _
  by_cases h : off = MODE_RST_CAUSE
  · subst h; rfl
  · have h' : ¬ 0x10008 = off := fun e => h e.symm
    simp [bankGet, h, h']

end Sys2Proof.Machine
end

