-- ==== Sys2Proof/Laws/Faults.lean ====
section
/-! SUPPORT. What the fault collector does with a report: a NOTE-class fault is recorded and changes nothing else; a
SAFE-class fault takes the device to SAFE. -/

namespace Sys2Proof.Machine

/-- `b` differs from `a` at most in what the collector, the recorder, the host interface and the Byoft link hold. -/
def Recorded (a b : Dev) : Prop :=
  ∃ regs rings hif rcd flt life byf out,
    b = { a with regs := regs, rings := rings, hif := hif, rcd := rcd, flt := flt, life := life, byf := byf, out := out }

theorem Recorded.refl (a : Dev) : Recorded a a := ⟨a.regs, a.rings, a.hif, a.rcd, a.flt, a.life, a.byf, a.out, rfl⟩

theorem Recorded.trans {a b c : Dev} (h : Recorded a b) (k : Recorded b c) : Recorded a c := by
  obtain ⟨r, g, i, e, f, l, b, o, rfl⟩ := h
  obtain ⟨r', g', i', e', f', l', b', o', rfl⟩ := k
  exact ⟨r', g', i', e', f', l', b', o', rfl⟩

theorem HostSide.recorded {a b : Dev} (h : HostSide a b) : Recorded a b := by
  obtain ⟨r, g, i, o, rfl⟩ := h
  exact ⟨r, g, i, a.rcd, a.flt, a.life, a.byf, o, rfl⟩

theorem recorded_wr (d : Dev) (o : Nat) (w : Word) : Recorded d (d.wr o w) := (hostSide_wr d o w).recorded

theorem recorded_signal (d : Dev) (lo : Nat) : Recorded d (d.signal lo) := (hostSide_signal d _).recorded

theorem recorded_flt (d : Dev) (f : Faults) : Recorded d { d with flt := f } :=
  ⟨d.regs, d.rings, d.hif, d.rcd, f, d.life, d.byf, d.out, rfl⟩

theorem recorded_rcd (d : Dev) (f : Recorder) : Recorded d { d with rcd := f } :=
  ⟨d.regs, d.rings, d.hif, f, d.flt, d.life, d.byf, d.out, rfl⟩

theorem recorded_life (d : Dev) (f : Life) : Recorded d { d with life := f } :=
  ⟨d.regs, d.rings, d.hif, d.rcd, d.flt, f, d.byf, d.out, rfl⟩

theorem recorded_send (d : Dev) (o : Output) : Recorded d (d.send o) := (hostSide_send d o).recorded

theorem recorded_byf (d : Dev) (b : Byoft) : Recorded d { d with byf := b } :=
  ⟨d.regs, d.rings, d.hif, d.rcd, d.flt, d.life, b, d.out, rfl⟩

theorem recorded_sendFlit (d : Dev) (p type src dst : Nat) (c : List Int) : Recorded d (d.sendFlit p type src dst c) :=
  (recorded_byf d _).trans (recorded_send _ _)

theorem recorded_sendTo (d : Dev) (v type : Nat) (c : List Int) : Recorded d (d.sendTo v type c) := by
  unfold Dev.sendTo Dev.sendFrom
  split
  · exact recorded_sendFlit _ _ _ _ _ _
  · exact Recorded.refl d

theorem recorded_ownEvent (d : Dev) (e : Event) : Recorded d (d.ownEvent e) :=
  (recorded_rcd d _).trans
    (foldl_keeps Recorded Recorded.refl (fun _ _ _ => Recorded.trans) _ (fun a _ => recorded_sendTo a _ _ _) _ _)

theorem recorded_emit (d : Dev) (src code : Nat) (p : List Byte) : Recorded d (d.emit src code p) := recorded_ownEvent d _

theorem recorded_setErr (d : Dev) (off bit : Nat) : Recorded d (d.setErr off bit) := by
  unfold Dev.setErr
  dsimp only
  split
  · exact (recorded_wr d _ _).trans (recorded_signal _ _)
  · exact recorded_wr d _ _

theorem recorded_startFlush (d : Dev) : Recorded d d.startFlush := by
  unfold Dev.startFlush
  split
  · exact Recorded.refl d
  · split <;> exact recorded_rcd d _

theorem recorded_faultFlush (d : Dev) (c : Cls) : Recorded d (d.faultFlush c) := by
  unfold Dev.faultFlush
  split
  · exact recorded_startFlush d
  · split
    · exact recorded_startFlush d
    · exact recorded_rcd d _

theorem recorded_ite (c : Prop) [Decidable c] {a x y : Dev} (h : Recorded a x) (k : Recorded a y) :
    Recorded a (if c then x else y) := by split <;> assumption

/-- A further step, taken or not. -/
theorem recorded_step (c : Prop) [Decidable c] {a x y : Dev} (h : Recorded a y) (k : Recorded y x) :
    Recorded a (if c then x else y) := by
  split
  · exact h.trans k
  · exact h

theorem recorded_enter (d : Dev) (h : Hist) : Recorded d (d.enter h) := by
  unfold Dev.enter
  dsimp only
  refine Recorded.trans ?_ (recorded_signal _ _)
  refine recorded_step _ ?_ (recorded_wr _ _ _)
  refine recorded_step _ ?_ (recorded_wr _ _ _)
  refine Recorded.trans ?_ (recorded_wr _ _ _)
  refine Recorded.trans ?_ (recorded_wr _ _ _)
  refine Recorded.trans ?_ (recorded_wr _ _ _)
  refine recorded_step _ ?_ (recorded_wr _ _ _)
  exact recorded_flt d _

theorem recorded_complete (d : Dev) (q : Req) (st x : Nat) (b : List Byte) : Recorded d (d.complete q st x b) := by
  unfold Dev.complete
  dsimp only
  refine Recorded.trans ?_ (hostSide_putCqe _ _ _).recorded
  refine Recorded.trans ?_ (hostSide_retire _ _ _).recorded
  exact recorded_step _ (Recorded.refl _) (recorded_emit _ _ _ _)

/-- The records of an admitted fault. -/
theorem recorded_recordFault (d : Dev) (inj : Bool) (src cause : Nat) (p : Word) (c : Cls) (b : Bool) :
    Recorded d (d.recordFault inj src cause p c b) := by
  unfold Dev.recordFault
  dsimp only
  refine Recorded.trans ?_ (recorded_faultFlush _ _)
  refine Recorded.trans ?_ (recorded_life _ _)
  refine Recorded.trans ?_ (recorded_ownEvent _ _)
  refine Recorded.trans ?_ (recorded_enter _ _)
  have h1 : Recorded d (if (!inj && d.flt.inj.isSome) = true then d.setBit FLT_STATUS 5 true else d) :=
    recorded_step _ (Recorded.refl d) (recorded_wr d _ _)
  refine recorded_step _ ?_ (recorded_wr _ _ _)
  split
  · exact h1.trans (recorded_setErr _ _ _)
  · exact h1

/-- A NOTE-class fault that is not promoted is recorded, and nothing else changes (R465, R471, R472). -/
theorem raise_note (d : Dev) (src cause : Nat) (p : Word) (hc : d.faultClass src cause p = some .note)
    (hp : d.promotes src .note = false) :
    d.raiseHow .real src cause p = d.recordFault false src cause p .note false := by
  unfold Dev.raiseHow How.classOf
  simp [How.real, hc, hp, Dev.react]

end Sys2Proof.Machine
end

