-- ==== Sys2Proof/Laws/Meanings.lean ====
section
/-! SUPPORT. What each command can do, said once for each: in reset it does nothing, and it changes the device alone.
The commands that act in reset, or on the memory, have lemmas of their own at the end. -/

namespace Sys2Proof.Machine

/-- In reset the command does nothing, and out of it it answers a next state that differs in the device alone. -/
structure Acts (f : Meaning) : Prop where
  still : ∀ s, s.dev.mode.boot = 0 → f s = .next s
  goes : ∀ s, ∃ d, f s = .next { s with dev := d }

theorem acts_on (g : Dev → Dev) : Acts (fun s => s.on g) :=
  ⟨fun s h => by simp [State.on, h], fun s => on_next s g⟩

theorem acts_up (g : Dev → Dev) : Acts (fun s => s.whenUp g) :=
  ⟨fun s h => by simp [State.whenUp, h], fun s => whenUp_next s g⟩

theorem acts_command (op : Nat) (c : Cmd) (r : Req) (e : Env) : Acts (fun s => s.command op c r e) := acts_up _

theorem execSoftKey_acts (key : BitVec 16) : Acts (execSoftKey key) := acts_up _
theorem execCauseClr_acts (hwSet : BitVec 4) : Acts (execCauseClr hwSet) := acts_up _
theorem execSafeReq_acts : Acts (execSafeReq) := acts_up _
theorem execFwLoadStart_acts (ctrl : Word) : Acts (execFwLoadStart ctrl) := acts_up _
theorem execFwLoadDone_acts (image : Option (List Byte)) : Acts (execFwLoadDone image) := acts_up _
theorem execW1cClear_acts (off : BitVec 25) (val hwSet : Word) : Acts (execW1cClear off val hwSet) := acts_up _
theorem execLostClearClr_acts (off : BitVec 25) (val : Word) (inc : Nat) (lastBit : Fin 32) : Acts (execLostClearClr off val inc lastBit) := acts_up _
theorem execLowWordRead_acts (off : BitVec 25) : Acts (execLowWordRead off) := acts_up _
theorem execBar0BadRequest_acts (isWrite : Bool) : Acts (execBar0BadRequest isWrite) := acts_up _
theorem execRingEnable_acts (n : Fin 64) (type : Fin 4) : Acts (execRingEnable n type) := acts_up _
theorem execRingDisable_acts (n : Fin 64) : Acts (execRingDisable n) := acts_up _
theorem execRingReset_acts (n : Fin 64) : Acts (execRingReset n) := acts_up _
theorem execBarrierAck_acts (n : Fin 64) (e : Env) : Acts (execBarrierAck n e) := acts_up _
theorem execDoorbellPoll_acts (page : Option (List Word64)) (e : Env) : Acts (execDoorbellPoll page e) := acts_up _
theorem execDescriptorReadDone_acts (n : Fin 64) (desc : Option (List Byte)) (e : Env) : Acts (execDescriptorReadDone n desc e) := acts_up _
theorem execDataReadDone_acts (n : Fin 64) (idx : BitVec 16) (e : Env) : Acts (execDataReadDone n idx e) := acts_up _
theorem execPcieLinkDown_acts : Acts (execPcieLinkDown) := acts_up _
theorem execCoalesceTimeout_acts (n : Fin 64) : Acts (execCoalesceTimeout n) := acts_on _
theorem execStreamFlushTimeout_acts (n : Fin 64) : Acts (execStreamFlushTimeout n) := acts_on _
theorem execBufferDescriptor_acts (r : Req) (_e : Env) : Acts (execBufferDescriptor r _e) := acts_up _
theorem execModeSet_acts (r : Req) (e : Env) : Acts (execModeSet r e) := acts_command _ _ _ _
theorem execModeSetWaitRelease_acts (e : Env) : Acts (execModeSetWaitRelease e) := acts_up _
theorem execFinishLimitExpiry_acts : Acts (execFinishLimitExpiry) := acts_on _
theorem execSafePointReached_acts (_e : Env) : Acts (execSafePointReached _e) := acts_on _
theorem execLayerOpenWaitRelease_acts (n : Fin 64) (e : Env) : Acts (execLayerOpenWaitRelease n e) := acts_up _
theorem execLayerStartTick_acts : Acts (execLayerStartTick) := acts_on _
theorem execStartWaitTimeout_acts : Acts (execStartWaitTimeout) := acts_on _
theorem execLayerEnd_acts : Acts (execLayerEnd) := acts_on _
theorem execBargeWaitTimeout_acts : Acts (execBargeWaitTimeout) := acts_on _
theorem execLayerOpen_acts (r : Req) (e : Env) : Acts (execLayerOpen r e) := acts_command _ _ _ _
theorem execLayerStart_acts (r : Req) (e : Env) : Acts (execLayerStart r e) := acts_command _ _ _ _
theorem execLayerDiscard_acts (r : Req) (e : Env) : Acts (execLayerDiscard r e) := acts_command _ _ _ _
theorem execLayerQuery_acts (r : Req) (e : Env) : Acts (execLayerQuery r e) := acts_command _ _ _ _
theorem execBarge_acts (r : Req) (e : Env) : Acts (execBarge r e) := acts_command _ _ _ _
theorem execBasinSpaceFetch_acts (n : Fin 64) (idx : BitVec 16) (e : Env) : Acts (execBasinSpaceFetch n idx e) := acts_up _
theorem execBargeDispatch_acts : Acts (execBargeDispatch) := acts_on _
theorem execLockQueueRoom_acts (i : Fin 64) : Acts (execLockQueueRoom i) := acts_on _
theorem execPtabLoad_acts (r : Req) (e : Env) : Acts (execPtabLoad r e) := acts_command _ _ _ _
theorem execPtabDrop_acts (r : Req) (e : Env) : Acts (execPtabDrop r e) := acts_command _ _ _ _
theorem execPtabQuery_acts (r : Req) (e : Env) : Acts (execPtabQuery r e) := acts_command _ _ _ _
theorem execBenMapWrite_acts (n : Fin 18) (val : Word) : Acts (execBenMapWrite n val) := acts_up _
theorem execRampTableWrite_acts (n : Fin 18) (t : Fin 32) (i : Fin 33) (val : Word) : Acts (execRampTableWrite n t i val) := acts_up _
theorem execBenCntClr_acts (n : Fin 18) (val : Word) : Acts (execBenCntClr n val) := acts_up _
theorem execMpCntClr_acts (n : Fin 18) (val : Word) : Acts (execMpCntClr n val) := acts_up _
theorem execTickStrobe_acts (t : TickEnv) : Acts (execTickStrobe t) := acts_on _
theorem execFbCutoff_acts (n : Fin 18) (p : PdEnv) : Acts (execFbCutoff n p) := acts_on _
theorem execEnginePlan_acts (n : Fin 18) (k : Nat) : Acts (execEnginePlan n k) := acts_on _
theorem execResidueMismatch_acts (n : Fin 18) : Acts (execResidueMismatch n) := acts_on _
theorem execIslandEccError_acts (n : Fin 18) (kind : IslandEcc) : Acts (execIslandEccError n kind) := acts_on _
theorem execBarrierRelease_acts : Acts (execBarrierRelease) := acts_on _
theorem execVectorOutcome_acts (n : Fin 18) : Acts (execVectorOutcome n) := acts_on _
theorem execDryTimeReport_acts (n : Fin 18) : Acts (execDryTimeReport n) := acts_on _
theorem execSpareTakeoverDone_acts (b : Fin 16) : Acts (execSpareTakeoverDone b) := acts_on _
theorem execLkCycle_acts : Acts (execLkCycle) := acts_on _
theorem execUnitCommit_acts (n : Fin 18) : Acts (execUnitCommit n) := acts_on _
theorem execHalf1Commit_acts (n : Fin 18) : Acts (execHalf1Commit n) := acts_on _
theorem execTrackExpiry_acts : Acts (execTrackExpiry) := acts_on _
theorem execLockDefine_acts (i : Fin 64) (val : Word) : Acts (execLockDefine i val) := acts_up _
theorem execFadeWrite_acts (i : Fin 32) (val : Word) : Acts (execFadeWrite i val) := acts_up _
theorem execLkCntClr_acts (val : Word) : Acts (execLkCntClr val) := acts_up _
theorem execReplayLayer_acts (r : Req) (e : Env) : Acts (execReplayLayer r e) := acts_command _ _ _ _
theorem execLookaheadRead_acts (n : Fin 18) : Acts (execLookaheadRead n) := acts_on _
theorem execLedgerUpdate_acts (n : Fin 18) : Acts (execLedgerUpdate n) := acts_on _
theorem execLedgerLossNotice_acts (n : Fin 18) : Acts (execLedgerLossNotice n) := acts_on _
theorem execEpochStart_acts : Acts (execEpochStart) := acts_on _
theorem execLdgCntClr_acts (val : Word) : Acts (execLdgCntClr val) := acts_up _
theorem execLedgerClear_acts (r : Req) (e : Env) : Acts (execLedgerClear r e) := acts_command _ _ _ _
theorem execLedgerRead_acts (r : Req) (e : Env) : Acts (execLedgerRead r e) := acts_command _ _ _ _
theorem execFeatureArrival_acts (p : Fin 16) : Acts (execFeatureArrival p) := acts_on _
theorem execGridLoad_acts (r : Req) (e : Env) : Acts (execGridLoad r e) := acts_command _ _ _ _
theorem execGridCommit_acts (b : Fin 16) : Acts (execGridCommit b) := acts_on _
theorem execCalMark_acts (r : Req) (e : Env) : Acts (execCalMark r e) := acts_command _ _ _ _
theorem execCalProbe_acts (r : Req) (e : Env) : Acts (execCalProbe r e) := acts_command _ _ _ _
theorem execCalEdge_acts (r : Req) (e : Env) : Acts (execCalEdge r e) := acts_command _ _ _ _
theorem execCalResid_acts (r : Req) (e : Env) : Acts (execCalResid r e) := acts_command _ _ _ _
theorem execGridQuery_acts (r : Req) (e : Env) : Acts (execGridQuery r e) := acts_command _ _ _ _
theorem execResidQuery_acts (r : Req) (e : Env) : Acts (execResidQuery r e) := acts_command _ _ _ _
theorem execCameraTrigger_acts (p : Fin 20) : Acts (execCameraTrigger p) := acts_on _
theorem execCsiFrameStart_acts (p : Fin 20) : Acts (execCsiFrameStart p) := acts_on _
theorem execCsiLongPacket_acts (p : Fin 20) (k : CsiPacket) : Acts (execCsiLongPacket p k) := acts_on _
theorem execCsiFrameEnd_acts (p : Fin 20) : Acts (execCsiFrameEnd p) := acts_on _
theorem execFrameTimeout_acts (p : Fin 20) : Acts (execFrameTimeout p) := acts_on _
theorem execFrameStartTimeout_acts (p : Fin 20) : Acts (execFrameStartTimeout p) := acts_on _
theorem execI2cWriteStart_acts (c : Fin 4) : Acts (execI2cWriteStart c) := acts_on _
theorem execI2cWriteEnd_acts (c : Fin 4) (nack : Option Nat) : Acts (execI2cWriteEnd c nack) := acts_on _
theorem execI2cSetTimeout_acts (c : Fin 4) : Acts (execI2cSetTimeout c) := acts_on _
theorem execCamSensorSet_acts (r : Req) (e : Env) : Acts (execCamSensorSet r e) := acts_command _ _ _ _
theorem execCamPipeSet_acts (r : Req) (e : Env) : Acts (execCamPipeSet r e) := acts_command _ _ _ _
theorem execCamDefectLoad_acts (r : Req) (e : Env) : Acts (execCamDefectLoad r e) := acts_command _ _ _ _
theorem execCamTrigger_acts (r : Req) (e : Env) : Acts (execCamTrigger r e) := acts_command _ _ _ _
theorem execCamTapSet_acts (r : Req) (e : Env) : Acts (execCamTapSet r e) := acts_command _ _ _ _
theorem execCamQuery_acts (r : Req) (e : Env) : Acts (execCamQuery r e) := acts_command _ _ _ _
theorem execCamI2cRead_acts (r : Req) (e : Env) : Acts (execCamI2cRead r e) := acts_command _ _ _ _
theorem execVisCntClr_acts (val : Word) : Acts (execVisCntClr val) := acts_up _
theorem execFeedbackFrame_acts (b : Fin 16) (f : FbFrame) : Acts (execFeedbackFrame b f) := acts_on _
theorem execFeedbackWindowEnd_acts (b : Fin 16) : Acts (execFeedbackWindowEnd b) := acts_on _
theorem execTrainingComplete_acts (p : PortRef) (t : TrainInfo) : Acts (execTrainingComplete p t) := acts_on _
theorem execTrainingTimeout_acts (p : PortRef) : Acts (execTrainingTimeout p) := acts_on _
theorem execHeadResponse_acts (b : Fin 16) (rsp : BitVec 8) (data : List Byte) : Acts (execHeadResponse b rsp data) := acts_on _
theorem execHeadCmdTimeout_acts (b : Fin 16) : Acts (execHeadCmdTimeout b) := acts_on _
theorem execEnumRetry_acts (b : Fin 16) : Acts (execEnumRetry b) := acts_on _
theorem execWakeComplete_acts (b : Fin 16) (ok : Bool) : Acts (execWakeComplete b ok) := acts_on _
theorem execHeadJog_acts (r : Req) (e : Env) : Acts (execHeadJog r e) := acts_command _ _ _ _
theorem execHeadMoor_acts (r : Req) (e : Env) : Acts (execHeadMoor r e) := acts_command _ _ _ _
theorem execPortSleep_acts (r : Req) (e : Env) : Acts (execPortSleep r e) := acts_command _ _ _ _
theorem execPortQuery_acts (r : Req) (e : Env) : Acts (execPortQuery r e) := acts_command _ _ _ _
theorem execLaneTest_acts (r : Req) (e : Env) : Acts (execLaneTest r e) := acts_command _ _ _ _
theorem execLaneInject_acts (l : Fin 64) : Acts (execLaneInject l) := acts_up _
theorem execLaneCfgWrite_acts (l : Fin 64) (val : Word) : Acts (execLaneCfgWrite l val) := acts_up _
theorem execScnCntClr_acts (val : Word) : Acts (execScnCntClr val) := acts_up _
theorem execLasCntClr_acts (val : Word) : Acts (execLasCntClr val) := acts_up _
theorem execSafeMoorHoldExpiry_acts : Acts (execSafeMoorHoldExpiry) := acts_on _
theorem execIlkNLow_acts : Acts (execIlkNLow) := acts_on _
theorem execIlkNHigh_acts : Acts (execIlkNHigh) := acts_on _
theorem execEmitReadback_acts (b : Fin 16) (level : Bool) : Acts (execEmitReadback b level) := acts_on _
theorem execDramTimeout_acts (sc : Fin 4) : Acts (execDramTimeout sc) := acts_on _
theorem execRefresh_acts (r : Fin 8) : Acts (execRefresh r) := acts_on _
theorem execMr4Poll_acts (hot : Bool) : Acts (execMr4Poll hot) := acts_on _
theorem execPowerDownEntry_acts (r : Fin 8) : Acts (execPowerDownEntry r) := acts_on _
theorem execScrubRead_acts (off : BitVec 36) (ecc : Ecc) : Acts (execScrubRead off ecc) := acts_on _
theorem execDramCntClr_acts (val : Word) : Acts (execDramCntClr val) := acts_up _
theorem execTopo_acts (p : Fin 4) (t : TopoMsg) : Acts (execTopo p t) := acts_on _
theorem execMemberLost_acts (d : Fin 8) : Acts (execMemberLost d) := acts_on _
theorem execTimeSyncInterval_acts : Acts (execTimeSyncInterval) := acts_on _
theorem execTimeSync_acts (via : Inlet) (t1 : Word64) (step : Option (Int × Nat)) : Acts (execTimeSync via t1 step) := acts_on _
theorem execTimeReply_acts (p : Fin 4) (t1 t2 t3 t4 : Word64) : Acts (execTimeReply p t1 t2 t3 t4) := acts_on _
theorem execModeNote_acts (via : Route) (m : BitVec 3) (cause : BitVec 8) : Acts (execModeNote via m cause) := acts_on _
theorem execQtime_acts (via : Route) (q : List (Fin 16 × Word)) : Acts (execQtime via q) := acts_on _
theorem execXassign_acts (via : Route) (x : XAssign) : Acts (execXassign via x) := acts_on _
theorem execXack_acts (via : Route) (vec : Word) : Acts (execXack via vec) := acts_on _
theorem execXdevAckTimeout_acts (d : Fin 8) (vec : Word) : Acts (execXdevAckTimeout d vec) := acts_on _
theorem execXsync_acts (via : Route) (vec : Word) (t : Word64) : Acts (execXsync via vec t) := acts_on _
theorem execXcommitReq_acts (via : Route) (x : XTrack) : Acts (execXcommitReq via x) := acts_on _
theorem execXcommitRsp_acts (via : Route) (vec shift : Word) : Acts (execXcommitRsp via vec shift) := acts_on _
theorem execXprogress_acts (via : Route) (vec arc : Word) (t : Word64) (final : Option (BitVec 8)) : Acts (execXprogress via vec arc t final) := acts_on _
theorem execBandUpd_acts (via : Route) (x y : Int) (nj : Word) (t : Word64) : Acts (execBandUpd via x y nj t) := acts_on _
theorem execBandLoss_acts (via : Route) (x y : Int) : Acts (execBandLoss via x y) := acts_on _
theorem execForwardedEvent_acts (via : Route) (v : FwdEvent) : Acts (execForwardedEvent via v) := acts_on _
theorem execProgress_acts (via : Route) (t : Word64) : Acts (execProgress via t) := acts_on _
theorem execTestReq_acts (p : Fin 4) (l : Fin 4) (answer : Option Bool) : Acts (execTestReq p l answer) := acts_on _
theorem execResid_acts (via : Route) (x : XResid) : Acts (execResid via x) := acts_on _
theorem execFlitNak_acts (p : Fin 4) (sent : Bool) (seq : BitVec 12) : Acts (execFlitNak p sent seq) := acts_on _
theorem execFlitReplayTimeout_acts (p : Fin 4) (seq : BitVec 12) : Acts (execFlitReplayTimeout p seq) := acts_on _
theorem execLinkRetrain_acts (r : Req) (e : Env) : Acts (execLinkRetrain r e) := acts_command _ _ _ _
theorem execCalXresid_acts (r : Req) (e : Env) : Acts (execCalXresid r e) := acts_command _ _ _ _
theorem execLinkQuery_acts (r : Req) (e : Env) : Acts (execLinkQuery r e) := acts_command _ _ _ _
theorem execByfCntClr_acts (val : Word) : Acts (execByfCntClr val) := acts_up _
theorem execTb3Compare_acts (peersOpen : Bool) : Acts (execTb3Compare peersOpen) := acts_on _
theorem execTb3StepApply_acts : Acts (execTb3StepApply) := acts_on _
theorem execPtpSync_acts (p : PtpSync) : Acts (execPtpSync p) := acts_on _
theorem execPtpSyncLoss_acts : Acts (execPtpSyncLoss) := acts_on _
theorem execGmSettleExpiry_acts : Acts (execGmSettleExpiry) := acts_on _
theorem execEthLinkLoss_acts (p : Fin 2) : Acts (execEthLinkLoss p) := acts_on _
theorem execToutEdge_acts (i : Fin 8) : Acts (execToutEdge i) := acts_on _
theorem execTcapEdge_acts (i : Fin 8) (rising : Bool) (sub : Nat) (stepped : Bool) : Acts (execTcapEdge i rising sub stepped) := acts_on _
theorem execTimeSnap_acts : Acts (execTimeSnap) := acts_up _
theorem execTimeCntClr_acts (val : Word) : Acts (execTimeCntClr val) := acts_up _
theorem execRefclkBad_acts : Acts (execRefclkBad) := acts_on _
theorem execTimeBuildStart_acts (r : Req) (e : Env) : Acts (execTimeBuildStart r e) := acts_command _ _ _ _
theorem execTimeToutArm_acts (r : Req) (e : Env) : Acts (execTimeToutArm r e) := acts_command _ _ _ _
theorem execTimeToutStop_acts (r : Req) (e : Env) : Acts (execTimeToutStop r e) := acts_command _ _ _ _
theorem execTimeTb1Set_acts (r : Req) (e : Env) : Acts (execTimeTb1Set r e) := acts_command _ _ _ _
theorem execPtpAddrSet_acts (r : Req) (e : Env) : Acts (execPtpAddrSet r e) := acts_command _ _ _ _
theorem execTimeQuery_acts (r : Req) (e : Env) : Acts (execTimeQuery r e) := acts_command _ _ _ _
theorem execProfileUpdate_acts : Acts (execProfileUpdate) := acts_on _
theorem execChopperCrossing_acts (a : Fin 8) (ph : Fin 2) (upper : Bool) (ns : Nat) (first : Bool) : Acts (execChopperCrossing a ph upper ns first) := acts_on _
theorem execPhaseOpen_acts (a : Fin 8) (ph : Fin 2) : Acts (execPhaseOpen a ph) := acts_on _
theorem execHoldCurrentTimer_acts (a : Fin 8) : Acts (execHoldCurrentTimer a) := acts_on _
theorem execDebouncedInputEdge_acts (a : Fin 8) (k : AxInput) (level chatter : Bool) : Acts (execDebouncedInputEdge a k level chatter) := acts_on _
theorem execCoarseStepEdge_acts (a : Fin 8) (dir : Bool) (ns : Nat) : Acts (execCoarseStepEdge a dir ns) := acts_on _
theorem execEncoderCheck_acts (a : Fin 2) : Acts (execEncoderCheck a) := acts_on _
theorem execRecoatStepStart_acts : Acts (execRecoatStepStart) := acts_on _
theorem execMotMove_acts (r : Req) (e : Env) : Acts (execMotMove r e) := acts_command _ _ _ _
theorem execMotRetune_acts (r : Req) (e : Env) : Acts (execMotRetune r e) := acts_command _ _ _ _
theorem execMotStop_acts (r : Req) (e : Env) : Acts (execMotStop r e) := acts_command _ _ _ _
theorem execMotHome_acts (r : Req) (e : Env) : Acts (execMotHome r e) := acts_command _ _ _ _
theorem execMotEnable_acts (r : Req) (e : Env) : Acts (execMotEnable r e) := acts_command _ _ _ _
theorem execMotRecoatSet_acts (r : Req) (e : Env) : Acts (execMotRecoatSet r e) := acts_command _ _ _ _
theorem execMotRecoatRun_acts (r : Req) (e : Env) : Acts (execMotRecoatRun r e) := acts_command _ _ _ _
theorem execMotQuery_acts (r : Req) (e : Env) : Acts (execMotQuery r e) := acts_command _ _ _ _
theorem execSineTableWrite_acts (a : Fin 8) (i : Fin 256) (val : Word) : Acts (execSineTableWrite a i val) := acts_up _
theorem execLedPeriodStart_acts (c : Fin 12) : Acts (execLedPeriodStart c) := acts_on _
theorem execBloomUpdate_acts (k : Fin 2) : Acts (execBloomUpdate k) := acts_on _
theorem execStrobeWindow_acts (c : Fin 12) (opens : Bool) : Acts (execStrobeWindow c opens) := acts_on _
theorem execLedDerate_acts (c : Fin 12) : Acts (execLedDerate c) := acts_on _
theorem execLedDiagnostic_acts (c : Fin 12) (onSample offSample : BitVec 10) : Acts (execLedDiagnostic c onSample offSample) := acts_on _
theorem execLedSet_acts (r : Req) (e : Env) : Acts (execLedSet r e) := acts_command _ _ _ _
theorem execBloomSet_acts (r : Req) (e : Env) : Acts (execBloomSet r e) := acts_command _ _ _ _
theorem execLedRearm_acts (r : Req) (e : Env) : Acts (execLedRearm r e) := acts_command _ _ _ _
theorem execLedQuery_acts (r : Req) (e : Env) : Acts (execLedQuery r e) := acts_command _ _ _ _
theorem execBandgapCompare_acts (mv2 : List Int) : Acts (execBandgapCompare mv2) := acts_on _
theorem execNtcConvert_acts (n : Fin 4) (code : BitVec 12) : Acts (execNtcConvert n code) := acts_on _
theorem execTrimRun_acts (r : Req) (e : Env) : Acts (execTrimRun r e) := acts_command _ _ _ _
theorem execTrimCommit_acts (r : Req) (e : Env) : Acts (execTrimCommit r e) := acts_command _ _ _ _
theorem execTrimLoad_acts (r : Req) (e : Env) : Acts (execTrimLoad r e) := acts_command _ _ _ _
theorem execTrimRead_acts (r : Req) (e : Env) : Acts (execTrimRead r e) := acts_command _ _ _ _
theorem execFaultDetected_acts (f : FaultReport) : Acts (execFaultDetected f) := acts_on _
theorem execSafeWorkSettle_acts : Acts (execSafeWorkSettle) := acts_on _
theorem execGhostTraffic_acts (u : Fin 22) (count : Nat) : Acts (execGhostTraffic u count) := acts_on _
theorem execErrNPulseEnd_acts : Acts (execErrNPulseEnd) := acts_on _
theorem execThermalSample_acts (t : List Int) : Acts (execThermalSample t) := acts_on _
theorem execSupply_acts (r : Fin 8) (mv low high : Nat) : Acts (execSupply r mv low high) := acts_on _
theorem execPfailNHigh_acts : Acts (execPfailNHigh) := acts_on _
theorem execLockstep_acts (_pair : Fin 2) (kind : SupFault) : Acts (execLockstep _pair kind) := acts_on _
theorem execWatchdog_acts : Acts (execWatchdog) := acts_on _
theorem execHistSelect_acts (k : Fin 32) : Acts (execHistSelect k) := acts_up _
theorem execFaultInjectFire_acts (realToo : Option FaultReport) : Acts (execFaultInjectFire realToo) := acts_on _
theorem execFaultAck_acts (r : Req) (e : Env) : Acts (execFaultAck r e) := acts_command _ _ _ _
theorem execFaultClear_acts (r : Req) (e : Env) : Acts (execFaultClear r e) := acts_command _ _ _ _
theorem execFaultInject_acts (r : Req) (e : Env) : Acts (execFaultInject r e) := acts_command _ _ _ _
theorem execFenceLift_acts (r : Req) (e : Env) : Acts (execFenceLift r e) := acts_command _ _ _ _
theorem execErrLevel_acts (r : Req) (e : Env) : Acts (execErrLevel r e) := acts_command _ _ _ _
theorem execFaultQuery_acts (r : Req) (e : Env) : Acts (execFaultQuery r e) := acts_command _ _ _ _
theorem execHistRead_acts (r : Req) (e : Env) : Acts (execHistRead r e) := acts_command _ _ _ _
theorem execEventMergeRelease_acts : Acts (execEventMergeRelease) := acts_on _
theorem execNoteFlushTimer_acts : Acts (execNoteFlushTimer) := acts_on _
theorem execFlushComplete_acts (x : Xspi) : Acts (execFlushComplete x) := acts_on _
theorem execRecSramFail_acts (word : BitVec 29) : Acts (execRecSramFail word) := acts_on _
theorem execRecCursorLoad_acts (idx : Word) : Acts (execRecCursorLoad idx) := acts_up _
theorem execRecWin7Read_acts : Acts (execRecWin7Read) := acts_up _
theorem execRecShadowSelect_acts (k : Fin 16) : Acts (execRecShadowSelect k) := acts_up _
theorem execMonitorSample_acts (slot : Fin 32) (v : Int) : Acts (execMonitorSample slot v) := acts_on _
theorem execRecFlush_acts (r : Req) (e : Env) : Acts (execRecFlush r e) := acts_command _ _ _ _
theorem execRecClear_acts (r : Req) (e : Env) : Acts (execRecClear r e) := acts_command _ _ _ _
theorem execMonSet_acts (r : Req) (e : Env) : Acts (execMonSet r e) := acts_command _ _ _ _
theorem execMonCapture_acts (r : Req) (e : Env) : Acts (execMonCapture r e) := acts_command _ _ _ _
theorem execLifeReset_acts (r : Req) (e : Env) : Acts (execLifeReset r e) := acts_command _ _ _ _
theorem execRecRead_acts (r : Req) (e : Env) : Acts (execRecRead r e) := acts_command _ _ _ _
theorem execLifeRead_acts (r : Req) (e : Env) : Acts (execLifeRead r e) := acts_command _ _ _ _
theorem execWoramQuery_acts (r : Req) (e : Env) : Acts (execWoramQuery r e) := acts_command _ _ _ _
theorem execLcAdvance_acts (r : Req) (e : Env) : Acts (execLcAdvance r e) := acts_command _ _ _ _
theorem execMbistRun_acts (r : Req) (e : Env) : Acts (execMbistRun r e) := acts_command _ _ _ _
theorem execRepairStore_acts (r : Req) (e : Env) : Acts (execRepairStore r e) := acts_command _ _ _ _
theorem execBistQuery_acts (r : Req) (e : Env) : Acts (execBistQuery r e) := acts_command _ _ _ _
theorem execRepairApply_acts (map : Option (List Byte)) : Acts (execRepairApply map) := acts_up _
theorem execBistMemSelect_acts (id : BitVec 10) : Acts (execBistMemSelect id) := acts_up _
theorem execScannerSymbolLockLoss_acts (b : Fin 16) : Acts (execScannerSymbolLockLoss b) := acts_on _
theorem execByoftPortFail_acts (p : Fin 4) (ecc : Bool) : Acts (execByoftPortFail p ecc) := acts_on _
theorem execLaneErr_acts (p : Fin 20) : Acts (execLaneErr p) := acts_on _
theorem execPcieLinkUp_acts (speed : Fin 6) (width : Fin 9) : Acts (execPcieLinkUp speed width) := acts_up _
theorem execSupplyRestored_acts (r : Fin 8) (mv : Nat) : Acts (execSupplyRestored r mv) := acts_on _
theorem execRefclkRestored_acts : Acts (execRefclkRestored) := acts_on _
theorem execHostReadTimeout_acts (w : HostRead) : Acts (execHostReadTimeout w) := acts_up _
theorem execMsixUnmask_acts (v : Fin 256) : Acts (execMsixUnmask v) := acts_up _
theorem execPrbsCheckerLock_acts (l : Fin 64) (errors bits : Nat) : Acts (execPrbsCheckerLock l errors bits) := acts_on _
theorem execQuadratureEdge_acts (a : Fin 2) (_ch up both : Bool) : Acts (execQuadratureEdge a _ch up both) := acts_on _
theorem execEthFrameReceived_acts (p : Fin 2) (k : EthFrame) : Acts (execEthFrameReceived p k) := acts_on _
theorem execPtpTxInterval_acts : Acts (execPtpTxInterval) := acts_on _

/-! ## The commands with a form of their own -/

theorem execBar2Read_acts (addr : BitVec 26) (len : Nat) (ecc : Ecc) : Acts (execBar2Read addr len ecc) := by
  refine ⟨fun s h => ?_, fun s => ?_⟩ <;> unfold execBar2Read
  · simp [h]
  · split
    · exact ⟨s.dev, rfl⟩
    · dsimp only
      split
      · exact ⟨_, rfl⟩
      · exact ⟨_, rfl⟩

/-- RESET_RELEASE_BOOT changes the device alone; out of reset it does nothing. -/
theorem execResetReleaseBoot_goes (b : BootEnv) (s : State) : ∃ d, execResetReleaseBoot b s = .next { s with dev := d } := by
  unfold execResetReleaseBoot
  split
  · exact ⟨s.dev, rfl⟩
  · exact ⟨_, rfl⟩

/-- What a BAR2 write leaves: the device with a fault at most, or the bytes written. -/
theorem execBar2Write_goes (addr : BitVec 26) (bytes : List Byte) (s : State) :
    (∃ d, execBar2Write addr bytes s = .next { s with dev := d }) ∨
    ∃ a bs, execBar2Write addr bytes s = .next { s with mem := memWrite s.mem a bs } := by
  unfold execBar2Write
  split
  · exact Or.inl ⟨s.dev, rfl⟩
  · dsimp only
    split
    · exact Or.inl ⟨_, rfl⟩
    · split
      · exact Or.inl ⟨s.dev, rfl⟩
      · exact Or.inr ⟨_, _, rfl⟩

/-- One request served writes at most the bytes it brings, and those of a mirrored copy twice. -/
theorem dramServe_mem (d : Dev) (sc i : Nat) (b : Bool) (m : List Host.Cell) :
    (d.dramServe sc i b m).2 = m ∨ ∃ use a bs, (d.dramServe sc i b m).2 = writeCopies use m a bs := by
  unfold Dev.dramServe
  split
  · exact Or.inl rfl
  · dsimp only
    split
    · exact Or.inr ⟨_, _, _, rfl⟩
    · exact Or.inl rfl

/-- Both copies keep the canonical form. -/
theorem memoryWf_copies (use : DramUse) (m : List Host.Cell) (a : Nat) (bs : List Byte) (h : Memory.wf m = true) :
    Memory.wf (writeCopies use m a bs) = true := by
  unfold writeCopies
  split
  · exact memoryWf_write _ _ _ (memoryWf_write _ _ _ h)
  · exact memoryWf_write _ _ _ h

theorem execDramRequest_goes (q : List DramReq) (sc : Fin 4) (s : State) :
    ∃ d m, execDramRequest q sc s = .next { s with dev := d, mem := m } ∧
      (m = s.mem ∨ ∃ use a bs, m = writeCopies use s.mem a bs) := by
  unfold execDramRequest
  split
  · exact ⟨s.dev, s.mem, rfl, Or.inl rfl⟩
  · unfold State.onMem
    dsimp only
    split
    · exact ⟨_, _, rfl, dramServe_mem _ _ _ _ _⟩
    · exact ⟨_, _, rfl, Or.inl rfl⟩

theorem execDramRequest_still (q : List DramReq) (sc : Fin 4) (s : State) (h : s.dev.mode.boot = 0) :
    execDramRequest q sc s = .next s := by
  unfold execDramRequest
  rw [if_pos (Or.inl h)]

theorem execRegisterWrite_still (o : BitVec 25) (v m h : Word) (s : State) (hb : s.dev.mode.boot = 0) :
    execRegisterWrite o v m h s = .next s := by
  have up (g : Dev → Dev) : s.whenUp g = .next s := (acts_up g).still s hb
  have single : ∀ v, ∀ p ∈ ownSingles v, p.2 s = .next s := by
    intro v p hp
    simp only [ownSingles, List.mem_cons, List.not_mem_nil, or_false] at hp
    rcases hp with hp | hp | hp | hp | hp | hp | hp | hp | hp | hp | hp | hp | hp | hp | hp | hp <;> subst hp
    case inr.inr.inl =>
      dsimp only
      split
      · unfold execDramTrain; rw [if_pos (Or.inl (by omega))]
      · rfl
    case inr.inr.inr.inr.inr.inr.inr.inr.inr.inr.inr.inl =>
      dsimp only
      split
      · exact up _
      · rfl
    all_goals
      dsimp only
      exact up _
  unfold execRegisterWrite
  simp only
  split
  · exact up _
  · split
    · exact up _
    · split
      · have h4 : (decide (s.dev.mode.boot < 4) || s.dev.rcd.pfail) = true := by simp [hb]
        rw [if_pos h4]
        split
        · next f hf =>
          unfold ownWrite at hf
          simp only at hf
          split at hf
          · next g hg => cases hf; exact single _ _ (mem_of_bankGet hg)
          · split at hf
            · unfold ownEngine at hf
              split_ifs at hf <;> cases hf <;> exact up _
            · unfold ownArray at hf
              split_ifs at hf <;> cases hf <;> exact up _
        · rfl
      · exact up _

theorem execBar2Write_still (addr : BitVec 26) (bytes : List Byte) (s : State) (h : s.dev.mode.boot = 0) :
    execBar2Write addr bytes s = .next s := by
  unfold execBar2Write
  rw [if_pos (Or.inl (by omega))]

/-- A training, its start and its end: the device alone, or the device with an empty memory. -/
theorem execDramTrain_goes (s : State) :
    ∃ d m, execDramTrain s = .next { s with dev := d, mem := m } ∧ (m = s.mem ∨ m = []) := by
  unfold execDramTrain
  split
  · exact ⟨s.dev, s.mem, rfl, Or.inl rfl⟩
  · exact ⟨_, [], rfl, Or.inr rfl⟩

theorem execDramTrain_still (s : State) (h : s.dev.mode.boot = 0) : execDramTrain s = .next s := by
  unfold execDramTrain
  rw [if_pos (Or.inl (by omega))]

theorem execDramTrainDone_goes (t : DramTrain) (s : State) :
    ∃ d m, execDramTrainDone t s = .next { s with dev := d, mem := m } ∧ (m = s.mem ∨ m = []) := by
  unfold execDramTrainDone
  split
  · exact ⟨s.dev, s.mem, rfl, Or.inl rfl⟩
  · unfold State.onMem
    dsimp only
    split
    · exact ⟨_, [], rfl, Or.inr rfl⟩
    · split
      · exact ⟨_, [], rfl, Or.inr rfl⟩
      · exact ⟨_, [], rfl, Or.inr rfl⟩

theorem execDramTrainDone_still (t : DramTrain) (s : State) (h : s.dev.mode.boot = 0) :
    execDramTrainDone t s = .next s := by
  unfold execDramTrainDone
  rw [if_pos (Or.inl h)]

/-- The resets and a power failure: the device, with an empty memory or an untouched one. -/
theorem execPowerOnReset_goes (s : State) : ∃ d, execPowerOnReset s = .next { s with dev := d, mem := [] } := ⟨_, rfl⟩

theorem execRstNReset_goes (ns : Nat) (s : State) :
    ∃ d m, execRstNReset ns s = .next { s with dev := d, mem := m } ∧ (m = s.mem ∨ m = []) := by
  unfold execRstNReset
  split
  · exact ⟨s.dev, s.mem, rfl, Or.inl rfl⟩
  · exact ⟨_, [], rfl, Or.inr rfl⟩

theorem execPerstNReset_goes (s : State) : ∃ d, execPerstNReset s = .next { s with dev := d, mem := [] } := ⟨_, rfl⟩

theorem execSoftwareResetFire_goes (s : State) :
    ∃ d m, execSoftwareResetFire s = .next { s with dev := d, mem := m } ∧ (m = s.mem ∨ m = []) := by
  unfold execSoftwareResetFire
  split
  · exact ⟨_, [], rfl, Or.inr rfl⟩
  · exact ⟨s.dev, s.mem, rfl, Or.inl rfl⟩

theorem execPfailNLow_goes (s : State) :
    ∃ d m, execPfailNLow s = .next { s with dev := d, mem := m } ∧ (m = s.mem ∨ m = []) := by
  unfold execPfailNLow
  split
  · exact ⟨s.dev, s.mem, rfl, Or.inl rfl⟩
  · exact ⟨_, [], rfl, Or.inr rfl⟩

theorem execPfailNLow_still (s : State) (h : s.dev.mode.boot = 0) : execPfailNLow s = .next s := by
  unfold execPfailNLow
  rw [if_pos (Or.inl h)]

end Sys2Proof.Machine
end

