-- ==== Sys2Proof/Laws/SafeMode.lean ====
section
/-! SUPPORT. The safe state of the outputs keeps the mode and the collector, and a SAFE-class fault takes the device
to SAFE (R48, R53, R465, R476). -/

namespace Sys2Proof.Machine

/-- The mode control, the fault collector, the rail words and the life-cycle are the same. -/
def Kept (a b : Dev) : Prop := b.mode = a.mode ∧ b.flt = a.flt ∧ b.rails = a.rails ∧ b.bist.latched = a.bist.latched

theorem Kept.refl (a : Dev) : Kept a a := ⟨rfl, rfl, rfl, rfl⟩

theorem Kept.trans {a b c : Dev} (h : Kept a b) (k : Kept b c) : Kept a c :=
  ⟨k.1.trans h.1, k.2.1.trans h.2.1, k.2.2.1.trans h.2.2.1, k.2.2.2.trans h.2.2.2⟩

theorem HostSide.kept {a b : Dev} (h : HostSide a b) : Kept a b := by
  obtain ⟨r, g, i, o, rfl⟩ := h
  exact ⟨rfl, rfl, rfl, rfl⟩

theorem PinSide.kept {a b : Dev} (h : PinSide a b) : Kept a b := by
  obtain ⟨s, o, rfl⟩ := h
  exact ⟨rfl, rfl, rfl, rfl⟩

theorem Recorded.kept {a b : Dev} (h : Recorded a b) (hf : b.flt = a.flt) : Kept a b := by
  obtain ⟨r, g, i, e, f, l, y, o, rfl⟩ := h
  exact ⟨rfl, hf, rfl, rfl⟩

theorem kept_sendTo (d : Dev) (v type : Nat) (c : List Int) : Kept d (d.sendTo v type c) := by
  refine (recorded_sendTo d v type c).kept ?_
  unfold Dev.sendTo Dev.sendFrom
  split <;> rfl

theorem kept_foldl {β : Type} (f : Dev → β → Dev) (h : ∀ a b, Kept a (f a b)) (l : List β) (a : Dev) :
    Kept a (l.foldl f a) := foldl_keeps Kept Kept.refl (fun _ _ _ => Kept.trans) f h l a

theorem kept_ite (c : Prop) [Decidable c] {a x y : Dev} (h : Kept a x) (k : Kept a y) : Kept a (if c then x else y) := by
  split <;> assumption

theorem kept_fail (d : Dev) (q : Req) (st x : Nat) (h : st ≠ stReject) : Kept d (d.fail q st x) :=
  (hostSide_fail d q st x h).kept

theorem kept_emit (d : Dev) (src code : Nat) (p : List Byte) : Kept d (d.emit src code p) :=
  Kept.trans (b := d.queueEvent _) ⟨rfl, rfl, rfl, rfl⟩ (kept_foldl _ (fun a v => kept_sendTo a v _ _) _ _)

/-- A STATE_REJECT leaves an event as well. -/
theorem kept_complete (d : Dev) (q : Req) (st x : Nat) (b : List Byte) : Kept d (d.complete q st x b) := by
  unfold Dev.complete
  dsimp only
  refine Kept.trans ?_ (hostSide_putCqe _ _ _).kept
  refine Kept.trans ?_ (hostSide_retire _ _ _).kept
  refine kept_ite _ ?_ (Kept.refl _)
  exact kept_emit d 1 _ _

theorem kept_outs (d : Dev) (c : TimeCtl) : Kept d { d with time := c } := ⟨rfl, rfl, rfl, rfl⟩

theorem kept_setBit (d : Dev) (o i : Nat) (b : Bool) : Kept d (d.setBit o i b) := (hostSide_wr d o _).kept

theorem kept_send (d : Dev) (o : Output) : Kept d (d.send o) := (hostSide_send d o).kept

theorem kept_toutDisarm (d : Dev) (i : Nat) : Kept d (d.toutDisarm i) :=
  ((kept_setBit d (TIME_TOUT_CFG i) 31 false).trans (kept_send _ _)).trans (kept_outs _ _)

theorem kept_toutSafe (d : Dev) : Kept d d.toutSafe := kept_foldl _ (fun a i => kept_toutDisarm a i) _ d

theorem kept_dropQueue (d : Dev) (a : Nat) : Kept d (d.dropQueue a) := by
  unfold Dev.dropQueue
  dsimp only
  refine Kept.trans (b := d.modAxis a _) ⟨rfl, rfl, rfl, rfl⟩ (kept_foldl _ (fun x g => ?_) _ _)
  split
  · exact kept_fail _ _ _ _ (by decide)
  · exact Kept.refl _

theorem kept_axStop (d : Dev) (a r st x : Nat) : Kept d (d.axStop a r st x) := by
  unfold Dev.axStop
  split
  · exact Kept.refl d
  · dsimp only
    split
    · exact Kept.trans (Kept.trans (b := d.modAxis a _) ⟨rfl, rfl, rfl, rfl⟩ (kept_dropQueue _ _)) (kept_complete _ _ _ _ _)
    · exact Kept.trans (b := d.modAxis a _) ⟨rfl, rfl, rfl, rfl⟩ (kept_dropQueue _ _)

theorem kept_seqFail (d : Dev) : Kept d d.seqFail := by
  unfold Dev.seqFail
  split
  · exact Kept.refl d
  · dsimp only
    split
    · exact Kept.trans (b := { d with recoated := false, mot := { d.mot with seq := none } }) ⟨rfl, rfl, rfl, rfl⟩
        (kept_complete _ _ _ _ _)
    · exact ⟨rfl, rfl, rfl, rfl⟩

theorem kept_axHalt (d : Dev) (a : Nat) : Kept d (d.axHalt a) := ⟨rfl, rfl, rfl, rfl⟩

theorem kept_restLevel (d : Dev) (safe : Bool) : Kept d (d.restLevel safe) := ⟨rfl, rfl, rfl, rfl⟩

theorem kept_motSafe (d : Dev) : Kept d d.motSafe := by
  unfold Dev.motSafe
  refine Kept.trans ?_ (kept_restLevel _ _)
  refine Kept.trans ?_ (kept_seqFail _)
  exact kept_foldl _ (fun x a => (kept_axStop x a _ _ _).trans (kept_axHalt _ _)) _ d

theorem kept_lampsOff (d : Dev) : Kept d d.lampsOff := by
  unfold Dev.lampsOff
  refine kept_foldl _ (fun a b => ?_) _ d
  split
  · refine ⟨?_, ?_, ?_, ?_⟩ <;> simp
  · exact Kept.refl a

theorem kept_bloomFree (l : List Nat) (acc : List (Nat × Nat) × Dev) :
    Kept acc.2 (l.foldl (fun (acc : List (Nat × Nat) × Dev) c =>
      (acc.1 ++ [(c, acc.2.free.1 % 65536)], acc.2.free.2)) acc).2 := by
  induction l generalizing acc with
  | nil => exact Kept.refl _
  | cons c l ih =>
    refine Kept.trans ?_ (ih _)
    exact ⟨rfl, rfl, rfl, rfl⟩

theorem kept_bloomSet (d : Dev) (k : Nat) : Kept d (d.bloomSet k) := by
  unfold Dev.bloomSet
  dsimp only
  split
  · exact ⟨rfl, rfl, rfl, rfl⟩
  · split
    · exact Kept.trans (kept_bloomFree _ ([], d)) ⟨rfl, rfl, rfl, rfl⟩
    · exact ⟨rfl, rfl, rfl, rfl⟩

theorem kept_lampsPattern (d : Dev) : Kept d d.lampsPattern := by
  unfold Dev.lampsPattern Dev.bloomStart
  dsimp only
  refine Kept.trans ?_ (kept_bloomSet _ _)
  refine Kept.trans (Kept.trans ?_ (kept_bloomSet _ _)) ⟨rfl, rfl, rfl, rfl⟩
  exact ⟨rfl, rfl, rfl, rfl⟩

theorem kept_lampsSafe (d : Dev) : Kept d d.lampsSafe :=
  kept_ite _ (Kept.refl d) ((kept_lampsOff d).trans (kept_lampsPattern _))

/-- Driving the outputs to their safe levels keeps the mode and the collector. -/
theorem kept_safeOutputs (d : Dev) : Kept d d.safeOutputs := by
  unfold Dev.safeOutputs
  refine Kept.trans ?_ (kept_lampsSafe _)
  refine Kept.trans ?_ (kept_motSafe _)
  refine Kept.trans ?_ (kept_toutSafe _)
  exact kept_foldl _ (fun a b => (pinSide_setEmit a b false).kept) _ d

/-- A completed transition: the new mode, the old one as previous, and its cause; the collector is the same. -/
theorem setMode_mode (d : Dev) (m : Mode) (cause : Nat) :
    (d.setMode m cause).mode = { d.mode with cur := m, prev := d.mode.cur, lastCause := cause } ∧
      (d.setMode m cause).flt = d.flt ∧ (d.setMode m cause).rails = d.rails := by
  unfold Dev.setMode
  dsimp only
  have h : ∀ x : Dev, Kept x ((x.emit 1 0x20 (leBytes 1 m.code ++ leBytes 1 d.mode.cur.code ++ leBytes 1 cause)).signal 8) := by
    intro x
    exact (kept_emit x _ _ _).trans (hostSide_signal _ _).kept
  split
  · have k := kept_foldl (fun (d : Dev) v => d.sendTo v 0x04 [(m.code : Int), (cause : Int)])
      (fun a v => kept_sendTo a v _ _)
      d.members { d with mode := { d.mode with cur := m, prev := d.mode.cur, lastCause := cause } }
    have r := Kept.trans k (h _)
    exact ⟨r.1, r.2.1, r.2.2.1⟩
  · have r := h { d with mode := { d.mode with cur := m, prev := d.mode.cur, lastCause := cause } }
    exact ⟨r.1, r.2.1, r.2.2.1⟩

theorem kept_modLaw (d : Dev) (n : Nat) (f : Law → Law) : Kept d (d.modLaw n f) := ⟨rfl, rfl, rfl, rfl⟩

theorem kept_corr (d : Dev) (n : Nat) (r : Run) : Kept d (d.corr n r) := by
  unfold Dev.corr
  dsimp only
  refine kept_ite _ (Kept.refl d) ?_
  refine Kept.trans ?_ (kept_emit _ _ _ _)
  refine Kept.trans ?_ (kept_modLaw _ _ _)
  exact (hostSide_wr _ _ _).kept

theorem kept_endEmission (d : Dev) (n : Nat) : Kept d (d.endEmission n) :=
  kept_ite _ (Kept.refl d) (kept_foldl _ (fun a r => kept_corr a n r) _ d)

theorem kept_stopReplay (d : Dev) : Kept d d.stopReplay := by
  unfold Dev.stopReplay Dev.endReplay
  split
  · exact Kept.refl d
  · refine Kept.trans ?_ (kept_complete _ _ _ _ _)
    exact ⟨rfl, rfl, rfl, rfl⟩

theorem kept_abortMbist (d : Dev) : Kept d d.abortMbist := by
  unfold Dev.abortMbist
  split
  · exact Kept.refl d
  · refine Kept.trans ?_ (kept_fail _ _ _ _ (by decide))
    refine Kept.trans ?_ (hostSide_wr _ _ _).kept
    exact ⟨rfl, rfl, rfl, rfl⟩

/-- Entry to SAFE: the mode is SAFE with the trigger's cause, no transition is in progress, and the live causes are
those it met. -/
theorem enterSafe_mode (d : Dev) (trig : Nat) :
    (d.enterSafe trig).mode.cur = .safe ∧ (d.enterSafe trig).mode.prev = d.mode.cur ∧
      (d.enterSafe trig).mode.lastCause = trig ∧ (d.enterSafe trig).mode.changing = false ∧
      (d.enterSafe trig).flt = { d.flt with settleDue := true } ∧ (d.enterSafe trig).rails = d.rails := by
  have ke : Kept d ((((List.range 18).foldl (fun d n => d.endEmission n) d).stopReplay).abortMbist) :=
    ((kept_foldl _ kept_endEmission _ d).trans (kept_stopReplay _)).trans (kept_abortMbist _)
  unfold Dev.enterSafe
  dsimp only
  generalize (((List.range 18).foldl (fun d n => d.endEmission n) d).stopReplay).abortMbist = y at ke ⊢
  have hm := setMode_mode { y with
    mode := { y.mode with changing := false, holdReq := none, leaveReq := none, wakeReq := none, holdAtLayerEnd := false }
    flt := { y.flt with settleDue := true } } .safe trig
  generalize Dev.setMode _ Mode.safe trig = x at hm ⊢
  have hk := kept_foldl (fun (d : Dev) q => d.fail q stAborted 0) (fun a q => kept_fail a q _ _ (by decide))
    (y.mode.holdReq.toList ++ y.mode.leaveReq.toList ++ (y.mode.wakeReq.map (fun w => w.1)).toList) x
  refine ⟨?_, ?_, ?_, ?_, (hk.2.1.trans hm.2.1).trans (by rw [ke.2.1]), (hk.2.2.1.trans hm.2.2).trans ke.2.2.1⟩ <;>
    rw [hk.1, hm.1]
  rw [ke.1]

/-- A SAFE trigger outside SAFE and WIND-DOWN enters SAFE (R48, R51). -/
theorem safeTrigger_mode (d : Dev) (trig : Nat) (h1 : d.mode.cur ≠ .safe) (h2 : d.mode.cur ≠ .windDown) :
    (d.safeTrigger trig).mode.cur = .safe ∧ (d.safeTrigger trig).mode.prev = d.mode.cur ∧
      (d.safeTrigger trig).mode.lastCause = trig ∧ (d.safeTrigger trig).mode.changing = false ∧
      (d.safeTrigger trig).flt = { d.flt with settleDue := true } ∧ (d.safeTrigger trig).rails = d.rails := by
  have k := kept_safeOutputs d
  unfold Dev.safeTrigger
  dsimp only
  generalize d.safeOutputs = y at k ⊢
  have e1 : (y.mode.cur == Mode.safe) = false := by rw [k.1]; simp [h1]
  have e2 : (y.mode.cur == Mode.windDown) = false := by rw [k.1]; simp [h2]
  rw [e1, e2]
  simp only [Bool.false_eq_true, if_false]
  have t := enterSafe_mode y trig
  rw [k.1, k.2.1, k.2.2.1] at t
  exact t

/-- A report of a SAFE-class fault takes the device from any mode but SAFE and WIND-DOWN to SAFE, with the fault's
mode-transition cause, or the code of a fault where it has none (R48, R465). -/
theorem raise_safe_mode (d : Dev) (how : How) (src cause : Nat) (p : Word)
    (hc : how.cls = some .safe ∨ (how.cls = none ∧ d.faultClass src cause p = some .safe))
    (hr : how.react = true) (h1 : d.mode.cur ≠ .safe) (h2 : d.mode.cur ≠ .windDown) :
    (d.raiseHow how src cause p).mode.cur = .safe ∧ (d.raiseHow how src cause p).mode.prev = d.mode.cur ∧
      (d.raiseHow how src cause p).mode.lastCause = how.trig.getD 0x02 ∧
      (d.raiseHow how src cause p).mode.changing = false ∧
      (d.raiseHow how src cause p).flt.live.any (fun l => l.src == src && l.cause == cause && l.cls == .safe) = true ∧
      (d.raiseHow how src cause p).flt.settleDue = true ∧ (d.raiseHow how src cause p).rails = d.rails := by
  have hm : how.classOf d src cause p = some .safe := by
    unfold How.classOf
    rcases hc with h | ⟨h, k⟩
    · rw [h]
    · rw [h]; exact k
  have hu : d.raiseHow how src cause p =
      (((d.recordFault how.injected src cause p .safe false).addLive src cause .safe
        (how.injected || !lasting src cause p)).errPulse).safeTrigger (how.trig.getD 0x02) := by
    unfold Dev.raiseHow
    rw [hm]
    simp [Dev.promotes, hr, Dev.react]
  rw [hu]
  have ym : (d.recordFault how.injected src cause p .safe false).mode = d.mode ∧
      (d.recordFault how.injected src cause p .safe false).rails = d.rails := by
    obtain ⟨r, g, i, e, f, l, b, o, h⟩ := recorded_recordFault d how.injected src cause p .safe false
    rw [h]
    exact ⟨rfl, rfl⟩
  generalize d.recordFault how.injected src cause p .safe false = y at ym ⊢
  have zl : ((y.addLive src cause Cls.safe (how.injected || !lasting src cause p)).errPulse).flt.live.any
      (fun l => l.src == src && l.cause == cause && l.cls == .safe) = true := by
    unfold Dev.errPulse Dev.addLive
    simp
  have zm : ((y.addLive src cause Cls.safe (how.injected || !lasting src cause p)).errPulse).mode = d.mode ∧
      ((y.addLive src cause Cls.safe (how.injected || !lasting src cause p)).errPulse).rails = d.rails := ym
  generalize (y.addLive src cause Cls.safe (how.injected || !lasting src cause p)).errPulse = z at zl zm ⊢
  have t := safeTrigger_mode z (how.trig.getD 0x02) (by rw [zm.1]; exact h1) (by rw [zm.1]; exact h2)
  refine ⟨t.1, ?_, t.2.2.1, t.2.2.2.1, ?_, ?_, t.2.2.2.2.2.trans zm.2⟩
  · rw [t.2.1, zm.1]
  · rw [t.2.2.2.2.1]
    exact zl
  · rw [t.2.2.2.2.1]

/-- A HOLD-class fault outside CALIBRATE and BUILD changes no mode. -/
theorem raise_hold_idle (d : Dev) (how : How) (src cause : Nat) (p : Word)
    (hc : how.cls = some .hold ∨ (how.cls = none ∧ d.faultClass src cause p = some .hold))
    (h1 : d.exposing = false) : (d.raiseHow how src cause p).mode = d.mode := by
  have hm : how.classOf d src cause p = some .hold := by
    unfold How.classOf
    rcases hc with h | ⟨h, k⟩
    · rw [h]
    · rw [h]; exact k
  have ym : (d.recordFault how.injected src cause p .hold false).mode = d.mode := by
    obtain ⟨r, g, i, e, f, l, b, o, h⟩ := recorded_recordFault d how.injected src cause p .hold false
    rw [h]
  unfold Dev.raiseHow
  rw [hm]
  simp only [Dev.promotes, reduceCtorEq, decide_false, Bool.false_and, Bool.false_eq_true, if_false]
  split
  · unfold Dev.react Dev.holdTrigger
    dsimp only
    rw [if_pos]
    · exact (kept_stopReplay _).1.trans ym
    · unfold Dev.exposing at h1 ⊢
      show (!((d.recordFault how.injected src cause p Cls.hold false).mode.cur == Mode.calibrate ||
        (d.recordFault how.injected src cause p Cls.hold false).mode.cur == Mode.build)) = true
      rw [ym, h1]
      rfl
  · exact ym

end Sys2Proof.Machine
end

