-- ==== Sys2Proof/WellFormed.lean ====
section
/-! DEFINITION. Which operands a command can have: what the widths and lengths of spec/ give its fields.
`exec` is total on the rest too. -/

namespace Sys2Proof

/-- The fields of a descriptor have the widths of R83, and its ring and index those of R73 and R77. -/
def Req.wf (q : Req) : Bool :=
  decide (q.ring < 64) && decide (q.idx < 65536) && decide (q.op < 65536) && decide (q.flags < 65536)
    && decide (q.tag < 2 ^ 32) && decide (q.dataAddr < 2 ^ 64) && decide (q.dataLen < 2 ^ 32)
    && decide (q.resultLen < 2 ^ 32) && decide (q.resultAddr < 2 ^ 64)

/-- Input data that did not arrive is not there (R84, check 9). -/
def Env.wf (e : Env) : Bool := e.dataFail.isNone || e.data.isEmpty

/-- A descriptor with what the outside answers it: no more input data than it names. -/
def reqWith (q : Req) (e : Env) : Bool := q.wf && e.wf && decide (e.data.length ≤ q.dataLen)

/-- A BAR0 offset of a register word: aligned to 4 bytes (R14). -/
def wordOffset (off : BitVec 25) : Bool := off.toNat % 4 == 0

/-- A CSI-2 packet header: virtual channel and data type have 4 and 6 bits (R291). -/
def CsiPacket.wf (k : CsiPacket) : Bool := decide (k.vc < 16) && decide (k.dt < 64)

/-- A photodiode window holds five samples of each band (R269). -/
def PdEnv.wf (p : PdEnv) : Bool := p.melt.nv.length == 5 && p.second.nv.length == 5

/-- A peer's entry: whole vector records of 32 bytes, and a split inside them (R225). -/
def XAssign.wf (x : XAssign) : Bool :=
  x.recs.length % 32 == 0 && decide (32 ≤ x.recs.length) && (x.half.isNone || decide (32 * x.splitAt < x.recs.length))

/-- The bytes of a DRAM write: one burst of 64 at most (R353). -/
def DramReq.wf (q : DramReq) : Bool :=
  match q.data with | none => true | some b => decide (b.length ≤ 64)

/-- The command has operands that its row can have. -/
def Instr.wf : Instr → Bool
  | .powerOnReset => true
  | .rstNReset _ => true
  | .perstNReset => true
  | .softKey _ => true
  | .softwareResetFire => true
  | .resetReleaseBoot _ => true
  | .causeClr _ => true
  | .safeReq => true
  | .fwLoadStart _ => true
  | .fwLoadDone _ => true
  | .registerWrite off _ _ _ => wordOffset off
  | .w1cClear off _ _ => wordOffset off
  | .lostClearClr off _ _ _ => wordOffset off
  | .lowWordRead off => wordOffset off
  | .bar0BadRequest _ => true
  | .bar2Read addr len _ => decide (1 ≤ len) && decide (addr.toNat + len ≤ 2 ^ 26)
  | .bar2Write addr bytes => !bytes.isEmpty && decide (addr.toNat + bytes.length ≤ 2 ^ 26)
  | .ringEnable _ _ => true
  | .ringDisable _ => true
  | .ringReset _ => true
  | .barrierAck _ e => e.wf
  | .doorbellPoll page e => (match page with | none => true | some p => p.length == 64) && e.wf
  | .descriptorReadDone _ desc e => (match desc with | none => true | some b => b.length == 64) && e.wf
  | .dataReadDone _ _ e => e.wf
  | .pcieLinkDown => true
  | .coalesceTimeout _ => true
  | .streamFlushTimeout _ => true
  | .bufferDescriptor r e => reqWith r e
  | .modeSet r e => reqWith r e
  | .modeSetWaitRelease e => e.wf
  | .finishLimitExpiry => true
  | .safePointReached e => e.wf
  | .layerOpen r e => reqWith r e
  | .layerOpenWaitRelease _ e => e.wf
  | .layerStart r e => reqWith r e
  | .layerStartTick => true
  | .startWaitTimeout => true
  | .layerEnd => true
  | .bargeWaitTimeout => true
  | .layerDiscard r e => reqWith r e
  | .layerQuery r e => reqWith r e
  | .barge r e => reqWith r e
  | .basinSpaceFetch _ _ e => e.wf
  | .bargeDispatch => true
  | .lockQueueRoom _ => true
  | .ptabLoad r e => reqWith r e
  | .ptabDrop r e => reqWith r e
  | .ptabQuery r e => reqWith r e
  | .benMapWrite _ _ => true
  | .rampTableWrite _ _ _ _ => true
  | .benCntClr _ _ => true
  | .mpCntClr _ _ => true
  | .tickStrobe _ => true
  | .fbCutoff _ p => p.wf
  | .enginePlan _ _ => true
  | .residueMismatch _ => true
  | .islandEccError _ _ => true
  | .barrierRelease => true
  | .vectorOutcome _ => true
  | .dryTimeReport _ => true
  | .spareTakeoverDone _ => true
  | .lkCycle => true
  | .unitCommit _ => true
  | .half1Commit _ => true
  | .trackExpiry => true
  | .lockDefine _ _ => true
  | .fadeWrite _ _ => true
  | .lkCntClr _ => true
  | .replayLayer r e => reqWith r e
  | .lookaheadRead _ => true
  | .ledgerUpdate _ => true
  | .ledgerLossNotice _ => true
  | .epochStart => true
  | .ldgCntClr _ => true
  | .ledgerClear r e => reqWith r e
  | .ledgerRead r e => reqWith r e
  | .featureArrival _ => true
  | .gridLoad r e => reqWith r e
  | .gridCommit _ => true
  | .calMark r e => reqWith r e
  | .calProbe r e => reqWith r e
  | .calEdge r e => reqWith r e
  | .calResid r e => reqWith r e
  | .gridQuery r e => reqWith r e
  | .residQuery r e => reqWith r e
  | .cameraTrigger _ => true
  | .csiFrameStart _ => true
  | .csiLongPacket _ k => k.wf
  | .csiFrameEnd _ => true
  | .frameTimeout _ => true
  | .frameStartTimeout _ => true
  | .i2cWriteStart _ => true
  | .i2cWriteEnd _ _ => true
  | .i2cSetTimeout _ => true
  | .camSensorSet r e => reqWith r e
  | .camPipeSet r e => reqWith r e
  | .camDefectLoad r e => reqWith r e
  | .camTrigger r e => reqWith r e
  | .camTapSet r e => reqWith r e
  | .camQuery r e => reqWith r e
  | .camI2cRead r e => reqWith r e
  | .visCntClr _ => true
  | .feedbackFrame _ f => decide (f.bytes.length ≤ 64)
  | .feedbackWindowEnd _ => true
  | .trainingComplete _ _ => true
  | .trainingTimeout _ => true
  | .headResponse _ _ _ => true
  | .headCmdTimeout _ => true
  | .enumRetry _ => true
  | .wakeComplete _ _ => true
  | .headJog r e => reqWith r e
  | .headMoor r e => reqWith r e
  | .portSleep r e => reqWith r e
  | .portQuery r e => reqWith r e
  | .laneTest r e => reqWith r e
  | .laneInject _ => true
  | .laneCfgWrite _ _ => true
  | .scnCntClr _ => true
  | .lasCntClr _ => true
  | .safeMoorHoldExpiry => true
  | .ilkNLow => true
  | .ilkNHigh => true
  | .emitReadback _ _ => true
  | .dramTrain => true
  | .dramTrainDone t => decide (t.results.length ≤ 20)
  | .dramRequest arrive _ => arrive.all DramReq.wf
  | .dramTimeout _ => true
  | .refresh _ => true
  | .mr4Poll _ => true
  | .powerDownEntry _ => true
  | .scrubRead _ _ => true
  | .dramCntClr _ => true
  | .topo _ _ => true
  | .memberLost _ => true
  | .timeSyncInterval => true
  | .timeSync _ _ _ => true
  | .timeReply _ _ _ _ _ => true
  | .modeNote _ _ _ => true
  | .qtime _ _ => true
  | .xassign _ x => x.wf
  | .xack _ _ => true
  | .xdevAckTimeout _ _ => true
  | .xsync _ _ _ => true
  | .xcommitReq _ _ => true
  | .xcommitRsp _ _ _ => true
  | .xprogress _ _ _ _ _ => true
  | .bandUpd _ _ _ _ _ => true
  | .bandLoss _ _ _ => true
  | .forwardedEvent _ v => v.payload.length == 16
  | .progress _ _ => true
  | .testReq _ _ _ => true
  | .resid _ _ => true
  | .flitNak _ _ _ => true
  | .flitReplayTimeout _ _ => true
  | .linkRetrain r e => reqWith r e
  | .calXresid r e => reqWith r e
  | .linkQuery r e => reqWith r e
  | .byfCntClr _ => true
  | .tb3Compare _ => true
  | .tb3StepApply => true
  | .ptpSync p => decide (p.sub < 16000000000)
  | .ptpSyncLoss => true
  | .gmSettleExpiry => true
  | .ethLinkLoss _ => true
  | .toutEdge _ => true
  | .tcapEdge _ _ sub _ => decide (sub < 8000)
  | .timeSnap => true
  | .timeCntClr _ => true
  | .refclkBad => true
  | .timeBuildStart r e => reqWith r e
  | .timeToutArm r e => reqWith r e
  | .timeToutStop r e => reqWith r e
  | .timeTb1Set r e => reqWith r e
  | .ptpAddrSet r e => reqWith r e
  | .timeQuery r e => reqWith r e
  | .profileUpdate => true
  | .chopperCrossing _ _ _ _ _ => true
  | .phaseOpen _ _ => true
  | .holdCurrentTimer _ => true
  | .debouncedInputEdge _ _ _ _ => true
  | .coarseStepEdge _ _ _ => true
  | .encoderCheck _ => true
  | .recoatStepStart => true
  | .motMove r e => reqWith r e
  | .motRetune r e => reqWith r e
  | .motStop r e => reqWith r e
  | .motHome r e => reqWith r e
  | .motEnable r e => reqWith r e
  | .motRecoatSet r e => reqWith r e
  | .motRecoatRun r e => reqWith r e
  | .motQuery r e => reqWith r e
  | .sineTableWrite _ _ _ => true
  | .ledPeriodStart _ => true
  | .bloomUpdate _ => true
  | .strobeWindow _ _ => true
  | .ledDerate _ => true
  | .ledDiagnostic _ _ _ => true
  | .ledSet r e => reqWith r e
  | .bloomSet r e => reqWith r e
  | .ledRearm r e => reqWith r e
  | .ledQuery r e => reqWith r e
  | .bandgapCompare v => v.length == 3
  | .ntcConvert _ _ => true
  | .trimRun r e => reqWith r e
  | .trimCommit r e => reqWith r e
  | .trimLoad r e => reqWith r e
  | .trimRead r e => reqWith r e
  | .faultDetected _ => true
  | .safeWorkSettle => true
  | .ghostTraffic _ _ => true
  | .errNPulseEnd => true
  | .thermalSample t => t.length == 4
  | .supply _ mv low high => decide (low ≤ mv) && decide (mv ≤ high)
  | .pfailNLow => true
  | .pfailNHigh => true
  | .lockstep _ _ => true
  | .watchdog => true
  | .histSelect _ => true
  | .faultInjectFire _ => true
  | .faultAck r e => reqWith r e
  | .faultClear r e => reqWith r e
  | .faultInject r e => reqWith r e
  | .fenceLift r e => reqWith r e
  | .errLevel r e => reqWith r e
  | .faultQuery r e => reqWith r e
  | .histRead r e => reqWith r e
  | .eventMergeRelease => true
  | .noteFlushTimer => true
  | .flushComplete _ => true
  | .recSramFail _ => true
  | .recCursorLoad _ => true
  | .recWin7Read => true
  | .recShadowSelect _ => true
  | .monitorSample _ _ => true
  | .recFlush r e => reqWith r e
  | .recClear r e => reqWith r e
  | .monSet r e => reqWith r e
  | .monCapture r e => reqWith r e
  | .lifeReset r e => reqWith r e
  | .recRead r e => reqWith r e
  | .lifeRead r e => reqWith r e
  | .woramQuery r e => reqWith r e
  | .lcAdvance r e => reqWith r e
  | .mbistRun r e => reqWith r e
  | .repairStore r e => reqWith r e
  | .bistQuery r e => reqWith r e
  | .repairApply _ => true
  | .bistMemSelect _ => true
  | .scannerSymbolLockLoss _ => true
  | .byoftPortFail _ _ => true
  | .laneErr _ => true
  | .pcieLinkUp _ _ => true
  | .supplyRestored _ _ => true
  | .refclkRestored => true
  | .hostReadTimeout _ => true
  | .msixUnmask _ => true
  | .prbsCheckerLock _ errors bits => decide (errors ≤ bits)
  | .quadratureEdge _ _ _ _ => true
  | .ethFrameReceived _ _ => true
  | .ptpTxInterval => true

end Sys2Proof
end

