-- ==== Sys2Proof/Tests/Slice0.lean ====
section
/-! SUPPORT. Tests: ill-formed commands, and for every statement with hypotheses a state and operands that meet
them. -/

set_option Elab.async false
set_option maxRecDepth 20000

namespace Sys2Proof.Tests

open Sys2Proof.Machine Sys2Proof.Config

/-- The device of a variant in a mode after boot, firmware in force, with ring 0 CONTROL, ring 1 BUILD and ring 2 STREAM on. -/
def devOf (v : Variant) (m : Mode) : Dev :=
  let d := (Dev.powerOn v Fuses.blank Mram.blank false)
  { d with mode := { d.mode with cur := m, boot := 5, fwSup := true, fwBe := true, fwVis := true, dram := true }
           hif := { d.hif with linkUp := true }
           regs := [] }

def on3 (d : Dev) : Dev :=
  ((d.wr (HIF_RING_CTRL 0) 0x80000002).wr (HIF_RING_CTRL 1) 0x80000001).wr (HIF_RING_CTRL 2) 0x80000003

/-- That device as it stands with nothing waiting and an empty memory. -/
def dv (m : Mode) : Dev := on3 (devOf .pq16 m)

def st (d : Dev) : State := ⟨d, [], []⟩

def at_ (m : Mode) : State := st (dv m)

/-- A descriptor on a ring with two argument words. -/
def rq (ring : Nat) (a0 a1 : Word) : Req := ⟨ring, 0, 0, 0, 7, a0, a1, 0, 0, 0, 0, 0, 0, 0, 0⟩

/-- One with its answers written to host memory. -/
def rqR (ring : Nat) (a0 a1 : Word) (len : Nat) : Req := { rq ring a0 a1 with resultLen := len, resultAddr := 4096 }

/-- One with input data. -/
def rqD (ring : Nat) (a0 a1 : Word) (len : Nat) : Req := { rq ring a0 a1 with dataLen := len, dataAddr := 4096 }

def e0 : Env := ⟨[], none, [], [], true, 0, .ok⟩

def eD (b : List Byte) : Env := { e0 with data := b }

/-- One record of a barge: a jump (type 0) or an exposing record. -/
def recBytes (x y : Int) (id type dur elig : Nat) : List Byte :=
  leBytes 4 (unsigned 32 x) ++ leBytes 4 (unsigned 32 y) ++ leBytes 4 id ++ leBytes 4 0 ++ leBytes 2 0 ++
    leBytes 2 elig ++ leBytes 1 0 ++ leBytes 1 type ++ leBytes 2 0 ++ leBytes 4 dur ++ leBytes 4 0

/-- A barge of a layer with those records, both checksums in place. -/
def bargeBytes (layer id ptab : Nat) (recs : List Byte) : List Byte :=
  let h := leBytes 4 0x42475150 ++ leBytes 2 1 ++ leBytes 2 0 ++ leBytes 4 layer ++ leBytes 4 id ++ leBytes 4 ptab ++
    leBytes 4 (recs.length / 32) ++ leBytes 2 0 ++ leBytes 2 0 ++ leBytes 4 (crc32c recs) ++ List.replicate 28 0
  h ++ leBytes 4 (crc32c h) ++ recs

/-- A parameter set that keeps every limit of R132. -/
def setBytes : List Byte :=
  leBytes 4 100000 ++ leBytes 4 1000000 ++ leBytes 4 2000000 ++ leBytes 4 1000000000 ++ leBytes 4 100000 ++
    leBytes 4 100 ++ leBytes 4 100 ++ leBytes 2 0 ++ leBytes 2 0 ++ leBytes 4 200000 ++ leBytes 2 0 ++ leBytes 2 0 ++
    leBytes 4 0 ++ leBytes 4 0 ++ leBytes 4 0 ++ leBytes 4 0 ++ leBytes 4 400 ++ leBytes 4 0 ++ List.replicate 64 0

/-- A parameter table of one set, both checksums in place. -/
def tabBytes (id : Nat) : List Byte :=
  let h := leBytes 4 0x51544150 ++ leBytes 2 1 ++ leBytes 2 1 ++ leBytes 4 id ++ leBytes 4 (crc32c setBytes) ++
    List.replicate 44 0
  h ++ leBytes 4 (crc32c h) ++ setBytes

/-- That table as it stands in a slot. -/
def tab (id : Nat) : Table := ⟨id, [setBytes], []⟩

/-- An open layer without barges. -/
def lay0 (num : Nat) : Layer := ⟨num, 2, 5, 0x40000000, 0, 1000, 1, [], none, false, 60000, none, false, []⟩

/-- The device with those layers open and table 5 loaded. -/
def withLayers (m : Mode) (ls : List Layer) : Dev :=
  { dv m with lay := { (dv m).lay with opened := ls, slots := [some (tab 5), none, none, none] } }

/-- The device with a change to one engine. -/
def withEng (d : Dev) (n : Nat) (f : Engine → Engine) : Dev := d.modEng n f

/-- A grid of 4 by 4 zero nodes over the whole bed, as GRID_LOAD takes it. -/
def gridBytes (beam id : Nat) : List Byte :=
  let nodes : List Byte := List.replicate 256 0
  let h := leBytes 4 0x44475150 ++ leBytes 2 1 ++ leBytes 1 beam ++ leBytes 1 0 ++ leBytes 2 4 ++ leBytes 2 4 ++
    leBytes 4 id ++ leBytes 4 (unsigned 32 (-1500000)) ++ leBytes 4 (unsigned 32 (-1500000)) ++ leBytes 4 1000000 ++
    leBytes 4 1000000 ++ leBytes 4 0 ++ leBytes 4 0 ++ leBytes 4 0 ++ leBytes 4 0 ++ leBytes 4 (crc32c nodes) ++
    leBytes 8 0
  h ++ leBytes 4 (crc32c h) ++ nodes

/-- That grid in force. -/
def grid0 (beam id : Nat) : Grid :=
  ⟨beam, 4, 4, id, -1500000, -1500000, 1000000, 1000000, 0, 0, 0, 0, (gridBytes beam id).take 64, List.replicate 256 0, []⟩

/-- A device with table 5 and a grid for beams 0 and 1. -/
def calDev (m : Mode) : Dev :=
  let d := withLayers m []
  { d with grids := (d.grids.set 0 ⟨some (grid0 0 3), none, false, false, none⟩).set 1 ⟨some (grid0 1 4), none, false, false, none⟩ }

/-- The device with axis a energised and enabled, and a change to it. -/
def axDev (m : Mode) (a : Nat) (cfg : Word) (f : Axis → Axis) : Dev :=
  let d := ((dv m).wr (MOT_AX_CFG a) cfg).wr (MOT_AX_VMAX a) 100000 |>.wr (MOT_AX_ACC a) 1000
  d.modAxis a (fun x => f { x with on := true, faulted := false })

/-! ## Ill-formed commands: each check of WellFormed refuses a term -/

theorem test_wf_descriptor : (Instr.layerQuery (rq 0 1 0) e0).wf = true := by decide +kernel
theorem test_wf_ring : (Instr.layerQuery (rq 64 1 0) e0).wf = false := by decide +kernel
theorem test_wf_index : (Instr.layerQuery { rq 0 1 0 with idx := 65536 } e0).wf = false := by decide +kernel
theorem test_wf_opcode : (Instr.layerQuery { rq 0 1 0 with op := 65536 } e0).wf = false := by decide +kernel
theorem test_wf_flags : (Instr.layerQuery { rq 0 1 0 with flags := 65536 } e0).wf = false := by decide +kernel
theorem test_wf_tag : (Instr.layerQuery { rq 0 1 0 with tag := 2 ^ 32 } e0).wf = false := by decide +kernel
theorem test_wf_lengths :
    (Instr.layerQuery { rq 0 1 0 with dataLen := 2 ^ 32 } e0).wf = false ∧
    (Instr.layerQuery { rq 0 1 0 with resultLen := 2 ^ 32 } e0).wf = false := by decide +kernel
theorem test_wf_addresses :
    (Instr.layerQuery { rq 0 1 0 with dataAddr := 2 ^ 64 } e0).wf = false ∧
    (Instr.layerQuery { rq 0 1 0 with resultAddr := 2 ^ 64 } e0).wf = false := by decide +kernel
theorem test_wf_more_data_than_named : (Instr.barge (rqD 1 0 0 1) (eD [1, 2])).wf = false := by decide +kernel
theorem test_wf_failed_data_is_absent :
    (Instr.dataReadDone 0 0 { eD [1] with dataFail := some .poisoned }).wf = false := by decide +kernel
theorem test_wf_word_offset :
    (Instr.registerWrite 6 0 0 0).wf = false ∧ (Instr.w1cClear 6 0 0).wf = false ∧
    (Instr.lostClearClr 6 0 0 0).wf = false ∧ (Instr.lowWordRead 6).wf = false := by decide +kernel
theorem test_wf_bar2_length :
    (Instr.bar2Read 0 0 .clean).wf = false ∧ (Instr.bar2Read 0x3FFFFFF 2 .clean).wf = false ∧
    (Instr.bar2Write 0 []).wf = false ∧ (Instr.bar2Write 0x3FFFFFF [1, 2]).wf = false := by decide +kernel
theorem test_wf_doorbell_page : (Instr.doorbellPoll (some [0]) e0).wf = false := by decide +kernel
theorem test_wf_descriptor_bytes : (Instr.descriptorReadDone 0 (some [0]) e0).wf = false := by decide +kernel
theorem test_wf_photodiodes : (Instr.fbCutoff 0 ⟨⟨[1, 2, 3, 4, 5, 6], false, false⟩, ⟨[1, 2, 3, 4, 5], false, false⟩, false⟩).wf = false := by decide +kernel
theorem test_wf_camera_packet :
    (Instr.csiLongPacket 0 ⟨16, 0, false, false, []⟩).wf = false ∧
    (Instr.csiLongPacket 0 ⟨0, 64, false, false, []⟩).wf = false := by decide +kernel
theorem test_wf_feedback : (Instr.feedbackFrame 0 ⟨List.replicate 65 0, true⟩).wf = false := by decide +kernel
theorem test_wf_dram :
    (Instr.dramTrainDone ⟨none, false, List.replicate 21 0⟩).wf = false ∧
    (Instr.dramRequest [⟨2, 0, 0, some (List.replicate 65 0), .ledger, .clean, .clean⟩] 0).wf = false := by
  decide +kernel
theorem test_wf_peer_entry :
    (Instr.xassign ⟨3, 0⟩ ⟨9, 3, 0, 0, 0, 0, 0, List.replicate 33 0, none, 0, 0, 0, 0, 0, 0⟩).wf = false ∧
    (Instr.xassign ⟨3, 0⟩ ⟨9, 3, 0, 0, 0, 0, 0, [], none, 0, 0, 0, 0, 0, 0⟩).wf = false ∧
    (Instr.xassign ⟨3, 0⟩ ⟨9, 3, 0, 0, 0, 0, 0, List.replicate 32 0, some 0, 1, 0, 0, 0, 0, 0⟩).wf = false := by decide +kernel
theorem test_wf_forwarded_event : (Instr.forwardedEvent ⟨3, 0⟩ ⟨0, 1, 1, 0, [1]⟩).wf = false := by decide +kernel
theorem test_wf_instants :
    (Instr.ptpSync ⟨1, 5, 77, 1, 1, 1, 1, 100, 16000000000, 0, true, true⟩).wf = false ∧
    (Instr.tcapEdge 0 true 8000 false).wf = false ∧ (Instr.supply 0 700 710 720).wf = false ∧
    (Instr.supply 0 700 680 690).wf = false := by decide +kernel
theorem test_wf_samples :
    (Instr.bandgapCompare [1, 2]).wf = false ∧ (Instr.thermalSample [1, 2, 3]).wf = false ∧
    (Instr.prbsCheckerLock 0 2 1).wf = false := by decide +kernel

/-- No row of the opcode table gives bits. -/
theorem test_no_row_gives_bits (nbits w : Nat) : decodeTableWord nbits w = none := rfl

/-! ## Values the spec fixes -/

/-- R117: CRC-32C; the check value of that code on "123456789" is 0xE3069283. -/
theorem test_crc32c : crc32c [0x31, 0x32, 0x33, 0x34, 0x35, 0x36, 0x37, 0x38, 0x39] = 0xE3069283 := by decide +kernel
/-- R315: polynomial 0x1021, initial value 0xFFFF; the check value of that code on "123456789" is 0x29B1. -/
theorem test_crc16 : crc16 [0x31, 0x32, 0x33, 0x34, 0x35, 0x36, 0x37, 0x38, 0x39] = 0x29B1 := by decide +kernel

/-! ## The hypotheses of the statements -/

/-- A next state for `Obligations.EveryCommandGoesOn`. -/
theorem wit_QueueUntouched : exec .watchdog State.reset = .next State.reset := rfl
/-- A command and states that meet the hypotheses of `Obligations.MemoryFrame`. -/
theorem wit_MemoryFrame : touchesMemory .watchdog = false ∧ exec .watchdog State.reset = .next State.reset := ⟨rfl, rfl⟩

def argEveryStepRunsItsCommandA := { at_ .build with pending := [.watchdog, .safeReq] }

/-- Commands and states that meet the hypotheses of `Obligations.EveryStepRunsItsCommand`, clause by
clause. -/
theorem wit_EveryStepRunsItsCommand :
    argEveryStepRunsItsCommandA.pending = [Instr.watchdog, Instr.safeReq] ∧
    (at_ Mode.build).pending = [] := by
  refine ⟨?_, ?_⟩ <;> decide +kernel

/-- Commands and states that meet the hypotheses of `Obligations.MemoryStaysCanonical`, clause by
clause. -/
theorem wit_MemoryStaysCanonical :
    MemoryCanonical (at_ Mode.build) ∧ step (at_ Mode.build) = Host.Outcome.next (at_ Mode.build) :=
  ⟨by decide +kernel, rfl⟩

def softP : State := st { dv .build with mode := { (dv .build).mode with softPending := true } }

/-- Commands and states that meet the hypotheses of `Obligations.ResetsRestore`, clause by
clause. -/
theorem wit_ResetsRestore :
    (State.reset.dev.mode.boot = 0 ∧ actsInReset Instr.watchdog = false) ∧
    ((∃ ns, 1000 ≤ ns ∧ Instr.rstNReset 1000 = Instr.rstNReset ns ∧ 1 = 1) ∨ Instr.rstNReset 1000 = Instr.perstNReset ∧ 1 = 2 ∨ Instr.rstNReset 1000 = Instr.softwareResetFire ∧ (at_ Mode.build).dev.mode.softPending = true ∧ 1 = 3) ∧
    ((∃ ns, 1000 ≤ ns ∧ Instr.perstNReset = Instr.rstNReset ns ∧ 2 = 1) ∨ Instr.perstNReset = Instr.perstNReset ∧ 2 = 2 ∨ Instr.perstNReset = Instr.softwareResetFire ∧ (at_ Mode.build).dev.mode.softPending = true ∧ 2 = 3) ∧
    ((∃ ns, 1000 ≤ ns ∧ Instr.softwareResetFire = Instr.rstNReset ns ∧ 3 = 1) ∨ Instr.softwareResetFire = Instr.perstNReset ∧ 3 = 2 ∨ Instr.softwareResetFire = Instr.softwareResetFire ∧ softP.dev.mode.softPending = true ∧ 3 = 3) ∧
    999 < 1000 :=
  ⟨by decide +kernel, (Or.inl ⟨1000, by decide, rfl, rfl⟩), (Or.inr (Or.inl ⟨rfl, rfl⟩)),
   (Or.inr (Or.inr ⟨rfl, rfl, rfl⟩)), by decide +kernel⟩

def bootEnv : BootEnv := ⟨3, some 2, [], true⟩
def fused : State := st
  { State.reset.dev with rcd := { State.reset.dev.rcd with mram := { Mram.blank with mib := 2, slot0 := ⟨1, 0, false, true⟩ } } }

/-- Commands and states that meet the hypotheses of `Obligations.BootAndFirmware` (Boot), clause by
clause. -/
theorem wit_BootAndFirmware_Boot :
    fused.dev.mode.boot = 0 ∧ fused.dev.mode.cur = Mode.configure ∧ fused.dev.bit FLT_PROMOTE1 5 = false ∧
     bootEnv.mramMib = some 2 ∧ 2 ≤ 2 ∧ 2 ≤ 32 ∧ fused.dev.rcd.mram.pointer.isSome = true :=
  by decide +kernel

def cfg : State := at_ .configure
def loading (k : Nat) : State := st { dv .configure with mode := { (dv .configure).mode with fwLoad := some k } }
def noSup : State := st { dv .configure with mode := { (dv .configure).mode with fwLoad := some 1, fwSup := false } }

/-- Commands and states that meet the hypotheses of `Obligations.BootAndFirmware`, clause by
clause. -/
theorem wit_BootAndFirmware :
    (Up cfg ∧ cfg.dev.mode.cur = Mode.configure ∧ Word.bit 0x80000002 31 = true ∧ Word.get 0x80000002 0 2 ≠ 0 ∧
     cfg.dev.mode.fwLoad = none) ∧
    (Up (loading 2) ∧ (loading 2).dev.mode.fwLoad = some 2 ∧ 2 ≤ 2 ∧ 2 ≤ 3) ∧
    (Up (loading 3) ∧ (loading 3).dev.mode.fwLoad = some 3 ∧ 2 ≤ 3 ∧ 3 ≤ 3) ∧
    (Up (loading 2) ∧ (loading 2).dev.mode.fwLoad = some 2) ∧
    (Up noSup ∧ noSup.dev.mode.fwLoad = some 1 ∧ noSup.dev.mode.fwSup = false) := by
  refine ⟨?_, ?_, ?_, ?_, ?_⟩ <;> decide +kernel

/-- Commands and states that meet the hypotheses of `Obligations.SoftResetAndPowerFail`, clause by
clause. -/
theorem wit_SoftResetAndPowerFail :
    Up (at_ Mode.build) ∧
    (Up (at_ Mode.build) ∧ 42436 ≠ 42435) ∧
    (Awake (at_ Mode.build) ∧ (at_ Mode.build).dev.standing 38 4 = false) ∧
    Awake (at_ Mode.build) := by
  refine ⟨?_, ?_, ?_, ?_⟩ <;> decide +kernel

/-- Commands and states that meet the hypotheses of `Obligations.NoteFaultIsRecorded`, clause by
clause. -/
theorem wit_NoteFaultIsRecorded :
    Awake (at_ Mode.build) ∧
     plainReport (at_ Mode.build).dev { src := 21, cause := 3, payload := 0 : FaultReport }.src.toNat { src := 21, cause := 3, payload := 0 : FaultReport }.cause.toNat ∧
     (at_ Mode.build).dev.faultClass { src := 21, cause := 3, payload := 0 : FaultReport }.src.toNat { src := 21, cause := 3, payload := 0 : FaultReport }.cause.toNat { src := 21, cause := 3, payload := 0 : FaultReport }.payload = some Cls.note ∧
     (at_ Mode.build).dev.promotes { src := 21, cause := 3, payload := 0 : FaultReport }.src.toNat Cls.note = false :=
  ⟨by decide +kernel, ⟨fun u h => by revert h; revert u; decide +kernel, by decide +kernel⟩, by decide +kernel, by decide +kernel⟩

/-- Commands and states that meet the hypotheses of `Obligations.SafeIsEntered`, clause by
clause. -/
theorem wit_SafeIsEntered :
    (Awake (at_ Mode.build) ∧
     plainReport (at_ Mode.build).dev { src := 35, cause := 1, payload := 0 : FaultReport }.src.toNat { src := 35, cause := 1, payload := 0 : FaultReport }.cause.toNat ∧
     (at_ Mode.build).dev.faultClass { src := 35, cause := 1, payload := 0 : FaultReport }.src.toNat { src := 35, cause := 1, payload := 0 : FaultReport }.cause.toNat { src := 35, cause := 1, payload := 0 : FaultReport }.payload = some Cls.safe ∧
     (at_ Mode.build).dev.mode.cur ≠ Mode.safe ∧ (at_ Mode.build).dev.mode.cur ≠ Mode.windDown) ∧
    ((at_ Mode.build).dev.mode.cur ≠ Mode.safe ∧ (at_ Mode.build).dev.mode.cur ≠ Mode.windDown ∧
     Up (at_ Mode.build)) ∧
    ((at_ Mode.build).dev.mode.cur ≠ Mode.safe ∧ (at_ Mode.build).dev.mode.cur ≠ Mode.windDown ∧
     Awake (at_ Mode.build) ∧ 680 ≤ 690 ∧ 690 ≤ 695 ∧ (695 < (railLimits (0 : ℕ)).1 ∨ (railLimits (0 : ℕ)).2 < 680)) ∧
    ((at_ Mode.build).dev.mode.cur ≠ Mode.safe ∧ (at_ Mode.build).dev.mode.cur ≠ Mode.windDown ∧
     Awake (at_ Mode.build) ∧ 880 ≤ 890 ∧ 890 ≤ 890 ∧ (890 < (railLimits (0 : ℕ)).1 ∨ (railLimits (0 : ℕ)).2 < 880)) ∧
    ((at_ Mode.build).dev.mode.cur ≠ Mode.safe ∧ (at_ Mode.build).dev.mode.cur ≠ Mode.windDown ∧
     Awake (at_ Mode.build) ∧ SupFault.disagree ≠ SupFault.eccCorr) ∧
    ((at_ Mode.build).dev.mode.cur ≠ Mode.safe ∧ (at_ Mode.build).dev.mode.cur ≠ Mode.windDown ∧
     Awake (at_ Mode.build)) :=
  ⟨
   ⟨by decide +kernel, ⟨fun u h => by revert h; revert u; decide +kernel, by decide +kernel⟩, by decide +kernel, by decide +kernel, by decide +kernel⟩,
   by decide +kernel, by decide +kernel, by decide +kernel, by decide +kernel, by decide +kernel⟩

def argConditionsEndC := st { dv .safe with flt := { (dv .safe).flt with settleDue := true } }

/-- Commands and states that meet the hypotheses of `Obligations.ConditionsEnd`, clause by
clause. -/
theorem wit_ConditionsEnd :
    (Awake (at_ Mode.safe) ∧ (railLimits (1 : ℕ)).1 ≤ 800 ∧ 800 ≤ (railLimits (1 : ℕ)).2) ∧
    Awake (at_ Mode.safe) ∧
    (Awake argConditionsEndC ∧ argConditionsEndC.dev.flt.settleDue = true ∧
     argConditionsEndC.dev.mode.cur = Mode.safe ∧ argConditionsEndC.dev.flt.pfail = false) ∧
    (Awake (at_ Mode.safe) ∧ (at_ Mode.safe).dev.flt.settleDue = false) ∧
    (Awake (at_ Mode.build) ∧ (∀ v ∈ [-800, 0, 400, 1839], -800 ≤ v ∧ v < 1840)) ∧
    (Awake (at_ Mode.build) ∧ 2080 ≤ 2080 ∧ 2080 ≤ 2560 ∧ (at_ Mode.build).dev.standing 38 2 = false ∧
     (at_ Mode.build).dev.mode.cur ≠ Mode.safe ∧ (at_ Mode.build).dev.mode.cur ≠ Mode.windDown) := by
  refine ⟨?_, ?_, ?_, ?_, ?_, ?_⟩ <;> decide +kernel

def pulsing : State := st { dv .build with flt := { (dv .build).flt with pulse := some 7, levels := [rq 0 1 0] } }
def ghosted : State := st
  { dv .build with flt := { (dv .build).flt with fenced := [0], ghosts := [⟨0, 2, some 5⟩] }, tb3 := 100 }
def argFaultCommandsG2 := st { dv .service with flt := { (dv .service).flt with pulse := some 7 } }

/-- Commands and states that meet the hypotheses of `Obligations.FaultCommands`, clause by
clause. -/
theorem wit_FaultCommands :
    (Awake (at_ Mode.build) ∧ (at_ Mode.build).dev.flt.pulse = none) ∧
    (Awake pulsing ∧ pulsing.dev.flt.pulse = some 7) ∧
    (Awake ghosted ∧ ghosted.dev.fencedUnit (0 : ℕ) = true ∧
     (List.find? (fun g => g.unit == (0 : ℕ)) ghosted.dev.flt.ghosts = some { unit := 0, count := 2, last := some 5 : Ghost }) ∧
     { unit := 0, count := 2, last := some 5 : Ghost }.last = some 5 ∧ ghosted.dev.tb3 < 5 + perMs) ∧
    Up (at_ Mode.build) ∧
    (Takes (at_ Mode.build) 0x0B01 cmdFaultAck (rq 0 0xFFFFFFFF 0) ∧ e0.vals = []) ∧
    (Takes (at_ Mode.service) 0x0B02 cmdFaultClear (rq 0 0 0) ∧ e0.vals = []) ∧
    (Takes (at_ Mode.service) 0x0B02 cmdFaultClear (rq 0 1 0) ∧ e0.vals = []) ∧
    (Takes (at_ Mode.service) 0x0B05 cmdErrLevel (rq 0 1 0) ∧ (at_ Mode.service).dev.flt.pulse = none) ∧
    (Takes argFaultCommandsG2 0x0B05 cmdErrLevel (rq 0 1 0) ∧ argFaultCommandsG2.dev.flt.pulse ≠ none) ∧
    Takes (at_ Mode.build) 0x0B80 cmdFaultQuery (rq 0 0 0) ∧
    Takes (at_ Mode.build) 0x0B81 cmdHistRead (rqR 0 0 0 640) := by
  refine ⟨?_, ?_, ?_, ?_, ?_, ?_, ?_, ?_, ?_, ?_, ?_⟩ <;> decide +kernel

def inj : Inject := ⟨32, 6, 50, 0, rq 0 0x0620 100⟩
def argFaultCommandsInjectionL := st { dv .service with flt := { (dv .service).flt with inj := some inj } }

/-- Commands and states that meet the hypotheses of `Obligations.FaultCommands` (Injection), clause by
clause. -/
theorem wit_FaultCommands_Injection :
    (Takes (at_ Mode.service) 0x0B03 cmdFaultInject (rq 0 1568 100) ∧
     BitVec.toNat (rq 0 1568 100).a1 + BitVec.toNat (rq 0 1568 100).a2 * 2 ^ 32 ≠ 0) ∧
    (Awake argFaultCommandsInjectionL ∧ argFaultCommandsInjectionL.dev.flt.inj = some inj ∧
     argFaultCommandsInjectionL.dev.faultClass inj.src inj.cause inj.payload = some Cls.note ∧
     argFaultCommandsInjectionL.dev.promotes inj.src Cls.note = false ∧
     (∀ (u : ℕ), unitOfSource inj.src = some u → argFaultCommandsInjectionL.dev.fencedUnit u = false)) := by
  refine ⟨?_, ?_⟩ <;> decide +kernel

def small : State := st (on3 (devOf .pq8 .build))
theorem absentReg : (regRow 0x170000).isSome = true := by decide +kernel
theorem plainReg : (regRow 65588).isSome = true := by decide +kernel
theorem errReg : (regRow 131136).isSome = true := by decide +kernel

/-- Commands and states that meet the hypotheses of `Obligations.AbsentBlocksAreInert`, clause by
clause. -/
theorem wit_AbsentBlocksAreInert :
    regRow (0x170000) = some (((regRow 0x170000).get absentReg).1, 0, 0) ∧
     RegRow.present small.dev.variant ((regRow 0x170000).get absentReg).1 (0x170000) 0 = false :=
  by decide +kernel

def errs : State := st ((dv .build).wr 131136 0xFF)

/-- Commands and states that meet the hypotheses of `Obligations.RegisterWrites`, clause by
clause. -/
theorem wit_RegisterWrites :
    (Up (at_ Mode.configure) ∧ regRow (0x10034) = some (((regRow 0x10034).get plainReg).1, 0, 0) ∧
     RegRow.present (at_ Mode.configure).dev.variant ((regRow 0x10034).get plainReg).1 (0x10034) 0 = true ∧
     ordinary (0x10034) ∧ ownWrite (0x10034) 0 0 7 = none ∧
     (∀ f ∈ ((regRow 0x10034).get plainReg).1.fields, f.acc = Acc.rw) ∧
     (at_ Mode.configure).dev.mode.cur = Mode.configure) ∧
    (Up (at_ Mode.build) ∧ regRow (0x10034) = some (((regRow 0x10034).get plainReg).1, 0, 0) ∧
     RegRow.present (at_ Mode.build).dev.variant ((regRow 0x10034).get plainReg).1 (0x10034) 0 = true ∧
     ordinary (0x10034) ∧ ownWrite (0x10034) 0 0 7 = none ∧
     (∀ f ∈ ((regRow 0x10034).get plainReg).1.fields, f.acc = Acc.rw) ∧
     (at_ Mode.build).dev.admitsWrite (0x10034) = false) ∧
    (Up errs ∧ regRow (0x20040) = some (((regRow 0x20040).get errReg).1, 0, 0) ∧
     RegRow.present errs.dev.variant ((regRow 0x20040).get errReg).1 (0x20040) 0 = true ∧
     (0x20040 < 0x80000 ∨ 0x1A0000 ≤ 0x20040) ∧ 0x20040 ≠ HIF_ERR_STATUS ∧ 0x20040 ≠ TIME_ERR ∧
     (∀ f ∈ ((regRow 0x20040).get errReg).1.fields, f.lo + f.width ≤ 32)) := by
  refine ⟨?_, ?_, ?_⟩ <;> decide +kernel

def lost : State := st ((dv .build).wr 98312 0x30005)
def lostF : State := st { dv .build with flt := { (dv .build).flt with fenced := [3] } }

/-- Commands and states that meet the hypotheses of `Obligations.HostWindows`, clause by
clause. -/
theorem wit_HostWindows :
    lostF.dev.fencedBlock (BitVec.ofNat 25 (BE_ERR 3 + 32768)).toNat = true ∧
    (Up lost ∧ isLostClear lost.dev.variant (0x18008) = true ∧ lost.dev.fencedBlock (0x18008) = false ∧
     Word.bit 0x80000000 31 = true) ∧
    (Up lost ∧ isLostClear lost.dev.variant (0x18008) = true ∧ lost.dev.fencedBlock (0x18008) = false ∧
     Word.bit 0x80000000 31 = true ∧ 0 < 65535 ∧ 65535 < 0x10000) ∧
    (Up (at_ Mode.build) ∧ pairLow (0x10010) = true) ∧
    Up (at_ Mode.build) := by
  refine ⟨?_, ?_, ?_, ?_, ?_⟩ <;> decide +kernel

def dramOn (m : Mode) : State := st ((dv m).wr DRAM_STATUS 3)
def dramOn2 : State :=
  { st (((dv .service).wr DRAM_STATUS 3).wr HIF_BAR2_BASE_LO 0x70000000) with mem := [(0x70000011, 7)] }
def dramOn3 : State := st (((calDev .service).wr DRAM_STATUS 3).wr HIF_BAR2_BASE_LO 0x08000000)
def dramOff : State := st (((dv .service).wr DRAM_STATUS 3).wr HIF_BAR2_BASE_HI 8)

/-- Commands and states that meet the hypotheses of `Obligations.HostWindows` (Bar2), clause by
clause. -/
theorem wit_HostWindows_Bar2 :
    (Up (dramOn Mode.configure) ∧
     ((dramOn Mode.configure).dev.mode.cur = Mode.configure ∨ (dramOn Mode.configure).dev.mode.cur = Mode.service) ∧
     3 ≤ (dramOn Mode.configure).dev.dramState ∧
     (dramOn Mode.configure).dev.bar2At 16 + [1, 2, 0].length ≤ (dramOn Mode.configure).dev.dramBytes ∧
     [1, 2, 0] ≠ []) ∧
    (Up (at_ Mode.build) ∧ (at_ Mode.build).dev.mode.cur ≠ Mode.configure ∧
     (at_ Mode.build).dev.mode.cur ≠ Mode.service) ∧
    (Up dramOn2 ∧ 0x70000010 = dramOn2.dev.bar2At 16 ∧ Ecc.corrected ≠ Ecc.uncorrectable ∧
     dramOn2.dev.mode.dram = true ∧ 3 ≤ dramOn2.dev.dramState ∧ 0x70000010 + 4 ≤ dramOn2.dev.dramBytes ∧
     (∀ i < 4, dramOn2.dev.dramManaged (0x70000010 + i) = false)) ∧
    (Up dramOn3 ∧ 0x8000000 = dramOn3.dev.bar2At 0 ∧ Ecc.clean ≠ Ecc.uncorrectable ∧ dramOn3.dev.mode.dram = true ∧
     dramOn3.dev.dramHolds 0x8000000 = true ∧ dramOn3.dev.dramManaged 0x8000000 = true ∧
     dramOn3.dev.knownByte 0x8000000 = some 80) ∧
    (Up dramOff ∧ 0x800000010 = dramOff.dev.bar2At 16 ∧
     (dramOff.dev.dramBytes ≤ 0x800000010 ∨ dramOff.dev.mode.dram = false)) ∧
    (Up dramOn2 ∧ 0x70000010 = dramOn2.dev.bar2At 16 ∧ dramOn2.dev.mode.dram = true ∧ 3 ≤ dramOn2.dev.dramState ∧
     0x70000010 < dramOn2.dev.dramBytes) := by
  refine ⟨?_, ?_, ?_, ?_, ?_, ?_⟩ <;> decide +kernel

def buf0 : Buf := ⟨4, 9, true, 4096, 4096, 0, 0, 0⟩
def buf1 : Buf := ⟨4, 9, true, 4096, 4096, 80, 1, 0⟩
def buffered (b : Buf) : State := st ((dv .build).modRing 2 (fun r => { r with bufs := [b], seq := 1 }))

/-- Commands and states that meet the hypotheses of `Obligations.RingControl`, clause by
clause. -/
theorem wit_RingControl :
    (Up (at_ Mode.build) ∧ (at_ Mode.build).dev.ringOn (3 : ℕ) = false ∧ 3 ≠ 0 ∧
     (3 = 3 → (at_ Mode.build).dev.fld (HIF_RING_STREAM (3 : ℕ)) 0 4 < 7)) ∧
    (Up (at_ Mode.build) ∧ (at_ Mode.build).dev.ringOn (0 : ℕ) = true) ∧
    (Up (at_ Mode.build) ∧ (at_ Mode.build).dev.ringOn (0 : ℕ) = true ∧ (at_ Mode.build).dev.ringType (0 : ℕ) ≠ 3) ∧
    (Up (buffered buf0) ∧ (buffered buf0).dev.ringOn (2 : ℕ) = true ∧ (buffered buf0).dev.ringType (2 : ℕ) = 3 ∧
     ((buffered buf0).dev.ring (2 : ℕ)).bufs = [buf0]) ∧
    (Up (buffered buf1) ∧ (buffered buf1).dev.ringOn (2 : ℕ) = true ∧ (buffered buf1).dev.ringType (2 : ℕ) = 3 ∧
     ((buffered buf1).dev.ring (2 : ℕ)).bufs = [buf1]) ∧
    (Up (at_ Mode.build) ∧ (at_ Mode.build).dev.ringOn (5 : ℕ) = false ∧
     ((at_ Mode.build).dev.ring (5 : ℕ)).inflight = [] ∧ (at_ Mode.build).dev.rings.length = 64) ∧
    (Up (at_ Mode.build) ∧
     ((at_ Mode.build).dev.ringOn (0 : ℕ) = true ∨ ((at_ Mode.build).dev.ring (0 : ℕ)).inflight ≠ [])) := by
  refine ⟨?_, ?_, ?_, ?_, ?_, ?_, ?_⟩ <;> decide +kernel

def one (m : Mode) : Dev := ((devOf .pq16 m).wr (HIF_RING_CTRL 1) 0x80000001).wr HIF_DB_CTRL 0x80000000
def page1 : List Word64 := (List.replicate 64 (0 : Word64)).set 1 0x0000000000000003
def onlyOne : State := st (one .build)
theorem onlyOneRing : ∀ m, m < 64 → (onlyOne.dev.ringOn m = true ↔ m = (1 : Fin 64).val) := by decide +kernel
def fails15 : State := st { one .build with hif := { (one .build).hif with fails := 15 } }
def oneOff : State := st { one .build with hif := { (one .build).hif with linkUp := false } }

/-- Commands and states that meet the hypotheses of `Obligations.Doorbells`, clause by
clause. -/
theorem wit_Doorbells :
    (0 < (dv Mode.build).rings.length ∧ halfOk 3 16 ((dv Mode.build).sqSize 0).log2 = true ∧
     posDiff (halfPos 3 16 ((dv Mode.build).sqSize 0)) ((dv Mode.build).ring 0).sqHead ((dv Mode.build).sqSize 0) ≤ (dv Mode.build).sqSize 0) ∧
    (0 < (dv Mode.build).rings.length ∧ halfOk 0x10000 16 ((dv Mode.build).sqSize 0).log2 = true ∧
     posDiff (halfPos 0x10000 16 ((dv Mode.build).sqSize 0)) ((dv Mode.build).ring 0).sqHead ((dv Mode.build).sqSize 0) ≤ (dv Mode.build).sqSize 0) ∧
    (0 < (dv Mode.build).rings.length ∧ halfOk 0x20003 16 ((dv Mode.build).sqSize 0).log2 = false) ∧
    (Up onlyOne ∧ onlyOne.dev.bit HIF_DB_CTRL 31 = true ∧ onlyOne.dev.hif.linkUp = true ∧
     (∀ m < 64, onlyOne.dev.ringOn m = true ↔ m = (1 : ℕ)) ∧
     (∀ m < 64, (onlyOne.dev.ring m).prefetch = [] ∧ (onlyOne.dev.ring m).spill = [] ∧ (onlyOne.dev.ring m).held = [] ∧ (onlyOne.dev.ring m).retry = false) ∧
     onlyOne.dev.rings.length = 64 ∧ onlyOne.dev.staged = [] ∧ 3 = BitVec.toNat (page1.getD (1 : ℕ) 0) ∧
     halfOk (3 % 2 ^ 32) 16 (onlyOne.dev.sqSize (1 : ℕ)).log2 = true ∧
     posDiff (halfPos (3 % 2 ^ 32) 16 (onlyOne.dev.sqSize (1 : ℕ))) (onlyOne.dev.ring (1 : ℕ)).sqHead (onlyOne.dev.sqSize (1 : ℕ)) ≤ onlyOne.dev.sqSize (1 : ℕ) ∧
     halfOk (3 / 2 ^ 32) 20 (onlyOne.dev.cqSize (1 : ℕ)).log2 = true ∧
     posDiff (onlyOne.dev.ring (1 : ℕ)).cqTail (halfPos (3 / 2 ^ 32) 20 (onlyOne.dev.cqSize (1 : ℕ))) (onlyOne.dev.cqSize (1 : ℕ)) ≤ onlyOne.dev.cqSize (1 : ℕ)) ∧
    (Up onlyOne ∧ onlyOne.dev.bit HIF_DB_CTRL 31 = true ∧ (∃ n < 64, onlyOne.dev.ringOn n = true)) ∧
    (Up fails15 ∧ fails15.dev.bit HIF_DB_CTRL 31 = true ∧ (∃ n < 64, fails15.dev.ringOn n = true)) ∧
    (Up oneOff ∧ oneOff.dev.bit HIF_DB_CTRL 31 = true ∧ (∃ n < 64, oneOff.dev.ringOn n = true) ∧
     (some page1 = none ∨ oneOff.dev.hif.linkUp = false)) ∧
    (Up (at_ Mode.build) ∧ (at_ Mode.build).dev.bit HIF_DB_CTRL 31 = false) :=
  ⟨by decide +kernel, by decide +kernel, by decide +kernel,
   ⟨by decide +kernel, by decide +kernel, by decide +kernel, onlyOneRing, by decide +kernel, by decide +kernel, by decide +kernel, by decide +kernel, by decide +kernel, by decide +kernel, by decide +kernel, by decide +kernel⟩,
   ⟨by decide +kernel, by decide +kernel, ⟨1, by decide, by decide +kernel⟩⟩,
   ⟨by decide +kernel, by decide +kernel, ⟨1, by decide, by decide +kernel⟩⟩,
   ⟨by decide +kernel, by decide +kernel, ⟨1, by decide, by decide +kernel⟩, (Or.inr rfl)⟩, by decide +kernel⟩

def due (r : Nat) : State := st (((dv .build).wr HIF_DB_CTRL 0x80000000).modRing r (fun x => { x with sqTail := 1 }))
def nop : List Byte := leBytes 2 0x0B01 ++ leBytes 2 4 ++ leBytes 4 5 ++ List.replicate 56 0
def bad : List Byte := leBytes 2 0x7777 ++ leBytes 2 4 ++ leBytes 4 5 ++ List.replicate 56 0
def fetchD : Dev := (({ (due 0).dev with hif := { (due 0).dev.hif with fails := 0 } } : Dev).tookTurn 0).modRing 0
  (fun r => { r with prefetch := [], sqHead := (((due 0).dev.ring 0).sqHead + 1) % (2 * (due 0).dev.sqSize 0) })
def badArg : List Byte := leBytes 2 0x0B01 ++ leBytes 2 4 ++ leBytes 4 5 ++ List.replicate 16 9 ++ List.replicate 40 0

/-- Commands and states that meet the hypotheses of `Obligations.DescriptorsStart`, clause by
clause. -/
theorem wit_DescriptorsStart :
    (Up (due 0) ∧ (due 0).dev.fetches (0 : ℕ) = true ∧ ((due 0).dev.ring (0 : ℕ)).prefetch = [] ∧ bad.length = 64 ∧
     (due 0).dev.rings.length = 64 ∧
     parseReq 0 0 bad = parseReq (0 : ℕ) (((due 0).dev.ring (0 : ℕ)).sqHead % (due 0).dev.sqSize (0 : ℕ)) bad ∧
     (due 0).dev.canStart (parseReq 0 0 bad) = true ∧ (due 0).dev.descFail (parseReq 0 0 bad) bad = some (3, 2)) ∧
    (Up (due 0) ∧ (due 0).dev.fetches (0 : ℕ) = true) ∧
    (Up (at_ Mode.build) ∧ (at_ Mode.build).dev.fetches (0 : ℕ) = false) ∧
    (Up (due 0) ∧ (due 0).dev.fetches (0 : ℕ) = true ∧ ((due 0).dev.ring (0 : ℕ)).prefetch = [] ∧ nop.length = 64 ∧
     (due 0).dev.rings.length = 64 ∧
     parseReq 0 0 nop = parseReq (0 : ℕ) (((due 0).dev.ring (0 : ℕ)).sqHead % (due 0).dev.sqSize (0 : ℕ)) nop ∧
     (due 0).dev.canStart (parseReq 0 0 nop) = true ∧ (due 0).dev.descFail (parseReq 0 0 nop) nop = none ∧
     cmdFaultAck.check (fetchD.launch (parseReq 0 0 nop)) (parseReq 0 0 nop) = none ∧
     (parseReq 0 0 nop).dataLen = 0) ∧
    (Up (due 0) ∧ (due 0).dev.fetches (0 : ℕ) = true ∧ ((due 0).dev.ring (0 : ℕ)).prefetch = [] ∧ badArg.length = 64 ∧
     (due 0).dev.rings.length = 64 ∧
     parseReq 0 0 badArg = parseReq (0 : ℕ) (((due 0).dev.ring (0 : ℕ)).sqHead % (due 0).dev.sqSize (0 : ℕ)) badArg ∧
     (due 0).dev.canStart (parseReq 0 0 badArg) = true ∧ (due 0).dev.descFail (parseReq 0 0 badArg) badArg = none ∧
     cmdFaultAck.check (fetchD.launch (parseReq 0 0 badArg)) (parseReq 0 0 badArg) = some (3, 4)) := by
  refine ⟨?_, ?_, ?_, ?_, ?_⟩ <;> decide +kernel

def waitQ : Req := { rqD 0 1 0 128 with op := 0x0301, ring := 1, idx := 3 }
def waiting : State := st { dv .build with hif := { (dv .build).hif with waitData := [waitQ] } }
def poisoned : Env := { e0 with dataFail := some .poisoned }

/-- Commands and states that meet the hypotheses of `Obligations.DescriptorsStart` (Data), clause by
clause. -/
theorem wit_DescriptorsStart_Data :
    (Up waiting ∧ (List.find? (fun q => q.ring == (1 : ℕ) && q.idx == 3) waiting.dev.hif.waitData = some waitQ) ∧
     waitQ.dataLen ≠ 0 ∧ (eD (List.replicate 128 0)).dataFail = none) ∧
    (Up waiting ∧ (List.find? (fun q => q.ring == (1 : ℕ) && q.idx == 3) waiting.dev.hif.waitData = some waitQ) ∧
     waitQ.dataLen ≠ 0 ∧ poisoned.dataFail = some ReadFail.poisoned) := by
  refine ⟨?_, ?_⟩ <;> decide +kernel

def bufQ (len : Nat) : Req := { rqD 2 0 0 len with flags := 4 }
def strm : State := st ((dv .build).wr (HIF_RING_STREAM 2) 1)
def stopped : State := st ((dv .build).wr (HIF_BARRIER_STOP 0) 5)
def openB : List Byte := leBytes 2 0x0201 ++ List.replicate 62 0
def openWait : State := st ((dv .build).modRing 1 (fun r => { r with prefetch := [(0, openB)] }))

/-- Commands and states that meet the hypotheses of `Obligations.StreamsStopsAndInterrupts`, clause by
clause. -/
theorem wit_StreamsStopsAndInterrupts :
    (Up strm ∧ strm.dev.mayTake (asOp 0x0000 (bufQ 0x1000000)) = true ∧ strm.dev.ringType (bufQ 0x1000000).ring = 3 ∧
     bufferCheck (asOp 0x0000 (bufQ 0x1000000)) = none) ∧
    (Up strm ∧ strm.dev.mayTake (asOp 0x0000 (bufQ 0)) = true ∧ strm.dev.ringType (bufQ 0).ring = 3 ∧
     bufferCheck (asOp 0x0000 (bufQ 0)) = some (3, 4)) ∧
    (Awake (st ((buffered buf1).dev.wr (HIF_RING_STREAM 2) 0xFFFF0000)) ∧
     ((st ((buffered buf1).dev.wr (HIF_RING_STREAM 2) 0xFFFF0000)).dev.ring (2 : ℕ)).bufs = [buf1] ∧ buf1.recs ≠ 0 ∧
     (st ((buffered buf1).dev.wr (HIF_RING_STREAM 2) 0xFFFF0000)).dev.ringOn (2 : ℕ) = true ∧
     (st ((buffered buf1).dev.wr (HIF_RING_STREAM 2) 0xFFFF0000)).dev.fld (HIF_RING_STREAM (2 : ℕ)) 16 16 ≠ 0) ∧
    (Up stopped ∧ stopped.dev.barrierStop (2 : ℕ) = true ∧ (stopped.dev.ring (2 : ℕ)).prefetch = []) ∧
    (Up stopped ∧ stopped.dev.barrierStop (3 : ℕ) = false) ∧
    (Up openWait ∧ openWait.dev.lay.opened.length < 2 ∧ (openWait.dev.ring (1 : ℕ)).prefetch = [(0, openB)] ∧
     openWait.dev.canStart (parseReq (1 : ℕ) 0 openB) = true) ∧
    (Up (st (withLayers Mode.build [lay0 7, lay0 8])) ∧
     2 ≤ (st (withLayers Mode.build [lay0 7, lay0 8])).dev.lay.opened.length) := by
  refine ⟨?_, ?_, ?_, ?_, ?_, ?_, ?_⟩ <;> decide +kernel

def coal : State := st (((dv .build).wr (HIF_RING_OPT 0) 0x01000500).modRing 0 (fun r => { r with unsig := 3 }))
def coal1 : State := { coal with dev := { coal.dev with hif := { coal.dev.hif with msixMask := 0 } } }
def pend : State := st { dv .build with hif := { (dv .build).hif with msixPend := 0x24, msixMask := 0x34 } }
def linkOff : State := st { dv .build with hif := { (dv .build).hif with linkUp := false } }

/-- Commands and states that meet the hypotheses of `Obligations.StreamsStopsAndInterrupts` (Interrupts), clause by
clause. -/
theorem wit_StreamsStopsAndInterrupts_Interrupts :
    (Awake coal1 ∧ (coal1.dev.ring (0 : ℕ)).unsig ≠ 0 ∧ coal1.dev.fld (HIF_RING_OPT (0 : ℕ)) 24 8 ≠ 0 ∧
     coal1.dev.hif.msixMask.getLsbD (coal1.dev.fld (HIF_RING_OPT (0 : ℕ)) 8 8) = false ∧
     coal1.dev.rings.length = 64) ∧
    Up pend ∧
    Up (at_ Mode.build) ∧
    (Up (at_ Mode.build) ∧ (at_ Mode.build).dev.hif.linkUp = true) ∧
    (Up linkOff ∧ linkOff.dev.hif.linkUp = false) ∧
    (Up waiting ∧ (List.find? (fun q => q.ring == (1 : ℕ) && q.idx == 3) waiting.dev.hif.waitData = some waitQ)) ∧
    (Up (due 0) ∧ (due 0).dev.fetches (0 : ℕ) = true) ∧
    (Up onlyOne ∧ onlyOne.dev.bit HIF_DB_CTRL 31 = true ∧ (∃ n < 64, onlyOne.dev.ringOn n = true)) ∧
    (Up (loading 2) ∧ (loading 2).dev.mode.fwLoad = some 2) :=
  ⟨by decide +kernel, by decide +kernel, by decide +kernel, by decide +kernel, by decide +kernel, by decide +kernel,
   by decide +kernel, ⟨by decide +kernel, by decide +kernel, ⟨1, by decide, by decide +kernel⟩⟩, by decide +kernel⟩

def moving : State := st { dv .build with mode := { (dv .build).mode with changing := true, holdTrig := 3 } }
def running1 (m : Mode) : Dev := ((withLayers m []).wr (BE_MAP 0) 0x80000000).modEng 0 (fun e =>
  { e with runs := [{ (default : Run) with committed := true, started := true }] })
def ready1 : Dev := let d := calDev .standby; { d with bist := { d.bist with fuses := { Fuses.blank with manuf := true, deploy := true }, latched := { Fuses.blank with manuf := true, deploy := true } }, scn := { d.scn with ports := d.scn.ports.map (fun p => { p with state := 3 }) } }
def asleep1 : Dev :=
  { ready1 with scn := { ready1.scn with ports := modAt ready1.scn.ports 0 (fun p => { p with txSleep := true }) } }

/-- Commands and states that meet the hypotheses of `Obligations.ModeSetMoves`, clause by
clause. -/
theorem wit_ModeSetMoves :
    (Takes moving 0x0101 cmdModeSet (rq 0 1 0) ∧ Mode.standby ≠ Mode.safe ∧
     (moving.dev.transition = true ∨ moving.dev.mode.waiters ≠ [])) ∧
    (Takes (at_ Mode.configure) 0x0101 cmdModeSet (rq 0 0 0) ∧ Mode.configure ≠ Mode.safe ∧
     (at_ Mode.configure).dev.transition = false ∧ (at_ Mode.configure).dev.mode.waiters = [] ∧
     Mode.configure = (at_ Mode.configure).dev.mode.cur) ∧
    (Takes (at_ Mode.build) 0x0101 cmdModeSet (rq 0 6 0) ∧ Mode.service ≠ Mode.safe ∧
     (at_ Mode.build).dev.transition = false ∧ (at_ Mode.build).dev.mode.waiters = [] ∧
     Mode.service ≠ (at_ Mode.build).dev.mode.cur ∧ (at_ Mode.build).dev.mayGo Mode.service = false) ∧
    (Takes (at_ Mode.build) 0x0101 cmdModeSet (rq 0 1 0) ∧ Mode.standby ≠ Mode.safe ∧
     (at_ Mode.build).dev.transition = false ∧ (at_ Mode.build).dev.mode.waiters = [] ∧
     (at_ Mode.build).dev.mayGo Mode.standby = true ∧
     (Mode.standby = Mode.configure ∨ Mode.standby = Mode.service ∨ Mode.standby = Mode.standby ∧ ((at_ Mode.build).dev.mode.cur ≠ Mode.calibrate ∨ (at_ Mode.build).dev.allStopped = true))) ∧
    (Takes (at_ Mode.configure) 0x0101 cmdModeSet (rq 0 6 0) ∧ Mode.service ≠ Mode.safe ∧
     (at_ Mode.configure).dev.transition = false ∧ (at_ Mode.configure).dev.mode.waiters = [] ∧
     (at_ Mode.configure).dev.mayGo Mode.service = true ∧
     (Mode.service = Mode.configure ∨ Mode.service = Mode.service ∨ Mode.service = Mode.standby ∧ ((at_ Mode.configure).dev.mode.cur ≠ Mode.calibrate ∨ (at_ Mode.configure).dev.allStopped = true))) ∧
    (Takes (st (running1 Mode.calibrate)) 0x0101 cmdModeSet (rq 0 1 0) ∧ Mode.standby ≠ Mode.safe ∧
     (st (running1 Mode.calibrate)).dev.transition = false ∧ (st (running1 Mode.calibrate)).dev.mode.waiters = [] ∧
     (st (running1 Mode.calibrate)).dev.mayGo Mode.standby = true ∧
     (st (running1 Mode.calibrate)).dev.mode.cur = Mode.calibrate ∧
     (st (running1 Mode.calibrate)).dev.allStopped = false) ∧
    (Takes (st ready1) 0x0101 cmdModeSet (rq 0 2 0) ∧ Mode.calibrate ≠ Mode.safe ∧
     (st ready1).dev.transition = false ∧ (st ready1).dev.mode.waiters = [] ∧
     (st ready1).dev.mayGo Mode.calibrate = true ∧ (Mode.calibrate = Mode.calibrate ∨ Mode.calibrate = Mode.build) ∧
     (started (st ready1) 0x0101 (rq 0 2 0)).wakePorts.sleepers = []) ∧
    (Takes (st asleep1) 0x0101 cmdModeSet (rq 0 2 0) ∧ Mode.calibrate ≠ Mode.safe ∧
     (st asleep1).dev.transition = false ∧ (st asleep1).dev.mode.waiters = [] ∧
     (st asleep1).dev.mayGo Mode.calibrate = true ∧ (Mode.calibrate = Mode.calibrate ∨ Mode.calibrate = Mode.build) ∧
     (started (st asleep1) 0x0101 (rq 0 2 0)).wakePorts.sleepers ≠ []) ∧
    (Takes (at_ Mode.standby) 0x0101 cmdModeSet (rq 0 7 0) ∧ Mode.windDown ≠ Mode.safe ∧
     (at_ Mode.standby).dev.transition = false ∧ (at_ Mode.standby).dev.mode.waiters = [] ∧
     (at_ Mode.standby).dev.mayGo Mode.windDown = true) ∧
    (Takes (at_ Mode.build) 0x0101 cmdModeSet (rq 0 4 0) ∧ Mode.hold ≠ Mode.safe ∧
     (at_ Mode.build).dev.transition = false ∧ (at_ Mode.build).dev.mode.waiters = [] ∧
     (at_ Mode.build).dev.mayGo Mode.hold = true) ∧
    (Takes (at_ Mode.configure) 0x0101 cmdModeSet (rq 0 6 0) ∧ Mode.service ≠ Mode.safe ∧
     (at_ Mode.configure).dev.transition = false ∧ (at_ Mode.configure).dev.mode.waiters = [] ∧
     (at_ Mode.configure).dev.mayGo Mode.service = true ∧
     ((at_ Mode.configure).dev.mode.cur = Mode.configure ∧ Mode.service = Mode.service ∨ (at_ Mode.configure).dev.mode.cur = Mode.service ∧ Mode.service = Mode.configure ∨ (at_ Mode.configure).dev.mode.cur = Mode.standby ∧ Mode.service = Mode.service)) ∧
    (Takes (at_ Mode.service) 0x0101 cmdModeSet (rq 0 0 0) ∧ Mode.configure ≠ Mode.safe ∧
     (at_ Mode.service).dev.transition = false ∧ (at_ Mode.service).dev.mode.waiters = [] ∧
     (at_ Mode.service).dev.mayGo Mode.configure = true ∧
     ((at_ Mode.service).dev.mode.cur = Mode.configure ∧ Mode.configure = Mode.service ∨ (at_ Mode.service).dev.mode.cur = Mode.service ∧ Mode.configure = Mode.configure ∨ (at_ Mode.service).dev.mode.cur = Mode.standby ∧ Mode.configure = Mode.service)) ∧
    (Takes (at_ Mode.standby) 0x0101 cmdModeSet (rq 0 6 0) ∧ Mode.service ≠ Mode.safe ∧
     (at_ Mode.standby).dev.transition = false ∧ (at_ Mode.standby).dev.mode.waiters = [] ∧
     (at_ Mode.standby).dev.mayGo Mode.service = true ∧
     ((at_ Mode.standby).dev.mode.cur = Mode.configure ∧ Mode.service = Mode.service ∨ (at_ Mode.standby).dev.mode.cur = Mode.service ∧ Mode.service = Mode.configure ∨ (at_ Mode.standby).dev.mode.cur = Mode.standby ∧ Mode.service = Mode.service)) ∧
    (Takes (at_ Mode.safe) 0x0101 cmdModeSet (rq 0 5 0) ∧ (at_ Mode.safe).dev.mode.cur = Mode.safe) ∧
    (Takes (at_ Mode.build) 0x0101 cmdModeSet (rq 0 5 0) ∧ (at_ Mode.build).dev.mode.cur ≠ Mode.safe) := by
  refine ⟨?_, ?_, ?_, ?_, ?_, ?_, ?_, ?_, ?_, ?_, ?_, ?_, ?_, ?_, ?_⟩ <;> decide +kernel

def setW : Req := { rq 0 1 0 with op := 0x0101 }
def waiter : State := st { dv .build with mode := { (dv .build).mode with waiters := [setW] } }
def running2 : Dev := running1 .build
def movingR : State := st { running2 with mode := { running2.mode with changing := true, holdTrig := 3 } }
def leaving (d : Dev) : State := st { d with mode := { d.mode with changing := true, leaveReq := some setW } }
def waking : State := st
  { dv .build with scn := { (dv .build).scn with ports := modAt (dv .build).scn.ports 3 (fun p => { p with wakeTx := true, txSleep := true }) } }

/-- Commands and states that meet the hypotheses of `Obligations.TransitionsAndFences`, clause by
clause. -/
theorem wit_TransitionsAndFences :
    (Up waiter ∧ waiter.dev.mode.waiters = [setW] ∧ waiter.dev.transition = false) ∧
    (Up (at_ Mode.build) ∧ ((at_ Mode.build).dev.mode.waiters = [] ∨ (at_ Mode.build).dev.transition = true)) ∧
    (Awake moving ∧ moving.dev.holding = true ∧ moving.dev.exposing = true) ∧
    (Awake (at_ Mode.build) ∧ ((at_ Mode.build).dev.holding = false ∨ (at_ Mode.build).dev.exposing = false)) ∧
    (Awake moving ∧ moving.dev.mode.changing = true ∧ moving.dev.exposing = true ∧ moving.dev.mode.leaveReq = none ∧
     (moving.dev.applyHold.allStopped = true ∧ (moving.dev.mode.holdAtLayerEnd = true → moving.dev.applyHold.running = none))) ∧
    (Awake movingR ∧ movingR.dev.mode.changing = true ∧ movingR.dev.exposing = true ∧
     movingR.dev.mode.leaveReq = none ∧ movingR.dev.applyHold.allStopped = false) ∧
    (Awake (leaving (dv Mode.calibrate)) ∧ (leaving (dv Mode.calibrate)).dev.mode.leaveReq = some setW ∧
     (leaving (dv Mode.calibrate)).dev.applyHold.allStopped = true) ∧
    (Awake (leaving (running1 Mode.calibrate)) ∧ (leaving (running1 Mode.calibrate)).dev.mode.leaveReq = some setW ∧
     (leaving (running1 Mode.calibrate)).dev.applyHold.allStopped = false) ∧
    (Awake (at_ Mode.build) ∧ (at_ Mode.build).dev.mode.changing = false ∧
     (at_ Mode.build).dev.mode.leaveReq = none) ∧
    (Awake waking ∧ ((waking.dev.port (3 : ℕ)).wakeTx = true ∨ (waking.dev.port (3 : ℕ)).wakeRx = true) ∧
     waking.dev.scn.sleeps = [] ∧ waking.dev.mode.wakeReq = none ∧ waking.dev.scn.ports.length = 16) ∧
    (Awake waking ∧ ((waking.dev.port (3 : ℕ)).wakeTx = true ∨ (waking.dev.port (3 : ℕ)).wakeRx = true)) := by
  refine ⟨?_, ?_, ?_, ?_, ?_, ?_, ?_, ?_, ?_, ?_, ?_⟩ <;> decide +kernel

def fenced4 : State := st { dv .standby with flt := { (dv .standby).flt with fenced := [4, 20] } }

/-- Commands and states that meet the hypotheses of `Obligations.TransitionsAndFences` (FencesLift), clause by
clause. -/
theorem wit_TransitionsAndFences_FencesLift :
    (Takes fenced4 0x0B04 cmdFenceLift (rq 0 4 0) ∧ 4 = (rq 0 4 0).a0.get 0 5) ∧
    (Takes fenced4 0x0B04 cmdFenceLift (rq 0 20 0) ∧ 20 = (rq 0 20 0).a0.get 0 5) ∧
    (Up fenced4 ∧ fenced4.dev.mayTake (asOp 0x0B04 (rq 0 5 0)) = true ∧ fenced4.dev.ringType (rq 0 5 0).ring = 2 ∧
     cmdFenceLift.check (started fenced4 0x0B04 (rq 0 5 0)) (asOp 0x0B04 (rq 0 5 0)) = some (stLimit, 2820)) := by
  refine ⟨?_, ?_, ?_⟩ <;> decide +kernel

def open0 : State := st (withLayers .build [])
def openQ (n t fx : Word) : Req := { rq 1 n 2 with a2 := t, a3 := fx, a4 := 0, a5 := 60000 }

/-- Commands and states that meet the hypotheses of `Obligations.LayersOpenAndStart`, clause by
clause. -/
theorem wit_LayersOpenAndStart :
    (Takes open0 0x0201 cmdLayerOpen (openQ 9 5 0) ∧
     flowOf (signed 32 (BitVec.toNat (openQ 9 5 0).a3)) (signed 32 (BitVec.toNat (openQ 9 5 0).a4)) = some (0x40000000, 0) ∧
     open0.dev.numberBad ((openQ 9 5 0).a0.get 0 24) = false ∧
     (open0.dev.table (BitVec.toNat (openQ 9 5 0).a2)).isSome = true) ∧
    (Takes (st (withLayers Mode.build [lay0 9])) 0x0201 cmdLayerOpen (openQ 9 5 0) ∧
     (st (withLayers Mode.build [lay0 9])).dev.numberBad ((openQ 9 5 0).a0.get 0 24) = true) ∧
    (Takes open0 0x0201 cmdLayerOpen (openQ 9 5 77) ∧
     flowOf (signed 32 (BitVec.toNat (openQ 9 5 77).a3)) (signed 32 (BitVec.toNat (openQ 9 5 77).a4)) = none ∧
     open0.dev.numberBad ((openQ 9 5 77).a0.get 0 24) = false) ∧
    (Takes open0 0x0201 cmdLayerOpen (openQ 9 6 0) ∧
     (flowOf (signed 32 (BitVec.toNat (openQ 9 6 0).a3)) (signed 32 (BitVec.toNat (openQ 9 6 0).a4))).isSome = true ∧
     open0.dev.numberBad ((openQ 9 6 0).a0.get 0 24) = false ∧
     open0.dev.table (BitVec.toNat (openQ 9 6 0).a2) = none) ∧
    ((st (withLayers Mode.build [lay0 7, lay0 8])).dev.ringType (openQ 9 6 0).ring = 1 ∧
     2 ≤ (st (withLayers Mode.build [lay0 7, lay0 8])).dev.lay.opened.length) := by
  refine ⟨?_, ?_, ?_, ?_, ?_⟩ <;> decide +kernel

def lay1 : Layer := { lay0 9 with startReq := some (rq 1 9 0), startTick := some 50 }
def lay2 : Layer := { lay1 with startTick := none, recoatWait := true }

/-- Commands and states that meet the hypotheses of `Obligations.LayersOpenAndStart` (LayersStart), clause by
clause. -/
theorem wit_LayersOpenAndStart_LayersStart :
    Takes (st (withLayers Mode.build [lay0 9])) 0x0202 cmdLayerStart (rq 1 9 1) ∧
    ((st (withLayers Mode.hold [lay0 9])).dev.mode.cur ≠ Mode.build ∧
     (st (withLayers Mode.hold [lay0 9])).dev.ringType (rq 1 9 1).ring = 1) ∧
    (Awake (st (withLayers Mode.build [lay1])) ∧ (st (withLayers Mode.build [lay1])).dev.mode.cur = Mode.build ∧
     (st (withLayers Mode.build [lay1])).dev.holding = false ∧
     (st (withLayers Mode.build [lay1])).dev.starting = some lay1 ∧ lay1.startTick = some 50) ∧
    (Awake (st (withLayers Mode.hold [lay1])) ∧ (st (withLayers Mode.hold [lay1])).dev.mode.cur ≠ Mode.build) ∧
    (Awake (st (withLayers Mode.build [lay2])) ∧ (st (withLayers Mode.build [lay2])).dev.mode.cur = Mode.build ∧
     (st (withLayers Mode.build [lay2])).dev.starting = some lay2 ∧ lay2.startTick = none ∧
     lay2.startReq = some (rq 1 9 0) ∧
     ((st (withLayers Mode.build [lay2])).dev.recoatOk lay2 && (st (withLayers Mode.build [lay2])).dev.thresholdOk lay2) = false) ∧
    (Awake (st (withLayers Mode.build [])) ∧ (st (withLayers Mode.build [])).dev.starting = none) := by
  refine ⟨?_, ?_, ?_, ?_, ?_, ?_⟩ <;> decide +kernel

def barge1 (k : Nat) : Barge := ⟨rqD 1 0 0 96, k, 96, [⟨⟨0, 0, 100, 100, 1, 0, 0, 1, 0, 4, 0, 600⟩, false, [⟨0, some
  0, false, 0, 0, 9, false⟩]⟩], [], true, some 0, none⟩
def layDone (n : Nat) : Layer := { lay1 with started := true, barges := (List.range n).map barge1 }

/-- Commands and states that meet the hypotheses of `Obligations.LayersClose`, clause by
clause. -/
theorem wit_LayersClose :
    (layDone 2).startReq = some (rq 1 9 0) ∧
    (Awake (st (withLayers Mode.build [layDone 2])) ∧
     (st (withLayers Mode.build [layDone 2])).dev.doneLayer = some (layDone 2)) ∧
    (Awake (st (withLayers Mode.build [layDone 1])) ∧ (st (withLayers Mode.build [layDone 1])).dev.doneLayer = none) ∧
    (Awake (st (withLayers Mode.build [layDone 1])) ∧
     (st (withLayers Mode.build [layDone 1])).dev.shortLayer = some (layDone 1)) ∧
    (Awake (st (withLayers Mode.build [layDone 2])) ∧
     (st (withLayers Mode.build [layDone 2])).dev.shortLayer = none) ∧
    (Takes (st (withLayers Mode.build [lay0 9])) 0x0203 cmdLayerDiscard (rq 1 9 0) ∧
     (st (withLayers Mode.build [lay0 9])).dev.layer? (BitVec.toNat (rq 1 9 0).a0) = some (lay0 9) ∧
     (lay0 9).startReq = none) ∧
    (Takes (st (withLayers Mode.build [lay1])) 0x0203 cmdLayerDiscard (rq 1 9 0) ∧
     (st (withLayers Mode.build [lay1])).dev.layer? (BitVec.toNat (rq 1 9 0).a0) = some lay1 ∧
     lay1.startReq.isSome = true) ∧
    (Takes (st (withLayers Mode.build [])) 0x0203 cmdLayerDiscard (rq 1 9 0) ∧
     (st (withLayers Mode.build [])).dev.layer? (BitVec.toNat (rq 1 9 0).a0) = none) ∧
    (Takes (st (withLayers Mode.build [layDone 1])) 0x0280 cmdLayerQuery (rq 1 9 0) ∧
     (st (withLayers Mode.build [layDone 1])).dev.layer? (BitVec.toNat (rq 1 9 0).a0) = some (layDone 1)) ∧
    (Takes (st (withLayers Mode.build [lay0 9])) 0x0280 cmdLayerQuery (rq 1 9 0) ∧
     (st (withLayers Mode.build [lay0 9])).dev.layer? (BitVec.toNat (rq 1 9 0).a0) = some (lay0 9)) ∧
    (Takes (st (withLayers Mode.build [])) 0x0280 cmdLayerQuery (rq 1 9 0) ∧
     (st (withLayers Mode.build [])).dev.layer? (BitVec.toNat (rq 1 9 0).a0) = none) := by
  refine ⟨?_, ?_, ?_, ?_, ?_, ?_, ?_, ?_, ?_, ?_, ?_⟩ <;> decide +kernel

def vecs (elig : Nat) : List Byte := recBytes 1000 1000 1 0 0 0 ++ recBytes 5000 1000 2 4 600 elig
def goodBarge : List Byte := bargeBytes 9 3 5 (recBytes 1000 1000 1 0 0 0)
def badBarge : List Byte := bargeBytes 9 3 5 (vecs 0)
def opened9 : State := st (withLayers .build [lay0 9])
def rsG : List Rec := [⟨1000, 1000, 1000, 1000, 1, 0, 0, 0, 0, 0, 0, 0⟩]
def rs1 : List Rec := [⟨1000, 1000, 1000, 1000, 1, 0, 0, 1, 0, 0, 0, 0⟩, ⟨1000, 1000, 5000, 1000, 2, 0, 0, 1, 0, 4, 0,
  600⟩]
def fullBasin : State := st ((withLayers .build [lay0 9]).wr DRAM_BASIN_SIZE 0)

/-- Commands and states that meet the hypotheses of `Obligations.BargesAreAcceptedWhole`, clause by
clause. -/
theorem wit_BargesAreAcceptedWhole :
    (TakesData opened9 0x0301 cmdBarge (rqD 1 0 0 96) (eD goodBarge) ∧
     opened9.dev.basinRoom (rqD 1 0 0 96).dataLen = true ∧
     opened9.dev.bargeCheck (dataOf (rqD 1 0 0 96) (eD goodBarge)) false = Except.ok rsG) ∧
    (TakesData opened9 0x0301 cmdBarge (rqD 1 0 0 128) (eD badBarge) ∧
     opened9.dev.basinRoom (rqD 1 0 0 128).dataLen = true ∧
     opened9.dev.bargeCheck (dataOf (rqD 1 0 0 128) (eD badBarge)) false = Except.error (3, 775, 1)) ∧
    (TakesData fullBasin 0x0301 cmdBarge (rqD 1 0 0 96) (eD goodBarge) ∧
     fullBasin.dev.basinRoom (rqD 1 0 0 96).dataLen = false) ∧
    (withLayers Mode.build [lay0 9]).bargeCheck goodBarge false = Except.ok rsG := by
  refine ⟨?_, ?_, ?_, ?_⟩ <;> decide +kernel

def basinQ : State := st
  { withLayers .build [lay0 9] with lay := { (withLayers .build [lay0 9]).lay with basinWait := [{ rqD 1 0 0 96 with idx := 6 }] } }
def argBargesAndTablesA := { rqD 1 0 0 96 with idx := 6 }
def basinQ2 : State := st (basinQ.dev.wr DRAM_BASIN_SIZE 0)
def argBargesAndTablesB := { rqD 1 0 0 96 with idx := 6 }
def fresh : Barge := { barge1 3 with dispatched := false, done := none, recs := rs1.map (fun x => newRec x 0) }
def layB : Layer := { lay0 9 with barges := [barge1 2, fresh] }
def unit1 : WUnit := mkUnit 9 3 0 0 rs1 [1]
def map0 : Dev := withLayers .build [lay0 9]

/-- Commands and states that meet the hypotheses of `Obligations.BargesAndTables`, clause by
clause. -/
theorem wit_BargesAndTables :
    (Up basinQ ∧ (eD goodBarge).dataFail = none ∧
     (List.find? (fun q => q.ring == (1 : ℕ) && q.idx == 6) basinQ.dev.lay.basinWait = some argBargesAndTablesA) ∧
     basinQ.dev.basinRoom argBargesAndTablesA.dataLen = true) ∧
    (Up basinQ2 ∧ (eD goodBarge).dataFail = none ∧
     (List.find? (fun q => q.ring == (1 : ℕ) && q.idx == 6) basinQ2.dev.lay.basinWait = some argBargesAndTablesB) ∧
     basinQ2.dev.basinRoom argBargesAndTablesB.dataLen = false) ∧
    (Awake (st (withLayers Mode.build [layB])) ∧ (st (withLayers Mode.build [layB])).dev.keeperOn = true ∧
     (List.find? (fun l => l.barges.any fun b => !b.dispatched) (st (withLayers Mode.build [layB])).dev.lay.opened = some layB) ∧
     (List.findIdx? (fun b => !b.dispatched) layB.barges = some 1) ∧ layB.barges[1]? = some fresh) ∧
    (bitList 16 (unit1.recs.headD Inhabited.default).elig = [0] ∧ map0.beamLive 0 = true ∧ map0.engineOf 0 = some 0) ∧
    (Awake (st (withLayers Mode.build [])) ∧
     ((∀ l ∈ (st (withLayers Mode.build [])).dev.lay.opened, (l.barges.all fun b => b.dispatched) = true) ∨ (st (withLayers Mode.build [])).dev.keeperOn = false)) ∧
    (Awake (st (withLayers Mode.safe [layB])) ∧
     ((∀ l ∈ (st (withLayers Mode.safe [layB])).dev.lay.opened, (l.barges.all fun b => b.dispatched) = true) ∨ (st (withLayers Mode.safe [layB])).dev.keeperOn = false)) ∧
    (Awake (st (withLayers Mode.build [])) ∧ (st (withLayers Mode.build [])).dev.keeper.locks.length = 64) := by
  refine ⟨?_, ?_, ?_, ?_, ?_, ?_, ?_⟩ <;> decide +kernel

def slotsFull : State := st
  { withLayers .build [] with lay := { (withLayers .build []).lay with slots := [some (tab 1), some (tab 2), some (tab 3), some (tab 4)] } }

/-- Commands and states that meet the hypotheses of `Obligations.BargesAndTables` (ParameterTables), clause by
clause. -/
theorem wit_BargesAndTables_ParameterTables :
    (TakesData opened9 0x0401 cmdPtabLoad (rqD 0 0 0 192) (eD (tabBytes 5)) ∧
     parseTable (dataOf (rqD 0 0 0 192) (eD (tabBytes 5))) = Except.ok { id := 5, sets := [setBytes], digest := sha384 (tabBytes 5) : Table } ∧
     opened9.dev.tableUsed { id := 5, sets := [setBytes], digest := sha384 (tabBytes 5) : Table }.id = true) ∧
    (TakesData opened9 0x0401 cmdPtabLoad (rqD 0 0 0 192) (eD (tabBytes 6)) ∧
     parseTable (dataOf (rqD 0 0 0 192) (eD (tabBytes 6))) = Except.ok { id := 6, sets := [setBytes], digest := sha384 (tabBytes 6) : Table } ∧
     opened9.dev.tableUsed { id := 6, sets := [setBytes], digest := sha384 (tabBytes 6) : Table }.id = false ∧
     (opened9.dev.slotOf { id := 6, sets := [setBytes], digest := sha384 (tabBytes 6) : Table }.id = some 1 ∨ opened9.dev.slotOf { id := 6, sets := [setBytes], digest := sha384 (tabBytes 6) : Table }.id = none ∧ List.findIdx? (fun x => x.isNone) opened9.dev.lay.slots = some 1)) ∧
    (TakesData open0 0x0401 cmdPtabLoad (rqD 0 0 0 192) (eD (tabBytes 5)) ∧
     parseTable (dataOf (rqD 0 0 0 192) (eD (tabBytes 5))) = Except.ok { id := 5, sets := [setBytes], digest := sha384 (tabBytes 5) : Table } ∧
     open0.dev.tableUsed { id := 5, sets := [setBytes], digest := sha384 (tabBytes 5) : Table }.id = false ∧
     (open0.dev.slotOf { id := 5, sets := [setBytes], digest := sha384 (tabBytes 5) : Table }.id = some 0 ∨ open0.dev.slotOf { id := 5, sets := [setBytes], digest := sha384 (tabBytes 5) : Table }.id = none ∧ List.findIdx? (fun x => x.isNone) open0.dev.lay.slots = some 0)) ∧
    (TakesData slotsFull 0x0401 cmdPtabLoad (rqD 0 0 0 192) (eD (tabBytes 6)) ∧
     parseTable (dataOf (rqD 0 0 0 192) (eD (tabBytes 6))) = Except.ok { id := 6, sets := [setBytes], digest := sha384 (tabBytes 6) : Table } ∧
     slotsFull.dev.tableUsed { id := 6, sets := [setBytes], digest := sha384 (tabBytes 6) : Table }.id = false ∧
     slotsFull.dev.slotOf { id := 6, sets := [setBytes], digest := sha384 (tabBytes 6) : Table }.id = none ∧
     (List.findIdx? (fun x => x.isNone) slotsFull.dev.lay.slots = none)) ∧
    (TakesData opened9 0x0401 cmdPtabLoad (rqD 0 0 0 192) (eD (List.replicate 192 1)) ∧
     parseTable (dataOf (rqD 0 0 0 192) (eD (List.replicate 192 1))) = Except.error (7, 1031, 0, 0)) ∧
    Takes open0 0x0402 cmdPtabDrop (rq 0 5 0) ∧
    Takes open0 0x0480 cmdPtabQuery (rq 0 0 0) := by
  refine ⟨?_, ?_, ?_, ?_, ?_, ?_, ?_⟩ <;> decide +kernel

def counted : State := st (((((((dv .build).wr (BE_CNT 17 0) 7).wr (BE_CNT 17 1) 8).wr (BE_MP_CNT 2 3) 5).wr (LK_CNT
  4) 3).wr (LDG_CNT 2) 9).wr DRAM_CE_CNT 4)
def small17 : State := st (on3 (devOf .pq8 .build))
def countedP : State := st ((((((dv .build).wr (SCN_PORT_CNT 15 2) 7).wr (LAS_CNT 3 1) 8).wr (VIS_PORT_DISC_CNT 19)
  5).wr (BYF_PORT_CRC_CNT 1) 3).wr (TIME_TCAP_DROP_CNT 7) 9)
def scnCounters (b : Nat) : List Nat := [SCN_PORT_CNT b 0, SCN_PORT_CNT b 1, SCN_PORT_CNT b 2]
def lasCounters (b : Nat) : List Nat := [LAS_CNT b 0, LAS_CNT b 1]
def visCounters (p : Nat) : List Nat := [VIS_PORT_CNT p 0, VIS_PORT_CNT p 1, VIS_PORT_CNT p 2, VIS_PORT_DISC_CNT p]
def byfCounters (p : Nat) : List Nat := [BYF_PORT_RETRY_CNT p, BYF_PORT_CRC_CNT p, BYF_PORT_RETRAIN_CNT p]
def timeCounters (i : Nat) : List Nat := if i < 8 then [TIME_TOUT_SKIP_CNT i] else [TIME_TCAP_DROP_CNT (i - 8)]

/-- Commands and states that meet the hypotheses of `Obligations.CountersClear`, clause by
clause. -/
theorem wit_CountersClear :
    (Up counted ∧
     ((∃ n : Fin 18, counted.dev.engBlock (↑n : ℕ) = true ∧ Instr.benCntClr 17 0xFFFFFFFD = Instr.benCntClr n 0xFFFFFFFD ∧ [BE_CNT 17 0, BE_CNT 17 1, BE_CNT 17 2] = [BE_CNT (↑n : ℕ) 0, BE_CNT (↑n : ℕ) 1, BE_CNT (↑n : ℕ) 2]) ∨ (∃ n : Fin 18, counted.dev.engBlock (↑n : ℕ) = true ∧ Instr.benCntClr 17 0xFFFFFFFD = Instr.mpCntClr n 0xFFFFFFFD ∧ [BE_CNT 17 0, BE_CNT 17 1, BE_CNT 17 2] = [BE_MP_CNT (↑n : ℕ) 0, BE_MP_CNT (↑n : ℕ) 1, BE_MP_CNT (↑n : ℕ) 2, BE_MP_CNT (↑n : ℕ) 3]) ∨ Instr.benCntClr 17 0xFFFFFFFD = Instr.lkCntClr 0xFFFFFFFD ∧ [BE_CNT 17 0, BE_CNT 17 1, BE_CNT 17 2] = [LK_CNT 0, LK_CNT 1, LK_CNT 2, LK_CNT 3, LK_CNT 4] ∨ Instr.benCntClr 17 0xFFFFFFFD = Instr.ldgCntClr 0xFFFFFFFD ∧ [BE_CNT 17 0, BE_CNT 17 1, BE_CNT 17 2] = [LDG_CNT 0, LDG_CNT 1, LDG_CNT 2, LDG_CNT 3] ∨ Instr.benCntClr 17 0xFFFFFFFD = Instr.dramCntClr 0xFFFFFFFD ∧ [BE_CNT 17 0, BE_CNT 17 1, BE_CNT 17 2] = [DRAM_CE_CNT, DRAM_UE_CNT])) ∧
    (Up counted ∧
     ((∃ n : Fin 18, counted.dev.engBlock (↑n : ℕ) = true ∧ Instr.mpCntClr 2 8 = Instr.benCntClr n 8 ∧ [BE_MP_CNT 2 0, BE_MP_CNT 2 1, BE_MP_CNT 2 2, BE_MP_CNT 2 3] = [BE_CNT (↑n : ℕ) 0, BE_CNT (↑n : ℕ) 1, BE_CNT (↑n : ℕ) 2]) ∨ (∃ n : Fin 18, counted.dev.engBlock (↑n : ℕ) = true ∧ Instr.mpCntClr 2 8 = Instr.mpCntClr n 8 ∧ [BE_MP_CNT 2 0, BE_MP_CNT 2 1, BE_MP_CNT 2 2, BE_MP_CNT 2 3] = [BE_MP_CNT (↑n : ℕ) 0, BE_MP_CNT (↑n : ℕ) 1, BE_MP_CNT (↑n : ℕ) 2, BE_MP_CNT (↑n : ℕ) 3]) ∨ Instr.mpCntClr 2 8 = Instr.lkCntClr 8 ∧ [BE_MP_CNT 2 0, BE_MP_CNT 2 1, BE_MP_CNT 2 2, BE_MP_CNT 2 3] = [LK_CNT 0, LK_CNT 1, LK_CNT 2, LK_CNT 3, LK_CNT 4] ∨ Instr.mpCntClr 2 8 = Instr.ldgCntClr 8 ∧ [BE_MP_CNT 2 0, BE_MP_CNT 2 1, BE_MP_CNT 2 2, BE_MP_CNT 2 3] = [LDG_CNT 0, LDG_CNT 1, LDG_CNT 2, LDG_CNT 3] ∨ Instr.mpCntClr 2 8 = Instr.dramCntClr 8 ∧ [BE_MP_CNT 2 0, BE_MP_CNT 2 1, BE_MP_CNT 2 2, BE_MP_CNT 2 3] = [DRAM_CE_CNT, DRAM_UE_CNT])) ∧
    (Up counted ∧
     ((∃ n : Fin 18, counted.dev.engBlock (↑n : ℕ) = true ∧ Instr.lkCntClr 16 = Instr.benCntClr n 16 ∧ [LK_CNT 0, LK_CNT 1, LK_CNT 2, LK_CNT 3, LK_CNT 4] = [BE_CNT (↑n : ℕ) 0, BE_CNT (↑n : ℕ) 1, BE_CNT (↑n : ℕ) 2]) ∨ (∃ n : Fin 18, counted.dev.engBlock (↑n : ℕ) = true ∧ Instr.lkCntClr 16 = Instr.mpCntClr n 16 ∧ [LK_CNT 0, LK_CNT 1, LK_CNT 2, LK_CNT 3, LK_CNT 4] = [BE_MP_CNT (↑n : ℕ) 0, BE_MP_CNT (↑n : ℕ) 1, BE_MP_CNT (↑n : ℕ) 2, BE_MP_CNT (↑n : ℕ) 3]) ∨ Instr.lkCntClr 16 = Instr.lkCntClr 16 ∧ [LK_CNT 0, LK_CNT 1, LK_CNT 2, LK_CNT 3, LK_CNT 4] = [LK_CNT 0, LK_CNT 1, LK_CNT 2, LK_CNT 3, LK_CNT 4] ∨ Instr.lkCntClr 16 = Instr.ldgCntClr 16 ∧ [LK_CNT 0, LK_CNT 1, LK_CNT 2, LK_CNT 3, LK_CNT 4] = [LDG_CNT 0, LDG_CNT 1, LDG_CNT 2, LDG_CNT 3] ∨ Instr.lkCntClr 16 = Instr.dramCntClr 16 ∧ [LK_CNT 0, LK_CNT 1, LK_CNT 2, LK_CNT 3, LK_CNT 4] = [DRAM_CE_CNT, DRAM_UE_CNT])) ∧
    (Up counted ∧
     ((∃ n : Fin 18, counted.dev.engBlock (↑n : ℕ) = true ∧ Instr.ldgCntClr 4 = Instr.benCntClr n 4 ∧ [LDG_CNT 0, LDG_CNT 1, LDG_CNT 2, LDG_CNT 3] = [BE_CNT (↑n : ℕ) 0, BE_CNT (↑n : ℕ) 1, BE_CNT (↑n : ℕ) 2]) ∨ (∃ n : Fin 18, counted.dev.engBlock (↑n : ℕ) = true ∧ Instr.ldgCntClr 4 = Instr.mpCntClr n 4 ∧ [LDG_CNT 0, LDG_CNT 1, LDG_CNT 2, LDG_CNT 3] = [BE_MP_CNT (↑n : ℕ) 0, BE_MP_CNT (↑n : ℕ) 1, BE_MP_CNT (↑n : ℕ) 2, BE_MP_CNT (↑n : ℕ) 3]) ∨ Instr.ldgCntClr 4 = Instr.lkCntClr 4 ∧ [LDG_CNT 0, LDG_CNT 1, LDG_CNT 2, LDG_CNT 3] = [LK_CNT 0, LK_CNT 1, LK_CNT 2, LK_CNT 3, LK_CNT 4] ∨ Instr.ldgCntClr 4 = Instr.ldgCntClr 4 ∧ [LDG_CNT 0, LDG_CNT 1, LDG_CNT 2, LDG_CNT 3] = [LDG_CNT 0, LDG_CNT 1, LDG_CNT 2, LDG_CNT 3] ∨ Instr.ldgCntClr 4 = Instr.dramCntClr 4 ∧ [LDG_CNT 0, LDG_CNT 1, LDG_CNT 2, LDG_CNT 3] = [DRAM_CE_CNT, DRAM_UE_CNT])) ∧
    (Up counted ∧
     ((∃ n : Fin 18, counted.dev.engBlock (↑n : ℕ) = true ∧ Instr.dramCntClr 1 = Instr.benCntClr n 1 ∧ [DRAM_CE_CNT, DRAM_UE_CNT] = [BE_CNT (↑n : ℕ) 0, BE_CNT (↑n : ℕ) 1, BE_CNT (↑n : ℕ) 2]) ∨ (∃ n : Fin 18, counted.dev.engBlock (↑n : ℕ) = true ∧ Instr.dramCntClr 1 = Instr.mpCntClr n 1 ∧ [DRAM_CE_CNT, DRAM_UE_CNT] = [BE_MP_CNT (↑n : ℕ) 0, BE_MP_CNT (↑n : ℕ) 1, BE_MP_CNT (↑n : ℕ) 2, BE_MP_CNT (↑n : ℕ) 3]) ∨ Instr.dramCntClr 1 = Instr.lkCntClr 1 ∧ [DRAM_CE_CNT, DRAM_UE_CNT] = [LK_CNT 0, LK_CNT 1, LK_CNT 2, LK_CNT 3, LK_CNT 4] ∨ Instr.dramCntClr 1 = Instr.ldgCntClr 1 ∧ [DRAM_CE_CNT, DRAM_UE_CNT] = [LDG_CNT 0, LDG_CNT 1, LDG_CNT 2, LDG_CNT 3] ∨ Instr.dramCntClr 1 = Instr.dramCntClr 1 ∧ [DRAM_CE_CNT, DRAM_UE_CNT] = [DRAM_CE_CNT, DRAM_UE_CNT])) ∧
    small17.dev.engBlock (17 : ℕ) = false ∧
    (Up countedP ∧
     ((Instr.scnCntClr 32768 = Instr.scnCntClr 32768 ∧ nBeams countedP.dev.variant = nBeams countedP.dev.variant ∧ scnCounters = fun b => [SCN_PORT_CNT b 0, SCN_PORT_CNT b 1, SCN_PORT_CNT b 2]) ∨ (Instr.scnCntClr 32768 = Instr.lasCntClr 32768 ∧ nBeams countedP.dev.variant = nBeams countedP.dev.variant ∧ scnCounters = fun b => [LAS_CNT b 0, LAS_CNT b 1]) ∨ (Instr.scnCntClr 32768 = Instr.visCntClr 32768 ∧ nBeams countedP.dev.variant = 20 ∧ scnCounters = fun p => [VIS_PORT_CNT p 0, VIS_PORT_CNT p 1, VIS_PORT_CNT p 2, VIS_PORT_DISC_CNT p]) ∨ (Instr.scnCntClr 32768 = Instr.byfCntClr 32768 ∧ nBeams countedP.dev.variant = nByoft countedP.dev.variant ∧ scnCounters = fun p => [BYF_PORT_RETRY_CNT p, BYF_PORT_CRC_CNT p, BYF_PORT_RETRAIN_CNT p]) ∨ Instr.scnCntClr 32768 = Instr.timeCntClr 32768 ∧ nBeams countedP.dev.variant = 16 ∧ scnCounters = fun i => if i < 8 then [TIME_TOUT_SKIP_CNT i] else [TIME_TCAP_DROP_CNT (i - 8)])) ∧
    (Up countedP ∧
     ((Instr.lasCntClr 8 = Instr.scnCntClr 8 ∧ nBeams countedP.dev.variant = nBeams countedP.dev.variant ∧ lasCounters = fun b => [SCN_PORT_CNT b 0, SCN_PORT_CNT b 1, SCN_PORT_CNT b 2]) ∨ (Instr.lasCntClr 8 = Instr.lasCntClr 8 ∧ nBeams countedP.dev.variant = nBeams countedP.dev.variant ∧ lasCounters = fun b => [LAS_CNT b 0, LAS_CNT b 1]) ∨ (Instr.lasCntClr 8 = Instr.visCntClr 8 ∧ nBeams countedP.dev.variant = 20 ∧ lasCounters = fun p => [VIS_PORT_CNT p 0, VIS_PORT_CNT p 1, VIS_PORT_CNT p 2, VIS_PORT_DISC_CNT p]) ∨ (Instr.lasCntClr 8 = Instr.byfCntClr 8 ∧ nBeams countedP.dev.variant = nByoft countedP.dev.variant ∧ lasCounters = fun p => [BYF_PORT_RETRY_CNT p, BYF_PORT_CRC_CNT p, BYF_PORT_RETRAIN_CNT p]) ∨ Instr.lasCntClr 8 = Instr.timeCntClr 8 ∧ nBeams countedP.dev.variant = 16 ∧ lasCounters = fun i => if i < 8 then [TIME_TOUT_SKIP_CNT i] else [TIME_TCAP_DROP_CNT (i - 8)])) ∧
    (Up countedP ∧
     ((Instr.visCntClr 0x80000 = Instr.scnCntClr 0x80000 ∧ 20 = nBeams countedP.dev.variant ∧ visCounters = fun b => [SCN_PORT_CNT b 0, SCN_PORT_CNT b 1, SCN_PORT_CNT b 2]) ∨ (Instr.visCntClr 0x80000 = Instr.lasCntClr 0x80000 ∧ 20 = nBeams countedP.dev.variant ∧ visCounters = fun b => [LAS_CNT b 0, LAS_CNT b 1]) ∨ (Instr.visCntClr 0x80000 = Instr.visCntClr 0x80000 ∧ 20 = 20 ∧ visCounters = fun p => [VIS_PORT_CNT p 0, VIS_PORT_CNT p 1, VIS_PORT_CNT p 2, VIS_PORT_DISC_CNT p]) ∨ (Instr.visCntClr 0x80000 = Instr.byfCntClr 0x80000 ∧ 20 = nByoft countedP.dev.variant ∧ visCounters = fun p => [BYF_PORT_RETRY_CNT p, BYF_PORT_CRC_CNT p, BYF_PORT_RETRAIN_CNT p]) ∨ Instr.visCntClr 0x80000 = Instr.timeCntClr 0x80000 ∧ 20 = 16 ∧ visCounters = fun i => if i < 8 then [TIME_TOUT_SKIP_CNT i] else [TIME_TCAP_DROP_CNT (i - 8)])) ∧
    (Up countedP ∧
     ((Instr.byfCntClr 2 = Instr.scnCntClr 2 ∧ nByoft countedP.dev.variant = nBeams countedP.dev.variant ∧ byfCounters = fun b => [SCN_PORT_CNT b 0, SCN_PORT_CNT b 1, SCN_PORT_CNT b 2]) ∨ (Instr.byfCntClr 2 = Instr.lasCntClr 2 ∧ nByoft countedP.dev.variant = nBeams countedP.dev.variant ∧ byfCounters = fun b => [LAS_CNT b 0, LAS_CNT b 1]) ∨ (Instr.byfCntClr 2 = Instr.visCntClr 2 ∧ nByoft countedP.dev.variant = 20 ∧ byfCounters = fun p => [VIS_PORT_CNT p 0, VIS_PORT_CNT p 1, VIS_PORT_CNT p 2, VIS_PORT_DISC_CNT p]) ∨ (Instr.byfCntClr 2 = Instr.byfCntClr 2 ∧ nByoft countedP.dev.variant = nByoft countedP.dev.variant ∧ byfCounters = fun p => [BYF_PORT_RETRY_CNT p, BYF_PORT_CRC_CNT p, BYF_PORT_RETRAIN_CNT p]) ∨ Instr.byfCntClr 2 = Instr.timeCntClr 2 ∧ nByoft countedP.dev.variant = 16 ∧ byfCounters = fun i => if i < 8 then [TIME_TOUT_SKIP_CNT i] else [TIME_TCAP_DROP_CNT (i - 8)])) ∧
    (Up countedP ∧
     ((Instr.timeCntClr 32768 = Instr.scnCntClr 32768 ∧ 16 = nBeams countedP.dev.variant ∧ timeCounters = fun b => [SCN_PORT_CNT b 0, SCN_PORT_CNT b 1, SCN_PORT_CNT b 2]) ∨ (Instr.timeCntClr 32768 = Instr.lasCntClr 32768 ∧ 16 = nBeams countedP.dev.variant ∧ timeCounters = fun b => [LAS_CNT b 0, LAS_CNT b 1]) ∨ (Instr.timeCntClr 32768 = Instr.visCntClr 32768 ∧ 16 = 20 ∧ timeCounters = fun p => [VIS_PORT_CNT p 0, VIS_PORT_CNT p 1, VIS_PORT_CNT p 2, VIS_PORT_DISC_CNT p]) ∨ (Instr.timeCntClr 32768 = Instr.byfCntClr 32768 ∧ 16 = nByoft countedP.dev.variant ∧ timeCounters = fun p => [BYF_PORT_RETRY_CNT p, BYF_PORT_CRC_CNT p, BYF_PORT_RETRAIN_CNT p]) ∨ Instr.timeCntClr 32768 = Instr.timeCntClr 32768 ∧ 16 = 16 ∧ timeCounters = fun i => if i < 8 then [TIME_TOUT_SKIP_CNT i] else [TIME_TCAP_DROP_CNT (i - 8)])) :=
  ⟨⟨by decide +kernel, (Or.inl ⟨17, by decide +kernel, rfl, rfl⟩)⟩,
   ⟨by decide +kernel, (Or.inr (Or.inl ⟨2, by decide +kernel, rfl, rfl⟩))⟩,
   ⟨by decide +kernel, (Or.inr (Or.inr (Or.inl ⟨rfl, rfl⟩)))⟩,
   ⟨by decide +kernel, (Or.inr (Or.inr (Or.inr (Or.inl ⟨rfl, rfl⟩))))⟩,
   ⟨by decide +kernel, (Or.inr (Or.inr (Or.inr (Or.inr ⟨rfl, rfl⟩))))⟩, by decide +kernel,
   ⟨by decide +kernel, (Or.inl ⟨rfl, rfl, rfl⟩)⟩, ⟨by decide +kernel, (Or.inr (Or.inl ⟨rfl, rfl, rfl⟩))⟩,
   ⟨by decide +kernel, (Or.inr (Or.inr (Or.inl ⟨rfl, rfl, rfl⟩)))⟩,
   ⟨by decide +kernel, (Or.inr (Or.inr (Or.inr (Or.inl ⟨rfl, rfl, rfl⟩))))⟩,
   ⟨by decide +kernel, (Or.inr (Or.inr (Or.inr (Or.inr ⟨rfl, rfl, rfl⟩))))⟩⟩

def fenced3 : State := st { dv .configure with flt := { (dv .configure).flt with fenced := [3] } }

/-- Commands and states that meet the hypotheses of `Obligations.RampTablesAreCommon`, clause by
clause. -/
theorem wit_RampTablesAreCommon :
    (Up (at_ Mode.configure) ∧ (at_ Mode.configure).dev.mode.cur = Mode.configure ∧
     (at_ Mode.configure).dev.engBlock (17 : ℕ) = true) ∧
    (Up fenced3 ∧ (fenced3.dev.fencedUnit (3 : ℕ) = true ∨ nEngines fenced3.dev.variant ≤ (3 : ℕ))) ∧
    (Up small17 ∧ (small17.dev.fencedUnit (17 : ℕ) = true ∨ nEngines small17.dev.variant ≤ (17 : ℕ))) ∧
    (Up (at_ Mode.build) ∧ (at_ Mode.build).dev.mode.cur ≠ Mode.configure ∧
     (at_ Mode.build).dev.engBlock (3 : ℕ) = true ∧
     Word.get 7 0 16 ≠ (at_ Mode.build).dev.fld (BE_RAMP (3 : ℕ) (31 : ℕ) (32 : ℕ)) 0 16) ∧
    (Up (at_ Mode.build) ∧ (at_ Mode.build).dev.mode.cur ≠ Mode.configure ∧
     Word.get 32768 0 16 = (at_ Mode.build).dev.fld (BE_RAMP (3 : ℕ) (31 : ℕ) (32 : ℕ)) 0 16) := by
  refine ⟨?_, ?_, ?_, ?_, ?_⟩ <;> decide +kernel

def mapOff : Word := 0x00000103 &&& 0x8000011F
def mapOn : Word := 0x80000003 &&& 0x8000011F
def mapFar : Word := 0x8000001F &&& 0x8000011F

/-- Commands and states that meet the hypotheses of `Obligations.EngineMapAndErrors`, clause by
clause. -/
theorem wit_EngineMapAndErrors :
    (Up (at_ Mode.configure) ∧ (at_ Mode.configure).dev.engBlock (17 : ℕ) = true ∧
     (at_ Mode.configure).dev.mode.cur = Mode.configure ∧ mapOff.get 0 5 < nBeams (at_ Mode.configure).dev.variant ∧
     (∀ m < nEngines (at_ Mode.configure).dev.variant, m ≠ (17 : ℕ) → (at_ Mode.configure).dev.beamOf m = some (mapOff.get 0 5) → mapOff.bit 31 = false)) ∧
    (Up (at_ Mode.configure) ∧ (at_ Mode.configure).dev.engBlock (17 : ℕ) = true ∧
     (at_ Mode.configure).dev.mode.cur = Mode.configure ∧
     (nBeams (at_ Mode.configure).dev.variant ≤ mapOn.get 0 5 ∨ ∃ m < nEngines (at_ Mode.configure).dev.variant, m ≠ (17 : ℕ) ∧ (at_ Mode.configure).dev.beamOf m = some (mapOn.get 0 5) ∧ mapOn.bit 31 = true)) ∧
    (Up (at_ Mode.configure) ∧ (at_ Mode.configure).dev.engBlock (2 : ℕ) = true ∧
     (at_ Mode.configure).dev.mode.cur = Mode.configure ∧
     (nBeams (at_ Mode.configure).dev.variant ≤ mapFar.get 0 5 ∨ ∃ m < nEngines (at_ Mode.configure).dev.variant, m ≠ (2 : ℕ) ∧ (at_ Mode.configure).dev.beamOf m = some (mapFar.get 0 5) ∧ mapFar.bit 31 = true)) ∧
    (Up (at_ Mode.build) ∧ (at_ Mode.build).dev.engBlock (17 : ℕ) = true ∧
     (at_ Mode.build).dev.mode.cur ≠ Mode.configure) ∧
    (Up small17 ∧ small17.dev.engBlock (17 : ℕ) = false) :=
  ⟨by decide +kernel,
   ⟨by decide +kernel, by decide +kernel, by decide +kernel, (Or.inr ⟨3, by decide +kernel, by decide +kernel, by decide +kernel, by decide +kernel⟩)⟩,
   by decide +kernel, by decide +kernel, by decide +kernel⟩

def unitR (r : Nat) : WUnit := { (default : WUnit) with layer := 9, barge := 3, idxs := [r], recs := [default] }
def planned (n : Nat) : State := st (withEng (dv .build) 0 (fun e =>
  { e with runs := [{ (default : Run) with unit := unitR 0, committed := true, pieces := [default] }], queue := [unitR 4], retries := if n = 0 then [] else [((unitR 0).segKey 0, n)] }))

/-- Commands and states that meet the hypotheses of `Obligations.EngineMapAndErrors` (Residues), clause by
clause. -/
theorem wit_EngineMapAndErrors_Residues :
    (Awake (planned 0) ∧ (planned 0).dev.fencedUnit (0 : ℕ) = false ∧
     ((planned 0).dev.eng (0 : ℕ)).segment = some (unitR 0, 0)) ∧
    (Awake (at_ Mode.build) ∧ (at_ Mode.build).dev.fencedUnit (0 : ℕ) = false ∧
     ((at_ Mode.build).dev.eng (0 : ℕ)).segment = none) ∧
    (Awake (planned 0) ∧ (planned 0).dev.fencedUnit (0 : ℕ) = false ∧
     ((planned 0).dev.eng (0 : ℕ)).records[1]? = some (unitR 4, 0)) ∧
    (Awake (at_ Mode.build) ∧ (at_ Mode.build).dev.fencedUnit (0 : ℕ) = false ∧
     ((at_ Mode.build).dev.eng (0 : ℕ)).records[1]? = none) ∧
    (Awake (at_ Mode.build) ∧ (at_ Mode.build).dev.fencedUnit (0 : ℕ) = false) ∧
    (((planned 1).dev.eng 0).retriesOf ((unitR 0).segKey 0) < 2 ∧ 0 < (planned 1).dev.engines.length) ∧
    2 ≤ ((planned 2).dev.eng 0).retriesOf ((unitR 0).segKey 0) := by
  refine ⟨?_, ?_, ?_, ?_, ?_, ?_, ?_⟩ <;> decide +kernel

def entry (tick power : Nat) : TickEntry :=
  { (default : TickEntry) with tick := tick, plan := power, weir := 400000, emitFrom := 0, emitTo := 1000000, modHigh := true, seq := 1 }
def ticked (m : Mode) : Dev := withEng ((dv m).wr (LAS_CEIL 0) 300000) 0 (fun e =>
  { e with tickQ := [entry 1 350000], seq := 1 })
def law0 : Law := default
def lset : LawSet := ⟨0x7FFF, 0x7FFF, 0x7FFF, -0x7FFF, -0x4000, 0x4000⟩
def ltick : LawTick := ⟨true, 16383, false, true, -4096, false, true, true⟩

/-- Commands and states that meet the hypotheses of `Obligations.PowerAndCorrectionStayWithin`, clause by
clause. -/
theorem wit_PowerAndCorrectionStayWithin :
    entry 1 350000 ∈ ((ticked Mode.calibrate).eng 0).tickQ ∧
    entry 1 350000 ∈ ((ticked Mode.build).eng 0).tickQ ∧
    lset.fbMin ≤ lset.fbMax := by
  refine ⟨?_, ?_, ?_⟩ <;> decide +kernel

def pd0 : PdEnv := ⟨⟨List.replicate 5 100, false, false⟩, ⟨List.replicate 5 100, false, false⟩, false⟩

/-- Commands and states that meet the hypotheses of `Obligations.TicksAndEngines`, clause by
clause. -/
theorem wit_TicksAndEngines :
    (dv Mode.build).tb3 ≤ 5 ∧
    (Awake (at_ Mode.build) ∧ 2 ≤ (at_ Mode.build).dev.mode.boot) ∧
    (Awake fenced3 ∧ 2 ≤ fenced3.dev.mode.boot ∧ fenced3.dev.fencedUnit (0 : ℕ) = false ∧ fenced3.dev.wdDone = false ∧
     (fenced3.dev.computing = false ∨ fenced3.dev.beamOf (0 : ℕ) = none)) ∧
    (Awake fenced3 ∧
     (fenced3.dev.mode.boot < 2 ∨ fenced3.dev.fencedUnit (3 : ℕ) = true ∨ fenced3.dev.wdDone = true)) ∧
    (Awake (st (ticked Mode.build)) ∧ 2 ≤ (st (ticked Mode.build)).dev.mode.boot ∧
     (st (ticked Mode.build)).dev.fencedUnit (0 : ℕ) = false ∧ (st (ticked Mode.build)).dev.wdDone = false ∧
     (st (ticked Mode.build)).dev.computing = true ∧ (st (ticked Mode.build)).dev.beamOf (0 : ℕ) = some 0 ∧
     (List.find? (fun x => x.tick == (st (ticked Mode.build)).dev.tick + 1) ((st (ticked Mode.build)).dev.eng (0 : ℕ)).tickQ = some (entry 1 350000))) ∧
    (Awake (st (ticked Mode.build)) ∧ (st (ticked Mode.build)).dev.applyHold.planning (0 : ℕ) = true) ∧
    (Awake (st (ticked Mode.standby)) ∧ (st (ticked Mode.standby)).dev.applyHold.planning (0 : ℕ) = false) := by
  refine ⟨?_, ?_, ?_, ?_, ?_, ?_, ?_⟩ <;> decide +kernel

theorem noQueues : ∀ n, ((at_ .build).dev.eng n).queue = [] := by intro n; by_cases hn : n < 18; (· exact (by decide +kernel : ∀ n < 18, ((at_ .build).dev.eng n).queue = []) n hn); simp only [Dev.eng]; rw [List.getD_eq_default]; rfl; exact Nat.le_trans (by decide +kernel) (Nat.not_lt.1 hn)
def taking0 : State := st (withEng (dv .build) 0 (fun e => { e with taking := true }))
def done0 : Done := ⟨{ (default : WUnit) with layer := 9, barge := 3, idxs := [0], recs := [default] }, 0, 0, 100, 9,
  false, 1, 0⟩
def doneS : State := st (withEng (dv .build) 0 (fun e => { e with done := [done0] }))
def doneW : State := st (withEng (dv .build) 0 (fun e => { e with done := [done0], writes := [⟨0, 0, 0, 0, [1]⟩] }))
def feat0 : Feat := ⟨160, 320, 1, 1, 1, 5, [], 0⟩
def featD : Dev := withEng (dv .build) 0 (fun e =>
  { e with runs := [{ (default : Run) with committed := true, seq := 1 }], law := { e.law with seq := 1, hist := [(1, 0, 9)] } })
def featS : State := st { featD with feats := featD.feats.set 0 [feat0] }
def featL : State := st { featS.dev with tb3 := 100000000 }
def featU : State := st { dv .build with feats := (dv .build).feats.set 0 [feat0] }

/-- Commands and states that meet the hypotheses of `Obligations.TicksAndEngines` (EnginesGoOn), clause by
clause. -/
theorem wit_TicksAndEngines_EnginesGoOn :
    (Awake (at_ Mode.build) ∧ (∀ (n : ℕ), ((at_ Mode.build).dev.eng n).queue = [])) ∧
    (Awake taking0 ∧ taking0.dev.engineOf (0 : ℕ) = some 0 ∧ taking0.dev.engines.length = 18 ∧
     (taking0.dev.eng 0).taking = true ∧ taking0.dev.fencedUnit 0 = false) ∧
    (Awake (at_ Mode.build) ∧ (at_ Mode.build).dev.engineOf (0 : ℕ) = some 0 ∧
     (at_ Mode.build).dev.engines.length = 18 ∧ ((at_ Mode.build).dev.eng 0).taking = false) ∧
    (Awake (at_ Mode.build) ∧ (at_ Mode.build).dev.fencedUnit (0 : ℕ) = false ∧
     (at_ Mode.build).dev.beamOf (0 : ℕ) = some 0) ∧
    (Awake doneS ∧ (doneS.dev.eng (0 : ℕ)).done = [done0] ∧
     ((doneS.dev.eng (0 : ℕ)).owes done0.seq = false ∨ doneS.dev.fencedUnit (0 : ℕ) = true)) ∧
    (Awake doneW ∧ (doneW.dev.eng (0 : ℕ)).done = [done0] ∧ (doneW.dev.eng (0 : ℕ)).owes done0.seq = true ∧
     doneW.dev.fencedUnit (0 : ℕ) = false) ∧
    (Awake featS ∧ featS.dev.feats.getD (0 : ℕ) [] = [feat0] ∧ featS.dev.engineOf (0 : ℕ) = some 0 ∧
     featS.dev.fencedUnit 0 = false ∧ featS.dev.tb3 ≤ feat0.end_ + featS.dev.fld (BE_CAM_CFG 0) 0 16 * 16 ∧
     featS.dev.usable 0 feat0 = true) ∧
    (Awake featU ∧ featU.dev.feats.getD (0 : ℕ) [] = [feat0] ∧ featU.dev.engineOf (0 : ℕ) = some 0 ∧
     featU.dev.fencedUnit 0 = false ∧ featU.dev.tb3 ≤ feat0.end_ + featU.dev.fld (BE_CAM_CFG 0) 0 16 * 16 ∧
     featU.dev.usable 0 feat0 = false) ∧
    (Awake featL ∧ featL.dev.feats.getD (0 : ℕ) [] = [feat0] ∧ featL.dev.engineOf (0 : ℕ) = some 0 ∧
     featL.dev.fencedUnit 0 = false ∧ feat0.end_ + featL.dev.fld (BE_CAM_CFG 0) 0 16 * 16 < featL.dev.tb3) :=
  ⟨⟨by decide +kernel, noQueues⟩, by decide +kernel, by decide +kernel, by decide +kernel, by decide +kernel,
   by decide +kernel, by decide +kernel, by decide +kernel, by decide +kernel⟩

def qd : Dev := { dv .build with keeper := { (dv .build).keeper with peerQ := [(16, 70), (17, 60)] } }
def replayD (m : Mode) : State := st
  { dv m with replay := some ⟨rq 0 0 0, [], [], 0, 0, 0, [], none, [], Keeper.reset⟩ }
def vrec : Rec := ⟨0, 0, 5000, 0, 2, 0, 0, 3, 0, 1, 0, 0⟩
def lockU : WUnit := { (default : WUnit) with layer := 9, barge := 3, idxs := [0], recs := [vrec] }
def runLay : Layer := { lay0 9 with startReq := some (rq 1 9 0), startTick := some 0, started := true }
def locked (prev : Option Nat) : Dev :=
  let d := ((((((((withLayers .build [runLay]).wr (LK_LOCK_CTRL 0) 0x80400003).wr (LK_LOCK_VX 0 0) 0xFFFF0000).wr (LK_LOCK_VY 0 0) 0xFFFF0000).wr (LK_LOCK_VX 0 1) 0x10000).wr (LK_LOCK_VY 0 1) 0xFFFF0000).wr (LK_LOCK_VX 0 2) 0x10000).wr (LK_LOCK_VY 0 2) 0x10000).wr (LK_LOCK_VX 0 3) 0xFFFF0000 |>.wr (LK_LOCK_VY 0 3) 0x10000 |>.wr (LK_QTIME 1) 60 |>.wr (LK_QTIME 0) 50 |>.wr LK_ASSIGN_CFG 0x00FF0100
  { d with keeper := { d.keeper with locks := modAt d.keeper.locks 0 (fun q => { q with queue := [lockU], prev := prev }) } }
def deadLocks : Dev := { locked none with flt := { (locked none).flt with fenced := [0, 1] } }

/-- Commands and states that meet the hypotheses of `Obligations.LocksDecide`, clause by
clause. -/
theorem wit_LocksDecide :
    qd.bestOf [16, 17] = some 17 ∧
    qd.bestOf [] = none ∧
    (Awake (at_ Mode.build) ∧ (at_ Mode.build).dev.replay = none ∧ (at_ Mode.build).dev.mode.cur = Mode.build ∧
     (at_ Mode.build).dev.holding = false) ∧
    (Awake (at_ Mode.hold) ∧ (at_ Mode.hold).dev.replay = none ∧
     ((at_ Mode.hold).dev.mode.cur ≠ Mode.build ∨ (at_ Mode.hold).dev.holding = true)) ∧
    (Awake (replayD Mode.service) ∧
     (replayD Mode.service).dev.replay = some { req := rq 0 0 0, script := [], places := [], imposed := 0, diverged := 0, skipped := 0, opened := [], active := none, engines := [], keeper := Keeper.reset : Replay }) ∧
    (((locked none).lockQ 0).queue = [lockU] ∧ (locked none).running = some runLay ∧ runLay.num = lockU.layer ∧
     lockU.half = none ∧ ((locked none).lockOfRecs lockU.recs).isSome = true ∧
     (locked none).bestOf ((locked none).candidates lockU 0) = some 0 ∧
     (locked none).qOf 0 ≤ (locked none).now + (locked none).fld LK_ASSIGN_CFG 0 16 ∧
     ((locked none).lockQ 0).prev = none) ∧
    (((locked (some 1)).lockQ 0).queue = [lockU] ∧ (locked (some 1)).running = some runLay ∧
     runLay.num = lockU.layer ∧ lockU.half = none ∧ ((locked (some 1)).lockOfRecs lockU.recs).isSome = true ∧
     (locked (some 1)).bestOf ((locked (some 1)).candidates lockU 0) = some 0 ∧
     (locked (some 1)).qOf 0 ≤ (locked (some 1)).now + (locked (some 1)).fld LK_ASSIGN_CFG 0 16 ∧
     ((locked (some 1)).lockQ 0).prev = some 1 ∧ 1 ∈ (locked (some 1)).candidates lockU 0 ∧
     (locked (some 1)).qOf 1 ≤ (locked (some 1)).qOf 0 + (locked (some 1)).fld LK_ASSIGN_CFG 16 16) ∧
    ((deadLocks.lockQ 0).queue = [lockU] ∧ deadLocks.running = some runLay ∧ runLay.num = lockU.layer ∧
     lockU.half = none ∧ (deadLocks.lockOfRecs lockU.recs).isSome = true ∧ deadLocks.candidates lockU 0 = []) :=
  ⟨by decide +kernel, by decide +kernel, by decide +kernel,
   ⟨by decide +kernel, by decide +kernel, (Or.inl (by decide +kernel))⟩, by decide +kernel, by decide +kernel,
   by decide +kernel, by decide +kernel⟩

def piece0 : Piece :=
  { (default : Piece) with dur := 2 ^ 70, len := 5000 * 2 ^ 80, bx := 5000 * 2 ^ 24, v0 := 2 ^ 60, vp := 2 ^ 60, v1 := 2 ^ 60, rec_ := some 0 }
def run0 (half : Option Nat) : Run :=
  { (default : Run) with unit := { lockU with half := half }, tOn := 0, tOff := 16000 * 2 ^ 16, tEnd := 16000 * 2 ^ 16, start := 100 }
def commitS (half : Option Nat) : State := st (withEng (withLayers .build [runLay]) 0 (fun e =>
  { e with runs := [run0 half] }))
theorem eta2 {α β : Type} (p : α × β) : p = (p.1, p.2) := rfl
def argUnitsCommitA2 := (commitS none).dev.ownShift 0 ((commitS none).dev.freshStart 0 (run0 none))
def argUnitsCommitA1 := (commitS none).dev.ownShift 0 ((commitS none).dev.freshStart 0 (run0 none))
def runP : Run := { run0 none with unit := { lockU with lock := some 0 } }
def peerS : State := st
  { withEng ((withLayers .build [runLay]).wr (LK_LOCK_XDEV 0) 0x81000001 |>.wr (LK_LOCK_STATUS 0) 0x10000) 0 (fun e => { e with runs := [runP] }) with devId := 0, members := [1] }
def longR : Run := { run0 none with committed := true, upTo := some (2 ^ 60) }
def longS : State := st (withEng (withLayers .build [runLay]) 0 (fun e => { e with runs := [longR] }))
def syncD : Dev := (commitS (some 1)).dev.wr LK_PLUME_CFG 0
def syncS (t : Nat) : State := st { syncD with keeper := { (commitS (some 1)).dev.keeper with syncs := [(9, 2, t)] } }
def trackS : State := st
  { (commitS none).dev with tb3 := 100000000, keeper := { (commitS none).dev.keeper with tracks := [⟨0, run0 none⟩, ⟨1, { run0 none with start := 100000 }⟩] } }

/-- Commands and states that meet the hypotheses of `Obligations.UnitsCommit`, clause by
clause. -/
theorem wit_UnitsCommit :
    (Awake (commitS none) ∧ (commitS none).dev.replay = none ∧ (commitS none).dev.longRun (0 : ℕ) = none ∧
     (commitS none).dev.openRun (0 : ℕ) = some (run0 none) ∧ (commitS none).dev.committing (0 : ℕ) = true ∧
     ((run0 none).unit.half ≠ some 1 ∨ (run0 none).unit.resumed = true ∨ (run0 none).unit.solo = true) ∧
     ((commitS none).dev.setLastRun (0 : ℕ) ((commitS none).dev.freshStart 0 (run0 none))).commitPeers (((commitS none).dev.freshStart 0 (run0 none)).shift argUnitsCommitA1.1) = []) ∧
    (Awake peerS ∧ peerS.dev.replay = none ∧ peerS.dev.longRun (0 : ℕ) = none ∧
     peerS.dev.openRun (0 : ℕ) = some runP ∧ peerS.dev.committing (0 : ℕ) = true ∧
     (runP.unit.half ≠ some 1 ∨ runP.unit.resumed = true ∨ runP.unit.solo = true) ∧
     (peerS.dev.setLastRun (0 : ℕ) (peerS.dev.freshStart 0 runP)).commitPeers ((peerS.dev.freshStart 0 runP).shift (peerS.dev.ownShift 0 (peerS.dev.freshStart 0 runP)).1) ≠ []) ∧
    (Awake longS ∧ longS.dev.committing (0 : ℕ) = true ∧ longS.dev.longRun (0 : ℕ) = some longR ∧
     longS.dev.commitPeers { unit := longR.unit, start := longR.start, pieces := longR.pieces, tOn := longR.tOn, tOff := longR.tOff, tEnd := longR.tEnd, holdAt := longR.holdAt, hold := longR.hold, committed := longR.committed, delays := longR.delays, sync := longR.sync, foc := longR.foc, focus := longR.focus, started := longR.started, ended := longR.ended, given := longR.given, cut := longR.cut, ffs := longR.ffs, served := longR.served, late := longR.late, seq := longR.seq, pre := longR.pre, upTo := longR.nextPart (longR.upTo.getD 0) : Run } = []) ∧
    (Awake (at_ Mode.standby) ∧ (at_ Mode.standby).dev.committing (0 : ℕ) = false) ∧
    (Awake (commitS (some 1)) ∧ (commitS (some 1)).dev.openRun (0 : ℕ) = some (run0 (some 1)) ∧
     (commitS (some 1)).dev.committing (0 : ℕ) = true ∧ (run0 (some 1)).unit.half = some 1 ∧
     (run0 (some 1)).unit.resumed = false ∧ (commitS (some 1)).dev.longRun (0 : ℕ) = none ∧
     (run0 (some 1)).unit.solo = false) ∧
    (Awake (commitS (some 1)) ∧ (commitS (some 1)).dev.openRun (0 : ℕ) = some (run0 (some 1)) ∧
     (commitS (some 1)).dev.committing (0 : ℕ) = true ∧ (run0 (some 1)).unit.half = some 1 ∧
     (run0 (some 1)).unit.resumed = false ∧ (commitS (some 1)).dev.syncOf (run0 (some 1)).unit = none) ∧
    (Awake (syncS 2000000) ∧ (syncS 2000000).dev.openRun (0 : ℕ) = some (run0 (some 1)) ∧
     (syncS 2000000).dev.committing (0 : ℕ) = true ∧ (run0 (some 1)).unit.half = some 1 ∧
     (run0 (some 1)).unit.resumed = false ∧ (syncS 2000000).dev.syncOf (run0 (some 1)).unit = some 2000000 ∧
     (syncS 2000000).dev.replay = none ∧
     (syncS 2000000).dev.mayCoMove (0 : ℕ) ((syncS 2000000).dev.freshStart 0 (run0 (some 1))) 2000000 = true ∧
     (syncS 2000000).dev.commitPeers (((syncS 2000000).dev.freshStart 0 (run0 (some 1))).coMove 2000000) = []) ∧
    (Awake (syncS 1) ∧ (syncS 1).dev.openRun (0 : ℕ) = some (run0 (some 1)) ∧
     (syncS 1).dev.committing (0 : ℕ) = true ∧ (run0 (some 1)).unit.half = some 1 ∧
     (run0 (some 1)).unit.resumed = false ∧ (syncS 1).dev.syncOf (run0 (some 1)).unit = some 1 ∧
     (syncS 1).dev.replay = none ∧
     (syncS 1).dev.mayCoMove (0 : ℕ) ((syncS 1).dev.freshStart 0 (run0 (some 1))) 1 = false) ∧
    (Awake trackS ∧ trackS.dev.keeperOn = true) ∧
    (Awake (at_ Mode.configure) ∧ (at_ Mode.configure).dev.keeperOn = false) :=
  ⟨
   ⟨by decide +kernel, by decide +kernel, by decide +kernel, by decide +kernel, by decide +kernel, (Or.inl (by decide +kernel)), by decide +kernel⟩,
   ⟨by decide +kernel, by decide +kernel, by decide +kernel, by decide +kernel, by decide +kernel, (Or.inl (by decide +kernel)), by decide +kernel⟩,
   by decide +kernel, by decide +kernel, by decide +kernel, by decide +kernel, by decide +kernel, by decide +kernel,
   by decide +kernel, by decide +kernel⟩

def fadeS : State := at_ .configure

/-- Commands and states that meet the hypotheses of `Obligations.LockTables`, clause by
clause. -/
theorem wit_LockTables :
    (Up fadeS ∧ fadeS.dev.mode.cur = Mode.configure ∧
     (∀ k < 31, fadeS.dev.fld (LK_FADE (k + 1)) 0 16 ≤ fadeS.dev.fld (LK_FADE k) 0 16)) ∧
    (Up fadeS ∧ ((31 : ℕ) = 0 ∨ (31 : ℕ) = 31)) ∧
    (Up (at_ Mode.build) ∧ 0 < (5 : ℕ) ∧ (5 : ℕ) < 31 ∧ (at_ Mode.build).dev.mode.cur ≠ Mode.configure ∧
     Word.get 7 0 16 ≠ (at_ Mode.build).dev.fld (LK_FADE (5 : ℕ)) 0 16) := by
  refine ⟨?_, ?_, ?_⟩ <;> decide +kernel

def lockFree : State := st
  { (locked none).wr (LK_LOCK_CTRL 0) 0 with lay := (at_ .configure).dev.lay, mode := (at_ .configure).dev.mode }
def lockC : State := st { locked none with mode := (at_ .configure).dev.mode }
def lockC0 : State := st { locked none with mode := (at_ .configure).dev.mode, lay := (at_ .configure).dev.lay }

/-- Commands and states that meet the hypotheses of `Obligations.LockTables` (LockDefinitions), clause by
clause. -/
theorem wit_LockTables_LockDefinitions :
    (Up lockFree ∧ lockFree.dev.mode.cur = Mode.configure ∧ lockFree.dev.lockValid (0 : ℕ) = false ∧
     Word.bit 0x80400003 31 = true ∧ lockFree.dev.lay.opened = []) ∧
    (Up (at_ Mode.configure) ∧ (at_ Mode.configure).dev.mode.cur = Mode.configure ∧
     (at_ Mode.configure).dev.lockValid (1 : ℕ) = false ∧ Word.bit 0x80400003 31 = true ∧
     (at_ Mode.configure).dev.lay.opened = []) ∧
    (Up lockC ∧ lockC.dev.mode.cur = Mode.configure ∧ lockC.dev.lockValid (0 : ℕ) ≠ Word.bit 0 31 ∧
     lockC.dev.lay.opened ≠ []) ∧
    (Up lockC ∧ lockC.dev.mode.cur = Mode.configure ∧ lockC.dev.lockValid (0 : ℕ) = true ∧
     Word.bit 0x80400007 31 = true ∧ 0x80400007 ≠ lockC.dev.rd (LK_LOCK_CTRL (0 : ℕ))) ∧
    (Up lockFree ∧ lockFree.dev.mode.cur = Mode.configure ∧ lockFree.dev.lockValid (0 : ℕ) = false ∧
     Word.bit 0x400003 31 = false) ∧
    (Up lockC0 ∧ lockC0.dev.mode.cur = Mode.configure ∧ lockC0.dev.lockValid (0 : ℕ) = true ∧ Word.bit 0 31 = false ∧
     lockC0.dev.lay.opened = []) ∧
    (Up (st (locked none)) ∧ (st (locked none)).dev.mode.cur ≠ Mode.configure ∧
     0x80400003 = (st (locked none)).dev.rd (LK_LOCK_CTRL (0 : ℕ))) ∧
    (Up (st (locked none)) ∧ (st (locked none)).dev.mode.cur ≠ Mode.configure ∧
     0x80400007 ≠ (st (locked none)).dev.rd (LK_LOCK_CTRL (0 : ℕ)) ∧
     ((st (locked none)).dev.lockValid (0 : ℕ) ≠ Word.bit 0x80400007 31 ∧ (st (locked none)).dev.lay.opened ≠ [] ∨ (st (locked none)).dev.lockValid (0 : ℕ) = true ∧ Word.bit 0x80400007 31 = true)) := by
  refine ⟨?_, ?_, ?_, ?_, ?_, ?_, ?_, ?_⟩ <;> decide +kernel

def upd0 : LUpd := ⟨1, 1, 5000, 100, [1]⟩
def upd9 : LUpd := ⟨2000, 1, 5000, 100, [1]⟩
def ldgD (r : Bool) (u : LUpd) : Dev :=
  { withEng ((if r then withLayers .build [runLay] else dv .standby).wr LDG_SIZE 0x00FF00FF) 0 (fun e => { e with writes := [u], notices := [u] }) with ldg := { (dv .build).ldg with copy := some (LCopy.cleared 0) } }
def ldgS (r : Bool) : State := st (ldgD r upd0)
def ldgF : State := st { ldgD true upd0 with flt := { (dv .build).flt with fenced := [0] } }
def bandS : State := st { (ldgS true).dev with members := [0, 1] }
def argLedgerWorkK2 := st
  { (ldgS false).dev with mode := (dv .service).mode, ldg := { (ldgS false).dev.ldg with replay := some (LCopy.cleared 0) } }

/-- Commands and states that meet the hypotheses of `Obligations.LedgerWork`, clause by
clause. -/
theorem wit_LedgerWork :
    (Awake ldgF ∧ (ldgF.dev.eng (0 : ℕ)).writes = [upd0] ∧ ldgF.dev.fencedUnit (0 : ℕ) = true) ∧
    (Awake (ldgS true) ∧ ((ldgS true).dev.eng (0 : ℕ)).writes = [upd0] ∧ (ldgS true).dev.fencedUnit (0 : ℕ) = false ∧
     (ldgS true).dev.inGrid (↑upd0.cx : ℤ) (↑upd0.cy : ℤ) = true) ∧
    (Awake (st (ldgD true upd9)) ∧ ((st (ldgD true upd9)).dev.eng (0 : ℕ)).writes = [upd9] ∧
     (st (ldgD true upd9)).dev.fencedUnit (0 : ℕ) = false ∧
     (st (ldgD true upd9)).dev.inGrid (↑upd9.cx : ℤ) (↑upd9.cy : ℤ) = false) ∧
    (Awake (ldgS true) ∧ ((ldgS true).dev.eng (3 : ℕ)).writes = []) ∧
    (Awake ldgF ∧ (ldgF.dev.eng (0 : ℕ)).notices = [upd0] ∧ ldgF.dev.fencedUnit (0 : ℕ) = true) ∧
    (Awake (ldgS true) ∧ ((ldgS true).dev.eng (0 : ℕ)).notices = [upd0] ∧
     (ldgS true).dev.fencedUnit (0 : ℕ) = false) ∧
    (Awake (ldgS true) ∧ ((ldgS true).dev.eng (3 : ℕ)).notices = []) ∧
    (Awake bandS ∧ (0 : ℕ) = bandS.dev.devId ∧ bandS.dev.bandOpen (1 : ℕ) = true ∧
     bandS.dev.cellAt 0 0 = some (((bandS.dev.cellAt 0 0).getD (0, 0)).1, ((bandS.dev.cellAt 0 0).getD (0, 0)).2)) ∧
    (Awake bandS ∧ (0 : ℕ) = bandS.dev.devId ∧ (bandS.dev.bandOpen (2 : ℕ) = false ∨ bandS.dev.cellAt 0 0 = none)) ∧
    (Awake (ldgS true) ∧ (ldgS true).dev.ldg.copy = some (LCopy.cleared 0) ∧ (ldgS true).dev.running.isSome = true ∧
     ((ldgS true).dev.mode.cur = Mode.build ∨ (ldgS true).dev.mode.cur = Mode.hold)) ∧
    (Awake (at_ Mode.build) ∧ (at_ Mode.build).dev.running = none) ∧
    Takes (ldgS false) 0x0511 cmdLedgerClear (rq 0 0 0) ∧
    Takes argLedgerWorkK2 0x0511 cmdLedgerClear (rq 0 1 0) ∧
    (Takes (ldgS false) 0x0590 cmdLedgerRead (rqR 0 0 0x10002 64) ∧
     ((if (rqR 0 0 0x10002 64).a2.bit 0 = true then (ldgS false).dev.ldg.replay else (ldgS false).dev.ldg.copy) = some (LCopy.cleared 0))) :=
  ⟨by decide +kernel, by decide +kernel, by decide +kernel, by decide +kernel, by decide +kernel, by decide +kernel,
   by decide +kernel, by decide +kernel, ⟨by decide +kernel, by decide +kernel, (Or.inl (by decide +kernel))⟩,
   ⟨by decide +kernel, by decide +kernel, by decide +kernel, (Or.inl (by decide +kernel))⟩, by decide +kernel,
   by decide +kernel, by decide +kernel, by decide +kernel⟩

def lookR : Run :=
  { run0 none with pieces := [piece0], committed := true, tEnd := 2 ^ 70, tOff := 2 ^ 70, start := 0 }
def lookS : State := st (withEng (withLayers .build [runLay]) 0 (fun e => { e with runs := [lookR], next := 10 }))
def lookF : State := st { lookS.dev with flt := { lookS.dev.flt with fenced := [0] } }

/-- Commands and states that meet the hypotheses of `Obligations.LedgerWork` (LookaheadServes), clause by
clause. -/
theorem wit_LedgerWork_LookaheadServes :
    (Awake lookS ∧
     (List.findIdx? (fun r => Decidable.decide (r.served < lookS.dev.issued (0 : ℕ) r)) (lookS.dev.eng (0 : ℕ)).runs = some 0) ∧
     (lookS.dev.eng (0 : ℕ)).runs[0]? = some lookR ∧ (0 : ℕ) < lookS.dev.engines.length ∧
     lookS.dev.fencedUnit (0 : ℕ) = false) ∧
    (Awake lookF ∧
     (List.findIdx? (fun r => Decidable.decide (r.served < lookF.dev.issued (0 : ℕ) r)) (lookF.dev.eng (0 : ℕ)).runs = some 0) ∧
     (lookF.dev.eng (0 : ℕ)).runs[0]? = some lookR ∧ (0 : ℕ) < lookF.dev.engines.length ∧
     lookF.dev.fencedUnit (0 : ℕ) = true) ∧
    (Awake (at_ Mode.build) ∧
     (List.findIdx? (fun r => Decidable.decide (r.served < (at_ Mode.build).dev.issued (0 : ℕ) r)) ((at_ Mode.build).dev.eng (0 : ℕ)).runs = none)) := by
  refine ⟨?_, ?_, ?_⟩ <;> decide +kernel

def manifest (ok : Bool) : List Byte :=
  let h := leBytes 4 (if ok then 0x50525150 else 1) ++ leBytes 2 1 ++ leBytes 2 1 ++ List.replicate 8 0 ++ leBytes 4 256 ++ List.replicate 40 0
  h ++ leBytes 4 (crc32c h) ++ List.replicate 16 0
def deployed : State := st
  { dv .service with bist := { (dv .service).bist with latched := { Fuses.blank with manuf := true } } }

/-- Commands and states that meet the hypotheses of `Obligations.ReplayRefusesWhatDoesNotCheck`, clause by
clause. -/
theorem wit_ReplayRefusesWhatDoesNotCheck :
    (TakesData deployed 0x0C20 cmdReplayLayer (rqD 0 0 0 80) (eD (List.replicate 80 1)) ∧
     crc32c (List.take 60 (dataOf (rqD 0 0 0 80) (eD (List.replicate 80 1)))) ≠ bytesAt (dataOf (rqD 0 0 0 80) (eD (List.replicate 80 1))) 60 4) ∧
    (TakesData deployed 0x0C20 cmdReplayLayer (rqD 0 0 0 80) (eD (manifest false)) ∧
     crc32c (List.take 60 (dataOf (rqD 0 0 0 80) (eD (manifest false)))) = bytesAt (dataOf (rqD 0 0 0 80) (eD (manifest false))) 60 4 ∧
     manifestBad (dataOf (rqD 0 0 0 80) (eD (manifest false))) = true) ∧
    (TakesData deployed 0x0C20 cmdReplayLayer (rqD 0 0 0 80) (eD (manifest true)) ∧
     crc32c (List.take 60 (dataOf (rqD 0 0 0 80) (eD (manifest true)))) = bytesAt (dataOf (rqD 0 0 0 80) (eD (manifest true))) 60 4 ∧
     manifestBad (dataOf (rqD 0 0 0 80) (eD (manifest true))) = false ∧
     recordSigned (List.take (bytesAt (dataOf (rqD 0 0 0 80) (eD (manifest true))) 16 4) (eD (manifest true)).blob) = false) := by
  refine ⟨?_, ?_, ?_⟩ <;> decide +kernel

def gridOf (b id : Nat) : Grid := { grid0 b id with digest := sha384 (gridBytes b id) }
theorem noneActive (x : Option Grid) (P : Grid → Prop) (h : x = none) : ∀ a, x = some a → P a := by intro a ha; rw [h] at ha; cases ha
def gridBusy : State := st
  { withLayers .build [{ lay0 9 with startReq := some (rq 1 9 0) }] with grids := (at_ .build).dev.grids.set 0 ⟨some (gridOf 0 9), some (gridOf 0 10), true, false, none⟩ }
def gridPend : State := st
  { dv .build with grids := (at_ .build).dev.grids.set 3 ⟨none, some (gridOf 3 10), true, false, none⟩ }

/-- Commands and states that meet the hypotheses of `Obligations.GridsCommit`, clause by
clause. -/
theorem wit_GridsCommit :
    (TakesData (at_ Mode.build) 0x0501 cmdGridLoad (rqD 0 0 0 320) (eD (List.replicate 320 1)) ∧
     parseGrid (at_ Mode.build).dev.variant (dataOf (rqD 0 0 0 320) (eD (List.replicate 320 1))) = Except.error (7, 1281, 0)) ∧
    (TakesData (at_ Mode.build) 0x0501 cmdGridLoad (rqD 0 0 0 320) (eD (gridBytes 15 9)) ∧
     parseGrid (at_ Mode.build).dev.variant (dataOf (rqD 0 0 0 320) (eD (gridBytes 15 9))) = Except.ok (gridOf 15 9) ∧
     (gridOf 15 9).beam < (at_ Mode.build).dev.grids.length ∧ (at_ Mode.build).dev.exposed = none ∧
     (at_ Mode.build).dev.beamEmits (gridOf 15 9).beam = false ∧
     ((at_ Mode.build).dev.beamGrids (gridOf 15 9).beam).commitAt ≠ some (at_ Mode.build).dev.tb3 ∧
     (∀ (a : Grid), ((at_ Mode.build).dev.beamGrids (gridOf 15 9).beam).active = some a → a.digest ≠ (gridOf 15 9).digest)) ∧
    (TakesData gridBusy 0x0501 cmdGridLoad (rqD 0 0 0 320) (eD (gridBytes 15 9)) ∧
     parseGrid gridBusy.dev.variant (dataOf (rqD 0 0 0 320) (eD (gridBytes 15 9))) = Except.ok (gridOf 15 9) ∧
     (gridOf 15 9).beam < gridBusy.dev.grids.length ∧
     (gridBusy.dev.exposed ≠ none ∨ gridBusy.dev.beamEmits (gridOf 15 9).beam = true ∨ (gridBusy.dev.beamGrids (gridOf 15 9).beam).commitAt = some gridBusy.dev.tb3) ∧
     (∀ (a : Grid), (gridBusy.dev.beamGrids (gridOf 15 9).beam).active = some a → a.digest ≠ (gridOf 15 9).digest)) ∧
    (TakesData gridBusy 0x0501 cmdGridLoad (rqD 0 0 0 320) (eD (gridBytes 0 9)) ∧
     parseGrid gridBusy.dev.variant (dataOf (rqD 0 0 0 320) (eD (gridBytes 0 9))) = Except.ok (gridOf 0 9) ∧
     (gridOf 0 9).beam < gridBusy.dev.grids.length ∧
     (gridBusy.dev.beamGrids (gridOf 0 9).beam).active = some (gridOf 0 9)) ∧
    (Awake gridPend ∧ (gridPend.dev.beamGrids (3 : ℕ)).pending = some (gridOf 3 10) ∧ gridPend.dev.grids.length = 16 ∧
     gridPend.dev.gridFree (3 : ℕ) = true) ∧
    (Awake gridBusy ∧ (gridBusy.dev.beamGrids (0 : ℕ)).pending = some (gridOf 0 10) ∧ gridBusy.dev.grids.length = 16 ∧
     gridBusy.dev.gridFree (0 : ℕ) = false) :=
  ⟨by decide +kernel,
   ⟨by decide +kernel, by decide +kernel, by decide +kernel, by decide +kernel, by decide +kernel, by decide +kernel, (noneActive _ _ (by decide +kernel))⟩,
   ⟨by decide +kernel, by decide +kernel, by decide +kernel, by decide +kernel, (noneActive _ _ (by decide +kernel))⟩,
   by decide +kernel, by decide +kernel, by decide +kernel⟩

def residS : State := st { dv .build with resids := (dv .build).resids.set 5 ⟨true, 1, 2, 3, 4, true⟩ }

/-- Commands and states that meet the hypotheses of `Obligations.GridsCommit` (GridQueries), clause by
clause. -/
theorem wit_GridsCommit_GridQueries :
    Takes gridBusy 0x0580 cmdGridQuery (rq 0 0 0) ∧
    Takes residS 0x0581 cmdResidQuery (rq 0 5 0) := by
  refine ⟨?_, ?_⟩ <;> decide +kernel

def calS : State := st (calDev .calibrate)
def calW : State := st { calDev .calibrate with calWait := [(rqD 0 0 0 128, e0)] }
def calB : List Byte := bargeBytes 0 3 5 (recBytes 1000 1000 1 0 0 0 ++ recBytes 5000 1000 2 4 600 1)
def rsC : List Rec := [⟨1000, 1000, 1000, 1000, 1, 0, 0, 0, 0, 0, 0, 0⟩, ⟨1000, 1000, 5000, 1000, 2, 0, 0, 1, 0, 4, 0,
  600⟩]
abbrev waitsOf (d : Dev) (m : Nat) : Prop := m &&& d.calBusy ≠ 0 ∨ d.calWait ≠ [] ∨ d.holding = true
def markQ : Req := rqD 0 0 0 128
def markAt (s : State) : Dev := started s 0x0502 markQ
def calN : List Byte := bargeBytes 9 3 5 (recBytes 1000 1000 1 0 0 0 ++ recBytes 5000 1000 2 4 600 1)
def calF : State := st { calDev .calibrate with flt := { (dv .calibrate).flt with fenced := [0] } }
def edgeQ : Req := { rqD 0 0 5 16 with a3 := 100 }
def edgeB : List Byte := leBytes 4 0 ++ leBytes 4 0 ++ leBytes 4 5000 ++ leBytes 4 0
def edgeZ : List Byte := List.replicate 16 0
def edgeAt (s : State) : Dev := started s 0x0504 edgeQ
def probeQ : Req := { rq 0 0 100 with a2 := 100, a3 := 64, a4 := 5 }
def probeAt (s : State) : Dev := started s 0x0503 probeQ
def residL (m : Nat) : Dev := ((((((((calDev .calibrate).wr (LK_LOCK_CTRL 0) 0x80400003).wr (LK_LOCK_VX 0 0)
  0xFFFF0000).wr (LK_LOCK_VY 0 0) 0xFFFF0000).wr (LK_LOCK_VX 0 1) 0x10000).wr (LK_LOCK_VY 0 1) 0xFFFF0000).wr
  (LK_LOCK_VX 0 2) 0x10000).wr (LK_LOCK_VY 0 2) 0x10000).wr (LK_LOCK_VX 0 3) 0xFFFF0000 |>.wr (LK_LOCK_VY 0 3) 0x10000
  |>.wr (LK_LOCK_STATUS 0) (BitVec.ofNat 32 (m * 65536)) |>.wr (LK_LOCK_XDEV 0) 0x81000001
def residQ : Req := { rqD 0 0 5 8 with a3 := 1 }
def residB : List Byte := leBytes 4 0 ++ leBytes 4 0
def residO : List Byte := leBytes 4 2000000 ++ leBytes 4 0
def residAt (op : Nat) (s : State) : Dev := started s op residQ
abbrev outsideOf (d : Dev) (b : List Byte) : Prop := ∃ p ∈ residPoints b, ∃ k ∈ bitList 16 (d.lockMembers 0), d.inActive k p.1 p.2 = false
def resid0 : State := st (residL 0)
def residLW : State := st { residL 0 with calWait := [(rqD 0 0 0 128, e0)] }
def residX (w : Bool) : State := st
  { residL 1 with members := [0, 1], byf := { (residL 1).byf with inside := true, modes := [(1, 2)] }, calWait := if w then [(rqD 0 0 0 128, e0)] else [] }

/-- Commands and states that meet the hypotheses of `Obligations.CalibrationStarts`, clause by
clause. -/
theorem wit_CalibrationStarts :
    (TakesData calS 0x0502 cmdCalMark markQ (eD calN) ∧
     (markAt calS).bargeCheck (dataOf markQ (eD calN)) true = Except.error (3, 773, 0xFFFFFFFF)) ∧
    (TakesData calS 0x0502 cmdCalMark markQ (eD calB) ∧
     (markAt calS).bargeCheck (dataOf markQ (eD calB)) true = Except.ok rsC ∧
     (markAt calS).unserved (recBeams rsC) = false ∧ (¬waitsOf (markAt calS) (recBeams rsC))) ∧
    (TakesData calF 0x0502 cmdCalMark markQ (eD calB) ∧
     (markAt calF).bargeCheck (dataOf markQ (eD calB)) true = Except.ok rsC ∧
     (markAt calF).unserved (recBeams rsC) = true) ∧
    (TakesData calW 0x0502 cmdCalMark markQ (eD calB) ∧
     (markAt calW).bargeCheck (dataOf markQ (eD calB)) true = Except.ok rsC ∧
     (markAt calW).unserved (recBeams rsC) = false ∧ waitsOf (markAt calW) (recBeams rsC)) ∧
    (TakesData calS 0x0504 cmdCalEdge edgeQ (eD edgeB) ∧ 0 = edgeQ.a0.get 0 5 ∧ false = edgeQ.a0.bit 8 ∧
     (edgeAt calS).engineOf 0 = some 0 ∧ 0 = intAt (dataOf edgeQ (eD edgeB)) 0 4 ∧
     0 = intAt (dataOf edgeQ (eD edgeB)) 4 4 ∧ 5000 = intAt (dataOf edgeQ (eD edgeB)) 8 4 ∧
     0 = intAt (dataOf edgeQ (eD edgeB)) 12 4 ∧ (edgeAt calS).inActive 0 0 0 = true ∧
     (edgeAt calS).inActive 0 5000 0 = true ∧ (¬(0 = 5000 ∧ 0 = 0)) ∧ (¬waitsOf (edgeAt calS) (2 ^ 0))) ∧
    (TakesData calW 0x0504 cmdCalEdge edgeQ (eD edgeB) ∧ 0 = edgeQ.a0.get 0 5 ∧ false = edgeQ.a0.bit 8 ∧
     (edgeAt calW).engineOf 0 = some 0 ∧ 0 = intAt (dataOf edgeQ (eD edgeB)) 0 4 ∧
     0 = intAt (dataOf edgeQ (eD edgeB)) 4 4 ∧ 5000 = intAt (dataOf edgeQ (eD edgeB)) 8 4 ∧
     0 = intAt (dataOf edgeQ (eD edgeB)) 12 4 ∧ (edgeAt calW).inActive 0 0 0 = true ∧
     (edgeAt calW).inActive 0 5000 0 = true ∧ (¬(0 = 5000 ∧ 0 = 0)) ∧ waitsOf (edgeAt calW) (2 ^ 0)) ∧
    (TakesData calS 0x0504 cmdCalEdge edgeQ (eD edgeZ) ∧ 0 = edgeQ.a0.get 0 5 ∧ false = edgeQ.a0.bit 8 ∧
     (edgeAt calS).engineOf 0 = some 0 ∧ 0 = intAt (dataOf edgeQ (eD edgeZ)) 0 4 ∧
     0 = intAt (dataOf edgeQ (eD edgeZ)) 4 4 ∧ 0 = intAt (dataOf edgeQ (eD edgeZ)) 8 4 ∧
     0 = intAt (dataOf edgeQ (eD edgeZ)) 12 4 ∧
     ((edgeAt calS).inActive 0 0 0 = false ∨ (edgeAt calS).inActive 0 0 0 = false ∨ 0 = 0 ∧ 0 = 0)) ∧
    (Takes calS 0x0503 cmdCalProbe probeQ ∧ 0 = probeQ.a0.get 0 5 ∧ (¬waitsOf (probeAt calS) (2 ^ 0))) ∧
    (Takes calW 0x0503 cmdCalProbe probeQ ∧ 0 = probeQ.a0.get 0 5 ∧ waitsOf (probeAt calW) (2 ^ 0)) ∧
    (0 = residQ.a0.get 0 6 ∧ TakesData resid0 0x0505 cmdCalResid residQ (eD residB) ∧
     (¬outsideOf (residAt 1285 resid0) (dataOf residQ (eD residB))) ∧
     (¬waitsOf (residAt 1285 resid0) ((residAt 1285 resid0).lockMembers 0))) ∧
    (0 = residQ.a0.get 0 6 ∧ TakesData residLW 0x0505 cmdCalResid residQ (eD residB) ∧
     (¬outsideOf (residAt 1285 residLW) (dataOf residQ (eD residB))) ∧
     waitsOf (residAt 1285 residLW) ((residAt 1285 residLW).lockMembers 0)) ∧
    (0 = residQ.a0.get 0 6 ∧ TakesData resid0 0x0505 cmdCalResid residQ (eD residO) ∧
     outsideOf (residAt 1285 resid0) (dataOf residQ (eD residO))) ∧
    (0 = residQ.a0.get 0 6 ∧ TakesData (residX false) 0x0D02 cmdCalXresid residQ (eD residB) ∧
     (¬outsideOf (residAt 3330 (residX false)) (dataOf residQ (eD residB))) ∧
     (¬waitsOf (residAt 3330 (residX false)) ((residAt 3330 (residX false)).lockMembers 0))) ∧
    (0 = residQ.a0.get 0 6 ∧ TakesData (residX true) 0x0D02 cmdCalXresid residQ (eD residB) ∧
     (¬outsideOf (residAt 3330 (residX true)) (dataOf residQ (eD residB))) ∧
     waitsOf (residAt 3330 (residX true)) ((residAt 3330 (residX true)).lockMembers 0)) ∧
    (0 = residQ.a0.get 0 6 ∧ TakesData (residX false) 0x0D02 cmdCalXresid residQ (eD residO) ∧
     outsideOf (residAt 3330 (residX false)) (dataOf residQ (eD residO))) := by
  refine ⟨?_, ?_, ?_, ?_, ?_, ?_, ?_, ?_, ?_, ?_, ?_, ?_, ?_, ?_, ?_⟩ <;> decide +kernel

def ready (m : Mode) (f : Port → Port) : State := st
  { dv m with scn := { (dv m).scn with ports := modAt (dv m).scn.ports 15 (fun p => f { p with state := 3, seen := true, good := true }) } }
def fbBytes : List Byte := let b : List Byte := [2, 0, 1, 0] ++ leBytes 3 100 ++ leBytes 3 200 ++ leBytes 3 0 ++ leBytes 3 50 ++ List.replicate 14 0; b ++ leBytes 2 (crc16 b)
def quiet : State := ready .standby (fun p => { p with good := false })
def argScannerPortsE := ready .build (fun p => { p with state := 1 })

/-- Commands and states that meet the hypotheses of `Obligations.ScannerPorts`, clause by
clause. -/
theorem wit_ScannerPorts :
    (Awake (ready Mode.standby id) ∧
     (((ready Mode.standby id).dev.port (15 : ℕ)).state = 2 ∨ ((ready Mode.standby id).dev.port (15 : ℕ)).state = 3) ∧
     ((ready Mode.standby id).dev.port (15 : ℕ)).rxSleep = false ∧
     frameGood { bytes := fbBytes, symbolsOk := true : FbFrame } = true ∧
     ((ready Mode.standby id).dev.port (15 : ℕ)).state = 3 ∧ ((ready Mode.standby id).dev.port (15 : ℕ)).seen = true ∧
     bytesAt { bytes := fbBytes, symbolsOk := true : FbFrame }.bytes 1 1 = 0 ∧
     (ready Mode.standby id).dev.scn.ports.length = 16) ∧
    (Awake (ready Mode.standby id) ∧
     (((ready Mode.standby id).dev.port (15 : ℕ)).state = 2 ∨ ((ready Mode.standby id).dev.port (15 : ℕ)).state = 3) ∧
     ((ready Mode.standby id).dev.port (15 : ℕ)).rxSleep = false ∧
     frameGood { bytes := fbBytes, symbolsOk := true : FbFrame } = true) ∧
    (Awake (ready Mode.standby id) ∧
     (((ready Mode.standby id).dev.port (15 : ℕ)).state = 2 ∨ ((ready Mode.standby id).dev.port (15 : ℕ)).state = 3) ∧
     ((ready Mode.standby id).dev.port (15 : ℕ)).rxSleep = false ∧
     frameGood { bytes := [], symbolsOk := true : FbFrame } = false) ∧
    (Awake quiet ∧ ((quiet.dev.port (15 : ℕ)).state = 2 ∨ (quiet.dev.port (15 : ℕ)).state = 3) ∧
     (quiet.dev.port (15 : ℕ)).rxSleep = false) ∧
    (Awake (ready Mode.standby id) ∧
     (((ready Mode.standby id).dev.port (15 : ℕ)).state = 2 ∨ ((ready Mode.standby id).dev.port (15 : ℕ)).state = 3) ∧
     ((ready Mode.standby id).dev.port (15 : ℕ)).rxSleep = false) ∧
    (Awake argScannerPortsE ∧
     ((argScannerPortsE.dev.port (15 : ℕ)).state ≠ 2 ∧ (argScannerPortsE.dev.port (15 : ℕ)).state ≠ 3 ∨ (argScannerPortsE.dev.port (15 : ℕ)).rxSleep = true)) ∧
    15 < (dv Mode.build).scn.ports.length := by
  refine ⟨?_, ?_, ?_, ?_, ?_, ?_, ?_⟩ <;> decide +kernel

def enumD : List Byte := leBytes 4 77 ++ [2] ++ List.replicate 11 0
def argScannerPortsHeadsAnswerG := ready .standby (fun p => { p with state := 2, cmd := 1 })
def argScannerPortsHeadsAnswerG2 := ready .standby (fun p => { p with cmd := 2 })
def argScannerPortsHeadsAnswerG3 := ready .standby (fun p => { p with cmd := 3 })
def argScannerPortsHeadsAnswerG4 := ready .standby (fun p => { p with cmd := 4 })
def argScannerPortsHeadsAnswerJ2 := ready .standby (fun p => { p with cmd := 1 })
def argScannerPortsHeadsAnswerK := ready .standby (fun p => { p with state := 2, enum := 2 })

/-- Commands and states that meet the hypotheses of `Obligations.ScannerPorts` (HeadsAnswer), clause by
clause. -/
theorem wit_ScannerPorts_HeadsAnswer :
    (Awake argScannerPortsHeadsAnswerG ∧
     ((argScannerPortsHeadsAnswerG.dev.port (15 : ℕ)).state = 2 ∨ (argScannerPortsHeadsAnswerG.dev.port (15 : ℕ)).state = 3) ∧
     129 = 128 + (argScannerPortsHeadsAnswerG.dev.port (15 : ℕ)).cmd ∧
     argScannerPortsHeadsAnswerG.dev.scn.ports.length = 16 ∧ (argScannerPortsHeadsAnswerG.dev.port (15 : ℕ)).cmd = 1 ∧
     argScannerPortsHeadsAnswerG.dev.mode.cur = Mode.standby ∧
     (argScannerPortsHeadsAnswerG.dev.bit (LAS_CFG (15 : ℕ)) 30 = true → (bytesAt enumD 4 1).testBit 1 = true) ∧
     ((argScannerPortsHeadsAnswerG.dev.port (15 : ℕ)).prevHead = none ∨ (argScannerPortsHeadsAnswerG.dev.port (15 : ℕ)).prevHead = some (bytesAt enumD 0 4))) ∧
    (Awake argScannerPortsHeadsAnswerG2 ∧
     ((argScannerPortsHeadsAnswerG2.dev.port (15 : ℕ)).state = 2 ∨ (argScannerPortsHeadsAnswerG2.dev.port (15 : ℕ)).state = 3) ∧
     130 = 128 + (argScannerPortsHeadsAnswerG2.dev.port (15 : ℕ)).cmd ∧
     argScannerPortsHeadsAnswerG2.dev.scn.ports.length = 16 ∧
     (argScannerPortsHeadsAnswerG2.dev.port (15 : ℕ)).cmd = 2) ∧
    (Awake argScannerPortsHeadsAnswerG3 ∧
     ((argScannerPortsHeadsAnswerG3.dev.port (15 : ℕ)).state = 2 ∨ (argScannerPortsHeadsAnswerG3.dev.port (15 : ℕ)).state = 3) ∧
     131 = 128 + (argScannerPortsHeadsAnswerG3.dev.port (15 : ℕ)).cmd ∧
     argScannerPortsHeadsAnswerG3.dev.scn.ports.length = 16 ∧
     (argScannerPortsHeadsAnswerG3.dev.port (15 : ℕ)).cmd = 3) ∧
    (Awake argScannerPortsHeadsAnswerG4 ∧
     ((argScannerPortsHeadsAnswerG4.dev.port (15 : ℕ)).state = 2 ∨ (argScannerPortsHeadsAnswerG4.dev.port (15 : ℕ)).state = 3) ∧
     132 = 128 + (argScannerPortsHeadsAnswerG4.dev.port (15 : ℕ)).cmd ∧
     argScannerPortsHeadsAnswerG4.dev.scn.ports.length = 16 ∧
     (argScannerPortsHeadsAnswerG4.dev.port (15 : ℕ)).cmd = 4) ∧
    (Awake (ready Mode.standby id) ∧
     (((ready Mode.standby id).dev.port (15 : ℕ)).cmd = 0 ∨ 129 ≠ 128 + ((ready Mode.standby id).dev.port (15 : ℕ)).cmd ∨ ((ready Mode.standby id).dev.port (15 : ℕ)).state ≠ 2 ∧ ((ready Mode.standby id).dev.port (15 : ℕ)).state ≠ 3)) ∧
    (Awake (ready Mode.standby id) ∧ ((ready Mode.standby id).dev.port (15 : ℕ)).cmd = 0) ∧
    (Awake argScannerPortsHeadsAnswerJ2 ∧ (argScannerPortsHeadsAnswerJ2.dev.port (15 : ℕ)).cmd ≠ 0) ∧
    (Awake argScannerPortsHeadsAnswerK ∧ argScannerPortsHeadsAnswerK.dev.scn.ports.length = 16 ∧
     (argScannerPortsHeadsAnswerK.dev.port (15 : ℕ)).state = 2 ∧
     (argScannerPortsHeadsAnswerK.dev.port (15 : ℕ)).seen = true ∧
     (argScannerPortsHeadsAnswerK.dev.port (15 : ℕ)).enum = 2 ∧
     (argScannerPortsHeadsAnswerK.dev.port (15 : ℕ)).cmd = 0 ∧
     (argScannerPortsHeadsAnswerK.dev.mode.cur = Mode.standby ∨ argScannerPortsHeadsAnswerK.dev.mode.cur = Mode.hold)) ∧
    (Awake (ready Mode.standby id) ∧ (ready Mode.standby id).dev.scn.ports.length = 16 ∧
     ((ready Mode.standby id).dev.port (15 : ℕ)).enum ≠ 2) := by
  refine ⟨?_, ?_, ?_, ?_, ?_, ?_, ?_, ?_, ?_⟩ <;> decide +kernel

def jogS : State := st
  { calDev .standby with scn := { (calDev .standby).scn with ports := modAt (calDev .standby).scn.ports 0 (fun p => { p with state := 3 }) } }
def argScannerPortsPortCommandsL := { rq 0 0 100 with a2 := 200, a4 := 5 }
def chosen (b : Nat) : Bool := (0x8001).testBit b && (((ready .standby id).dev.port b).state == 2 || ((ready .standby
  id).dev.port b).state == 3)

/-- Commands and states that meet the hypotheses of `Obligations.ScannerPorts` (PortCommands), clause by
clause. -/
theorem wit_ScannerPorts_PortCommands :
    (Takes jogS 0x0521 cmdHeadJog argScannerPortsPortCommandsL ∧ jogS.dev.scn.ports.length = 16 ∧
     0 = argScannerPortsPortCommandsL.a0.get 0 5) ∧
    Takes (ready Mode.standby id) 0x0522 cmdHeadMoor (rq 0 32768 0) ∧
    (Takes (ready Mode.standby id) 0x0523 cmdPortSleep (rq 0 32769 1) ∧ (ready Mode.standby id).dev.scn.sleeps = [] ∧
     (ready Mode.standby id).dev.scn.ports.length = 16) ∧
    (Takes (ready Mode.standby id) 0x0523 cmdPortSleep (rq 0 32769 4) ∧ (ready Mode.standby id).dev.scn.sleeps = [] ∧
     (ready Mode.standby id).dev.scn.ports.length = 16) ∧
    (Takes (ready Mode.standby id) 0x0523 cmdPortSleep (rq 0 32769 2) ∧ (ready Mode.standby id).dev.scn.sleeps = [] ∧
     (ready Mode.standby id).dev.scn.ports.length = 16) ∧
    Takes (ready Mode.standby id) 0x0582 cmdPortQuery (rq 0 15 0) := by
  refine ⟨?_, ?_, ?_, ?_, ?_, ?_⟩ <;> decide +kernel

def ilkS (m : Mode) : State := st { dv m with scn := { (dv m).scn with ilk := true } }
def ilkOff (m : Mode) : State := st { dv m with scn := { (dv m).scn with ilk := false } }
def openD : Dev := let d := (dv .build).wr (LAS_CFG 15) 0x80000000; { d with scn := { d.scn with ilk := true, latch := false, ports := modAt d.scn.ports 15 (fun p => { p with state := 3, linkFault := false }) } }

/-- Commands and states that meet the hypotheses of `Obligations.InterlockAndEmission`, clause by
clause. -/
theorem wit_InterlockAndEmission :
    (Awake (ilkS Mode.build) ∧ (ilkS Mode.build).dev.scn.ilk = true ∧ (ilkS Mode.build).dev.exposing = true) ∧
    (Awake (ilkS Mode.standby) ∧ (ilkS Mode.standby).dev.scn.ilk = true ∧ (ilkS Mode.standby).dev.exposing = false) ∧
    (Awake (ilkOff Mode.standby) ∧ (ilkOff Mode.standby).dev.scn.ilk = false) ∧
    Awake (ilkOff Mode.standby) ∧
    openD.sluice 15 = true ∧
    ((ilkOff Mode.build).dev.gate = false ∧ (ilkOff Mode.build).dev.scn.lasers.length = 16 ∧ 15 < 16) ∧
    (Awake (at_ Mode.safe) ∧ (at_ Mode.safe).dev.mode.cur = Mode.safe) ∧
    (Awake (at_ Mode.build) ∧ (at_ Mode.build).dev.mode.cur ≠ Mode.safe) ∧
    (Awake (at_ Mode.build) ∧ (15 : ℕ) < nBeams (at_ Mode.build).dev.variant) ∧
    (Awake (st (on3 (devOf Variant.pq8 Mode.build))) ∧
     nBeams (st (on3 (devOf Variant.pq8 Mode.build))).dev.variant ≤ (15 : ℕ)) := by
  refine ⟨?_, ?_, ?_, ?_, ?_, ?_, ?_, ?_, ?_, ?_⟩ <;> decide +kernel

def camD (m : Mode) (p : Nat) (f : Cam → Cam) : Dev := (dv m).modCam p (fun c => f { c with on := true })
def hostT : HostTrig := ⟨none, 1, 0, 5000, none, 0⟩
def hostS : State := st (camD .standby 19 (fun c => { c with hosts := [hostT] }))
def schedS : State := st ((((camD .build 19 id).wr (VIS_PORT_TRIG 19) 0x80000000).wr (VIS_PORT_PERIOD 19) 100000).wr
  (VIS_PORT_PHASE 19) 7)
def argCameraFramesE2 := st { camD .build 16 id with flt := { (camD .build 16 id).flt with fenced := [camUnit 16] } }
def fr0 (b : Bool) : Frame := ⟨4, 100, 7, .build, b, false, false, false, false, false, []⟩
def frF : Frame := { fr0 true with rows := [[1, 2], [3, 4]] }
def frameOf (f : Frame) : State := st ((((camD .build 16 (fun c => { c with frame := some f })).wr (VIS_PORT_CFG 16)
  0x8000022B).wr (VIS_PORT_SIZE 16) 0x00020002).wr (VIS_PORT_TMO 16) 0x00640A05)
def frameS (b : Bool) : State := frameOf (fr0 b)
def argCameraFramesP := st (camD .build 16 (fun c => { c with unsol := true }))

/-- Commands and states that meet the hypotheses of `Obligations.CameraFrames`, clause by
clause. -/
theorem wit_CameraFrames :
    (Awake hostS ∧ (none = if hostS.dev.schedOn (19 : ℕ) = true then hostS.dev.schedNext (19 : ℕ) else none) ∧
     hostS.dev.hostNext (19 : ℕ) = some 5000 ∧ (∀ (t : ℕ), none = some t → 5000 ≤ t)) ∧
    (Awake schedS ∧
     ((if schedS.dev.schedOn (19 : ℕ) = true then schedS.dev.schedNext (19 : ℕ) else none) = some 112) ∧
     (∀ (h : ℕ), schedS.dev.hostNext (19 : ℕ) = some h → 112 < h)) ∧
    (Awake (at_ Mode.build) ∧
     (none = if (at_ Mode.build).dev.schedOn (19 : ℕ) = true then (at_ Mode.build).dev.schedNext (19 : ℕ) else none) ∧
     (at_ Mode.build).dev.hostNext (19 : ℕ) = none) ∧
    (19 < (camD Mode.build 19 id).vis.cams.length ∧ ((camD Mode.build 19 id).cam 19).tapReqs = []) ∧
    (Awake (st (devOf Variant.pq8 Mode.build)) ∧
     (visPresent (st (devOf Variant.pq8 Mode.build)).dev.variant (19 : ℕ) = false ∨ (st (devOf Variant.pq8 Mode.build)).dev.fencedUnit (camUnit (19 : ℕ)) = true)) ∧
    (Awake argCameraFramesE2 ∧
     (visPresent argCameraFramesE2.dev.variant (16 : ℕ) = false ∨ argCameraFramesE2.dev.fencedUnit (camUnit (16 : ℕ)) = true)) ∧
    (Awake (frameS true) ∧ visPresent (frameS true).dev.variant (16 : ℕ) = true ∧
     (frameS true).dev.fencedUnit (camUnit (16 : ℕ)) = false ∧ (frameS true).dev.vis.cams.length = 20 ∧
     ((frameS true).dev.cam (16 : ℕ)).frame = some (fr0 true)) ∧
    (Awake (frameS true) ∧ visPresent (frameS true).dev.variant (16 : ℕ) = true ∧
     (frameS true).dev.fencedUnit (camUnit (16 : ℕ)) = false ∧ (frameS true).dev.vis.cams.length = 20 ∧
     ((frameS true).dev.cam (16 : ℕ)).frame = some (fr0 true) ∧
     { vc := 0, dt := 43, hdrBad := false, crcBad := false, px := [1023, 1025] : CsiPacket }.vc = 0 ∧
     { vc := 0, dt := 43, hdrBad := false, crcBad := false, px := [1023, 1025] : CsiPacket }.dt = (frameS true).dev.fld (VIS_PORT_CFG (16 : ℕ)) 0 6 ∧
     { vc := 0, dt := 43, hdrBad := false, crcBad := false, px := [1023, 1025] : CsiPacket }.hdrBad = false ∧
     { vc := 0, dt := 43, hdrBad := false, crcBad := false, px := [1023, 1025] : CsiPacket }.crcBad = false) ∧
    (Awake (frameOf frF) ∧ visPresent (frameOf frF).dev.variant (16 : ℕ) = true ∧
     (frameOf frF).dev.fencedUnit (camUnit (16 : ℕ)) = false ∧ (frameOf frF).dev.vis.cams.length = 20 ∧
     ((frameOf frF).dev.cam (16 : ℕ)).frame = some frF ∧
     { vc := 0, dt := 43, hdrBad := false, crcBad := false, px := [1023, 1025] : CsiPacket }.vc = 0 ∧
     { vc := 0, dt := 43, hdrBad := false, crcBad := false, px := [1023, 1025] : CsiPacket }.dt = (frameOf frF).dev.fld (VIS_PORT_CFG (16 : ℕ)) 0 6 ∧
     { vc := 0, dt := 43, hdrBad := false, crcBad := false, px := [1023, 1025] : CsiPacket }.hdrBad = false ∧
     { vc := 0, dt := 43, hdrBad := false, crcBad := false, px := [1023, 1025] : CsiPacket }.crcBad = false) ∧
    (Awake (frameS true) ∧ visPresent (frameS true).dev.variant (16 : ℕ) = true ∧
     (frameS true).dev.fencedUnit (camUnit (16 : ℕ)) = false ∧ (frameS true).dev.vis.cams.length = 20 ∧
     ((frameS true).dev.cam (16 : ℕ)).frame = some (fr0 true) ∧
     ({ vc := 1, dt := 43, hdrBad := false, crcBad := false, px := [] : CsiPacket }.vc ≠ 0 ∨ { vc := 1, dt := 43, hdrBad := false, crcBad := false, px := [] : CsiPacket }.dt ≠ (frameS true).dev.fld (VIS_PORT_CFG (16 : ℕ)) 0 6 ∨ { vc := 1, dt := 43, hdrBad := false, crcBad := false, px := [] : CsiPacket }.hdrBad = true ∨ { vc := 1, dt := 43, hdrBad := false, crcBad := false, px := [] : CsiPacket }.crcBad = true)) ∧
    (Awake (frameS true) ∧ visPresent (frameS true).dev.variant (16 : ℕ) = true ∧
     (frameS true).dev.fencedUnit (camUnit (16 : ℕ)) = false ∧ (frameS true).dev.vis.cams.length = 20 ∧
     ((frameS true).dev.cam (16 : ℕ)).frame = some (fr0 true) ∧ ((frameS true).dev.cam (16 : ℕ)).unsol = false) ∧
    (Awake (frameS true) ∧ visPresent (frameS true).dev.variant (16 : ℕ) = true ∧
     (frameS true).dev.fencedUnit (camUnit (16 : ℕ)) = false ∧ (frameS true).dev.vis.cams.length = 20 ∧
     ((frameS true).dev.cam (16 : ℕ)).frame = some (fr0 true) ∧ (fr0 true).started = true) ∧
    (Awake (frameS false) ∧ visPresent (frameS false).dev.variant (16 : ℕ) = true ∧
     (frameS false).dev.fencedUnit (camUnit (16 : ℕ)) = false ∧ (frameS false).dev.vis.cams.length = 20 ∧
     ((frameS false).dev.cam (16 : ℕ)).frame = some (fr0 false) ∧ (fr0 false).started = false) ∧
    (Awake (st (camD Mode.build 16 id)) ∧ visPresent (st (camD Mode.build 16 id)).dev.variant (16 : ℕ) = true ∧
     (st (camD Mode.build 16 id)).dev.fencedUnit (camUnit (16 : ℕ)) = false ∧
     (st (camD Mode.build 16 id)).dev.vis.cams.length = 20 ∧
     ((st (camD Mode.build 16 id)).dev.cam (16 : ℕ)).frame = none ∧
     ((st (camD Mode.build 16 id)).dev.cam (16 : ℕ)).on = true) ∧
    (Awake (st (camD Mode.build 16 id)) ∧ visPresent (st (camD Mode.build 16 id)).dev.variant (16 : ℕ) = true ∧
     (st (camD Mode.build 16 id)).dev.fencedUnit (camUnit (16 : ℕ)) = false ∧
     (st (camD Mode.build 16 id)).dev.vis.cams.length = 20 ∧
     ((st (camD Mode.build 16 id)).dev.cam (16 : ℕ)).frame = none ∧
     ((st (camD Mode.build 16 id)).dev.cam (16 : ℕ)).on = true ∧
     ({ vc := 0, dt := 43, hdrBad := true, crcBad := false, px := [] : CsiPacket }.vc ≠ 0 ∨ { vc := 0, dt := 43, hdrBad := true, crcBad := false, px := [] : CsiPacket }.dt ≠ (st (camD Mode.build 16 id)).dev.fld (VIS_PORT_CFG (16 : ℕ)) 0 6 ∨ { vc := 0, dt := 43, hdrBad := true, crcBad := false, px := [] : CsiPacket }.hdrBad = true ∨ { vc := 0, dt := 43, hdrBad := true, crcBad := false, px := [] : CsiPacket }.crcBad = true)) ∧
    (Awake (st (camD Mode.build 16 id)) ∧ visPresent (st (camD Mode.build 16 id)).dev.variant (16 : ℕ) = true ∧
     (st (camD Mode.build 16 id)).dev.fencedUnit (camUnit (16 : ℕ)) = false ∧
     (st (camD Mode.build 16 id)).dev.vis.cams.length = 20 ∧
     ((st (camD Mode.build 16 id)).dev.cam (16 : ℕ)).frame = none) ∧
    (Awake argCameraFramesP ∧ visPresent argCameraFramesP.dev.variant (16 : ℕ) = true ∧
     argCameraFramesP.dev.fencedUnit (camUnit (16 : ℕ)) = false ∧ argCameraFramesP.dev.vis.cams.length = 20 ∧
     (argCameraFramesP.dev.cam (16 : ℕ)).unsol = true) ∧
    (Awake (st (camD Mode.build 16 id)) ∧ visPresent (st (camD Mode.build 16 id)).dev.variant (16 : ℕ) = true ∧
     (st (camD Mode.build 16 id)).dev.fencedUnit (camUnit (16 : ℕ)) = false ∧
     (st (camD Mode.build 16 id)).dev.vis.cams.length = 20) :=
  ⟨⟨by decide +kernel, by decide +kernel, by decide +kernel, (fun t ht => nomatch ht)⟩,
   ⟨by decide +kernel, by decide +kernel, (fun t ht => nomatch ht)⟩, by decide +kernel, by decide +kernel,
   by decide +kernel, by decide +kernel, by decide +kernel, by decide +kernel, by decide +kernel, by decide +kernel,
   by decide +kernel, by decide +kernel, by decide +kernel, by decide +kernel, by decide +kernel, by decide +kernel,
   by decide +kernel, by decide +kernel⟩

def job0 (b : Bool) : I2cJob := ⟨3, { rqD 0 3 1 8 with op := 0x0801 }, [[1, 0, 0, 0, 0, 0, 0, 0]], 1000, true, 5, b⟩
def jobS (b : Bool) : State := st
  { camD .build 3 id with vis := { (camD .build 3 id).vis with i2c := (camD .build 3 id).vis.i2c.set 3 [job0 b] } }
def jobMay (s : State) (c : Fin 4) (j : I2cJob) : Prop := j.started = false ∧ (s.dev.cam j.port).frame = none ∧
  s.dev.fencedUnit (18 + c) = false ∧ (j.hold = true ∨ ∀ t, s.dev.schedOn j.port = true → s.dev.schedNext j.port =
  some t → s.dev.tb3 + j.dur ≤ t)
def jobSched : State := st (((((jobS false).dev.modI2c 3 (fun _ => [{ job0 false with hold := false }])).wr
  (VIS_PORT_TRIG 3) 0x80000000).wr (VIS_PORT_PERIOD 3) 100000).wr (VIS_PORT_PHASE 3) 7)
def jobFrame : State := st ((jobS false).dev.modCam 3 (fun c => { c with frame := some (fr0 true) }))

/-- Commands and states that meet the hypotheses of `Obligations.CameraSettings`, clause by
clause. -/
theorem wit_CameraSettings :
    (Awake (at_ Mode.build) ∧ (at_ Mode.build).dev.vis.i2c.getD (3 : ℕ) [] = []) ∧
    (Awake (jobS false) ∧ (jobS false).dev.vis.i2c.getD (3 : ℕ) [] = [job0 false] ∧
     (jobS false).dev.vis.i2c.length = 4 ∧ jobMay (jobS false) 3 (job0 false)) ∧
    (Awake jobFrame ∧ jobFrame.dev.vis.i2c.getD (3 : ℕ) [] = [job0 false] ∧ jobFrame.dev.vis.i2c.length = 4 ∧
     (¬jobMay jobFrame 3 (job0 false))) ∧
    (Awake (jobS false) ∧ (jobS false).dev.vis.i2c.getD (3 : ℕ) [] = [job0 false] ∧
     (jobS false).dev.vis.i2c.length = 4 ∧
     ((job0 false).started = false ∨ (jobS false).dev.fencedUnit (18 + (3 : ℕ)) = true)) ∧
    (Awake (jobS true) ∧ (jobS true).dev.vis.i2c.getD (3 : ℕ) [] = [job0 true] ∧ (jobS true).dev.vis.i2c.length = 4 ∧
     (job0 true).started = true ∧ (jobS true).dev.fencedUnit (18 + (3 : ℕ)) = false) ∧
    (Awake (jobS true) ∧ (jobS true).dev.vis.i2c.getD (3 : ℕ) [] = [job0 true] ∧ (jobS true).dev.vis.i2c.length = 4 ∧
     (∀ i ∈ [job0 true], i.started = true)) ∧
    (Awake (jobS false) ∧ (jobS false).dev.vis.i2c.getD (3 : ℕ) [] = [job0 false] ∧
     (jobS false).dev.vis.i2c.length = 4 ∧ (List.find? (fun x => !x.started) [job0 false] = some (job0 false))) :=
  ⟨by decide +kernel,
   ⟨by decide +kernel, by decide +kernel, by decide +kernel, ⟨rfl, by decide +kernel, by decide +kernel, Or.inl rfl⟩⟩,
   ⟨by decide +kernel, by decide +kernel, by decide +kernel, (fun x => absurd x.2.1 (by decide +kernel))⟩,
   by decide +kernel, by decide +kernel, by decide +kernel, by decide +kernel⟩

def setS : State := st ((camD .build 3 id).wr (VIS_PORT_SIZE 3) 0x00020002)
def entB (off v : Nat) : List Byte := leBytes 4 off ++ leBytes 4 v
/-- The entries of a CAM_PIPE_SET as register offset and value, and as writes of a port's shadow registers. -/
def pipeList (b : List Byte) : List (Nat × Word) := (entriesOf 8 b).map (fun x => (bytesAt x 0 4, BitVec.ofNat 32
  (bytesAt x 4 4)))
def pipeWrites (p : Nat) (b : List Byte) : List (Nat × Word) := (pipeList b).map (fun x => (VIS_P_BLACK p + x.1, x.2
  &&& pipeMask x.1))
def noPoints : List (Nat × Nat) := []
def pq8S : State := st ((on3 (devOf .pq8 .build)).modCam 16 (fun c => { c with on := true }))

/-- Commands and states that meet the hypotheses of `Obligations.CameraSettings` (CameraLists), clause by
clause. -/
theorem wit_CameraSettings_CameraLists :
    (3 = (rqD 0 259 7 8).a0.get 0 5 ∧
     TakesData setS 0x0801 cmdCamSensorSet (rqD 0 259 7 8) (eD [16, 2, 0, 0, 0, 0, 0, 0]) ∧
     (∃ x ∈ entriesOf 8 (dataOf (rqD 0 259 7 8) (eD [16, 2, 0, 0, 0, 0, 0, 0])), 2 ≤ bytesAt x 1 1 % 4 ∨ 16 ≤ bytesAt x 1 1 ∨ 128 ≤ bytesAt x 0 1)) ∧
    (3 = (rqD 0 259 7 8).a0.get 0 5 ∧
     TakesData setS 0x0801 cmdCamSensorSet (rqD 0 259 7 8) (eD [16, 1, 0, 0, 0, 0, 0, 0]) ∧
     (∀ x ∈ entriesOf 8 (dataOf (rqD 0 259 7 8) (eD [16, 1, 0, 0, 0, 0, 0, 0])), bytesAt x 1 1 % 4 < 2 ∧ bytesAt x 1 1 < 16 ∧ bytesAt x 0 1 < 128)) ∧
    (3 = (rqD 0 3 7 8).a0.get 0 5 ∧ TakesData setS 0x0802 cmdCamPipeSet (rqD 0 3 7 8) (eD (entB 508 0x80000001)) ∧
     (∃ x ∈ pipeList (entB 508 0x80000001), (started setS 0x0802 (rqD 0 3 7 8)).pipeKind 3 x.1 = 0 ∨ x.1 = 20 ∧ 4096 < x.2.get 0 16 * x.2.get 16 16)) ∧
    (3 = (rqD 0 3 7 8).a0.get 0 5 ∧ TakesData setS 0x0802 cmdCamPipeSet (rqD 0 3 7 8) (eD (entB 20 0x10001)) ∧
     (∀ x ∈ pipeList (entB 20 0x10001), (started setS 0x0802 (rqD 0 3 7 8)).pipeKind 3 x.1 ≠ 0 ∧ (x.1 = 20 → x.2.get 0 16 * x.2.get 16 16 ≤ 4096)) ∧
     (∀ x ∈ pipeList (entB 20 0x10001), (started setS 0x0802 (rqD 0 3 7 8)).pipeKind 3 x.1 ≠ 2) ∧
     ((∃ x ∈ pipeList (entB 20 0x10001), x.1 = 16 ∨ x.1 = 20) → (started setS 0x0802 (rqD 0 3 7 8)).roiFits 3 (pipeWrites 3 (entB 20 0x10001)) = true)) ∧
    (3 = (rqD 0 3 7 8).a0.get 0 5 ∧ TakesData setS 0x0802 cmdCamPipeSet (rqD 0 3 7 8) (eD (entB 20 0x30001)) ∧
     (∀ x ∈ pipeList (entB 20 0x30001), (started setS 0x0802 (rqD 0 3 7 8)).pipeKind 3 x.1 ≠ 0 ∧ (x.1 = 20 → x.2.get 0 16 * x.2.get 16 16 ≤ 4096)) ∧
     (∀ x ∈ pipeList (entB 20 0x30001), (started setS 0x0802 (rqD 0 3 7 8)).pipeKind 3 x.1 ≠ 2) ∧
     (∃ x ∈ pipeList (entB 20 0x30001), x.1 = 16 ∨ x.1 = 20) ∧
     (started setS 0x0802 (rqD 0 3 7 8)).roiFits 3 (pipeWrites 3 (entB 20 0x30001)) = false) ∧
    (16 = (rqD 0 16 7 8).a0.get 0 5 ∧ TakesData pq8S 0x0802 cmdCamPipeSet (rqD 0 16 7 8) (eD (entB 24 1)) ∧
     (∀ x ∈ pipeList (entB 24 1), (started pq8S 0x0802 (rqD 0 16 7 8)).pipeKind 16 x.1 ≠ 0 ∧ (x.1 = 20 → x.2.get 0 16 * x.2.get 16 16 ≤ 4096)) ∧
     (∃ x ∈ pipeList (entB 24 1), (started pq8S 0x0802 (rqD 0 16 7 8)).pipeKind 16 x.1 = 2)) ∧
    (3 = (rqD 0 3 7 4).a0.get 0 5 ∧
     (TakesData setS 0x0803 cmdCamDefectLoad (rqD 0 3 7 4) (eD (leBytes 2 2 ++ leBytes 2 1)) ∧ [(2, 1)] = List.map (fun x => (bytesAt x 0 2, bytesAt x 2 2)) (entriesOf 4 (dataOf (rqD 0 3 7 4) (eD (leBytes 2 2 ++ leBytes 2 1)))) ∨ Takes setS 0x0803 cmdCamDefectLoad (rqD 0 3 7 4) ∧ [(2, 1)] = []) ∧
     (∃ x ∈ [(2, 1)], (started setS 0x0803 (rqD 0 3 7 4)).camWidth 3 ≤ x.1 ∨ (started setS 0x0803 (rqD 0 3 7 4)).camHeight 3 ≤ x.2)) ∧
    (3 = (rqD 0 3 7 4).a0.get 0 5 ∧
     (TakesData setS 0x0803 cmdCamDefectLoad (rqD 0 3 7 4) (eD (leBytes 2 1 ++ leBytes 2 1)) ∧ [(1, 1)] = List.map (fun x => (bytesAt x 0 2, bytesAt x 2 2)) (entriesOf 4 (dataOf (rqD 0 3 7 4) (eD (leBytes 2 1 ++ leBytes 2 1)))) ∨ Takes setS 0x0803 cmdCamDefectLoad (rqD 0 3 7 4) ∧ [(1, 1)] = []) ∧
     (∀ x ∈ [(1, 1)], x.1 < (started setS 0x0803 (rqD 0 3 7 4)).camWidth 3 ∧ x.2 < (started setS 0x0803 (rqD 0 3 7 4)).camHeight 3)) ∧
    (3 = (rqD 0 3 7 0).a0.get 0 5 ∧
     (TakesData setS 0x0803 cmdCamDefectLoad (rqD 0 3 7 0) e0 ∧ noPoints = List.map (fun x => (bytesAt x 0 2, bytesAt x 2 2)) (entriesOf 4 (dataOf (rqD 0 3 7 0) e0)) ∨ Takes setS 0x0803 cmdCamDefectLoad (rqD 0 3 7 0) ∧ noPoints = []) ∧
     (∀ x ∈ noPoints, x.1 < (started setS 0x0803 (rqD 0 3 7 0)).camWidth 3 ∧ x.2 < (started setS 0x0803 (rqD 0 3 7 0)).camHeight 3)) ∧
    (3 = (rqD 0 3 7 0).a0.get 0 5 ∧ 4 ≠ 3) :=
  ⟨by decide +kernel, by decide +kernel, by decide +kernel, by decide +kernel, by decide +kernel, by decide +kernel,
   ⟨by decide +kernel, (Or.inl ⟨by decide +kernel, rfl⟩), by decide +kernel⟩,
   ⟨by decide +kernel, (Or.inl ⟨by decide +kernel, rfl⟩), by decide +kernel⟩,
   ⟨by decide +kernel, (Or.inr ⟨by decide +kernel, rfl⟩), by decide +kernel⟩, by decide +kernel⟩

def argCameraSettingsCameraQueriesA := { rq 0 3 5 with a2 := 100 }
def argCameraSettingsCameraQueriesB := { rq 0 3 5 with a2 := 1, a3 := 1 }

/-- Commands and states that meet the hypotheses of `Obligations.CameraSettings` (CameraQueries), clause by
clause. -/
theorem wit_CameraSettings_CameraQueries :
    (3 = argCameraSettingsCameraQueriesA.a0.get 0 5 ∧
     Takes (st ((camD Mode.build 3 id).wr (VIS_PORT_TRIG 3) 0x40000000)) 2052 cmdCamTrigger argCameraSettingsCameraQueriesA) ∧
    (3 = argCameraSettingsCameraQueriesB.a0.get 0 5 ∧
     Takes setS 0x0805 cmdCamTapSet argCameraSettingsCameraQueriesB) ∧
    (3 = (rq 0 3 0).a0.get 0 5 ∧ Takes setS 0x0880 cmdCamQuery (rq 0 3 0)) ∧
    (3 = (rq 0 3 272).a0.get 0 5 ∧ Takes setS 0x0881 cmdCamI2cRead (rq 0 3 272)) := by
  refine ⟨?_, ?_, ?_, ?_⟩ <;> decide +kernel

def train (b : Bool) (m : Mode) : State := st
  { (dv m).modDram (fun r => { r with training := b }) with regs := ((dv m).wr DRAM_GEOM 0).regs }
def okTrain : DramTrain := ⟨none, false, List.replicate 20 5⟩
def badTrain : DramTrain := ⟨some (3, 4), true, List.replicate 20 5⟩
def mapS : State := train true .configure
def mapBad : State := st (mapS.dev.wr DRAM_BASIN_SIZE 1)
def ramS : State := st ((dv .build).wr DRAM_STATUS 3)

/-- Commands and states that meet the hypotheses of `Obligations.DramTrains`, clause by
clause. -/
theorem wit_DramTrains :
    (Up (train false Mode.configure) ∧ (train false Mode.configure).dev.mode.cur = Mode.configure ∧
     (train false Mode.configure).dev.dram.training = false) ∧
    ((at_ Mode.build).dev.mode.cur ≠ Mode.configure ∨ (at_ Mode.build).dev.dram.training = true) ∧
    (Awake mapS ∧ mapS.dev.dram.training = true ∧ okTrain.fail = none ∧ mapS.dev.mapOk = true) ∧
    (Awake mapBad ∧ mapBad.dev.dram.training = true ∧ okTrain.fail = none ∧ mapBad.dev.mapOk = false) ∧
    (Awake mapS ∧ mapS.dev.dram.training = true ∧ badTrain.fail = some (3, 4)) ∧
    (train false Mode.configure).dev.dram.training = false ∧
    (Awake ramS ∧ ramS.dev.rankRuns (0 : ℕ) = true) ∧
    (at_ Mode.build).dev.rankRuns (7 : ℕ) = false ∧
    (at_ Mode.build).dev.dramState < 3 ∧
    ((st (ramS.dev.wr DRAM_SCRUB 0)).dev.bit DRAM_SCRUB 31 = false ∨ (st (ramS.dev.wr DRAM_SCRUB 0)).dev.dramBytes ≤ 0) ∧
    (Awake ramS ∧ 3 ≤ ramS.dev.dramState) ∧
    (Awake (st (ramS.dev.wr DRAM_PWR 5)) ∧ (st (ramS.dev.wr DRAM_PWR 5)).dev.rankRuns (0 : ℕ) = true ∧
     (st (ramS.dev.wr DRAM_PWR 5)).dev.fld DRAM_PWR 0 16 ≠ 0 ∧
     (∀ w ∈ (st (ramS.dev.wr DRAM_PWR 5)).dev.dram.queue, ((st (ramS.dev.wr DRAM_PWR 5)).dev.dramLoc w.req.addr.toNat).rs ≠ (0 : ℕ))) ∧
    ((st (ramS.dev.wr DRAM_PWR 0)).dev.fld DRAM_PWR 0 16 = 0 ∨ ∃ w ∈ (st (ramS.dev.wr DRAM_PWR 0)).dev.dram.queue, ((st (ramS.dev.wr DRAM_PWR 0)).dev.dramLoc w.req.addr.toNat).rs = (0 : ℕ)) ∧
    (Awake (st (ramS.dev.wr DRAM_SCRUB 0x80000000)) ∧ 3 ≤ (st (ramS.dev.wr DRAM_SCRUB 0x80000000)).dev.dramState ∧
     (st (ramS.dev.wr DRAM_SCRUB 0x80000000)).dev.bit DRAM_SCRUB 31 = true ∧
     64 < (st (ramS.dev.wr DRAM_SCRUB 0x80000000)).dev.dramBytes) :=
  ⟨by decide +kernel, (Or.inl (by decide +kernel)), by decide +kernel, by decide +kernel, by decide +kernel,
   by decide +kernel, by decide +kernel, by decide +kernel, by decide +kernel, (Or.inl (by decide +kernel)),
   by decide +kernel, by decide +kernel, (Or.inl (by decide +kernel)), by decide +kernel⟩

def dreq (a : BitVec 36) (w : Bool) : DramReq := ⟨2, 0, a, if w then some [1, 2, 3] else none, .ledger, .clean,
  .clean⟩
def scOf : Fin 4 := Fin.ofNat 4 (ramS.dev.dramLoc 0x20000010).sc
def arrivedD : Dev := ramS.dev.modDram (fun r =>
  { r with queue := r.queue ++ [dreq 0x20000010 true, dreq 0x20000010 false].map (fun q => DramWait.mk q ramS.dev.tb3) })
def queued (reqs : List DramReq) : Dev := ramS.dev.modDram (fun r =>
  { r with queue := reqs.map (fun q => DramWait.mk q 0) })
def argDramServesE := queued [dreq 0x20000050 true, dreq 0x20000010 true, dreq 0x20000010 false]
def memX : List Host.Cell := [(0x20000011, 9), (0x20000020, 7)]

/-- Commands and states that meet the hypotheses of `Obligations.DramServes`, clause by
clause. -/
theorem wit_DramServes :
    (Awake ramS ∧ 3 ≤ ramS.dev.dramState ∧ arrivedD.dramPick (↑scOf : ℕ) = some (0, false)) ∧
    (Awake ramS ∧ 3 ≤ ramS.dev.dramState ∧
     ((ramS.dev.modDram fun r => { training := r.training, queue := r.queue ++ List.map (fun q => { req := q, at_ := ramS.dev.tb3 : DramWait }) [], open_ := r.open_, slot := r.slot, lastEng := r.lastEng, down := r.down, refUntil := r.refUntil, refAt := r.refAt : Dram }).dramPick (0 : ℕ) = none)) ∧
    (at_ Mode.build).dev.dramState < 3 ∧
    (queued [dreq 0x20000010 true]).dramPick (↑scOf : ℕ) = some (0, false) ∧
    (argDramServesE.dramPick (↑scOf : ℕ) = some (1, false) ∧
     argDramServesE.dram.queue[1]? = some { req := dreq 0x20000010 true, at_ := 0 : DramWait } ∧ 0 < 1 ∧
     argDramServesE.dram.queue[0]? = some { req := dreq 0x20000050 true, at_ := 0 : DramWait }) ∧
    (Memory.wf memX = true ∧
     (queued [dreq 0x20000010 true]).dram.queue[0]? = some { req := dreq 0x20000010 true, at_ := 0 : DramWait } ∧
     { req := dreq 0x20000010 true, at_ := 0 : DramWait }.req.data = some [1, 2, 3] ∧
     { req := dreq 0x20000010 true, at_ := 0 : DramWait }.req.addr.toNat % 64 + [1, 2, 3].length ≤ 64) ∧
    (Awake (st (queued [dreq 0x20000010 true])) ∧
     (List.findIdx? (fun v => ((st (queued [dreq 0x20000010 true])).dev.dramLoc v.req.addr.toNat).sc == (↑scOf : ℕ)) (st (queued [dreq 0x20000010 true])).dev.dram.queue = some 0) ∧
     (st (queued [dreq 0x20000010 true])).dev.dram.queue[0]? = some { req := dreq 0x20000010 true, at_ := 0 : DramWait }) ∧
    (∀ w ∈ (at_ Mode.build).dev.dram.queue, ((at_ Mode.build).dev.dramLoc w.req.addr.toNat).sc ≠ (↑scOf : ℕ)) := by
  refine ⟨?_, ?_, ?_, ?_, ?_, ?_, ?_, ?_⟩ <;> decide +kernel

def linkD (m : Mode) (f : BPort → BPort) : Dev := (dv m).modBport 1 (fun b => f
  { b with state := 2, peer := some (3, 0) })
def linkS (m : Mode) : State := st (linkD m id)
def topoM : TopoMsg := ⟨3, 0, none, [0], [], true, true, 0⟩
def argMembersJoinAndAreLostA := { topoM with direct := some 2 }
def argMembersJoinAndAreLostB := { topoM with dst := 5 }
def sent3 (ack : Bool) : Sent := ⟨3, 2, 48,
  { (default : WUnit) with layer := 9, barge := 3, idxs := [0], recs := [{ (default : Rec) with vecId := 2 }], lock := some 0 },
  ack, none, []⟩
def memberD (m : Mode) : Dev := let d := linkD m id; { d with members := [0, 3], keeper := { d.keeper with sent := [sent3 false] }, byf := { d.byf with inside := true, nodes := [⟨3, [0], [], true, true⟩] } }
def memberS (m : Mode) : State := st (memberD m)
def missed2 : Dev := { memberD .build with byf := { (memberD .build).byf with missed := [(3, 2)] } }

/-- Commands and states that meet the hypotheses of `Obligations.MembersJoinAndAreLost`, clause by
clause. -/
theorem wit_MembersJoinAndAreLost :
    (Awake (linkS Mode.standby) ∧ ((linkS Mode.standby).dev.bport (1 : ℕ)).state = 2 ∧
     (argMembersJoinAndAreLostA.direct.isSome = true ∨ (↑argMembersJoinAndAreLostA.dst : ℕ) = (linkS Mode.standby).dev.devId)) ∧
    (Awake (linkS Mode.standby) ∧ ((linkS Mode.standby).dev.bport (1 : ℕ)).state = 2 ∧
     argMembersJoinAndAreLostB.direct = none ∧
     (↑argMembersJoinAndAreLostB.dst : ℕ) ≠ (linkS Mode.standby).dev.devId) ∧
    ((linkS Mode.standby).dev.bport (2 : ℕ)).state ≠ 2 ∧
    ((linkD Mode.build id).byf.inside = false ∧ (linkD Mode.build id).mode.cur ≠ Mode.standby) ∧
    (3 < 8 ∧ 3 ≠ (linkD Mode.build id).devId) ∧
    (Awake (memberS Mode.build) ∧ (memberS Mode.build).dev.members.contains (3 : ℕ) = true) ∧
    (memberS Mode.build).dev.members.contains (2 : ℕ) = false ∧
    Awake (memberS Mode.build) ∧
    ((memberD Mode.build).bport 2).state ≠ 2 ∧
    ((memberD Mode.build).bport 1).state = 2 ∧
    1 < (memberD Mode.build).byf.ports.length ∧
    assocGet (memberD Mode.build).byf.missed 3 < 2 ∧
    2 ≤ assocGet missed2.byf.missed 3 :=
  ⟨⟨by decide +kernel, by decide +kernel, (Or.inl rfl)⟩, by decide +kernel, by decide +kernel, by decide +kernel,
   by decide +kernel, by decide +kernel, by decide +kernel, by decide +kernel, by decide +kernel, by decide +kernel,
   by decide +kernel, by decide +kernel, by decide +kernel⟩

def bothTrain : Dev := let d := (dv .standby).modBport 1 (fun b => { b with state := 1 }); { d with scn := { d.scn with ports := modAt d.scn.ports 7 (fun p => { p with state := 1 }) } }
def noTrain : Dev :=
  { linkD .standby id with scn := { (dv .standby).scn with ports := modAt (dv .standby).scn.ports 7 (fun p => { p with state := 3 }) } }
def retr : State := st
  { bothTrain with tb3 := 1000000000, byf := { bothTrain.byf with retrains := [(rq 0 2 0, [1], 0)] } }
def offPorts : State := st ((((dv .standby).modBport 0 (fun b => { b with state := 3 })).modBport 1 (fun b =>
  { b with state := 4 })))
def reD (r : Nat) : Dev := linkD .build (fun b =>
  { b with run := r, retryAt := some 0, last := some 5, sent := [⟨5, 0, 2, 3, 0, [1]⟩] })
def argPortsTrainAndReplayL2 := linkD .build (fun b =>
  { b with run := 3, retryAt := some 0, sent := [⟨5, 0, 2, 3, 0, [1]⟩] })

/-- Commands and states that meet the hypotheses of `Obligations.PortsTrainAndReplay`, clause by
clause. -/
theorem wit_PortsTrainAndReplay :
    (Awake (st bothTrain) ∧ ((st bothTrain).dev.bport (1 : ℕ)).state = 1 ∧ (st bothTrain).dev.byf.retrains = []) ∧
    (Awake (st bothTrain) ∧ ((st bothTrain).dev.port (7 : ℕ)).state = 1 ∧ (st bothTrain).dev.scn.ports.length = 16) ∧
    ((st noTrain).dev.bport (1 : ℕ)).state ≠ 1 ∧
    ((st noTrain).dev.port (7 : ℕ)).state ≠ 1 ∧
    (Awake (st bothTrain) ∧ ((st bothTrain).dev.port (7 : ℕ)).state = 1) ∧
    (Awake (st bothTrain) ∧ ((st bothTrain).dev.bport (1 : ℕ)).state = 1 ∧
     (∀ j ∈ (st bothTrain).dev.byf.retrains, (1 : ℕ) ∉ j.2.1 ∨ (st bothTrain).dev.tb3 < j.2.2 + 10 * perMs)) ∧
    (Awake retr ∧ (retr.dev.bport (1 : ℕ)).state = 1 ∧ retr.dev.byf.retrains = [(rq 0 2 0, [(1 : ℕ)], 0)] ∧
     0 + 10 * perMs ≤ retr.dev.tb3) ∧
    (Takes offPorts 0x0D01 cmdLinkRetrain (rq 0 2 0) ∧
     (List.filter (fun p => (offPorts.dev.bport p).state == 1 || (offPorts.dev.bport p).state == 2) (bitList 4 (BitVec.toNat (rq 0 2 0).a0)) = [])) ∧
    (Takes (st bothTrain) 0x0D01 cmdLinkRetrain (rq 0 2 0) ∧
     (List.filter (fun p => ((st bothTrain).dev.bport p).state == 1 || ((st bothTrain).dev.bport p).state == 2) (bitList 4 (BitVec.toNat (rq 0 2 0).a0)) ≠ [])) ∧
    (Awake (linkS Mode.build) ∧ ((linkS Mode.build).dev.bport (1 : ℕ)).state = 2) ∧
    ((linkS Mode.build).dev.bport (2 : ℕ)).state ≠ 2 ∧
    (1 < (reD 1).byf.ports.length ∧ ((reD 1).bport 1).state = 2 ∧
     (List.dropWhile (fun f => f.seq != 4) ((reD 1).bport 1).sent = [])) ∧
    (1 < argPortsTrainAndReplayL2.byf.ports.length ∧ (argPortsTrainAndReplayL2.bport 1).state = 2 ∧
     (List.dropWhile (fun f => f.seq != 5) (argPortsTrainAndReplayL2.bport 1).sent ≠ []) ∧
     (argPortsTrainAndReplayL2.bport 1).retryAt = some 0 ∧ argPortsTrainAndReplayL2.tb3 < 0 + 1000 * perMs ∧
     (argPortsTrainAndReplayL2.bport 1).last ≠ some 5) ∧
    (1 < (reD 6).byf.ports.length ∧ ((reD 6).bport 1).state = 2 ∧
     (List.dropWhile (fun f => f.seq != 5) ((reD 6).bport 1).sent ≠ []) ∧ ((reD 6).bport 1).retryAt = some 0 ∧
     (reD 6).tb3 < 0 + 1000 * perMs ∧ ((reD 6).bport 1).last = some 5 ∧ ((reD 6).bport 1).run < 7) ∧
    (1 < (reD 7).byf.ports.length ∧ ((reD 7).bport 1).state = 2 ∧
     (List.dropWhile (fun f => f.seq != 5) ((reD 7).bport 1).sent ≠ []) ∧ ((reD 7).bport 1).retryAt = some 0 ∧
     (reD 7).tb3 < 0 + 1000 * perMs ∧ ((reD 7).bport 1).last = some 5 ∧ ((reD 7).bport 1).run = 7) := by
  refine ⟨?_, ?_, ?_, ?_, ?_, ?_, ?_, ?_, ?_, ?_, ?_, ?_, ?_, ?_, ?_⟩ <;> decide +kernel

def memTimeD : Dev := { memberD .build with devId := 5, time := { (memberD .build).time with follows := true } }
def argMembersTellG := st { memTimeD with byf := { memTimeD.byf with inside := false } }
def fwd : FwdEvent := ⟨100, 20, 3, 0, [1, 2]⟩
def fwdMode : FwdEvent := ⟨100, 1, 0x20, 0, [3]⟩
def argMembersTellK3 := { fwd with flags := 1 }
def memRun : State := st
  { memberD .build with lay := (withLayers .build [{ lay0 9 with startReq := some (rq 1 9 0), startTick := some 0, started := true }]).lay }
def argMembersTellN := { lay0 9 with startReq := some (rq 1 9 0), startTick := some 0, started := true }

/-- Commands and states that meet the hypotheses of `Obligations.MembersTell`, clause by
clause. -/
theorem wit_MembersTell :
    (Awake (linkS Mode.build) ∧ (0 : ℕ) = (linkS Mode.build).dev.devId ∧
     ((linkS Mode.build).dev.bport (1 : ℕ)).state = 2 ∧ ((linkS Mode.build).dev.bport (1 : ℕ)).peer = some (3, 0)) ∧
    (Awake (memberS Mode.build) ∧ (0 : ℕ) = (memberS Mode.build).dev.devId ∧
     ((memberS Mode.build).dev.bport (1 : ℕ)).state = 2 ∧
     ((memberS Mode.build).dev.bport (1 : ℕ)).peer = some (3, 0) ∧ (memberS Mode.build).dev.byf.inside = true) ∧
    (Awake (memberS Mode.build) ∧ (0 : ℕ) = (memberS Mode.build).dev.devId ∧
     (((memberS Mode.build).dev.bport (2 : ℕ)).state ≠ 2 ∨ ((memberS Mode.build).dev.bport (2 : ℕ)).peer = none)) ∧
    (Awake (at_ Mode.build) ∧ (at_ Mode.build).dev.portPeers = []) ∧
    (Awake (linkS Mode.build) ∧ (linkS Mode.build).dev.portPeers = [3] ∧
     (linkS Mode.build).dev.master = (linkS Mode.build).dev.devId) ∧
    (Awake (st memTimeD) ∧ (st memTimeD).dev.time.follows = true ∧ (st memTimeD).dev.timePort = some (1 : ℕ) ∧
     (1 : ℕ) < nByoft (st memTimeD).dev.variant ∧ (st memTimeD).dev.byf.inside = true) ∧
    (Awake argMembersTellG ∧ argMembersTellG.dev.time.follows = true ∧ argMembersTellG.dev.timePort = some (1 : ℕ) ∧
     (1 : ℕ) < nByoft argMembersTellG.dev.variant ∧ argMembersTellG.dev.byf.inside = false) ∧
    ((at_ Mode.build).dev.time.follows = false ∨ (at_ Mode.build).dev.timePort ≠ some (1 : ℕ)) ∧
    (Awake (memberS Mode.build) ∧ (0 : ℕ) = (memberS Mode.build).dev.devId ∧
     (memberS Mode.build).dev.members.contains (3 : ℕ) = true) ∧
    (Awake (memberS Mode.build) ∧ (0 : ℕ) = (memberS Mode.build).dev.devId ∧
     (memberS Mode.build).dev.members.contains (3 : ℕ) = true ∧ fwd.flags.getLsbD 0 = false ∧
     (¬(fwd.src = 1 ∧ fwd.code = 32))) ∧
    (Awake (memberS Mode.build) ∧ (0 : ℕ) = (memberS Mode.build).dev.devId ∧
     (memberS Mode.build).dev.members.contains (3 : ℕ) = true ∧ fwdMode.flags.getLsbD 0 = false ∧ fwdMode.src = 1 ∧
     fwdMode.code = 32) ∧
    (Awake (memberS Mode.build) ∧ (0 : ℕ) = (memberS Mode.build).dev.devId ∧
     (memberS Mode.build).dev.members.contains (3 : ℕ) = true ∧ argMembersTellK3.flags.getLsbD 0 = true ∧
     (¬(argMembersTellK3.src = 1 ∧ argMembersTellK3.code = 32))) ∧
    (Awake (memberS Mode.build) ∧ (0 : ℕ) = (memberS Mode.build).dev.devId ∧
     (memberS Mode.build).dev.members.contains (3 : ℕ) = true ∧ (memberS Mode.build).dev.running = none) ∧
    (Awake memRun ∧ (0 : ℕ) = memRun.dev.devId ∧ memRun.dev.members.contains (3 : ℕ) = true ∧
     memRun.dev.running = some argMembersTellN) ∧
    ((0 : ℕ) = (memberS Mode.build).dev.devId ∧ (memberS Mode.build).dev.members.contains (2 : ℕ) = false) ∧
    (Awake (memberS Mode.build) ∧ (6 : ℕ) ≠ (memberS Mode.build).dev.devId ∧
     (memberS Mode.build).dev.byf.inside = true) ∧
    (Awake (linkS Mode.build) ∧ (6 : ℕ) ≠ (linkS Mode.build).dev.devId ∧ (linkS Mode.build).dev.byf.inside = false) :=
  ⟨by decide +kernel, by decide +kernel, ⟨by decide +kernel, by decide +kernel, (Or.inl (by decide +kernel))⟩,
   by decide +kernel, by decide +kernel, by decide +kernel, by decide +kernel, (Or.inl (by decide +kernel)),
   by decide +kernel, by decide +kernel, by decide +kernel, by decide +kernel, by decide +kernel, by decide +kernel,
   by decide +kernel, by decide +kernel, by decide +kernel⟩

def xa : XAssign := ⟨9, 3, 0, 0, 0, 0, 0, List.replicate 32 0, none, 0, 0, 0, 0, 5, 0⟩
def argWorkCrossesDevicesA2 := { xa with half := some 1 }
def xw : XWait := ⟨3, 2, 0, 0, 1, 50, none, 0⟩
def xrun : Run :=
  { (default : Run) with unit := (sent3 true).unit, tOn := 0, tOff := 16000 * 2 ^ 16, tEnd := 16000 * 2 ^ 16, start := 100 }
def xwS : State := st
  { withEng ((memberD .build).wr LK_PLUME_CFG 0) 0 (fun e => { e with runs := [xrun] }) with keeper := { (memberD .build).keeper with xwait := [xw], sent := [] } }
def memAck : State := st { memberD .build with keeper := { (memberD .build).keeper with sent := [sent3 true] } }
def xt : XTrack := ⟨2, 50, [(0, 0, true)], 0, 40⟩
def argWorkCrossesDevicesN2 := st { xwS.dev with keeper := { xwS.dev.keeper with xreqs := [] } }
def argWorkCrossesDevicesN1 := { xt with t := 60 }

/-- Commands and states that meet the hypotheses of `Obligations.WorkCrossesDevices`, clause by
clause. -/
theorem wit_WorkCrossesDevices :
    (Awake (memberS Mode.build) ∧ (0 : ℕ) = (memberS Mode.build).dev.devId ∧
     (memberS Mode.build).dev.members.contains (3 : ℕ) = true ∧ (memberS Mode.build).dev.mode.cur = Mode.build ∧
     (memberS Mode.build).dev.beamLive (↑xa.beam : ℕ) = true ∧
     (memberS Mode.build).dev.engineOf (↑xa.beam : ℕ) = some 0 ∧ xa.half = none) ∧
    (Awake (memberS Mode.build) ∧ (0 : ℕ) = (memberS Mode.build).dev.devId ∧
     (memberS Mode.build).dev.members.contains (3 : ℕ) = true ∧ (memberS Mode.build).dev.mode.cur = Mode.build ∧
     (memberS Mode.build).dev.beamLive (↑argWorkCrossesDevicesA2.beam : ℕ) = true ∧
     (memberS Mode.build).dev.engineOf (↑argWorkCrossesDevicesA2.beam : ℕ) = some 0 ∧
     argWorkCrossesDevicesA2.half ≠ none) ∧
    (Awake (memberS Mode.hold) ∧ (0 : ℕ) = (memberS Mode.hold).dev.devId ∧
     ((memberS Mode.hold).dev.members.contains (3 : ℕ) = false ∨ (memberS Mode.hold).dev.mode.cur ≠ Mode.build ∨ (memberS Mode.hold).dev.beamLive (↑xa.beam : ℕ) = false)) ∧
    (Awake (memberS Mode.build) ∧ (0 : ℕ) = (memberS Mode.build).dev.devId ∧
     (memberS Mode.build).dev.members.contains (2 : ℕ) = false) ∧
    (Awake (memberS Mode.build) ∧ (0 : ℕ) = (memberS Mode.build).dev.devId ∧
     (memberS Mode.build).dev.members.contains (3 : ℕ) = true ∧ (memberS Mode.build).dev.keeper.sent = [sent3 false] ∧
     (sent3 false).dev = (3 : ℕ) ∧ (sent3 false).vec = 2) ∧
    (Awake (memberS Mode.build) ∧ (memberS Mode.build).dev.keeper.sent = [sent3 false] ∧ (sent3 false).dev = (3 : ℕ) ∧
     (sent3 false).vec = 2 ∧ (sent3 false).acked = false ∧ (sent3 false).unit.lock = some 0) ∧
    (Awake xwS ∧ xwS.dev.keeper.sent = [] ∧ xwS.dev.keeper.xwait = [xw] ∧ xw.dev = (3 : ℕ) ∧ xw.vec = 2) ∧
    (Awake (at_ Mode.build) ∧ (at_ Mode.build).dev.keeper.sent = [] ∧ (at_ Mode.build).dev.keeper.xwait = []) ∧
    (Awake xwS ∧ (0 : ℕ) = xwS.dev.devId ∧ xwS.dev.keeper.sent = []) ∧
    (Awake memAck ∧ (0 : ℕ) = memAck.dev.devId ∧ memAck.dev.keeper.sent = [sent3 true] ∧ (sent3 true).dev = (3 : ℕ) ∧
     (((sent3 true).unit.recs.any fun r => r.vecId == 2) = true)) ∧
    (Awake memAck ∧ (0 : ℕ) = memAck.dev.devId ∧ memAck.dev.keeper.sent = [sent3 true] ∧ (sent3 true).dev = (3 : ℕ) ∧
     (((sent3 true).unit.recs.any fun r => r.vecId == 2) = true) ∧ (sent3 true).unit.recs.length = 1) ∧
    (Awake (memberS Mode.hold) ∧ (0 : ℕ) = (memberS Mode.hold).dev.devId ∧
     ((memberS Mode.hold).dev.members.contains (3 : ℕ) = false ∨ (memberS Mode.hold).dev.mode.cur ≠ Mode.build)) ∧
    (Awake (memberS Mode.build) ∧ (0 : ℕ) = (memberS Mode.build).dev.devId ∧
     (memberS Mode.build).dev.members.contains (3 : ℕ) = true ∧ (memberS Mode.build).dev.mode.cur = Mode.build ∧
     (memberS Mode.build).dev.keeper.xreqs = [] ∧ (memberS Mode.build).dev.mayAnswer (3 : ℕ) xt.t = true) ∧
    (Awake argWorkCrossesDevicesN2 ∧ (0 : ℕ) = argWorkCrossesDevicesN2.dev.devId ∧
     argWorkCrossesDevicesN2.dev.members.contains (3 : ℕ) = true ∧ argWorkCrossesDevicesN2.dev.mode.cur = Mode.build ∧
     argWorkCrossesDevicesN2.dev.keeper.xreqs = [] ∧
     argWorkCrossesDevicesN2.dev.mayAnswer (3 : ℕ) argWorkCrossesDevicesN1.t = false) ∧
    (Awake (st ((memberD Mode.build).wr LK_PLUME_CFG 0)) ∧
     (0 : ℕ) = (st ((memberD Mode.build).wr LK_PLUME_CFG 0)).dev.devId ∧
     (st ((memberD Mode.build).wr LK_PLUME_CFG 0)).dev.bit LK_PLUME_CFG 31 = false ∧ xt.revisit = 0) ∧
    (Awake (at_ Mode.build) ∧ (0 : ℕ) = (at_ Mode.build).dev.devId ∧ (at_ Mode.build).dev.keeper.xwait = []) ∧
    (Awake xwS ∧ (0 : ℕ) = xwS.dev.devId ∧ xwS.dev.keeper.xwait = [xw] ∧ xw.dev = (3 : ℕ) ∧ xw.vec = 2) :=
  ⟨by decide +kernel, by decide +kernel,
   ⟨by decide +kernel, by decide +kernel, (Or.inr (Or.inl (by decide +kernel)))⟩, by decide +kernel,
   by decide +kernel, by decide +kernel, by decide +kernel, by decide +kernel, by decide +kernel, by decide +kernel,
   by decide +kernel, ⟨by decide +kernel, by decide +kernel, (Or.inr (by decide +kernel))⟩, by decide +kernel,
   by decide +kernel, by decide +kernel, by decide +kernel, by decide +kernel⟩

def argWorkCrossesDevicesResidualsCrossS2 := st
  { memberD .build with resids := (dv .build).resids.set 5 ⟨true, 1, 2, 3, 4, true⟩ }

/-- Commands and states that meet the hypotheses of `Obligations.WorkCrossesDevices` (ResidualsCross), clause by
clause. -/
theorem wit_WorkCrossesDevices_ResidualsCross :
    (Awake (memberS Mode.build) ∧ (0 : ℕ) = (memberS Mode.build).dev.devId ∧
     (memberS Mode.build).dev.members.contains (2 : ℕ) = false) ∧
    (Awake (memberS Mode.build) ∧ (0 : ℕ) = (memberS Mode.build).dev.devId ∧
     (memberS Mode.build).dev.members.contains (3 : ℕ) = true) ∧
    (Awake argWorkCrossesDevicesResidualsCrossS2 ∧ (0 : ℕ) = argWorkCrossesDevicesResidualsCrossS2.dev.devId ∧
     argWorkCrossesDevicesResidualsCrossS2.dev.members.contains (3 : ℕ) = true ∧
     argWorkCrossesDevicesResidualsCrossS2.dev.resids[(5 : ℕ)]? = some { valid := true, max := 1, rms := 2, r2 := 3, r3 := 4, made := true : Resid }) ∧
    (Awake (memberS Mode.build) ∧ (0 : ℕ) = (memberS Mode.build).dev.devId ∧
     (memberS Mode.build).dev.members.contains (3 : ℕ) = true ∧ (memberS Mode.build).dev.probes = []) ∧
    (Awake (memberS Mode.build) ∧ (0 : ℕ) = (memberS Mode.build).dev.devId ∧
     (memberS Mode.build).dev.members.contains (3 : ℕ) = true ∧ (memberS Mode.build).dev.mode.cur ≠ Mode.calibrate) ∧
    (Awake (memberS Mode.calibrate) ∧ (0 : ℕ) = (memberS Mode.calibrate).dev.devId ∧
     (memberS Mode.calibrate).dev.members.contains (3 : ℕ) = true ∧
     (memberS Mode.calibrate).dev.mode.cur = Mode.calibrate) ∧
    Takes (memberS Mode.calibrate) 0x0D80 cmdLinkQuery (rq 0 0 0) ∧
    (Awake (memberS Mode.build) ∧ (6 : ℕ) ≠ (memberS Mode.build).dev.devId ∧
     (memberS Mode.build).dev.byf.inside = true) ∧
    (Awake (linkS Mode.build) ∧ (6 : ℕ) ≠ (linkS Mode.build).dev.devId ∧ (linkS Mode.build).dev.byf.inside = false) := by
  refine ⟨?_, ?_, ?_, ?_, ?_, ?_, ?_, ?_, ?_⟩ <;> decide +kernel

def laneD (m : Mode) (v : Word) : State := st ((dv m).wr (LT_CFG 17) v)
def burstS : State := st { (laneD .service 0x80000000).dev with scn := { (dv .service).scn with burst := [(17, 5)] } }
def tester : State := st ((linkD .service id).modByf (fun b => { b with tests := [(38, rq 0 38 8)] }))

/-- Commands and states that meet the hypotheses of `Obligations.LanesAreTested`, clause by
clause. -/
theorem wit_LanesAreTested :
    (Awake (laneD Mode.service 0x80000000) ∧ (laneD Mode.service 0x80000000).dev.bit (LT_CFG (17 : ℕ)) 31 = true) ∧
    (Awake (laneD Mode.service 0) ∧ (laneD Mode.service 0).dev.bit (LT_CFG (17 : ℕ)) 31 = false) ∧
    (Up (laneD Mode.service 0x80000000) ∧ lanePresent (laneD Mode.service 0x80000000).dev.variant (17 : ℕ) = true ∧
     (laneD Mode.service 0x80000000).dev.bit (LT_CFG (17 : ℕ)) 31 = true ∧
     (((laneD Mode.service 0x80000000).dev.scn.burst.any fun b => b.1 == (17 : ℕ) && Decidable.decide ((laneD Mode.service 0x80000000).dev.tb3 < b.2)) = false)) ∧
    (lanePresent burstS.dev.variant (17 : ℕ) = false ∨ burstS.dev.bit (LT_CFG (17 : ℕ)) 31 = false ∨ (burstS.dev.scn.burst.any fun b => b.1 == (17 : ℕ) && Decidable.decide (burstS.dev.tb3 < b.2)) = true) ∧
    lanePresent (st (devOf Variant.pq8 Mode.service)).dev.variant (15 : ℕ) = false ∧
    (Up (laneD Mode.configure 0) ∧ lanePresent (laneD Mode.configure 0).dev.variant (17 : ℕ) = true ∧
     (laneD Mode.configure 0).dev.mode.cur = Mode.configure) ∧
    (Up (laneD Mode.service 0) ∧ lanePresent (laneD Mode.service 0).dev.variant (17 : ℕ) = true ∧
     (laneD Mode.service 0).dev.mode.cur ≠ Mode.configure) ∧
    (Awake (linkS Mode.build) ∧ ((linkS Mode.build).dev.bport (2 : ℕ)).state ≠ 2) ∧
    (Awake (linkS Mode.build) ∧ ((linkS Mode.build).dev.bport (1 : ℕ)).state = 2 ∧
     (linkS Mode.build).dev.mode.cur ≠ Mode.service) ∧
    (Awake (linkS Mode.service) ∧ ((linkS Mode.service).dev.bport (1 : ℕ)).state = 2 ∧
     (linkS Mode.service).dev.mode.cur = Mode.service) ∧
    (Awake (linkS Mode.service) ∧ (linkS Mode.service).dev.byf.tests = []) ∧
    (Awake tester ∧ tester.dev.byf.tests = [(38, rq 0 38 8)] ∧ laneByf 38 = ((1 : ℕ), (2 : ℕ))) ∧
    (Takes (at_ Mode.service) 0x0C30 cmdLaneTest (rq 0 17 12) ∧
     ((rq 0 17 12).a1.bit 3 && !(rq 0 17 12).a1.bit 2 && Decidable.decide (32 ≤ (rq 0 17 12).a0.get 0 6)) = false) ∧
    (Takes (linkS Mode.service) 0x0C30 cmdLaneTest (rq 0 38 8) ∧
     ((rq 0 38 8).a1.bit 3 && !(rq 0 38 8).a1.bit 2 && Decidable.decide (32 ≤ (rq 0 38 8).a0.get 0 6)) = true) :=
  ⟨by decide +kernel, by decide +kernel, by decide +kernel, (Or.inr (Or.inr (by decide +kernel))), by decide +kernel,
   by decide +kernel, by decide +kernel, by decide +kernel, by decide +kernel, by decide +kernel, by decide +kernel,
   by decide +kernel, by decide +kernel, by decide +kernel⟩

def apart (m : Mode) (t : Nat) : State := st { dv m with time := { (dv m).time with tb1 := t } }
def alone : State := st { (apart .standby 1000000000000).dev with members := [] }
def joined : State := st { (apart .standby 1000000000000).dev with members := [0, 3] }
def argTimeBasesG := st { dv .build with time := { (dv .build).time with follows := true } }
def stepS : State := st { dv .standby with time := { (dv .standby).time with stepAt := some (100, -50) } }
def tb3S : State := st { dv .build with tb3 := 500 }
def argTimeBasesO := { rq 0 500 0xFFFFFFFF with a2 := 9 }

/-- Commands and states that meet the hypotheses of `Obligations.TimeBases`, clause by
clause. -/
theorem wit_TimeBases :
    (dv Mode.build).time.tb1 + ((dv Mode.build).time.rem1 + 640 * (dv Mode.build).rate1) / 2 ^ 41 < 2 ^ 64 ∧
    (2 ≤ (apart Mode.build 0).dev.mode.boot ∧ (apart Mode.build 0).dev.refCycle.endStops.time.follows = false ∧
     ((apart Mode.build 0).dev.refCycle.endStops.stepWindow = false ∨ (apart Mode.build 0).dev.refCycle.endStops.members ≠ [] ∧ true = false) ∧
     ((↑(apart Mode.build 0).dev.refCycle.endStops.time.tb1 : ℤ) - (↑(apart Mode.build 0).dev.refCycle.endStops.tb3 : ℤ)).natAbs ≤ BitVec.toNat ((apart Mode.build 0).dev.refCycle.endStops.rd TIME_LOCK_LIM) * 16) ∧
    (2 ≤ (apart Mode.build 1000000).dev.mode.boot ∧
     (apart Mode.build 1000000).dev.refCycle.endStops.time.follows = false ∧
     ((apart Mode.build 1000000).dev.refCycle.endStops.stepWindow = false ∨ (apart Mode.build 1000000).dev.refCycle.endStops.members ≠ [] ∧ true = false) ∧
     BitVec.toNat ((apart Mode.build 1000000).dev.refCycle.endStops.rd TIME_LOCK_LIM) * 16 < ((↑(apart Mode.build 1000000).dev.refCycle.endStops.time.tb1 : ℤ) - (↑(apart Mode.build 1000000).dev.refCycle.endStops.tb3 : ℤ)).natAbs ∧
     (apart Mode.build 1000000).dev.refCycle.endStops.time.apart = false) ∧
    (2 ≤ (apart Mode.standby 100).dev.mode.boot ∧
     (apart Mode.standby 100).dev.refCycle.endStops.time.follows = false ∧
     (apart Mode.standby 100).dev.refCycle.endStops.stepWindow = true ∧
     ((apart Mode.standby 100).dev.refCycle.endStops.members = [] ∨ true = true) ∧
     ((↑(apart Mode.standby 100).dev.refCycle.endStops.time.tb1 : ℤ) - (↑(apart Mode.standby 100).dev.refCycle.endStops.tb3 : ℤ)).natAbs ≤ BitVec.toNat ((apart Mode.standby 100).dev.refCycle.endStops.rd TIME_STEP_LIM) * 16) ∧
    (2 ≤ alone.dev.mode.boot ∧ alone.dev.refCycle.endStops.time.follows = false ∧
     alone.dev.refCycle.endStops.stepWindow = true ∧
     BitVec.toNat (alone.dev.refCycle.endStops.rd TIME_STEP_LIM) * 16 < ((↑alone.dev.refCycle.endStops.time.tb1 : ℤ) - (↑alone.dev.refCycle.endStops.tb3 : ℤ)).natAbs ∧
     divRound ((↑alone.dev.refCycle.endStops.time.tb1 : ℤ) - (↑alone.dev.refCycle.endStops.tb3 : ℤ)) 8000 ≠ 0 ∧
     alone.dev.refCycle.endStops.time.stepAt = none ∧ alone.dev.refCycle.endStops.members = []) ∧
    (2 ≤ joined.dev.mode.boot ∧ joined.dev.refCycle.endStops.time.follows = false ∧
     joined.dev.refCycle.endStops.stepWindow = true ∧
     BitVec.toNat (joined.dev.refCycle.endStops.rd TIME_STEP_LIM) * 16 < ((↑joined.dev.refCycle.endStops.time.tb1 : ℤ) - (↑joined.dev.refCycle.endStops.tb3 : ℤ)).natAbs ∧
     divRound ((↑joined.dev.refCycle.endStops.time.tb1 : ℤ) - (↑joined.dev.refCycle.endStops.tb3 : ℤ)) 8000 ≠ 0 ∧
     joined.dev.refCycle.endStops.time.stepAt = none ∧ joined.dev.refCycle.endStops.members ≠ []) ∧
    (2 ≤ argTimeBasesG.dev.mode.boot ∧ argTimeBasesG.dev.refCycle.endStops.time.follows = true) ∧
    State.reset.dev.mode.boot < 2 ∧
    (Awake stepS ∧ stepS.dev.time.stepAt = some (100, -50)) ∧
    (at_ Mode.build).dev.time.stepAt = none ∧
    0 ≤ (↑(dv Mode.build).tb3 : ℤ) + 50 ∧
    Up (apart Mode.build 77) ∧
    (Takes (at_ Mode.build) 0x0901 cmdTimeBuildStart (rq 0 500 0) ∧
     (at_ Mode.build).dev.tb3 < BitVec.toNat (rq 0 500 0).a0 + BitVec.toNat (rq 0 500 0).a1 * 2 ^ 32) ∧
    (Takes tb3S 0x0901 cmdTimeBuildStart (rq 0 500 0) ∧
     (BitVec.toNat (rq 0 500 0).a0 + BitVec.toNat (rq 0 500 0).a1 * 2 ^ 32 = tb3S.dev.tb3 ∨ BitVec.toNat (rq 0 500 0).a0 + BitVec.toNat (rq 0 500 0).a1 * 2 ^ 32 = 0)) ∧
    Takes (at_ Mode.build) 0x0904 cmdTimeTb1Set argTimeBasesO ∧
    Takes (at_ Mode.build) 0x0980 cmdTimeQuery (rqR 0 0 0 32) ∧
    (TakesData (at_ Mode.standby) 0x0905 cmdPtpAddrSet (rqD 0 0 0 64) (eD (List.replicate 64 0)) ∧
     allZero (List.take 12 (List.drop 20 (List.take 64 (dataOf (rqD 0 0 0 64) (eD (List.replicate 64 0)))))) = true ∧
     allZero (List.take 12 (List.drop 52 (List.take 64 (dataOf (rqD 0 0 0 64) (eD (List.replicate 64 0)))))) = true) ∧
    (TakesData (at_ Mode.standby) 0x0905 cmdPtpAddrSet (rqD 0 0 0 64) (eD (List.replicate 64 1)) ∧
     (allZero (List.take 12 (List.drop 20 (List.take 64 (dataOf (rqD 0 0 0 64) (eD (List.replicate 64 1)))))) = false ∨ allZero (List.take 12 (List.drop 52 (List.take 64 (dataOf (rqD 0 0 0 64) (eD (List.replicate 64 1)))))) = false)) :=
  ⟨by decide +kernel, by decide +kernel, by decide +kernel, by decide +kernel, by decide +kernel, by decide +kernel,
   by decide +kernel, by decide +kernel, by decide +kernel, by decide +kernel, by decide +kernel, by decide +kernel,
   by decide +kernel, ⟨by decide +kernel, (Or.inl (by decide +kernel))⟩, by decide +kernel, by decide +kernel,
   by decide +kernel, ⟨by decide +kernel, (Or.inl (by decide +kernel))⟩⟩

def ptpD (x : TimeCtl → TimeCtl) (w : Word) : Dev :=
  { ((dv .build).wr TIME_CFG 0x80050000).wr TIME_STATUS w with time := x (dv .build).time }
def sync0 : PtpSync := ⟨1, 5, 77, 1, 1, 1, 1, 100, 50, 0, true, true⟩
def ownS : State := st (((ptpD id 0x08000000).wr TIME_CFG 0xC0050000).wr TIME_PTP_GM 0)
def argNetworkTimeD := st (ptpD (fun c => { c with gm := some 5 }) 0x08000000)
def good15 : Dev := (ptpD (fun c => { c with good := 15, gm := some 77, tb1 := 1600000000051 }) 0x48000000).wr
  TIME_STEP_LIM 0
def argNetworkTimeI := st (ptpD (fun c => { c with settle := true }) 0xC0000000)
def argNetworkTimeK2 := st (((ptpD id 0x08000000).wr TIME_CFG 0x81000000).wr (TIME_ETH_STATUS 0) 0x80000000)
def addrS : State := st
  { dv .build with time := { (dv .build).time with addrs := List.replicate 32 1 ++ [10, 0, 0, 7] ++ List.replicate 28 9 } }

/-- Commands and states that meet the hypotheses of `Obligations.NetworkTime`, clause by
clause. -/
theorem wit_NetworkTime :
    (Awake (at_ Mode.build) ∧
     (((at_ Mode.build).dev.ethUp (↑sync0.port : ℕ) sync0.fast).ptpRuns = false ∨ (↑sync0.port : ℕ) ≠ ((at_ Mode.build).dev.ethUp (↑sync0.port : ℕ) sync0.fast).fld TIME_STATUS 27 1 ∨ sync0.domain.toNat ≠ ((at_ Mode.build).dev.ethUp (↑sync0.port : ℕ) sync0.fast).fld TIME_CFG 16 8 ∨ sync0.followUp = false)) ∧
    (Awake ownS ∧ (ownS.dev.ethUp (↑sync0.port : ℕ) sync0.fast).ptpRuns = true ∧
     (↑sync0.port : ℕ) = (ownS.dev.ethUp (↑sync0.port : ℕ) sync0.fast).fld TIME_STATUS 27 1 ∧
     sync0.domain.toNat = (ownS.dev.ethUp (↑sync0.port : ℕ) sync0.fast).fld TIME_CFG 16 8 ∧ sync0.followUp = true ∧
     (ownS.dev.ethUp (↑sync0.port : ℕ) sync0.fast).bit TIME_CFG 30 = true ∧
     (ownS.dev.ethUp (↑sync0.port : ℕ) sync0.fast).ownBetter sync0 = true) ∧
    (Awake (st (ptpD id 0x8000000)) ∧
     ((st (ptpD id 0x8000000)).dev.ethUp (↑sync0.port : ℕ) sync0.fast).ptpRuns = true ∧
     (↑sync0.port : ℕ) = ((st (ptpD id 0x8000000)).dev.ethUp (↑sync0.port : ℕ) sync0.fast).fld TIME_STATUS 27 1 ∧
     sync0.domain.toNat = ((st (ptpD id 0x8000000)).dev.ethUp (↑sync0.port : ℕ) sync0.fast).fld TIME_CFG 16 8 ∧
     sync0.followUp = true ∧
     (((st (ptpD id 0x8000000)).dev.ethUp (↑sync0.port : ℕ) sync0.fast).bit TIME_CFG 30 = false ∨ ((st (ptpD id 0x8000000)).dev.ethUp (↑sync0.port : ℕ) sync0.fast).ownBetter sync0 = false) ∧
     (((st (ptpD id 0x8000000)).dev.ethUp (↑sync0.port : ℕ) sync0.fast).time.gm = none ∨ ((st (ptpD id 0x8000000)).dev.ethUp (↑sync0.port : ℕ) sync0.fast).time.gm = some (BitVec.toNat sync0.gm))) ∧
    (Awake argNetworkTimeD ∧ (argNetworkTimeD.dev.ethUp (↑sync0.port : ℕ) sync0.fast).ptpRuns = true ∧
     (↑sync0.port : ℕ) = (argNetworkTimeD.dev.ethUp (↑sync0.port : ℕ) sync0.fast).fld TIME_STATUS 27 1 ∧
     sync0.domain.toNat = (argNetworkTimeD.dev.ethUp (↑sync0.port : ℕ) sync0.fast).fld TIME_CFG 16 8 ∧
     sync0.followUp = true ∧
     ((argNetworkTimeD.dev.ethUp (↑sync0.port : ℕ) sync0.fast).bit TIME_CFG 30 = false ∨ (argNetworkTimeD.dev.ethUp (↑sync0.port : ℕ) sync0.fast).ownBetter sync0 = false) ∧
     (argNetworkTimeD.dev.ethUp (↑sync0.port : ℕ) sync0.fast).time.gm = some 5 ∧ 5 ≠ BitVec.toNat sync0.gm) ∧
    ((good15.syncIn sync0).tb1State = 2 ∧ good15.tb1State ≠ 2) ∧
    (Awake (at_ Mode.build) ∧ (at_ Mode.build).dev.ptpRuns = false) ∧
    (Awake (st (ptpD id 0x80000000)) ∧ (st (ptpD id 0x80000000)).dev.ptpRuns = true ∧
     (st (ptpD id 0x80000000)).dev.bit TIME_CFG 30 = false ∧
     ((st (ptpD id 0x80000000)).dev.tb1State = 1 ∨ (st (ptpD id 0x80000000)).dev.tb1State = 2)) ∧
    (Awake (st (ptpD id 0xC0000000)) ∧ (st (ptpD id 0xC0000000)).dev.ptpRuns = true ∧
     (st (ptpD id 0xC0000000)).dev.bit TIME_CFG 30 = false ∧
     ((st (ptpD id 0xC0000000)).dev.tb1State = 0 ∨ (st (ptpD id 0xC0000000)).dev.tb1State = 3)) ∧
    (Awake (st ((ptpD id 0x80000000).wr TIME_CFG 0xC0000000)) ∧
     (st ((ptpD id 0x80000000).wr TIME_CFG 0xC0000000)).dev.ptpRuns = true ∧
     (st ((ptpD id 0x80000000).wr TIME_CFG 0xC0000000)).dev.bit TIME_CFG 30 = true ∧
     ((st ((ptpD id 0x80000000).wr TIME_CFG 0xC0000000)).dev.tb1State = 1 ∨ (st ((ptpD id 0x80000000).wr TIME_CFG 0xC0000000)).dev.tb1State = 2)) ∧
    (ptpD id 0x80000000).tb1State = 2 ∧
    (Awake argNetworkTimeI ∧ argNetworkTimeI.dev.time.settle = true ∧ argNetworkTimeI.dev.tb1State = 3) ∧
    ((at_ Mode.build).dev.time.settle = false ∨ (at_ Mode.build).dev.tb1State ≠ 3) ∧
    (Awake (st (ptpD id 0)) ∧ 0 = 1 - (1 : ℕ) ∧
     ((st (ptpD id 0)).dev.ptpRuns = false ∨ (st (ptpD id 0)).dev.bit TIME_CFG 24 = false ∨ (st (ptpD id 0)).dev.fld TIME_STATUS 27 1 ≠ (1 : ℕ) ∨ (st (ptpD id 0)).dev.bit (TIME_ETH_STATUS 0) 31 = false)) ∧
    (Awake argNetworkTimeK2 ∧ 0 = 1 - (1 : ℕ) ∧ argNetworkTimeK2.dev.ptpRuns = true ∧
     argNetworkTimeK2.dev.bit TIME_CFG 24 = true ∧ argNetworkTimeK2.dev.fld TIME_STATUS 27 1 = (1 : ℕ) ∧
     argNetworkTimeK2.dev.bit (TIME_ETH_STATUS 0) 31 = true) ∧
    (Awake (at_ Mode.build) ∧
     ((at_ Mode.build).dev.mode.fwSup = false ∨ { arp := none, nd := none, fast := true : EthFrame }.arp = none ∧ { arp := none, nd := none, fast := true : EthFrame }.nd = none)) ∧
    (Awake addrS ∧ addrS.dev.mode.fwSup = true ∧
     { arp := some [10, 0, 0, 7], nd := none, fast := true : EthFrame }.arp = some [10, 0, 0, 7] ∧
     [10, 0, 0, 7] = List.take 4 (List.drop (32 * (1 : ℕ)) addrS.dev.time.addrs) ∧ allZero [10, 0, 0, 7] = false) ∧
    (Awake addrS ∧ addrS.dev.mode.fwSup = true ∧
     { arp := none, nd := some (List.replicate 16 9), fast := true : EthFrame }.arp = none ∧
     { arp := none, nd := some (List.replicate 16 9), fast := true : EthFrame }.nd = some (List.replicate 16 9) ∧
     List.replicate 16 9 = List.take 16 (List.drop 4 (List.drop (32 * (1 : ℕ)) addrS.dev.time.addrs)) ∧
     allZero (List.replicate 16 9) = false) ∧
    (Awake (st ((ptpD id 0x4000000).wr TIME_CFG 0x90000000)) ∧
     (st ((ptpD id 0x4000000).wr TIME_CFG 0x90000000)).dev.ptpRuns = true ∧
     (st ((ptpD id 0x4000000).wr TIME_CFG 0x90000000)).dev.bit TIME_STATUS 26 = true) ∧
    (Awake (st (ptpD id 0x88000000)) ∧ (st (ptpD id 0x88000000)).dev.ptpRuns = true ∧
     (st (ptpD id 0x88000000)).dev.bit TIME_STATUS 26 = false ∧
     ((st (ptpD id 0x88000000)).dev.tb1State = 1 ∨ (st (ptpD id 0x88000000)).dev.tb1State = 2)) ∧
    (Awake (st (ptpD id 0)) ∧ (st (ptpD id 0)).dev.ptpRuns = true ∧ (st (ptpD id 0)).dev.bit TIME_STATUS 26 = false ∧
     ((st (ptpD id 0)).dev.tb1State = 0 ∨ (st (ptpD id 0)).dev.tb1State = 3)) :=
  ⟨⟨by decide +kernel, (Or.inl (by decide +kernel))⟩, by decide +kernel,
   ⟨by decide +kernel, by decide +kernel, by decide +kernel, by decide +kernel, by decide +kernel, (Or.inl (by decide +kernel)), (Or.inl (by decide +kernel))⟩,
   ⟨by decide +kernel, by decide +kernel, by decide +kernel, by decide +kernel, by decide +kernel, (Or.inl (by decide +kernel)), by decide +kernel, by decide +kernel⟩,
   by decide +kernel, by decide +kernel,
   ⟨by decide +kernel, by decide +kernel, by decide +kernel, (Or.inr (by decide +kernel))⟩,
   ⟨by decide +kernel, by decide +kernel, by decide +kernel, (Or.inr (by decide +kernel))⟩,
   ⟨by decide +kernel, by decide +kernel, by decide +kernel, (Or.inr (by decide +kernel))⟩, by decide +kernel,
   by decide +kernel, (Or.inl (by decide +kernel)),
   ⟨by decide +kernel, by decide +kernel, (Or.inr (Or.inl (by decide +kernel)))⟩, by decide +kernel,
   ⟨by decide +kernel, (Or.inr (by decide +kernel))⟩, by decide +kernel, by decide +kernel, by decide +kernel,
   ⟨by decide +kernel, by decide +kernel, by decide +kernel, (Or.inr (by decide +kernel))⟩,
   ⟨by decide +kernel, by decide +kernel, by decide +kernel, (Or.inl (by decide +kernel))⟩⟩

def armQ (per : Word) (v : Word) : Req :=
  { rq 0 (per * 0x100 + 0x33) v with a3 := if per = 0 then 0 else 100, a4 := 10 }
def armed : State := st
  ({ dv .build with time := { (dv .build).time with outs := modAt (dv .build).time.outs 3 (fun o => { o with next := 500, width := 160, period := 1600 }) } }.wr
  (TIME_TOUT_CFG 3) 0xE3000000)
def capD (v : Word) (c : Option Nat) : State := st
  ({ dv .build with time := { (dv .build).time with caps := (dv .build).time.caps.set 7 c } }.wr (TIME_TCAP_CFG 7) v)
def capTakes (s : State) (i : Fin 8) (rising : Bool) (sub : Nat) : Prop := ((s.dev.advanceTo (s.dev.tb3 + sub)).fld
  (TIME_TCAP_CFG i) 0 2).testBit (if rising then 0 else 1) = true
def capSoon (s : State) (i : Fin 8) (sub : Nat) : Prop := 64 ≤ ((s.dev.advanceTo (s.dev.tb3 + sub)).rcd.waiting.filter
  (fun (x : Event) => x.src == 35 && x.dev == (s.dev.advanceTo (s.dev.tb3 + sub)).devId)).length ∨ ∃ t,
  (s.dev.advanceTo (s.dev.tb3 + sub)).time.caps.getD i none = some t ∧ (s.dev.advanceTo (s.dev.tb3 + sub)).tb0 < t +
  1600
theorem notSoon : ¬ capSoon (capD 3 none) 7 159 := by
  rintro (h | ⟨t, h, _⟩)
  · revert h; decide +kernel
  · revert h; rw [show ((capD 3 none).dev.advanceTo ((capD 3 none).dev.tb3 + 159)).time.caps.getD (7 : Fin 8) none = none by decide +kernel]; simp

/-- Commands and states that meet the hypotheses of `Obligations.OutputsAndCaptures`, clause by
clause. -/
theorem wit_OutputsAndCaptures :
    (Takes tb3S 0x0902 cmdTimeToutArm (armQ 1 500) ∧ 3 = (armQ 1 500).a0.get 0 3 ∧ 3 = (armQ 1 500).a0.get 4 2 ∧
     500 = BitVec.toNat (armQ 1 500).a1 + BitVec.toNat (armQ 1 500).a2 * 2 ^ 32 ∧ tb3S.dev.time.outs.length = 8 ∧
     tb3S.dev.base 3 ≤ 500) ∧
    (Takes tb3S 0x0902 cmdTimeToutArm (armQ 0 499) ∧ 3 = (armQ 0 499).a0.get 0 3 ∧ 3 = (armQ 0 499).a0.get 4 2 ∧
     499 = BitVec.toNat (armQ 0 499).a1 + BitVec.toNat (armQ 0 499).a2 * 2 ^ 32 ∧ tb3S.dev.time.outs.length = 8 ∧
     499 < tb3S.dev.base 3 ∧ (armQ 0 499).a0.bit 8 = false) ∧
    (Takes tb3S 0x0902 cmdTimeToutArm (armQ 1 499) ∧ 3 = (armQ 1 499).a0.get 0 3 ∧ 3 = (armQ 1 499).a0.get 4 2 ∧
     499 = BitVec.toNat (armQ 1 499).a1 + BitVec.toNat (armQ 1 499).a2 * 2 ^ 32 ∧ tb3S.dev.time.outs.length = 8 ∧
     499 < tb3S.dev.base 3 ∧ (armQ 1 499).a0.bit 8 = true) ∧
    (Awake armed ∧ armed.dev.bit (TIME_TOUT_CFG (3 : ℕ)) 31 = true ∧ armed.dev.time.outs.length = 8 ∧
     armed.dev.time.stops = [] ∧ (armed.dev.fld (TIME_TOUT_CFG (3 : ℕ)) 24 2 = 2 → armed.dev.time.tb2Run = true)) ∧
    (armed.dev.bit (TIME_TOUT_CFG (4 : ℕ)) 31 = false ∨ armed.dev.fld (TIME_TOUT_CFG (4 : ℕ)) 24 2 = 2 ∧ armed.dev.time.tb2Run = false) ∧
    Takes armed 0x0903 cmdTimeToutStop (rq 0 248 0) ∧
    (Awake (capD 2 none) ∧ (¬capTakes (capD 2 none) 7 true 159)) ∧
    (Awake (capD 3 (some 0)) ∧ capTakes (capD 3 (some 0)) 7 true 159 ∧ capSoon (capD 3 (some 0)) 7 159) ∧
    (Awake (capD 3 none) ∧ capTakes (capD 3 none) 7 true 159 ∧ (¬capSoon (capD 3 none) 7 159)) :=
  ⟨by decide +kernel, by decide +kernel, by decide +kernel, by decide +kernel, (Or.inl (by decide +kernel)),
   by decide +kernel, ⟨by decide +kernel, (by unfold capTakes; decide +kernel)⟩,
   ⟨by decide +kernel, (by unfold capTakes; decide +kernel), (Or.inr ⟨0, by decide +kernel, by decide +kernel⟩)⟩,
   ⟨by decide +kernel, (by unfold capTakes; decide +kernel), notSoon⟩⟩

def sinS : State := st (((dv .configure).wr (MOT_AX_SIN 7 254) 0x7000).wr (MOT_AX_SIN 7 255) 0x7000)

/-- Commands and states that meet the hypotheses of `Obligations.SineTablesNeverFall`, clause by
clause. -/
theorem wit_SineTablesNeverFall :
    (Up (at_ Mode.configure) ∧ (7 : ℕ) < nAxes (at_ Mode.configure).dev.variant ∧
     (at_ Mode.configure).dev.mode.cur = Mode.configure ∧
     ((255 : ℕ) = 0 ∧ Word.get 32769 0 16 ≠ 0 ∨ (0 < (255 : ℕ) ∧ Word.get 32769 0 16 < if (255 : ℕ) - 1 = 256 then 32768 else (at_ Mode.configure).dev.fld (MOT_AX_SIN (7 : ℕ) ((255 : ℕ) - 1)) 0 16) ∨ (if (255 : ℕ) + 1 = 256 then 32768 else (at_ Mode.configure).dev.fld (MOT_AX_SIN (7 : ℕ) ((255 : ℕ) + 1)) 0 16) < Word.get 32769 0 16)) ∧
    (Up sinS ∧ (7 : ℕ) < nAxes sinS.dev.variant ∧ sinS.dev.mode.cur = Mode.configure ∧
     (¬((255 : ℕ) = 0 ∧ Word.get 32768 0 16 ≠ 0 ∨ (0 < (255 : ℕ) ∧ Word.get 32768 0 16 < if (255 : ℕ) - 1 = 256 then 32768 else sinS.dev.fld (MOT_AX_SIN (7 : ℕ) ((255 : ℕ) - 1)) 0 16) ∨ (if (255 : ℕ) + 1 = 256 then 32768 else sinS.dev.fld (MOT_AX_SIN (7 : ℕ) ((255 : ℕ) + 1)) 0 16) < Word.get 32768 0 16))) := by
  refine ⟨?_, ?_⟩ <;> decide +kernel

def mvReq : Req := rq 0 3 1000
def goal0 : Goal := ⟨500, 100000, 1000, none⟩
def move0 : Move := ⟨goal0, 0, 0, 0, true, [⟨2 ^ 30, 0, 0⟩], 0, false, none, false, none, false, 0, none, none⟩
def moveS (m : Mode) (cfg : Word) : State := st (axDev m 3 cfg (fun x => { x with mv := some move0 }))

/-- Commands and states that meet the hypotheses of `Obligations.NativeAxesRejectAMove`, clause by
clause. -/
theorem wit_NativeAxesRejectAMove :
    (3 = mvReq.a0.get 0 3 ∧ Up (moveS Mode.build 0x80000000) ∧
     (moveS Mode.build 0x80000000).dev.mayTake (asOp 0x0601 mvReq) = true ∧
     groupOn 1537 ((moveS Mode.build 0x80000000).dev.ringType mvReq.ring) = true ∧
     firstFail (shape (asOp 0x0601 mvReq) [7, anyW, anyW, anyW] none 0) = none ∧
     3 < nAxes (moveS Mode.build 0x80000000).dev.variant ∧
     motModes.contains (moveS Mode.build 0x80000000).dev.mode.cur = true ∧
     (moveS Mode.build 0x80000000).dev.bit (MOT_AX_CFG 3) 28 = false ∧
     ((moveS Mode.build 0x80000000).dev.axis 3).mv.isSome = true) ∧
    (3 = mvReq.a0.get 0 3 ∧ Up (st (axDev Mode.build 3 0x80000000 id)) ∧
     (st (axDev Mode.build 3 0x80000000 id)).dev.mayTake (asOp 0x0601 mvReq) = true ∧
     groupOn 1537 ((st (axDev Mode.build 3 0x80000000 id)).dev.ringType mvReq.ring) = true ∧
     firstFail (shape (asOp 0x0601 mvReq) [7, anyW, anyW, anyW] none 0) = none ∧
     3 < nAxes (st (axDev Mode.build 3 0x80000000 id)).dev.variant ∧
     motModes.contains (st (axDev Mode.build 3 0x80000000 id)).dev.mode.cur = true ∧
     (st (axDev Mode.build 3 0x80000000 id)).dev.bit (MOT_AX_CFG 3) 28 = false ∧
     ((st (axDev Mode.build 3 0x80000000 id)).dev.axis 3).mv = none ∧
     Takes (st (axDev Mode.build 3 0x80000000 id)) 0x0601 cmdMotMove mvReq) := by
  refine ⟨?_, ?_⟩ <;> decide +kernel

def doneMv : Dev := { (moveS .build 0x80000000).dev with tb3 := 2 ^ 20 }

/-- Commands and states that meet the hypotheses of `Obligations.AxesMove`, clause by
clause. -/
theorem wit_AxesMove :
    2 ≤ (at_ Mode.build).dev.mode.boot ∧
    (((dv Mode.build).axis 0).mv = none ∧ ((dv Mode.build).axis 0).emission = none ∧
     ((dv Mode.build).axis 0).queue = []) ∧
    State.reset.dev.mode.boot < 2 ∧
    (((moveS Mode.build 0x80000000).dev.axis 3).mv = some move0 ∧ move0.clamp = none ∧ move0.retune = none ∧
     move0.home = none ∧ (moveS Mode.build 0x80000000).dev.tb3 < move0.ends) ∧
    ((doneMv.axis 3).mv = some move0 ∧ move0.clamp = none ∧ move0.retune = none ∧ move0.home = none ∧
     move0.ends ≤ doneMv.tb3 ∧ move0.stop = none ∧ move0.turn = false ∧ move0.seq = false ∧
     (doneMv.axis 3).queue = [] ∧ 3 < doneMv.mot.axes.length) := by
  refine ⟨?_, ?_, ?_, ?_, ?_⟩ <;> decide +kernel

def argAxesMoveAxesStopG := { rq 0 3 0 with a2 := 50000 }

/-- Commands and states that meet the hypotheses of `Obligations.AxesMove` (AxesStop), clause by
clause. -/
theorem wit_AxesMove_AxesStop :
    (3 = mvReq.a0.get 0 3 ∧ Takes (moveS Mode.build 0x90000000) 0x0601 cmdMotMove mvReq ∧
     (moveS Mode.build 0x90000000).dev.bit (MOT_AX_CFG 3) 28 = true ∧
     3 < (moveS Mode.build 0x90000000).dev.mot.axes.length) ∧
    (3 = argAxesMoveAxesStopG.a0.get 0 3 ∧
     Takes (moveS Mode.build 0x80000000) 0x0602 cmdMotRetune argAxesMoveAxesStopG ∧
     3 < (moveS Mode.build 0x80000000).dev.mot.axes.length) ∧
    (7 = (rq 0 255 0).a0.get 0 3 ∧ Takes (st (axDev Mode.build 3 0x80000000 id)) 0x0603 cmdMotStop (rq 0 255 0) ∧
     (st (axDev Mode.build 3 0x80000000 id)).dev.mot.stops = [] ∧
     (∀ k < 8, ((st (axDev Mode.build 3 0x80000000 id)).dev.axis k).moving = false ∧ ((st (axDev Mode.build 3 0x80000000 id)).dev.axis k).queue = [])) ∧
    (0 = (rq 0 8 0).a0.get 0 3 ∧ Takes (moveS Mode.build 0x80000000) 0x0603 cmdMotStop (rq 0 8 0) ∧
     (rq 0 8 0).a0.get 0 8 = 2 ^ 3 ∧ ((moveS Mode.build 0x80000000).dev.axis 3).mv = some move0 ∧ move0.stop = none ∧
     (moveS Mode.build 0x80000000).dev.tb3 < move0.ends) ∧
    (3 = (rq 0 3 0).a0.get 0 3 ∧ Takes (moveS Mode.build 0x80000000) 0x0680 cmdMotQuery (rq 0 3 0)) := by
  refine ⟨?_, ?_, ?_, ?_, ?_⟩ <;> decide +kernel

def prog0 (k : Byte) : List Byte := [3, k, 0, 0] ++ leBytes 4 1000
def smallS : State := st (on3 (devOf .pq8 .standby))
def progS (m : Mode) (f : Axis → Axis) : State := let d := axDev m 3 0x80000000 f; st { d with mot := { d.mot with prog := [(3, true, 1000)] } }
def seq0 (l : List Nat) : RecoatSeq := ⟨[(3, true, 1000)], 0, l, 0, none, 0⟩
def seqS (l : List Nat) : State := let d := (progS .build id).dev; st { d with mot := { d.mot with seq := some (seq0 l) } }

/-- Commands and states that meet the hypotheses of `Obligations.AxesMove` (AxesHomeAndRecoat), clause by
clause. -/
theorem wit_AxesMove_AxesHomeAndRecoat :
    (Takes (st (axDev Mode.standby 3 0x80000000 id)) 0x0605 cmdMotEnable (rq 0 255 15) ∧
     (st (axDev Mode.standby 3 0x80000000 id)).dev.mot.axes.length = 8) ∧
    (Takes (st (axDev Mode.standby 3 0x80000000 id)) 0x0604 cmdMotHome (rq 0 259 50000) ∧
     (rq 0 259 50000).a0.get 0 3 < (st (axDev Mode.standby 3 0x80000000 id)).dev.mot.axes.length) ∧
    (TakesData (at_ Mode.standby) 0x0606 cmdMotRecoatSet (rqD 0 0 0 8) (eD (prog0 1)) ∧
     (∀ b ∈ entriesOf 8 (dataOf (rqD 0 0 0 8) (eD (prog0 1))), bytesAt b 0 1 < nAxes (at_ Mode.standby).dev.variant ∧ bytesAt b 1 1 < 2 ∧ bytesAt b 2 2 = 0)) ∧
    (TakesData (at_ Mode.standby) 0x0606 cmdMotRecoatSet (rqD 0 0 0 8) (eD (prog0 2)) ∧
     (∃ b ∈ entriesOf 8 (dataOf (rqD 0 0 0 8) (eD (prog0 2))), 1 < bytesAt b 1 1 ∨ bytesAt b 2 2 ≠ 0)) ∧
    (TakesData smallS 0x0606 cmdMotRecoatSet (rqD 0 0 0 8) (eD ([7, 1, 0, 0] ++ leBytes 4 1000)) ∧
     (∀ b ∈ entriesOf 8 (dataOf (rqD 0 0 0 8) (eD ([7, 1, 0, 0] ++ leBytes 4 1000))), bytesAt b 1 1 < 2 ∧ bytesAt b 2 2 = 0 ∧ bytesAt b 0 1 < 8) ∧
     (∃ b ∈ entriesOf 8 (dataOf (rqD 0 0 0 8) (eD ([7, 1, 0, 0] ++ leBytes 4 1000))), nAxes smallS.dev.variant ≤ bytesAt b 0 1)) ∧
    Takes (progS Mode.build id) 0x0607 cmdMotRecoatRun (rq 0 0 0) ∧
    (progS Mode.build id).dev.mot.seq = none ∧
    (Awake (seqS []) ∧ (seqS []).dev.mot.seq = some (seq0 []) ∧ (seq0 []).left = [] ∧
     seqGroup (seq0 []).steps (seq0 []).next = [(3, true, 1000)] ∧ (seqS []).dev.axReady 3 = true ∧
     ((seqS []).dev.axis 3).moving = false ∧ 3 < (seqS []).dev.mot.axes.length ∧
     (seqS []).dev.towardLimit 3 (((seqS []).dev.axis 3).us + divRound ((true, 1000).2 * (↑((seqS []).dev.axScale 3) : ℤ)) 0x10000) = false) ∧
    ((seqS [3]).dev.mot.seq = some (seq0 [3]) ∧ (seq0 [3]).left ≠ []) := by
  refine ⟨?_, ?_, ?_, ?_, ?_, ?_, ?_, ?_, ?_⟩ <;> decide +kernel

def axOn : State := st (axDev .build 3 0x80000000 id)
def argAxesAreDrivenF := st (axDev .build 3 0x80000000 (fun x => { x with level := 0 }))
def emS : State := st (axDev .build 3 0xC0000000 (fun x => { x with emission := some ⟨0, 0, 0, 256, 1600⟩ }))
def homeMv : Move := { move0 with home := some 0 }
def homeS : State := st (axDev .build 3 0x80000000 (fun x => { x with mv := some homeMv }))
def encS (p : Word) : State := st (((axDev .build 1 0x84000000 id).wr (MOT_AX_FE_LIM 1) 5).wr (MOT_AX_POS 1) p)

/-- Commands and states that meet the hypotheses of `Obligations.AxesAreDriven`, clause by
clause. -/
theorem wit_AxesAreDriven :
    (Awake axOn ∧ axOn.dev.axReady (3 : ℕ) = true ∧ axOn.dev.axDrive (3 : ℕ) % 2 = 0) ∧
    ((at_ Mode.build).dev.axReady (3 : ℕ) = false ∨ (at_ Mode.build).dev.axDrive (3 : ℕ) % 2 = 1) ∧
    (3 < axOn.dev.mot.axes.length ∧ (axOn.dev.axis 3).mv = none) ∧
    (Awake (st (axOn.dev.wr (MOT_AX_CUR 3) 0)) ∧ (st (axOn.dev.wr (MOT_AX_CUR 3) 0)).dev.axReady (3 : ℕ) = true ∧
     (st (axOn.dev.wr (MOT_AX_CUR 3) 0)).dev.axDrive (3 : ℕ) % 2 = 0) ∧
    (Awake argAxesAreDrivenF ∧ (argAxesAreDrivenF.dev.axis (3 : ℕ)).moving = false ∧
     (argAxesAreDrivenF.dev.axis (3 : ℕ)).level = 0) ∧
    (Awake (moveS Mode.build 0x80000000) ∧
     (((moveS Mode.build 0x80000000).dev.axis (3 : ℕ)).moving = true ∨ ((moveS Mode.build 0x80000000).dev.axis (3 : ℕ)).level ≠ 0)) ∧
    nAxes smallS.dev.variant ≤ (7 : ℕ) ∧
    (Awake axOn ∧ (3 : ℕ) < nAxes axOn.dev.variant ∧ (axOn.dev.axis (3 : ℕ)).mv = none ∧
     (AxInput.home = AxInput.home ∨ (axOn.dev.modAxis (3 : ℕ) fun x => { on := x.on, faulted := x.faulted, us := x.us, mv := x.mv, queue := x.queue, homed := x.homed, inp := x.inp.set 2 (some true), level := x.level, chop := x.chop, coarseAt := x.coarseAt, coarseUp := x.coarseUp, emission := x.emission : Axis }).limited (3 : ℕ) = false)) ∧
    (Awake emS ∧ (3 : ℕ) < nAxes emS.dev.variant ∧ (emS.dev.axis (3 : ℕ)).mv = none ∧ AxInput.limp ≠ AxInput.home ∧
     ((emS.dev.modAxis (3 : ℕ) fun x => { on := x.on, faulted := x.faulted, us := x.us, mv := x.mv, queue := x.queue, homed := x.homed, inp := x.inp.set 0 (some true), level := x.level, chop := x.chop, coarseAt := x.coarseAt, coarseUp := x.coarseUp, emission := x.emission : Axis }).limited (3 : ℕ) = true)) ∧
    (Awake axOn ∧ (3 : ℕ) < nAxes axOn.dev.variant ∧ (axOn.dev.axis (3 : ℕ)).mv = none) ∧
    (Awake (moveS Mode.build 0x80000000) ∧ (3 : ℕ) < nAxes (moveS Mode.build 0x80000000).dev.variant ∧
     ((moveS Mode.build 0x80000000).dev.axis (3 : ℕ)).mv = some move0 ∧ move0.stop = none ∧
     ((moveS Mode.build 0x80000000).dev.axis (3 : ℕ)).inp.length = 3 ∧
     (moveS Mode.build 0x80000000).dev.mot.axes.length = 8 ∧ AxInput.limp ≠ AxInput.home ∧ move0.plus = (0 == 0) ∧
     true ≠ (moveS Mode.build 0x80000000).dev.bit (MOT_AX_CFG (3 : ℕ)) 0) ∧
    (Awake homeS ∧ (3 : ℕ) < nAxes homeS.dev.variant ∧ (homeS.dev.axis (3 : ℕ)).mv = some homeMv ∧
     homeMv.stop = none ∧ (homeS.dev.axis (3 : ℕ)).inp.length = 3 ∧ homeS.dev.mot.axes.length = 8 ∧
     homeMv.home = some 0 ∧ (homeS.dev.axis (3 : ℕ)).inp.getD 2 none ≠ some true) ∧
    (Awake homeS ∧ (3 : ℕ) < nAxes homeS.dev.variant ∧ (homeS.dev.axis (3 : ℕ)).mv = some homeMv ∧
     homeMv.stop = none ∧ (homeS.dev.axis (3 : ℕ)).inp.length = 3 ∧ homeS.dev.mot.axes.length = 8 ∧
     homeMv.home.isSome = true) ∧
    (Awake (encS 6) ∧ (encS 6).dev.encOn (1 : ℕ) = true ∧
     BitVec.toNat ((encS 6).dev.rd (MOT_AX_FE_LIM (1 : ℕ))) < (divRound ((encS 6).dev.rdI (MOT_AX_ENC (1 : ℕ)) * (↑(BitVec.toNat ((encS 6).dev.rd (MOT_AX_ENC_SCALE (1 : ℕ)))) : ℤ)) 0x10000 - (encS 6).dev.rdI (MOT_AX_POS (1 : ℕ))).natAbs) ∧
    (Awake (encS 5) ∧ (encS 5).dev.encOn (1 : ℕ) = true ∧
     (divRound ((encS 5).dev.rdI (MOT_AX_ENC (1 : ℕ)) * (↑(BitVec.toNat ((encS 5).dev.rd (MOT_AX_ENC_SCALE (1 : ℕ)))) : ℤ)) 0x10000 - (encS 5).dev.rdI (MOT_AX_POS (1 : ℕ))).natAbs ≤ BitVec.toNat ((encS 5).dev.rd (MOT_AX_FE_LIM (1 : ℕ)))) ∧
    (Awake (at_ Mode.build) ∧ (at_ Mode.build).dev.encOn (1 : ℕ) = false) ∧
    (axOn.dev.axReady (3 : ℕ) = false ∨ axOn.dev.axDrive (3 : ℕ) < 2 ∨ axOn.dev.safeState = true ∨ axOn.dev.mode.cur = Mode.configure ∨ axOn.dev.axActive (3 : ℕ) (if true = true then 0 else 1) = true) ∧
    (Awake (st (axDev Mode.build 3 0xC0000000 id)) ∧
     (st (axDev Mode.build 3 0xC0000000 id)).dev.axReady (3 : ℕ) = true ∧
     2 ≤ (st (axDev Mode.build 3 0xC0000000 id)).dev.axDrive (3 : ℕ) ∧
     (st (axDev Mode.build 3 0xC0000000 id)).dev.safeState = false ∧
     (st (axDev Mode.build 3 0xC0000000 id)).dev.mode.cur ≠ Mode.configure ∧
     ((st (axDev Mode.build 3 0xC0000000 id)).dev.axActive (3 : ℕ) (if true = true then 0 else 1) = false) ∧
     ((st (axDev Mode.build 3 0xC0000000 id)).dev.axis (3 : ℕ)).coarseAt = none ∧
     ((st (axDev Mode.build 3 0xC0000000 id)).dev.axis (3 : ℕ)).emission = none) :=
  ⟨by decide +kernel, (Or.inl (by decide +kernel)), by decide +kernel, by decide +kernel, by decide +kernel,
   ⟨by decide +kernel, (Or.inl (by decide +kernel))⟩, by decide +kernel,
   ⟨by decide +kernel, by decide +kernel, by decide +kernel, (Or.inl rfl)⟩, by decide +kernel, by decide +kernel,
   by decide +kernel, by decide +kernel, by decide +kernel, by decide +kernel, by decide +kernel, by decide +kernel,
   (Or.inr (Or.inl (by decide +kernel))), by decide +kernel⟩

def lampD (cfg : Word) (f : Lamp → Lamp) : Dev := ((dv .build).wr (ILL_CH_CFG 2) cfg).wr (ILL_CH_TARGET 2) 0x01000100
  |>.modLamp 2 f
def lampS (cfg : Word) (f : Lamp → Lamp) : State := st (lampD cfg f)
def bloomD0 : Dev :=
  { lampD 0x80001000 id with ill := { (lampD 0x80001000 id).ill with blooms := [⟨0, [(2, 77)]⟩, ⟨0, []⟩] } }
def argLampsG := lampS 0x80001000 (fun l => { l with host := 9000 })
def argLampsI := st { lampD 0x80001000 (fun l => { l with next := [(70, 5, 6, 0)] }) with tb3 := 10 ^ 9 }
def blS : State := st (((lampD 0x80001000 id).wr (ILL_BLOOM_MODE 0) 0x00070004).wr (ILL_BLOOM_LEVEL 0) 0x01000010
  |>.wr (ILL_BLOOM_PERIOD 0) 30)

/-- Commands and states that meet the hypotheses of `Obligations.Lamps`, clause by
clause. -/
theorem wit_Lamps :
    (dv Mode.build).bit (ILL_CH_CFG 2) 31 = false ∧
    (((lampD 0x80001000 id).setBit ILL_STATUS 18 true).bit (ILL_CH_CFG 2) 31 = true ∧
     ((lampD 0x80001000 id).setBit ILL_STATUS 18 true).mode.cur ≠ Mode.configure ∧
     ((lampD 0x80001000 id).setBit ILL_STATUS 18 true).lampSafe = false ∧
     ((lampD 0x80001000 id).setBit ILL_STATUS 18 true).lampLatch 2 = true) ∧
    ((bloomD0.wr (ILL_BLOOM_MODE 0) 0x40001).bit (ILL_CH_CFG 2) 31 = true ∧
     (bloomD0.wr (ILL_BLOOM_MODE 0) 0x40001).mode.cur ≠ Mode.configure ∧
     (bloomD0.wr (ILL_BLOOM_MODE 0) 0x40001).lampSafe = false ∧
     (bloomD0.wr (ILL_BLOOM_MODE 0) 0x40001).lampLatch 2 = false ∧
     (bloomD0.wr (ILL_BLOOM_MODE 0) 0x40001).bloomOf 2 = some 77) ∧
    ((lampD 0x80001000 id).bit (ILL_CH_CFG 2) 31 = true ∧ (lampD 0x80001000 id).mode.cur ≠ Mode.configure ∧
     (lampD 0x80001000 id).lampSafe = false ∧ (lampD 0x80001000 id).lampLatch 2 = false ∧
     (lampD 0x80001000 id).bloomOf 2 = none) ∧
    (2 ≤ argLampsG.dev.mode.boot ∧ argLampsG.dev.lampOn (2 : ℕ) = true ∧ (argLampsG.dev.lampC (2 : ℕ)).next = [] ∧
     argLampsG.dev.ill.sets = []) ∧
    (2 ≤ argLampsI.dev.mode.boot ∧ argLampsI.dev.lampOn (2 : ℕ) = true ∧ (2 : ℕ) < argLampsI.dev.ill.lamps.length ∧
     (argLampsI.dev.lampC (2 : ℕ)).next = [(70, 5, 6, 0)] ∧ 0 < argLampsI.dev.motCycle) ∧
    (st (on3 (devOf Variant.pq8 Mode.build))).dev.lampOn (11 : ℕ) = false ∧
    (Awake blS ∧ ((0 : ℕ) = 0 ∨ blS.dev.lampSafe = false)) ∧
    (Awake blS ∧ blS.dev.lampSafe = false ∧ blS.dev.fld (ILL_BLOOM_MODE (0 : ℕ)) 0 3 = 4 ∧
     blS.dev.fld (ILL_BLOOM_PERIOD (0 : ℕ)) 0 16 ≠ 0 ∧ blS.dev.ill.blooms.length = 2) ∧
    (at_ Mode.safe).dev.lampSafe = true :=
  ⟨by decide +kernel, by decide +kernel, by decide +kernel, by decide +kernel, by decide +kernel, by decide +kernel,
   by decide +kernel, ⟨by decide +kernel, (Or.inl rfl)⟩, by decide +kernel, by decide +kernel⟩

def stroD : Dev := let d := lampD 0xC0001000 id; { d with vis := { d.vis with cams := d.vis.cams.modify 16 (fun (c : Cam) => { c with strobes := [(1000, 5000)] }) } }
def argLampsLampsStrobeN2 := st (stroD.modLamp 2 (fun l => { l with win := some 5000 }))

/-- Commands and states that meet the hypotheses of `Obligations.Lamps` (LampsStrobe), clause by
clause. -/
theorem wit_Lamps_LampsStrobe :
    (2 ≤ (st stroD).dev.mode.boot ∧ (st stroD).dev.lampStrobes (2 : ℕ) = true ∧ (st stroD).dev.trim.queue = [] ∧
     (st stroD).dev.trim.commits = [] ∧ (st stroD).dev.bit ANA_STATUS 31 = false ∧
     ((st stroD).dev.lampC (2 : ℕ)).win = none ∧
     (List.find? (fun w => Decidable.decide ((st stroD).dev.tb3 < w.2)) ((st stroD).dev.cam (16 + (st stroD).dev.fld (ILL_CH_CFG (2 : ℕ)) 28 2)).strobes = some (1000, 5000)) ∧
     (2 : ℕ) < (st stroD).dev.ill.lamps.length) ∧
    (2 ≤ argLampsLampsStrobeN2.dev.mode.boot ∧ argLampsLampsStrobeN2.dev.lampStrobes (2 : ℕ) = true ∧
     argLampsLampsStrobeN2.dev.trim.queue = [] ∧ argLampsLampsStrobeN2.dev.trim.commits = [] ∧
     argLampsLampsStrobeN2.dev.bit ANA_STATUS 31 = false ∧
     (argLampsLampsStrobeN2.dev.lampC (2 : ℕ)).win = some 5000) := by
  refine ⟨?_, ?_⟩ <;> decide +kernel

def ntcBadS (k : Nat) : State := let d := (lampD 0x80001000 id).setBit (ILL_NTC 0) 16 true; st { d with ill := { d.ill with ntcBad := k } }
def dgS (sh : Bool) : State := let d := (lampD 0x80001000 (fun l => { l with wasShort := sh, fNum := 1, fDen := 1 })).wr (ILL_CH_LEVEL 2) 500; st d

/-- Commands and states that meet the hypotheses of `Obligations.Lamps` (LampsDerate), clause by
clause. -/
theorem wit_Lamps_LampsDerate :
    derateOf 0x40502800 700 = some (580, 640) ∧
    (2 ≤ (ntcBadS 1).dev.mode.boot ∧ (ntcBadS 1).dev.lampOn (2 : ℕ) = true ∧
     0 = (ntcBadS 1).dev.fld (ILL_CH_CFG (2 : ℕ)) 26 2 ∧ (ntcBadS 1).dev.bit (ILL_NTC 0) 16 = true ∧
     (ntcBadS 1).dev.ill.ntcBad.testBit 0 = true) ∧
    (2 ≤ (ntcBadS 0).dev.mode.boot ∧ (ntcBadS 0).dev.lampOn (2 : ℕ) = true ∧
     0 = (ntcBadS 0).dev.fld (ILL_CH_CFG (2 : ℕ)) 26 2 ∧ (ntcBadS 0).dev.bit (ILL_NTC 0) 16 = true ∧
     (ntcBadS 0).dev.ill.ntcBad.testBit 0 = false) ∧
    (2 ≤ (st ((lampD 0x80001000 id).wr ILL_DERATE 0x40285000)).dev.mode.boot ∧
     (st ((lampD 0x80001000 id).wr ILL_DERATE 0x40285000)).dev.lampOn (2 : ℕ) = true ∧
     0 = (st ((lampD 0x80001000 id).wr ILL_DERATE 0x40285000)).dev.fld (ILL_CH_CFG (2 : ℕ)) 26 2 ∧
     (st ((lampD 0x80001000 id).wr ILL_DERATE 0x40285000)).dev.bit (ILL_NTC 0) 16 = false ∧
     (st ((lampD 0x80001000 id).wr ILL_DERATE 0x40285000)).dev.ill.ntcBad = 0 ∧
     derateOf ((st ((lampD 0x80001000 id).wr ILL_DERATE 0x40285000)).dev.rd ILL_DERATE) (signed 16 ((st ((lampD 0x80001000 id).wr ILL_DERATE 0x40285000)).dev.fld (ILL_NTC 0) 0 16)) = none) ∧
    (2 ≤ (st ((lampD 0x80001000 id).wr ILL_DERATE 0x40502800)).dev.mode.boot ∧
     (st ((lampD 0x80001000 id).wr ILL_DERATE 0x40502800)).dev.lampOn (2 : ℕ) = true ∧
     0 = (st ((lampD 0x80001000 id).wr ILL_DERATE 0x40502800)).dev.fld (ILL_CH_CFG (2 : ℕ)) 26 2 ∧
     (st ((lampD 0x80001000 id).wr ILL_DERATE 0x40502800)).dev.bit (ILL_NTC 0) 16 = false ∧
     (st ((lampD 0x80001000 id).wr ILL_DERATE 0x40502800)).dev.ill.ntcBad = 0 ∧
     derateOf ((st ((lampD 0x80001000 id).wr ILL_DERATE 0x40502800)).dev.rd ILL_DERATE) (signed 16 ((st ((lampD 0x80001000 id).wr ILL_DERATE 0x40502800)).dev.fld (ILL_NTC 0) 0 16)) = some (1, 1)) ∧
    (2 < (lampD 0x80001000 id).ill.lamps.length ∧
     ((3, 3).2 ≤ (3, 3).1 ∨ ((lampD 0x80001000 id).lampC 2).below = true)) ∧
    (2 < (lampD 0x80001000 id).ill.lamps.length ∧ (1, 3).1 < (1, 3).2 ∧
     ((lampD 0x80001000 id).lampC 2).below = false) ∧
    (2 ≤ (dgS false).dev.mode.boot ∧ (dgS false).dev.lampOn (2 : ℕ) = true ∧
     (dgS false).dev.bit (ILL_CH_CFG (2 : ℕ)) 31 = true ∧ (dgS false).dev.bit (ILL_CH_CFG (2 : ℕ)) 30 = false ∧
     ((dgS false).dev.lampC (2 : ℕ)).win = none ∧ 0 < (dgS false).dev.fld (ILL_CH_LEVEL (2 : ℕ)) 0 16 ∧
     (2 : ℕ) < (dgS false).dev.ill.lamps.length ∧ (dgS false).dev.lampTarget (2 : ℕ) false ≤ 4 * 256 ∧
     2 * 256 ≤ 3 * (dgS false).dev.lampTarget (2 : ℕ) false ∧ 3 ≤ 16) ∧
    (2 ≤ (dgS true).dev.mode.boot ∧ (dgS true).dev.lampOn (2 : ℕ) = true ∧
     (dgS true).dev.bit (ILL_CH_CFG (2 : ℕ)) 31 = true ∧ (dgS true).dev.bit (ILL_CH_CFG (2 : ℕ)) 30 = false ∧
     ((dgS true).dev.lampC (2 : ℕ)).win = none ∧ 0 < (dgS true).dev.fld (ILL_CH_LEVEL (2 : ℕ)) 0 16 ∧
     (2 : ℕ) < (dgS true).dev.ill.lamps.length ∧ (dgS true).dev.lampTarget (2 : ℕ) false ≤ 4 * 256 ∧ 16 < 30 ∧
     ((dgS true).dev.lampC (2 : ℕ)).wasShort = true) ∧
    ((lampD 0x80001000 id).lampSafe = false ∧ 2 < 12 ∧ 2 < (lampD 0x80001000 id).ill.lamps.length) :=
  ⟨by decide +kernel, by decide +kernel, by decide +kernel, by decide +kernel, by decide +kernel,
   ⟨by decide +kernel, (Or.inl (by decide +kernel))⟩, by decide +kernel, by decide +kernel, by decide +kernel,
   by decide +kernel⟩

def argLampsLampCommandsC := { rq 0 1 0x00070004 with a2 := 0x00200010, a3 := 30 }

/-- Commands and states that meet the hypotheses of `Obligations.Lamps` (LampCommands), clause by
clause. -/
theorem wit_Lamps_LampCommands :
    (Takes (lampS 0x80001000 id) 0x0701 cmdLedSet (rq 0 4 5) ∧ (rq 0 4 5).a0.get 0 12 ≠ 0 ∧
     (lampS 0x80001000 id).dev.ill.lamps.length = 12) ∧
    (Takes (lampS 0x80001000 id) 0x0701 cmdLedSet (rq 0 0 5) ∧ (rq 0 0 5).a0.get 0 12 = 0) ∧
    Takes (lampS 0x80001000 id) 0x0702 cmdBloomSet argLampsLampCommandsC ∧
    Takes (st ((lampD 0x80001000 id).setBit ILL_STATUS 18 true)) 1795 cmdLedRearm (rq 0 4095 0) ∧
    Takes (lampS 0x80001000 id) 0x0780 cmdLedQuery (rq 0 2 0) := by
  refine ⟨?_, ?_, ?_, ?_, ?_⟩ <;> decide +kernel

def argTrimsAndReferencesB := { e0 with vals := [4096, 4096] }
def heldS : State := st ((dv .standby).modLamp 2 (fun l => { l with win := some 5000 }))
def exposeD : State := st (withLayers .build [{ lay0 1 with startReq := some (rq 1 1 0) }])

/-- Commands and states that meet the hypotheses of `Obligations.TrimsAndReferences`, clause by
clause. -/
theorem wit_TrimsAndReferences :
    judgeTrim 3 0 100 50 52 = (Verdict.accepted, 51) ∧
    (Takes (at_ Mode.standby) 0x0531 cmdTrimRun (rq 0 1 1) ∧ (at_ Mode.standby).dev.trim.queue = [] ∧
     (at_ Mode.standby).dev.trim.commits = [] ∧
     (started (at_ Mode.standby) 0x0531 (rq 0 1 1)).trimHeld (asOp 0x0531 (rq 0 1 1)) = false) ∧
    (Takes heldS 0x0531 cmdTrimRun (rq 0 5 4) ∧ heldS.dev.trim.queue = [] ∧ heldS.dev.trim.commits = [] ∧
     (started heldS 0x0531 (rq 0 5 4)).trimHeld (asOp 0x0531 (rq 0 5 4)) = true) ∧
    (16 < 4096 ∧ 16 % 4 = 0) ∧
    (Takes (at_ Mode.standby) 0x0532 cmdTrimCommit (rq 0 0 0) ∧ (at_ Mode.standby).dev.trim.commits = [] ∧
     (at_ Mode.standby).dev.trimFree = true) ∧
    (Takes exposeD 0x0532 cmdTrimCommit (rq 0 0 0) ∧ exposeD.dev.trim.commits = [] ∧ exposeD.dev.trimFree = false) := by
  refine ⟨?_, ?_, ?_, ?_, ?_, ?_⟩ <;> decide +kernel

def zeros (n : Nat) : List Byte := List.replicate n 0
theorem crcChunk (a b c n m : Nat) (h : (zeros n).foldl (crcByte 0x82F63B78) a = b)
    (k : (zeros m).foldl (crcByte 0x82F63B78) b = c) : (zeros (n + m)).foldl (crcByte 0x82F63B78) a = c := by
  rw [zeros, ← List.replicate_append_replicate, List.foldl_append]
  rw [zeros] at h k
  rw [h, k]
theorem zc0 : (zeros 256).foldl (crcByte 0x82F63B78) 4294967295 = 1200442991 := by decide +kernel
theorem zc1 : (zeros 256).foldl (crcByte 0x82F63B78) 1200442991 = 3473084991 := by decide +kernel
theorem zc2 : (zeros 256).foldl (crcByte 0x82F63B78) 3473084991 = 3318006521 := by decide +kernel
theorem zc3 : (zeros 256).foldl (crcByte 0x82F63B78) 3318006521 = 290529667 := by decide +kernel
theorem zc4 : (zeros 256).foldl (crcByte 0x82F63B78) 290529667 = 1921003501 := by decide +kernel
theorem zc5 : (zeros 256).foldl (crcByte 0x82F63B78) 1921003501 = 175100626 := by decide +kernel
theorem zc6 : (zeros 256).foldl (crcByte 0x82F63B78) 175100626 = 1540069788 := by decide +kernel
theorem zc7 : (zeros 256).foldl (crcByte 0x82F63B78) 1540069788 = 1534491824 := by decide +kernel
theorem zc8 : (zeros 256).foldl (crcByte 0x82F63B78) 1534491824 = 332020171 := by decide +kernel
theorem zc9 : (zeros 256).foldl (crcByte 0x82F63B78) 332020171 = 1307576961 := by decide +kernel
theorem zc10 : (zeros 256).foldl (crcByte 0x82F63B78) 1307576961 = 609686098 := by decide +kernel
theorem zc11 : (zeros 256).foldl (crcByte 0x82F63B78) 609686098 = 3746741852 := by decide +kernel
theorem zc12 : (zeros 256).foldl (crcByte 0x82F63B78) 3746741852 = 176297486 := by decide +kernel
theorem zerosFold : (zeros 3328).foldl (crcByte 0x82F63B78) 0xFFFFFFFF = 176297486 := by
  have h := crcChunk _ _ _ 256 256 zc0 zc1
  have h := crcChunk _ _ _ _ 256 h zc2
  have h := crcChunk _ _ _ _ 256 h zc3
  have h := crcChunk _ _ _ _ 256 h zc4
  have h := crcChunk _ _ _ _ 256 h zc5
  have h := crcChunk _ _ _ _ 256 h zc6
  have h := crcChunk _ _ _ _ 256 h zc7
  have h := crcChunk _ _ _ _ 256 h zc8
  have h := crcChunk _ _ _ _ 256 h zc9
  have h := crcChunk _ _ _ _ 256 h zc10
  have h := crcChunk _ _ _ _ 256 h zc11
  have h := crcChunk _ _ _ _ 256 h zc12
  exact h
theorem zerosCrc : crc32c (zeros 3328) = 4118669809 := by
  rw [crc32c, zerosFold]
  rfl
/-- The fields of a run of zero bytes. -/
theorem zerosAt (n k : Nat) : bytesAt (zeros n) k 4 = 0 := by
  unfold bytesAt zeros
  simp only [List.drop_replicate, List.take_replicate]
  generalize min 4 (n - k) = j
  induction j with
  | zero => rfl
  | succ j ih => simp only [List.replicate_succ, leNat, ih]; rfl
def trimHead : List Byte :=
  let h := leBytes 4 0x4D545150 ++ leBytes 2 1 ++ leBytes 2 832 ++ leBytes 4 1347489808 ++ zeros 12 ++
    leBytes 4 4118669809 ++ zeros 32
  h ++ leBytes 4 (crc32c h)
def trimImg : List Byte := trimHead ++ zeros 3328
theorem trimImgChecks : (at_ .standby).dev.trimCheck (dataOf (rqD 0 0 0 3392) (eD trimImg)) = none := by
  have ht : dataOf (rqD 0 0 0 3392) (eD trimImg) = trimImg := by decide +kernel
  have hb : trimImg.drop 64 = zeros 3328 := by decide +kernel
  rw [ht]
  unfold Dev.trimCheck
  rw [hb]
  dsimp only
  rw [zerosCrc]
  simp only [zerosAt, Nat.zero_and, bne_self_eq_false]
  decide +kernel

/-- Commands and states that meet the hypotheses of `Obligations.TrimsAndReferences` (TrimImages), clause by
clause. -/
theorem wit_TrimsAndReferences_TrimImages :
    (TakesData (at_ Mode.standby) 0x0533 cmdTrimLoad (rqD 0 0 0 3392) (eD (List.replicate 3392 0)) ∧
     (at_ Mode.standby).dev.trimCheck (dataOf (rqD 0 0 0 3392) (eD (List.replicate 3392 0))) = some (stCrc, 1330)) ∧
    (TakesData (at_ Mode.standby) 0x0533 cmdTrimLoad (rqD 0 0 0 3392) (eD trimImg) ∧
     (at_ Mode.standby).dev.trimCheck (dataOf (rqD 0 0 0 3392) (eD trimImg)) = none ∧
     (at_ Mode.standby).dev.trim.queue = [] ∧ (at_ Mode.standby).dev.trim.commits = [] ∧
     (rqD 0 0 0 3392).a0.bit 0 = false) ∧
    Takes (at_ Mode.standby) 0x0583 cmdTrimRead (rqR 0 1 0 3392) :=
  ⟨by decide +kernel, ⟨by decide +kernel, trimImgChecks, by decide +kernel, by decide +kernel, by decide +kernel⟩,
   by decide +kernel⟩

def bgS (cfg : Word) (f : Dev → Dev) : State := st (f ((dv .build).wr ANA_REF_CFG cfg))
def argTrimsAndReferencesReferencesAreComparedN := ((dv .build).setBit ANA_REF_STATUS 5 true).modTrim (fun t =>
  { t with agree := [0, 999, 0] })

/-- Commands and states that meet the hypotheses of `Obligations.TrimsAndReferences` (ReferencesAreCompared), clause by
clause. -/
theorem wit_TrimsAndReferences_ReferencesAreCompared :
    (2 ≤ (bgS 10 id).dev.mode.boot ∧ 10 = (bgS 10 id).dev.fld ANA_REF_CFG 0 8 ∧ (bgS 10 id).dev.trim.lost = false ∧
     bgAgree 10 [2400, 2401, 2402] 0 1 = true ∧ bgAgree 10 [2400, 2401, 2402] 0 2 = true ∧
     bgAgree 10 [2400, 2401, 2402] 1 2 = true ∧
     ((bgS 10 id).dev.bgReturn 10 [2400, 2401, 2402]).bgOut ((bgS 10 id).dev.fld ANA_REF_CFG 8 2) = false) ∧
    (2 ≤ (bgS 10 id).dev.mode.boot ∧ 10 = (bgS 10 id).dev.fld ANA_REF_CFG 0 8 ∧ (bgS 10 id).dev.trim.lost = false ∧
     2 < 3 ∧ (0, 1) = bgOthers 2 ∧ bgAgree 10 [2400, 2401, 2502] 0 1 = true ∧
     bgAgree 10 [2400, 2401, 2502] 2 0 = false ∧ bgAgree 10 [2400, 2401, 2502] 2 1 = false) ∧
    (2 ≤ (bgS 10 id).dev.mode.boot ∧ 10 = (bgS 10 id).dev.fld ANA_REF_CFG 0 8 ∧ (bgS 10 id).dev.trim.lost = false ∧
     bgAgree 10 [2400, 2501, 2602] 0 1 = false ∧ bgAgree 10 [2400, 2501, 2602] 0 2 = false ∧
     bgAgree 10 [2400, 2501, 2602] 1 2 = false) ∧
    (1 < 3 ∧ argTrimsAndReferencesReferencesAreComparedN.trim.agree.length = 3 ∧
     argTrimsAndReferencesReferencesAreComparedN.bgOut 1 = true) ∧
    (2 ≤ (at_ Mode.build).dev.mode.boot ∧ (4090 ≤ 4095 ∨ 4095 ≤ 5)) ∧
    (2 ≤ (st ((dv Mode.build).wr (ANA_NTC_CFG 1) 0x1000F6E)).dev.mode.boot ∧
     ntcT16 (2048) ((st ((dv Mode.build).wr (ANA_NTC_CFG 1) 0x1000F6E)).dev.fld (ANA_NTC_CFG (1 : ℕ)) 0 16) ((st ((dv Mode.build).wr (ANA_NTC_CFG 1) 0x1000F6E)).dev.fld (ANA_NTC_CFG (1 : ℕ)) 16 16) = some 400 ∧
     (st ((dv Mode.build).wr (ANA_NTC_CFG 1) 0x1000F6E)).dev.fld (ANA_NTC_CFG (1 : ℕ)) 0 16 ≠ 0) ∧
    State.reset.dev.mode.boot < 2 ∧
    ntcT16 2048 3950 256 = some 400 :=
  ⟨by decide +kernel, by decide +kernel, by decide +kernel, by decide +kernel,
   ⟨by decide +kernel, (Or.inl (by decide +kernel))⟩, by decide +kernel, by decide +kernel, by decide +kernel⟩

def rcdS (m : Mode) (f : Recorder → Recorder) : State := st
  { dv m with tb3 := 100, members := [], rcd := f (dv m).rcd }
def ev0 : Event := ⟨5, 0, 4, 1, 1, List.replicate 8 0⟩
def evClr : Event := ⟨5, 0, 36, 0x51, 0, List.replicate 8 0⟩
def usable (m : Mram) : Mram := { m with usable := true, mib := 2 }
def wasOk (r : Recorder) : Recorder := { r with waiting := [ev0, ev0], mram := usable r.mram }
def argRecorderFlushesB := rcdS .build (fun r => { r with waiting := [evClr], clearing := some (rq 0 0 0) })
def argRecorderFlushesD := rcdS .build (fun r => { r with noteDue := true })
def flS : State := rcdS .build (fun r =>
  { r with mram := usable r.mram, flushing := true, buf := [List.replicate 32 1], writing := 1 })
def argRecorderFlushesJ := rcdS .build (fun r => { r with buf := [[1], [2], [3]] })

/-- Commands and states that meet the hypotheses of `Obligations.RecorderFlushes`, clause by
clause. -/
theorem wit_RecorderFlushes :
    (Awake (rcdS Mode.build wasOk) ∧ (rcdS Mode.build wasOk).dev.rcd.waiting = [ev0, ev0] ∧
     (rcdS Mode.build wasOk).dev.mergeReady = true ∧ (rcdS Mode.build wasOk).dev.rcd.clearing = none ∧
     (rcdS Mode.build wasOk).dev.rcd.bypass = false ∧ (rcdS Mode.build wasOk).dev.rcd.full = false ∧
     (rcdS Mode.build wasOk).dev.rcd.mram.usable = true ∧ (rcdS Mode.build wasOk).dev.rcd.buf.length + 1 < 4096 ∧
     (rcdS Mode.build wasOk).dev.rcd.clearedAt = none) ∧
    (Awake argRecorderFlushesB ∧ argRecorderFlushesB.dev.rcd.waiting = [evClr] ∧
     argRecorderFlushesB.dev.mergeReady = true ∧ argRecorderFlushesB.dev.rcd.clearing = some (rq 0 0 0) ∧
     evClr.src = 36 ∧ evClr.code = 81) ∧
    (Awake (rcdS Mode.build id) ∧
     ((rcdS Mode.build id).dev.mergeReady = false ∨ (rcdS Mode.build id).dev.rcd.waiting = []) ∧
     (rcdS Mode.build id).dev.closing = [] ∧ (rcdS Mode.build id).dev.rcd.dropped = 0) ∧
    (Awake argRecorderFlushesD ∧ argRecorderFlushesD.dev.rcd.noteDue = true) ∧
    (Awake (rcdS Mode.build id) ∧ (rcdS Mode.build id).dev.rcd.noteDue = false) ∧
    (Awake flS ∧ flS.dev.rcd.flushing = true ∧ flS.dev.rcd.again = false ∧ flS.dev.rcd.flushReqs = [] ∧
     flS.dev.rcd.nextReqs = [] ∧ flS.dev.rcd.clearReq = none ∧ flS.dev.rcd.full = false ∧ flS.dev.rcd.dropped = 0 ∧
     1 = flS.dev.rcd.writing ∧ 1 ≤ flS.dev.rcd.buf.length ∧ flS.dev.rcd.wptr + 1 < flS.dev.rcd.mram.area) ∧
    (Awake flS ∧ flS.dev.rcd.flushing = true ∧ flS.dev.rcd.again = false ∧ flS.dev.rcd.flushReqs = [] ∧
     flS.dev.rcd.nextReqs = [] ∧ flS.dev.rcd.clearReq = none ∧ flS.dev.rcd.full = false ∧ flS.dev.rcd.dropped = 0 ∧
     (Xspi.badVerify = Xspi.badVerify ∧ 2 = 2 ∨ Xspi.badVerify = Xspi.noResponse ∧ 2 = 3)) ∧
    (at_ Mode.build).dev.rcd.flushing = false ∧
    (Awake argRecorderFlushesJ ∧ argRecorderFlushesJ.dev.rcd.mram.usable = false) :=
  ⟨by decide +kernel, by decide +kernel,
   ⟨by decide +kernel, (Or.inr (by decide +kernel)), by decide +kernel, by decide +kernel⟩, by decide +kernel,
   by decide +kernel, by decide +kernel,
   ⟨by decide +kernel, by decide +kernel, by decide +kernel, by decide +kernel, by decide +kernel, by decide +kernel, by decide +kernel, by decide +kernel, (Or.inl ⟨rfl, rfl⟩)⟩,
   by decide +kernel, by decide +kernel⟩

def bufS : State := rcdS .build (fun r =>
  { r with mram := usable r.mram, buf := [List.replicate 32 1, List.replicate 32 2] })
def lcS (f : Recorder → Recorder) : State := let d := dv .service; let fu : Fuses := { Fuses.blank with manuf := true }; st { d with bist := { d.bist with fuses := fu, latched := fu }, rcd := f d.rcd }
def argRecorderFlushesRecorderCommandsD := lcS (fun r => { r with flushing := true })

/-- Commands and states that meet the hypotheses of `Obligations.RecorderFlushes` (RecorderCommands), clause by
clause. -/
theorem wit_RecorderFlushes_RecorderCommands :
    (Takes (at_ Mode.build) 0x0A01 cmdRecFlush (rq 0 0 0) ∧ (at_ Mode.build).dev.rcd.mram.usable = false) ∧
    (Takes bufS 0x0A01 cmdRecFlush (rq 0 0 0) ∧ bufS.dev.rcd.mram.usable = true) ∧
    (Takes (lcS id) 0x0A02 cmdRecClear (rq 0 0 0) ∧ (lcS id).dev.rcd.flushing = false) ∧
    (Takes argRecorderFlushesRecorderCommandsD 0x0A02 cmdRecClear (rq 0 0 0) ∧
     argRecorderFlushesRecorderCommandsD.dev.rcd.flushing = true) ∧
    Takes (lcS id) 0x0A05 cmdLifeReset (rq 0 0 0) ∧
    (Up (at_ Mode.service) ∧ (at_ Mode.service).dev.mayTake (asOp 0x0A05 (rq 0 0 0)) = true ∧
     groupOn 2565 ((at_ Mode.service).dev.ringType (rq 0 0 0).ring) = true ∧
     firstFail (shape (asOp 0x0A05 (rq 0 0 0)) [] none 0) = none ∧ (at_ Mode.service).dev.lcState ≠ 1) := by
  refine ⟨?_, ?_, ?_, ?_, ?_, ?_⟩ <;> decide +kernel

def shS : State := rcdS .build (fun r => { r with shadow := [⟨2 ^ 33 + 5, 2, 77⟩] })

/-- Commands and states that meet the hypotheses of `Obligations.RecorderIsRead`, clause by
clause. -/
theorem wit_RecorderIsRead :
    Up bufS ∧
    (Up shS ∧ shS.dev.rcd.shadow[(0 : ℕ)]? = some { t := 2 ^ 33 + 5, kind := 2, addr := 77 : Shadow }) ∧
    (Up shS ∧ shS.dev.rcd.shadow.length ≤ (1 : ℕ)) ∧
    Takes bufS 0x0A80 cmdRecRead (rqR 0 0 2 64) ∧
    Takes bufS 0x0A81 cmdLifeRead (rqR 0 0 0 4096) ∧
    Takes bufS 0x0A82 cmdWoramQuery (rq 0 0 0) := by
  refine ⟨?_, ?_, ?_, ?_, ?_, ?_⟩ <;> decide +kernel

def monS (v : Word) : State := st ((((dv .build).wr (MON_CFG 3) v).wr (MON_MIN 3) 0x7FFFFFFF).wr (MON_MAX 3)
  0x80000000)
def argRecorderIsReadMonitorsSampleK := { rq 0 3 0x80010102 with a2 := 5, a3 := 100 }
def captured (d : Dev) (k : Nat) : Dev := if (rq 0 8 1).a1.bit 0 then (d.stream 6 k (d.capture k) false).monEmpty k
  else d.stream 6 k (d.capture k) false

/-- Commands and states that meet the hypotheses of `Obligations.RecorderIsRead` (MonitorsSample), clause by
clause. -/
theorem wit_RecorderIsRead_MonitorsSample :
    (Awake (monS 0x80010000) ∧ (monS 0x80010000).dev.bit (MON_CFG (3 : ℕ)) 31 = true ∧
     monPresent (monS 0x80010000).dev.variant ((monS 0x80010000).dev.fld (MON_CFG (3 : ℕ)) 16 8) ((monS 0x80010000).dev.fld (MON_CFG (3 : ℕ)) 8 5) = some true ∧
     -2 ^ 31 ≤ ((monS 0x80010000).dev.monValue 1 0).getD (-5) ∧
     ((monS 0x80010000).dev.monValue 1 0).getD (-5) < 2 ^ 31 ∧
     ((monS 0x80010000).dev.monValue 1 0).getD (-5) = ((monS 0x80010000).dev.monValue ((monS 0x80010000).dev.fld (MON_CFG (3 : ℕ)) 16 8) ((monS 0x80010000).dev.fld (MON_CFG (3 : ℕ)) 8 5)).getD (-5)) ∧
    ((at_ Mode.build).dev.bit (MON_CFG (3 : ℕ)) 31 = false ∨ monPresent (at_ Mode.build).dev.variant ((at_ Mode.build).dev.fld (MON_CFG (3 : ℕ)) 16 8) ((at_ Mode.build).dev.fld (MON_CFG (3 : ℕ)) 8 5) ≠ some true) ∧
    Takes (at_ Mode.build) 0x0A03 cmdMonSet argRecorderIsReadMonitorsSampleK ∧
    Takes (monS 0x80010000) 0x0A04 cmdMonCapture (rq 0 8 1) ∧
    3 < 32 :=
  ⟨by decide +kernel, (Or.inl (by decide +kernel)), by decide +kernel, by decide +kernel, by decide +kernel⟩

def burnt : Fuses := { Fuses.blank with manuf := true }
def fielded : State := let d := dv .service; let fu : Fuses := { Fuses.blank with manuf := true, deploy := true }; st { d with bist := { d.bist with fuses := fu, latched := fu } }
def argLifeCycleAndRepairD := { e0 with ok := false }
theorem zerosDoNotSign : authorised fielded.dev.bist.fuses (dataOf (rqD 0 3 0 192) (eD (List.replicate 192 0))) = false := by
  have h : ∀ x y s g, ecdsaVerify x y 0 s g = false := fun x y s g => by simp [ecdsaVerify]
  have z : beNat (((dataOf (rqD 0 3 0 192) (eD (List.replicate 192 0))).drop 96).take 48) = 0 := by decide +kernel
  simp only [authorised]
  rw [z, h, Bool.and_false]

/-- Commands and states that meet the hypotheses of `Obligations.LifeCycleAndRepair`, clause by
clause. -/
theorem wit_LifeCycleAndRepair :
    (Fuses.blank.sound ∧ Fuses.blank.advance 1 0 = some burnt) ∧
    (Takes (at_ Mode.service) 0x0C01 cmdLcAdvance (rq 0 1 0) ∧ (rq 0 1 0).a0.get 0 3 ≠ 3 ∧
     (at_ Mode.service).dev.bist.fuses.advance ((rq 0 1 0).a0.get 0 3) (BitVec.toNat (rq 0 1 0).a1) = some burnt ∧
     e0.ok = true) ∧
    (Takes (at_ Mode.service) 0x0C01 cmdLcAdvance (rq 0 1 0) ∧ (rq 0 1 0).a0.get 0 3 ≠ 3 ∧
     (at_ Mode.service).dev.bist.fuses.advance ((rq 0 1 0).a0.get 0 3) (BitVec.toNat (rq 0 1 0).a1) = some burnt ∧
     argLifeCycleAndRepairD.ok = false) ∧
    (TakesData fielded 0x0C01 cmdLcAdvance (rqD 0 3 0 192) (eD (List.replicate 192 0)) ∧
     (rqD 0 3 0 192).a0.get 0 3 = 3 ∧
     authorised fielded.dev.bist.fuses (dataOf (rqD 0 3 0 192) (eD (List.replicate 192 0))) = false) :=
  ⟨by decide +kernel, by decide +kernel, by decide +kernel, ⟨by decide +kernel, by decide +kernel, zerosDoNotSign⟩⟩

def cfS : State := st { dv .configure with mode := { (dv .configure).mode with fwSup := false } }
def cf64 : State := st (cfS.dev.wr BIST_REPAIR_LEN 64)
theorem crcByte_lt (p c : Nat) (b : Byte) (hp : p < 2 ^ 32) (hc : c < 2 ^ 32) : crcByte p c b < 2 ^ 32 := by
  have hb : b.toNat < 2 ^ 32 := by have := b.isLt; omega
  have step : ∀ (l : List Nat) (x : Nat), x < 2 ^ 32 →
      l.foldl (fun c _ => if c % 2 = 1 then (c / 2) ^^^ p else c / 2) x < 2 ^ 32 := by
    intro l
    induction l with
    | nil => intro x hx; exact hx
    | cons a l ih =>
      intro x hx
      refine ih _ ?_
      show (if x % 2 = 1 then (x / 2) ^^^ p else x / 2) < 2 ^ 32
      split
      · exact Nat.xor_lt_two_pow (by omega) hp
      · omega
  exact step _ _ (Nat.xor_lt_two_pow hc hb)

theorem crc32c_lt (bs : List Byte) : crc32c bs < 2 ^ 32 := by
  have step : ∀ (l : List Byte) (x : Nat), x < 2 ^ 32 → l.foldl (crcByte 0x82F63B78) x < 2 ^ 32 := by
    intro l
    induction l with
    | nil => intro x hx; exact hx
    | cons a l ih => intro x hx; exact ih _ (crcByte_lt _ _ _ (by decide) hx)
  exact Nat.xor_lt_two_pow (step _ _ (by decide)) (by decide)

theorem leNat_leBytes4 (x : Nat) (h : x < 2 ^ 32) : leNat (leBytes 4 x) = x := by
  simp only [leBytes, leNat, BitVec.toNat_ofNat]
  omega

theorem shaRound_length (v : List (BitVec 64)) (k : BitVec 64) : (shaRound v k).length = v.length := by
  unfold shaRound
  split <;> rfl

theorem shaBlock_length (h : List (BitVec 64)) (bs : List Byte) : (shaBlock h bs).length = h.length := by
  have step : ∀ (l v : List (BitVec 64)), (l.foldl shaRound v).length = v.length := by
    intro l
    induction l with
    | nil => intro v; rfl
    | cons a l ih => intro v; rw [List.foldl_cons, ih, shaRound_length]
  simp only [shaBlock, List.length_zipWith, step, Nat.min_self]

theorem shaBlocks_length (n : Nat) (h : List (BitVec 64)) (bs : List Byte) : (shaBlocks n h bs).length = h.length := by
  induction n generalizing h bs with
  | zero => rfl
  | succ n ih => rw [shaBlocks, ih, shaBlock_length]

theorem devIdBytes_length : devIdBytes.length = 16 := by
  have w : ∀ l : List (BitVec 64), (l.flatMap (fun x => beBytes 8 x.toNat)).length = 8 * l.length := by
    intro l
    induction l with
    | nil => rfl
    | cons a l ih => rw [List.flatMap_cons, List.length_append, ih]; simp [beBytes, leBytes]; omega
  simp only [devIdBytes, sha384, List.length_take, w, shaBlocks_length]
  rfl

/-- A repair map with no entries, made for this device. -/
def mapHead : List Byte := leBytes 4 0x52455150 ++ leBytes 2 1 ++ leBytes 2 0 ++ leBytes 4 0 ++ devIdBytes ++
  leBytes 4 (crc32c []) ++ List.replicate 28 0
def mapImg : List Byte := mapHead ++ leBytes 4 (crc32c mapHead)

theorem mapHead_length : mapHead.length = 60 := by simp [mapHead, devIdBytes_length, leBytes]
theorem mapImg_length : mapImg.length = 64 := by simp [mapImg, mapHead_length, leBytes]

theorem mapImgChecks : repairCheck mapImg = stOk := by
  have hi := devIdBytes_length
  have hc := leNat_leBytes4 _ (crc32c_lt mapHead)
  have hl := mapHead_length
  have ht : mapImg.take 60 = mapHead := List.take_left' hl
  have hd : mapImg.drop 60 = leBytes 4 (crc32c mapHead) := List.drop_left' hl
  have hz : crc32c mapHead = bytesAt mapImg 60 4 := by
    rw [bytesAt, hd, List.take_of_length_le (by simp [leBytes]), hc]
  have hn := mapImg_length
  have hp : mapImg = [80, 81, 69, 82, 1, 0, 0, 0, 0, 0, 0, 0] ++ (devIdBytes ++ (leBytes 4 (crc32c []) ++
      (List.replicate 28 0 ++ leBytes 4 (crc32c mapHead)))) := by
    have q : leBytes 4 0x52455150 ++ (leBytes 2 1 ++ (leBytes 2 0 ++ leBytes 4 0)) = [80, 81, 69, 82, 1, 0, 0, 0, 0, 0, 0, 0] := by
      decide
    rw [← q]
    simp only [mapImg, mapHead, List.append_assoc]
  generalize leBytes 4 (crc32c mapHead) = e at *
  have h12 : mapImg.drop 12 = devIdBytes ++ (leBytes 4 (crc32c []) ++ (List.replicate 28 0 ++ e)) := by rw [hp]; rfl
  have h28 : mapImg.drop 28 = leBytes 4 (crc32c []) ++ (List.replicate 28 0 ++ e) := by
    have q : mapImg.drop 28 = (mapImg.drop 12).drop 16 := by rw [List.drop_drop]
    rw [q, h12, ← hi, List.drop_left]
  have h32 : mapImg.drop 32 = List.replicate 28 0 ++ e := by
    have q : mapImg.drop 32 = (mapImg.drop 28).drop 4 := by rw [List.drop_drop]
    rw [q, h28]
    rfl
  have m0 : bytesAt mapImg 0 4 = 0x52455150 := by rw [hp]; rfl
  have m1 : bytesAt mapImg 4 2 = 1 := by rw [hp]; rfl
  have m2 : bytesAt mapImg 6 2 = 0 := by rw [hp]; rfl
  have m3 : bytesAt mapImg 28 4 = crc32c [] := by
    have z : leNat (leBytes 4 (crc32c [])) = crc32c [] := by decide
    rw [bytesAt, h28]
    exact z
  have m4 : (mapImg.drop 12).take 16 = devIdBytes := by rw [h12, ← hi, List.take_left]
  have m5 : allZero ((mapImg.drop 32).take 28) = true := by rw [h32]; rfl
  unfold repairCheck
  simp [m0, m1, m2, m3, m4, m5, hn, ht, ← hz, blocks8, sparesDistinct]
theorem mapImgTake : mapImg = mapImg.take (cf64.dev.fld BIST_REPAIR_LEN 0 14) := by
  rw [show cf64.dev.fld BIST_REPAIR_LEN 0 14 = 64 by decide +kernel, List.take_of_length_le (by rw [mapImg_length])]
theorem mapImgLen : mapImg.length = cf64.dev.fld BIST_REPAIR_LEN 0 14 := by
  rw [mapImg_length]
  decide +kernel
def argLifeCycleAndRepairMemoriesAreRepairedE22 := lcS (fun r => { r with mram := usable r.mram })
def argLifeCycleAndRepairMemoriesAreRepairedE21 := { e0 with blob := List.replicate 32 1 }
def argLifeCycleAndRepairMemoriesAreRepairedF := lcS (fun r => { r with mram := usable r.mram })
def argLifeCycleAndRepairMemoriesAreRepairedI2 := lcS (fun r => { r with mram := usable r.mram })
def argLifeCycleAndRepairMemoriesAreRepairedI1 := { e0 with xspi := .badVerify }
def argLifeCycleAndRepairMemoriesAreRepairedK := { rq 0 1 0 with resultLen := 4096, resultAddr := 4096 }
def runS : State := let d := (lcS id).dev; st { d with bist := { d.bist with run := some (rq 0 1 0, List.replicate 32 1) } }
def argLifeCycleAndRepairMemoriesAreRepairedN := { rq 0 1 0 with op := 0x0C02 }

/-- Commands and states that meet the hypotheses of `Obligations.LifeCycleAndRepair` (MemoriesAreRepaired), clause by
clause. -/
theorem wit_LifeCycleAndRepair_MemoriesAreRepaired :
    (Up (at_ Mode.build) ∧
     ((at_ Mode.build).dev.mode.cur ≠ Mode.configure ∨ (at_ Mode.build).dev.mode.fwSup = true)) ∧
    (Up cfS ∧ cfS.dev.mode.cur = Mode.configure ∧ cfS.dev.mode.fwSup = false) ∧
    (Up cf64 ∧ cf64.dev.mode.cur = Mode.configure ∧ cf64.dev.mode.fwSup = false ∧
     [1, 2].length < cf64.dev.fld BIST_REPAIR_LEN 0 14) ∧
    (Up cf64 ∧ cf64.dev.mode.cur = Mode.configure ∧ cf64.dev.mode.fwSup = false ∧
     List.replicate 64 0 = List.take (cf64.dev.fld BIST_REPAIR_LEN 0 14) (List.replicate 64 0) ∧
     (List.replicate 64 0).length = cf64.dev.fld BIST_REPAIR_LEN 0 14 ∧ repairCheck (List.replicate 64 0) ≠ stOk) ∧
    (Up cf64 ∧ cf64.dev.mode.cur = Mode.configure ∧ cf64.dev.mode.fwSup = false ∧
     mapImg = List.take (cf64.dev.fld BIST_REPAIR_LEN 0 14) mapImg ∧
     mapImg.length = cf64.dev.fld BIST_REPAIR_LEN 0 14 ∧ repairCheck mapImg = stOk) ∧
    Up (at_ Mode.build) ∧
    (Takes (lcS id) 0x0C02 cmdMbistRun (rq 0 1 0) ∧ (lcS id).dev.rcd.mram.usable = false) ∧
    (Takes argLifeCycleAndRepairMemoriesAreRepairedE22 0x0C02 cmdMbistRun (rq 0 1 0) ∧
     argLifeCycleAndRepairMemoriesAreRepairedE22.dev.rcd.mram.usable = true) ∧
    (Takes argLifeCycleAndRepairMemoriesAreRepairedF 0x0C03 cmdRepairStore (rq 0 0 0) ∧
     argLifeCycleAndRepairMemoriesAreRepairedF.dev.rcd.mram.usable = true ∧ e0.xspi = Xspi.ok) ∧
    (Takes (lcS id) 0x0C03 cmdRepairStore (rq 0 0 0) ∧ (lcS id).dev.rcd.mram.usable = false) ∧
    (Takes argLifeCycleAndRepairMemoriesAreRepairedI2 0x0C03 cmdRepairStore (rq 0 0 0) ∧
     argLifeCycleAndRepairMemoriesAreRepairedI2.dev.rcd.mram.usable = true ∧
     (Xspi.badVerify = Xspi.badVerify ∧ 2 = 2 ∨ Xspi.badVerify = Xspi.noResponse ∧ 2 = 3)) ∧
    (Takes (lcS id) 0x0C80 cmdBistQuery (rq 0 0 0) ∧ (rq 0 0 0).a0.bit 0 = false) ∧
    (Takes (lcS id) 0x0C80 cmdBistQuery argLifeCycleAndRepairMemoriesAreRepairedK ∧
     argLifeCycleAndRepairMemoriesAreRepairedK.a0.bit 0 = true) ∧
    (Up runS ∧ runS.dev.mayTake (asOp 0x0C80 (rq 0 0 0)) = true ∧
     groupOn 3200 (runS.dev.ringType (rq 0 0 0).ring) = true ∧
     (firstFail (shape (asOp 0x0C80 (rq 0 0 0)) [1] none (if (rq 0 0 0).a0.bit 0 = true then 4096 else 0)) = none) ∧
     runS.dev.bist.run.isSome = true) ∧
    (runS.dev.bist.run = some (rq 0 1 0, List.replicate 32 1) ∧ (List.replicate 32 1).length = 16 * 2) ∧
    argLifeCycleAndRepairMemoriesAreRepairedN.op = 3074 :=
  ⟨⟨by decide +kernel, (Or.inl (by decide +kernel))⟩, by decide +kernel, by decide +kernel, by decide +kernel,
   ⟨by decide +kernel, by decide +kernel, by decide +kernel, mapImgTake, mapImgLen, mapImgChecks⟩, by decide +kernel,
   by decide +kernel, by decide +kernel, by decide +kernel, by decide +kernel,
   ⟨by decide +kernel, by decide +kernel, (Or.inl ⟨rfl, rfl⟩)⟩, by decide +kernel, by decide +kernel,
   by decide +kernel, by decide +kernel, by decide +kernel⟩

end Sys2Proof.Tests
end

section
/-! SUPPORT. The fields of a word by their bits: what a field reads, and what stays, after a field has been replaced
(R14). -/

namespace Sys2Proof

@[simp] theorem Word.testBit_get (w : Word) (lo n j : Nat) :
    (w.get lo n).testBit j = (decide (j < n) && w.bit (lo + j)) := by
  simp [Word.get, bitsAt, Word.bit, Nat.testBit_mod_two_pow, Nat.testBit_shiftRight, BitVec.getLsbD]

theorem Word.get_lt (w : Word) (lo n : Nat) : w.get lo n < 2 ^ n := Nat.mod_lt _ (by positivity)

/-- A word's number, cut into what lies above a field, the field, and what lies below it. -/
theorem Word.toNat_eq_parts (w : Word) (lo n : Nat) :
    w.toNat = 2 ^ lo * (2 ^ n * (w.toNat / 2 ^ lo / 2 ^ n) + w.get lo n) + w.toNat % 2 ^ lo := by
  have hget : w.get lo n = w.toNat / 2 ^ lo % 2 ^ n := by simp [Word.get, bitsAt, Nat.shiftRight_eq_div_pow]
  rw [hget, Nat.div_add_mod, Nat.div_add_mod]

theorem Word.put_eq_parts (w : Word) (lo n v : Nat) :
    w.put lo n v =
      BitVec.ofNat 32 (2 ^ lo * (2 ^ n * (w.toNat / 2 ^ lo / 2 ^ n) + v % 2 ^ n) + w.toNat % 2 ^ lo) := by
  have hw := w.toNat_eq_parts lo n
  unfold Word.put
  congr 1
  rw [Nat.mul_add] at hw ⊢
  rw [Nat.mul_comm (w.get lo n), Nat.mul_comm (v % 2 ^ n)]
  omega

/-- What a bit reads after a field has been replaced. -/
theorem Word.bit_put (w : Word) (lo n v k : Nat) (hk : k < 32) :
    (w.put lo n v).bit k = if lo ≤ k ∧ k < lo + n then v.testBit (k - lo) else w.bit k := by
  have hlow : w.toNat % 2 ^ lo < 2 ^ lo := Nat.mod_lt _ (by positivity)
  have hmid : v % 2 ^ n < 2 ^ n := Nat.mod_lt _ (by positivity)
  rw [Word.put_eq_parts, Word.bit, BitVec.getLsbD_ofNat, Nat.testBit_two_pow_mul_add _ hlow,
    Nat.testBit_two_pow_mul_add _ hmid]
  simp only [hk, decide_true, Bool.true_and]
  by_cases hb : k < lo
  · have h : ¬ (lo ≤ k ∧ k < lo + n) := by omega
    simp [hb, h, Nat.testBit_mod_two_pow, Word.bit, BitVec.getLsbD]
  · by_cases ha : k < lo + n
    · have h : lo ≤ k ∧ k < lo + n := by omega
      have h' : k - lo < n := by omega
      simp [hb, h, h', Nat.testBit_mod_two_pow]
    · have h : ¬ (lo ≤ k ∧ k < lo + n) := by omega
      have h' : ¬ k - lo < n := by omega
      have e : k - lo - n + n + lo = k := by omega
      simp [hb, h, h', Word.bit, BitVec.getLsbD, Nat.testBit_div_two_pow, e]

/-- A field that has been replaced reads its new value, cut to the field's width. -/
theorem Word.get_put_same (w : Word) (lo n v : Nat) (h : lo + n ≤ 32) : (w.put lo n v).get lo n = v % 2 ^ n := by
  refine Nat.eq_of_testBit_eq fun j => ?_
  rw [Word.testBit_get, Nat.testBit_mod_two_pow]
  by_cases hj : j < n
  · have hin : lo ≤ lo + j ∧ lo + j < lo + n := by omega
    simp [hj, Word.bit_put w lo n v (lo + j) (by omega), hin]
  · simp [hj]

/-- A field that the replaced one does not meet stays. -/
theorem Word.get_put_apart (w : Word) (lo n v lo' n' : Nat) (h : lo' + n' ≤ 32) (ha : lo' + n' ≤ lo ∨ lo + n ≤ lo') :
    (w.put lo n v).get lo' n' = w.get lo' n' := by
  refine Nat.eq_of_testBit_eq fun j => ?_
  rw [Word.testBit_get, Word.testBit_get]
  by_cases hj : j < n'
  · have hout : ¬ (lo ≤ lo' + j ∧ lo' + j < lo + n) := by omega
    rw [Word.bit_put w lo n v (lo' + j) (by omega), if_neg hout]
  · simp [hj]

/-- The bits set in a word, as the list of their numbers. -/
theorem mem_bitList_toNat (n i : Nat) (w : Word) : i ∈ bitList n w.toNat ↔ i < n ∧ w.bit i = true := by
  simp [bitList, Word.bit, BitVec.getLsbD]

end Sys2Proof
end

section
/-! SUPPORT. Host accesses: when two answer the same, and when one changes nothing. -/

namespace Sys2Proof.Machine

/-- Two host accesses that do the same to the device at hand answer the same. -/
theorem whenUp_congr {s : State} {f g : Dev → Dev} (h : f s.dev = g s.dev) : s.whenUp f = s.whenUp g := by
  unfold State.whenUp
  rw [h]

/-- A host access that leaves the device as it is leaves the state. -/
theorem whenUp_same {s : State} {f : Dev → Dev} (h : f s.dev = s.dev) : s.whenUp f = .next s := by
  unfold State.whenUp
  rw [h, ite_self]

/-- While the device is up, no host access is turned away. -/
theorem not_down_of_up {s : State} (h : Up s) : ¬ (s.dev.mode.boot < 4 ∨ s.dev.rcd.pfail = true) := by
  rintro (hb | hp)
  · exact absurd h.1 (by omega)
  · simp [h.2] at hp

end Sys2Proof.Machine
end

section
/-! SUPPORT. Registers zeroed together, and O26: what a write of a CNT_CLR register does (R166, R236, R265, R288, R308,
R318, R332, R363, R388, R406, R410). -/

namespace Sys2Proof.Machine

/-- The registers of a list set to zero. -/
def Dev.zeroRegs (d : Dev) (l : List Nat) : Dev := l.foldl (fun d o => d.wr o 0) d

theorem Dev.rd_zeroRegs (d : Dev) (l : List Nat) (o : Nat) :
    (d.zeroRegs l).rd o = if o ∈ l then 0 else d.rd o := by
  induction l generalizing d with
  | nil => simp [Dev.zeroRegs]
  | cons a l ih =>
    show ((d.wr a 0).zeroRegs l).rd o = _
    rw [ih, Dev.rd_wr]
    by_cases ha : o = a <;> by_cases hl : o ∈ l <;> simp [ha, hl]

/-- Zeroing registers changes nothing but the register bank. -/
theorem Dev.zeroRegs_eq (d : Dev) (l : List Nat) : d.zeroRegs l = { d with regs := (d.zeroRegs l).regs } :=
  foldl_keeps (fun a b : Dev => b = { a with regs := b.regs }) (fun _ => rfl)
    (fun _ _ _ hab hbc => by rw [hbc, hab]) _ (fun _ _ => rfl) l d

/-- Of `n` bits, each with a list of registers: those of the bits set in `val` zeroed, bit by bit. -/
def Dev.zeroNamed (n : Nat) (val : Word) (regs : Nat → List Nat) (d : Dev) : Dev :=
  (bitList n val.toNat).foldl (fun d i => d.zeroRegs (regs i)) d

theorem Dev.zeroNamed_eq (n : Nat) (val : Word) (regs : Nat → List Nat) (d : Dev) :
    d.zeroNamed n val regs = d.zeroRegs ((bitList n val.toNat).flatMap regs) :=
  List.foldl_flatMap.symm

theorem mem_namedRegs {n off : Nat} {val : Word} {regs : Nat → List Nat} :
    off ∈ (bitList n val.toNat).flatMap regs ↔ ∃ i, (i < n ∧ val.bit i = true) ∧ off ∈ regs i := by
  simp only [List.mem_flatMap, mem_bitList_toNat]

/-- A register of bit `i` alone is zeroed exactly when bit `i` is set. -/
theorem Dev.rd_zeroNamed {n i off : Nat} {regs : Nat → List Nat} (d : Dev) (val : Word)
    (apart : ∀ i j off, i < n → j < n → off ∈ regs i → off ∈ regs j → i = j) (hi : i < n) (ho : off ∈ regs i) :
    (d.zeroNamed n val regs).rd off = if val.bit i then 0 else d.rd off := by
  rw [Dev.zeroNamed_eq, Dev.rd_zeroRegs]
  refine if_congr (mem_namedRegs.trans ⟨?_, fun hb => ⟨i, ⟨hi, hb⟩, ho⟩⟩) rfl rfl
  rintro ⟨j, ⟨hj, hb⟩, hoj⟩
  rwa [apart i j off hi hj ho hoj]

/-- A register of no bit stays. -/
theorem Dev.rd_zeroNamed_other {n off : Nat} {regs : Nat → List Nat} (d : Dev) (val : Word)
    (hout : ∀ i, i < n → off ∉ regs i) : (d.zeroNamed n val regs).rd off = d.rd off := by
  rw [Dev.zeroNamed_eq, Dev.rd_zeroRegs, if_neg]
  rw [mem_namedRegs]
  rintro ⟨i, ⟨hi, -⟩, ho⟩
  exact hout i hi ho

/-- A host access that zeroes the registers its bits name: they read zero, and every other register keeps its word. -/
theorem clears_of_zeroNamed {s : State} {c : Instr} {val : Word} {regs : Nat → List Nat} (n : Dev → Nat) (hu : Up s)
    (hexec : exec c s = s.whenUp (fun d => d.zeroNamed (n d) val regs))
    (apart : ∀ i j off, i < n s.dev → j < n s.dev → off ∈ regs i → off ∈ regs j → i = j) :
    ∃ t, exec c s = .next t ∧ OnlyDevice s t ∧ t.dev = { s.dev with regs := t.dev.regs } ∧
      (∀ i off, i < n s.dev → off ∈ regs i → t.dev.rd off = if val.bit i then 0 else s.dev.rd off) ∧
      ∀ off, (∀ i, i < n s.dev → off ∉ regs i) → t.dev.rd off = s.dev.rd off := by
  refine ⟨_, hexec.trans (whenUp_up _ _ hu), ⟨rfl, rfl⟩, ?_, fun i off hi ho => s.dev.rd_zeroNamed val apart hi ho,
    fun off hout => s.dev.rd_zeroNamed_other val hout⟩
  rw [Dev.zeroNamed_eq]
  exact s.dev.zeroRegs_eq _

/-! ## Blocks with one counter a bit -/

theorem Dev.clearCounts_eq (d : Dev) (val : Word) (regs : List Nat) :
    d.clearCounts val regs = d.zeroNamed regs.length val (fun i => [regs.getD i 0]) := by
  unfold Dev.clearCounts Dev.zeroNamed bitList
  rw [List.foldl_filter]
  rfl

/-- The same for a block with one counter a bit, given as the list of its counters. -/
theorem clears_of_clearCounts {s : State} {c : Instr} {val : Word} {regs : List Nat} (hu : Up s)
    (hexec : exec c s = s.whenUp (fun d => d.clearCounts val regs)) (apart : regs.Nodup) :
    ∃ t, exec c s = .next t ∧ OnlyDevice s t ∧ t.dev = { s.dev with regs := t.dev.regs } ∧
      (∀ i (h : i < regs.length), t.dev.rd regs[i] = if val.bit i then 0 else s.dev.rd regs[i]) ∧
      ∀ off, off ∉ regs → t.dev.rd off = s.dev.rd off := by
  have hone : ∀ {i off}, i < regs.length → (off ∈ [regs.getD i 0] ↔ ∃ h : i < regs.length, off = regs[i]) :=
    fun hi => by simp [hi]
  simp only [Dev.clearCounts_eq] at hexec
  obtain ⟨t, ht, honly, hdev, hzero, hframe⟩ := clears_of_zeroNamed (fun _ => regs.length) hu hexec (by
    intro i j off hi hj h h'
    obtain ⟨_, rfl⟩ := (hone hi).mp h
    obtain ⟨_, h'⟩ := (hone hj).mp h'
    exact apart.getElem_inj_iff.mp h')
  refine ⟨t, ht, honly, hdev, fun i hi => hzero i _ hi ((hone hi).mpr ⟨hi, rfl⟩), fun off hout => ?_⟩
  refine hframe off fun i hi h => ?_
  obtain ⟨_, rfl⟩ := (hone hi).mp h
  exact hout (List.getElem_mem hi)

/-- A clear in the block of a present engine that is not fenced. -/
theorem engine_clears_reached {s : State} {n : Fin 18} (val : Word) (h : s.dev.engBlock n = true) :
    exec (.benCntClr n val) s = s.whenUp (fun d => d.clearCounts val [BE_CNT n 0, BE_CNT n 1, BE_CNT n 2]) ∧
    exec (.mpCntClr n val) s =
      s.whenUp (fun d => d.clearCounts val [BE_MP_CNT n 0, BE_MP_CNT n 1, BE_MP_CNT n 2, BE_MP_CNT n 3]) :=
  ⟨whenUp_congr (if_pos h), whenUp_congr (if_pos h)⟩

/-- The block of an absent or fenced engine takes no clear (R9, R481). -/
theorem engine_clears_unreached {s : State} (n : Fin 18) (val : Word) (h : s.dev.engBlock n = false) :
    exec (.benCntClr n val) s = .next s ∧ exec (.mpCntClr n val) s = .next s :=
  ⟨whenUp_same (by simp [h]), whenUp_same (by simp [h])⟩

/-! ## Timed outputs and captures -/

/-- The counter of bit `i` of TIME_CNT_CLR: of timed output i, or of capture i − 8 (R406, R410). -/
def timeCounter (i : Nat) : List Nat := if i < 8 then [TIME_TOUT_SKIP_CNT i] else [TIME_TCAP_DROP_CNT (i - 8)]

/-- The bits below 16 are those of the low byte and, 8 on, those of the second. -/
theorem bitList_two_bytes (val : Word) :
    bitList 16 val.toNat = bitList 8 (val.get 0 8) ++ (bitList 8 (val.get 8 8)).map (8 + ·) := by
  have hlow : (List.range 8).filter (fun i => val.toNat.testBit i) = bitList 8 (val.get 0 8) :=
    List.filter_congr fun i hi => by simp [List.mem_range.mp hi, Word.bit, BitVec.getLsbD]
  have hhigh : (List.range 8).filter ((fun i => val.toNat.testBit i) ∘ (8 + ·)) = bitList 8 (val.get 8 8) :=
    List.filter_congr fun i hi => by simp [List.mem_range.mp hi, Word.bit, BitVec.getLsbD]
  show (List.range (8 + 8)).filter _ = _
  rw [List.range_add, List.filter_append, List.filter_map, hlow, hhigh]

/-- The two folds of TIME_CNT_CLR are one over the sixteen bits. -/
theorem timeCntClr_eq_zeroNamed (d : Dev) (val : Word) :
    (bitList 8 (val.get 8 8)).foldl (fun d i => d.wr (TIME_TCAP_DROP_CNT i) 0)
        ((bitList 8 (val.get 0 8)).foldl (fun d i => d.wr (TIME_TOUT_SKIP_CNT i) 0) d) =
      d.zeroNamed 16 val timeCounter := by
  have hlow : (bitList 8 (val.get 0 8)).foldl (fun d i => d.zeroRegs (timeCounter i)) d =
      (bitList 8 (val.get 0 8)).foldl (fun d i => d.wr (TIME_TOUT_SKIP_CNT i) 0) d :=
    List.foldl_ext _ _ d fun d i hi => by
      have h8 : i < 8 := List.mem_range.mp (List.mem_filter.mp hi).1
      simp [timeCounter, h8, Dev.zeroRegs]
  have hhigh : ∀ i, timeCounter (8 + i) = [TIME_TCAP_DROP_CNT i] := fun i => by simp [timeCounter]
  rw [Dev.zeroNamed, bitList_two_bytes, List.foldl_append, List.foldl_map, hlow]
  simp only [hhigh]
  rfl

theorem exec_timeCntClr (s : State) (val : Word) :
    exec (.timeCntClr val) s = s.whenUp (fun d => d.zeroNamed 16 val timeCounter) := by
  show execTimeCntClr val s = _
  exact whenUp_congr (by exact timeCntClr_eq_zeroNamed s.dev val)

/-- Settles O26: each command zeroes the registers its bits name, and no register belongs to two bits. -/
theorem countersClear : Obligations.CountersClear := by
  refine ⟨?_, fun n val s h => engine_clears_unreached n val h, ?_⟩
  · rintro val s c regs hu (⟨n, hb, rfl, rfl⟩ | ⟨n, hb, rfl, rfl⟩ | ⟨rfl, rfl⟩ | ⟨rfl, rfl⟩ | ⟨rfl, rfl⟩)
    · exact clears_of_clearCounts hu (engine_clears_reached val hb).1 (by simp [BE_CNT])
    · exact clears_of_clearCounts hu (engine_clears_reached val hb).2 (by simp [BE_MP_CNT])
    · exact clears_of_clearCounts hu rfl (by decide)
    · exact clears_of_clearCounts hu rfl (by decide)
    · exact clears_of_clearCounts hu rfl (by decide)
  · rintro val s c regs n hu
      (⟨rfl, rfl, rfl⟩ | ⟨rfl, rfl, rfl⟩ | ⟨rfl, rfl, rfl⟩ | ⟨rfl, rfl, rfl⟩ | ⟨rfl, rfl, rfl⟩)
    · exact clears_of_zeroNamed (fun d => nBeams d.variant) hu rfl (by simp [SCN_PORT_CNT]; omega)
    · exact clears_of_zeroNamed (fun d => nBeams d.variant) hu rfl (by simp [LAS_CNT]; omega)
    · exact clears_of_zeroNamed (fun _ => 20) hu rfl (by simp [VIS_PORT_CNT, VIS_PORT_DISC_CNT]; omega)
    · exact clears_of_zeroNamed (fun d => nByoft d.variant) hu rfl
        (by simp [BYF_PORT_RETRY_CNT, BYF_PORT_CRC_CNT, BYF_PORT_RETRAIN_CNT]; omega)
    · refine clears_of_zeroNamed (fun _ => 16) hu (exec_timeCntClr s val) ?_
      intro i j off hi hj h h'
      simp only [TIME_TOUT_SKIP_CNT, TIME_TCAP_DROP_CNT] at h h'
      split at h <;> split at h' <;> rw [List.mem_singleton] at h h' <;> omega

end Sys2Proof.Machine
end

section
/-! SUPPORT. A write of RW and W1C fields, and O13 and O14: the block of an absent unit, and what a host write leaves
(R9, R15, R43, R47). -/

namespace Sys2Proof.Machine

/-! ## The block of an absent unit (R9) -/

section absentUnit

variable {off : Nat} {s : State} {row : RegRow} {i j : Nat} (hrow : regRow off = some (row, i, j))
  (habs : row.present s.dev.variant off i = false)

include hrow habs

theorem readLive_absent : s.dev.readLive off = 0 := by
  simp [Dev.readLive, hrow, habs]

theorem readReg_absent : s.dev.readReg off = 0 := by
  simp [Dev.readReg, hrow, habs, readLive_absent hrow habs]

end absentUnit

theorem registerWrite_absent {off : BitVec 25} {s : State} {row : RegRow} {i j : Nat} (val hwMask hwVal : Word)
    (hrow : regRow off.toNat = some (row, i, j)) (habs : row.present s.dev.variant off.toNat i = false) :
    exec (.registerWrite off val hwMask hwVal) s = .next s := by
  show execRegisterWrite off val hwMask hwVal s = _
  simp only [execRegisterWrite, hrow, habs, Bool.not_false, or_true, if_true]
  exact whenUp_same rfl

theorem w1cClear_absent {off : BitVec 25} {s : State} {row : RegRow} {i j : Nat} (val hwSet : Word)
    (hrow : regRow off.toNat = some (row, i, j)) (habs : row.present s.dev.variant off.toNat i = false) :
    exec (.w1cClear off val hwSet) s = .next s := by
  show execW1cClear off val hwSet s = _
  exact whenUp_same (by simp [hrow, habs])

/-- What a BAR0 read answers leaves the device, and nothing but the holding copies changes (R44). -/
theorem exec_lowWordRead (off : BitVec 25) {s : State} (hu : Up s) :
    exec (.lowWordRead off) s = .next { s with dev := { s.dev with
      out := .regRead off.toNat (s.dev.readReg off.toNat) :: s.dev.out
      copies := if pairLow off.toNat then bankSet s.dev.copies (off.toNat + 4) (s.dev.readLive (off.toNat + 4))
        else s.dev.copies } } := by
  show execLowWordRead off s = _
  unfold execLowWordRead
  rw [whenUp_up _ _ hu]
  cases h : pairLow off.toNat <;> simp [h, Dev.send]

/-- Settles O13: every access finds the unit absent first. -/
theorem absentBlocksAreInert : Obligations.AbsentBlocksAreInert := by
  intro off val hwMask hwVal s row i j hrow habs
  refine ⟨registerWrite_absent val hwMask hwVal hrow habs, w1cClear_absent val hwVal hrow habs,
    readLive_absent hrow habs, fun hu => ?_⟩
  have hexec := exec_lowWordRead off hu
  rw [readReg_absent hrow habs] at hexec
  exact ⟨_, hexec, ⟨rfl, rfl⟩, rfl, rfl, rfl, rfl⟩

/-! ## Fields of one write (R15, R43, R47) -/

@[simp] theorem Word.zero_get (lo n : Nat) : Word.get 0#32 lo n = 0 := by simp [Word.get, bitsAt]

section rwFields

variable {fs : List Field} (hrw : ∀ f ∈ fs, f.acc = .rw) (clear : Field → Bool) (val hwVal : Word) (a : FieldWrite)

include hrw

/-- Where the mode admits them, RW fields take their values by their limits; nothing is refused or lost. -/
theorem foldl_writeField_admitted :
    fs.foldl (fun a f => writeField true (clear f) val 0 hwVal a f) a = { a with w := storedWord fs val a.w } := by
  induction fs generalizing a with
  | nil => rfl
  | cons f fs ih =>
    have hf : writeField true (clear f) val 0 hwVal a f =
        { a with w := a.w.put f.lo f.width (f.clamp.store f.width (val.get f.lo f.width)) } := by
      simp [writeField, hrw f (by simp)]
    rw [List.foldl_cons, hf, ih (fun g hg => hrw g (List.mem_cons_of_mem _ hg))]
    rfl

/-- Where it does not, the word stays, and a field whose value differs is refused. -/
theorem foldl_writeField_refused :
    fs.foldl (fun a f => writeField false (clear f) val 0 hwVal a f) a =
      { a with refused := a.refused || fs.any (fun f => val.get f.lo f.width != a.w.get f.lo f.width) } := by
  induction fs generalizing a with
  | nil => simp
  | cons f fs ih =>
    have hf : writeField false (clear f) val 0 hwVal a f =
        { a with refused := a.refused || val.get f.lo f.width != a.w.get f.lo f.width } := by
      simp [writeField, hrw f (by simp)]
    rw [List.foldl_cons, hf, ih (fun g hg => hrw g (List.mem_cons_of_mem _ hg))]
    simp [Bool.or_assoc]

end rwFields

/-- Bit `k` of a register lies in the field. -/
def Field.covers (f : Field) (k : Nat) : Bool := decide (f.lo ≤ k) && decide (k < f.lo + f.width)

section w1cFields

variable (takes : Bool) (val hwSet : Word)

/-- A W1C field: the bits written 1 are cleared, and those that hardware sets stand. -/
theorem bit_writeField_w1c {f : Field} (hacc : f.acc = .w1c) (a : FieldWrite) {k : Nat} (hk : k < 32) :
    (writeField takes true val hwSet hwSet a f).w.bit k =
      if f.covers k then (a.w.bit k && !val.bit k) || hwSet.bit k else a.w.bit k := by
  simp only [writeField, hacc]
  rw [Word.bit_put _ _ _ _ _ hk]
  by_cases hc : f.lo ≤ k ∧ k < f.lo + f.width
  · have hin : k - f.lo < f.width := by omega
    have hat : f.lo + (k - f.lo) = k := by omega
    have hclear : (2 ^ f.width - 1 - val.get f.lo f.width % 2 ^ f.width).testBit (k - f.lo) = !val.bit k := by
      rw [Nat.sub_sub, Nat.add_comm 1, Nat.testBit_two_pow_sub_succ (Nat.mod_lt _ (by positivity)),
        Nat.testBit_mod_two_pow]
      simp [hin, hat]
    simp [Field.covers, hc, Nat.testBit_or, Nat.testBit_and, hclear, hin, hat]
  · simp [Field.covers, hc]

theorem refused_writeField_w1c {f : Field} (hacc : f.acc = .w1c) (a : FieldWrite) :
    (writeField takes true val hwSet hwSet a f).refused = a.refused := by
  simp [writeField, hacc]

/-- Nothing is lost where hardware sets no bit that is written 1. -/
theorem lost_writeField_w1c {f : Field} (hacc : f.acc = .w1c) (hapart : val &&& hwSet = 0) (a : FieldWrite) :
    (writeField takes true val hwSet hwSet a f).lost = a.lost := by
  have hfld : val.get f.lo f.width &&& hwSet.get f.lo f.width = 0 := by
    refine Nat.eq_of_testBit_eq fun j => ?_
    have hbit : (val.bit (f.lo + j) && hwSet.bit (f.lo + j)) = false := by
      simpa [Word.bit] using congrArg (fun w : Word => w.getLsbD (f.lo + j)) hapart
    rw [Nat.testBit_and, Word.testBit_get, Word.testBit_get, Nat.zero_testBit]
    cases hv : val.bit (f.lo + j) <;> simp_all
  have hnone : popCount 0#32 = 0 := by decide
  simp [writeField, hacc, hfld, hnone]

variable {fs : List Field} (hw1c : ∀ f ∈ fs, f.acc = .w1c) (a : FieldWrite)

include hw1c

theorem bit_foldl_w1c {k : Nat} (hk : k < 32) :
    (fs.foldl (fun a f => writeField takes true val hwSet hwSet a f) a).w.bit k =
      if fs.any (fun f => f.covers k) then (a.w.bit k && !val.bit k) || hwSet.bit k else a.w.bit k := by
  induction fs generalizing a with
  | nil => simp
  | cons f fs ih =>
    rw [List.foldl_cons, ih (fun g hg => hw1c g (List.mem_cons_of_mem _ hg)),
      bit_writeField_w1c takes val hwSet (hw1c f (by simp)) a hk, List.any_cons]
    cases f.covers k <;> cases fs.any (fun f => f.covers k) <;> simp
    cases a.w.bit k <;> cases val.bit k <;> simp

theorem refused_foldl_w1c :
    (fs.foldl (fun a f => writeField takes true val hwSet hwSet a f) a).refused = a.refused := by
  induction fs generalizing a with
  | nil => rfl
  | cons f fs ih =>
    rw [List.foldl_cons, ih (fun g hg => hw1c g (List.mem_cons_of_mem _ hg)),
      refused_writeField_w1c takes val hwSet (hw1c f (by simp))]

theorem lost_foldl_w1c (hapart : val &&& hwSet = 0) :
    (fs.foldl (fun a f => writeField takes true val hwSet hwSet a f) a).lost = a.lost := by
  induction fs generalizing a with
  | nil => rfl
  | cons f fs ih =>
    rw [List.foldl_cons, ih (fun g hg => hw1c g (List.mem_cons_of_mem _ hg)),
      lost_writeField_w1c takes val hwSet (hw1c f (by simp)) hapart]

end w1cFields

/-! ## A write of a register -/

/-- A lost clear touches its counter alone. -/
theorem Dev.rd_lostClear_other (d : Dev) {off n b o : Nat} (h : o ≠ off + 0x8000) :
    (d.lostClear off n b).rd o = d.rd o := by
  unfold Dev.lostClear
  split
  · rfl
  · exact d.rd_wr_other _ _ _ h

@[simp] theorem Dev.lostClear_none (d : Dev) (off b : Nat) : d.lostClear off 0 b = d := rfl

theorem Dev.signalNew_other (d : Dev) {off : Nat} (h : off ≠ HIF_ERR_STATUS) (old new : Word) :
    d.signalNew off old new = d := if_neg fun hc => h hc.1

/-- A write in CONFIGURE, or where R47 admits it: the register takes the stored word. -/
theorem Dev.writeWord_admitted (d : Dev) {off : Nat} {fs : List Field} (lc : Bool) (val hwVal : Word)
    (hoff : off ≠ HIF_ERR_STATUS) (hrw : ∀ f ∈ fs, f.acc = .rw) (ht : d.admitsWrite off = true) :
    d.writeWord off lc fs val 0 hwVal = d.wr off (storedWord fs val (d.rd off)) := by
  simp only [Dev.writeWord, ht, foldl_writeField_admitted hrw, Dev.signalNew_other _ hoff, Dev.lostClear_none]
  cases lc <;> rfl

/-- A write elsewhere: the register keeps its word, and a value that differs is reported. -/
theorem Dev.writeWord_refused (d : Dev) {off : Nat} {fs : List Field} (lc : Bool) (val hwVal : Word)
    (hoff : off ≠ HIF_ERR_STATUS) (hrw : ∀ f ∈ fs, f.acc = .rw) (ht : d.admitsWrite off = false) :
    d.writeWord off lc fs val 0 hwVal =
      if fs.all (fun f => val.get f.lo f.width == (d.rd off).get f.lo f.width) then d.wr off (d.rd off)
      else (d.wr off (d.rd off)).refuse off := by
  simp only [Dev.writeWord, ht, foldl_writeField_refused hrw, Dev.signalNew_other _ hoff, Dev.lostClear_none, ite_self,
    Bool.false_or]
  rw [← ite_not]
  refine if_congr ?_ rfl rfl
  simp

/-- The registers of `ordinary` take the plain write (R15). -/
theorem registerWrite_ordinary {off : BitVec 25} {s : State} {row : RegRow} {i j : Nat} {val : Word} (hwVal : Word)
    (hu : Up s) (hrow : regRow off.toNat = some (row, i, j)) (hpres : row.present s.dev.variant off.toNat i = true)
    (hord : ordinary off.toNat) (hown : ownWrite off.toNat i j val = none) :
    exec (.registerWrite off val 0 hwVal) s =
      .next { s with dev := s.dev.writeWord off.toNat row.lc row.fields val 0 hwVal } := by
  obtain ⟨hword, -, hpage, hring, hlock, htime, hbyf⟩ := hord
  have hreach : ¬ (off.toNat % 4 ≠ 0 ∨ (!row.present s.dev.variant off.toNat i) = true) := by simp [hword, hpres]
  have hengine : ¬ (8 ≤ off.toNat / 0x10000 ∧ off.toNat / 0x10000 ≤ 0x19 ∧
      s.dev.fencedUnit (off.toNat / 0x10000 - 8) = true) := by omega
  have hring' : ¬ (off.toNat / 0x10000 = 3 ∧ 0x1000 ≤ off.toNat % 0x10000 ∧ s.dev.ringOn i = true) :=
    fun h => hring ⟨h.1, h.2.1⟩
  have hlock' : ¬ (off.toNat / 0x10000 = 0x20 ∧ 0x1000 ≤ off.toNat % 0x10000 ∧ s.dev.lockValid i = true ∧
      off.toNat % 0x10000 % 0x100 ≠ 8) := fun h => hlock ⟨h.1, h.2.1⟩
  show execRegisterWrite off val 0 hwVal s = _
  simp only [execRegisterWrite, hrow, if_neg hreach, hown]
  rw [whenUp_up _ _ hu]
  simp only [Dev.plainWrite, if_neg hengine, if_neg hring', if_neg hlock', if_neg htime, if_neg hbyf]

/-- A W1C write outside the pages of the engines reaches the fields of its register. -/
theorem w1cClear_present {off : BitVec 25} {s : State} {row : RegRow} {i j : Nat} (val hwSet : Word) (hu : Up s)
    (hrow : regRow off.toNat = some (row, i, j)) (hpres : row.present s.dev.variant off.toNat i = true)
    (hpage : off.toNat < 0x80000 ∨ 0x1A0000 ≤ off.toNat) :
    exec (.w1cClear off val hwSet) s = .next { s with
      dev := s.dev.writeWord off.toNat row.lc (row.fields.filter (fun f => f.acc == .w1c)) val hwSet hwSet } := by
  have hengine : ¬ (8 ≤ off.toNat / 0x10000 ∧ off.toNat / 0x10000 ≤ 0x19) := by omega
  show execW1cClear off val hwSet s = _
  unfold execW1cClear
  rw [whenUp_up _ _ hu]
  simp only [hrow, hpres]
  rw [if_neg]
  simp only [Bool.not_true, Bool.false_or, Bool.and_eq_true, decide_eq_true_eq]
  exact fun h => hengine h.1

/-- What a write of W1C fields leaves: every bit, the lost-clear counter, and every other register. -/
theorem Dev.writeWord_w1c (d : Dev) {off : Nat} {fs : List Field} (lc : Bool) (val hwSet : Word)
    (hoff : off ≠ HIF_ERR_STATUS) (htime : off ≠ TIME_ERR) (hw1c : ∀ f ∈ fs, f.acc = .w1c) :
    (∀ k, k < 32 → ((d.writeWord off lc fs val hwSet hwSet).rd off).bit k =
      if fs.any (fun f => f.covers k) then ((d.rd off).bit k && !val.bit k) || hwSet.bit k else (d.rd off).bit k) ∧
    (val &&& hwSet = 0 → (d.writeWord off lc fs val hwSet hwSet).rd (off + 0x8000) = d.rd (off + 0x8000)) ∧
    ∀ o, o ≠ off → o ≠ off + 0x8000 → (d.writeWord off lc fs val hwSet hwSet).rd o = d.rd o := by
  have hclear : ∀ f, d.clearsField off f = true := fun f => by simp [Dev.clearsField, htime]
  obtain ⟨a, ha⟩ : ∃ a, a = fs.foldl (fun a f => writeField (d.admitsWrite off) true val hwSet hwSet a f)
      ⟨d.rd off, false, 0, 32⟩ := ⟨_, rfl⟩
  have hrefused : a.refused = false := ha ▸ refused_foldl_w1c _ val hwSet hw1c _
  have hword : d.writeWord off lc fs val hwSet hwSet =
      if lc then (d.wr off a.w).lostClear off a.lost a.last else d.wr off a.w := by
    simp only [Dev.writeWord, hclear, ← ha, Dev.signalNew_other _ hoff, hrefused]
    rfl
  have hother : ∀ o, o ≠ off + 0x8000 → (d.writeWord off lc fs val hwSet hwSet).rd o = (d.wr off a.w).rd o := by
    intro o ho
    rw [hword]
    split
    · exact Dev.rd_lostClear_other _ ho
    · rfl
  refine ⟨fun k hk => ?_, fun hapart => ?_, fun o ho ho' => ?_⟩
  · rw [hother off (by omega), Dev.rd_wr_same, ha]
    exact bit_foldl_w1c _ val hwSet hw1c _ hk
  · have hlost : a.lost = 0 := ha ▸ lost_foldl_w1c _ val hwSet hw1c _ hapart
    rw [hword, hlost, Dev.lostClear_none, ite_self, Dev.rd_wr_other _ _ _ _ (by omega)]
  · rw [hother o ho', Dev.rd_wr_other _ _ _ _ ho]

/-- Settles O14: the write is a fold over the fields of the register's row, and each field keeps what the next needs. -/
theorem registerWrites : Obligations.RegisterWrites := by
  constructor
  · intro off val hwVal s row i j hu hrow hpres hord hown hrw
    have hexec := registerWrite_ordinary hwVal hu hrow hpres hord hown
    obtain ⟨-, hoff, -⟩ := hord
    refine ⟨fun hcfg => ?_, fun hmode => ?_⟩
    · have hadm : s.dev.admitsWrite off.toNat = true := by simp [Dev.admitsWrite, hcfg]
      rw [Dev.writeWord_admitted _ _ _ _ hoff hrw hadm] at hexec
      exact ⟨_, hexec, ⟨rfl, rfl⟩, rfl, Dev.rd_wr_same _ _ _, fun o ho => Dev.rd_wr_other _ _ _ _ ho⟩
    · rw [Dev.writeWord_refused _ _ _ _ hoff hrw hmode] at hexec
      refine ⟨_, fun o => ?_, rfl, hexec⟩
      rw [Dev.rd_wr]
      split
      · next h => rw [h]
      · rfl
  · intro off val hwSet s row i j hu hrow hpres hpage hoff htime _
    obtain ⟨hbits, hlost, hframe⟩ := Dev.writeWord_w1c s.dev row.lc val hwSet hoff htime
      (fs := row.fields.filter (fun f => f.acc == .w1c)) (fun f hf => by simpa using (List.mem_filter.mp hf).2)
    refine ⟨_, w1cClear_present val hwSet hu hrow hpres hpage, ⟨rfl, rfl⟩, fun k hk => ?_, hlost, hframe⟩
    simpa only [List.any_filter, Field.covers, Bool.and_assoc] using hbits k hk

end Sys2Proof.Machine
end

section
/-! SUPPORT. Lost-clear counters, 64-bit pairs and BAR2, and O15: the windows of the host (R14, R43 to R45, R72, R362,
R481). -/

namespace Sys2Proof.Machine

/-! ## Lost-clear counters (R43, R45) -/

theorem fencedBlock_lostClearClr {off : BitVec 25} {s : State} (val : Word) (n : Nat) (b : Fin 32)
    (h : s.dev.fencedBlock off.toNat = true) : exec (.lostClearClr off val n b) s = .next s := by
  show execLostClearClr off val n b s = _
  exact whenUp_same (by simp [Dev.lostClearWrite, h])

/-- CLR zeroes the counter first; what is lost in the same cycle is counted from zero. -/
theorem exec_lostClearClr {off : BitVec 25} {s : State} {val : Word} (n : Nat) (b : Fin 32) (hu : Up s)
    (hlc : isLostClear s.dev.variant off.toNat = true) (hf : s.dev.fencedBlock off.toNat = false)
    (hclr : val.bit 31 = true) :
    exec (.lostClearClr off val n b) s =
      .next { s with dev := (s.dev.wr off.toNat 0).lostClear (off.toNat - 0x8000) n b } := by
  show execLostClearClr off val n b s = _
  unfold execLostClearClr
  rw [whenUp_up _ _ hu]
  simp [hlc, Dev.lostClearWrite, hf, hclr]

/-- A lost-clear counter stands 0x8000 above its register (R19). -/
theorem le_of_isLostClear {v : Config.Variant} {off : Nat} (h : isLostClear v off = true) : 0x8000 ≤ off := by
  simp only [isLostClear, Bool.and_eq_true, decide_eq_true_eq] at h
  omega

/-- A counter that stands at zero shows how many clears were lost, and the bit of the latest. -/
theorem lostClear_from_zero (d : Dev) {off n b : Nat} (hzero : d.rd (off + 0x8000) = 0) (hpos : 0 < n)
    (hn : n < 65536) (hb : b < 32) :
    ((d.lostClear off n b).rd (off + 0x8000)).get 0 16 = n ∧
      ((d.lostClear off n b).rd (off + 0x8000)).get 16 5 = b := by
  have hcount : Nat.min 0xFFFF (Word.get 0 0 16 + n) = n := by
    rw [show Word.get 0 0 16 = 0 from rfl, Nat.zero_add]
    exact Nat.min_eq_right (by omega)
  have hrd : (d.lostClear off n b).rd (off + 0x8000) = (Word.put 0 0 16 n).put 16 5 b := by
    simp only [Dev.lostClear, if_neg (show n ≠ 0 by omega), Dev.rd_wr_same, hzero, hcount]
  rw [hrd]
  constructor
  · rw [Word.get_put_apart _ _ _ _ _ _ (by omega) (by omega), Word.get_put_same _ _ _ _ (by omega)]
    exact Nat.mod_eq_of_lt hn
  · rw [Word.get_put_same _ _ _ _ (by omega)]
    exact Nat.mod_eq_of_lt hb

/-! ## 64-bit pairs (R44) -/

/-- The live word does not depend on the holding copies or on what has left the device. -/
theorem readLive_copies (d : Dev) (copies : List (Nat × Word)) (out : List Output) (off : Nat) :
    Dev.readLive { d with copies := copies, out := out } off = d.readLive off := rfl

/-- A low word is never answered from a holding copy. -/
theorem readReg_low (d : Dev) {off : Nat} (h : pairLow off = true) : d.readReg off = d.readLive off := by
  simp [Dev.readReg, h]

/-- Where the holding copy of a word is the live word, that is what a read answers. -/
theorem readReg_held (d : Dev) {off : Nat} (h : bankGet d.copies off = some (d.readLive off)) :
    d.readReg off = d.readLive off := by
  unfold Dev.readReg
  rw [h]
  extract_lets here
  cases decide (4 ≤ off) && pairLow (off - 4) && !pairLow off && here <;> rfl

/-! ## BAR2 (R72, R362) -/

theorem dramHolds_iff (d : Dev) (a : Nat) : d.dramHolds a = true ↔ 3 ≤ d.dramState ∧ a < d.dramBytes := by
  rw [Dev.dramHolds, Bool.and_eq_true, decide_eq_true_eq, decide_eq_true_eq]

/-- A write that installed DRAM takes in CONFIGURE or SERVICE. -/
theorem exec_bar2Write_taken {addr : BitVec 26} {bytes : List Byte} {s : State} (hu : Up s)
    (hm : s.dev.mode.cur = .configure ∨ s.dev.mode.cur = .service) (hd : 3 ≤ s.dev.dramState)
    (hfit : s.dev.bar2At addr + bytes.length ≤ s.dev.dramBytes) (hne : bytes ≠ []) :
    exec (.bar2Write addr bytes) s = .next { s with mem := memWrite s.mem (s.dev.bar2At addr) bytes } := by
  have hlen := List.length_pos_iff.mpr hne
  have hmode : ¬ (s.dev.mode.cur ≠ .configure ∧ s.dev.mode.cur ≠ .service) := fun h => hm.elim h.1 h.2
  have hholds : s.dev.dramHolds (s.dev.bar2At addr) = true :=
    (dramHolds_iff _ _).mpr ⟨hd, by omega⟩
  have htake : bytes.take (s.dev.dramBytes - s.dev.bar2At addr) = bytes := List.take_of_length_le (by omega)
  show execBar2Write addr bytes s = _
  simp [execBar2Write, not_down_of_up hu, hmode, hholds, htake]

theorem exec_bar2Write_discarded {addr : BitVec 26} {bytes : List Byte} {s : State} (hu : Up s)
    (hc : s.dev.mode.cur ≠ .configure) (hs : s.dev.mode.cur ≠ .service) :
    exec (.bar2Write addr bytes) s = .next { s with dev := s.dev.hifError 6 0xFF } := by
  show execBar2Write addr bytes s = _
  simp [execBar2Write, not_down_of_up hu, hc, hs]

/-- One byte of a BAR2 read: what it answers, and the free value it draws where the rules give none. -/
def bar2Step (s : State) (a : Nat) (x : List Byte × Dev) (i : Nat) : List Byte × Dev :=
  if !s.dev.dramHolds (a + i) || !s.dev.mode.dram then (x.1 ++ [0], x.2)
  else if s.dev.dramManaged (a + i) then
    match s.dev.knownByte (a + i) with
    | some v => (x.1 ++ [v], x.2)
    | none => (x.1 ++ [BitVec.ofNat 8 x.2.free.1], x.2.free.2)
  else (x.1 ++ [memRead s.mem (a + i)], x.2)

/-- A read of bytes of which each is given by `f` answers them, and draws no free value. -/
theorem foldl_bar2Step {s : State} {a : Nat} (f : Nat → Byte) (is : List Nat)
    (h : ∀ i ∈ is, ∀ x, bar2Step s a x i = (x.1 ++ [f i], x.2)) (x : List Byte × Dev) :
    is.foldl (bar2Step s a) x = (x.1 ++ is.map f, x.2) := by
  induction is generalizing x with
  | nil => simp
  | cons i is ih =>
    rw [List.foldl_cons, h i (by simp), ih fun j hj => h j (List.mem_cons_of_mem _ hj)]
    simp

theorem exec_bar2Read {addr : BitVec 26} {len : Nat} {ecc : Ecc} {s : State} (hu : Up s) :
    exec (.bar2Read addr len ecc) s =
      if ecc = .uncorrectable ∧ s.dev.dramHolds (s.dev.bar2At addr) = true ∧ s.dev.mode.dram = true then
        .next { s with dev := (s.dev.send (.barRead (s.dev.bar2At addr) none)).hifError 7 0xFF }
      else .next { s with
        dev := Dev.send ((List.range len).foldl (bar2Step s (s.dev.bar2At addr)) ([], s.dev)).2
          (.barRead (s.dev.bar2At addr)
            (some ((List.range len).foldl (bar2Step s (s.dev.bar2At addr)) ([], s.dev)).1)) } := by
  show execBar2Read addr len ecc s = _
  unfold execBar2Read
  rw [if_neg (not_down_of_up hu)]
  rfl

/-- A read whose bytes are given by `f`, and that ECC does not stop. -/
theorem exec_bar2Read_given {addr : BitVec 26} {len : Nat} {ecc : Ecc} {s : State} (hu : Up s) (f : Nat → Byte)
    (hecc : ¬ (ecc = .uncorrectable ∧ s.dev.dramHolds (s.dev.bar2At addr) = true ∧ s.dev.mode.dram = true))
    (h : ∀ i, i < len → ∀ x, bar2Step s (s.dev.bar2At addr) x i = (x.1 ++ [f i], x.2)) :
    exec (.bar2Read addr len ecc) s = .next { s with
      dev := s.dev.send (.barRead (s.dev.bar2At addr) (some ((List.range len).map f))) } := by
  rw [exec_bar2Read hu, if_neg hecc, foldl_bar2Step f _ fun i hi => h i (List.mem_range.mp hi)]
  rfl

/-- A byte beyond installed DRAM, and every byte before DRAM is ready, is zero (R362). -/
theorem bar2Step_zero {s : State} {a i : Nat} (h : s.dev.dramBytes ≤ a ∨ s.dev.mode.dram = false)
    (x : List Byte × Dev) : bar2Step s a x i = (x.1 ++ [0], x.2) := by
  refine if_pos ?_
  rcases h with h | h
  · have hout : ¬ a + i < s.dev.dramBytes := by omega
    have hno : s.dev.dramHolds (a + i) = false := by
      rw [Bool.eq_false_iff, Ne, dramHolds_iff]
      exact fun hh => hout hh.2
    simp [hno]
  · simp [h]

/-- A byte that DRAM holds and the device itself does not write. -/
theorem bar2Step_held {s : State} {a i : Nat} (hr : s.dev.mode.dram = true) (hh : s.dev.dramHolds (a + i) = true)
    (hm : s.dev.dramManaged (a + i) = false) (x : List Byte × Dev) :
    bar2Step s a x i = (x.1 ++ [memRead s.mem (a + i)], x.2) := by
  simp [bar2Step, hr, hh, hm]

/-- A byte of a structure of the device, where the rules give it. -/
theorem bar2Step_known {s : State} {a i : Nat} {v : Byte} (hr : s.dev.mode.dram = true)
    (hh : s.dev.dramHolds (a + i) = true) (hm : s.dev.dramManaged (a + i) = true)
    (hk : s.dev.knownByte (a + i) = some v) (x : List Byte × Dev) : bar2Step s a x i = (x.1 ++ [v], x.2) := by
  simp [bar2Step, hr, hh, hm, hk]

/-- Settles O15: each clause is the equation of its command, read at the register or byte it names. -/
theorem hostWindows : Obligations.HostWindows := by
  refine ⟨fun off val n b s h => fencedBlock_lostClearClr val n b h, ?_, ?_, ?_, ?_, ?_, ?_, ?_⟩
  · intro off val b s hu hlc hf hclr
    exact ⟨_, exec_lostClearClr 0 b hu hlc hf hclr, ⟨rfl, rfl⟩, Dev.rd_wr_same _ _ _,
      fun o ho => Dev.rd_wr_other _ _ _ _ ho⟩
  · intro off val n b s hu hlc hf hclr hpos hn
    have hat : off.toNat - 0x8000 + 0x8000 = off.toNat := Nat.sub_add_cancel (le_of_isLostClear hlc)
    have hcount := lostClear_from_zero (s.dev.wr off.toNat 0) (off := off.toNat - 0x8000)
      (by rw [hat]; exact Dev.rd_wr_same _ _ _) hpos hn b.isLt
    rw [hat] at hcount
    exact ⟨_, exec_lostClearClr n b hu hlc hf hclr, ⟨rfl, rfl⟩, hcount⟩
  · intro off s hu hlow
    have hexec := exec_lowWordRead off hu
    rw [if_pos hlow, readReg_low _ hlow] at hexec
    exact ⟨_, hexec, ⟨rfl, rfl⟩, rfl, readReg_held _ (bankGet_set_same _ _ _), rfl⟩
  · intro w s hu
    show execBar0BadRequest w s = _
    exact whenUp_up _ _ hu
  · rintro addr bytes s a hu rfl hm hd hfit hne
    exact ⟨_, exec_bar2Write_taken hu hm hd hfit hne, rfl, rfl, fun k hk => memRead_write_inside _ _ _ _ hk,
      fun k hk => memRead_write_outside _ _ _ _ hk⟩
  · exact fun addr bytes s hu hc hs => exec_bar2Write_discarded hu hc hs
  · rintro addr len ecc s a hu rfl
    refine ⟨fun hecc hr hd hfit hm => ?_, fun v hecc hr hh hm hk hlen => ?_, fun hz => ?_, fun hecc hr hd hin => ?_⟩
    · refine exec_bar2Read_given hu _ (fun h => hecc h.1) fun i hi => bar2Step_held hr ?_ (hm i hi)
      exact (dramHolds_iff _ _).mpr ⟨hd, by omega⟩
    · subst hlen
      refine exec_bar2Read_given hu (fun _ => v) (fun h => hecc h.1) fun i hi => ?_
      obtain rfl : i = 0 := by omega
      refine bar2Step_known hr ?_ ?_ ?_ <;> rwa [Nat.add_zero]
    · rw [exec_bar2Read_given hu (fun _ => 0) ?_ fun i _ => bar2Step_zero hz]
      · simp
      · rintro ⟨-, hh, hr⟩
        obtain ⟨-, hin⟩ := (dramHolds_iff _ _).mp hh
        rcases hz with hz | hz
        · omega
        · simp [hr] at hz
    · rw [exec_bar2Read hu, if_pos ⟨hecc, (dramHolds_iff _ _).mpr ⟨hd, hin⟩, hr⟩]

end Sys2Proof.Machine
end

section
/-! SUPPORT. What a power failure leaves of the device, and O8: the key of a software reset, the clearing of causes,
power failure and its end (R43, R57, R59, R499). -/

namespace Sys2Proof.Machine

/-- Of a bank cut down to some keys, one of those reads as before, and any other is not listed. -/
theorem bankGet_filter {α : Type} (keep : Nat → Bool) (l : List (Nat × α)) (k : Nat) :
    bankGet (l.filter (fun r => keep r.1)) k = if keep k then bankGet l k else none := by
  induction l with
  | nil => simp
  | cons p l ih =>
    obtain ⟨j, a⟩ := p
    by_cases hj : j = k
    · subst hj
      cases h : keep j <;> simp [h, ih, bankGet]
    · cases h : keep j <;> simp [h, ih, bankGet, hj]

/-- The count of clears that were lost is all that `lostClear` writes. -/
theorem rd_lostClear_apart (d : Dev) (off n b o : Nat) (h : o ≠ off + 0x8000) : (d.lostClear off n b).rd o = d.rd o := by
  unfold Dev.lostClear
  split
  · rfl
  · exact Dev.rd_wr_other _ _ _ _ h

/-- A cause whose condition has ended does not stand. -/
theorem standing_endCause (d : Dev) (src cause : Nat) : (d.endCause src cause).standing src cause = false := by
  simp only [Dev.standing, Dev.endCause, List.any_eq_false, List.mem_filter, List.mem_map]
  rintro _ ⟨⟨l, -, rfl⟩, -⟩
  by_cases h : l.src = src ∧ l.cause = cause
  · simp [h]
  · rw [if_neg h]
    simp only [Bool.and_eq_true, beq_iff_eq, not_and]
    exact fun hsc => absurd hsc h

/-- `b` differs from `a` at most in its ports, the fault collector, and what has left the device. -/
def PortSide (a b : Dev) : Prop := ∃ scn byf flt out, b = { a with scn := scn, byf := byf, flt := flt, out := out }

theorem PortSide.refl (a : Dev) : PortSide a a := ⟨a.scn, a.byf, a.flt, a.out, rfl⟩

theorem PortSide.trans {a b c : Dev} (h : PortSide a b) (k : PortSide b c) : PortSide a c := by
  obtain ⟨s, y, f, o, rfl⟩ := h
  obtain ⟨s', y', f', o', rfl⟩ := k
  exact ⟨s', y', f', o', rfl⟩

theorem portSide_foldl {β : Type} (f : Dev → β → Dev) (h : ∀ a b, PortSide a (f a b)) (l : List β) (a : Dev) :
    PortSide a (l.foldl f a) := foldl_keeps PortSide PortSide.refl (fun _ _ _ => PortSide.trans) f h l a

theorem portSide_sendTraining (d : Dev) (scn : Bool) (p : Nat) (ack : Bool) : PortSide d (d.sendTraining scn p ack) :=
  portSide_foldl _ (fun a _ => ⟨a.scn, a.byf, a.flt, _, rfl⟩) _ d

theorem portSide_bootPorts (d : Dev) : PortSide d d.bootPorts := by
  unfold Dev.bootPorts
  have hscn := portSide_foldl (fun d b => d.sendTraining true b false) (fun a b => portSide_sendTraining a true b false)
    (List.range (nBeams d.variant)) d
  refine PortSide.trans hscn ?_
  generalize (List.range (nBeams d.variant)).foldl (fun d b => d.sendTraining true b false) d = x
  dsimp only
  split
  · exact (portSide_foldl _ (fun a b => portSide_sendTraining a false b false) _ x).trans ⟨_, _, _, _, rfl⟩
  · exact ⟨_, _, _, _, rfl⟩

/-- The units of the islands in reset: the registers of their pages at their reset values, their work gone. -/
theorem dropIslands_reset (d : Dev) :
    d.dropIslands.rings = List.replicate 64 default ∧ d.dropIslands.engines = List.replicate 18 default ∧
      d.dropIslands.keeper = Keeper.reset ∧ d.dropIslands.ldg = Ledger.reset ∧ d.dropIslands.vis = Vis.reset ∧
      d.dropIslands.dram = Dram.reset ∧ d.dropIslands.mot = Motion.reset ∧ d.dropIslands.ill = Illum.reset ∧
      d.dropIslands.lay = Layers.reset ∧ d.dropIslands.rcd = d.rcd ∧
      ∀ off, islandPage off = true → d.dropIslands.rd off = resetOf d.dropIslands.variant off := by
  have hports : PortSide _ d.dropIslands :=
    (portSide_foldl (fun d (c : Nat × Nat) => d.endCause c.1 c.2) (fun a _ => ⟨a.scn, a.byf, _, a.out, rfl⟩) _ _).trans
      (portSide_bootPorts _)
  obtain ⟨scn, byf, flt, out, hd⟩ := hports
  rw [hd]
  refine ⟨rfl, rfl, rfl, rfl, rfl, rfl, rfl, rfl, rfl, rfl, fun off hoff => ?_⟩
  show (bankGet (d.regs.filter (fun r => !islandPage r.1)) off).getD _ = _
  rw [bankGet_filter (fun k => !islandPage k), hoff]
  rfl

/-- CAUSE_CLR leaves what hardware sets in the same cycle, and beside its own register the count of lost clears alone. -/
theorem rd_causeClr (d : Dev) (hwSet : BitVec 4) :
    (d.causeClr hwSet).rd MODE_RST_CAUSE = BitVec.ofNat 32 hwSet.toNat ∧
      ∀ off, off ≠ MODE_RST_CAUSE → off ≠ MODE_RST_CAUSE + 0x8000 → (d.causeClr hwSet).rd off = d.rd off := by
  unfold Dev.causeClr
  refine ⟨?_, fun off hoff hlost => ?_⟩
  · rw [rd_lostClear_apart _ _ _ _ _ (by decide), Dev.rd_wr_same]
  · rw [rd_lostClear_apart _ _ _ _ _ hlost, Dev.rd_wr_other _ _ _ _ hoff]

/-- The supply fails: whatever the collector and the recorder do first, the islands then stand in reset, and the flush
holds the host off where the MRAM is in use. -/
theorem exec_pfailNLow {s : State} (ha : Awake s) (hs : s.dev.standing 38 4 = false) :
    ∃ d : Dev, exec .pfailNLow s = .next { s with
      dev := Dev.dropIslands { d with rcd := { d.rcd with pfail := d.rcd.mram.usable } }, mem := [] } := by
  have hgo : ¬ (s.dev.mode.boot = 0 ∨ s.dev.standing 38 4 = true) := by
    rintro (h | h)
    · exact ha h
    · simp [hs] at h
  exact ⟨_, show execPfailNLow s = _ from if_neg hgo⟩

/-- Settles O8: the key and the end of a power failure are equations of their commands, and what the failure itself
leaves is what the islands in reset hold (which pages and units are cleared: log entry 13; the empty memory: log
entry 53). -/
theorem softResetAndPowerFail : Obligations.SoftResetAndPowerFail := by
  refine ⟨?_, fun key s hu hkey => ?_, fun hwSet s hu => ?_, fun s ha hs => ?_, fun s ha => ?_⟩
  · intro key s hu hkey
    have hsoft : s.dev.softKey key =
        { s.dev.safeOutputs with mode := { s.dev.safeOutputs.mode with softPending := true } } := if_pos hkey
    rw [← hsoft]
    exact whenUp_up s (fun d => d.softKey key) hu
  · have hsoft : s.dev.softKey key = s.dev := if_neg hkey
    exact whenUp_same (f := fun d => d.softKey key) hsoft
  · obtain ⟨hcause, hframe⟩ := rd_causeClr s.dev hwSet
    exact ⟨_, whenUp_up s (fun d => d.causeClr hwSet) hu, ⟨rfl, rfl⟩, hcause, hframe⟩
  · obtain ⟨d, hexec⟩ := exec_pfailNLow ha hs
    obtain ⟨hrings, heng, hkeeper, hldg, hvis, hdram, hmot, hill, hlay, hrcd, hregs⟩ :=
      dropIslands_reset { d with rcd := { d.rcd with pfail := d.rcd.mram.usable } }
    refine ⟨_, hexec, rfl, rfl, hrings, heng, hkeeper, hldg, hvis, hdram, hmot, hill, hlay, ?_, hregs⟩
    show Recorder.pfail (Dev.rcd (Dev.dropIslands _)) = Mram.usable (Recorder.mram (Dev.rcd (Dev.dropIslands _)))
    rw [hrcd]
  · exact ⟨_, on_awake s (fun d => d.endCause 38 4) ha, rfl, standing_endCause _ _ _⟩

end Sys2Proof.Machine
end

section
/-! SUPPORT. The slots of parameter tables, the queue of a lock, and O25: the dispatch of barges and the commands on
parameter tables (R20, R109, R122, R129 to R132, R205, R231). -/

namespace Sys2Proof.Machine

/-! ## Checks and lists -/

/-- A list of checks passes when each of them does. -/
theorem firstFail_none_iff (cs : List (Bool × Nat × Nat)) : firstFail cs = none ↔ ∀ c ∈ cs, c.1 = false := by
  induction cs with
  | nil => simp [firstFail]
  | cons c cs ih =>
    obtain ⟨bad, st, x⟩ := c
    cases bad <;> simp [firstFail, ih]

theorem modAt_length {α : Type} (l : List α) (i : Nat) (f : α → α) : (modAt l i f).length = l.length := by
  unfold modAt
  split <;> simp

theorem getD_modAt_same {α : Type} (l : List α) (i : Nat) (f : α → α) (a : α) (h : i < l.length) :
    (modAt l i f).getD i a = f (l.getD i a) := by
  simp [modAt, List.getD_eq_getElem?_getD, h]

theorem getD_modAt_other {α : Type} (l : List α) (i j : Nat) (f : α → α) (a : α) (h : j ≠ i) :
    (modAt l i f).getD j a = l.getD j a := by
  unfold modAt
  split
  · simp [List.getD_eq_getElem?_getD, List.getElem?_set_ne (Ne.symm h)]
  · rfl

/-! ## Dispatch (R20, R122, R205) -/

theorem exec_basinSpaceFetch {n : Fin 64} {idx : BitVec 16} {e : Env} {q : Req} {s : State} (hu : Up s)
    (hfail : e.dataFail = none)
    (hq : s.dev.lay.basinWait.find? (fun q => q.ring == n.val && q.idx == idx.toNat) = some q) :
    exec (.basinSpaceFetch n idx e) s = .next { s with dev := (if s.dev.basinRoom q.dataLen then
      (s.dev.modLay (fun y => { y with basinWait := y.basinWait.filter (fun x => x != q) })).acceptBarge q
        (e.data.take q.dataLen) else s.dev) } := by
  show execBasinSpaceFetch n idx e s = _
  unfold execBasinSpaceFetch
  rw [whenUp_up _ _ hu]
  simp only [hq, hfail]

/-- A unit that one live beam alone may take goes to the engine of that beam. -/
theorem dispatch_single {d : Dev} {u : WUnit} {b n : Nat} (he : bitList 16 (u.recs.headD default).elig = [b])
    (hl : d.beamLive b = true) (hn : d.engineOf b = some n) : d.dispatch u = d.enqueue n u := by
  simp only [Dev.dispatch, he, hl, hn]

/-- With no barge left to dispatch, or the keeper off or frozen, nothing is dispatched. -/
theorem exec_bargeDispatch_idle {s : State} (ha : Awake s)
    (h : (∀ l ∈ s.dev.lay.opened, l.barges.all (fun b => b.dispatched) = true) ∨ s.dev.keeperOn = false) :
    exec .bargeDispatch s = .next s := by
  show execBargeDispatch s = _
  unfold execBargeDispatch
  rw [on_awake _ _ ha]
  rcases h with h | h
  · have hnone : s.dev.lay.opened.find? (fun l => l.barges.any (fun b => !b.dispatched)) = none := by
      rw [List.find?_eq_none]
      intro l hl
      simpa using h l hl
    simp only [hnone, ite_self]
  · simp only [h, Bool.not_false, if_true]

theorem lockQ_modLock_same (d : Dev) (i : Nat) (f : LockQ → LockQ) (h : i < d.keeper.locks.length) :
    (d.modLock i f).lockQ i = f (d.lockQ i) := getD_modAt_same _ _ _ _ h

theorem lockQ_modLock_other (d : Dev) (i j : Nat) (f : LockQ → LockQ) (h : j ≠ i) :
    (d.modLock i f).lockQ j = d.lockQ j := getD_modAt_other _ _ _ _ _ h

/-! ## Parameter tables (R109, R129 to R132) -/

/-- A slot of the table `id`. -/
abbrev holdsTable (id : Nat) (t : Option Table) : Bool := match t with | some t => t.id == id | none => false

/-- A table put in a slot of the array is there to be found. -/
theorem table_setSlot (d : Dev) (i : Nat) (t : Table) (h : i < d.lay.slots.length) :
    ((d.setSlot i (some t)).table t.id).isSome = true := by
  have hmem : some t ∈ d.lay.slots.set i (some t) := List.mem_set h _
  show (((d.lay.slots.set i (some t)).find? (holdsTable t.id)).join).isSome = true
  cases hf : (d.lay.slots.set i (some t)).find? (holdsTable t.id) with
  | none => exact absurd (List.find?_eq_none.mp hf _ hmem) (by simp [holdsTable])
  | some x =>
    have hx := List.find?_some hf
    cases x with
    | none => simp [holdsTable] at hx
    | some y => rfl

/-- The slot a table goes to is one of the array. -/
theorem slot_lt {d : Dev} {id i : Nat}
    (h : d.slotOf id = some i ∨ (d.slotOf id = none ∧ d.lay.slots.findIdx? (fun x => x.isNone) = some i)) :
    i < d.lay.slots.length := by
  rcases h with h | ⟨-, h⟩
  · exact (List.findIdx?_eq_some_iff_getElem.mp h).1
  · exact (List.findIdx?_eq_some_iff_getElem.mp h).1

/-- A completion leaves the layers and their tables alone. -/
theorem ok_lay (d : Dev) (q : Req) (a b c e : Nat) : (d.ok q a b c e).lay = d.lay := by
  obtain ⟨r, g, i, o, h⟩ := hostSide_ok d q a b c e
  rw [h]

theorem ok_setSlot_lay (d : Dev) (i : Nat) (t : Option Table) (q : Req) (a b c e : Nat) :
    ((d.setSlot i t).ok q a b c e).lay = { d.lay with slots := d.lay.slots.set i t } := by
  rw [ok_lay]
  rfl

theorem ok_table (d : Dev) (q : Req) (a b c e id : Nat) : (d.ok q a b c e).table id = d.table id := by
  unfold Dev.table
  rw [ok_lay]

/-- PTAB_LOAD of data that spell a table: refused where a layer references its ID, else put in its slot, or in the
first free one, or refused for want of one. -/
theorem exec_ptabLoad_ok {r : Req} {e : Env} {s : State} {tab : Table} (h : TakesData s 0x0401 cmdPtabLoad r e)
    (hp : parseTable (dataOf r e) = .ok tab) :
    exec (.ptabLoad r e) s = .next { s with dev :=
      (if s.dev.tableUsed tab.id then (started s 0x0401 r).fail (asOp 0x0401 r) stLimit 0x0402
      else match s.dev.slotOf tab.id, s.dev.lay.slots.findIdx? (fun x => x.isNone) with
        | some i, _ => ((started s 0x0401 r).setSlot i (some tab)).ok (asOp 0x0401 r) 0 0 0 0
        | none, some i => ((started s 0x0401 r).setSlot i (some tab)).ok (asOp 0x0401 r) 0 0 0 0
        | none, none => (started s 0x0401 r).fail (asOp 0x0401 r) stLimit 0x0403) } := by
  refine (command_takesData s 0x0401 cmdPtabLoad r e h).trans ?_
  simp only [cmdPtabLoad, hp] <;> rfl

/-- A table that goes to slot `i` stands in that slot alone, and no layer changes. -/
theorem exec_ptabLoad_slot {r : Req} {e : Env} {s : State} {tab : Table} {i : Nat}
    (h : TakesData s 0x0401 cmdPtabLoad r e) (hp : parseTable (dataOf r e) = .ok tab)
    (hused : s.dev.tableUsed tab.id = false)
    (hi : s.dev.slotOf tab.id = some i ∨
      (s.dev.slotOf tab.id = none ∧ s.dev.lay.slots.findIdx? (fun x => x.isNone) = some i)) :
    exec (.ptabLoad r e) s = .next { s with
      dev := ((started s 0x0401 r).setSlot i (some tab)).ok (asOp 0x0401 r) 0 0 0 0 } := by
  rw [exec_ptabLoad_ok h hp, hused]
  rcases hi with hi | ⟨hi, hfree⟩
  · simp only [hi, Bool.false_eq_true, if_false]
  · simp only [hi, hfree, Bool.false_eq_true, if_false]

/-- PTAB_DROP empties the slot of its table; its checks have found one (R129). -/
theorem exec_ptabDrop {r : Req} {e : Env} {s : State} (h : Takes s 0x0402 cmdPtabDrop r) :
    ∃ i, s.dev.slotOf r.a0.toNat = some i ∧ exec (.ptabDrop r e) s = .next { s with
      dev := ((started s 0x0402 r).setSlot i none).ok (asOp 0x0402 r) 0 0 0 0 } := by
  obtain ⟨-, -, -, -, hcheck⟩ := id h
  have hsome : s.dev.slotOf r.a0.toNat ≠ none := by
    intro hnone
    have hlimit := (firstFail_none_iff _).mp hcheck (limitIf (s.dev.slotOf r.a0.toNat).isNone 0x0404)
      (List.mem_append_right _ (by exact List.mem_cons_of_mem _ (List.mem_cons_of_mem _ (List.mem_cons_self ..))))
    simp [limitIf, hnone] at hlimit
  obtain ⟨i, hi⟩ := Option.ne_none_iff_exists'.mp hsome
  have hi' : (started s 0x0402 r).slotOf (asOp 0x0402 r).a0.toNat = some i := hi
  refine ⟨i, hi, (command_takes s 0x0402 cmdPtabDrop r e h).trans ?_⟩
  simp only [cmdPtabDrop, hi']

/-- Settles O25: dispatch and the table commands by their equations; a completion leaves the layers alone. -/
theorem bargesAndTables : Obligations.BargesAndTables := by
  refine ⟨fun n idx e q s hu hfail hq => ⟨fun hroom => ?_, fun hroom => ?_⟩, ?_,
    fun d u b n he hl hn => dispatch_single he hl hn, fun s ha h => exec_bargeDispatch_idle ha h, ?_, ?_, ?_, ?_, ?_⟩
  · rw [exec_basinSpaceFetch hu hfail hq, if_pos hroom]
  · rw [exec_basinSpaceFetch hu hfail hq, hroom]
    rfl
  · rintro s l b k d rs ha hkeep hl hk hb rfl rfl
    show execBargeDispatch s = _
    unfold execBargeDispatch
    rw [on_awake _ _ ha]
    simp only [hkeep, hl, hk, hb]
    rfl
  · intro i s ha hlen
    exact ⟨_, on_awake s (fun d => d.modLock i (fun q =>
        { q with queue := q.queue ++ q.wait.take (4096 - q.queue.length), wait := q.wait.drop (4096 - q.queue.length) })) ha,
      ⟨rfl, rfl⟩, congrArg LockQ.queue (lockQ_modLock_same _ _ _ (by omega)),
      congrArg LockQ.wait (lockQ_modLock_same _ _ _ (by omega)), fun j hj => lockQ_modLock_other _ _ _ _ hj⟩
  · intro r e s tab h hp
    refine ⟨fun hused => ?_, fun i hused hi => ?_, fun hused hslot hfree => ?_⟩
    · rw [exec_ptabLoad_ok h hp, if_pos hused]
    · refine ⟨_, exec_ptabLoad_slot h hp hused hi, ⟨rfl, rfl⟩, ?_, ?_, ?_⟩
      · simp only [ok_setSlot_lay]
        rfl
      · exact (congrArg Option.isSome (ok_table _ _ _ _ _ _ _)).trans
          (table_setSlot (started s 0x0401 r) i tab (slot_lt (d := s.dev) hi))
      · simp only [ok_setSlot_lay]
        rfl
    · rw [exec_ptabLoad_ok h hp, hused, hslot, hfree]
      rfl
  · intro r e s h st x r0 r1 hp
    refine (command_takesData s 0x0401 cmdPtabLoad r e h).trans ?_
    simp only [cmdPtabLoad, hp]
  · intro r e s h
    obtain ⟨i, hi, hexec⟩ := exec_ptabDrop (e := e) h
    refine ⟨_, i, hexec, ⟨rfl, rfl⟩, hi, ?_, ?_⟩ <;>
    · simp only [ok_setSlot_lay]
      rfl
  · intro r e s h
    exact ⟨_, fun _ => rfl, command_takes s 0x0480 cmdPtabQuery r e h⟩

end Sys2Proof.Machine
end

section
/-! SUPPORT. The segment an engine computes again, and O28: the beam map, residue errors and the errors of island
memories (R42, R136, R137, R162, R164). -/

namespace Sys2Proof.Machine

/-! ## The beam map (R136, R137) -/

theorem bit_setBit_same (d : Dev) (off i : Nat) (b : Bool) (hi : i < 32) : (d.setBit off i b).bit off i = b := by
  show ((d.wr off ((d.rd off).putBit i b)).rd off).bit i = b
  rw [Dev.rd_wr_same, Word.putBit, Word.bit_put _ _ _ _ _ hi]
  cases b <;> simp

/-- A map enabled by `v` conflicts: another present engine serves its beam. -/
def Dev.mapTaken (d : Dev) (n : Nat) (v : Word) : Bool :=
  v.bit 31 && (List.range (nEngines d.variant)).any (fun m =>
    m != n && d.bit (BE_MAP m) 31 && d.fld (BE_MAP m) 0 5 == v.get 0 5)

theorem mapTaken_iff (d : Dev) (n : Nat) (v : Word) : d.mapTaken n v = true ↔
    ∃ m, m < nEngines d.variant ∧ m ≠ n ∧ d.beamOf m = some (v.get 0 5) ∧ v.bit 31 = true := by
  have hbeam : ∀ m, d.beamOf m = some (v.get 0 5) ↔ d.bit (BE_MAP m) 31 = true ∧ d.fld (BE_MAP m) 0 5 = v.get 0 5 := by
    intro m
    unfold Dev.beamOf
    split <;> simp_all
  simp only [Dev.mapTaken, Bool.and_eq_true, List.any_eq_true, List.mem_range, bne_iff_ne, beq_iff_eq, hbeam]
  constructor
  · rintro ⟨hv, m, hm, ⟨hne, hb⟩, hf⟩
    exact ⟨m, hm, hne, ⟨hb, hf⟩, hv⟩
  · rintro ⟨m, hm, hne, ⟨hb, hf⟩, hv⟩
    exact ⟨hv, m, hm, ⟨hne, hb⟩, hf⟩

/-- A write of a map in CONFIGURE: stored, or discarded with MAP_BAD. -/
theorem exec_benMapWrite_configure {n : Fin 18} {val : Word} {s : State} (hu : Up s) (hb : s.dev.engBlock n = true)
    (hm : s.dev.mode.cur = .configure) :
    exec (.benMapWrite n val) s = .next { s with dev :=
      (if nBeams s.dev.variant ≤ (val &&& 0x8000011F).get 0 5 ∨ s.dev.mapTaken n (val &&& 0x8000011F) = true then
        s.dev.setBit (BE_ERR n) 8 true else s.dev.wr (BE_MAP n) (val &&& 0x8000011F)) } := by
  show execBenMapWrite n val s = _
  unfold execBenMapWrite
  rw [whenUp_up _ _ hu]
  simp only [hb, hm, Bool.not_true, Bool.false_eq_true, if_false, ne_eq, not_true_eq_false]
  rfl

/-- Elsewhere than in CONFIGURE a write that differs is refused, and one that does not changes nothing (R47). -/
theorem exec_benMapWrite_elsewhere {n : Fin 18} {val : Word} {s : State} (hu : Up s) (hb : s.dev.engBlock n = true)
    (hm : s.dev.mode.cur ≠ .configure) :
    exec (.benMapWrite n val) s = .next (if val &&& 0x8000011F = s.dev.rd (BE_MAP n) then s
      else { s with dev := s.dev.refuse (BE_MAP n) }) := by
  show execBenMapWrite n val s = _
  unfold execBenMapWrite
  rw [whenUp_up _ _ hu]
  simp only [hb, if_pos hm, Bool.not_true, Bool.false_eq_true, if_false]
  split <;> rfl

/-! ## Segments computed again (R42, R162) -/

theorem eng_modEng_same (d : Dev) (n : Nat) (f : Engine → Engine) (h : n < d.engines.length) :
    (d.modEng n f).eng n = f (d.eng n) := getD_modAt_same _ _ _ _ h

theorem engines_length_modEng (d : Dev) (n : Nat) (f : Engine → Engine) :
    (d.modEng n f).engines.length = d.engines.length := modAt_length _ _ _

/-- To discard a segment is to change the tick queue and the next tick of its engine, at most. -/
theorem discardSegment_eq (d : Dev) (n : Nat) (k : Nat × Nat) :
    d.discardSegment n k = d ∨ ∃ q t, d.discardSegment n k = d.modEng n (fun e => { e with tickQ := q, next := t }) := by
  unfold Dev.discardSegment
  dsimp only
  split
  · exact Or.inl rfl
  · exact Or.inr ⟨_, _, rfl⟩

theorem discardSegment_keeps (d : Dev) (n : Nat) (k : Nat × Nat) :
    (d.discardSegment n k).engines.length = d.engines.length ∧
      ∀ off, (d.discardSegment n k).rd off = d.rd off := by
  rcases discardSegment_eq d n k with h | ⟨q, t, h⟩ <;> rw [h]
  · exact ⟨rfl, fun _ => rfl⟩
  · exact ⟨engines_length_modEng _ _ _, fun off => Dev.modEng_rd _ _ _ off⟩

/-- A mismatch that is not the third: the segment is computed again, counted, and reported. -/
theorem mismatch_again {d : Dev} {n : Nat} {u : WUnit} {i : Nat} (hc : (d.eng n).retriesOf (u.segKey i) < 2)
    (hn : n < d.engines.length) :
    ∃ d' : Dev, d.mismatch n u i = d'.fault (n + 2) 3 ∧ d'.rd (BE_CNT n 0) = satInc (d.rd (BE_CNT n 0)) 1 ∧
      (d'.eng n).retriesOf (u.segKey i) = (d.eng n).retriesOf (u.segKey i) + 1 := by
  obtain ⟨hlen, hrd⟩ := discardSegment_keeps d n (u.segKey i)
  unfold Dev.mismatch
  simp only [if_pos hc]
  refine ⟨_, rfl, ?_, ?_⟩
  · rw [Dev.count, Dev.rd_wr_same, Dev.modEng_rd, hrd]
  · show Engine.retriesOf (Dev.eng (Dev.modEng (d.discardSegment n (u.segKey i)) n _) n) _ = _
    rw [eng_modEng_same _ _ _ (by omega)]
    simp [Engine.retriesOf]

theorem exec_residueMismatch {n : Fin 18} {s : State} (ha : Awake s) (hf : s.dev.fencedUnit n = false) :
    exec (.residueMismatch n) s = .next { s with dev :=
      (match (s.dev.eng n).segment with
        | some (u, i) => s.dev.mismatch n u i
        | none => s.dev) } := by
  show execResidueMismatch n s = _
  unfold execResidueMismatch
  rw [on_awake _ _ ha]
  simp only [hf, Bool.false_eq_true, if_false] <;> rfl

theorem exec_islandEccError_record {n : Fin 18} {s : State} (k : Nat) (ha : Awake s)
    (hf : s.dev.fencedUnit n = false) :
    exec (.islandEccError n (.record k)) s = .next { s with dev :=
      (match (s.dev.eng n).records[k]? with
        | some (u, i) => s.dev.mismatch n u i
        | none => s.dev) } := by
  show execIslandEccError n (.record k) s = _
  unfold execIslandEccError
  rw [on_awake _ _ ha]
  simp only [hf, Bool.false_eq_true, if_false] <;> rfl

/-- Settles O28: the map by the two cases of its write, the errors by the equations of their commands. -/
theorem engineMapAndErrors : Obligations.EngineMapAndErrors := by
  refine ⟨?_, fun n s ha hf => ⟨?_, ?_, ?_, ?_, ?_, ?_⟩,
    fun d n u i => ⟨fun hc hn => mismatch_again hc hn, fun hc => ?_⟩⟩
  · rintro n val v s hu rfl
    refine ⟨fun hb => ?_, fun hb hm => ⟨fun hbeam hfree => ?_, fun hbad => ?_⟩,
      fun hb hm => exec_benMapWrite_elsewhere hu hb hm⟩
    · show execBenMapWrite n val s = _
      exact whenUp_same (by simp [hb])
    · have hok : ¬ (nBeams s.dev.variant ≤ (val &&& 0x8000011F).get 0 5 ∨
          s.dev.mapTaken n (val &&& 0x8000011F) = true) := by
        rintro (h | h)
        · omega
        · obtain ⟨m, hm, hne, hbm, hv⟩ := (mapTaken_iff _ _ _).mp h
          exact Bool.false_ne_true ((hfree m hm hne hbm).symm.trans hv)
      have hexec := exec_benMapWrite_configure (val := val) hu hb hm
      rw [if_neg hok] at hexec
      exact ⟨_, hexec, ⟨rfl, rfl⟩, Dev.rd_wr_same _ _ _, fun off ho => Dev.rd_wr_other _ _ _ _ ho⟩
    · rw [← mapTaken_iff] at hbad
      have hexec := exec_benMapWrite_configure (val := val) hu hb hm
      rw [if_pos hbad] at hexec
      exact ⟨_, hexec, ⟨rfl, rfl⟩, bit_setBit_same _ _ _ _ (by decide), fun off ho => Dev.rd_wr_other _ _ _ _ ho⟩
  · intro u i hseg
    rw [exec_residueMismatch ha hf, hseg]
  · intro hseg
    rw [exec_residueMismatch ha hf, hseg]
  · intro k u i hk
    rw [exec_islandEccError_record k ha hf, hk]
  · intro k hk
    rw [exec_islandEccError_record k ha hf, hk]
  · exact on_awake s (fun d => d.fault (n + 2) 5) ha
  · exact on_awake s (fun d => d.fault (n + 2) 6) ha
  · exact if_neg (by omega)

end Sys2Proof.Machine
end

section
/-! SUPPORT. When time reaches the instant it goes on to, and O30, which fails for want of that condition: TB3 may slew by
what is carried over from before, and a state may hold any carry (R396). -/

namespace Sys2Proof.Machine

/-! ## Time goes on (R392, R396) -/

theorem slewPpm_le (d : Dev) : d.slewPpm ≤ 255 := by
  have hfld : d.fld TIME_CFG 0 8 < 2 ^ 8 := Word.get_lt _ _ _
  unfold Dev.slewPpm
  split
  · omega
  · exact Nat.max_le.mpr ⟨by omega, by omega⟩

/-- With less than one whole unit of slew carried over, TB3 never slews past the instant it goes on to. -/
theorem slew_le (d : Dev) {dt : Nat} (hcarry : d.time.remSlew < 1000000) (hdt : dt ≠ 0) :
    (d.time.remSlew + dt * d.slewPpm) / 1000000 ≤ dt := by
  have hpos : 1 ≤ dt := Nat.one_le_iff_ne_zero.mpr hdt
  have hppm : dt * d.slewPpm ≤ dt * 255 := Nat.mul_le_mul_left _ (slewPpm_le d)
  omega

/-- Then time reaches that instant, and no more is carried over than before. -/
theorem advanceTo_reaches (d : Dev) {t : Nat} (hcarry : d.time.remSlew < 1000000) (ht : d.tb3 ≤ t) :
    (d.advanceTo t).tb3 = t ∧ (d.advanceTo t).time.remSlew < 1000000 := by
  unfold Dev.advanceTo
  dsimp only
  split
  · exact ⟨by omega, hcarry⟩
  · next hdt =>
    have hslew := slew_le d hcarry hdt
    refine ⟨?_, ?_⟩
    · show Int.toNat _ = t
      generalize (d.time.remSlew + (t - d.tb3) * d.slewPpm) / 1000000 = m at hslew ⊢
      have hs : clampInt (-(m : Int)) m d.tb3Gap ≤ m := by
        unfold clampInt
        split_ifs <;> omega
      omega
    · dsimp only
      split
      · omega
      · exact Nat.mod_lt _ (by omega)

/-! ## O30 -/

/-- A device whose TB3 stands at 0 and its TB1 at 2, with two whole units of slew carried over. -/
def slewCarried : Dev :=
  { State.reset.dev with time := { TimeCtl.reset with tb1 := 2, remSlew := 2000000 } }

/-- Its TB3 jumps both units at once, past the instant 1. -/
theorem slewCarried_advanceTo : (slewCarried.advanceTo 1).tb3 = 2 := by decide +kernel

/-- Refutes O30: its first clause takes any device, and one that carries two whole units of slew over goes past the
instant 1 to 2. Every step of time carries less than one over, and then the clause holds (`advanceTo_reaches`). -/
theorem not_ticksAndEngines : ¬ Obligations.TicksAndEngines := by
  rintro ⟨hreach, -⟩
  exact absurd (slewCarried_advanceTo.symm.trans (hreach slewCarried 1 (Nat.zero_le _))) (by decide)

end Sys2Proof.Machine
end

section
/-! SUPPORT. What events, flushes and faults leave of the recorder, and O58: the merge, the flushes and the commands of the
recorder (R35, R493 to R503, R514, R518). -/

namespace Sys2Proof.Machine

/-! ## What an event leaves of the device (R35, R384) -/

/-- `b` differs from `a` at most in the Byoft link and in what has left the device. -/
def LinkSide (a b : Dev) : Prop := ∃ byf out, b = { a with byf := byf, out := out }

theorem LinkSide.refl (a : Dev) : LinkSide a a := ⟨a.byf, a.out, rfl⟩

theorem LinkSide.trans {a b c : Dev} (h : LinkSide a b) (k : LinkSide b c) : LinkSide a c := by
  obtain ⟨y, o, rfl⟩ := h
  obtain ⟨y', o', rfl⟩ := k
  exact ⟨y', o', rfl⟩

theorem linkSide_sendTo (d : Dev) (v type : Nat) (c : List Int) : LinkSide d (d.sendTo v type c) := by
  unfold Dev.sendTo Dev.sendFrom
  split
  · exact ⟨_, _, rfl⟩
  · exact LinkSide.refl d

/-- An event waits for the merge, and what else it changes is on the link. -/
theorem linkSide_ownEvent (d : Dev) (e : Event) : LinkSide (d.queueEvent e) (d.ownEvent e) :=
  foldl_keeps LinkSide LinkSide.refl (fun _ _ _ => LinkSide.trans) _ (fun a v => linkSide_sendTo a v _ _) _ _

theorem linkSide_emit (d : Dev) (src code : Nat) (p : List Byte) :
    LinkSide (d.queueEvent ⟨d.tb3, d.devId, src, code, 0, pay p⟩) (d.emit src code p) := linkSide_ownEvent d _

theorem HostSide.rcd_eq {a b : Dev} (h : HostSide a b) : b.rcd = a.rcd := by
  obtain ⟨r, g, i, o, rfl⟩ := h
  rfl

theorem signal_rcd (d : Dev) (lo : Nat) : (d.signal lo).rcd = d.rcd := (hostSide_signal d lo).rcd_eq

/-! ## A REC_CLEAR that waits for its event, through a note of the recorder (R500, R518) -/

/-- The REC_CLEAR whose CLEARED event the merge has still to release is the same. -/
def SameClearing (a b : Dev) : Prop := b.rcd.clearing = a.rcd.clearing

theorem SameClearing.refl (a : Dev) : SameClearing a a := rfl

theorem SameClearing.trans {a b c : Dev} (h : SameClearing a b) (k : SameClearing b c) : SameClearing a c :=
  Eq.trans k h

theorem HostSide.sameClearing {a b : Dev} (h : HostSide a b) : SameClearing a b := congrArg Recorder.clearing h.rcd_eq

theorem sameClearing_ownEvent (d : Dev) (e : Event) : SameClearing d (d.ownEvent e) := by
  obtain ⟨y, o, h⟩ := linkSide_ownEvent d e
  rw [h]
  rfl

theorem sameClearing_emit (d : Dev) (src code : Nat) (p : List Byte) : SameClearing d (d.emit src code p) :=
  sameClearing_ownEvent d _

theorem sameClearing_startFlush (d : Dev) : SameClearing d d.startFlush := by
  unfold Dev.startFlush
  split
  · rfl
  · split <;> rfl

theorem sameClearing_faultFlush (d : Dev) (c : Cls) : SameClearing d (d.faultFlush c) := by
  unfold Dev.faultFlush
  split
  · exact sameClearing_startFlush d
  · split
    · exact sameClearing_startFlush d
    · rfl

theorem hostSide_setErr (d : Dev) (off bit : Nat) : HostSide d (d.setErr off bit) := by
  unfold Dev.setErr
  dsimp only
  split
  · exact (hostSide_wr d _ _).trans (hostSide_signal _ _)
  · exact hostSide_wr d _ _

/-- A further step, taken or not. -/
theorem sameClearing_step (c : Prop) [Decidable c] {a x y : Dev} (h : SameClearing a y) (k : SameClearing y x) :
    SameClearing a (if c then x else y) := by
  split
  · exact h.trans k
  · exact h

theorem sameClearing_wr (d : Dev) (o : Nat) (w : Word) : SameClearing d (d.wr o w) := rfl

theorem sameClearing_flt (d : Dev) (f : Faults) : SameClearing d { d with flt := f } := rfl

theorem sameClearing_life (d : Dev) (l : Life) : SameClearing d { d with life := l } := rfl

theorem sameClearing_enter (d : Dev) (h : Hist) : SameClearing d (d.enter h) := by
  unfold Dev.enter
  dsimp only
  refine SameClearing.trans ?_ (hostSide_signal _ _).sameClearing
  refine sameClearing_step _ ?_ (sameClearing_wr ..)
  refine sameClearing_step _ ?_ (sameClearing_wr ..)
  refine SameClearing.trans ?_ (sameClearing_wr ..)
  refine SameClearing.trans ?_ (sameClearing_wr ..)
  refine SameClearing.trans ?_ (sameClearing_wr ..)
  exact sameClearing_step _ (sameClearing_flt d _) (sameClearing_wr ..)

theorem sameClearing_recordFault (d : Dev) (inj : Bool) (src cause : Nat) (p : Word) (c : Cls) (b : Bool) :
    SameClearing d (d.recordFault inj src cause p c b) := by
  unfold Dev.recordFault
  dsimp only
  refine SameClearing.trans ?_ (sameClearing_faultFlush _ _)
  refine SameClearing.trans ?_ (sameClearing_life _ _)
  refine SameClearing.trans ?_ (sameClearing_ownEvent _ _)
  refine SameClearing.trans ?_ (sameClearing_enter _ _)
  have hinj : SameClearing d (if (!inj && d.flt.inj.isSome) = true then d.setBit FLT_STATUS 5 true else d) :=
    sameClearing_step _ (SameClearing.refl d) (sameClearing_wr ..)
  refine sameClearing_step _ ?_ (sameClearing_wr ..)
  split
  · exact hinj.trans (hostSide_setErr _ _ _).sameClearing
  · exact hinj

theorem sameClearing_stopReplay (d : Dev) : SameClearing d d.stopReplay := by
  unfold Dev.stopReplay Dev.endReplay
  split
  · exact SameClearing.refl d
  · have hst : stAborted ≠ stReject := by decide
    refine SameClearing.trans ?_ (hostSide_complete _ _ _ _ _ hst).sameClearing
    rfl

theorem sameClearing_holdTrigger (d : Dev) (trig : Nat) (atLayerEnd quiet : Bool) :
    SameClearing d (d.holdTrigger trig atLayerEnd quiet) := by
  have hmode : ∀ (x : Dev) (m : ModeCtl), SameClearing x { x with mode := m } := fun _ _ => rfl
  unfold Dev.holdTrigger
  split
  · exact sameClearing_stopReplay d
  · split
    · exact sameClearing_step _ (SameClearing.refl d) (hmode d _)
    · dsimp only
      refine SameClearing.trans ?_ (sameClearing_emit _ _ _ _)
      refine SameClearing.trans ?_ (hmode _ _)
      split
      · exact (hostSide_fail d _ stAborted 0 (by decide)).sameClearing
      · exact SameClearing.refl d

/-- A NOTE-class fault, promoted to HOLD or not. -/
theorem sameClearing_raise_note (d : Dev) (src cause : Nat) (p : Word) (hu : unitOfSource src = none)
    (hc : d.faultClass src cause p = some .note) : SameClearing d (d.raise src cause p) := by
  have hraise : d.raise src cause p = d.raiseHow .real src cause p := by
    unfold Dev.raise Dev.raiseWith
    rw [hu]
  rw [hraise]
  cases hp : d.promotes src .note with
  | false =>
    rw [raise_note d src cause p hc hp]
    exact sameClearing_recordFault ..
  | true =>
    have hlive : ∀ (x : Dev) b, SameClearing x ((x.addLive src cause .hold b).errPulse) := fun _ _ => rfl
    unfold Dev.raiseHow How.classOf
    simp only [How.real, hc, hp, if_true, Dev.react]
    exact ((sameClearing_recordFault ..).trans (hlive _ _)).trans (sameClearing_holdTrigger _ _ _ _)

/-- REC_FULL leaves it waiting. -/
theorem sameClearing_recFull (d : Dev) : SameClearing d (d.fault 36 3) := by
  have hclass : ∀ (x : Dev) (p : Word), x.faultClass 36 3 p = some .note := fun _ _ => rfl
  have hfree : SameClearing d d.free.2 := rfl
  exact hfree.trans (sameClearing_raise_note d.free.2 36 3 _ (by decide) (hclass _ _))

theorem sameClearing_rcd (d : Dev) (r : Recorder) (h : r.clearing = d.rcd.clearing) :
    SameClearing d { d with rcd := r } := h

theorem sameClearing_recDiscard (d : Dev) : SameClearing d d.recDiscard := rfl

theorem sameClearing_mramAppend (d : Dev) (bs : List (List Byte)) (pointer : Bool) :
    SameClearing d (d.mramAppend bs pointer) := by
  unfold Dev.mramAppend
  dsimp only
  exact sameClearing_step _ (sameClearing_rcd d _ rfl) (sameClearing_recFull _)

theorem sameClearing_bufAdd (d : Dev) (b : List Byte) : SameClearing d (d.bufAdd b) := by
  unfold Dev.bufAdd
  dsimp only
  split
  · split
    · exact sameClearing_mramAppend d _ _
    · exact sameClearing_recDiscard d
  · split
    · exact sameClearing_rcd d _ rfl
    · split
      · exact sameClearing_step _ (sameClearing_rcd d _ rfl) (sameClearing_startFlush _)
      · split
        · split
          · exact (sameClearing_rcd d _ rfl).trans (sameClearing_recDiscard _)
          · exact sameClearing_recDiscard d
        · exact sameClearing_recDiscard d

/-! ## The merge (R35, R493 to R496) -/

theorem length_leBytes (n x : Nat) : (leBytes n x).length = n := by
  induction n generalizing x with
  | zero => rfl
  | succ n ih => simp [leBytes, ih]

theorem length_eventBytes (v : Event) (n : Nat) : (v.bytes n).length = 32 := by
  simp [Event.bytes, length_leBytes, pay]

/-- No Woram record waits for the merge. -/
theorem finishWorams_none {d : Dev} (h : d.closing = []) : d.finishWorams = d := by
  unfold Dev.finishWorams
  rw [h]
  rfl

/-- No discard has still to be told. -/
theorem reportDrops_none {d : Dev} (h : d.rcd.dropped = 0) : d.reportDrops = d := if_neg fun hd => hd.1 h

/-- The device once the first waiting event has its sequence number. -/
def Dev.numbered (d : Dev) (vs : List Event) : Dev :=
  { d with rcd := { d.rcd with waiting := vs, seq := (d.rcd.seq + 1) % 2 ^ 32 } }

/-- The device once the event has been offered to the buffer, which takes none stamped before the last REC_CLEAR (R502). -/
def Dev.buffered (d : Dev) (v : Event) (vs : List Event) : Dev :=
  if d.admits v && !d.rcd.clearedAt.any (fun t => decide (v.t < t)) then (d.numbered vs).bufAdd (v.bytes d.rcd.seq)
  else d.numbered vs

/-- The device once a REC_CLEAR that waits for this event has completed (R518). -/
def Dev.cleared (d : Dev) (v : Event) : Dev :=
  match d.rcd.clearing with
  | some q =>
    if v.src = 36 ∧ v.code = 0x51 then Dev.ok { d with rcd := { d.rcd with clearing := none } } q 0 0 0 0 else d
  | none => d

/-- A Woram record takes the released event among its items where it covers it (R507). -/
def Woram.put (v : Event) (b : List Byte) (w : Woram) : Woram :=
  if w.takes v then { w with items := w.items ++ [(7, b)] } else w

/-- The merge releases an event in four parts: its number, the buffer, a REC_CLEAR, the records and the stream. -/
theorem releaseOne_eq {d : Dev} {v : Event} {vs : List Event} (hw : d.rcd.waiting = v :: vs) :
    d.releaseOne = Dev.stream { (d.buffered v vs).cleared v with
      woram := ((d.buffered v vs).cleared v).woram.map (Woram.put v (v.bytes d.rcd.seq))
      closing := ((d.buffered v vs).cleared v).closing.map (Woram.put v (v.bytes d.rcd.seq)) }
        1 0 (v.bytes d.rcd.seq) false := by
  have hold : (match d.rcd.clearedAt with | some t => decide (v.t < t) | none => false) =
      d.rcd.clearedAt.any (fun t => decide (v.t < t)) := by cases d.rcd.clearedAt <;> rfl
  unfold Dev.releaseOne Dev.buffered
  rw [hw, ← hold]
  rfl

theorem sameClearing_buffered (d : Dev) (v : Event) (vs : List Event) : SameClearing d (d.buffered v vs) := by
  have hnumbered : SameClearing d (d.numbered vs) := rfl
  exact sameClearing_step _ hnumbered (sameClearing_bufAdd _ _)

/-- With room in a buffer that no flush becomes due for, a record stands last in it. -/
theorem bufAdd_quiet {d : Dev} (b : List Byte) (hbypass : d.rcd.bypass = false) (hfull : d.rcd.full = false)
    (husable : d.rcd.mram.usable = true) (hroom : d.rcd.buf.length + 1 < 4096) :
    d.bufAdd b = { d with rcd := { d.rcd with buf := d.rcd.buf ++ [b] } } := by
  have hlt : d.rcd.buf.length < 8192 := by omega
  have hne : d.rcd.buf.length + 1 ≠ 4096 := by omega
  unfold Dev.bufAdd
  simp only [hbypass, hfull, husable, hlt, hne, Bool.false_eq_true, Bool.not_true, Bool.or_self, if_true, if_false]

/-- Such a buffer has the event's record where it admits the event. -/
theorem buffered_quiet {d : Dev} (v : Event) (vs : List Event) (hbypass : d.rcd.bypass = false)
    (hfull : d.rcd.full = false) (husable : d.rcd.mram.usable = true) (hroom : d.rcd.buf.length + 1 < 4096)
    (hnew : d.rcd.clearedAt = none) :
    (d.buffered v vs).rcd = { (d.numbered vs).rcd with
      buf := if d.admits v then d.rcd.buf ++ [v.bytes d.rcd.seq] else d.rcd.buf } := by
  unfold Dev.buffered
  rw [hnew, bufAdd_quiet (d := d.numbered vs) _ hbypass hfull husable hroom]
  cases d.admits v <;> rfl

theorem exec_eventMergeRelease {s : State} (ha : Awake s) :
    exec .eventMergeRelease s = .next { s with dev :=
      (if s.dev.mergeReady then s.dev.releaseOne.finishWorams else s.dev.finishWorams).reportDrops } :=
  on_awake s (fun d => (if d.mergeReady then d.releaseOne.finishWorams else d.finishWorams).reportDrops) ha

/-- A release with nothing to clear and a buffer that takes records. -/
theorem exec_eventMergeRelease_buffers {s : State} {v : Event} {vs : List Event} (ha : Awake s)
    (hw : s.dev.rcd.waiting = v :: vs) (hm : s.dev.mergeReady = true) (hclear : s.dev.rcd.clearing = none)
    (hbypass : s.dev.rcd.bypass = false) (hfull : s.dev.rcd.full = false) (husable : s.dev.rcd.mram.usable = true)
    (hroom : s.dev.rcd.buf.length + 1 < 4096) (hnew : s.dev.rcd.clearedAt = none) :
    ∃ d : Dev, exec .eventMergeRelease s =
        .next { s with dev := (d.stream 1 0 (v.bytes s.dev.rcd.seq) false).finishWorams.reportDrops } ∧
      d.rcd.waiting = vs ∧ d.rcd.seq = (s.dev.rcd.seq + 1) % 2 ^ 32 ∧
      d.rcd.buf = (if s.dev.admits v then s.dev.rcd.buf ++ [v.bytes s.dev.rcd.seq] else s.dev.rcd.buf) := by
  have hrcd := buffered_quiet v vs hbypass hfull husable hroom hnew
  have hc : (s.dev.buffered v vs).cleared v = s.dev.buffered v vs := by
    unfold Dev.cleared
    rw [sameClearing_buffered s.dev v vs, hclear]
  rw [exec_eventMergeRelease ha, if_pos hm, releaseOne_eq hw, hc]
  refine ⟨_, rfl, ?_, ?_, ?_⟩
  · exact congrArg Recorder.waiting hrcd
  · exact congrArg Recorder.seq hrcd
  · exact congrArg Recorder.buf hrcd

/-- A release of the CLEARED event that a REC_CLEAR waits for completes it (R518). -/
theorem exec_eventMergeRelease_clears {s : State} {v : Event} {vs : List Event} {q : Req} (ha : Awake s)
    (hw : s.dev.rcd.waiting = v :: vs) (hm : s.dev.mergeReady = true) (hclear : s.dev.rcd.clearing = some q)
    (hv : v.src = 36 ∧ v.code = 0x51) :
    ∃ (d : Dev) (f : Woram → Woram), d.rcd.clearing = none ∧ exec .eventMergeRelease s =
      .next { s with dev := (Dev.stream { d.ok q 0 0 0 0 with
        woram := (d.ok q 0 0 0 0).woram.map f, closing := (d.ok q 0 0 0 0).closing.map f }
          1 0 (v.bytes s.dev.rcd.seq) false).finishWorams.reportDrops } := by
  have hc : (s.dev.buffered v vs).cleared v = Dev.ok
      { s.dev.buffered v vs with rcd := { (s.dev.buffered v vs).rcd with clearing := none } } q 0 0 0 0 := by
    unfold Dev.cleared
    rw [sameClearing_buffered s.dev v vs, hclear]
    exact if_pos hv
  rw [exec_eventMergeRelease ha, if_pos hm, releaseOne_eq hw, hc]
  exact ⟨{ s.dev.buffered v vs with rcd := { (s.dev.buffered v vs).rcd with clearing := none } }, _, rfl, rfl⟩

/-- Nothing to release, to emit or to tell. -/
theorem exec_eventMergeRelease_idle {s : State} (ha : Awake s)
    (hidle : s.dev.mergeReady = false ∨ s.dev.rcd.waiting = []) (hclosing : s.dev.closing = [])
    (hdropped : s.dev.rcd.dropped = 0) : exec .eventMergeRelease s = .next s := by
  have hrelease : (if s.dev.mergeReady then s.dev.releaseOne.finishWorams else s.dev.finishWorams) = s.dev := by
    rcases hidle with hidle | hidle
    · rw [hidle, if_neg Bool.false_ne_true, finishWorams_none hclosing]
    · have hnone : s.dev.releaseOne = s.dev := by
        unfold Dev.releaseOne
        rw [hidle]
      rw [hnone, finishWorams_none hclosing, ite_self]
  rw [exec_eventMergeRelease ha, hrelease, reportDrops_none hdropped]

/-! ## Flushes (R495 to R503) -/

theorem startFlush_idle {d : Dev} (husable : d.rcd.mram.usable = true) (hidle : d.rcd.flushing = false) :
    d.startFlush = { d with rcd := { d.rcd with
      flushing := true, writing := d.rcd.buf.length, flushAt := d.tb3, noteDue := false } } := by
  simp only [Dev.startFlush, husable, hidle, Bool.not_true, Bool.false_eq_true, if_false]

theorem startFlush_running {d : Dev} (husable : d.rcd.mram.usable = true) (hrun : d.rcd.flushing = true) :
    d.startFlush = { d with rcd := { d.rcd with again := true } } := by
  simp only [Dev.startFlush, husable, hrun, Bool.not_true, Bool.false_eq_true, if_false, if_true]

/-- The pointer slot written, the records and the lifetime image of the MRAM are as they were. -/
theorem writePointer_keeps (m : Mram) (wptr : Nat) (full : Bool) :
    (m.writePointer wptr full).recs = m.recs ∧ (m.writePointer wptr full).lifeGen = m.lifeGen := by
  unfold Mram.writePointer
  dsimp only
  split <;> exact ⟨rfl, rfl⟩

/-- Records that leave room in the record area stand at its end, and the pointer has moved past them. -/
theorem mramAppend_room {d : Dev} (bs : List (List Byte)) (hroom : d.rcd.wptr + bs.length < d.rcd.mram.area) :
    d.mramAppend bs true = { d with rcd := { d.rcd with
      wptr := d.rcd.wptr + bs.length, full := false
      mram := ({ d.rcd.mram with recs := d.rcd.mram.recs.take d.rcd.wptr ++ bs } : Mram).writePointer
        (d.rcd.wptr + bs.length) false } } := by
  have hfull : decide (d.rcd.mram.area ≤ d.rcd.wptr + bs.length) = false := decide_eq_false (by omega)
  unfold Dev.mramAppend
  simp only [hfull, Bool.true_or, Bool.false_eq_true, if_false, if_true]

/-- A flush that the MRAM verifies, of records that leave room in the record area (R498). -/
theorem flushRecords_room {d : Dev} {n : Nat} (hfull : d.rcd.full = false) (hn : n ≤ d.rcd.buf.length)
    (hroom : d.rcd.wptr + n < d.rcd.mram.area) :
    (d.flushRecords n).rcd = { d.rcd with
      buf := d.rcd.buf.drop n, writing := 0, wptr := d.rcd.wptr + n, full := false
      mram := ({ d.rcd.mram with recs := d.rcd.mram.recs.take d.rcd.wptr ++ d.rcd.buf.take n } : Mram).writePointer
        (d.rcd.wptr + n) false } := by
  have hmin : Nat.min (Nat.min n d.rcd.buf.length) (d.rcd.mram.area - d.rcd.wptr) = n := by
    rw [show Nat.min n d.rcd.buf.length = n from Nat.min_eq_left hn]
    exact Nat.min_eq_left (by omega)
  have hlen : (d.rcd.buf.take n).length = n := List.length_take_of_le hn
  unfold Dev.flushRecords
  simp only [hfull, hmin, Bool.false_eq_true, if_false]
  rw [mramAppend_room _ (by rw [hlen]; exact hroom), hlen]

/-- The end of a flush that nothing waits for. -/
theorem afterFlush_alone {d : Dev} (good : Bool) (hagain : d.rcd.again = false) (hreqs : d.rcd.flushReqs = [])
    (hclear : d.rcd.clearReq = none) :
    (d.afterFlush good).rcd = { d.rcd with
      flushing := false, again := false, writing := 0, pfail := d.rcd.pfail && d.rcd.again
      flushReqs := d.rcd.nextReqs, nextReqs := [] } := by
  unfold Dev.afterFlush
  simp only [hagain, hreqs, hclear, Bool.false_eq_true, if_false, List.foldl_nil]

/-- The lifetime image is updated first, and no other part of the recorder is (R513). -/
theorem flushEnd_ok_eq {d : Dev} (hrun : d.rcd.flushing = true) :
    ∃ x : Dev, d.flushEnd .ok = (((x.flushRecords d.rcd.writing).endCause 36 2).afterFlush true).reportDrops ∧
      x.rcd = { d.rcd with mram :=
        { d.rcd.mram with life := x.rcd.mram.life, lifeGen := d.rcd.mram.lifeGen + 1 } } :=
  ⟨_, if_neg (by simp [hrun]), rfl⟩

/-- A verified flush that nothing waits for, and that leaves room in the record area: the records it was started with have
moved there, and the lifetime image is a generation on. -/
theorem flushEnd_ok {d : Dev} {n : Nat} (hrun : d.rcd.flushing = true) (hagain : d.rcd.again = false)
    (hreqs : d.rcd.flushReqs = []) (hclear : d.rcd.clearReq = none) (hfull : d.rcd.full = false)
    (hdropped : d.rcd.dropped = 0) (hwriting : n = d.rcd.writing) (hn : n ≤ d.rcd.buf.length)
    (hroom : d.rcd.wptr + n < d.rcd.mram.area) :
    (d.flushEnd .ok).rcd.flushing = false ∧ (d.flushEnd .ok).rcd.buf = d.rcd.buf.drop n ∧
      (d.flushEnd .ok).rcd.wptr = d.rcd.wptr + n ∧ (d.flushEnd .ok).rcd.full = false ∧
      (d.flushEnd .ok).rcd.mram.recs = d.rcd.mram.recs.take d.rcd.wptr ++ d.rcd.buf.take n ∧
      (d.flushEnd .ok).rcd.mram.lifeGen = d.rcd.mram.lifeGen + 1 := by
  obtain ⟨x, hx, hrcd⟩ := flushEnd_ok_eq hrun
  have hy : ((x.flushRecords n).endCause 36 2).rcd = { d.rcd with
      buf := d.rcd.buf.drop n, writing := 0, wptr := d.rcd.wptr + n, full := false
      mram := ({ x.rcd.mram with recs := d.rcd.mram.recs.take d.rcd.wptr ++ d.rcd.buf.take n } : Mram).writePointer
        (d.rcd.wptr + n) false } := by
    show (x.flushRecords n).rcd = _
    rw [flushRecords_room (d := x) (by rw [hrcd]; exact hfull) (by rw [hrcd]; exact hn) (by rw [hrcd]; exact hroom), hrcd]
  obtain ⟨hrecs, hgen⟩ := writePointer_keeps
    { x.rcd.mram with recs := d.rcd.mram.recs.take d.rcd.wptr ++ d.rcd.buf.take n } (d.rcd.wptr + n) false
  rw [← hwriting] at hx
  generalize (x.flushRecords n).endCause 36 2 = y at hx hy
  have hz := afterFlush_alone (d := y) true (by rw [hy]; exact hagain) (by rw [hy]; exact hreqs) (by rw [hy]; exact hclear)
  rw [hy] at hz
  rw [hx, reportDrops_none ((congrArg Recorder.dropped hz).trans hdropped), hz]
  refine ⟨rfl, rfl, rfl, rfl, hrecs, hgen.trans ?_⟩
  rw [hrcd]

/-- With no flush running the MRAM's answer is none to the recorder. -/
theorem exec_flushComplete_idle {s : State} (x : Xspi) (h : s.dev.rcd.flushing = false) :
    exec (.flushComplete x) s = .next s := by
  have hend : s.dev.flushEnd x = s.dev := if_pos (by simp [h])
  show Host.Outcome.next (if s.dev.mode.boot = 0 then s else { s with dev := s.dev.flushEnd x }) = _
  rw [hend, ite_self]

/-! ## The buffer SRAM (R503) -/

theorem bit_rcd (d : Dev) (r : Recorder) (off i : Nat) : ({ d with rcd := r } : Dev).bit off i = d.bit off i := rfl

/-- A failure logged: the bit of REC_STATUS is set, and of the recorder the shadow log alone has changed. -/
theorem shadowLog_keeps (d : Dev) (kind addr : Nat) : (d.shadowLog kind addr).bit REC_STATUS 30 = true ∧
    ∃ l, (d.shadowLog kind addr).rcd = { d.rcd with shadow := l } := by
  have hbit : (d.setBit REC_STATUS 30 true).bit REC_STATUS 30 = true := bit_setBit_same _ _ _ _ (by decide)
  unfold Dev.shadowLog
  dsimp only
  split
  · exact ⟨(bit_rcd _ _ _ _).trans hbit, _, rfl⟩
  · refine ⟨?_, _, rfl⟩
    have hapart : REC_STATUS ≠ REC_SHADOW_CNT := by decide
    rw [Dev.bit, Dev.count, Dev.rd_wr_other _ _ _ _ hapart]
    exact hbit

/-- Where the MRAM is not used, the loss of a word loses its record, and bypass is in force (log entry 31). -/
theorem exec_recSramFail_unused {s : State} (word : BitVec 29) (ha : Awake s) (hm : s.dev.rcd.mram.usable = false) :
    ∃ d : Dev, exec (.recSramFail word) s = .next { s with dev := ((d.fault 36 1).endCause 36 1) } ∧
      d.rcd.bypass = true ∧ d.rcd.buf = s.dev.rcd.buf.eraseIdx (word.toNat / 8) ∧ d.bit REC_STATUS 30 = true := by
  obtain ⟨hbit, l, hrcd⟩ := shadowLog_keeps s.dev 1 word.toNat
  have hm' : (s.dev.shadowLog 1 word.toNat).rcd.mram.usable = false := by rw [hrcd]; exact hm
  show ∃ d : Dev, execRecSramFail word s = _ ∧ _
  unfold execRecSramFail
  rw [on_awake _ _ ha]
  simp only [hm', Bool.false_eq_true, if_false]
  refine ⟨_, rfl, rfl, ?_, hbit⟩
  show (s.dev.shadowLog 1 word.toNat).rcd.buf.eraseIdx _ = _
  rw [hrcd]

/-! ## The commands (R495, R502, R514, R518) -/

/-- A command that waits for a flush, with none running: it starts one. -/
theorem flushFor_idle {d : Dev} (q : Req) (husable : d.rcd.mram.usable = true) (hidle : d.rcd.flushing = false) :
    (d.flushFor q).rcd = { d.rcd with
      flushing := true, writing := d.rcd.buf.length, flushAt := d.tb3, noteDue := false
      flushReqs := d.rcd.flushReqs ++ [q] } := by
  unfold Dev.flushFor
  rw [if_neg (by simp [hidle]), startFlush_idle husable hidle]

/-- With one running, it waits for the second (R495). -/
theorem flushFor_running {d : Dev} (q : Req) (husable : d.rcd.mram.usable = true) (hrun : d.rcd.flushing = true) :
    (d.flushFor q).rcd = { d.rcd with again := true, nextReqs := d.rcd.nextReqs ++ [q] } := by
  unfold Dev.flushFor
  rw [if_pos hrun, startFlush_running husable hrun]

/-- REC_CLEAR empties the log, and its CLEARED event waits for the merge; nothing else but the link changes. -/
theorem linkSide_recClear (d : Dev) (q : Req) : ∃ e : Event, LinkSide { d with rcd := { d.rcd with
    wptr := 0, full := false, buf := [], writing := 0, clearReq := none, clearing := some q, clearedAt := some d.tb3
    waiting := insertEvent e d.rcd.waiting } } (d.recClear q) :=
  ⟨_, linkSide_emit _ _ _ _⟩

/-- Checks made after others that pass. -/
theorem firstFail_append {cs ds : List (Bool × Nat × Nat)} (h : firstFail cs = none) :
    firstFail (cs ++ ds) = firstFail ds := by
  induction cs with
  | nil => rfl
  | cons c cs ih =>
    obtain ⟨bad, st, x⟩ := c
    cases bad with
    | true => simp [firstFail] at h
    | false => exact ih h

/-- A command whose checks fail completes with the first failure. -/
theorem command_fails (s : State) (op : Nat) (c : Cmd) (r : Req) (e : Env) {st x : Nat} (hu : Up s)
    (hr : s.dev.mayTake (asOp op r) = true) (hg : groupOn op (s.dev.ringType r.ring) = true)
    (hc : c.check (started s op r) (asOp op r) = some (st, x)) :
    s.command op c r e = .next { s with dev := (started s op r).fail (asOp op r) st x } := by
  have hrun : c.run (asOp op r) e s.dev = (started s op r).fail (asOp op r) st x := by
    show (match c.check (started s op r) (asOp op r) with
      | some (st, x) => (started s op r).fail (asOp op r) st x
      | none => c.finish (asOp op r) e (started s op r)) = _
    rw [hc]
  unfold State.command
  rw [whenUp_up _ _ hu]
  change Host.Outcome.next { s with dev := (if (!s.dev.mayTake (asOp op r)) = true then s.dev
    else if (!groupOn op (s.dev.ringType r.ring)) = true then (s.dev.launch (asOp op r)).fail (asOp op r) stMalformed 0x0003
    else c.run (asOp op r) e s.dev) } = _
  rw [hr, hg, hrun]
  rfl

/-- A command that only MANUFACTURE permits is taken there alone (R518). -/
theorem lcState_of_lifeReset {s : State} {r : Req} (h : Takes s 0x0A05 cmdLifeReset r) : s.dev.lcState = 1 := by
  obtain ⟨-, -, -, -, hcheck⟩ := h
  have hdenied := (firstFail_none_iff _).mp hcheck (deniedIf (s.dev.lcState != 1))
    (List.mem_append_right _ (by exact List.mem_cons_self ..))
  simpa [deniedIf] using hdenied

/-- REC_FLUSH (R495, R518). -/
theorem exec_recFlush {r : Req} {e : Env} {s : State} (h : Takes s 0x0A01 cmdRecFlush r) :
    exec (.recFlush r e) s = .next { s with dev :=
      (if s.dev.rcd.mram.usable then (started s 0x0A01 r).flushFor (asOp 0x0A01 r)
      else (started s 0x0A01 r).fail (asOp 0x0A01 r) stTimeout 0x0A01) } := by
  refine (command_takes s 0x0A01 cmdRecFlush r e h).trans ?_
  have hrcd : (started s 0x0A01 r).rcd = s.dev.rcd := rfl
  simp only [cmdRecFlush, hrcd]
  cases s.dev.rcd.mram.usable <;> rfl

theorem exec_recClear {r : Req} {e : Env} {s : State} (h : Takes s 0x0A02 cmdRecClear r) :
    exec (.recClear r e) s = .next { s with dev :=
      (if s.dev.rcd.flushing then
        { started s 0x0A02 r with rcd := { s.dev.rcd with clearReq := some (asOp 0x0A02 r) } }
      else (started s 0x0A02 r).recClear (asOp 0x0A02 r)) } :=
  command_takes s 0x0A02 cmdRecClear r e h

/-- The lifetime image and what has not yet been flushed to it, zeroed (R514). -/
def lifeZeroed (d : Dev) : Dev :=
  { d with
    rcd := { d.rcd with mram := { d.rcd.mram with life := Life.zero } }
    life := { Life.zero with seconds := d.tb0 / 16000000000 } }

theorem exec_lifeReset {r : Req} {e : Env} {s : State} (h : Takes s 0x0A05 cmdLifeReset r) :
    exec (.lifeReset r e) s = .next { s with dev := (lifeZeroed (started s 0x0A05 r)).ok (asOp 0x0A05 r) 0 0 0 0 } :=
  command_takes s 0x0A05 cmdLifeReset r e h

/-- In a life-cycle other than MANUFACTURE, LIFE_RESET is DENIED (R518). -/
theorem exec_lifeReset_denied {r : Req} {e : Env} {s : State} (hu : Up s) (hr : s.dev.mayTake (asOp 0x0A05 r) = true)
    (hg : groupOn 0x0A05 (s.dev.ringType r.ring) = true) (hshape : firstFail (shape (asOp 0x0A05 r) [] none 0) = none)
    (hlc : s.dev.lcState ≠ 1) :
    exec (.lifeReset r e) s = .next { s with dev := (started s 0x0A05 r).fail (asOp 0x0A05 r) stDenied 0 } := by
  have hlc' : ((started s 0x0A05 r).lcState != 1) = true := by
    rw [show (started s 0x0A05 r).lcState = s.dev.lcState from rfl]
    simp [hlc]
  refine command_fails s 0x0A05 cmdLifeReset r e hu hr hg ?_
  show firstFail (shape (asOp 0x0A05 r) [] none 0 ++ _) = _
  rw [firstFail_append hshape]
  simp only [deniedIf, hlc', firstFail, if_true]

/-- Settles O58: the merge, the flush and the commands by the equations of this file (the loss of a buffer word: log
entry 31). -/
theorem recorderFlushes : Obligations.RecorderFlushes := by
  refine ⟨?_, ?_, ?_, length_eventBytes, ?_, ?_, fun s x h => exec_flushComplete_idle x h,
    fun word s ha hm => exec_recSramFail_unused word ha hm, fun r e s => ⟨?_, ?_, ?_, ?_, ?_⟩⟩
  · exact fun s v vs ha hw hm hclear hbypass hfull husable hroom hnew =>
      exec_eventMergeRelease_buffers ha hw hm hclear hbypass hfull husable hroom hnew
  · exact fun s v vs q ha hw hm hclear hsrc hcode => exec_eventMergeRelease_clears ha hw hm hclear ⟨hsrc, hcode⟩
  · exact fun s ha hidle hclosing hdropped => exec_eventMergeRelease_idle ha hidle hclosing hdropped
  · intro s ha
    have hexec := on_awake s (fun d => if d.rcd.noteDue then d.startFlush else d) ha
    refine ⟨fun hdue => hexec.trans ?_, fun hdue => hexec.trans ?_⟩ <;> simp only [hdue] <;> rfl
  · intro s ha hrun hagain hreqs hnext hclear hfull hdropped
    refine ⟨fun n hwriting hn hroom => ?_, ?_⟩
    · obtain ⟨hflushing, hbuf, hwptr, hfull', hrecs, hgen⟩ :=
        flushEnd_ok hrun hagain hreqs hclear hfull hdropped hwriting hn hroom
      exact ⟨_, on_awake s (fun d => d.flushEnd .ok) ha, ⟨rfl, rfl⟩, hflushing, hbuf, hwptr, hfull', hrecs, hgen⟩
    · rintro x kind (⟨rfl, rfl⟩ | ⟨rfl, rfl⟩)
      · exact (on_awake s (fun d => d.flushEnd .badVerify) ha).trans (by simp only [Dev.flushEnd, hrun]; rfl)
      · exact (on_awake s (fun d => d.flushEnd .noResponse) ha).trans (by simp only [Dev.flushEnd, hrun]; rfl)
  · intro h
    have hexec := exec_recFlush (e := e) h
    refine ⟨fun hm => ?_, fun hm => ?_⟩
    · rw [hexec, hm]
      rfl
    · rw [hm, if_pos rfl] at hexec
      refine ⟨_, hexec, ⟨rfl, rfl⟩, ?_⟩
      dsimp only
      cases hrun : s.dev.rcd.flushing with
      | false =>
        rw [flushFor_idle (d := started s 0x0A01 r) _ hm hrun]
        exact ⟨rfl, rfl, fun _ => ⟨rfl, rfl⟩, fun hno => absurd hno Bool.false_ne_true⟩
      | true =>
        rw [flushFor_running (d := started s 0x0A01 r) _ hm hrun]
        exact ⟨hrun, rfl, fun hno => absurd hno.symm Bool.false_ne_true, fun _ => ⟨rfl, rfl⟩⟩
  · intro h hidle
    obtain ⟨v, y, o, hclear⟩ := linkSide_recClear (started s 0x0A02 r) (asOp 0x0A02 r)
    have hexec := exec_recClear (e := e) h
    rw [hidle, if_neg Bool.false_ne_true, hclear] at hexec
    exact ⟨_, hexec, ⟨rfl, rfl⟩, rfl, rfl, rfl, rfl, rfl, rfl, rfl, rfl, rfl⟩
  · intro h hrun
    have hexec := exec_recClear (e := e) h
    rw [hrun, if_pos rfl] at hexec
    exact ⟨_, hexec, ⟨rfl, rfl⟩, rfl, rfl, rfl⟩
  · intro h
    have hexec := exec_lifeReset (e := e) h
    have hrcd := (hostSide_ok (lifeZeroed (started s 0x0A05 r)) (asOp 0x0A05 r) 0 0 0 0).rcd_eq
    exact ⟨_, hexec, ⟨rfl, rfl⟩, lcState_of_lifeReset h, congrArg (fun x => x.mram.life) hrcd,
      congrArg (fun x => x.mram.recs) hrcd⟩
  · exact fun hu hr hg hshape hlc => exec_lifeReset_denied hu hr hg hshape hlc

end Sys2Proof.Machine
end

section
/-! SUPPORT. What each command does in reset, and O5 and O6: the state after reset, and what each reset restores (R57 to
R60). -/

namespace Sys2Proof.Machine

/-! ## Commands in reset (R60) -/

/-- A command that neither resets the device, nor releases it, nor may change the memory does nothing in reset, and out of
it changes the device alone. -/
theorem exec_acts {c : Instr} (hmem : touchesMemory c = false) (hreset : actsInReset c = false) : Acts (exec c) := by
  cases c
  case modeSet | layerOpen | layerStart | layerDiscard | layerQuery | barge | ptabLoad | ptabDrop | ptabQuery |
      replayLayer | ledgerClear | ledgerRead | gridLoad | calMark | calProbe | calEdge | calResid | gridQuery |
      residQuery | camSensorSet | camPipeSet | camDefectLoad | camTrigger | camTapSet | camQuery | camI2cRead |
      headJog | headMoor | portSleep | portQuery | laneTest | linkRetrain | calXresid | linkQuery | timeBuildStart |
      timeToutArm | timeToutStop | timeTb1Set | ptpAddrSet | timeQuery | motMove | motRetune | motStop | motHome |
      motEnable | motRecoatSet | motRecoatRun | motQuery | ledSet | bloomSet | ledRearm | ledQuery | trimRun |
      trimCommit | trimLoad | trimRead | faultAck | faultClear | faultInject | fenceLift | errLevel | faultQuery |
      histRead | recFlush | recClear | monSet | monCapture | lifeReset | recRead | lifeRead | woramQuery | lcAdvance |
      mbistRun | repairStore | bistQuery =>
    unfold exec; exact acts_command _ _ _ _
  case softKey | causeClr | safeReq | fwLoadStart | fwLoadDone | w1cClear | lostClearClr | lowWordRead |
      bar0BadRequest | ringEnable | ringDisable | ringReset | barrierAck | doorbellPoll | descriptorReadDone |
      dataReadDone | pcieLinkDown | bufferDescriptor | modeSetWaitRelease | layerOpenWaitRelease | basinSpaceFetch |
      benMapWrite | rampTableWrite | benCntClr | mpCntClr | lockDefine | fadeWrite | lkCntClr | ldgCntClr |
      visCntClr | laneInject | laneCfgWrite | scnCntClr | lasCntClr | dramCntClr | byfCntClr | timeSnap | timeCntClr |
      sineTableWrite | histSelect | recCursorLoad | recWin7Read | recShadowSelect | repairApply | bistMemSelect |
      pcieLinkUp | hostReadTimeout | msixUnmask =>
    unfold exec; exact acts_up _
  case coalesceTimeout | streamFlushTimeout | finishLimitExpiry | safePointReached | layerStartTick |
      startWaitTimeout | layerEnd | bargeWaitTimeout | bargeDispatch | lockQueueRoom | tickStrobe | fbCutoff |
      enginePlan | residueMismatch | islandEccError | barrierRelease | vectorOutcome | dryTimeReport |
      spareTakeoverDone | lkCycle | unitCommit | half1Commit | trackExpiry | lookaheadRead | ledgerUpdate |
      ledgerLossNotice | epochStart | featureArrival | gridCommit | cameraTrigger | csiFrameStart | csiLongPacket |
      csiFrameEnd | frameTimeout | frameStartTimeout | i2cWriteStart | i2cWriteEnd | i2cSetTimeout | feedbackFrame |
      feedbackWindowEnd | trainingComplete | trainingTimeout | headResponse | headCmdTimeout | enumRetry |
      wakeComplete | safeMoorHoldExpiry | ilkNLow | ilkNHigh | emitReadback | dramTimeout | refresh | mr4Poll |
      powerDownEntry | scrubRead | topo | memberLost | timeSyncInterval | timeSync | timeReply | modeNote | qtime |
      xassign | xack | xdevAckTimeout | xsync | xcommitReq | xcommitRsp | xprogress | bandUpd | bandLoss |
      forwardedEvent | progress | testReq | resid | flitNak | flitReplayTimeout | tb3Compare | tb3StepApply |
      ptpSync | ptpSyncLoss | gmSettleExpiry | ethLinkLoss | toutEdge | tcapEdge | refclkBad | profileUpdate |
      chopperCrossing | phaseOpen | holdCurrentTimer | debouncedInputEdge | coarseStepEdge | encoderCheck |
      recoatStepStart | ledPeriodStart | bloomUpdate | strobeWindow | ledDerate | ledDiagnostic | bandgapCompare |
      ntcConvert | faultDetected | safeWorkSettle | ghostTraffic | errNPulseEnd | thermalSample | supply |
      pfailNHigh | lockstep | watchdog | faultInjectFire | eventMergeRelease | noteFlushTimer | flushComplete |
      recSramFail | monitorSample | scannerSymbolLockLoss | byoftPortFail | laneErr | supplyRestored |
      refclkRestored | prbsCheckerLock | quadratureEdge | ethFrameReceived | ptpTxInterval =>
    unfold exec; exact acts_on _
  case bar2Read addr len ecc => exact execBar2Read_acts addr len ecc
  case registerWrite off val hwMask hwVal =>
    refine ⟨execRegisterWrite_still off val hwMask hwVal, fun s => ?_⟩
    rcases registerWrite_answers off val hwMask hwVal s with hdev | ⟨hoff, -⟩
    · exact hdev
    · exact absurd (hmem.symm.trans (beq_iff_eq.mpr hoff)) Bool.false_ne_true
  case bar2Write | dramRequest | dramTrain | dramTrainDone | pfailNLow =>
    exact absurd hmem.symm Bool.false_ne_true
  case powerOnReset | rstNReset | perstNReset | softwareResetFire | resetReleaseBoot =>
    exact absurd hreset.symm Bool.false_ne_true

/-- In reset, only a reset and the release of it act (log entry 6). -/
theorem exec_still {c : Instr} {s : State} (hboot : s.dev.mode.boot = 0) (hreset : actsInReset c = false) :
    exec c s = .next s := by
  cases hmem : touchesMemory c with
  | false => exact (exec_acts hmem hreset).still s hboot
  | true =>
    cases c
    case bar2Write addr bytes => exact execBar2Write_still addr bytes s hboot
    case dramRequest arrive sc => exact execDramRequest_still arrive sc s hboot
    case dramTrain => exact execDramTrain_still s hboot
    case dramTrainDone t => exact execDramTrainDone_still t s hboot
    case registerWrite off val hwMask hwVal => exact execRegisterWrite_still off val hwMask hwVal s hboot
    case pfailNLow => exact execPfailNLow_still s hboot
    case powerOnReset | rstNReset | perstNReset | softwareResetFire | resetReleaseBoot =>
      exact absurd hreset.symm Bool.false_ne_true
    all_goals exact absurd hmem Bool.false_ne_true

/-! ## The state after reset (R57, R58) -/

/-- Settles O5: the reset state by its definition, and every register by what a reset leaves (`resetAll_rd`). -/
theorem resetState : Obligations.ResetState :=
  ⟨rfl, rfl, rfl, rfl, rfl, rfl, resetAll_rd State.reset.dev⟩

/-! ## The resets (R57 to R59) -/

/-- The registers after a reset that keeps the retention set: the causes with its own bit, the two counts as they were,
and every other at its reset value. -/
theorem rd_resetKeep (d : Dev) (bit off : Nat) :
    (d.resetKeep bit).rd off =
      if off = MODE_RST_CAUSE then (d.rd MODE_RST_CAUSE).putBit bit true
      else if off = REC_SHADOW_CNT then d.rd REC_SHADOW_CNT
      else if off = FLT_HIST_CNT then d.rd FLT_HIST_CNT
      else resetOf d.variant off := by
  unfold Dev.resetKeep Dev.setBit
  simp only [Dev.rd_wr, if_true]
  split_ifs with hcause hshadow hhist
  · rfl
  · rfl
  · rfl
  · exact (resetAll_rd d off).trans (if_neg hcause)

/-- The three resets that keep the retention set differ in the bit of MODE_RST_CAUSE alone (R57). -/
theorem exec_resetKeep {c : Instr} {bit : Nat} {s : State}
    (h : (∃ ns, 1000 ≤ ns ∧ c = .rstNReset ns ∧ bit = 1) ∨ (c = .perstNReset ∧ bit = 2) ∨
      (c = .softwareResetFire ∧ s.dev.mode.softPending = true ∧ bit = 3)) :
    exec c s = .next { s with dev := s.dev.pinsReset.resetKeep bit, mem := [] } := by
  rcases h with ⟨ns, hns, rfl, rfl⟩ | ⟨rfl, rfl⟩ | ⟨rfl, hsoft, rfl⟩
  · exact if_neg (by omega)
  · rfl
  · exact if_pos hsoft

/-- Settles O6: the pins in reset change nothing that a reset keeps, and a reset leaves the registers of `resetAll_rd` or
`rd_resetKeep` (nothing acts in reset: log entry 6; a short pulse of RST_N: log entry 10; the empty memory: log entry
53). -/
theorem resetsRestore : Obligations.ResetsRestore := by
  refine ⟨fun c s hboot hreset => exec_still hboot hreset, fun s => ?_, fun c bit s h => ?_,
    fun ns s hns => if_pos hns⟩
  · obtain ⟨scn, out, hpins⟩ := pinSide_pinsReset s.dev
    refine ⟨_, rfl, rfl, rfl, rfl, rfl, fun off => ?_⟩
    rw [resetAll_rd, hpins]
  · obtain ⟨scn, out, hpins⟩ := pinSide_pinsReset s.dev
    have hexec := exec_resetKeep h
    rw [hpins] at hexec
    refine ⟨_, hexec, rfl, rfl, rfl, rfl, rfl, ?_, ?_, ?_, fun off hcause hhist hshadow => ?_⟩
    · exact (rd_resetKeep _ _ _).trans (if_pos rfl)
    · exact rd_resetKeep _ _ _
    · exact rd_resetKeep _ _ _
    · rw [rd_resetKeep, if_neg hcause, if_neg hshadow, if_neg hhist]

end Sys2Proof.Machine
end

section
/-! SUPPORT. The emission outputs, and O39: the interlock, its latch, the sluice and the readback (R59, R329, R335,
R336). -/

namespace Sys2Proof.Machine

/-! ## Emission outputs (R335) -/

/-- EMIT_EN of one beam taken low: that one is low, and every other is as it was. -/
theorem emit_setEmit_off (d : Dev) (c b : Nat) :
    ((d.setEmit c false).laser b).emit = if b = c then false else (d.laser b).emit := by
  unfold Dev.setEmit Dev.laser
  split
  · next hnone =>
    split_ifs with hb
    · subst hb
      rw [List.getD_eq_getElem?_getD, hnone]
      rfl
    · rfl
  · next l hl =>
    by_cases hb : b = c
    · subst hb
      obtain ⟨hlt, -⟩ := List.getElem?_eq_some_iff.mp hl
      by_cases hoff : l.emit = false
      · simp [hoff, List.getD_eq_getElem?_getD, hl]
      · simp [hoff, List.getD_eq_getElem?_getD, hlt]
    · rw [if_neg hb]
      split
      · rfl
      · simp [List.getD_eq_getElem?_getD, List.getElem?_set_ne (Ne.symm hb)]

/-- The same for a list of beams. -/
theorem emit_foldl_off (d : Dev) (l : List Nat) (b : Nat) :
    ((l.foldl (fun d c => d.setEmit c false) d).laser b).emit = if b ∈ l then false else (d.laser b).emit := by
  induction l generalizing d with
  | nil => simp
  | cons c l ih =>
    rw [List.foldl_cons, ih, emit_setEmit_off]
    by_cases hl : b ∈ l <;> by_cases hc : b = c <;> simp [hl, hc]

/-- With the gate closed every output is low. -/
theorem emit_applyGate {d : Dev} {b : Nat} (hgate : d.gate = false) (hb : b < 16) :
    (d.applyGate.laser b).emit = false := by
  unfold Dev.applyGate
  rw [hgate, if_neg Bool.false_ne_true, emit_foldl_off, if_pos (List.mem_range.mpr hb)]

/-! ## The sluice (R335) -/

/-- An open gate: the interlock is closed, its latch is clear, and no software reset is due. -/
theorem gate_open {d : Dev} (h : d.gate = true) :
    d.scn.ilk = true ∧ d.scn.latch = false ∧ d.mode.softPending = false := by
  simp only [Dev.gate, Dev.safeState, Bool.and_eq_true, Bool.not_eq_true', Bool.or_eq_false_iff] at h
  obtain ⟨⟨hilk, hlatch⟩, -, hsoft⟩ := h
  exact ⟨hilk, hlatch, hsoft⟩

theorem exposing_iff (d : Dev) : d.exposing = true ↔ d.mode.cur = .calibrate ∨ d.mode.cur = .build := by
  simp [Dev.exposing]

/-- An open sluice: the gate is open in CALIBRATE or BUILD, the laser is enabled, and the engine and the port of the beam
work. -/
theorem sluice_open {d : Dev} {b : Nat} (h : d.sluice b = true) :
    d.gate = true ∧ d.exposing = true ∧ d.bit (LAS_CFG b) 31 = true ∧
      (∃ n, d.engineOf b = some n ∧ d.fencedUnit n = false ∧ (d.eng n).taking = false) ∧
      (d.port b).state = 3 ∧ (d.port b).linkFault = false := by
  simp only [Dev.sluice, Bool.and_eq_true, Bool.not_eq_true', beq_iff_eq] at h
  obtain ⟨⟨⟨⟨⟨hgate, hexp⟩, hcfg⟩, heng⟩, hstate⟩, hlink⟩ := h
  refine ⟨hgate, hexp, hcfg, ?_, hstate, hlink⟩
  cases hn : d.engineOf b with
  | none => simp [hn] at heng
  | some n => exact ⟨n, rfl, by simpa [hn] using heng⟩

/-! ## The interlock (R336) -/

theorem exec_ilkNLow {s : State} (ha : Awake s) :
    exec .ilkNLow s = .next { s with dev :=
      (if s.dev.scn.ilk then Dev.ilkOpen { s.dev with scn := { s.dev.scn with ilk := false } } else s.dev) } :=
  on_awake s (fun d => if d.scn.ilk then ({ d with scn := { d.scn with ilk := false } } : Dev).ilkOpen else d) ha

/-- ILK_OPEN sets the latch in CALIBRATE and BUILD alone (R336). -/
theorem ilkOpen_eq (d : Dev) : d.ilkOpen = Dev.fault (Dev.applyGate
    (if d.exposing then { d with scn := { d.scn with latch := true } } else d)) 0 1 := rfl

/-- Settles O39: the interlock by its commands, the sluice and the outputs by the lemmas of this file. -/
theorem interlockAndEmission : Obligations.InterlockAndEmission := by
  refine ⟨fun s ha hilk hexp => ⟨_, rfl, rfl, ?_⟩, fun s ha hilk hexp => ⟨_, rfl, rfl, ?_⟩, fun s ha hilk => ?_,
    fun s ha => ?_, fun d b h => ?_, fun d b hgate _ hb => emit_applyGate hgate hb, fun s ha hm => ?_,
    fun s ha hm => ?_, fun b level s ha => ?_⟩
  · have hexp' : Dev.exposing { s.dev with scn := { s.dev.scn with ilk := false } } = true := hexp
    rw [exec_ilkNLow ha, if_pos hilk, ilkOpen_eq, if_pos hexp']
  · have hexp' : Dev.exposing { s.dev with scn := { s.dev.scn with ilk := false } } = false := hexp
    rw [exec_ilkNLow ha, if_pos hilk, ilkOpen_eq, hexp', if_neg Bool.false_ne_true]
  · rw [exec_ilkNLow ha, hilk, if_neg Bool.false_ne_true]
  · exact ⟨_, on_awake s (fun d => ({ d with scn := { d.scn with ilk := true } } : Dev).endCause 0 1) ha, ⟨rfl, rfl⟩,
      rfl, standing_endCause _ _ _, rfl, rfl⟩
  · obtain ⟨hgate, hexp, hcfg, heng, hstate, hlink⟩ := sluice_open h
    obtain ⟨hilk, hlatch, hsoft⟩ := gate_open hgate
    exact ⟨hilk, hlatch, (exposing_iff d).mp hexp, hsoft, hcfg, hstate, hlink, heng⟩
  · have hexec := on_awake s (fun d => if d.mode.cur = .safe then { d with scn := { d.scn with moorOk := true } } else d) ha
    rw [if_pos hm] at hexec
    exact hexec
  · have hexec := on_awake s (fun d => if d.mode.cur = .safe then { d with scn := { d.scn with moorOk := true } } else d) ha
    rw [if_neg hm] at hexec
    exact hexec
  · have hexec := on_awake s (fun d =>
      if decide (b.val < nBeams d.variant) && level != (d.laser b).emit then d.fault 0 3 else d) ha
    refine ⟨fun hb => hexec.trans ?_, fun hb => hexec.trans ?_⟩
    · by_cases hlevel : level = (s.dev.laser b).emit <;> simp [hb, hlevel]
    · have hno : ¬ b.val < nBeams s.dev.variant := by omega
      simp [hno]

end Sys2Proof.Machine
end

section
/-! SUPPORT. Reports of SAFE-class faults, and O10: entry to SAFE (R48, R465, R468, R538). -/

namespace Sys2Proof.Machine

/-- A report from a source that no fence silences takes its reaction (R483). -/
theorem raiseWith_unfenced {d : Dev} (how : How) {src : Nat} (cause : Nat) (p : Word)
    (hunit : ∀ u, unitOfSource src = some u → d.fencedUnit u = false) :
    d.raiseWith how src cause p = d.raiseHow how src cause p := by
  unfold Dev.raiseWith
  split
  · next u hu => rw [hunit u hu, Bool.false_and, if_neg Bool.false_ne_true]
  · rfl

/-- The same for a source that is no unit. -/
theorem raiseWith_noUnit (d : Dev) (how : How) {src : Nat} (cause : Nat) (p : Word) (hunit : unitOfSource src = none) :
    d.raiseWith how src cause p = d.raiseHow how src cause p :=
  raiseWith_unfenced how cause p fun u hu => by simp [hunit] at hu

/-- A plain report that does not lose the keeper's state is raised, and nothing else happens. -/
theorem exec_faultDetected_plain {f : FaultReport} {s : State} (ha : Awake s)
    (hplain : plainReport s.dev f.src.toNat f.cause.toNat) (hlost : ¬ (f.src.toNat = 20 ∧ f.cause.toNat = 7)) :
    exec (.faultDetected f) s =
      .next { s with dev := s.dev.raiseHow .real f.src.toNat f.cause.toNat f.payload } := by
  obtain ⟨hunit, hgrid, htile⟩ := hplain
  show execFaultDetected f s = _
  unfold execFaultDetected
  rw [on_awake _ _ ha]
  simp only [if_neg hgrid, if_neg hlost, if_neg htile]
  rw [Dev.raise, raiseWith_unfenced _ _ _ hunit]

/-- SAFE_REQ and MODE_SET SAFE: a SAFE-class fault of the host, with a mode-transition cause of its own (R48, R468). -/
def Dev.hostSafe (d : Dev) (trig : Nat) : Dev :=
  d.free.2.raiseWith ⟨false, some trig, none, true⟩ 0 2 (BitVec.ofNat 32 d.free.1)

theorem hostSafe_mode (d : Dev) (trig : Nat) (hsafe : d.mode.cur ≠ .safe) (hdown : d.mode.cur ≠ .windDown) :
    (d.hostSafe trig).mode.cur = .safe ∧ (d.hostSafe trig).mode.prev = d.mode.cur ∧
      (d.hostSafe trig).mode.lastCause = trig := by
  unfold Dev.hostSafe
  rw [raiseWith_noUnit _ _ _ _ (by decide)]
  obtain ⟨hcur, hprev, hcause, -⟩ := raise_safe_mode d.free.2 ⟨false, some trig, none, true⟩ 0 2
    (BitVec.ofNat 32 d.free.1) (Or.inr ⟨rfl, rfl⟩) rfl hsafe hdown
  exact ⟨hcur, hprev, hcause⟩

/-- A fault that is of the SAFE class by its cause, of a source that is no unit, takes the device to SAFE and stands among
the live causes; the rails stay. -/
theorem fault_safe_mode (d : Dev) {src cause : Nat} (hunit : unitOfSource src = none)
    (hclass : ∀ (x : Dev) (p : Word), x.faultClass src cause p = some .safe) (hsafe : d.mode.cur ≠ .safe)
    (hdown : d.mode.cur ≠ .windDown) :
    (d.fault src cause).mode.cur = .safe ∧
      (d.fault src cause).flt.live.any (fun l => l.src == src && l.cause == cause && l.cls == .safe) = true ∧
      (d.fault src cause).rails = d.rails := by
  unfold Dev.fault Dev.raise
  dsimp only
  rw [raiseWith_noUnit _ _ _ _ hunit]
  obtain ⟨hcur, -, -, -, hlive, -, hrails⟩ :=
    raise_safe_mode d.free.2 .real src cause (BitVec.ofNat 32 d.free.1) (Or.inr ⟨rfl, hclass _ _⟩) rfl hsafe hdown
  exact ⟨hcur, hlive, hrails⟩

/-- A live cause of a class is a live cause. -/
theorem any_live_of_cls {l : List Live} {src cause : Nat} {c : Cls}
    (h : l.any (fun l => l.src == src && l.cause == cause && l.cls == c) = true) :
    l.any (fun l => l.src == src && l.cause == cause) = true := by
  obtain ⟨x, hx, hmatch⟩ := List.any_eq_true.mp h
  exact List.any_eq_true.mpr ⟨x, hx, (Bool.and_eq_true_iff.mp hmatch).1⟩

/-- The device once a supply outside its limits has been noted, before its fault (R513, R538). -/
def Dev.supplyNoted (d : Dev) (r : Fin 8) (mv : Nat) : Dev :=
  let x := Dev.setBit { d with rails := d.rails.set r (railWord r mv) } CLK_RAIL_EXC r true
  { x with life := { x.life with supply := bump x.life.supply r 1 } }

theorem exec_supply_outside {r : Fin 8} {mv low high : Nat} {s : State} (ha : Awake s)
    (hout : high < (railLimits r).1 ∨ (railLimits r).2 < low) :
    exec (.supply r mv low high) s = .next { s with dev := (s.dev.supplyNoted r mv).fault 38 3 } := by
  show execSupply r mv low high s = _
  unfold execSupply
  rw [on_awake _ _ ha]
  simp only [if_pos hout]
  rfl

theorem railWord_eq (r mv : Nat) : railWord r mv = mv % 65536 + (if mv < (railLimits r).1 then 65536 else 0) +
    (if (railLimits r).2 < mv then 131072 else 0) := by
  simp [railWord, bitOf]

/-- The cause with which a supervisor pair reports (R468). -/
def supCause : SupFault → Nat
  | .disagree => 1 | .eccCorr => 2 | .eccUe => 3

theorem exec_lockstep {pair : Fin 2} {k : SupFault} {s : State} (ha : Awake s) :
    exec (.lockstep pair k) s = .next { s with dev := s.dev.fault 1 (supCause k) } := by
  show execLockstep pair k s = _
  unfold execLockstep
  rw [on_awake _ _ ha]
  cases k <;> rfl

/-- A supervisor's report is of the SAFE class but for a corrected error (R468). -/
theorem faultClass_supCause {k : SupFault} (hk : k ≠ .eccCorr) (d : Dev) (p : Word) :
    d.faultClass 1 (supCause k) p = some .safe := by
  cases k with
  | disagree => rfl
  | eccCorr => exact absurd rfl hk
  | eccUe => rfl

/-- The keeper's lost state is a HOLD-class fault (R235). -/
theorem faultClass_stateLost (d : Dev) (p : Word) : d.faultClass 20 7 p = some .hold := rfl

/-- Settles O10: each trigger raises a SAFE-class fault, and such a fault enters SAFE (`raise_safe_mode`; the 10 µs of a
supply: log entry 107). -/
theorem safeIsEntered : Obligations.SafeIsEntered := by
  refine ⟨fun f s ha hplain hclass hsafe hdown => ?_, fun s hsafe hdown => ⟨fun hu => ?_, fun ha =>
    ⟨fun r mv low high _ _ hout => ?_, fun pair k hk => ?_, ?_, ?_⟩⟩⟩
  · have hlost : ¬ (f.src.toNat = 20 ∧ f.cause.toNat = 7) := by
      rintro ⟨hsrc, hcause⟩
      rw [hsrc, hcause, faultClass_stateLost] at hclass
      cases hclass
    have hexec := exec_faultDetected_plain ha hplain hlost
    have hmode := raise_safe_mode s.dev .real f.src.toNat f.cause.toNat f.payload (Or.inr ⟨rfl, hclass⟩) rfl hsafe hdown
    generalize s.dev.raiseHow .real f.src.toNat f.cause.toNat f.payload = d at hexec hmode
    obtain ⟨hcur, hprev, hcause, hchanging, hlive, hdue, -⟩ := hmode
    exact ⟨_, hexec, ⟨rfl, rfl⟩, hcur, hprev, hcause, hchanging, hdue, hlive⟩
  · have hexec : exec .safeReq s = .next { s with dev := s.dev.hostSafe 0x07 } := whenUp_up s Dev.safeReq hu
    have hmode := hostSafe_mode s.dev 0x07 hsafe hdown
    generalize s.dev.hostSafe 0x07 = d at hexec hmode
    obtain ⟨hcur, -, hcause⟩ := hmode
    exact ⟨_, hexec, ⟨rfl, rfl⟩, hcur, hcause⟩
  · have hexec := exec_supply_outside (mv := mv) ha hout
    have hmode := fault_safe_mode (s.dev.supplyNoted r mv) (src := 38) (cause := 3) (by decide) (fun _ _ => rfl) hsafe hdown
    generalize (s.dev.supplyNoted r mv).fault 38 3 = d at hexec hmode
    obtain ⟨hcur, -, hrails⟩ := hmode
    refine ⟨_, hexec, ⟨rfl, rfl⟩, hcur, hrails.trans ?_⟩
    rw [← railWord_eq]
    rfl
  · have hexec := exec_lockstep (pair := pair) (k := k) ha
    have hmode := fault_safe_mode s.dev (by decide) (faultClass_supCause hk) hsafe hdown
    generalize s.dev.fault 1 (supCause k) = d at hexec hmode
    exact ⟨_, hexec, ⟨rfl, rfl⟩, hmode.1⟩
  · have hexec : exec .watchdog s = .next { s with dev := s.dev.fault 1 4 } := on_awake s (fun d => d.fault 1 4) ha
    have hmode := fault_safe_mode s.dev (src := 1) (cause := 4) (by decide) (fun _ _ => rfl) hsafe hdown
    generalize s.dev.fault 1 4 = d at hexec hmode
    obtain ⟨hcur, hlive, -⟩ := hmode
    exact ⟨_, hexec, ⟨rfl, rfl⟩, hcur, any_live_of_cls hlive⟩
  · have hexec : exec .refclkBad s = .next { s with dev := (s.dev.setBit CLK_STATUS 0 false).fault 35 1 } :=
      on_awake s (fun d => (d.setBit CLK_STATUS 0 false).fault 35 1) ha
    have hmode := fault_safe_mode (s.dev.setBit CLK_STATUS 0 false) (src := 35) (cause := 1) (by decide) (fun _ _ => rfl)
      hsafe hdown
    generalize (s.dev.setBit CLK_STATUS 0 false).fault 35 1 = d at hexec hmode
    exact ⟨_, hexec, ⟨rfl, rfl⟩, hmode.1⟩

end Sys2Proof.Machine
end

section
/-! SUPPORT. What keeps the mode control, the halt of the engines, and O20: the transitions of MODE_SET (R48 to R54,
R188, R327). -/

namespace Sys2Proof.Machine

/-- The mode control is the same. -/
def SameMode (a b : Dev) : Prop := b.mode = a.mode

theorem SameMode.refl (a : Dev) : SameMode a a := rfl

theorem SameMode.trans {a b c : Dev} (h : SameMode a b) (k : SameMode b c) : SameMode a c := Eq.trans k h

theorem Kept.sameMode {a b : Dev} (h : Kept a b) : SameMode a b := h.1

theorem HostSide.sameMode {a b : Dev} (h : HostSide a b) : SameMode a b := h.kept.sameMode

theorem Recorded.sameMode {a b : Dev} (h : Recorded a b) : SameMode a b := by
  obtain ⟨r, g, i, e, f, l, y, o, rfl⟩ := h
  exact SameMode.refl a

theorem sameMode_foldl {β : Type} (f : Dev → β → Dev) (h : ∀ a b, SameMode a (f a b)) (l : List β) (a : Dev) :
    SameMode a (l.foldl f a) := foldl_keeps SameMode SameMode.refl (fun _ _ _ => SameMode.trans) f h l a

theorem sameMode_ite (c : Prop) [Decidable c] {a x y : Dev} (h : SameMode a x) (k : SameMode a y) :
    SameMode a (if c then x else y) := by
  split <;> assumption

/-! ## Engines on a hold trigger (R54, R190) -/

theorem sameMode_stopEngine (d : Dev) (n : Nat) : SameMode d (d.stopEngine n) := by
  unfold Dev.stopEngine
  split
  · exact SameMode.refl d
  · exact SameMode.refl d

theorem sameMode_abortProbes (d : Dev) : SameMode d d.abortProbes := by
  refine SameMode.trans (b := { d with probes := [] }) (SameMode.refl d) (sameMode_foldl _ (fun x j => ?_) _ _)
  exact sameMode_ite _ (SameMode.refl x) (kept_complete _ _ _ _ _).sameMode

theorem sameMode_applyHold (d : Dev) : SameMode d d.applyHold := by
  unfold Dev.applyHold
  refine sameMode_ite _ ?_ (SameMode.refl d)
  refine SameMode.trans ?_ (sameMode_foldl _ (fun x n => sameMode_stopEngine x n) _ _)
  exact sameMode_ite _ (sameMode_abortProbes d) (SameMode.refl d)

/-- A hold trigger where none is in force begins the run to the safe point (R54). -/
theorem holdTrigger_mode (d : Dev) (trig : Nat) (hexp : d.exposing = true) (hidle : d.mode.changing = false) :
    (d.holdTrigger trig false false).mode = { d.mode with
      leaveReq := none, changing := true, holdAt := d.tb3, holdTrig := trig, holdAtLayerEnd := false, quiet := false } := by
  unfold Dev.holdTrigger
  simp only [hexp, hidle, Bool.not_true, Bool.false_and, Bool.false_eq_true, if_false]
  refine Eq.trans (kept_emit _ _ _ _).sameMode ?_
  split
  next q _ =>
    obtain ⟨_, _, _, _, _, _, _, _, hfail⟩ := recorded_complete d q stAborted 0 []
    rw [Dev.fail, hfail]
  · rfl

/-! ## Layers that close without having started (R115) -/

theorem sameMode_sendVec (d : Dev) (q : Req) (layer : Nat) (r : Rec) (o : VOut) : SameMode d (d.sendVec q layer r o) := by
  unfold Dev.sendVec
  refine SameMode.trans ?_ (hostSide_putCqe _ _ _).sameMode
  cases o.beam <;> exact SameMode.refl d

theorem sameMode_finishRecs (d : Dev) (q : Req) (layer id : Nat) (vs : List VRec) :
    SameMode d (d.finishRecs q layer id vs) := by
  unfold Dev.finishRecs
  dsimp only
  refine SameMode.trans ?_ (hostSide_putCqe _ _ _).sameMode
  refine SameMode.trans ?_ (hostSide_retire _ _ _).sameMode
  exact sameMode_foldl _ (fun x p => sameMode_sendVec x _ _ _ _) _ d

theorem sameMode_checkBarge (d : Dev) (num id : Nat) : SameMode d (d.checkBarge num id) := by
  unfold Dev.checkBarge
  refine sameMode_ite _ (SameMode.refl d) ?_
  split
  · exact SameMode.refl d
  · split
    · exact SameMode.refl d
    · exact sameMode_ite _ (sameMode_finishRecs _ _ _ _ _) (SameMode.refl d)

theorem sameMode_abortRest (d : Dev) (num : Nat) : SameMode d (d.abortRest num) := by
  unfold Dev.abortRest
  split
  · exact SameMode.refl d
  · exact SameMode.trans (b := d.modLayer num _) (SameMode.refl d) (sameMode_foldl _ (fun x b => sameMode_checkBarge x _ _) _ _)

theorem sameMode_closeWoram (d : Dev) (l : Layer) (flags : Nat) : SameMode d (d.closeWoram l flags) := by
  unfold Dev.closeWoram
  split <;> exact SameMode.refl d

theorem sameMode_shutLayer (d : Dev) (num flags : Nat) : SameMode d (d.shutLayer num flags) := by
  unfold Dev.shutLayer
  split
  · exact SameMode.refl d
  next l _ =>
    dsimp only
    have hshut (x : Dev) (h : SameMode d x) : SameMode d
        (if l.barges.any (fun b => b.lostFrom.isSome) then x.endCause 27 2 else x) :=
      sameMode_ite _ h h
    refine hshut _ ?_
    have hwor := (kept_emit d 1 0x22 (leBytes 4 num ++ leBytes 4 l.tally.1 ++ leBytes 4 l.tally.2)).sameMode.trans
      (sameMode_closeWoram _ l flags)
    split
    · exact SameMode.trans hwor (recorded_startFlush _).sameMode
    · exact SameMode.refl d

theorem sameMode_closeLayer (d : Dev) (num : Nat) (how : Option CloseHow) (flags : Nat) :
    SameMode d (d.closeLayer num how flags) := by
  unfold Dev.closeLayer Dev.tellClosed
  split
  · exact SameMode.refl d
  · split
    · exact sameMode_shutLayer d num flags
    · exact (sameMode_shutLayer d num flags).trans (kept_complete _ _ _ _ _).sameMode

theorem sameMode_closeUnstarted (d : Dev) : SameMode d d.closeUnstarted := by
  refine sameMode_foldl _ (fun x m => ?_) _ d
  have hpurge : SameMode x (x.purgeLayer m) := SameMode.refl x
  exact (hpurge.trans (sameMode_abortRest _ _)).trans (sameMode_closeLayer _ _ _ _)

/-! ## Motion at rest at entry to CONFIGURE -/

theorem hostSide_axShow (d : Dev) (a : Nat) (us vel : Int) : HostSide d (d.axShow a us vel) := by
  have hput (x : Dev) : HostSide x (x.axPut a us vel) := (hostSide_wr x _ _).trans (hostSide_wr _ _ _)
  unfold Dev.axShow
  dsimp only
  split
  · exact (hostSide_send d _).trans (hput _)
  · exact hput d

theorem sameMode_endMotStops (d : Dev) : SameMode d d.endMotStops := by
  unfold Dev.endMotStops
  dsimp only
  refine SameMode.trans (b := { d with mot := _ }) (SameMode.refl d) (sameMode_foldl _ (fun x s => ?_) _ _)
  exact (hostSide_ok _ _ _ _ _ _).sameMode

/-- A move that ends with another status than OK, at its stop, ends a sequence and starts nothing. -/
theorem sameMode_moveDone_stopped (d : Dev) (a : Nat) (m : Move) (us : Int) {st x r : Nat}
    (hstop : m.stop = some (st, x, r)) (hst : st ≠ stOk) : SameMode d (d.moveDone a m us) := by
  have hseq (y : Dev) (h : SameMode d y) : SameMode d
      (if m.seq then y.seqStepDone a (st == stOk) else y).endMotStops := by
    refine SameMode.trans (sameMode_ite _ (h.trans ?_) h) (sameMode_endMotStops _)
    unfold Dev.seqStepDone
    split
    · exact SameMode.refl y
    · rw [if_pos (by simpa using hst)]
      exact (kept_seqFail y).sameMode
  unfold Dev.moveDone
  simp only [hstop]
  refine hseq _ ?_
  split
  · exact SameMode.refl d
  next q _ =>
    cases m.home with
    | some h =>
      exact sameMode_ite _ (hostSide_ok _ _ _ _ _ _).sameMode
        (sameMode_ite _ (kept_complete _ _ _ _ _).sameMode (kept_complete _ _ _ _ _).sameMode)
    | none => exact sameMode_ite _ (kept_complete _ _ _ _ _).sameMode (kept_complete _ _ _ _ _).sameMode

theorem sameMode_axRest_stopped (d : Dev) (a : Nat) (m : Move) (us : Int) {st x r : Nat}
    (hstop : m.stop = some (st, x, r)) (hst : st ≠ stOk) : SameMode d (d.axRest a m us) := by
  have hmod (f : Axis → Axis) : SameMode d (d.modAxis a f) := SameMode.refl d
  exact ((hmod _).trans (hostSide_axShow _ _ _ _).sameMode).trans (sameMode_moveDone_stopped _ _ _ _ hstop hst)

theorem sameMode_motConfigure (d : Dev) : SameMode d d.motConfigure := by
  refine sameMode_foldl _ (fun x a => ?_) _ d
  have hoff (y : Dev) : SameMode y
      (((y.axHalt a).modAxis a (fun z => { z with on := false, homed := false })).send (.axisEn a false)) := rfl
  refine SameMode.trans ?_ (hoff _)
  split
  · exact (kept_dropQueue x a).sameMode.trans (sameMode_axRest_stopped _ _ _ _ rfl (by decide))
  · exact (kept_dropQueue x a).sameMode

/-! ## Transitions that leave the work alone -/

theorem sameMode_endJogs (d : Dev) (p : Nat → Bool) (end_ : Req → Dev → Dev) (h : ∀ q x, SameMode x (end_ q x)) :
    SameMode d (d.endJogs p end_) := by
  unfold Dev.endJogs
  dsimp only
  refine SameMode.trans ?_ (sameMode_foldl _ (fun x j => h _ x) _ _)
  refine SameMode.trans (b := { d with scn := _ }) (SameMode.refl d) (sameMode_foldl _ (fun x j => ?_) _ _)
  exact SameMode.refl x

theorem sameMode_ldgRelease (d : Dev) : SameMode d d.ldgRelease := rfl

theorem sameMode_camsOff (d : Dev) : SameMode d d.camsOff := by
  refine sameMode_foldl _ (fun x p => ?_) _ d
  exact SameMode.refl x

theorem sameMode_pumpCommits (d : Dev) : SameMode d d.pumpCommits := by
  unfold Dev.pumpCommits
  refine sameMode_ite _ (SameMode.refl d) (sameMode_ite _ ?_ (kept_setBit _ _ _ _).sameMode)
  refine SameMode.trans (b := Dev.setBit (d.modTrim _) ANA_STATUS 30 false) (kept_setBit (d.modTrim _) _ _ _).sameMode
    (sameMode_foldl _ (fun x q => ?_) _ _)
  have htrim : HostSide x x.trimCommit :=
    (foldl_keeps HostSide HostSide.refl (fun _ _ _ => HostSide.trans) _ (fun y p => hostSide_wr y _ _) _ x).trans
      (hostSide_wr _ _ _)
  exact (htrim.trans (hostSide_ok _ _ _ _ _ _)).sameMode

/-- A transition whose leaving and entering keep the mode control: the new mode, the one it came from, and cause 0x01. -/
theorem goMode_mode (d : Dev) (m : Mode) (hleave : ∀ x : Dev, SameMode d x → SameMode x (x.leaveFor m))
    (henter : ∀ x : Dev, x.mode.cur = m → SameMode x (x.enterFrom d.mode.cur)) :
    (d.goMode m).mode = { d.mode with cur := m, prev := d.mode.cur, lastCause := 0x01 } := by
  have hjogs := sameMode_endJogs d (fun _ => true) (fun q d => d.fail q stAborted 0)
    (fun q x => (kept_complete x q _ _ _).sameMode)
  have hleft := hjogs.trans (hleave _ hjogs)
  unfold Dev.goMode
  dsimp only
  generalize (d.endJogs (fun _ => true) (fun q d => d.fail q stAborted 0)).leaveFor m = x at hleft
  have hset : (x.setMode m 0x01).mode = { d.mode with cur := m, prev := d.mode.cur, lastCause := 0x01 } := by
    rw [(setMode_mode x m 0x01).1, hleft]
  have hoff : SameMode (x.setMode m 0x01) (if (x.setMode m 0x01).exposing then x.setMode m 0x01
      else (List.range 16).foldl (fun d b => d.setEmit b false) (x.setMode m 0x01)) :=
    sameMode_ite _ (SameMode.refl _) (sameMode_foldl _ (fun y b => (pinSide_setEmit y b false).kept.sameMode) _ _)
  have hcur := congrArg ModeCtl.cur (Eq.trans hoff hset)
  exact Eq.trans ((hoff.trans (henter _ hcur)).trans (sameMode_pumpCommits _)) hset

theorem sameMode_enterFrom_configure {d : Dev} (hcur : d.mode.cur = .configure) (from_ : Mode) :
    SameMode d (d.enterFrom from_) := by
  unfold Dev.enterFrom
  rw [hcur]
  exact (((sameMode_camsOff d).trans (sameMode_motConfigure _)).trans (sameMode_ldgRelease _)).trans
    (kept_lampsOff _).sameMode

theorem sameMode_enterFrom_service {d : Dev} (hcur : d.mode.cur = .service) (from_ : Mode) :
    SameMode d (d.enterFrom from_) := by
  unfold Dev.enterFrom
  rw [hcur]
  exact SameMode.refl d

/-- The transitions between CONFIGURE and SERVICE and from STANDBY to SERVICE (R48). -/
theorem goMode_service_mode (d : Dev) (m : Mode) (hgo : (d.mode.cur = .configure ∧ m = .service) ∨
      (d.mode.cur = .service ∧ m = .configure) ∨ (d.mode.cur = .standby ∧ m = .service)) :
    (d.goMode m).mode = { d.mode with cur := m, prev := d.mode.cur, lastCause := 0x01 } := by
  refine goMode_mode d m (fun x hx => ?_) (fun x hx => ?_)
  · unfold Dev.leaveFor
    rw [hx]
    rcases hgo with ⟨hcur, rfl⟩ | ⟨hcur, rfl⟩ | ⟨hcur, rfl⟩ <;> rw [hcur]
    · exact SameMode.refl x
    · exact sameMode_closeUnstarted x
    · exact SameMode.refl x
  · rcases hgo with ⟨-, rfl⟩ | ⟨-, rfl⟩ | ⟨-, rfl⟩
    · exact sameMode_enterFrom_service hx _
    · exact sameMode_enterFrom_configure hx _
    · exact sameMode_enterFrom_service hx _

/-! ## MODE_SET -/

/-- The transition a MODE_SET has been judged to make. -/
def Dev.carryOut (d : Dev) (q : Req) (e : Env) : Mode → Dev
  | .hold => (({ d with mode := { d.mode with holdReq := some q } }).holdTrigger 0x01 false false).applyHold
  | .windDown => ((d.goMode .windDown).windDown e).ok q 0 0 0 0
  | .calibrate => if d.wakePorts.sleepers.isEmpty then (d.wakePorts.goMode .calibrate).ok q 0 0 0 0
      else { d.wakePorts with mode := { d.wakePorts.mode with wakeReq := some (q, .calibrate) } }
  | .build => if d.wakePorts.sleepers.isEmpty then (d.wakePorts.goMode .build).ok q 0 0 0 0
      else { d.wakePorts with mode := { d.wakePorts.mode with wakeReq := some (q, .build) } }
  | .standby => if d.mode.cur = .calibrate ∧ !d.allStopped then d.leaveCalibrate q else (d.goMode .standby).ok q 0 0 0 0
  | m => (d.goMode m).ok q 0 0 0 0

/-- To CALIBRATE and BUILD the sleeping ports of mapped beams wake first (R327). -/
theorem carryOut_expose (d : Dev) (q : Req) (e : Env) {m : Mode} (hm : m = .calibrate ∨ m = .build) :
    d.carryOut q e m = if d.wakePorts.sleepers.isEmpty then (d.wakePorts.goMode m).ok q 0 0 0 0
      else { d.wakePorts with mode := { d.wakePorts.mode with wakeReq := some (q, m) } } := by
  rcases hm with rfl | rfl <;> rfl

/-- The mode in force is no transition. -/
theorem mayGo_ne {d : Dev} {m : Mode} (h : d.mayGo m = true) : m ≠ d.mode.cur := by
  rintro rfl
  unfold Dev.mayGo at h
  cases hcur : d.mode.cur <;> simp [hcur] at h

theorem mayGo_hold {d : Dev} (h : d.mayGo .hold = true) : d.mode.cur = .build := by
  unfold Dev.mayGo at h
  cases hcur : d.mode.cur with
  | build => rfl
  | _ => simp [hcur] at h

/-- What the checks of MODE_SET leave to judge: wind-down is not done, and the life-cycle admits the mode (R520). -/
theorem modeSet_checked {d : Dev} {q : Req} (h : cmdModeSet.check d q = none) :
    d.wdDone = false ∧ d.lcMode (Mode.ofCode (q.a0.get 0 3)) = true ∧
      ¬ (Mode.ofCode (q.a0.get 0 3) = .safe ∧ d.mode.cur = .windDown) := by
  have hall := (firstFail_none_iff _).mp h
  have hlc := hall (deniedIf (!d.lcMode (Mode.ofCode (q.a0.get 0 3)))) (List.mem_append_right _ (by simp))
  have hwd := hall (d.wdDone, stReject, 0) (List.mem_append_right _ (by simp))
  have hdown := hall (Mode.ofCode (q.a0.get 0 3) == .safe && d.mode.cur == .windDown, stReject, 0)
    (List.mem_append_right _ (by simp))
  exact ⟨hwd, by simpa [deniedIf] using hlc, by simpa using hdown⟩

/-- How a MODE_SET whose checks pass is judged (R49, R50). -/
theorem judge_cases {d : Dev} {q : Req} {e : Env} (h : cmdModeSet.check d q = none) :
    (Mode.ofCode (q.a0.get 0 3) = d.mode.cur → d.judge q e = d.ok q 0 0 0 0) ∧
    (Mode.ofCode (q.a0.get 0 3) ≠ d.mode.cur → d.mayGo (Mode.ofCode (q.a0.get 0 3)) = false →
      d.judge q e = d.fail q stReject 0) ∧
    (d.mayGo (Mode.ofCode (q.a0.get 0 3)) = true → d.judge q e = d.carryOut q e (Mode.ofCode (q.a0.get 0 3))) := by
  obtain ⟨hwd, hlc, -⟩ := modeSet_checked h
  unfold Dev.judge
  generalize Mode.ofCode (q.a0.get 0 3) = m at hlc
  refine ⟨fun hsame => ?_, fun hne hmay => ?_, fun hmay => ?_⟩
  · simp [hwd, hsame]
  · simp [hwd, hlc, hne, hmay]
  · have hne := mayGo_ne hmay
    simp only [hwd, hlc, hne, hmay, Bool.false_eq_true, if_false, Bool.not_true]
    cases m <;> rfl

/-- MODE_SET to another mode than SAFE is judged where no transition is in progress and none waits. -/
theorem modeSet_effect_judge {d : Dev} {q : Req} {e : Env} (hsafe : Mode.ofCode (q.a0.get 0 3) ≠ .safe)
    (htrans : d.transition = false) (hwait : d.mode.waiters = []) : cmdModeSet.effect q e d = d.judge q e := by
  simp [cmdModeSet, hsafe, htrans, hwait]

theorem modeSet_effect_waits {d : Dev} {q : Req} {e : Env} (hsafe : Mode.ofCode (q.a0.get 0 3) ≠ .safe)
    (hbusy : d.transition = true ∨ d.mode.waiters ≠ []) : cmdModeSet.effect q e d =
      { d with mode := { d.mode with waiters := d.mode.waiters ++ [q] } } := by
  rcases hbusy with htrans | hwait
  · simp [cmdModeSet, hsafe, htrans]
  · simp [cmdModeSet, hsafe, hwait]

/-- MODE_SET SAFE where the mode in force is another: a SAFE-class report with cause 0x01. -/
theorem modeSet_effect_safe {d : Dev} {q : Req} {e : Env} (hm : Mode.ofCode (q.a0.get 0 3) = .safe)
    (hsafe : d.mode.cur ≠ .safe) : cmdModeSet.effect q e d = (d.hostSafe 0x01).ok q 0 0 0 0 := by
  simp only [cmdModeSet, if_pos hm, if_neg hsafe]
  rfl

/-- MODE_SET HOLD from BUILD: the run to the safe point begins, and the mode stays (R54). -/
theorem carryOut_hold_mode {d : Dev} (q : Req) (e : Env) (hcur : d.mode.cur = .build) (hidle : d.mode.changing = false) :
    (d.carryOut q e .hold).mode = { d.mode with
      holdReq := some q, leaveReq := none, changing := true, holdAt := d.tb3, holdTrig := 0x01
      holdAtLayerEnd := false, quiet := false } := by
  refine Eq.trans (sameMode_applyHold _) ?_
  exact holdTrigger_mode ({ d with mode := { d.mode with holdReq := some q } }) 0x01 (by simp [Dev.exposing, hcur]) hidle

theorem carryOut_standby {d : Dev} (q : Req) (e : Env) (h : d.mode.cur ≠ .calibrate ∨ d.allStopped = true) :
    d.carryOut q e .standby = (d.goMode .standby).ok q 0 0 0 0 := by
  refine if_neg ?_
  rintro ⟨hcal, hrunning⟩
  rcases h with h | h
  · exact h hcal
  · rw [h] at hrunning
    cases hrunning

/-- STANDBY from CALIBRATE waits for the engines (R188). -/
theorem carryOut_standby_leaves {d : Dev} (q : Req) (e : Env) (hcal : d.mode.cur = .calibrate)
    (hrunning : d.allStopped = false) : d.carryOut q e .standby = d.leaveCalibrate q :=
  if_pos ⟨hcal, by rw [hrunning]; rfl⟩

theorem carryOut_service_mode {d : Dev} (q : Req) (e : Env) {m : Mode} (hgo : (d.mode.cur = .configure ∧ m = .service) ∨
      (d.mode.cur = .service ∧ m = .configure) ∨ (d.mode.cur = .standby ∧ m = .service)) :
    (d.carryOut q e m).mode = { d.mode with cur := m, prev := d.mode.cur, lastCause := 0x01 } := by
  have h := Eq.trans (hostSide_ok (d.goMode m) q 0 0 0 0).sameMode (goMode_service_mode d m hgo)
  rcases hgo with ⟨-, rfl⟩ | ⟨-, rfl⟩ | ⟨-, rfl⟩ <;> exact h

/-- MODE_SET SAFE: the mode is SAFE, with cause 0x01 (R48, R51). -/
theorem modeSet_effect_safe_mode {d : Dev} {q : Req} {e : Env} (hm : Mode.ofCode (q.a0.get 0 3) = .safe)
    (hsafe : d.mode.cur ≠ .safe) (hdown : d.mode.cur ≠ .windDown) :
    (cmdModeSet.effect q e d).mode.cur = .safe ∧ (cmdModeSet.effect q e d).mode.prev = d.mode.cur ∧
      (cmdModeSet.effect q e d).mode.lastCause = 0x01 := by
  rw [modeSet_effect_safe hm hsafe, (hostSide_ok (d.hostSafe 0x01) q 0 0 0 0).sameMode]
  exact hostSafe_mode d 0x01 hsafe hdown

/-- The start of a command changes its ring alone: the device it finds is the one that stands. -/
theorem started_mode (s : State) (op : Nat) (r : Req) : (started s op r).mode = s.dev.mode ∧
    (started s op r).mayGo = s.dev.mayGo ∧ (started s op r).allStopped = s.dev.allStopped ∧
      (started s op r).tb3 = s.dev.tb3 := ⟨rfl, rfl, rfl, rfl⟩

/-- Settles O20: a MODE_SET that passes its checks is judged against the mode in force (`judge_cases`), and each
transition is carried out as R48 lists it (those that take place at once: log entries 22 and 27). -/
theorem modeSetMoves : Obligations.ModeSetMoves := by
  intro r e s m d q htakes hm hd hq
  have hexec : exec (.modeSet r e) s = .next { s with dev := cmdModeSet.effect q e d } := by
    subst hd hq
    exact command_takes s 0x0101 cmdModeSet r e htakes
  have hcheck : cmdModeSet.check d q = none := by
    subst hd hq
    obtain ⟨-, -, -, -, hnone⟩ := htakes
    exact hnone
  have hcode : Mode.ofCode (q.a0.get 0 3) = m := by
    subst hm hq
    rfl
  obtain ⟨hmode, hmayGo, hstopped, htb3⟩ : d.mode = s.dev.mode ∧ d.mayGo = s.dev.mayGo ∧
      d.allStopped = s.dev.allStopped ∧ d.tb3 = s.dev.tb3 := by
    subst hd
    exact started_mode s 0x0101 r
  clear htakes hd hm hq
  have htransition : d.transition = s.dev.transition := by rw [Dev.transition, Dev.transition, hmode]
  obtain ⟨hsame, hreject, hcarry⟩ := judge_cases (e := e) hcheck
  obtain ⟨-, -, hdown⟩ := modeSet_checked hcheck
  rw [hcode] at hsame hreject hcarry hdown
  refine ⟨fun hsafe hbusy => ?_, fun hsafe htrans hwait => ?_, fun hsafe hcur => ?_, fun hsafe hcur => ?_⟩
  · rw [hexec, modeSet_effect_waits (by rwa [hcode]) (by rwa [htransition, hmode])]
  · rw [modeSet_effect_judge (by rwa [hcode]) (htransition.trans htrans) (by rwa [hmode])] at hexec
    refine ⟨fun hcur => ?_, fun hne hmay => ⟨?_, ?_⟩, fun hmay => ?_⟩
    · rw [hexec, hsame (by rw [hmode]; exact hcur)]
    · rw [hexec, hreject (by rwa [hmode]) (by rwa [hmayGo])]
    · exact Eq.trans (kept_complete d q stReject 0 []).sameMode hmode
    · rw [← hmayGo] at hmay
      rw [hcarry hmay] at hexec
      refine ⟨?_, ?_, ?_, ?_, ?_, ?_, ?_⟩
      · rintro (rfl | rfl | ⟨rfl, hrest⟩)
        · exact hexec
        · exact hexec
        · rw [hexec, carryOut_standby q e (by rwa [hmode, hstopped])]
      · rintro rfl hcal hrun
        rw [hexec, carryOut_standby_leaves q e (by rwa [hmode]) (by rwa [hstopped])]
      · intro hm hnone
        rw [hexec, carryOut_expose d q e hm, if_pos (List.isEmpty_iff.mpr hnone)]
      · intro hm hsome
        rw [hexec, carryOut_expose d q e hm, if_neg (fun h => hsome (List.isEmpty_iff.mp h))]
      · rintro rfl
        exact hexec
      · rintro rfl
        have hidle : d.mode.changing = false := by
          rw [← htransition, Dev.transition, Bool.or_eq_false_iff] at htrans
          exact htrans.1
        have hhold := carryOut_hold_mode q e (mayGo_hold hmay) hidle
        generalize d.carryOut q e .hold = t at hexec hhold
        refine ⟨_, hexec, ⟨rfl, rfl⟩, ?_⟩
        simp only [hhold, hmode, htb3, and_self]
      · intro hgo
        have hmoved := carryOut_service_mode q e (d := d) (m := m) (by rwa [hmode])
        generalize d.carryOut q e m = t at hexec hmoved
        have hidle : s.dev.mode.changing = false := (Bool.or_eq_false_iff.mp htrans).1
        refine ⟨_, hexec, ⟨rfl, rfl⟩, ?_⟩
        simp only [hmoved, hmode, hidle, and_self]
  · rw [hexec]
    have hstay : cmdModeSet.effect q e d = d.ok q 0 0 0 0 := by
      simp [cmdModeSet, hcode, hsafe, hmode, hcur]
    rw [hstay]
  · have hmoved := modeSet_effect_safe_mode (e := e) (by rw [hcode, hsafe]) (by rwa [hmode]) (fun h => hdown ⟨hsafe, h⟩)
    generalize cmdModeSet.effect q e d = t at hexec hmoved
    rw [hmode] at hmoved
    exact ⟨_, hexec, ⟨rfl, rfl⟩, hmoved⟩

end Sys2Proof.Machine
end

section
/-! SUPPORT. The end of a run to the safe point, the wake of a port and the lift of a fence, and O21 (R52, R54, R142, R188,
R327, R484). -/

namespace Sys2Proof.Machine

/-! ## The safe point (R54, R82) -/

/-- Every engine has stopped, and in a run to the end of the layer the layer has closed (R82). -/
def Dev.atSafePoint (d : Dev) : Bool := if d.mode.holdAtLayerEnd then d.running.isNone && d.allStopped else d.allStopped

theorem safePoint_idle {d : Dev} (h : d.mode.changing = false) : d.safePoint = d :=
  if_pos (Or.inl (by rw [h]; rfl))

theorem safePoint_notReady {d : Dev} (hchanging : d.mode.changing = true) (hexp : d.exposing = true)
    (hready : d.applyHold.atSafePoint = false) : d.safePoint = d.applyHold := by
  unfold Dev.safePoint
  rw [if_neg (by simp [hchanging, hexp])]
  exact if_pos (by rw [Bool.not_eq_true']; exact hready)

/-- At the safe point the mode becomes HOLD, with the trigger's cause. -/
theorem safePoint_mode {d : Dev} (hchanging : d.mode.changing = true) (hexp : d.exposing = true)
    (hready : d.applyHold.atSafePoint = true) : d.safePoint.mode = { d.mode with
      cur := .hold, prev := d.mode.cur, lastCause := d.mode.holdTrig, changing := false, holdReq := none
      holdAtLayerEnd := false, holdFrom := d.mode.cur } := by
  have hhold : d.applyHold.mode = d.mode := sameMode_applyHold d
  unfold Dev.safePoint
  rw [if_neg (by simp [hchanging, hexp])]
  dsimp only
  rw [if_neg (by rw [Bool.not_eq_true', Bool.not_eq_false]; exact hready)]
  refine Eq.trans (sameMode_foldl _ (fun y b => (pinSide_setEmit y b false).kept.sameMode) _ _) ?_
  rw [(setMode_mode _ _ _).1, hhold]

theorem sameMode_sendEnum (d : Dev) (b : Nat) : SameMode d (d.sendEnum b) :=
  sameMode_ite _ (SameMode.refl _) (SameMode.refl _)

theorem sameMode_enterFrom_hold {d : Dev} (hcur : d.mode.cur = .hold) (from_ : Mode) : SameMode d (d.enterFrom from_) := by
  unfold Dev.enterFrom
  rw [hcur]
  refine sameMode_foldl _ (fun x b => ?_) _ d
  exact SameMode.trans (b := x.modPort b _) (SameMode.refl x) (sameMode_sendEnum _ _)

theorem exposing_ne_hold {d : Dev} (h : d.exposing = true) : d.mode.cur ≠ .hold := by
  intro hcur
  simp [Dev.exposing, hcur] at h

/-- What SAFE_POINT_REACHED does where no MODE_SET STANDBY leaves CALIBRATE. -/
def Dev.reachSafePoint (d : Dev) : Dev :=
  if d.safePoint.mode.cur = .hold ∧ d.mode.cur ≠ .hold then
    match d.mode.holdReq with
    | some q => (d.safePoint.enterFrom d.mode.cur).ok q 0 0 0 0
    | none => d.safePoint.enterFrom d.mode.cur
  else d.safePoint

theorem exec_safePointReached {e : Env} {s : State} (ha : Awake s) (hleave : s.dev.mode.leaveReq = none) :
    exec (.safePointReached e) s = .next { s with dev := s.dev.reachSafePoint } := by
  show execSafePointReached e s = _
  unfold execSafePointReached
  rw [on_awake _ _ ha]
  simp only [hleave]
  rfl

theorem exec_safePointReached_leaving {e : Env} {q : Req} {s : State} (ha : Awake s)
    (hleave : s.dev.mode.leaveReq = some q) :
    exec (.safePointReached e) s = .next { s with dev := if s.dev.applyHold.allStopped then
        ((({ s.dev.applyHold with
          mode := { s.dev.applyHold.mode with changing := false, leaveReq := none } } : Dev).goMode .standby).ok q 0 0 0 0)
      else s.dev.applyHold } := by
  show execSafePointReached e s = _
  unfold execSafePointReached
  rw [on_awake _ _ ha]
  simp only [hleave]
  cases s.dev.applyHold.allStopped <;> rfl

/-- Entry to HOLD keeps the mode control of the safe point. -/
theorem reachSafePoint_mode {d : Dev} (hcur : d.safePoint.mode.cur = .hold) (hwas : d.mode.cur ≠ .hold) :
    d.reachSafePoint.mode = d.safePoint.mode := by
  have henter := sameMode_enterFrom_hold hcur d.mode.cur
  unfold Dev.reachSafePoint
  rw [if_pos ⟨hcur, hwas⟩]
  split
  · exact henter.trans (hostSide_ok _ _ _ _ _ _).sameMode
  · exact henter

theorem reachSafePoint_stays {d : Dev} (h : d.safePoint.mode.cur = d.mode.cur) : d.reachSafePoint = d.safePoint :=
  if_neg (fun ⟨hcur, hwas⟩ => hwas (h.symm.trans hcur))

/-! ## Waiting MODE_SETs and the finish limit (R52, R54) -/

theorem exec_modeSetWaitRelease_judges {e : Env} {q : Req} {qs : List Req} {s : State} (hu : Up s)
    (hwait : s.dev.mode.waiters = q :: qs) (hidle : s.dev.transition = false) :
    exec (.modeSetWaitRelease e) s =
      .next { s with dev := ({ s.dev with mode := { s.dev.mode with waiters := qs } }).judge q e } := by
  show execModeSetWaitRelease e s = _
  unfold execModeSetWaitRelease
  rw [whenUp_up _ _ hu]
  simp only [hwait, hidle]
  rfl

theorem exec_modeSetWaitRelease_idle {e : Env} {s : State} (hu : Up s)
    (hnone : s.dev.mode.waiters = [] ∨ s.dev.transition = true) : exec (.modeSetWaitRelease e) s = .next s := by
  show execModeSetWaitRelease e s = _
  unfold execModeSetWaitRelease
  rw [whenUp_up _ _ hu]
  cases hwait : s.dev.mode.waiters with
  | nil => rfl
  | cons q qs =>
    have htrans : s.dev.transition = true := hnone.resolve_left (by rw [hwait]; exact List.cons_ne_nil _ _)
    simp only [htrans, if_true]

theorem exec_finishLimitExpiry_ends {s : State} (ha : Awake s) (hholding : s.dev.holding = true)
    (hexp : s.dev.exposing = true) :
    exec .finishLimitExpiry s = .next { s with dev := (List.range 18).foldl (fun x n => if x.fencedUnit n then x
      else x.finishAt n (Nat.max s.dev.limitAt x.tb3)) ((s.dev.advanceTo s.dev.limitAt).applyHold) } := by
  show execFinishLimitExpiry s = _
  unfold execFinishLimitExpiry
  rw [on_awake _ _ ha]
  simp only [hholding, hexp, Bool.not_true, Bool.false_eq_true, or_self, if_false]

theorem exec_finishLimitExpiry_idle {s : State} (ha : Awake s)
    (h : s.dev.holding = false ∨ s.dev.exposing = false) : exec .finishLimitExpiry s = .next s := by
  show execFinishLimitExpiry s = _
  unfold execFinishLimitExpiry
  rw [on_awake _ _ ha]
  dsimp only
  rw [if_pos (by simpa using h)]

/-! ## Wake (R326, R327) -/

/-- A port whose woken directions carry data again. -/
def Port.woken (p : Port) : Port := { p with
  txSleep := p.txSleep && !p.wakeTx, rxSleep := p.rxSleep && !p.wakeRx, wakeTx := false, wakeRx := false
  bad := 0, good := true, cmd := if p.cmd = 3 then 0 else p.cmd }

theorem modSleeps_none {d : Dev} (f : SleepJob → SleepJob) (h : d.scn.sleeps = []) : d.modSleeps f = d := by
  have hmap : d.scn.sleeps.map f = d.scn.sleeps := by rw [h]; rfl
  unfold Dev.modSleeps
  rw [hmap]

theorem endSleeps_none {d : Dev} (h : d.scn.sleeps = []) : d.endSleeps = d := by
  have hfilter (p : SleepJob → Bool) : d.scn.sleeps.filter p = d.scn.sleeps := by rw [h]; rfl
  unfold Dev.endSleeps
  simp only [hfilter]
  rw [h]
  exact congrArg (fun l => ({ d with scn := { d.scn with sleeps := l } } : Dev)) h.symm

/-- A port that has woken, where no PORT_SLEEP is in flight. -/
theorem wakeEnd_ok {d : Dev} {b : Nat} (hwake : (d.port b).wakeTx = true ∨ (d.port b).wakeRx = true)
    (hnone : d.scn.sleeps = []) : d.wakeEnd b true = d.modPort b Port.woken := by
  have hsleeps (f : Port → Port) : (d.modPort b f).scn.sleeps = [] := hnone
  unfold Dev.wakeEnd
  dsimp only
  rw [if_neg (by rcases hwake with h | h <;> simp [h]), if_neg (by simp)]
  refine (congrArg Dev.endSleeps (modSleeps_none _ (hsleeps _))).trans ((endSleeps_none (hsleeps _)).trans ?_)
  rfl

theorem wakeEnd_late {d : Dev} {b : Nat} (hwake : (d.port b).wakeTx = true ∨ (d.port b).wakeRx = true) :
    d.wakeEnd b false = d.linkFault b := by
  unfold Dev.wakeEnd
  dsimp only
  rw [if_neg (by rcases hwake with h | h <;> simp [h])]
  exact if_pos rfl

theorem exec_wakeComplete {b : Fin 16} {good : Bool} {s : State} (ha : Awake s) :
    exec (.wakeComplete b good) s = .next { s with dev := (s.dev.wakeEnd b good).pumpWake } :=
  on_awake s (fun d => (d.wakeEnd b good).pumpWake) ha

theorem pumpWake_none {d : Dev} (h : d.mode.wakeReq = none) : d.pumpWake = d := by
  unfold Dev.pumpWake
  rw [h]

/-! ## FENCE_LIFT (R142, R484) -/

theorem kept_modCams (d : Dev) (k : Nat) (f : Cam → Cam) : Kept d (d.modCams k f) := by
  refine kept_foldl _ (fun x p => kept_ite _ ?_ (Kept.refl x)) _ d
  exact Kept.refl x

theorem liftFence_kept (d : Dev) (u : Nat) : (d.liftFence u).mode = d.mode ∧
    (d.liftFence u).flt.fenced = d.flt.fenced.filter (fun x => x != u) := by
  unfold Dev.liftFence
  dsimp only
  split
  · exact ⟨rfl, rfl⟩
  · obtain ⟨hmode, hflt, -⟩ := kept_modCams ({ d with flt := { d.flt with
        fenced := d.flt.fenced.filter (fun x => x != u)
        snaps := d.flt.snaps.filter (fun x => x.unit != u)
        ghosts := d.flt.ghosts.filter (fun x => x.unit != u) } }) (u - 18) (fun c => { c with prevBad := true })
    exact ⟨hmode, congrArg Faults.fenced hflt⟩

theorem liftFence_fencedUnit (d : Dev) (u v : Nat) : (d.liftFence u).fencedUnit v = (d.fencedUnit v && v != u) := by
  unfold Dev.fencedUnit
  rw [(liftFence_kept d u).2]
  rw [Bool.eq_iff_iff]
  simp

/-- An engine comes back unmapped, with nothing queued, and no other engine changes. -/
theorem liftFence_engine {d : Dev} {u : Nat} (hu : u < 18) (hlen : d.engines.length = 18) :
    (d.liftFence u).rd (BE_MAP u) = 0x100 ∧
      (d.liftFence u).eng u = { (default : Engine) with next := d.tick + 1 } ∧
      ∀ v, v ≠ u → (d.liftFence u).eng v = d.eng v := by
  unfold Dev.liftFence
  rw [if_pos hu]
  exact ⟨Dev.rd_wr_same _ _ _, eng_modEng_same _ _ _ (by rw [← hlen] at hu; exact hu),
    fun v hv => getD_modAt_other _ _ _ _ _ hv⟩

/-! ## Completion and the registers -/

/-- A register read depends on the registers and the variant alone. -/
theorem rd_congr {a b : Dev} (hregs : a.regs = b.regs) (hvariant : a.variant = b.variant) (off : Nat) :
    a.rd off = b.rd off := by
  rw [Dev.rd, Dev.rd, hregs, hvariant]

theorem regs_msix (d : Dev) (v : Nat) : (d.msix v).regs = d.regs := by
  unfold Dev.msix
  split <;> rfl

theorem regs_putCqe (d : Dev) (n : Nat) (c : Cqe) : (d.putCqe n c).regs = d.regs := by
  unfold Dev.putCqe Dev.writeCqe Dev.ringSignal
  dsimp only
  split
  · split
    · exact regs_msix _ _
    · rfl
  · rfl

/-- A command that completes OK leaves the registers. -/
theorem regs_ok (d : Dev) (q : Req) (a b c e : Nat) : (d.ok q a b c e).regs = d.regs := by
  have hretire : (d.retire q stOk).regs = d.regs := by
    unfold Dev.retire
    dsimp only
    rw [if_neg (by simp)]
    rfl
  exact (regs_putCqe _ _ _).trans hretire

/-- A failure that is found is one of the checks. -/
theorem mem_of_firstFail {cs : List (Bool × Nat × Nat)} {f : Failure} (h : firstFail cs = some f) : (true, f) ∈ cs := by
  induction cs with
  | nil => cases h
  | cons c cs ih =>
    obtain ⟨bad, st, x⟩ := c
    cases bad with
    | true =>
      obtain rfl : (st, x) = f := Option.some.inj h
      exact List.mem_cons_self ..
    | false => exact List.mem_cons_of_mem _ (ih h)

/-- FENCE_LIFT completes LIMIT with XSTATUS 0x0B04 for a unit that is not fenced alone. -/
theorem fenceLift_check_limit {d : Dev} {q : Req} (h : cmdFenceLift.check d q = some (stLimit, 0x0B04)) :
    d.fencedUnit (q.a0.get 0 5) = false := by
  have hmem := mem_of_firstFail h
  simpa [shape, absentIf, Dev.modeIs, limitIf, stLimit, stMalformed, stAbsent, stReject] using hmem

/-- Settles O21: the rest of a transition, the wake of a port, and FENCE_LIFT. -/
theorem transitionsAndFences : Obligations.TransitionsAndFences := by
  refine ⟨fun e q qs s hu hwait hidle => exec_modeSetWaitRelease_judges hu hwait hidle,
    fun e s hu hnone => exec_modeSetWaitRelease_idle hu hnone,
    fun s ha hholding hexp => ⟨_, _, rfl, rfl, exec_finishLimitExpiry_ends ha hholding hexp⟩,
    fun s ha h => exec_finishLimitExpiry_idle ha h,
    fun e s ha hchanging hexp hleave => ?_, fun e q s ha hleave => ?_, fun e s ha hchanging hleave => ?_,
    fun b s ha hwake => ?_, fun r e s u htakes hunit => ?_, fun r e s d hu hmay htype hd hcheck => ?_⟩
  · have hexec := exec_safePointReached (e := e) ha hleave
    have hlayer : s.dev.applyHold.mode.holdAtLayerEnd = s.dev.mode.holdAtLayerEnd :=
      congrArg ModeCtl.holdAtLayerEnd (sameMode_applyHold s.dev)
    refine ⟨fun ⟨hstopped, hclosed⟩ => ?_, fun hrunning => ?_⟩
    · have hready : s.dev.applyHold.atSafePoint = true := by
        unfold Dev.atSafePoint
        rw [hlayer, hstopped]
        split
        next h => rw [hclosed h]; rfl
        · rfl
      have hmode := safePoint_mode hchanging hexp hready
      have hreach := reachSafePoint_mode (by rw [hmode]) (exposing_ne_hold hexp)
      rw [hmode] at hreach
      generalize s.dev.reachSafePoint = t at hexec hreach
      refine ⟨_, hexec, ⟨rfl, rfl⟩, ?_⟩
      simp only [hreach, and_self]
    · have hready : s.dev.applyHold.atSafePoint = false := by
        unfold Dev.atSafePoint
        rw [hrunning, Bool.and_false, ite_self]
      have hpoint := safePoint_notReady hchanging hexp hready
      rw [hexec, reachSafePoint_stays (by rw [hpoint, sameMode_applyHold]), hpoint]
  · have hexec := exec_safePointReached_leaving (e := e) ha hleave
    refine ⟨fun hstopped => ?_, fun hrunning => ?_⟩
    · rw [hexec, if_pos hstopped]
    · rw [hexec, if_neg (by rw [hrunning]; exact Bool.false_ne_true)]
  · rw [exec_safePointReached ha hleave, reachSafePoint_stays (by rw [safePoint_idle hchanging]), safePoint_idle hchanging]
  · refine ⟨fun hsleeps hreq hlen => ?_, ?_⟩
    · have hexec := exec_wakeComplete (b := b) (good := true) ha
      have hawake : (s.dev.modPort b Port.woken).pumpWake = s.dev.modPort b Port.woken := pumpWake_none hreq
      rw [wakeEnd_ok hwake hsleeps, hawake] at hexec
      have hport : (s.dev.modPort b Port.woken).port b = (s.dev.port b).woken :=
        getD_modAt_same _ _ _ _ (by rw [hlen]; exact b.isLt)
      refine ⟨_, hexec, ⟨rfl, rfl⟩, ?_, ?_, ?_, ?_, rfl, fun c hc => getD_modAt_other _ _ _ _ _ hc⟩ <;> rw [hport] <;> rfl
    · rw [exec_wakeComplete ha, wakeEnd_late hwake]
  · subst hunit
    have hexec : exec (.fenceLift r e) s = .next { s with dev :=
        ((started s 0x0B04 r).liftFence (r.a0.get 0 5)).ok (asOp 0x0B04 r) 0 0 0 0 } :=
      command_takes s 0x0B04 cmdFenceLift r e htakes
    generalize r.a0.get 0 5 = u at hexec
    obtain ⟨hmode, -⟩ := liftFence_kept (started s 0x0B04 r) u
    have hfenced (v : Nat) := liftFence_fencedUnit (started s 0x0B04 r) u v
    have hengine := liftFence_engine (d := started s 0x0B04 r) (u := u)
    have hregs := regs_ok ((started s 0x0B04 r).liftFence u) (asOp 0x0B04 r) 0 0 0 0
    obtain ⟨_, _, _, _, hok⟩ := hostSide_ok ((started s 0x0B04 r).liftFence u) (asOp 0x0B04 r) 0 0 0 0
    generalize (started s 0x0B04 r).liftFence u = x at hexec hmode hfenced hengine hregs hok
    rw [hok] at hexec hregs
    refine ⟨_, hexec, ⟨rfl, rfl⟩, ?_, fun v hv => ?_, hmode, fun hu hlen => ?_⟩
    · exact (hfenced u).trans (by simp)
    · refine (hfenced v).trans ?_
      rw [bne_iff_ne.mpr hv, Bool.and_true]
      rfl
    · obtain ⟨hmap, heng, hother⟩ := hengine hu hlen
      refine ⟨(rd_congr hregs rfl _).trans hmap, ?_, ?_, fun v hv => hother v hv⟩
      · exact congrArg Engine.queue heng
      · exact congrArg Engine.runs heng
  · subst hd
    refine ⟨fenceLift_check_limit (d := started s 0x0B04 r) (q := asOp 0x0B04 r) hcheck, ?_⟩
    exact command_fails s 0x0B04 cmdFenceLift r e hu hmay (by show groupOn 0x0B04 _ = true; rw [htype]; rfl) hcheck

end Sys2Proof.Machine
end

section
/-! SUPPORT. Boot, the loading of firmware, and O7 (R61 to R67, R531). -/

namespace Sys2Proof.Machine

/-! ## The recorder's memory through a fault record (R497, R503) -/

/-- What the MRAM holds, and whether it is in use, is the same. -/
def SameMram (a b : Dev) : Prop := b.rcd.mram = a.rcd.mram

theorem SameMram.refl (a : Dev) : SameMram a a := rfl

theorem SameMram.trans {a b c : Dev} (h : SameMram a b) (k : SameMram b c) : SameMram a c := Eq.trans k h

theorem HostSide.sameMram {a b : Dev} (h : HostSide a b) : SameMram a b := congrArg Recorder.mram h.rcd_eq

theorem sameMram_ownEvent (d : Dev) (e : Event) : SameMram d (d.ownEvent e) := by
  obtain ⟨y, o, h⟩ := linkSide_ownEvent d e
  rw [h]
  exact SameMram.refl d

theorem sameMram_faultFlush (d : Dev) (c : Cls) : SameMram d (d.faultFlush c) := by
  have hstart : SameMram d d.startFlush := by
    unfold Dev.startFlush
    split
    · exact SameMram.refl d
    · split <;> exact SameMram.refl d
  unfold Dev.faultFlush
  split
  · exact hstart
  · split
    · exact hstart
    · exact SameMram.refl d

/-- A further step, taken or not. -/
theorem hostSide_step (c : Prop) [Decidable c] {a x y : Dev} (h : HostSide a y) (k : HostSide y x) :
    HostSide a (if c then x else y) := by
  split
  · exact h.trans k
  · exact h

/-- Beside the collector's list, a history entry changes the host side alone. -/
theorem hostSide_enter (d : Dev) (h : Hist) :
    HostSide { d with flt := { d.flt with hist := (h :: d.flt.hist).take 32, seq := h.seq } } (d.enter h) := by
  unfold Dev.enter
  dsimp only
  refine HostSide.trans ?_ (hostSide_signal _ _)
  refine hostSide_step _ ?_ (hostSide_wr ..)
  refine hostSide_step _ ?_ (hostSide_wr ..)
  refine HostSide.trans ?_ (hostSide_wr ..)
  refine HostSide.trans ?_ (hostSide_wr ..)
  refine HostSide.trans ?_ (hostSide_wr ..)
  exact hostSide_step _ (HostSide.refl _) (hostSide_wr ..)

theorem sameMram_enter (d : Dev) (h : Hist) : SameMram d (d.enter h) :=
  SameMram.trans (b := { d with flt := _ }) (SameMram.refl d) (hostSide_enter d h).sameMram

theorem sameMram_recordFault (d : Dev) (inj : Bool) (src cause : Nat) (p : Word) (c : Cls) (b : Bool) :
    SameMram d (d.recordFault inj src cause p c b) := by
  have hlife (x : Dev) (l : Life) : SameMram x { x with life := l } := SameMram.refl x
  unfold Dev.recordFault
  dsimp only
  refine SameMram.trans ?_ (sameMram_faultFlush _ _)
  refine SameMram.trans ?_ (hlife _ _)
  refine SameMram.trans ?_ (sameMram_ownEvent _ _)
  refine SameMram.trans ?_ (sameMram_enter _ _)
  have hinj : HostSide d (if (!inj && d.flt.inj.isSome) = true then d.setBit FLT_STATUS 5 true else d) :=
    hostSide_step _ (HostSide.refl d) (hostSide_wr ..)
  refine (hostSide_step _ ?_ (hostSide_wr ..)).sameMram
  split
  · exact hinj.trans (hostSide_setErr _ _ _)
  · exact hinj

/-! ## Boot (R61, R497, R531) -/

/-- The pins and the fuses are latched at the release of reset. -/
def Dev.bootLatch (d : Dev) (b : BootEnv) : Dev := { d with
  bist := { d.bist with latched := d.bist.fuses }
  life := { d.life with boots := 1 }
  devId := if nByoft d.variant = 0 then 0 else b.straps.toNat
  scn := { d.scn with ilk := b.ilk } }

/-- The device before step 4 (R61). -/
def Dev.bootReady (d : Dev) (b : BootEnv) : Dev :=
  (((((d.bootLatch b).bootMram b.mramMib).wrN CLK_STATUS (2 ^ 31 + 3)).setBit MEAS_STATUS 8 true).bootPorts).showByf false

theorem exec_resetReleaseBoot {b : BootEnv} {s : State} (h : s.dev.mode.boot = 0) :
    exec (.resetReleaseBoot b) s = .next { s with dev := { (s.dev.bootReady b).bootRepair b.repair with
      mode := { ((s.dev.bootReady b).bootRepair b.repair).mode with boot := 4 } } } := by
  show execResetReleaseBoot b s = _
  unfold execResetReleaseBoot
  exact if_neg (fun hne => hne h)

/-- The MRAM is found, with a pointer to start from (R497). -/
theorem bootMram_found {d : Dev} {n : Nat} (hlow : 2 ≤ n) (hhigh : n ≤ 32) (hptr : d.rcd.mram.pointer.isSome = true) :
    ∃ wptr full w, d.bootMram (some n) = ({ d with rcd := { d.rcd with
      mram := { d.rcd.mram with usable := true, mib := n }, wptr := wptr, full := full } }).wr REC_AREA w := by
  have hptr' : ({ d.rcd.mram with usable := true, mib := n } : Mram).pointer.isNone = false := by
    rw [← Option.not_isSome]
    exact congrArg not hptr
  unfold Dev.bootMram
  simp only [Option.getD_some, hlow, hhigh, decide_true, Bool.and_self, Bool.not_true, Bool.false_eq_true, if_false, hptr']
  exact ⟨_, _, _, rfl⟩

/-- What has left the device is all that differs. -/
def OutSide (a b : Dev) : Prop := ∃ out, b = { a with out := out }

theorem OutSide.refl (a : Dev) : OutSide a a := ⟨a.out, rfl⟩

theorem OutSide.trans {a b c : Dev} (h : OutSide a b) (k : OutSide b c) : OutSide a c := by
  obtain ⟨o, rfl⟩ := h
  obtain ⟨o', rfl⟩ := k
  exact ⟨o', rfl⟩

theorem outSide_foldl {β : Type} (f : Dev → β → Dev) (h : ∀ a b, OutSide a (f a b)) (l : List β) (a : Dev) :
    OutSide a (l.foldl f a) := foldl_keeps OutSide OutSide.refl (fun _ _ _ => OutSide.trans) f h l a

theorem outSide_sendTraining (d : Dev) (scn : Bool) (p : Nat) (ack : Bool) : OutSide d (d.sendTraining scn p ack) :=
  outSide_foldl _ (fun _ _ => ⟨_, rfl⟩) _ d

/-- The ports that are present begin to train (R61). -/
theorem bootPorts_eq (d : Dev) : ∃ byf out, d.bootPorts = { d with
    scn := { d.scn with ports := d.scn.ports.mapIdx (fun b (p : Port) => { p with
      state := if b < nBeams d.variant then 1 else 0 }) }
    byf := byf, out := out } := by
  unfold Dev.bootPorts
  have hscn := outSide_foldl (fun d b => d.sendTraining true b false) (fun a b => outSide_sendTraining a true b false)
    (List.range (nBeams d.variant)) d
  obtain ⟨o, ho⟩ := hscn
  dsimp only
  rw [ho]
  split
  · obtain ⟨o', ho'⟩ := outSide_foldl (fun d p => d.sendTraining false p false)
      (fun a p => outSide_sendTraining a false p false) (List.range (nByoft d.variant)) { d with out := o }
    rw [ho']
    exact ⟨_, _, rfl⟩
  · exact ⟨_, _, rfl⟩

/-- FLT_PROMOTE1 bit 5 promotes the NOTE class of source 37 (R467). -/
theorem promotes_bist {d : Dev} (h : d.bit FLT_PROMOTE1 5 = false) : d.promotes 37 .note = false := by
  rw [Dev.promotes, Bool.and_eq_false_iff]
  exact Or.inr h

theorem rd_wrN_other (d : Dev) (o v : Nat) {off : Nat} (h : off ≠ o) : (d.wrN o v).rd off = d.rd off :=
  Dev.rd_wr_other d _ _ _ h

theorem rd_setBit_other (d : Dev) (o i : Nat) (v : Bool) {off : Nat} (h : off ≠ o) : (d.setBit o i v).rd off = d.rd off :=
  Dev.rd_wr_other d _ _ _ h

theorem rd_setFld_other (d : Dev) (o lo n v : Nat) {off : Nat} (h : off ≠ o) :
    (d.setFld o lo n v).rd off = d.rd off := Dev.rd_wr_other d _ _ _ h

theorem rd_modTime (d : Dev) (f : TimeCtl → TimeCtl) (off : Nat) : (d.modTime f).rd off = d.rd off := rfl

theorem rd_showByf (d : Dev) (ok : Bool) {off : Nat} (h : off ≠ BYF_STATUS) : (d.showByf ok).rd off = d.rd off := by
  unfold Dev.showByf
  dsimp only
  rw [rd_modTime, rd_wrN_other _ _ _ h]

theorem rd_bootPorts (d : Dev) (off : Nat) : d.bootPorts.rd off = d.rd off := by
  obtain ⟨_, _, h⟩ := bootPorts_eq d
  rw [h]
  exact rd_congr rfl rfl off

theorem bootReady_promote {d : Dev} {b : BootEnv} {n : Nat} (hmib : b.mramMib = some n) (hlow : 2 ≤ n) (hhigh : n ≤ 32)
    (hptr : d.rcd.mram.pointer.isSome = true) : (d.bootReady b).rd FLT_PROMOTE1 = d.rd FLT_PROMOTE1 := by
  obtain ⟨_, _, _, hmram⟩ := bootMram_found (d := d.bootLatch b) hlow hhigh hptr
  unfold Dev.bootReady
  rw [hmib, rd_showByf _ _ (by decide), rd_bootPorts, rd_setBit_other _ _ _ _ (by decide), rd_wrN_other _ _ _ (by decide),
    hmram, Dev.rd_wr_other _ _ _ _ (by decide)]
  exact rd_congr rfl rfl _

/-- What the device is before step 4. -/
theorem bootReady_eq {d : Dev} {b : BootEnv} {n : Nat} (hmib : b.mramMib = some n) (hlow : 2 ≤ n) (hhigh : n ≤ 32)
    (hptr : d.rcd.mram.pointer.isSome = true) :
    ∃ regs rcd byf time out, d.bootReady b = { d with
        bist := { d.bist with latched := d.bist.fuses }, life := { d.life with boots := 1 }
        devId := if nByoft d.variant = 0 then 0 else b.straps.toNat
        scn := { d.scn with
          ilk := b.ilk
          ports := d.scn.ports.mapIdx (fun b (p : Port) => { p with state := if b < nBeams d.variant then 1 else 0 }) }
        regs := regs, rcd := rcd, byf := byf, time := time, out := out } ∧
      rcd.mram = { d.rcd.mram with usable := true, mib := n } := by
  obtain ⟨wptr, full, w, hmram⟩ := bootMram_found (d := d.bootLatch b) hlow hhigh hptr
  unfold Dev.bootReady
  rw [hmib, hmram]
  obtain ⟨byf, out, hports⟩ := bootPorts_eq ((((({ d.bootLatch b with rcd := { (d.bootLatch b).rcd with
      mram := { (d.bootLatch b).rcd.mram with usable := true, mib := n }, wptr := wptr, full := full } } : Dev).wr
      REC_AREA w).wrN CLK_STATUS (2 ^ 31 + 3)).setBit MEAS_STATUS 8 true))
  rw [hports]
  exact ⟨_, _, _, _, _, rfl, rfl⟩

/-- What step 4 keeps. -/
def BootKept (a b : Dev) : Prop := b.mode.cur = a.mode.cur ∧ b.bist.latched = a.bist.latched ∧ b.scn = a.scn ∧
  b.devId = a.devId ∧ b.rcd.mram = a.rcd.mram

theorem BootKept.trans {a b c : Dev} (h : BootKept a b) (k : BootKept b c) : BootKept a c := by
  obtain ⟨hcur, hlatched, hscn, hid, hmram⟩ := h
  obtain ⟨kcur, klatched, kscn, kid, kmram⟩ := k
  exact ⟨kcur.trans hcur, klatched.trans hlatched, kscn.trans hscn, kid.trans hid, kmram.trans hmram⟩

theorem HostSide.bootKept {a b : Dev} (h : HostSide a b) : BootKept a b := by
  obtain ⟨r, g, i, o, rfl⟩ := h
  exact ⟨rfl, rfl, rfl, rfl, rfl⟩

/-- A NOTE-class fault of source 37 that is not promoted (R467, R531). -/
theorem bootKept_fault {d : Dev} (hpromote : d.bit FLT_PROMOTE1 5 = false) : BootKept d (d.fault 37 3) := by
  have hpromotes : d.free.2.promotes 37 .note = false := promotes_bist hpromote
  have hnote : d.fault 37 3 = d.free.2.recordFault false 37 3 (BitVec.ofNat 32 d.free.1) .note false := by
    unfold Dev.fault Dev.raise
    dsimp only
    rw [raiseWith_noUnit _ _ _ _ (by decide), raise_note _ _ _ _ rfl hpromotes]
  have hmram := sameMram_recordFault d.free.2 false 37 3 (BitVec.ofNat 32 d.free.1) .note false
  obtain ⟨_, _, _, _, _, _, _, _, hrec⟩ := recorded_recordFault d.free.2 false 37 3 (BitVec.ofNat 32 d.free.1) .note false
  rw [hnote]
  generalize d.free.2.recordFault false 37 3 (BitVec.ofNat 32 d.free.1) .note false = x at hmram hrec
  refine ⟨?_, ?_, ?_, ?_, hmram⟩ <;> rw [hrec] <;> rfl

/-- Step 4 keeps what is latched, the pins and the MRAM; the MRAM's copy, or the one read from it, is in force where it
checks, and a copy that does not is a fault of the NOTE class (R531). -/
theorem bootRepair_keeps {d : Dev} (b : List Byte) (husable : d.rcd.mram.usable = true)
    (hpromote : d.bit FLT_PROMOTE1 5 = false) :
    BootKept d (d.bootRepair b) := by
  unfold Dev.bootRepair
  rw [husable]
  dsimp only
  rw [if_neg (by decide)]
  generalize (if d.rcd.mram.repairCopy.isEmpty = true then b else d.rcd.mram.repairCopy) = copy
  split
  · exact ⟨rfl, rfl, rfl, rfl, rfl⟩
  · refine (hostSide_wr d BIST_REPAIR_STATUS _).bootKept.trans (bootKept_fault ?_)
    exact (congrArg (fun w => Word.bit w 5) (rd_setFld_other d _ _ _ _ (by decide))).trans hpromote

/-- A copy that checks, where MRAM holds none written since (R531). -/
theorem bootRepair_applies {d : Dev} {b : List Byte} (husable : d.rcd.mram.usable = true)
    (hnone : d.rcd.mram.repairCopy = []) (hcheck : repairCheck b = stOk) : d.bootRepair b = d.mapInForce b 1 := by
  unfold Dev.bootRepair
  simp [husable, hnone, hcheck]

theorem getD_mapIdx_port (l : List Port) (f : Nat → Port → Port) {p : Nat} (h : p < l.length) :
    (l.mapIdx f).getD p default = f p (l.getD p default) := by
  simp [List.getD_eq_getElem?_getD, h]

/-- Boot from the release of the last reset (R61, R531). -/
theorem boot_from_release {b : BootEnv} {s : State} {n : Nat} (hboot : s.dev.mode.boot = 0) (hcur : s.dev.mode.cur = .configure)
    (hpromote : s.dev.bit FLT_PROMOTE1 5 = false) (hmib : b.mramMib = some n) (hlow : 2 ≤ n) (hhigh : n ≤ 32)
    (hptr : s.dev.rcd.mram.pointer.isSome = true) :
    ∃ t, exec (.resetReleaseBoot b) s = .next t ∧ OnlyDevice s t ∧ t.dev.mode.boot = 4 ∧
      t.dev.mode.cur = .configure ∧ t.dev.bist.latched = s.dev.bist.fuses ∧ t.dev.scn.ilk = b.ilk ∧
      t.dev.devId = (if nByoft s.dev.variant = 0 then 0 else b.straps.toNat) ∧ t.dev.rcd.mram.usable = true ∧
      (∀ p, p < s.dev.scn.ports.length → (t.dev.port p).state = (if p < nBeams s.dev.variant then 1 else 0)) ∧
      (s.dev.rcd.mram.repairCopy = [] → repairCheck b.repair = stOk →
        t.dev.bist.map = b.repair ∧ t.dev.mode.repair = true) := by
  have hexec := exec_resetReleaseBoot (b := b) hboot
  obtain ⟨_, rcd, _, _, _, hready, hmram⟩ := bootReady_eq (d := s.dev) hmib hlow hhigh hptr
  have hrcd : (s.dev.bootReady b).rcd = rcd := by rw [hready]
  have husable : (s.dev.bootReady b).rcd.mram.usable = true := by rw [hrcd, hmram]
  have hbit := congrArg (fun w => Word.bit w 5) (bootReady_promote (d := s.dev) hmib hlow hhigh hptr)
  have hkeeps := bootRepair_keeps b.repair husable (hbit.trans hpromote)
  have happly : s.dev.rcd.mram.repairCopy = [] → repairCheck b.repair = stOk →
      (s.dev.bootReady b).bootRepair b.repair = (s.dev.bootReady b).mapInForce b.repair 1 :=
    fun hnone hcheck => bootRepair_applies husable (by rw [hrcd, hmram]; exact hnone) hcheck
  generalize (s.dev.bootReady b).bootRepair b.repair = x at hexec hkeeps happly
  obtain ⟨hmode, hlatched, hscn, hid, hmram'⟩ := hkeeps
  refine ⟨_, hexec, ⟨rfl, rfl⟩, rfl, ?_, ?_, ?_, ?_, ?_, fun p hp => ?_, fun hnone hcheck => ?_⟩
  · refine hmode.trans ?_
    rw [hready]
    exact hcur
  · refine hlatched.trans ?_
    rw [hready]
  · refine (congrArg Scanner.ilk hscn).trans ?_
    rw [hready]
  · refine hid.trans ?_
    rw [hready]
  · exact (congrArg Mram.usable hmram').trans husable
  · have hport : x.port p = { s.dev.port p with state := if p < nBeams s.dev.variant then 1 else 0 } := by
      unfold Dev.port
      rw [hscn, hready]
      exact getD_mapIdx_port _ _ hp
    exact congrArg Port.state hport
  · have h := happly hnone hcheck
    exact ⟨congrArg (fun y => y.bist.map) h, congrArg (fun y => y.mode.repair) h⟩

/-! ## Firmware (R63 to R67) -/

/-- START in CONFIGURE: TYPE is taken, and the fetch begins. -/
theorem exec_fwLoadStart {ctrl : Word} {s : State} (hu : Up s) (hcur : s.dev.mode.cur = .configure)
    (hstart : ctrl.bit 31 = true) (htype : ctrl.get 0 2 ≠ 0) (hload : s.dev.mode.fwLoad = none) :
    exec (.fwLoadStart ctrl) s = .next { s with dev :=
      (({ s.dev.setFld MODE_FW_CTRL 0 2 (ctrl.get 0 2) with
        mode := { s.dev.mode with fwLoad := some (ctrl.get 0 2) } } : Dev).fwStatus 1 0 0 (ctrl.get 0 2)) } := by
  have htaken : (s.dev.setFld MODE_FW_CTRL 0 2 (ctrl.get 0 2)).fld MODE_FW_CTRL 0 2 = ctrl.get 0 2 := by
    have hlt : ctrl.get 0 2 < 2 ^ 2 := Nat.mod_lt _ (by decide)
    rw [Dev.fld, Dev.setFld, Dev.rd_wr_same, Word.get_put_same _ _ _ _ (by decide), Nat.mod_eq_of_lt hlt]
  show execFwLoadStart ctrl s = _
  unfold execFwLoadStart
  rw [whenUp_up _ _ hu]
  simp [hcur, htaken, hstart, hload, htype]

/-- A fetch that has failed (R71). -/
theorem exec_fwLoadDone_failed {type : Nat} {s : State} (hu : Up s) (hload : s.dev.mode.fwLoad = some type) :
    exec (.fwLoadDone none) s = .next { s with dev :=
      (Dev.send { s.dev with mode := { s.dev.mode with fwLoad := none } } (.aer true)).fwStatus 4 stTimeout 0 type } := by
  show execFwLoadDone none s = _
  unfold execFwLoadDone
  rw [whenUp_up _ _ hu]
  simp only [hload]

/-- The image a fetch brought, judged (R65). -/
theorem exec_fwLoadDone_image {image : List Byte} {type : Nat} {s : State} (hu : Up s)
    (hload : s.dev.mode.fwLoad = some type) :
    (∀ st step, s.dev.verifyImage (imageOf s image) type = some (st, step) →
      exec (.fwLoadDone (some image)) s = .next { s with dev :=
        ({ s.dev with mode := { s.dev.mode with fwLoad := none } } : Dev).fwStatus 4 st step type }) ∧
    (s.dev.verifyImage (imageOf s image) type = none →
      exec (.fwLoadDone (some image)) s = .next { s with dev := s.dev.installImage (imageOf s image) type }) := by
  have hexec : exec (.fwLoadDone (some image)) s = execFwLoadDone (some image) s := rfl
  rw [hexec]
  unfold execFwLoadDone imageOf
  rw [whenUp_up _ _ hu]
  simp only [hload]
  refine ⟨fun st step hbad => ?_, fun hgood => ?_⟩
  · simp only [hbad]
  · simp only [hgood]

/-- What an image in force changes of the mode control (R66). -/
def ModeCtl.installed (m : ModeCtl) (b : List Byte) (type : Nat) : ModeCtl := { m with
  fwLoad := none
  programs := m.programs.set (type - 1) (b.drop 512)
  fwSup := m.fwSup || type == 1
  fwBe := m.fwBe || type == 2
  fwVis := m.fwVis || type == 3
  boot := if type = 1 then 5 else m.boot }

/-- The measurement and the version of an image (R66). -/
def Dev.measured (d : Dev) (b : List Byte) (type : Nat) : Dev :=
  ((d.showBytes (MEAS_FW (type - 1) 0) (sha384 b)).setBit MEAS_STATUS (type - 1) true).wrN (MODE_FW_VER (type - 1))
    (bytesAt b 8 4)

theorem hostSide_measured (d : Dev) (b : List Byte) (type : Nat) : HostSide d (d.measured b type) := by
  have hbytes (x : Dev) (off : Nat) (bs : List Byte) : HostSide x (x.showBytes off bs) :=
    foldl_keeps HostSide HostSide.refl (fun _ _ _ => HostSide.trans) _ (fun y w => hostSide_wr y _ _) _ x
  exact ((hbytes d _ _).trans (hostSide_wr ..)).trans (hostSide_wr ..)

/-- An image comes into force where no supervisor is replaced. -/
theorem installImage_eq {d : Dev} (b : List Byte) {type : Nat} (hsup : ¬ (type = 1 ∧ d.mode.fwSup = true)) :
    d.installImage b type = ({ d.measured b type with
      mode := (d.measured b type).mode.installed b type } : Dev).fwStatus 3 stOk 0 type := by
  unfold Dev.installImage
  rw [if_neg hsup]
  rfl

theorem installImage_mode {d : Dev} (b : List Byte) {type : Nat} (hsup : ¬ (type = 1 ∧ d.mode.fwSup = true)) :
    (d.installImage b type).mode = d.mode.installed b type ∧
      (d.installImage b type).rd MODE_FW_STATUS = BitVec.ofNat 32 (3 * 2 ^ 28 + type) := by
  rw [installImage_eq b hsup]
  have hmode := (hostSide_measured d b type).sameMode
  generalize d.measured b type = x at hmode
  refine ⟨congrArg (fun m => ModeCtl.installed m b type) hmode, (Dev.rd_wr_same _ _ _).trans ?_⟩
  simp [stOk]

/-- With the supervisor in force a CONTROL ring runs while it is on, as a BUILD ring does (R61). -/
theorem ringRuns_of_fwSup {d : Dev} (h : d.mode.fwSup = true) (n : Nat) : d.ringRuns n = d.ringOn n := by
  rw [Dev.ringRuns, h, Bool.or_true, Bool.and_true]

/-- Settles O7: boot by its steps, and each way a fetch of firmware starts and ends. The length is that of MODE_FW_LEN at
the end of the fetch, and the end is judged in any mode (log entry 12). -/
theorem bootAndFirmware : Obligations.BootAndFirmware := by
  refine ⟨fun b s n hboot hcur hpromote hmib hlow hhigh hptr => boot_from_release hboot hcur hpromote hmib hlow hhigh hptr,
    fun ctrl s hu hcur hstart htype hload => ?_, fun image type s hu hload hlow hhigh => ?_,
    fun type s hu hload => exec_fwLoadDone_failed hu hload, fun image s hu hload hsup => ?_⟩
  · refine ⟨_, exec_fwLoadStart hu hcur hstart htype hload, ⟨rfl, rfl⟩, rfl, ?_⟩
    refine (Dev.rd_wr_same _ _ _).trans ?_
    simp
  · obtain ⟨hbad, hgood⟩ := exec_fwLoadDone_image (image := image) hu hload
    cases hverify : s.dev.verifyImage (imageOf s image) type with
    | some f =>
      obtain ⟨st, step⟩ := f
      exact ⟨_, hbad st step hverify, ⟨rfl, rfl⟩, rfl, rfl, rfl, rfl, rfl, Dev.rd_wr_same _ _ _⟩
    | none =>
      have hexec := hgood hverify
      obtain ⟨hmode, hstatus⟩ := installImage_mode (d := s.dev) (imageOf s image) (type := type) (by omega)
      generalize s.dev.installImage (imageOf s image) type = t at hexec hmode hstatus
      refine ⟨_, hexec, ⟨rfl, rfl⟩, ?_⟩
      simp only [hmode]
      exact ⟨rfl, rfl, rfl, rfl, rfl, hstatus⟩
  · obtain ⟨hbad, hgood⟩ := exec_fwLoadDone_image (image := image) hu hload
    cases hverify : s.dev.verifyImage (imageOf s image) 1 with
    | some f =>
      obtain ⟨st, step⟩ := f
      exact ⟨_, hbad st step hverify, ⟨rfl, rfl⟩, fun h => by cases h⟩
    | none =>
      have hexec := hgood hverify
      obtain ⟨hmode, -⟩ := installImage_mode (d := s.dev) (imageOf s image) (type := 1) (by rw [hsup]; simp)
      generalize s.dev.installImage (imageOf s image) 1 = t at hexec hmode
      have hsup' : t.mode.fwSup = true := by rw [hmode]; exact Bool.or_true _
      refine ⟨_, hexec, ⟨rfl, rfl⟩, fun _ => ⟨hsup', ?_, fun n => ringRuns_of_fwSup hsup' n⟩⟩
      rw [hmode]
      rfl

end Sys2Proof.Machine
end

section
/-! SUPPORT. What every command answers, and O1 and O2: a step runs the command at the front, and every command goes on. -/

namespace Sys2Proof.Machine

/-! ## Every command answers a next state -/

/-- The command answers, in this state, a next state that differs in the device and the memory at most. -/
def GoesOn (f : Meaning) (s : State) : Prop := ∃ d m, f s = .next { s with dev := d, mem := m }

theorem goesOn_of_dev {f : Meaning} {s : State} (h : ∃ d, f s = .next { s with dev := d }) : GoesOn f s := by
  obtain ⟨d, hd⟩ := h
  exact ⟨d, s.mem, hd⟩

theorem goesOn_of_mem {f : Meaning} {s : State} {P : Dev → List Host.Cell → Prop}
    (h : ∃ d m, f s = .next { s with dev := d, mem := m } ∧ P d m) : GoesOn f s := by
  obtain ⟨d, m, hd, -⟩ := h
  exact ⟨d, m, hd⟩

theorem registerWrite_goesOn (off : BitVec 25) (val hwMask hwVal : Word) (s : State) :
    GoesOn (execRegisterWrite off val hwMask hwVal) s := by
  rcases registerWrite_answers off val hwMask hwVal s with hdev | ⟨-, d, htrain⟩
  · exact goesOn_of_dev hdev
  · exact ⟨d, [], htrain⟩

theorem bar2Write_goesOn (addr : BitVec 26) (bytes : List Byte) (s : State) : GoesOn (execBar2Write addr bytes) s := by
  rcases execBar2Write_goes addr bytes s with hdev | ⟨a, bs, hmem⟩
  · exact goesOn_of_dev hdev
  · exact ⟨s.dev, memWrite s.mem a bs, hmem⟩

/-- The commands that may change the memory, and those that act in reset, have a form each; the others change the device
alone (`exec_acts`). -/
theorem exec_goesOn (c : Instr) (s : State) : GoesOn (exec c) s := by
  cases hmem : touchesMemory c with
  | true =>
    cases c
    case registerWrite off val hwMask hwVal => exact registerWrite_goesOn off val hwMask hwVal s
    case bar2Write addr bytes => exact bar2Write_goesOn addr bytes s
    case dramRequest arrive sc => exact goesOn_of_mem (execDramRequest_goes arrive sc s)
    case dramTrain => exact goesOn_of_mem (execDramTrain_goes s)
    case dramTrainDone t => exact goesOn_of_mem (execDramTrainDone_goes t s)
    case powerOnReset => exact ⟨_, [], rfl⟩
    case rstNReset ns => exact goesOn_of_mem (execRstNReset_goes ns s)
    case perstNReset => exact ⟨_, [], rfl⟩
    case softwareResetFire => exact goesOn_of_mem (execSoftwareResetFire_goes s)
    case pfailNLow => exact goesOn_of_mem (execPfailNLow_goes s)
    all_goals exact absurd hmem Bool.false_ne_true
  | false =>
    cases hreset : actsInReset c with
    | false => exact goesOn_of_dev ((exec_acts hmem hreset).goes s)
    | true =>
      cases c
      case resetReleaseBoot b => exact goesOn_of_dev (execResetReleaseBoot_goes b s)
      case powerOnReset | rstNReset | perstNReset | softwareResetFire => exact absurd hmem.symm Bool.false_ne_true
      all_goals exact absurd hreset Bool.false_ne_true

/-- Settles O2: every command changes the device and the memory at most (`exec_goesOn`). -/
theorem everyCommandGoesOn : Obligations.EveryCommandGoesOn := by
  refine ⟨fun c s => ?_, fun c s t ht => ?_⟩ <;> obtain ⟨d, m, hnext⟩ := exec_goesOn c s
  · exact ⟨_, hnext⟩
  · obtain rfl := Host.Outcome.next.inj (hnext.symm.trans ht)
    rfl

/-! ## A step -/

/-- Settles O1: a step by the two cases of the queue (an empty one idles: log entry 1). -/
theorem everyStepRunsItsCommand : Obligations.EveryStepRunsItsCommand := by
  refine ⟨fun c s rest hfront => ?_, fun s hempty => ?_⟩ <;> unfold step
  · rw [hfront]
  · rw [hempty]

end Sys2Proof.Machine
end

section
/-! SUPPORT. What an update of a ring leaves of it and of the others, and O16: enabling, disabling and resetting a ring
(R73, R102). -/

namespace Sys2Proof.Machine

/-! ## One ring updated -/

theorem ring_modRing_same (d : Dev) {n : Nat} (f : Ring → Ring) (h : n < d.rings.length) :
    (d.modRing n f).ring n = f (d.ring n) := getD_modAt_same _ _ _ _ h

theorem ring_modRing_other (d : Dev) {n m : Nat} (f : Ring → Ring) (h : m ≠ n) : (d.modRing n f).ring m = d.ring m :=
  getD_modAt_other _ _ _ _ _ h

/-- What the update leaves of a ring stays, of any ring and whether or not the device has the ring updated. -/
theorem ring_modRing_keeps {β : Type} (g : Ring → β) (d : Dev) (n m : Nat) {f : Ring → Ring} (hf : ∀ r, g (f r) = g r) :
    g ((d.modRing n f).ring m) = g (d.ring m) := by
  by_cases hm : m = n
  · subst hm
    by_cases hlen : m < d.rings.length
    · rw [ring_modRing_same d f hlen, hf]
    · simp [Dev.ring, Dev.modRing, modAt, List.getElem?_eq_none (Nat.le_of_not_lt hlen)]
  · rw [ring_modRing_other d f hm]

theorem ring_wr (d : Dev) (off : Nat) (w : Word) (n : Nat) : (d.wr off w).ring n = d.ring n := by
  rw [Dev.ring, Dev.wr_rings, Dev.ring]

theorem ring_setBit (d : Dev) (off i : Nat) (b : Bool) (n : Nat) : (d.setBit off i b).ring n = d.ring n :=
  ring_wr d _ _ n

/-! ## The control word of a ring (R73) -/

theorem fld_setBit_apart (d : Dev) (off i lo n : Nat) (b : Bool) (hi : i < 32) (h : lo + n ≤ i) :
    (d.setBit off i b).fld off lo n = d.fld off lo n := by
  show ((d.wr off ((d.rd off).putBit i b)).rd off).get lo n = _
  rw [Dev.rd_wr_same, Word.putBit, Word.get_put_apart _ _ _ _ _ _ (by omega) (Or.inl h)]
  rfl

theorem ringOn_setBit (d : Dev) (n : Nat) (b : Bool) : (d.setBit (HIF_RING_CTRL n) 31 b).ringOn n = b :=
  bit_setBit_same d _ _ b (by omega)

theorem ringType_setBit (d : Dev) (n : Nat) (b : Bool) : (d.setBit (HIF_RING_CTRL n) 31 b).ringType n = d.ringType n :=
  fld_setBit_apart d _ _ _ _ b (by omega) (by omega)

theorem ringType_setFld (d : Dev) (n : Nat) (type : Fin 4) : (d.setFld (HIF_RING_CTRL n) 0 2 type).ringType n = type := by
  show ((d.wr (HIF_RING_CTRL n) ((d.rd (HIF_RING_CTRL n)).put 0 2 type)).rd (HIF_RING_CTRL n)).get 0 2 = type
  rw [Dev.rd_wr_same, Word.get_put_same _ _ _ _ (by omega)]
  exact Nat.mod_eq_of_lt type.isLt

/-- The fields of the word that RING_ENABLE writes: TYPE, ENABLE, and no RESET. -/
theorem enableWord (type : Fin 4) :
    Word.bit (BitVec.ofNat 32 (2 ^ 31 + type.val)) 31 = true ∧ Word.bit (BitVec.ofNat 32 (2 ^ 31 + type.val)) 30 = false ∧
      Word.get (BitVec.ofNat 32 (2 ^ 31 + type.val)) 0 2 = type.val := by
  revert type
  decide

/-! ## Enabling (R73) -/

/-- RING_ENABLE on a ring that is off: TYPE, then ENABLE. -/
theorem exec_ringEnable_off {n : Fin 64} {type : Fin 4} {s : State} (hu : Up s) (hoff : s.dev.ringOn n = false) :
    exec (.ringEnable n type) s = .next { s with dev := (s.dev.setFld (HIF_RING_CTRL n) 0 2 type).enableRing n } := by
  obtain ⟨henable, hreset, htype⟩ := enableWord type
  show execRingEnable n type s = _
  unfold execRingEnable
  rw [whenUp_up _ _ hu]
  simp only [Dev.ringCtrl, Dev.typeRing, henable, hreset, htype, hoff, Bool.not_false, Bool.not_true, if_true,
    Bool.false_eq_true, if_false]

/-- RING_ENABLE on a ring that is on: its TYPE is compared, and nothing else happens. -/
theorem exec_ringEnable_on {n : Fin 64} {type : Fin 4} {s : State} (hu : Up s) (hon : s.dev.ringOn n = true) :
    exec (.ringEnable n type) s =
      .next (if type.val = s.dev.ringType n then s else { s with dev := s.dev.hifError 8 n }) := by
  obtain ⟨henable, hreset, htype⟩ := enableWord type
  show execRingEnable n type s = _
  unfold execRingEnable
  rw [whenUp_up _ _ hu]
  simp only [Dev.ringCtrl, Dev.typeRing, henable, hreset, htype, hon]
  split_ifs <;> simp_all

/-- A ring of a TYPE and a stream source that are in use goes on. -/
theorem enableRing_goes {d : Dev} {n : Nat} (htype : d.ringType n ≠ 0)
    (hsource : d.ringType n = 3 → d.fld (HIF_RING_STREAM n) 0 4 < 7) :
    d.enableRing n = ((d.setBit (HIF_RING_CTRL n) 31 true).fillRing n).pumpStaging := by
  refine if_neg ?_
  rintro (hzero | ⟨hstream, hreserved⟩)
  · exact htype hzero
  · exact absurd (hsource hstream) (by omega)

/-! ## Disabling (R102) -/

/-- The ring off, with what it had fetched dropped (log entry 14). -/
def Dev.ringOff (d : Dev) (n : Nat) : Dev :=
  (d.setBit (HIF_RING_CTRL n) 31 false).modRing n (fun r => { r with prefetch := [] })

theorem rings_ringOff (d : Dev) (n : Nat) :
    (d.ringOff n).rings = modAt d.rings n (fun r => { r with prefetch := [] }) := by
  rw [Dev.ringOff, Dev.modRing, Dev.setBit_rings]

theorem bufs_ringOff (d : Dev) (n : Nat) : ((d.ringOff n).ring n).bufs = (d.ring n).bufs := by
  unfold Dev.ringOff
  refine (ring_modRing_keeps Ring.bufs _ _ _ ?_).trans ?_
  · exact fun _ => rfl
  · rw [ring_setBit]

theorem rd_ringOff (d : Dev) (n off : Nat) : (d.ringOff n).rd off = (d.setBit (HIF_RING_CTRL n) 31 false).rd off :=
  Dev.modRing_rd _ _ _ _

theorem ringOn_ringOff (d : Dev) (n : Nat) : (d.ringOff n).ringOn n = false := by
  rw [Dev.ringOn, Dev.bit, rd_ringOff]
  exact ringOn_setBit d n false

theorem ringType_ringOff (d : Dev) (n : Nat) : (d.ringOff n).ringType n = d.ringType n := by
  rw [Dev.ringType, Dev.fld, rd_ringOff]
  exact ringType_setBit d n false

theorem exec_ringDisable {n : Fin 64} {s : State} (hu : Up s) (hon : s.dev.ringOn n = true) :
    exec (.ringDisable n) s = .next { s with dev :=
      (if s.dev.ringType n = 3 then
        (s.dev.ring n).bufs.foldl (fun d b => d.closeBuf n (if b.recs = 0 then stAborted else stOk)) (s.dev.ringOff n)
      else s.dev.ringOff n) } := by
  show execRingDisable n s = _
  unfold execRingDisable
  rw [whenUp_up _ _ hu, ← bufs_ringOff]
  simp [Dev.disableRing, hon, Dev.ringOff]

/-! ## Reset (R102) -/

theorem exec_ringReset {n : Fin 64} {s : State} (hu : Up s) :
    exec (.ringReset n) s = .next { s with dev := s.dev.resetRing n } := by
  show execRingReset n s = _
  exact whenUp_up s _ hu

/-- Settles O16: TYPE and ENABLE by `exec_ringEnable_off` and `exec_ringEnable_on`, ENABLE cleared by `exec_ringDisable`
(what was fetched is dropped: log entry 14), RESET by its guard (it forgets the doorbell positions too: log entry 14). -/
theorem ringControl : Obligations.RingControl := by
  intro n s hu
  refine ⟨fun type hoff htype hsource => ?_, fun type hon => exec_ringEnable_on hu hon, fun hon hstream => ?_,
    fun b hon hstream hbufs => ?_, fun hoff hidle hlen => ?_, fun hbusy => ?_⟩
  · have hset : (s.dev.setFld (HIF_RING_CTRL n) 0 2 type).ringType n = type := ringType_setFld s.dev n type
    refine ⟨_, rfl, ringOn_setBit _ _ _, (ringType_setBit _ _ _).trans hset, fun off hother => ?_, ?_⟩
    · rw [rd_setBit_other _ _ _ _ hother, rd_setFld_other _ _ _ _ _ hother]
    · rw [exec_ringEnable_off hu hoff, enableRing_goes]
      · rw [hset]
        exact fun hzero => htype (Fin.ext hzero)
      · intro hthree
        have hkeeps : (s.dev.setFld (HIF_RING_CTRL n) 0 2 type).rd (HIF_RING_STREAM n) = s.dev.rd (HIF_RING_STREAM n) :=
          rd_setFld_other _ _ _ _ _ (by unfold HIF_RING_STREAM HIF_RING_CTRL; omega)
        rw [Dev.fld, hkeeps]
        exact hsource (Fin.ext (hset.symm.trans hthree))
  · have hexec : exec (.ringDisable n) s = .next { s with dev := s.dev.ringOff n } := by
      rw [exec_ringDisable hu hon, if_neg hstream]
    refine ⟨_, hexec, ⟨rfl, rfl⟩, ringOn_ringOff _ _, ringType_ringOff _ _, rings_ringOff _ _, fun off hother => ?_⟩
    exact (rd_ringOff _ _ _).trans (rd_setBit_other _ _ _ _ hother)
  · rw [exec_ringDisable hu hon, if_pos hstream, hbufs]
    rfl
  · have hexec : exec (.ringReset n) s =
        .next { s with dev := (s.dev.modRing n (fun _ => default)).wr (HIF_RING_DROP n) 0 } := by
      simp [exec_ringReset hu, Dev.resetRing, hoff, hidle]
    refine ⟨_, hexec, ⟨rfl, rfl⟩, (ring_wr _ _ _ _).trans ?_, Dev.rd_wr_same _ _ _,
      fun off hother => Dev.rd_wr_other _ _ _ _ hother, fun m hm => (ring_wr _ _ _ _).trans ?_⟩
    · exact ring_modRing_same s.dev (fun _ => default) (by rw [hlen]; exact n.isLt)
    · exact ring_modRing_other s.dev (fun _ => default) hm
  · rw [exec_ringReset hu, Dev.resetRing, if_pos]
    simpa using hbusy

end Sys2Proof.Machine
end

section
/-! SUPPORT. How a ring starts what it has fetched, and O18: what the arrival of a descriptor and of input data does (R84,
R86). -/

namespace Sys2Proof.Machine

/-! ## Updates of one ring in succession -/

theorem modAt_modAt {α : Type} (l : List α) (i : Nat) (f g : α → α) : modAt (modAt l i f) i g = modAt l i (fun a => g (f a)) := by
  cases hget : l[i]? with
  | none => simp [modAt, hget]
  | some a =>
    have hlt : i < l.length := (List.getElem?_eq_some_iff.mp hget).1
    simp [modAt, hlt]

theorem modAt_congr {α : Type} {l : List α} {i : Nat} {f g : α → α} (a : α) (h : f (l.getD i a) = g (l.getD i a)) :
    modAt l i f = modAt l i g := by
  cases hget : l[i]? with
  | none => simp [modAt, hget]
  | some b =>
    rw [List.getD_eq_getElem?_getD, hget] at h
    simp only [modAt, hget]
    exact congrArg (l.set i) h

theorem modRing_modRing (d : Dev) (n : Nat) (f g : Ring → Ring) :
    (d.modRing n f).modRing n g = d.modRing n (fun r => g (f r)) :=
  congrArg (fun rings => ({ d with rings := rings } : Dev)) (modAt_modAt d.rings n f g)

theorem modRing_congr {d : Dev} {n : Nat} {f g : Ring → Ring} (h : f (d.ring n) = g (d.ring n)) :
    d.modRing n f = d.modRing n g :=
  congrArg (fun rings => ({ d with rings := rings } : Dev)) (modAt_congr default h)

theorem sqSize_modRing (d : Dev) (n : Nat) (f : Ring → Ring) (m : Nat) : (d.modRing n f).sqSize m = d.sqSize m := rfl

/-! ## When a descriptor can start (R77, R86, R87) -/

/-- An update that leaves the work in flight of its ring changes nothing of what can start. -/
theorem canStart_modRing (d : Dev) (n : Nat) (q : Req) {f : Ring → Ring} (hinflight : ∀ r, (f r).inflight = r.inflight)
    (hbarrier : ∀ r, (f r).barrier = r.barrier) (hstopped : ∀ r, (f r).stopped = r.stopped) :
    (d.modRing n f).canStart q = d.canStart q := by
  unfold Dev.canStart Dev.ringLive
  dsimp only
  rw [ring_modRing_keeps Ring.inflight d n q.ring hinflight, ring_modRing_keeps Ring.barrier d n q.ring hbarrier,
    ring_modRing_keeps Ring.stopped d n q.ring hstopped]
  rfl

/-- A ring starts the descriptor at its head, and goes on with those behind it. -/
theorem pump_start {d : Dev} {n idx : Nat} {b : List Byte} {rest : List (Nat × List Byte)} {q : Req} (e : Env) (k : Nat)
    (hfetched : (d.ring n).prefetch = (idx, b) :: rest) (hq : q = parseReq n idx b) (hcan : d.canStart q = true) :
    Dev.pump n e (k + 1) d = Dev.pump n e k ((d.modRing n (fun r => { r with
      prefetch := rest, sqHead := (r.sqHead + 1) % (2 * d.sqSize n) })).startDesc q b e) := by
  subst hq
  simp only [Dev.pump, hfetched, hcan, if_true]

theorem pump_empty {d : Dev} {n : Nat} (e : Env) (k : Nat) (hfetched : (d.ring n).prefetch = []) :
    Dev.pump n e k d = d := by
  cases k with
  | zero => rfl
  | succ k => simp only [Dev.pump, hfetched]

/-! ## A descriptor that starts (R84) -/

/-- The first of checks 1 to 3 that fails completes the descriptor. -/
theorem startDesc_fails {d : Dev} {q : Req} {b : List Byte} {f : Failure} (e : Env) (h : d.descFail q b = some f) :
    d.startDesc q b e = (d.launch q).fail q f.1 f.2 := by
  simp only [Dev.startDesc, h]

/-- So does the first failed check of its command. -/
theorem startDesc_checked {d : Dev} {q : Req} {b : List Byte} {c : Cmd} {f : Failure} (e : Env)
    (h : d.descFail q b = none) (hc : cmdOf q.op = some c) (hcheck : c.check (d.launch q) q = some f) :
    d.startDesc q b e = (d.launch q).fail q f.1 f.2 := by
  simp only [Dev.startDesc, h, hc, hcheck]

/-- A command without input data whose checks pass takes its effect. -/
theorem startDesc_takes {d : Dev} {q : Req} {b : List Byte} {c : Cmd} (e : Env) (h : d.descFail q b = none)
    (hc : cmdOf q.op = some c) (hcheck : c.check (d.launch q) q = none) (hdata : q.dataLen = 0) :
    d.startDesc q b e = c.effect q e (d.launch q) := by
  simp only [Dev.startDesc, h, hc, hcheck, hdata, if_true]

/-! ## A descriptor that arrives (R84, R86, R88) -/

theorem exec_descriptorReadDone {n : Fin 64} {b : List Byte} (e : Env) {s : State} (hu : Up s)
    (hturn : s.dev.fetches n = true) (hempty : (s.dev.ring n).prefetch = []) (hlen : b.length = 64) :
    exec (.descriptorReadDone n (some b) e) s = .next { s with dev := (Dev.pump n e 16
      ((s.dev.readGood.tookTurn n).modRing n (fun r => { r with
        prefetch := [((s.dev.ring n).sqHead % s.dev.sqSize n, b)] }))) } := by
  have hbytes : (b ++ List.replicate 64 0).take 64 = b := by rw [← hlen, List.take_left]
  have hring : ((s.dev.readGood).tookTurn n).ring n = s.dev.ring n := rfl
  have hsize : ((s.dev.readGood).tookTurn n).sqSize n = s.dev.sqSize n := rfl
  show execDescriptorReadDone n (some b) e s = _
  unfold execDescriptorReadDone Dev.pumpRing
  rw [whenUp_up _ _ hu]
  simp only [hturn, Bool.not_true, Bool.false_eq_true, if_false, hbytes, hring, hsize, hempty, List.length_nil,
    Nat.add_zero]
  refine congrArg (fun d => Host.Outcome.next { s with dev := Dev.pump n e 16 d }) (modRing_congr ?_)
  rw [hring, hempty]
  rfl

/-- It leaves the queue at once where it can start and nothing else is fetched. -/
theorem exec_descriptorReadDone_starts {n : Fin 64} {b : List Byte} (e : Env) {s : State} {q : Req} (hu : Up s)
    (hturn : s.dev.fetches n = true) (hempty : (s.dev.ring n).prefetch = []) (hlen : b.length = 64)
    (hrings : s.dev.rings.length = 64) (hq : q = parseReq n ((s.dev.ring n).sqHead % s.dev.sqSize n) b)
    (hcan : s.dev.canStart q = true) :
    exec (.descriptorReadDone n (some b) e) s = .next { s with dev := (Dev.pump n e 15
      (((s.dev.readGood.tookTurn n).modRing n (fun r => { r with
        prefetch := [], sqHead := ((s.dev.ring n).sqHead + 1) % (2 * s.dev.sqSize n) })).startDesc q b e)) } := by
  have hn : n.val < (s.dev.readGood.tookTurn n).rings.length := by
    show n.val < s.dev.rings.length
    omega
  have hring : (s.dev.readGood.tookTurn n).ring n = s.dev.ring n := rfl
  have hsize : (s.dev.readGood.tookTurn n).sqSize n = s.dev.sqSize n := rfl
  rw [exec_descriptorReadDone e hu hturn hempty hlen, pump_start e 15 (rest := []) ?_ hq ?_, modRing_modRing]
  · rw [sqSize_modRing]
    refine congrArg (fun d => Host.Outcome.next { s with dev := Dev.pump n e 15 (d.startDesc q b e) }) (modRing_congr ?_)
    rw [hring, hsize]
  · rw [ring_modRing_same _ _ hn]
  · exact (canStart_modRing _ _ _ (by exact fun _ => rfl) (by exact fun _ => rfl) (by exact fun _ => rfl)).trans hcan

/-! ## Input data (R84) -/

theorem finish_data {c : Cmd} {q : Req} {e : Env} (d : Dev) (hdata : q.dataLen ≠ 0) (hread : e.dataFail = none) :
    c.finish q e d = c.effect q { e with data := e.data.take q.dataLen } d := by
  obtain ⟨k, hk⟩ := Nat.exists_eq_succ_of_ne_zero hdata
  simp only [Cmd.finish, hk, hread]

theorem finish_failed {c : Cmd} {q : Req} {e : Env} (d : Dev) {f : ReadFail} (hdata : q.dataLen ≠ 0)
    (hread : e.dataFail = some f) : c.finish q e d = d.dataReadFailed q f := by
  obtain ⟨k, hk⟩ := Nat.exists_eq_succ_of_ne_zero hdata
  simp only [Cmd.finish, hk, hread]

theorem exec_dataReadDone {n : Fin 64} {idx : BitVec 16} (e : Env) {s : State} {q : Req} {c : Cmd} (hu : Up s)
    (hwaits : s.dev.hif.waitData.find? (fun q => q.ring == n.val && q.idx == idx.toNat) = some q)
    (hc : cmdOf q.op = some c) :
    exec (.dataReadDone n idx e) s = .next { s with dev := (c.finish q e ({ s.dev with
      hif := { s.dev.hif with waitData := s.dev.hif.waitData.filter (fun x => x != q) } } : Dev)).pumpRing n e } := by
  show execDataReadDone n idx e s = _
  unfold execDataReadDone
  rw [whenUp_up _ _ hu]
  simp only [hwaits, hc]

/-- Settles O18: a descriptor that arrives by `exec_descriptorReadDone_starts` and the three ends of `Dev.startDesc`, one
whose read fails by its branch, and input data by `exec_dataReadDone`. -/
theorem descriptorsStart : Obligations.DescriptorsStart := by
  refine ⟨fun n b e s q d hu hturn hempty hlen hrings hq hcan hd => ?_, fun n e s hu hturn => ?_,
    fun n desc e s hu hturn => ?_, fun n idx e s q c d hu hwaits hc hdata hd => ?_⟩
  · have hexec := exec_descriptorReadDone_starts e hu hturn hempty hlen hrings hq hcan
    have hchecks : d.descFail q b = s.dev.descFail q b := by rw [hd]; rfl
    rw [show (s.dev.readGood.tookTurn n).modRing n _ = d from hd.symm] at hexec
    refine ⟨fun st x hfail => ?_, fun c hgood hc => ⟨fun st x hcheck => ?_, fun hcheck hdata => ?_⟩⟩
    · rw [hexec, startDesc_fails e (hchecks.trans hfail)]
    · rw [hexec, startDesc_checked e (hchecks.trans hgood) hc hcheck]
    · rw [hexec, startDesc_takes e (hchecks.trans hgood) hc hcheck hdata]
  · show execDescriptorReadDone n none e s = _
    unfold execDescriptorReadDone
    rw [whenUp_up _ _ hu]
    simp only [hturn, Bool.not_true, Bool.false_eq_true, if_false]
  · show execDescriptorReadDone n desc e s = _
    exact whenUp_same (by simp only [hturn, Bool.not_false, if_true])
  · subst hd
    refine ⟨fun hread => ?_, fun f hread => ?_⟩ <;> rw [exec_dataReadDone e hu hwaits hc]
    · rw [finish_data _ hdata hread]
    · rw [finish_failed _ hdata hread, Dev.dataReadFailed]

end Sys2Proof.Machine
end

section
/-! SUPPORT. What a poll of the doorbell page does where little waits, and O17: doorbell words and polls (R71, R80 to R82). -/

namespace Sys2Proof.Machine

/-! ## Folds that change little -/

theorem foldl_idle {α β : Type} {f : α → β → α} {a : α} {l : List β} (h : ∀ b ∈ l, f a b = a) : l.foldl f a = a := by
  induction l with
  | nil => rfl
  | cons b l ih =>
    rw [List.foldl_cons, h b List.mem_cons_self]
    exact ih fun c hc => h c (List.mem_cons_of_mem _ hc)

/-- A fold to which one element alone matters. -/
theorem foldl_once {α β : Type} {f : α → β → α} {a : α} {l : List β} {n : β} (hn : n ∈ l) (hnodup : l.Nodup)
    (hbefore : ∀ b ∈ l, b ≠ n → f a b = a) (hafter : ∀ b ∈ l, b ≠ n → f (f a n) b = f a n) : l.foldl f a = f a n := by
  induction l with
  | nil => cases hn
  | cons b l ih =>
    obtain ⟨hb, hl⟩ := List.nodup_cons.mp hnodup
    rw [List.foldl_cons]
    by_cases hbn : b = n
    · subst hbn
      exact foldl_idle fun c hc => hafter c (List.mem_cons_of_mem _ hc) (fun heq => hb (heq ▸ hc))
    · rw [hbefore b List.mem_cons_self hbn]
      exact ih ((List.mem_cons.mp hn).resolve_left (Ne.symm hbn)) hl
        (fun c hc => hbefore c (List.mem_cons_of_mem _ hc)) (fun c hc => hafter c (List.mem_cons_of_mem _ hc))

/-! ## The halves of a doorbell word (R78, R81) -/

theorem takeSq_valid {d : Dev} {n w : Nat} (hform : halfOk w 16 (Nat.log2 (d.sqSize n)) = true)
    (hrange : posDiff (halfPos w 16 (d.sqSize n)) (d.ring n).sqHead (d.sqSize n) ≤ d.sqSize n) :
    d.takeSq n w = d.modRing n (fun r => { r with sqTail := halfPos w 16 (d.sqSize n), badSq := none }) := by
  simp only [Dev.takeSq, hform, hrange, decide_true, Bool.and_self, if_true]

theorem takeSq_invalid {d : Dev} {n w : Nat} (hform : halfOk w 16 (Nat.log2 (d.sqSize n)) = false) :
    d.takeSq n w = if (d.ring n).badSq = some w then d
      else (d.modRing n (fun r => { r with badSq := some w })).hifError 0 n := by
  simp only [Dev.takeSq, hform, Bool.false_and, Bool.false_eq_true, if_false]

/-- A valid CQ half, with nothing spilled that could drain. -/
theorem takeCq_valid {d : Dev} {n w : Nat} (hform : halfOk w 20 (Nat.log2 (d.cqSize n)) = true)
    (hrange : posDiff (d.ring n).cqTail (halfPos w 20 (d.cqSize n)) (d.cqSize n) ≤ d.cqSize n)
    (hspill : (d.ring n).spill = []) :
    d.takeCq n w = d.modRing n (fun r => { r with cqHead := halfPos w 20 (d.cqSize n), badCq := none }) := by
  simp only [Dev.takeCq, hform, hrange, hspill, decide_true, Bool.and_self, if_true, List.length_nil, Dev.drainSpill]

/-! ## A poll (R80, R82) -/

/-- Nothing fetched waits on a ring, and nothing is spilled or held. -/
def Dev.ringsIdle (d : Dev) : Prop :=
  ∀ m, m < 64 → (d.ring m).prefetch = [] ∧ (d.ring m).spill = [] ∧ (d.ring m).held = []

theorem hostBack_idle {d : Dev} (hidle : d.ringsIdle) (hstaged : d.staged = []) : d.hostBack = d := by
  have hfold : (List.range 64).foldl (fun d n =>
      if (d.ring n).spill.isEmpty && (d.ring n).held.isEmpty then d
      else (Dev.drainSpill n (d.ring n).spill.length d).fillRing n) d = d := by
    refine foldl_idle fun m hm => ?_
    obtain ⟨-, hspill, hheld⟩ := hidle m (List.mem_range.mp hm)
    simp only [hspill, hheld, List.isEmpty_nil, Bool.and_self, if_true]
  rw [Dev.hostBack, hfold, hstaged]
  rfl

theorem pumpRings_idle {d : Dev} (e : Env) (hidle : d.ringsIdle) :
    d.turnOrder.foldl (fun d n => d.pumpRing n e) d = d := by
  refine foldl_idle fun m hm => pump_empty e 16 (hidle m ?_).1
  obtain ⟨i, -, rfl⟩ := List.mem_map.mp hm
  exact Nat.mod_lt _ (by omega)

/-- Where no ring reads again, a poll has nothing to allow. -/
theorem polled_idle {d : Dev} (hlen : d.rings.length = 64) (hretry : ∀ m, m < 64 → (d.ring m).retry = false) :
    d.polled = d := by
  have hrings : d.rings.map (fun (r : Ring) => { r with retry := false }) = d.rings := by
    refine List.ext_getElem (List.length_map ..) fun i _ hi => ?_
    have hread : d.rings[i].retry = false := by
      rw [← List.getD_eq_getElem _ default hi]
      exact hretry i (hlen ▸ hi)
    have hself : ∀ r : Ring, r.retry = false → ({ r with retry := false } : Ring) = r := fun r h => by rw [← h]
    rw [List.getElem_map]
    exact hself _ hread
  rw [Dev.polled, hrings]

/-- The device after a poll that read the page and found nothing to start: the run of failed reads ends, and with it
HOST_LOST. -/
def Dev.pageRead (d : Dev) : Dev := d.readGood.endCause 28 1

/-- Ring n with both positions of its doorbell word taken. -/
def Dev.doorbellTaken (d : Dev) (n w : Nat) : Dev :=
  d.modRing n (fun r => { r with
    sqTail := halfPos (w % 2 ^ 32) 16 (d.sqSize n), badSq := none
    cqHead := halfPos (w / 2 ^ 32) 20 (d.cqSize n), badCq := none })

theorem ringsIdle_doorbellTaken {d : Dev} (n w : Nat) (hidle : d.ringsIdle) : (d.doorbellTaken n w).ringsIdle := by
  intro m hm
  obtain ⟨hprefetch, hspill, hheld⟩ := hidle m hm
  refine ⟨?_, ?_, ?_⟩
  · exact (ring_modRing_keeps Ring.prefetch d n m (by exact fun _ => rfl)).trans hprefetch
  · exact (ring_modRing_keeps Ring.spill d n m (by exact fun _ => rfl)).trans hspill
  · exact (ring_modRing_keeps Ring.held d n m (by exact fun _ => rfl)).trans hheld

/-- Both halves of a ring's doorbell word are well formed and in range (R78, R81). -/
structure ValidWord (d : Dev) (n w : Nat) : Prop where
  sqForm : halfOk (w % 2 ^ 32) 16 (Nat.log2 (d.sqSize n)) = true
  sqRange : posDiff (halfPos (w % 2 ^ 32) 16 (d.sqSize n)) (d.ring n).sqHead (d.sqSize n) ≤ d.sqSize n
  cqForm : halfOk (w / 2 ^ 32) 20 (Nat.log2 (d.cqSize n)) = true
  cqRange : posDiff (d.ring n).cqTail (halfPos (w / 2 ^ 32) 20 (d.cqSize n)) (d.cqSize n) ≤ d.cqSize n

theorem takeWord_valid {d : Dev} {n w : Nat} (hw : ValidWord d n w) (hspill : (d.ring n).spill = []) :
    (d.takeSq n (w % 2 ^ 32)).takeCq n (w / 2 ^ 32) = d.doorbellTaken n w := by
  rw [takeSq_valid hw.sqForm hw.sqRange]
  refine Eq.trans (takeCq_valid ?_ ?_ ?_) (modRing_modRing _ _ _ _)
  · exact hw.cqForm
  · rw [ring_modRing_keeps Ring.cqTail _ _ _ (by exact fun _ => rfl)]
    exact hw.cqRange
  · rw [ring_modRing_keeps Ring.spill _ _ _ (by exact fun _ => rfl)]
    exact hspill

/-- A ring that is on takes its word of the page. -/
def Dev.takePage (page : List Word64) (d : Dev) (n : Nat) : Dev :=
  if d.ringOn n then
    let w := (page.getD n 0).toNat
    (d.takeSq n (w % 2 ^ 32)).takeCq n (w / 2 ^ 32)
  else d

theorem takePage_on {page : List Word64} {d : Dev} {n : Nat} (hon : d.ringOn n = true)
    (hw : ValidWord d n (page.getD n 0).toNat) (hspill : (d.ring n).spill = []) :
    d.takePage page n = d.doorbellTaken n (page.getD n 0).toNat := by
  rw [Dev.takePage, if_pos hon]
  exact takeWord_valid hw hspill

/-- Where one ring is on, the page moves the positions of that ring alone. -/
theorem takePages_one {page : List Word64} {d : Dev} {n : Nat} (hn : n < 64)
    (hone : ∀ m, m < 64 → (d.ringOn m = true ↔ m = n)) (hw : ValidWord d n (page.getD n 0).toNat)
    (hspill : (d.ring n).spill = []) :
    (List.range 64).foldl (Dev.takePage page) d = d.doorbellTaken n (page.getD n 0).toNat := by
  have htake : d.takePage page n = d.doorbellTaken n (page.getD n 0).toNat := takePage_on ((hone n hn).mpr rfl) hw hspill
  have hoff : ∀ m ∈ List.range 64, m ≠ n → ¬ d.ringOn m = true := fun m hm hmn hon =>
    hmn ((hone m (List.mem_range.mp hm)).mp hon)
  rw [foldl_once (List.mem_range.mpr hn) List.nodup_range (fun m hm hmn => if_neg (hoff m hm hmn)) ?_, htake]
  intro m hm hmn
  rw [htake]
  exact if_neg (hoff m hm hmn)

theorem pollGood_one {d : Dev} {n : Nat} {page : List Word64} (e : Env) (hn : n < 64)
    (hone : ∀ m, m < 64 → (d.ringOn m = true ↔ m = n)) (hidle : d.ringsIdle) (hstaged : d.staged = [])
    (hw : ValidWord d n (page.getD n 0).toNat) :
    d.pollGood page e = d.pageRead.doorbellTaken n (page.getD n 0).toNat := by
  have hback : d.pageRead.hostBack = d.pageRead := hostBack_idle hidle hstaged
  have hpage : d.pollGood page e =
      let x := (List.range 64).foldl (Dev.takePage page) d.pageRead.hostBack
      x.turnOrder.foldl (fun d n => d.pumpRing n e) x := rfl
  have htakes := takePages_one (d := d.pageRead) hn hone ⟨hw.sqForm, hw.sqRange, hw.cqForm, hw.cqRange⟩ (hidle n hn).2.1
  rw [hpage, hback, htakes]
  exact pumpRings_idle e (ringsIdle_doorbellTaken n _ hidle)

theorem any_ringOn {d : Dev} (h : ∃ n, n < 64 ∧ d.ringOn n = true) : (List.range 64).any (fun n => d.ringOn n) = true := by
  obtain ⟨n, hn, hon⟩ := h
  exact List.any_eq_true.mpr ⟨n, List.mem_range.mpr hn, hon⟩

/-- A poll that reads the page, with polling on and a ring enabled. -/
theorem exec_doorbellPoll_read {page : List Word64} (e : Env) {s : State} (hu : Up s)
    (hpolling : s.dev.bit HIF_DB_CTRL 31 = true) (hring : ∃ n, n < 64 ∧ s.dev.ringOn n = true)
    (hlink : s.dev.hif.linkUp = true) :
    exec (.doorbellPoll (some page) e) s = .next { s with dev := s.dev.polled.pollGood page e } := by
  show execDoorbellPoll (some page) e s = _
  unfold execDoorbellPoll
  rw [whenUp_up _ _ hu]
  simp only [hpolling, any_ringOn hring, hlink, Bool.not_true, Bool.or_self, Bool.false_eq_true, if_false]

/-- A poll whose read fails, or that finds the link down. -/
theorem exec_doorbellPoll_failed {page : Option (List Word64)} (e : Env) {s : State} (hu : Up s)
    (hpolling : s.dev.bit HIF_DB_CTRL 31 = true) (hring : ∃ n, n < 64 ∧ s.dev.ringOn n = true)
    (hfailed : page = none ∨ s.dev.hif.linkUp = false) :
    exec (.doorbellPoll page e) s = .next { s with dev :=
      (if s.dev.hif.linkUp then s.dev.polled.send (.aer true) else s.dev.polled).readFailed 1 0xFF } := by
  show execDoorbellPoll page e s = _
  unfold execDoorbellPoll
  rw [whenUp_up _ _ hu]
  simp only [hpolling, any_ringOn hring, Bool.not_true, Bool.or_self, Bool.false_eq_true, if_false]
  cases hlink : s.dev.hif.linkUp with
  | false => simp only [Bool.false_eq_true, if_false]
  | true =>
    obtain rfl : page = none := hfailed.resolve_right (by simp [hlink])
    simp only [if_true]

theorem exec_doorbellPoll_off {page : Option (List Word64)} (e : Env) {s : State}
    (hpolling : s.dev.bit HIF_DB_CTRL 31 = false) : exec (.doorbellPoll page e) s = .next s := by
  show execDoorbellPoll page e s = _
  exact whenUp_same (by simp only [hpolling, Bool.not_false, Bool.true_or, if_true])

/-- Settles O17: the SQ half by its two branches, a good poll by `pollGood_one`, and a failed one by
`exec_doorbellPoll_failed` (a poll with the link down has failed, without AER: log entry 17). -/
theorem doorbells : Obligations.Doorbells := by
  refine ⟨fun d n w hn => ⟨fun hform hrange => ?_, fun hform => ⟨takeSq_invalid hform, ?_⟩⟩,
    fun n page e s w hu hpolling hlink hone hquiet hlen hstaged hw hsqForm hsqRange hcqForm hcqRange => ?_,
    fun page e s hu hpolling hring hfailed => ?_, fun page e s _ hpolling => exec_doorbellPoll_off e hpolling⟩
  · rw [takeSq_valid hform hrange, ring_modRing_same _ _ hn]
    exact ⟨rfl, rfl, rfl⟩
  · rw [takeSq_invalid (by exact hform), if_pos]
    rw [ring_modRing_same _ _ hn]
  · subst hw
    have hexec : exec (.doorbellPoll (some page) e) s = .next { s with dev := s.dev.pageRead.doorbellTaken n (page.getD n 0).toNat } := by
      have hidle : s.dev.ringsIdle := fun m hm => by
        obtain ⟨hprefetch, hspill, hheld, -⟩ := hquiet m hm
        exact ⟨hprefetch, hspill, hheld⟩
      rw [exec_doorbellPoll_read e hu hpolling ⟨n, n.isLt, (hone n n.isLt).mpr rfl⟩ hlink,
        polled_idle hlen fun m hm => (hquiet m hm).2.2.2]
      exact congrArg (fun d => Host.Outcome.next { s with dev := d })
        (pollGood_one e n.isLt hone hidle hstaged ⟨hsqForm, hsqRange, hcqForm, hcqRange⟩)
    have hn : n.val < s.dev.rings.length := by rw [hlen]; exact n.isLt
    have hring : (s.dev.pageRead.doorbellTaken n (page.getD n 0).toNat).ring n = _ := ring_modRing_same _ _ hn
    refine ⟨_, hexec, ⟨rfl, rfl⟩, ?_, ?_, rfl, fun m hm => ring_modRing_other _ _ hm, rfl⟩
    · exact congrArg Ring.sqTail hring
    · exact congrArg Ring.cqHead hring
  · exact ⟨_, rfl, exec_doorbellPoll_failed e hu hpolling hring hfailed⟩

end Sys2Proof.Machine
end

section
/-! SUPPORT. Stream buffers, barriers that end, interrupts and the link, and O19 (R71, R82, R87, R96, R97, R100, R101,
R107). -/

namespace Sys2Proof.Machine

/-! ## Stream buffers (R96, R97) -/

/-- A descriptor of a STREAM ring that can start posts a buffer. -/
theorem exec_bufferDescriptor {r : Req} (e : Env) {s : State} (hu : Up s) (htake : s.dev.mayTake (asOp 0 r) = true)
    (hstream : s.dev.ringType r.ring = 3) :
    exec (.bufferDescriptor r e) s = .next { s with dev := s.dev.postBuffer (asOp 0 r) } := by
  show execBufferDescriptor r e s = _
  unfold execBufferDescriptor
  rw [whenUp_up _ _ hu]
  refine congrArg (fun d => Host.Outcome.next { s with dev := d }) ?_
  show (if (!s.dev.mayTake (asOp 0 r)) = true then s.dev
    else if s.dev.ringType r.ring ≠ 3 then _ else s.dev.postBuffer (asOp 0 r)) = _
  rw [htake, hstream]
  rfl

/-- Every check of a buffer fails as MALFORMED (R96). -/
theorem bufferCheck_malformed {q : Req} {st x : Nat} (h : bufferCheck q = some (st, x)) : st = stMalformed := by
  have hmem := mem_of_firstFail h
  simp only [List.mem_cons, Prod.mk.injEq, List.not_mem_nil, or_false] at hmem
  rcases hmem with ⟨-, hst, -⟩ | ⟨-, hst, -⟩ | ⟨-, hst, -⟩ <;> exact hst

theorem postBuffer_fails {d : Dev} {q : Req} {f : Failure} (h : bufferCheck q = some f) :
    d.postBuffer q = (d.launch q).fail q f.1 f.2 := by
  simp only [Dev.postBuffer, h]

theorem postBuffer_posts {d : Dev} {q : Req} (h : bufferCheck q = none) :
    d.postBuffer q = (((d.launch q).modRing q.ring (fun r => { r with
      bufs := r.bufs ++ [⟨q.idx, q.tag, reqIrq q, q.dataAddr, q.dataLen, 0, 0, 0⟩] })).fillRing q.ring).pumpStaging := by
  simp only [Dev.postBuffer, h]

theorem exec_streamFlushTimeout {n : Fin 64} {b : Buf} {bs : List Buf} {s : State} (ha : Awake s)
    (hbufs : (s.dev.ring n).bufs = b :: bs) (hrecs : b.recs ≠ 0) (hon : s.dev.ringOn n = true)
    (hflush : s.dev.fld (HIF_RING_STREAM n) 16 16 ≠ 0) :
    exec (.streamFlushTimeout n) s = .next { s with dev := s.dev.closeBuf n stOk } := by
  show execStreamFlushTimeout n s = _
  unfold execStreamFlushTimeout
  rw [on_awake _ _ ha]
  simp [hbufs, hrecs, hon, hflush]

/-! ## Stops at a barrier (R87) -/

/-- The stop of ring n ended. -/
def Dev.unstop (d : Dev) (n : Nat) : Dev := d.setBit (HIF_BARRIER_STOP (n / 32)) (n % 32) false

theorem barrierStop_unstop_same (d : Dev) (n : Nat) : (d.unstop n).barrierStop n = false :=
  bit_setBit_same d _ _ false (Nat.mod_lt _ (by omega))

theorem bit_setBit_apart (d : Dev) (off i j : Nat) (b : Bool) (hj : j < 32) (h : j ≠ i) :
    (d.setBit off i b).bit off j = d.bit off j := by
  show ((d.wr off ((d.rd off).putBit i b)).rd off).bit j = _
  rw [Dev.rd_wr_same, Word.putBit, Word.bit_put _ _ _ _ _ hj, if_neg (by omega), Dev.bit]

theorem barrierStop_unstop_other (d : Dev) {n m : Nat} (h : m ≠ n) : (d.unstop n).barrierStop m = d.barrierStop m := by
  have hlt : m % 32 < 32 := Nat.mod_lt _ (by omega)
  unfold Dev.barrierStop Dev.unstop
  by_cases hword : m / 32 = n / 32
  · rw [hword]
    exact bit_setBit_apart d _ _ _ false hlt (by omega)
  · rw [Dev.bit, rd_setBit_other, Dev.bit]
    unfold HIF_BARRIER_STOP
    omega

theorem exec_barrierAck {n : Fin 64} (e : Env) {s : State} (hu : Up s) (hstop : s.dev.barrierStop n = true) :
    exec (.barrierAck n e) s = .next { s with dev := (s.dev.unstop n).pumpRing n e } := by
  show execBarrierAck n e s = _
  unfold execBarrierAck
  rw [whenUp_up _ _ hu]
  simp only [hstop, if_true, Dev.unstop]

theorem exec_barrierAck_idle {n : Fin 64} (e : Env) {s : State} (hstop : s.dev.barrierStop n = false) :
    exec (.barrierAck n e) s = .next s := by
  show execBarrierAck n e s = _
  exact whenUp_same (by simp only [hstop, Bool.false_eq_true, if_false])

/-! ## A LAYER_OPEN that waits (R107) -/

theorem exec_layerOpenWaitRelease {n : Fin 64} (e : Env) {s : State} (hu : Up s) (hopen : s.dev.lay.opened.length < 2) :
    exec (.layerOpenWaitRelease n e) s = .next { s with dev := s.dev.pumpRing n e } := by
  show execLayerOpenWaitRelease n e s = _
  unfold execLayerOpenWaitRelease
  rw [whenUp_up _ _ hu]
  simp only [hopen, if_true]

theorem exec_layerOpenWaitRelease_idle {n : Fin 64} (e : Env) {s : State} (hopen : 2 ≤ s.dev.lay.opened.length) :
    exec (.layerOpenWaitRelease n e) s = .next s := by
  show execLayerOpenWaitRelease n e s = _
  exact whenUp_same (if_neg (by omega))

/-! ## Interrupts (R100, R101) -/

theorem msix_sent {d : Dev} {v : Nat} (h : d.hif.msixMask.getLsbD v = false) : d.msix v = d.send (.msix v) := by
  simp only [Dev.msix, h, Bool.false_eq_true, if_false]

theorem exec_coalesceTimeout {n : Fin 64} {s : State} (ha : Awake s) (hunsig : (s.dev.ring n).unsig ≠ 0)
    (htime : s.dev.fld (HIF_RING_OPT n) 24 8 ≠ 0)
    (hmask : s.dev.hif.msixMask.getLsbD (s.dev.fld (HIF_RING_OPT n) 8 8) = false) :
    exec (.coalesceTimeout n) s = .next { s with dev :=
      ((s.dev.modRing n (fun r => { r with unsig := 0 })).send (.msix (s.dev.fld (HIF_RING_OPT n) 8 8))) } := by
  show execCoalesceTimeout n s = _
  unfold execCoalesceTimeout
  rw [on_awake _ _ ha, if_pos ⟨hunsig, htime⟩, Dev.ringSignal, msix_sent]
  exact hmask

/-- A bit of a vector set cleared, and every other. -/
theorem getLsbD_cleared (x : BitVec 256) {v w : Nat} (hw : w < 256) :
    (x &&& ~~~((1 : BitVec 256) <<< v)).getLsbD w = (x.getLsbD w && decide (w ≠ v)) := by
  have hone : ((1 : BitVec 256) <<< v).getLsbD w = decide (w = v) := by
    rw [BitVec.getLsbD_shiftLeft, show (1 : BitVec 256) = 1#256 from rfl, BitVec.getLsbD_one]
    by_cases hlt : w < v
    · simp [hlt, Nat.ne_of_lt hlt]
    · simp [hw, hlt, show w - v = 0 ↔ w = v by omega]
  rw [BitVec.getLsbD_and, BitVec.getLsbD_not, hone]
  simp [hw]

/-- A vector unmasked, with nothing pending on it. -/
def Dev.unmasked (d : Dev) (v : Nat) : Dev := { d with hif := { d.hif with
  msixMask := d.hif.msixMask &&& ~~~((1 : BitVec 256) <<< v), msixPend := d.hif.msixPend &&& ~~~((1 : BitVec 256) <<< v) } }

theorem exec_msixUnmask {v : Fin 256} {s : State} (hu : Up s) :
    exec (.msixUnmask v) s = .next { s with dev :=
      (if s.dev.hif.msixPend.getLsbD v then (s.dev.unmasked v).send (.msix v) else s.dev.unmasked v) } := by
  show execMsixUnmask v s = _
  unfold execMsixUnmask
  rw [whenUp_up _ _ hu]
  rfl

/-! ## The link, and reads that time out (R71, R82) -/

theorem exec_pcieLinkDown {s : State} (hu : Up s) (hlink : s.dev.hif.linkUp = true) :
    exec .pcieLinkDown s = .next { s with dev :=
      ({ s.dev with hif := { s.dev.hif with linkUp := false, linkSpeed := 0, linkWidth := 0 } } : Dev).hostLost } := by
  show execPcieLinkDown s = _
  unfold execPcieLinkDown
  rw [whenUp_up _ _ hu]
  simp only [hlink, Bool.not_true, Bool.false_eq_true, if_false]

theorem fetches_send (d : Dev) (o : Output) (n : Nat) : (d.send o).fetches n = d.fetches n := rfl

theorem exec_hostReadTimeout_data {n : Fin 64} {idx : BitVec 16} {q : Req} {s : State} (hu : Up s)
    (hwaits : s.dev.hif.waitData.find? (fun q => q.ring == n.val && q.idx == idx.toNat) = some q) :
    exec (.hostReadTimeout (.data n idx)) s = .next { s with dev := ((({ s.dev.send (.aer true) with
      hif := { s.dev.hif with waitData := s.dev.hif.waitData.filter (fun x => x != q) } } : Dev).hifError 3 n).fail q
        stTimeout 0x0009) } := by
  show execHostReadTimeout (.data n idx) s = _
  unfold execHostReadTimeout
  rw [whenUp_up _ _ hu]
  simp only [Dev.send_hif, hwaits]

theorem exec_hostReadTimeout_desc {n : Fin 64} {s : State} (hu : Up s) (hturn : s.dev.fetches n = true) :
    exec (.hostReadTimeout (.desc n)) s = .next { s with dev := (s.dev.send (.aer true)).descFailed n } := by
  show execHostReadTimeout (.desc n) s = _
  unfold execHostReadTimeout
  rw [whenUp_up _ _ hu]
  simp only [fetches_send, hturn, if_true]

theorem exec_hostReadTimeout_doorbell {s : State} (hu : Up s) (hpolling : s.dev.bit HIF_DB_CTRL 31 = true)
    (hring : ∃ n, n < 64 ∧ s.dev.ringOn n = true) :
    exec (.hostReadTimeout .doorbell) s =
      .next { s with dev := (s.dev.send (.aer true)).polled.readFailed 1 0xFF } := by
  have hany : (List.range 64).any (fun n => (s.dev.send (.aer true)).ringOn n) = true := any_ringOn hring
  have hbit : (s.dev.send (.aer true)).bit HIF_DB_CTRL 31 = true := hpolling
  show execHostReadTimeout .doorbell s = _
  unfold execHostReadTimeout
  rw [whenUp_up _ _ hu]
  simp only [hbit, hany, Bool.not_true, Bool.or_self, Bool.false_eq_true, if_false]

theorem exec_hostReadTimeout_firmware {type : Nat} {s : State} (hu : Up s) (hload : s.dev.mode.fwLoad = some type) :
    exec (.hostReadTimeout .firmware) s = .next { s with dev :=
      (({ s.dev.send (.aer true) with mode := { s.dev.mode with fwLoad := none } } : Dev).fwStatus 4 stTimeout 0
        type) } := by
  show execHostReadTimeout .firmware s = _
  unfold execHostReadTimeout
  rw [whenUp_up _ _ hu]
  simp only [Dev.send_mode, hload]

/-- Settles O19, each clause by the rule of its command (what a released ring starts: log entry 16; HOST_LOST once: log
entry 17). -/
theorem streamsStopsAndInterrupts : Obligations.StreamsStopsAndInterrupts := by
  refine ⟨fun r e s hu htake hstream => ⟨fun hgood => ?_, fun st x hbad => ?_⟩,
    fun n b bs s ha hbufs hrecs hon hflush => exec_streamFlushTimeout ha hbufs hrecs hon hflush,
    fun n e s hu => ⟨fun hstop hempty => ?_, fun hstop => exec_barrierAck_idle e hstop,
      fun hopen idx b rest d hfetched hcan hd => ?_, fun hopen => exec_layerOpenWaitRelease_idle e hopen⟩,
    fun n s ha hunsig htime hmask hlen => ?_, fun v s hu => ?_, fun speed width s hu => ?_, fun s hu hlink => ?_,
    fun s hu hlink => ?_, fun n idx q s hu hwaits => ⟨_, rfl, exec_hostReadTimeout_data hu hwaits⟩,
    fun n s hu hturn => exec_hostReadTimeout_desc hu hturn,
    fun s hu hpolling hring => exec_hostReadTimeout_doorbell hu hpolling hring,
    fun type s hu hload => exec_hostReadTimeout_firmware hu hload⟩
  · refine ⟨_, rfl, ?_⟩
    rw [exec_bufferDescriptor e hu htake hstream, postBuffer_posts hgood]
    rfl
  · obtain rfl := bufferCheck_malformed hbad
    refine ⟨rfl, ?_⟩
    rw [exec_bufferDescriptor e hu htake hstream, postBuffer_fails hbad]
    rfl
  · have hexec : exec (.barrierAck n e) s = .next { s with dev := s.dev.unstop n } := by
      rw [exec_barrierAck e hu hstop, Dev.pumpRing, pump_empty]
      exact (congrArg Ring.prefetch (ring_setBit _ _ _ _ _)).trans hempty
    exact ⟨_, hexec, ⟨rfl, rfl⟩, barrierStop_unstop_same _ _, fun m _ hm => barrierStop_unstop_other _ hm, rfl⟩
  · rw [exec_layerOpenWaitRelease e hu hopen, Dev.pumpRing, pump_start e 15 hfetched rfl hcan, hd]
  · refine ⟨_, exec_coalesceTimeout ha hunsig htime hmask, ⟨rfl, rfl⟩, ?_, rfl, rfl⟩
    exact congrArg Ring.unsig (ring_modRing_same s.dev (fun r => { r with unsig := 0 }) (by rw [hlen]; exact n.isLt))
  · have hhif : ∀ b : Bool, (if b then (s.dev.unmasked v).send (.msix v) else s.dev.unmasked v).hif = (s.dev.unmasked v).hif := by
      intro b
      cases b <;> rfl
    refine ⟨_, exec_msixUnmask hu, ⟨rfl, rfl⟩, ?_, ?_, ?_, fun w hw hwv => ⟨?_, ?_⟩⟩
    · cases s.dev.hif.msixPend.getLsbD v <;> rfl
    all_goals
      dsimp only
      rw [hhif, Dev.unmasked, getLsbD_cleared _ (by omega)]
      simp [*]
  · show execPcieLinkUp speed width s = _
    exact whenUp_up _ _ hu
  · exact ⟨_, rfl, exec_pcieLinkDown hu hlink⟩
  · show execPcieLinkDown s = _
    exact whenUp_same (by simp only [hlink, Bool.not_false, if_true])

end Sys2Proof.Machine
end

section
/-! SUPPORT. What LAYER_OPEN and LAYER_START do, and O22: the opening, the start and the start wait of a layer (R77, R105 to
R111, R183). -/

namespace Sys2Proof.Machine

/-! ## Descriptors that wait at the head of their ring (R77, R107) -/

/-- A descriptor that must wait is not executed. -/
theorem command_waits (s : State) (op : Nat) (c : Cmd) {r : Req} (e : Env) (h : s.dev.needsWait (asOp op r) = true) :
    s.command op c r e = .next s := by
  have hstays : s.dev.mayTake (asOp op r) = false := by
    simp [Dev.mayTake, Dev.canStart, h]
  refine whenUp_same ?_
  show (if (!s.dev.mayTake (asOp op r)) = true then s.dev else _) = s.dev
  rw [hstays]
  rfl

theorem exec_layerOpen_waits {r : Req} (e : Env) {s : State} (htype : s.dev.ringType r.ring = 1)
    (hopen : 2 ≤ s.dev.lay.opened.length) : exec (.layerOpen r e) s = .next s := by
  show s.command 0x0201 cmdLayerOpen r e = _
  exact command_waits s _ _ e (by simp [Dev.needsWait, asOp, htype, hopen])

theorem exec_layerStart_waits {r : Req} (e : Env) {s : State} (htype : s.dev.ringType r.ring = 1)
    (hmode : s.dev.mode.cur ≠ .build) : exec (.layerStart r e) s = .next s := by
  show s.command 0x0202 cmdLayerStart r e = _
  exact command_waits s _ _ e (by simp [Dev.needsWait, asOp, htype, hmode])

/-! ## LAYER_OPEN (R105 to R109) -/

/-- The entry count of a layer: that of its re-entry where it is the layer that closed last (R108). -/
def Layers.entryOf (y : Layers) (num : Nat) : Nat :=
  match y.lastClosed with
  | some (n, e) => if n = num then e else 0
  | none => 0

/-- The layer a LAYER_OPEN opens, with its flow vector normalised. -/
def layerOf (q : Req) (flow : Int × Int) (entry : Nat) : Layer :=
  { num := q.a0.get 0 24, count := q.a1.get 0 16, ptab := q.a2.toNat, flowX := flow.1, flowY := flow.2,
    bargeWait := if q.a5 = 0 then 1000 else q.a5.get 0 16, entry := entry, barges := [],
    startReq := none, recoatWait := false, startWait := 0, startTick := none, started := false, emitVecs := [] }

/-- A number out of order fails, whatever the flow vector. -/
theorem layerOpen_effect_number (d : Dev) (q : Req) (e : Env) (hnum : d.numberBad (q.a0.get 0 24) = true) :
    cmdLayerOpen.effect q e d = d.fail q stLimit 0x0201 := by
  simp only [cmdLayerOpen, hnum, if_true]
  split <;> rfl

theorem layerOpen_effect_flow (d : Dev) (q : Req) (e : Env) (hnum : d.numberBad (q.a0.get 0 24) = false)
    (hflow : flowOf (signed 32 q.a3.toNat) (signed 32 q.a4.toNat) = none) :
    cmdLayerOpen.effect q e d = d.fail q stLimit 0x0203 := by
  simp only [cmdLayerOpen, hnum, hflow, Bool.false_eq_true, if_false]

theorem layerOpen_effect_table (d : Dev) (q : Req) (e : Env) {flow : Int × Int}
    (hnum : d.numberBad (q.a0.get 0 24) = false)
    (hflow : flowOf (signed 32 q.a3.toNat) (signed 32 q.a4.toNat) = some flow) (htable : d.table q.a2.toNat = none) :
    cmdLayerOpen.effect q e d = d.fail q stLimit 0x0204 := by
  simp only [cmdLayerOpen, hnum, hflow, htable, Bool.false_eq_true, if_false, Option.isNone_none, if_true]

theorem layerOpen_effect_opens (d : Dev) (q : Req) (e : Env) {flow : Int × Int}
    (hnum : d.numberBad (q.a0.get 0 24) = false)
    (hflow : flowOf (signed 32 q.a3.toNat) (signed 32 q.a4.toNat) = some flow)
    (htable : (d.table q.a2.toNat).isSome = true) :
    cmdLayerOpen.effect q e d =
      (d.modLay (fun y => { y with opened := y.opened ++ [layerOf q flow (d.lay.entryOf (q.a0.get 0 24))] })).ok q
        (unsigned 32 flow.1) (unsigned 32 flow.2) 0 0 := by
  obtain ⟨t, ht⟩ := Option.isSome_iff_exists.mp htable
  simp only [cmdLayerOpen, hnum, hflow, ht, Bool.false_eq_true, if_false, Option.isNone_some]
  rfl

theorem exec_layerOpen {r : Req} (e : Env) {s : State} (h : Takes s 0x0201 cmdLayerOpen r) :
    exec (.layerOpen r e) s =
      .next { s with dev := cmdLayerOpen.effect (asOp 0x0201 r) e (started s 0x0201 r) } := by
  show s.command 0x0201 cmdLayerOpen r e = _
  exact command_takes s _ _ r e h

/-! ## LAYER_START (R110, R183) -/

theorem exec_layerStart {r : Req} (e : Env) {s : State} (h : Takes s 0x0202 cmdLayerStart r) :
    exec (.layerStart r e) s =
      .next { s with dev := cmdLayerStart.effect (asOp 0x0202 r) e (started s 0x0202 r) } := by
  show s.command 0x0202 cmdLayerStart r e = _
  exact command_takes s _ _ r e h

/-- With no layer in exposure, the grids that wait are due. -/
theorem layerStart_effect (d : Dev) (q : Req) (e : Env) :
    cmdLayerStart.effect q e d =
      (if d.exposed = none then d.gridsDue else d).modLayer q.a0.toNat (fun l => { l with
        startReq := some q, recoatWait := q.a1.bit 0, startWait := if q.a2 = 0 then 60000 else q.a2.toNat }) := by
  simp only [cmdLayerStart, Option.isNone_iff_eq_none]

/-! ## The layer-start tick and the start wait (R110, R111) -/

/-- Outside BUILD no layer-start tick is fixed. -/
theorem checkStart_idle {d : Dev} (hmode : d.mode.cur ≠ .build) : d.checkStart = d := if_pos (Or.inl hmode)

/-- A tick that is fixed stays. -/
theorem checkStart_fixed {d : Dev} {l : Layer} {k : Nat} (hstarting : d.starting = some l) (htick : l.startTick = some k) :
    d.checkStart = d := by
  unfold Dev.checkStart
  rw [hstarting]
  simp [htick]

theorem exec_layerStartTick {s : State} {l : Layer} {k : Nat} (ha : Awake s) (hmode : s.dev.mode.cur = .build)
    (hholding : s.dev.holding = false) (hstarting : s.dev.starting = some l) (htick : l.startTick = some k) :
    exec .layerStartTick s = .next { s with dev := s.dev.layerBegin l k } := by
  show execLayerStartTick s = _
  unfold execLayerStartTick
  rw [on_awake _ _ ha]
  simp only [checkStart_fixed hstarting htick, hmode, hholding, hstarting, htick, ne_eq, not_true_eq_false,
    Bool.false_eq_true, or_self, if_false]

theorem exec_layerStartTick_idle {s : State} (ha : Awake s) (hmode : s.dev.mode.cur ≠ .build) :
    exec .layerStartTick s = .next s := by
  show execLayerStartTick s = _
  unfold execLayerStartTick
  rw [on_awake _ _ ha]
  simp only [checkStart_idle hmode, hmode, ne_eq, not_false_eq_true, true_or, if_true]

theorem exec_startWaitTimeout {s : State} {l : Layer} {q : Req} (ha : Awake s) (hmode : s.dev.mode.cur = .build)
    (hstarting : s.dev.starting = some l) (htick : l.startTick = none) (hreq : l.startReq = some q)
    (hmissing : (s.dev.recoatOk l && s.dev.thresholdOk l) = false) :
    exec .startWaitTimeout s = .next { s with dev :=
      ((s.dev.modLayer l.num (fun x => { x with startReq := none, startTick := none })).complete q stTimeout 0x0207
        (words4 (bitOf (!s.dev.recoatOk l) + 2 * bitOf (!s.dev.thresholdOk l)) 0 0 0)) } := by
  show execStartWaitTimeout s = _
  unfold execStartWaitTimeout
  rw [on_awake _ _ ha]
  simp only [hstarting, htick, hreq, hmode, hmissing, Option.isSome_none, Bool.false_eq_true, ne_eq, not_true_eq_false,
    or_self, if_false]

theorem exec_startWaitTimeout_idle {s : State} (ha : Awake s) (hstarting : s.dev.starting = none) :
    exec .startWaitTimeout s = .next s := by
  show execStartWaitTimeout s = _
  unfold execStartWaitTimeout
  rw [on_awake _ _ ha]
  simp only [hstarting]

/-- What LAYER_OPEN leaves where it opens its layer: that layer behind the one that is open, the table slots, and a replay
in progress. -/
theorem layerOpen_opens {r : Req} (e : Env) {s : State} {flow : Int × Int} (h : Takes s 0x0201 cmdLayerOpen r)
    (hnum : s.dev.numberBad (r.a0.get 0 24) = false)
    (hflow : flowOf (signed 32 r.a3.toNat) (signed 32 r.a4.toNat) = some flow)
    (htable : (s.dev.table r.a2.toNat).isSome = true) :
    ∃ d entry, exec (.layerOpen r e) s = .next { s with dev := d } ∧
      d.lay.opened = s.dev.lay.opened ++ [layerOf r flow entry] ∧ d.lay.slots = s.dev.lay.slots ∧
      d.replay = s.dev.replay := by
  have hexec := exec_layerOpen e h
  rw [layerOpen_effect_opens (started s 0x0201 r) (asOp 0x0201 r) e hnum hflow htable] at hexec
  obtain ⟨regs, rings, hif, out, hok⟩ := hostSide_ok _ (asOp 0x0201 r) (unsigned 32 flow.1) (unsigned 32 flow.2) 0 0
  rw [hok] at hexec
  exact ⟨_, _, hexec, rfl, rfl, rfl⟩

/-- Settles O22: LAYER_OPEN by the four ends of its effect, LAYER_START by its effect, the tick and the start wait by
their rules (the order of the checks: log entry 34). -/
theorem layersOpenAndStart : Obligations.LayersOpenAndStart := by
  refine ⟨fun r e s d q h hd hq => ⟨fun fx fy hflow hnum htable => ?_, fun hnum => ?_, fun hflow hnum => ?_,
      fun hflow hnum htable => ?_⟩,
    fun r e s htype hopen => exec_layerOpen_waits e htype hopen, fun r e s h => ?_,
    fun r e s hmode htype => exec_layerStart_waits e htype hmode,
    fun s l k ha hmode hholding hstarting htick => exec_layerStartTick ha hmode hholding hstarting htick,
    fun s ha hmode => exec_layerStartTick_idle ha hmode,
    fun s l q ha hmode hstarting htick hreq hmissing =>
      ⟨_, rfl, exec_startWaitTimeout ha hmode hstarting htick hreq hmissing⟩,
    fun s ha hstarting => exec_startWaitTimeout_idle ha hstarting⟩
  · obtain ⟨d', entry, hexec, hopened, hslots, hreplay⟩ := layerOpen_opens e h hnum hflow htable
    refine ⟨_, layerOf r (fx, fy) entry, hexec, ⟨rfl, rfl⟩, hopened, rfl, rfl, rfl, rfl, rfl, rfl,
      rfl, rfl, fun hnone => ?_, hslots⟩
    show (match d'.replay with | some r => r.opened | none => d'.lay.opened).any (fun l => l.ptab == r.a2.toNat) = true
    rw [hreplay, hnone]
    simp [hopened, layerOf]
  · subst hd hq
    rw [exec_layerOpen e h, layerOpen_effect_number (started s 0x0201 r) (asOp 0x0201 r) e hnum]
  · subst hd hq
    rw [exec_layerOpen e h, layerOpen_effect_flow (started s 0x0201 r) (asOp 0x0201 r) e hnum hflow]
  · subst hd hq
    obtain ⟨flow, hflow⟩ := Option.isSome_iff_exists.mp hflow
    rw [exec_layerOpen e h, layerOpen_effect_table (started s 0x0201 r) (asOp 0x0201 r) e hnum hflow htable]
  · refine ⟨_, rfl, ?_⟩
    rw [exec_layerStart e h, layerStart_effect]
    rfl

end Sys2Proof.Machine
end

section
/-! SUPPORT. What the final stage writes into a tick entry and where the correction law's answer lies, and O29: corrected
power stays under its ceiling and the law within its limits (R133, R157, R158, R163, R278). -/

namespace Sys2Proof.Machine

/-! ## The entry of the final stage (R133, R157 to R160, R163) -/

/-- The ceiling holds the set's weir, the beam's LAS_CEIL, and in CALIBRATE the engine's BE_CAL_CEIL (R133, R157). -/
theorem ceiling_le (d : Dev) (n b weir : Nat) :
    d.ceiling n b weir ≤ weir ∧ d.ceiling n b weir ≤ d.fld (LAS_CEIL b) 0 24 ∧
      (d.mode.cur = .calibrate → d.ceiling n b weir ≤ d.fld (BE_CAL_CEIL n) 0 24) := by
  have hweir : Nat.min weir (d.fld (LAS_CEIL b) 0 24) ≤ weir := Nat.min_le_left _ _
  have hlas : Nat.min weir (d.fld (LAS_CEIL b) 0 24) ≤ d.fld (LAS_CEIL b) 0 24 := Nat.min_le_right _ _
  unfold Dev.ceiling
  dsimp only
  split
  · exact ⟨(Nat.min_le_left _ _).trans hweir, (Nat.min_le_left _ _).trans hlas, fun _ => Nat.min_le_right _ _⟩
  next hmode => exact ⟨hweir, hlas, fun hcal => absurd hcal hmode⟩

/-- The power of an entry: the corrected power, cut at the ceiling (R157, R158). -/
def Dev.finalPower (d : Dev) (n b : Nat) (x : TickEntry) : Nat :=
  Nat.min ((x.plan * (32768 + (d.law n).fb).toNat) / 2 ^ 15) (d.ceiling n b x.weir)

/-- The entry the final stage leaves of `x`: dark where the two datapaths differ, else with its power and its code. -/
def Dev.finalEntry (d : Dev) (n b : Nat) (x : TickEntry) (mismatch : Bool) : TickEntry :=
  if mismatch then { x with code := some 0, power := 0, modHigh := false, rise := none, fall := none, mods := [] }
  else { x with
    code := some (if x.highs.isEmpty then 0 else d.powerCode n (d.finalPower n b x)), power := d.finalPower n b x }

/-- A change of an engine's entries shows in its queue; an engine that is not there has none. -/
theorem tickQ_modEng_map (d : Dev) (n : Nat) {f : Engine → Engine} (g : TickEntry → TickEntry)
    (hf : ∀ e, (f e).tickQ = e.tickQ.map g) : ((d.modEng n f).eng n).tickQ = (d.eng n).tickQ.map g := by
  by_cases hn : n < d.engines.length
  · rw [eng_modEng_same d n f hn, hf]
  · have hnone (d' : Dev) (hlen : d'.engines.length = d.engines.length) : (d'.eng n).tickQ = [] :=
      congrArg Engine.tickQ (List.getD_eq_default _ _ (by omega))
    rw [hnone _ (engines_length_modEng d n f), hnone d rfl, List.map_nil]

theorem tickQ_modLaw (d : Dev) (n : Nat) (f : Law → Law) : ((d.modLaw n f).eng n).tickQ = (d.eng n).tickQ :=
  (tickQ_modEng_map d n (f := fun e => { e with law := f e.law }) id (fun e => (List.map_id e.tickQ).symm)).trans
    (List.map_id _)

/-- A count leaves every engine alone. -/
theorem eng_count_if (d : Dev) (c : Prop) [Decidable c] (off k n : Nat) :
    (if c then d.count off k else d).eng n = d.eng n := by
  split <;> rfl

/-- The final stage puts the entry in the place of each one of its tick; a mismatch is then reported. -/
theorem finalStage_entry (d : Dev) (n b : Nat) (x : TickEntry) (mismatch : Bool) :
    ∃ d' : Dev, d.finalStage n b x mismatch = (if mismatch then d'.fault (n + 2) 2 else d') ∧
      (d'.eng n).tickQ =
        (d.eng n).tickQ.map (fun z => if z.tick = x.tick then d.finalEntry n b x mismatch else z) := by
  have hqueue := tickQ_modEng_map d n (fun z => if z.tick = x.tick then d.finalEntry n b x mismatch else z)
    (f := fun e => { e with
      tickQ := e.tickQ.map (fun z => if z.tick = x.tick then d.finalEntry n b x mismatch else z) }) (fun e => rfl)
  exact ⟨_, rfl, (congrArg Engine.tickQ (eng_count_if _ _ _ _ n)).trans ((tickQ_modLaw _ n _).trans hqueue)⟩

/-- Where entries of a tick have been replaced, the new one stands alone for it. -/
theorem eq_of_mem_replaced {q : List TickEntry} {t : Nat} {e y : TickEntry}
    (hy : y ∈ q.map (fun z => if z.tick = t then e else z)) (htick : y.tick = t) : y = e := by
  obtain ⟨z, -, rfl⟩ := List.mem_map.mp hy
  split at htick
  next hz => exact if_pos hz
  next hz => exact absurd htick hz

/-! ## The correction law (R278) -/

theorem clampInt_within {lo hi : Int} (v : Int) (h : lo ≤ hi) : lo ≤ clampInt lo hi v ∧ clampInt lo hi v ≤ hi := by
  unfold clampInt
  split_ifs <;> omega

theorem fbTick_fb (l : Law) (p : LawSet) (k : LawTick) : ∃ v, (l.fbTick p k).fb = clampInt p.fbMin p.fbMax v := ⟨_, rfl⟩

/-- An integrator stands still against a limit (R278), or it is clamped to the set's limits. -/
theorem fbTick_ipd (l : Law) (p : LawSet) (k : LawTick) :
    (l.fbTick p k).ipd = l.ipd ∨ ∃ v, (l.fbTick p k).ipd = clampInt (p.fbMin * 2 ^ 8) (p.fbMax * 2 ^ 8) v :=
  (ite_eq_or_eq _ _ _).imp_right fun hclamp => ⟨_, hclamp⟩

theorem fbTick_icam (l : Law) (p : LawSet) (k : LawTick) :
    (l.fbTick p k).icam = l.icam ∨ ∃ v, (l.fbTick p k).icam = clampInt (p.fbMin * 2 ^ 8) (p.fbMax * 2 ^ 8) v :=
  (ite_eq_or_eq _ _ _).imp_right fun hclamp => ⟨_, hclamp⟩

/-- What stays, or is clamped, stays within the limits. -/
theorem within_of_kept_or_clamped {lo hi i i' : Int} (h : lo ≤ hi) (hi' : i' = i ∨ ∃ v, i' = clampInt lo hi v)
    (hlo : lo ≤ i) (hhi : i ≤ hi) : lo ≤ i' ∧ i' ≤ hi := by
  rcases hi' with rfl | ⟨v, rfl⟩
  · exact ⟨hlo, hhi⟩
  · exact clampInt_within v h

/-- Settles O29: the final stage by the entry it writes, the law by its clamps. -/
theorem powerAndCorrectionStayWithin : Obligations.PowerAndCorrectionStayWithin := by
  refine ⟨fun d n b x mismatch _ => ⟨?_, ?_⟩, fun l p k hlim => ?_⟩
  · rintro rfl y hy htick
    obtain ⟨d', hstage, hqueue⟩ := finalStage_entry d n b x false
    obtain ⟨hweir, hlas, hcal⟩ := ceiling_le d n b x.weir
    have hpower : d.finalPower n b x ≤ d.ceiling n b x.weir := Nat.min_le_right _ _
    rw [hstage, if_neg Bool.false_ne_true, hqueue] at hy
    obtain rfl := eq_of_mem_replaced hy htick
    exact ⟨rfl, hpower.trans hlas, hpower.trans hweir, fun hmode => hpower.trans (hcal hmode)⟩
  · rintro rfl
    obtain ⟨d', hstage, hqueue⟩ := finalStage_entry d n b x true
    refine ⟨d', hstage, fun y hy htick => ?_⟩
    rw [hqueue] at hy
    obtain rfl := eq_of_mem_replaced hy htick
    exact ⟨rfl, rfl, rfl, rfl, rfl⟩
  · obtain ⟨v, hfb⟩ := fbTick_fb l p k
    obtain ⟨hlo, hhi⟩ := clampInt_within v hlim
    have hscaled : p.fbMin * 2 ^ 8 ≤ p.fbMax * 2 ^ 8 := by omega
    rw [hfb]
    exact ⟨hlo, hhi, within_of_kept_or_clamped hscaled (fbTick_ipd l p k),
      within_of_kept_or_clamped hscaled (fbTick_icam l p k)⟩

end Sys2Proof.Machine
end

section
/-! SUPPORT. What a barge check that passes says of the records it answers, and O24: a barge is accepted whole or not at
all (R20, R104, R126, R127). -/

namespace Sys2Proof.Machine

/-! ## The records of a barge that passes its checks (R104, R117, R126) -/

theorem recsOf_length (b : List Byte) (defElig n i : Nat) (sx sy : Int) : (recsOf b defElig n i sx sy).length = n := by
  induction n generalizing i sx sy with
  | zero => rfl
  | succ n ih => exact congrArg Nat.succ (ih _ _ _)

/-- A barge that passes gives one record for each it announces, and no check finds any of them bad. -/
theorem bargeCheck_passes {d : Dev} {b : List Byte} {cal : Bool} {rs : List Rec} (h : d.bargeCheck b cal = .ok rs) :
    rs.length = bytesAt b 20 4 ∧ ∃ sets, ∀ i < rs.length, d.recBad b sets rs i cal = none := by
  unfold Dev.bargeCheck at h
  dsimp only at h
  -- a check that fails answers an error: two ways through are left, one with `cal` and one for a layer
  split_ifs at h
  all_goals
    split at h
    · cases h
    next hnone =>
      obtain rfl := Except.ok.inj h
      have hlen := recsOf_length b (bytesAt b 24 2) (bytesAt b 20 4) 0 0 0
      rw [List.find?_eq_none] at hnone
      exact ⟨hlen, _, fun i hi => Option.not_isSome_iff_eq_none.mp (hnone i (List.mem_range.mpr (hlen ▸ hi)))⟩

/-- A record with no check failed ends inside the bed (R104). -/
theorem recBad_none_inside {d : Dev} {b : List Byte} {sets : List (List Byte)} {rs : List Rec} {i : Nat} {cal : Bool}
    (h : d.recBad b sets rs i cal = none) :
    (rs.getD i default).x.natAbs ≤ 2144000 ∧ (rs.getD i default).y.natAbs ≤ 2144000 := by
  by_contra hout
  have hbad : 2144000 < (rs.getD i default).x.natAbs ∨ 2144000 < (rs.getD i default).y.natAbs := by omega
  unfold Dev.recBad at h
  simp only [if_pos hbad] at h
  split at h <;> cases h

theorem bargeCheck_inside {d : Dev} {b : List Byte} {cal : Bool} {rs : List Rec} (h : d.bargeCheck b cal = .ok rs) :
    ∀ r ∈ rs, -2144000 ≤ r.x ∧ r.x ≤ 2144000 ∧ -2144000 ≤ r.y ∧ r.y ≤ 2144000 := by
  obtain ⟨-, sets, hgood⟩ := bargeCheck_passes h
  intro r hr
  obtain ⟨i, hi, rfl⟩ := List.mem_iff_getElem.mp hr
  obtain ⟨hx, hy⟩ := recBad_none_inside (hgood i hi)
  rw [List.getD_eq_getElem _ _ hi] at hx hy
  omega

/-! ## BARGE (R20, R127) -/

theorem exec_barge_room {r : Req} {e : Env} {s : State} (h : TakesData s 0x0301 cmdBarge r e)
    (hroom : s.dev.basinRoom r.dataLen = true) :
    exec (.barge r e) s = .next { s with dev := (started s 0x0301 r).acceptBarge (asOp 0x0301 r) (dataOf r e) } := by
  refine (command_takesData s 0x0301 cmdBarge r e h).trans ?_
  have hroom' : (started s 0x0301 r).basinRoom (asOp 0x0301 r).dataLen = true := hroom
  simp only [cmdBarge, hroom', if_true]

theorem exec_barge_waits {r : Req} {e : Env} {s : State} (h : TakesData s 0x0301 cmdBarge r e)
    (hfull : s.dev.basinRoom r.dataLen = false) :
    exec (.barge r e) s = .next { s with dev :=
      ((started s 0x0301 r).modLay (fun y => { y with basinWait := y.basinWait ++ [asOp 0x0301 r] })) } := by
  refine (command_takesData s 0x0301 cmdBarge r e h).trans ?_
  have hfull' : (started s 0x0301 r).basinRoom (asOp 0x0301 r).dataLen = false := hfull
  simp only [cmdBarge, hfull', Bool.false_eq_true, if_false]

/-- The checks of a barge see nothing of the rings. -/
theorem bargeCheck_started (s : State) (op : Nat) (r : Req) (b : List Byte) (cal : Bool) :
    (started s op r).bargeCheck b cal = s.dev.bargeCheck b cal := rfl

theorem acceptBarge_fails {d : Dev} {q : Req} {b : List Byte} {st x r0 : Nat}
    (h : d.bargeCheck b false = .error (st, x, r0)) : d.acceptBarge q b = d.complete q st x (words4 r0 0 0 0) := by
  unfold Dev.acceptBarge
  rw [h]

theorem acceptBarge_passes {d : Dev} {q : Req} {b : List Byte} {rs : List Rec} (h : d.bargeCheck b false = .ok rs) :
    d.acceptBarge q b = d.modLayer (bytesAt b 8 4) (fun l => { l with barges := l.barges ++
      [⟨q, bytesAt b 12 4, b.length, rs.map (fun r => newRec r d.tb3), sha384 b, false, none, none⟩] }) := by
  unfold Dev.acceptBarge
  rw [h]

theorem Recorded.lay_eq {a b : Dev} (h : Recorded a b) : b.lay = a.lay := by
  obtain ⟨_, _, _, _, _, _, _, _, rfl⟩ := h
  rfl

theorem complete_lay (d : Dev) (q : Req) (st x : Nat) (b : List Byte) : (d.complete q st x b).lay = d.lay :=
  (recorded_complete d q st x b).lay_eq

/-- Settles O24: BARGE by the two ends of its check, and what a check that passes says of the records. -/
theorem bargesAreAcceptedWhole : Obligations.BargesAreAcceptedWhole := by
  refine ⟨fun r e s h => ⟨fun hroom => ⟨fun rs hpass => ?_, fun st x r0 hfail => ?_⟩, fun hfull => ?_⟩,
    fun d b cal rs hpass => ⟨(bargeCheck_passes hpass).1, bargeCheck_inside hpass⟩⟩
  · rw [← bargeCheck_started s 0x0301 r] at hpass
    exact ⟨_, exec_barge_room h hroom, ⟨rfl, rfl⟩, acceptBarge_passes hpass⟩
  · rw [← bargeCheck_started s 0x0301 r] at hfail
    have hcomplete := acceptBarge_fails (q := asOp 0x0301 r) hfail
    exact ⟨_, exec_barge_room h hroom, ⟨rfl, rfl⟩, (congrArg Dev.lay hcomplete).trans (complete_lay _ _ _ _ _), hcomplete⟩
  · exact ⟨_, exec_barge_waits h hfull, ⟨rfl, rfl⟩, rfl⟩

end Sys2Proof.Machine
end

section
/-! SUPPORT. What a layer that closes leaves of the open layers, and O23: the end of a layer, the wait for barges,
LAYER_DISCARD and LAYER_QUERY (R112 to R115, R183; log entry 41). -/

namespace Sys2Proof.Machine

/-! ## A layer shut (R112, R504) -/

/-- A further step that leaves the layers alone, taken or not. -/
theorem lay_step (c : Prop) [Decidable c] {x y : Dev} (h : x.lay = y.lay) : (if c then x else y).lay = y.lay := by
  split
  · exact h
  · rfl

theorem closeWoram_lay (d : Dev) (l : Layer) (flags : Nat) : (d.closeWoram l flags).lay = d.lay := by
  unfold Dev.closeWoram
  split <;> rfl

/-- The layer leaves the open ones, and no other step of the close touches them. -/
theorem shutLayer_opened (d : Dev) (num flags : Nat) :
    (d.shutLayer num flags).lay.opened = d.lay.opened.filter (fun x => x.num != num) := by
  unfold Dev.shutLayer
  split
  next hnone =>
    refine (List.filter_eq_self.mpr fun x hx => ?_).symm
    simpa using List.find?_eq_none.mp hnone x hx
  next l _ =>
    have hrecord : (if l.started then
        (d.emit 1 0x22 (leBytes 4 num ++ leBytes 4 l.tally.1 ++ leBytes 4 l.tally.2)).closeWoram l flags else d).lay = d.lay :=
      lay_step _ ((closeWoram_lay _ l flags).trans (recorded_emit d _ _ _).lay_eq)
    dsimp only
    rw [lay_step, lay_step]
    · exact congrArg (fun y : Layers => y.opened.filter (fun x => x.num != num)) hrecord
    · exact (recorded_startFlush _).lay_eq
    · rfl

theorem layer?_shutLayer (d : Dev) (num flags : Nat) : (d.shutLayer num flags).layer? num = none := by
  unfold Dev.layer?
  rw [shutLayer_opened, List.find?_eq_none]
  intro x hx
  simpa using (List.mem_filter.mp hx).2

/-! ## LAYER_START completes (R112, R113) -/

theorem tellClosed_request {d : Dev} {l : Layer} {q : Req} (how : Option CloseHow) (hreq : l.startReq = some q) :
    d.tellClosed l how = d.complete q (how.getD (l.status, 0, 0)).1 (how.getD (l.status, 0, 0)).2.1
      (words4 l.tally.1 l.tally.2 (how.getD (l.status, 0, 0)).2.2 0) := by
  unfold Dev.tellClosed
  rw [hreq]

theorem tellClosed_lay (d : Dev) (l : Layer) (how : Option CloseHow) : (d.tellClosed l how).lay = d.lay := by
  cases hreq : l.startReq with
  | none =>
    unfold Dev.tellClosed
    rw [hreq]
  | some q => rw [tellClosed_request how hreq, complete_lay]

/-- A layer that has closed is open no more. -/
theorem layer?_closeLayer (d : Dev) (num : Nat) (how : Option CloseHow) (flags : Nat) :
    (d.closeLayer num how flags).layer? num = none := by
  unfold Dev.closeLayer
  split
  next hnone => exact hnone
  next l _ =>
    unfold Dev.layer?
    rw [tellClosed_lay]
    exact layer?_shutLayer d num flags

/-! ## The layer end and the barge wait (R112, R113) -/

theorem doneLayer_done {d : Dev} {l : Layer} (h : d.doneLayer = some l) :
    l.barges.all (fun b => b.done.isSome) = true ∧ l.count ≤ l.barges.length := by
  have hl := List.find?_some h
  simp only [Bool.and_eq_true, decide_eq_true_eq] at hl
  obtain ⟨⟨-, hall⟩, hcount⟩ := hl
  exact ⟨hall, hcount⟩

theorem shortLayer_short {d : Dev} {l : Layer} (h : d.shortLayer = some l) :
    l.startReq.isSome = true ∧ l.barges.length < l.count := by
  have hl := List.find?_some h
  simp only [Bool.and_eq_true, decide_eq_true_eq] at hl
  obtain ⟨⟨hreq, -⟩, hcount⟩ := hl
  exact ⟨hreq, hcount⟩

theorem exec_layerEnd {s : State} {l : Layer} (ha : Awake s) (hdone : s.dev.doneLayer = some l) :
    exec .layerEnd s = .next { s with dev := ((s.dev.endLayer l none 0).autoRecoat).checkStart } := by
  show execLayerEnd s = _
  unfold execLayerEnd
  rw [on_awake _ _ ha]
  simp only [hdone]

theorem exec_layerEnd_idle {s : State} (ha : Awake s) (hdone : s.dev.doneLayer = none) : exec .layerEnd s = .next s := by
  show execLayerEnd s = _
  unfold execLayerEnd
  rw [on_awake _ _ ha]
  simp only [hdone]

/-- No automatic recoat follows a layer that lacks barges (log entry 41). -/
theorem exec_bargeWaitTimeout {s : State} {l : Layer} (ha : Awake s) (hshort : s.dev.shortLayer = some l) :
    exec .bargeWaitTimeout s = .next { s with dev :=
      ((s.dev.endLayer l (some (stTimeout, 0x0206, l.count - l.barges.length)) 8).checkStart) } := by
  show execBargeWaitTimeout s = _
  unfold execBargeWaitTimeout
  rw [on_awake _ _ ha]
  simp only [hshort]

theorem exec_bargeWaitTimeout_idle {s : State} (ha : Awake s) (hshort : s.dev.shortLayer = none) :
    exec .bargeWaitTimeout s = .next s := by
  show execBargeWaitTimeout s = _
  unfold execBargeWaitTimeout
  rw [on_awake _ _ ha]
  simp only [hshort]

/-! ## LAYER_DISCARD and LAYER_QUERY (R115) -/

theorem exec_layerDiscard {r : Req} (e : Env) {s : State} (h : Takes s 0x0203 cmdLayerDiscard r) :
    exec (.layerDiscard r e) s =
      .next { s with dev := cmdLayerDiscard.effect (asOp 0x0203 r) e (started s 0x0203 r) } := by
  show s.command 0x0203 cmdLayerDiscard r e = _
  exact command_takes s _ _ r e h

theorem layerDiscard_effect_unknown {d : Dev} {q : Req} (e : Env) (hlayer : d.layer? q.a0.toNat = none) :
    cmdLayerDiscard.effect q e d = d.fail q stMalformed 0x0202 := by
  simp only [cmdLayerDiscard, hlayer]

theorem layerDiscard_effect_started {d : Dev} {q : Req} {l : Layer} (e : Env) (hlayer : d.layer? q.a0.toNat = some l)
    (hreq : l.startReq.isSome = true) : cmdLayerDiscard.effect q e d = d.fail q stReject 0x0205 := by
  simp only [cmdLayerDiscard, hlayer, hreq, if_true]

theorem layerDiscard_effect_open {d : Dev} {q : Req} {l : Layer} (e : Env) (hlayer : d.layer? q.a0.toNat = some l)
    (hreq : l.startReq = none) :
    cmdLayerDiscard.effect q e d =
      (((d.purgeLayer q.a0.toNat).abortRest q.a0.toNat).closeLayer q.a0.toNat none 0).ok q 0 0 0 0 := by
  simp only [cmdLayerDiscard, hlayer, hreq, Option.isSome_none, Bool.false_eq_true, if_false]

theorem exec_layerQuery {r : Req} (e : Env) {s : State} (h : Takes s 0x0280 cmdLayerQuery r) :
    exec (.layerQuery r e) s =
      .next { s with dev := cmdLayerQuery.effect (asOp 0x0280 r) e (started s 0x0280 r) } := by
  show s.command 0x0280 cmdLayerQuery r e = _
  exact command_takes s _ _ r e h

theorem layerQuery_effect_unknown {d : Dev} {q : Req} (e : Env) (hlayer : d.layer? q.a0.toNat = none) :
    cmdLayerQuery.effect q e d = d.ok q 0 0 0 0 := by
  simp only [cmdLayerQuery, hlayer]

theorem layerQuery_effect_open {d : Dev} {q : Req} {l : Layer} (e : Env) (hlayer : d.layer? q.a0.toNat = some l) :
    cmdLayerQuery.effect q e d = d.ok q ((if l.startReq.isSome then 2 else 1) + l.barges.length * 65536) l.count
      ((l.barges.flatMap (fun b => b.recs)).filter VRec.full).length 0 := by
  simp only [cmdLayerQuery, hlayer]

/-- A descriptor that starts leaves the open layers alone. -/
theorem layer?_started (s : State) (op : Nat) (r : Req) (num : Nat) : (started s op r).layer? num = s.dev.layer? num := rfl

/-- Settles O23: the close by what it leaves of the open layers, the layer end and the barge wait by their rules (no
automatic recoat follows the barge wait: log entry 41), LAYER_DISCARD and LAYER_QUERY by the ends of their effects. -/
theorem layersClose : Obligations.LayersClose := by
  refine ⟨fun d num flags how => layer?_closeLayer d num how flags, fun d l how flags => rfl,
    fun d l q hreq => ⟨tellClosed_request none hreq, tellClosed_request (some _) hreq⟩,
    fun s l ha hdone => ?_, fun s ha hdone => exec_layerEnd_idle ha hdone, fun s l ha hshort => ?_,
    fun s ha hshort => exec_bargeWaitTimeout_idle ha hshort,
    fun r e s l d h hlayer hd => ⟨fun hreq => ?_, fun hreq => ?_⟩, fun r e s h hlayer => ?_,
    fun r e s h => ⟨fun l hlayer => ?_, fun hlayer => ?_⟩⟩
  · obtain ⟨hall, hcount⟩ := doneLayer_done hdone
    exact ⟨hall, hcount, exec_layerEnd ha hdone⟩
  · obtain ⟨hreq, hcount⟩ := shortLayer_short hshort
    exact ⟨hreq, hcount, exec_bargeWaitTimeout ha hshort⟩
  · subst hd
    rw [← layer?_started s 0x0203 r] at hlayer
    rw [exec_layerDiscard e h, layerDiscard_effect_open (q := asOp 0x0203 r) e hlayer hreq]
    rfl
  · subst hd
    rw [← layer?_started s 0x0203 r] at hlayer
    rw [exec_layerDiscard e h, layerDiscard_effect_started (q := asOp 0x0203 r) e hlayer hreq]
  · rw [← layer?_started s 0x0203 r] at hlayer
    rw [exec_layerDiscard e h, layerDiscard_effect_unknown (q := asOp 0x0203 r) e hlayer]
  · rw [← layer?_started s 0x0280 r] at hlayer
    rw [exec_layerQuery e h, layerQuery_effect_open (q := asOp 0x0280 r) e hlayer]
  · rw [← layer?_started s 0x0280 r] at hlayer
    rw [exec_layerQuery e h, layerQuery_effect_unknown (q := asOp 0x0280 r) e hlayer]

end Sys2Proof.Machine
end

section
/-! SUPPORT. Registers set together to one word, and O27: a ramp table entry common to every present engine (R170). -/

namespace Sys2Proof.Machine

/-! ## Registers set together -/

/-- The registers of a list set to one word. -/
def Dev.wrEach (d : Dev) (l : List Nat) (w : Word) : Dev := l.foldl (fun d o => d.wr o w) d

theorem Dev.rd_wrEach (d : Dev) (l : List Nat) (w : Word) (o : Nat) :
    (d.wrEach l w).rd o = if o ∈ l then w else d.rd o := by
  induction l generalizing d with
  | nil => rfl
  | cons a l ih =>
    show ((d.wr a w).wrEach l w).rd o = _
    rw [ih, Dev.rd_wr]
    by_cases hl : o ∈ l <;> by_cases ha : o = a <;> simp [ha, hl]

/-- Setting registers changes nothing but the register bank. -/
theorem Dev.wrEach_eq (d : Dev) (l : List Nat) (w : Word) : d.wrEach l w = { d with regs := (d.wrEach l w).regs } :=
  foldl_keeps (fun a b : Dev => b = { a with regs := b.regs }) (fun _ => rfl)
    (fun _ _ _ hab hbc => by rw [hbc, hab]) _ (fun _ _ => rfl) l d

/-! ## The ramp tables (R170) -/

/-- Entry `i` of ramp table `k` in every present engine. -/
def Dev.rampEntries (d : Dev) (k i : Nat) : List Nat := (List.range (nEngines d.variant)).map (fun m => BE_RAMP m k i)

theorem mem_rampEntries {d : Dev} {k i off : Nat} :
    off ∈ d.rampEntries k i ↔ ∃ m, m < nEngines d.variant ∧ BE_RAMP m k i = off := by
  simp only [Dev.rampEntries, List.mem_map, List.mem_range]

/-- In CONFIGURE a write through any engine the host reaches sets the entry in all of them, at most 0x8000. -/
theorem exec_rampTableWrite_configure {n : Fin 18} {k : Fin 32} {i : Fin 33} {val : Word} {s : State} (hu : Up s)
    (hm : s.dev.mode.cur = .configure) (hb : s.dev.engBlock n = true) :
    exec (.rampTableWrite n k i val) s = .next { s with dev :=
      (s.dev.wrEach (s.dev.rampEntries k i) (BitVec.ofNat 32 (Nat.min 0x8000 (val.get 0 16)))) } := by
  show execRampTableWrite n k i val s = _
  unfold execRampTableWrite
  rw [whenUp_up _ _ hu]
  simp only [hb, hm, Bool.not_true, Bool.false_eq_true, if_false, ne_eq, not_true_eq_false, Dev.wrEach,
    Dev.rampEntries, List.foldl_map]
  rfl

/-- The block of an absent or fenced engine takes no ramp table entry (R9, R481). -/
theorem exec_rampTableWrite_unreached {n : Fin 18} (k : Fin 32) (i : Fin 33) (val : Word) {s : State}
    (hb : s.dev.engBlock n = false) : exec (.rampTableWrite n k i val) s = .next s := by
  show execRampTableWrite n k i val s = _
  exact whenUp_same (by simp [hb])

/-- Elsewhere than in CONFIGURE a write that differs is refused, and one that does not changes nothing (R47). -/
theorem exec_rampTableWrite_elsewhere {n : Fin 18} {k : Fin 32} {i : Fin 33} {val : Word} {s : State} (hu : Up s)
    (hm : s.dev.mode.cur ≠ .configure) (hb : s.dev.engBlock n = true) :
    exec (.rampTableWrite n k i val) s = .next (if val.get 0 16 = s.dev.fld (BE_RAMP n k i) 0 16 then s
      else { s with dev := s.dev.refuse (BE_RAMP n k i) }) := by
  show execRampTableWrite n k i val s = _
  unfold execRampTableWrite
  rw [whenUp_up _ _ hu]
  simp only [hb, if_pos hm, Bool.not_true, Bool.false_eq_true, if_false]
  split <;> rfl

theorem engBlock_eq_false {d : Dev} {n : Nat} :
    d.engBlock n = false ↔ d.fencedUnit n = true ∨ nEngines d.variant ≤ n := by
  rw [Dev.engBlock, Bool.and_eq_false_iff, decide_eq_false_iff_not, Nat.not_lt, Bool.not_eq_false', or_comm]

/-- Settles O27: in CONFIGURE the write sets one word in the entries of the present engines; elsewhere, and through an
engine the host does not reach, it sets none. -/
theorem rampTablesAreCommon : Obligations.RampTablesAreCommon := by
  intro n k i val s hu
  refine ⟨fun hm hb => ?_, fun hout => ?_, fun hm hb hne => ?_, fun hm heq => ?_⟩
  · refine ⟨_, exec_rampTableWrite_configure hu hm hb, ⟨rfl, rfl⟩, Dev.wrEach_eq _ _ _,
      fun m hlt => ?_, fun off hoff => ?_⟩
    · rw [Dev.rd_wrEach, if_pos (mem_rampEntries.mpr ⟨m, hlt, rfl⟩)]
    · rw [Dev.rd_wrEach, if_neg]
      rw [mem_rampEntries]
      rintro ⟨m, hlt, rfl⟩
      exact hoff m hlt rfl
  · exact exec_rampTableWrite_unreached k i val (engBlock_eq_false.mpr hout)
  · rw [exec_rampTableWrite_elsewhere hu hm hb, if_neg hne]
  · cases hb : s.dev.engBlock n with
    | false => exact exec_rampTableWrite_unreached k i val hb
    | true => rw [exec_rampTableWrite_elsewhere hu hm hb, if_pos heq]

end Sys2Proof.Machine
end

section
/-! SUPPORT. What a grid that pends or commits makes of its beam, and O36: the grids of a beam and the grid queries
(R181 to R186, R194). -/

namespace Sys2Proof.Machine

/-! ## The grids of a beam (R183) -/

theorem beamGrids_modGrids_same (d : Dev) {b : Nat} (f : BeamGrids → BeamGrids) (h : b < d.grids.length) :
    (d.modGrids b f).beamGrids b = f (d.beamGrids b) := getD_modAt_same _ _ _ _ h

theorem beamGrids_modGrids_other (d : Dev) {b c : Nat} (f : BeamGrids → BeamGrids) (h : c ≠ b) :
    (d.modGrids b f).beamGrids c = d.beamGrids c := getD_modAt_other _ _ _ _ _ h

theorem Recorded.grids_eq {a b : Dev} (h : Recorded a b) : b.grids = a.grids := by
  obtain ⟨_, _, _, _, _, _, _, _, rfl⟩ := h
  rfl

theorem Recorded.beamGrids_eq {a b : Dev} (h : Recorded a b) (c : Nat) : b.beamGrids c = a.beamGrids c :=
  congrArg (fun l : List BeamGrids => l.getD c default) h.grids_eq

theorem Recorded.gridCommits_eq {a b : Dev} (h : Recorded a b) : b.gridCommits = a.gridCommits := by
  obtain ⟨_, _, _, _, _, _, _, _, rfl⟩ := h
  rfl

/-- The beam's grids, the engine's plan, the count and the residuals change; the peers are told (R183, R195, R385). -/
theorem commitGrid_pending {d : Dev} {b : Nat} {g : Grid} (hpending : (d.beamGrids b).pending = some g) :
    ∃ engines resids, Recorded { d.modGrids b (fun _ => ⟨some g, none, false, false, some d.tb3⟩) with
      engines := engines, resids := resids, gridCommits := d.gridCommits + 1 } (d.commitGrid b) := by
  have htell : ∀ x : Dev, Recorded x ((List.range 64).foldl (fun d i =>
      if d.lockValid i && (d.lockMembers i).testBit b && d.bit (LK_LOCK_XDEV i) 31 then
        d.sendTo (d.fld (LK_LOCK_XDEV i) 24 3) 0x33 [2, (i : Int)] else d) x) :=
    foldl_keeps Recorded Recorded.refl (fun _ _ _ => Recorded.trans) _
      (fun x _ => recorded_ite _ (recorded_sendTo x _ _ _) (Recorded.refl x)) _
  unfold Dev.commitGrid
  rw [hpending]
  dsimp only
  split <;> exact ⟨_, _, htell _⟩

theorem beamGrids_commitGrid_same {d : Dev} {b : Nat} {g : Grid} (hpending : (d.beamGrids b).pending = some g)
    (h : b < d.grids.length) : (d.commitGrid b).beamGrids b = ⟨some g, none, false, false, some d.tb3⟩ := by
  obtain ⟨_, _, hrecorded⟩ := commitGrid_pending hpending
  exact (hrecorded.beamGrids_eq b).trans (beamGrids_modGrids_same d _ h)

theorem beamGrids_commitGrid_other {d : Dev} {b c : Nat} {g : Grid} (hpending : (d.beamGrids b).pending = some g)
    (h : c ≠ b) : (d.commitGrid b).beamGrids c = d.beamGrids c := by
  obtain ⟨_, _, hrecorded⟩ := commitGrid_pending hpending
  exact (hrecorded.beamGrids_eq c).trans (beamGrids_modGrids_other d _ h)

theorem gridCommits_commitGrid {d : Dev} {b : Nat} {g : Grid} (hpending : (d.beamGrids b).pending = some g) :
    (d.commitGrid b).gridCommits = d.gridCommits + 1 := by
  obtain ⟨_, _, hrecorded⟩ := commitGrid_pending hpending
  exact hrecorded.gridCommits_eq

theorem exec_gridCommit_free {b : Fin 16} {s : State} (ha : Awake s) (hfree : s.dev.gridFree b = true) :
    exec (.gridCommit b) s = .next { s with dev := s.dev.commitGrid b } := by
  show execGridCommit b s = _
  unfold execGridCommit
  rw [on_awake _ _ ha]
  simp only [hfree, if_true]

theorem exec_gridCommit_busy {b : Fin 16} {s : State} (ha : Awake s) (hbusy : s.dev.gridFree b = false) :
    exec (.gridCommit b) s = .next s := by
  show execGridCommit b s = _
  unfold execGridCommit
  rw [on_awake _ _ ha]
  simp only [hbusy, Bool.false_eq_true, if_false]

/-! ## GRID_LOAD (R181 to R184) -/

/-- The operands of a command with the input data it takes. -/
def envOf (r : Req) (e : Env) : Env := { e with data := dataOf r e }

/-- The grid pends; one loaded at the instant of a commit of its beam is due later (R184). -/
def Dev.pendGrid (d : Dev) (g : Grid) : Dev :=
  d.modGrids g.beam (fun k => { k with pending := some g, due := k.commitAt == some d.tb3 })

theorem beamGrids_pendGrid {d : Dev} {g : Grid} (h : g.beam < d.grids.length) :
    (d.pendGrid g).beamGrids g.beam =
      { d.beamGrids g.beam with pending := some g, due := (d.beamGrids g.beam).commitAt == some d.tb3 } :=
  beamGrids_modGrids_same d _ h

theorem pending_pendGrid {d : Dev} {g : Grid} (h : g.beam < d.grids.length) :
    ((d.pendGrid g).beamGrids g.beam).pending = some g := by rw [beamGrids_pendGrid h]

theorem beam_lt_pendGrid {d : Dev} {g : Grid} (h : g.beam < d.grids.length) : g.beam < (d.pendGrid g).grids.length :=
  lt_of_lt_of_eq h (modAt_length _ _ _).symm

/-- The grid just loaded commits at once. -/
def Dev.commitsAtOnce (d : Dev) (g : Grid) : Prop :=
  d.exposed = none ∧ d.beamEmits g.beam = false ∧ (d.beamGrids g.beam).commitAt ≠ some d.tb3

theorem commitsAtOnce_iff {d : Dev} {g : Grid} (h : g.beam < d.grids.length) :
    ((d.pendGrid g).gridFree g.beam && !((d.pendGrid g).beamGrids g.beam).due) = true ↔ d.commitsAtOnce g := by
  have hexposed : (d.pendGrid g).exposed = d.exposed := rfl
  have hemits : (d.pendGrid g).beamEmits g.beam = d.beamEmits g.beam := rfl
  unfold Dev.gridFree
  rw [beamGrids_pendGrid h, hexposed, hemits]
  by_cases hat : (d.beamGrids g.beam).commitAt = some d.tb3 <;> simp [Dev.commitsAtOnce, hat]

/-- The grid's data are those of the active grid of its beam, by the digest. -/
def Dev.holdsGrid (d : Dev) (g : Grid) : Prop := ∃ a, (d.beamGrids g.beam).active = some a ∧ a.digest = g.digest

theorem exec_gridLoad {r : Req} {e : Env} {s : State} (h : TakesData s 0x0501 cmdGridLoad r e) :
    exec (.gridLoad r e) s = .next { s with dev :=
      (cmdGridLoad.effect (asOp 0x0501 r) (envOf r e) (started s 0x0501 r)) } :=
  command_takesData s 0x0501 cmdGridLoad r e h

theorem gridLoad_effect_fails {d : Dev} {e : Env} (q : Req) {st x r0 : Nat}
    (hfail : parseGrid d.variant e.data = .error (st, x, r0)) :
    cmdGridLoad.effect q e d = d.complete q st x (words4 r0 0 0 0) := by
  simp only [cmdGridLoad, hfail]

theorem gridLoad_effect_again {d : Dev} {e : Env} (q : Req) {g : Grid} (hparse : parseGrid d.variant e.data = .ok g)
    (hsame : d.holdsGrid g) :
    cmdGridLoad.effect q e d = (d.modGrids g.beam (fun k => { k with lost := false })).ok q 0 0 0 0 := by
  obtain ⟨a, hactive, hdigest⟩ := hsame
  simp [cmdGridLoad, hparse, hactive, hdigest]

theorem gridLoad_effect_new {d : Dev} {e : Env} (q : Req) {g : Grid} (hparse : parseGrid d.variant e.data = .ok g)
    (hnew : ¬ d.holdsGrid g) :
    cmdGridLoad.effect q e d =
      (if (d.pendGrid g).gridFree g.beam && !((d.pendGrid g).beamGrids g.beam).due then (d.pendGrid g).commitGrid g.beam
        else d.pendGrid g).ok q 0 0 0 0 := by
  cases hactive : (d.beamGrids g.beam).active with
  | none => simp [cmdGridLoad, hparse, hactive, Dev.pendGrid]
  | some a =>
    have hdigest : (a.digest == g.digest) = false := beq_eq_false_iff_ne.mpr fun hd => hnew ⟨a, hactive, hd⟩
    simp [cmdGridLoad, hparse, hactive, hdigest, Dev.pendGrid]

theorem gridLoad_effect_commits {d : Dev} {e : Env} (q : Req) {g : Grid} (hparse : parseGrid d.variant e.data = .ok g)
    (hbeam : g.beam < d.grids.length) (hnew : ¬ d.holdsGrid g) (hnow : d.commitsAtOnce g) :
    cmdGridLoad.effect q e d = ((d.pendGrid g).commitGrid g.beam).ok q 0 0 0 0 := by
  rw [gridLoad_effect_new q hparse hnew, if_pos ((commitsAtOnce_iff hbeam).mpr hnow)]

theorem gridLoad_effect_pends {d : Dev} {e : Env} (q : Req) {g : Grid} (hparse : parseGrid d.variant e.data = .ok g)
    (hbeam : g.beam < d.grids.length) (hnew : ¬ d.holdsGrid g) (hlater : ¬ d.commitsAtOnce g) :
    cmdGridLoad.effect q e d = (d.pendGrid g).ok q 0 0 0 0 := by
  rw [gridLoad_effect_new q hparse hnew, if_neg (mt (commitsAtOnce_iff hbeam).mp hlater)]

theorem recorded_ok (d : Dev) (q : Req) (a b c e : Nat) : Recorded d (d.ok q a b c e) :=
  (hostSide_ok d q a b c e).recorded

/-- Settles O36: GRID_LOAD by the four ends of its effect, the commit by what it makes of the grids, the queries by
their effects. -/
theorem gridsCommit : Obligations.GridsCommit := by
  refine ⟨fun r e s st x r0 h hfail => ?_, fun r e s g h hparse hbeam => ?_, fun b s g ha hpending hlen => ?_,
    fun r e s g h hg => ?_, fun r e s x h hx => ?_⟩
  · have heffect :=
      gridLoad_effect_fails (d := started s 0x0501 r) (e := envOf r e) (asOp 0x0501 r) hfail
    refine ⟨_, exec_gridLoad h, ⟨rfl, rfl⟩, ?_, heffect⟩
    exact (congrArg Dev.grids heffect).trans (recorded_complete _ _ _ _ _).grids_eq
  · let d := started s 0x0501 r
    have hexec := exec_gridLoad h
    have hbeam' : g.beam < d.grids.length := hbeam
    have hparse' : parseGrid d.variant (envOf r e).data = .ok g := hparse
    have hnew : (∀ a, (d.beamGrids g.beam).active = some a → a.digest ≠ g.digest) → ¬ d.holdsGrid g :=
      fun hne ⟨a, ha, hd⟩ => hne a ha hd
    refine ⟨fun hexposed hemits hat hne => ?_, fun hbusy hne => ?_, fun a hactive hdigest => ?_⟩
    · rw [gridLoad_effect_commits _ hparse' hbeam' (hnew hne) ⟨hexposed, hemits, hat⟩] at hexec
      have hpending := pending_pendGrid hbeam'
      refine ⟨_, hexec, ⟨rfl, rfl⟩, (recorded_ok _ _ _ _ _ _).beamGrids_eq _ |>.trans ?_,
        (recorded_ok _ _ _ _ _ _).gridCommits_eq.trans (gridCommits_commitGrid hpending)⟩
      exact beamGrids_commitGrid_same hpending (beam_lt_pendGrid hbeam')
    · have hlater : ¬ d.commitsAtOnce g := by
        rintro ⟨hexposed, hemits, hat⟩
        rcases hbusy with h | h | h
        · exact h hexposed
        · exact Bool.false_ne_true (hemits.symm.trans h)
        · exact hat h
      rw [gridLoad_effect_pends _ hparse' hbeam' (hnew hne) hlater] at hexec
      have hgrids := ((recorded_ok (d.pendGrid g) (asOp 0x0501 r) 0 0 0 0).beamGrids_eq g.beam).trans
        (beamGrids_pendGrid hbeam')
      have hpending := congrArg BeamGrids.pending hgrids
      have hactive := congrArg BeamGrids.active hgrids
      exact ⟨_, hexec, ⟨rfl, rfl⟩, hpending, hactive⟩
    · rw [gridLoad_effect_again _ hparse' ⟨a, hactive, hdigest⟩] at hexec
      exact ⟨_, hexec, ⟨rfl, rfl⟩,
        ((recorded_ok _ _ _ _ _ _).beamGrids_eq _).trans (beamGrids_modGrids_same d _ hbeam')⟩
  · have hb : b.val < s.dev.grids.length := by omega
    refine ⟨fun hfree => ?_, exec_gridCommit_busy ha⟩
    exact ⟨_, exec_gridCommit_free ha hfree, ⟨rfl, rfl⟩, beamGrids_commitGrid_same hpending hb,
      gridCommits_commitGrid hpending, fun c hc => beamGrids_commitGrid_other hpending hc⟩
  · subst hg
    exact command_takes s 0x0580 cmdGridQuery r e h
  · subst hx
    exact command_takes s 0x0581 cmdResidQuery r e h

end Sys2Proof.Machine
end

section
/-! SUPPORT. The ends of the calibration commands, and O37: how they start and wait (R187 to R193, R385). -/

namespace Sys2Proof.Machine

/-! ## What holds a calibration command back (R189) -/

/-- A calibration command of these beams waits: a beam of it is in use, another command waits, or a hold runs. -/
def Dev.calHeld (d : Dev) (beams : Nat) : Prop := beams &&& d.calBusy ≠ 0 ∨ d.calWait ≠ [] ∨ d.holding = true

/-- The command joins those that wait. -/
def Dev.calWaits (d : Dev) (q : Req) (e : Env) : Dev := { d with calWait := d.calWait ++ [(q, e)] }

/-- The test that each of these commands makes. -/
theorem calHeld_iff (d : Dev) (beams : Nat) :
    (beams &&& d.calBusy ≠ 0 ∨ (!d.calWait.isEmpty) = true ∨ d.holding = true) ↔ d.calHeld beams := by
  simp [Dev.calHeld]

/-- The sets of the table a command names. -/
def Dev.tableSets (d : Dev) (tab : Nat) : List (List Byte) := match d.table tab with | some t => t.sets | none => []

/-! ## CAL_MARK (R187, R188) -/

theorem exec_calMark {r : Req} {e : Env} {s : State} (h : TakesData s 0x0502 cmdCalMark r e) :
    exec (.calMark r e) s = .next { s with dev :=
      (cmdCalMark.effect (asOp 0x0502 r) (envOf r e) (started s 0x0502 r)) } :=
  command_takesData s 0x0502 cmdCalMark r e h

theorem calMark_effect_fails {d : Dev} {e : Env} (q : Req) {st x r0 : Nat}
    (hfail : d.bargeCheck e.data true = .error (st, x, r0)) :
    cmdCalMark.effect q e d = d.complete q st x (words4 r0 0 0 0) := by
  simp only [cmdCalMark, hfail]

theorem calMark_effect_unserved {d : Dev} {e : Env} (q : Req) {rs : List Rec} (hpass : d.bargeCheck e.data true = .ok rs)
    (hunserved : d.unserved (recBeams rs) = true) : cmdCalMark.effect q e d = d.fail q stFenced 0 := by
  simp only [cmdCalMark, hpass, hunserved, if_true]

theorem calMark_effect_waits {d : Dev} {e : Env} (q : Req) {rs : List Rec} (hpass : d.bargeCheck e.data true = .ok rs)
    (hserved : d.unserved (recBeams rs) = false) (hheld : d.calHeld (recBeams rs)) :
    cmdCalMark.effect q e d = d.calWaits q e := by
  simp only [cmdCalMark, hpass, hserved, Bool.false_eq_true, if_false]
  exact if_pos ((calHeld_iff _ _).mpr hheld)

theorem calMark_effect_starts {d : Dev} {e : Env} (q : Req) {rs : List Rec} (hpass : d.bargeCheck e.data true = .ok rs)
    (hserved : d.unserved (recBeams rs) = false) (hfree : ¬ d.calHeld (recBeams rs)) :
    cmdCalMark.effect q e d = d.startCal q (bytesAt e.data 12 4) (d.tableSets (bytesAt e.data 16 4)) rs none := by
  simp only [cmdCalMark, hpass, hserved, Bool.false_eq_true, if_false]
  exact if_neg (mt (calHeld_iff _ _).mp hfree)

/-! ## CAL_EDGE (R191) -/

theorem exec_calEdge {r : Req} {e : Env} {s : State} (h : TakesData s 0x0504 cmdCalEdge r e) :
    exec (.calEdge r e) s = .next { s with dev :=
      (cmdCalEdge.effect (asOp 0x0504 r) (envOf r e) (started s 0x0504 r)) } :=
  command_takesData s 0x0504 cmdCalEdge r e h

/-- A CAL_EDGE whose checks pass names a beam that an unfenced engine serves. -/
theorem calEdge_checked_served {d : Dev} {q : Req} (h : cmdCalEdge.check d q = none) :
    d.unserved (2 ^ q.a0.get 0 5) = false := by
  have hall := (firstFail_none_iff _).mp h
  have hbeam := hall (limitIf (decide (16 ≤ q.a0.get 0 5)) 0x05FF) (by simp)
  have hfenced := hall (fencedIf (decide (q.a0.get 0 5 < 16) && d.unserved (2 ^ q.a0.get 0 5))) (by simp)
  have hlt : q.a0.get 0 5 < 16 := Nat.lt_of_not_le (of_decide_eq_false hbeam)
  simpa [fencedIf, hlt] using hfenced

/-- The line of a CAL_EDGE leaves the grid's extent, or has no length (R191, log entry 49). -/
def Dev.edgeOutside (d : Dev) (k : Nat) (b : List Byte) : Prop :=
  d.inActive k (intAt b 0 4) (intAt b 4 4) = false ∨ d.inActive k (intAt b 8 4) (intAt b 12 4) = false ∨
    (intAt b 0 4 = intAt b 8 4 ∧ intAt b 4 4 = intAt b 12 4)

/-- What a CAL_EDGE watches for: the threshold, the direction, and the photodiode of its band at engine n (R191, R266,
R267). -/
def Dev.edgeWatch (d : Dev) (q : Req) (e : Env) (n : Nat) : EdgeReq :=
  let range := d.fld (BE_PD_CFG n) (if q.a0.bit 8 then 4 else 0) 2
  ⟨q.a3.get 0 14, q.a0.bit 9, pdDelay range * 16, e.vals.map (fun v =>
    if d.bit (BE_PD_CFG n) (if q.a0.bit 8 then 30 else 31) then (pdCode range v : Int) else 0)⟩

theorem edgeOutside_iff (d : Dev) (k : Nat) (b : List Byte) :
    (!(d.inActive k (intAt b 0 4) (intAt b 4 4) && d.inActive k (intAt b 8 4) (intAt b 12 4)) ||
      (intAt b 0 4 == intAt b 8 4 && intAt b 4 4 == intAt b 12 4)) = true ↔ d.edgeOutside k b := by
  simp [Dev.edgeOutside, or_assoc]

theorem calEdge_effect_outside {d : Dev} {q : Req} {e : Env} (hserved : d.unserved (2 ^ q.a0.get 0 5) = false)
    (houtside : d.edgeOutside (q.a0.get 0 5) e.data) : cmdCalEdge.effect q e d = d.fail q stLimit 0x05FF := by
  simp only [cmdCalEdge, hserved, Bool.false_eq_true, if_false]
  exact if_pos ((edgeOutside_iff _ _ _).mpr houtside)

theorem calEdge_effect_waits {d : Dev} {q : Req} {e : Env} (hserved : d.unserved (2 ^ q.a0.get 0 5) = false)
    (hinside : ¬ d.edgeOutside (q.a0.get 0 5) e.data) (hheld : d.calHeld (2 ^ q.a0.get 0 5)) :
    cmdCalEdge.effect q e d = d.calWaits q e := by
  simp only [cmdCalEdge, hserved, Bool.false_eq_true, if_false]
  exact (if_neg (mt (edgeOutside_iff _ _ _).mp hinside)).trans (if_pos ((calHeld_iff _ _).mpr hheld))

theorem calEdge_effect_starts {d : Dev} {q : Req} {e : Env} {n : Nat} (hserved : d.unserved (2 ^ q.a0.get 0 5) = false)
    (hinside : ¬ d.edgeOutside (q.a0.get 0 5) e.data) (hfree : ¬ d.calHeld (2 ^ q.a0.get 0 5))
    (hengine : d.engineOf (q.a0.get 0 5) = some n) :
    cmdCalEdge.effect q e d = d.startCal q 0 (d.tableSets q.a1.toNat) (edgeRecs (q.a0.get 0 5) (q.a2.get 0 8)
      (intAt e.data 0 4) (intAt e.data 4 4) (intAt e.data 8 4) (intAt e.data 12 4)) (some (d.edgeWatch q e n)) := by
  simp only [cmdCalEdge, hserved, hengine, Option.getD_some, Bool.false_eq_true, if_false]
  refine (if_neg (mt (edgeOutside_iff _ _ _).mp hinside)).trans ((if_neg (mt (calHeld_iff _ _).mp hfree)).trans ?_)
  unfold Dev.edgeWatch
  cases q.a0.bit 8 <;> rfl

/-! ## CAL_PROBE (R190) -/

theorem exec_calProbe {r : Req} (e : Env) {s : State} (h : Takes s 0x0503 cmdCalProbe r) :
    exec (.calProbe r e) s =
      .next { s with dev := cmdCalProbe.effect (asOp 0x0503 r) e (started s 0x0503 r) } :=
  command_takes s 0x0503 cmdCalProbe r e h

/-- A job joins those in progress and goes on as far as it can. -/
def Dev.startProbes (d : Dev) (j : ProbeJob) : Dev := ({ d with probes := d.probes ++ [j] } : Dev).stepProbe j

/-- The job of a CAL_PROBE: its one probe. -/
def Dev.probeJob (d : Dev) (q : Req) : ProbeJob :=
  mkProbes q (d.tableSets q.a4.toNat) (q.a5.get 0 8) (q.a3.get 0 7) 1
    [⟨0, q.a0.get 0 5, signed 32 q.a1.toNat, signed 32 q.a2.toNat⟩]

theorem calProbe_effect_waits {d : Dev} {q : Req} (e : Env) (hheld : d.calHeld (2 ^ q.a0.get 0 5)) :
    cmdCalProbe.effect q e d = d.calWaits q e := if_pos ((calHeld_iff _ _).mpr hheld)

theorem calProbe_effect_starts {d : Dev} {q : Req} (e : Env) (hfree : ¬ d.calHeld (2 ^ q.a0.get 0 5)) :
    cmdCalProbe.effect q e d = d.startProbes (d.probeJob q) := if_neg (mt (calHeld_iff _ _).mp hfree)

/-! ## CAL_RESID and CAL_XRESID (R193, R385) -/

theorem exec_calResid {r : Req} {e : Env} {s : State} (h : TakesData s 0x0505 cmdCalResid r e) :
    exec (.calResid r e) s = .next { s with dev :=
      ((started s 0x0505 r).startResid (asOp 0x0505 r) (envOf r e) none) } :=
  command_takesData s 0x0505 cmdCalResid r e h

theorem exec_calXresid {r : Req} {e : Env} {s : State} (h : TakesData s 0x0D02 cmdCalXresid r e) :
    exec (.calXresid r e) s = .next { s with dev :=
      ((started s 0x0D02 r).startResid (asOp 0x0D02 r) (envOf r e)
        (some ((started s 0x0D02 r).lockPeer (r.a0.get 0 6)))) } :=
  command_takesData s 0x0D02 cmdCalXresid r e h

/-- A point lies outside the active grid of a member of the lock. -/
def Dev.residOutside (d : Dev) (i : Nat) (pts : List (Int × Int)) : Prop :=
  ∃ p ∈ pts, ∃ k ∈ bitList 16 (d.lockMembers i), d.inActive k p.1 p.2 = false

theorem residOutside_iff (d : Dev) (i : Nat) (pts : List (Int × Int)) :
    (pts.any (fun p => (bitList 16 (d.lockMembers i)).any (fun b => !d.inActive b p.1 p.2))) = true ↔
      d.residOutside i pts := by
  simp [Dev.residOutside]

/-- The job of a residual: every point by every member here, and what the peer is to answer. -/
def Dev.residJob (d : Dev) (q : Req) (pts : List (Int × Int)) (peer : Option Nat) : ProbeJob :=
  { mkProbes q (d.tableSets q.a1.toNat) (q.a2.get 0 8) (q.a3.get 0 7) pts.length (d.residProbes (q.a0.get 0 6) pts) with
    lock := some (q.a0.get 0 6), peer := peer, away := if peer.isSome then List.range pts.length else [] }

/-- The points go to the peer, each with the lock, its number, and what the probes use (R385). -/
def Dev.sendPoints (d : Dev) (q : Req) (pts : List (Int × Int)) (v : Nat) : Dev :=
  (pts.mapIdx (fun (k : Nat) p => ([3, (q.a0.get 0 6 : Int), (k : Int), p.1, p.2, (q.a1.toNat : Int),
    (q.a2.get 0 8 : Int), (q.a3.get 0 7 : Int)] : List Int))).foldl (fun (g : Dev) m => g.sendTo v 0x33 m) d

section
variable {d : Dev} {q : Req} {e : Env} {peer : Option Nat}

theorem startResid_outside (houtside : d.residOutside (q.a0.get 0 6) (residPoints e.data)) :
    d.startResid q e peer = d.fail q stLimit 0x0509 := if_pos ((residOutside_iff _ _ _).mpr houtside)

theorem startResid_waits (hinside : ¬ d.residOutside (q.a0.get 0 6) (residPoints e.data))
    (hheld : d.calHeld (d.lockMembers (q.a0.get 0 6))) : d.startResid q e peer = d.calWaits q e :=
  (if_neg (mt (residOutside_iff _ _ _).mp hinside)).trans (if_pos ((calHeld_iff _ _).mpr hheld))

theorem startResid_starts (hinside : ¬ d.residOutside (q.a0.get 0 6) (residPoints e.data))
    (hfree : ¬ d.calHeld (d.lockMembers (q.a0.get 0 6))) :
    d.startResid q e none = d.startProbes (d.residJob q (residPoints e.data) none) :=
  (if_neg (mt (residOutside_iff _ _ _).mp hinside)).trans (if_neg (mt (calHeld_iff _ _).mp hfree))

theorem startResid_starts_peer {v : Nat} (hinside : ¬ d.residOutside (q.a0.get 0 6) (residPoints e.data))
    (hfree : ¬ d.calHeld (d.lockMembers (q.a0.get 0 6))) :
    d.startResid q e (some v) =
      (d.sendPoints q (residPoints e.data) v).startProbes (d.residJob q (residPoints e.data) (some v)) :=
  (if_neg (mt (residOutside_iff _ _ _).mp hinside)).trans (if_neg (mt (calHeld_iff _ _).mp hfree))

end

/-- Settles O37: each command by the ends of its effect (LIMIT of an edge outside: log entry 49). -/
theorem calibrationStarts : Obligations.CalibrationStarts := by
  intro r e s d q b waits hb hwaits
  have hheld : ∀ {m}, waits m → d.calHeld m := fun {m} => (hwaits m).mp
  have hfree : ∀ {m}, ¬ waits m → ¬ d.calHeld m := fun {m} => mt (hwaits m).mpr
  refine ⟨fun h hd hq => ?_, fun k n sx sy x y band h hd hq hk hband hengine hsx hsy hx hy => ?_,
    fun k h hd hq hk => ?_, fun i outside hi houtside => ⟨fun h hd hq => ?_, fun h hd hq => ?_⟩⟩
  · subst hd hq hb
    have hexec := exec_calMark h
    refine ⟨fun st x r0 hfail => ?_,
      fun rs hpass => ⟨fun hunserved => ?_, fun hserved => ⟨fun hw => ?_, fun hw => ?_⟩⟩⟩
    · rw [hexec, calMark_effect_fails (e := envOf r e) _ hfail]
    · rw [hexec, calMark_effect_unserved (e := envOf r e) _ hpass hunserved]
    · rw [hexec, calMark_effect_waits (e := envOf r e) _ hpass hserved (hheld hw)]
      rfl
    · rw [hexec, calMark_effect_starts (e := envOf r e) _ hpass hserved (hfree hw)]
      rfl
  · subst hd hq hb hk hband hsx hsy hx hy
    have hexec := exec_calEdge h
    obtain ⟨-, -, -, -, -, hcheck⟩ := h
    have hserved := calEdge_checked_served hcheck
    refine ⟨fun hout => ?_, fun hfrom hto hlong => ?_⟩
    · rw [hexec, calEdge_effect_outside (e := envOf r e) hserved hout]
    · have hinside : ¬ (started s 0x0504 r).edgeOutside (r.a0.get 0 5) (dataOf r e) := by
        simp [Dev.edgeOutside, hfrom, hto, hlong]
      refine ⟨fun hw => ?_, fun hw => ⟨_, rfl, ?_⟩⟩
      · rw [hexec, calEdge_effect_waits (e := envOf r e) hserved hinside (hheld hw)]
        rfl
      · rw [hexec, calEdge_effect_starts (e := envOf r e) hserved hinside (hfree hw) hengine]
        rfl
  · subst hd hq hk
    have hexec := exec_calProbe e h
    refine ⟨fun hw => ?_, fun hw => ⟨_, rfl, ?_⟩⟩
    · rw [hexec, calProbe_effect_waits (q := asOp 0x0503 r) e (hheld hw)]
      rfl
    · rw [hexec, calProbe_effect_starts (q := asOp 0x0503 r) e (hfree hw)]
      rfl
  · subst hd hq hb hi
    have hexec := exec_calResid h
    refine ⟨fun hout => ?_, fun hin hw => ?_, fun hin hw => ?_⟩
    · rw [hexec, startResid_outside (q := asOp 0x0505 r) (e := envOf r e) (houtside.mp hout)]
    · rw [hexec, startResid_waits (q := asOp 0x0505 r) (e := envOf r e) (mt houtside.mpr hin) (hheld hw)]
      rfl
    · refine ⟨(started s 0x0505 r).residJob (asOp 0x0505 r) (residPoints (dataOf r e)) none,
        rfl, rfl, rfl, rfl, rfl, rfl, rfl, rfl, ?_⟩
      rw [hexec, startResid_starts (q := asOp 0x0505 r) (e := envOf r e) (mt houtside.mpr hin) (hfree hw)]
      rfl
  · subst hd hq hb hi
    have hexec := exec_calXresid h
    refine ⟨fun hout => ?_, fun hin hw => ?_, fun hin hw => ?_⟩
    · rw [hexec, startResid_outside (q := asOp 0x0D02 r) (e := envOf r e) (houtside.mp hout)]
    · rw [hexec, startResid_waits (q := asOp 0x0D02 r) (e := envOf r e) (mt houtside.mpr hin) (hheld hw)]
      rfl
    · let v := (started s 0x0D02 r).lockPeer (r.a0.get 0 6)
      refine ⟨(started s 0x0D02 r).residJob (asOp 0x0D02 r) (residPoints (dataOf r e)) (some v),
        (started s 0x0D02 r).sendPoints (asOp 0x0D02 r) (residPoints (dataOf r e)) v,
        rfl, rfl, rfl, rfl, rfl, rfl, rfl, rfl, ?_⟩
      rw [hexec, startResid_starts_peer (q := asOp 0x0D02 r) (e := envOf r e) (mt houtside.mpr hin) (hfree hw)]
      rfl

end Sys2Proof.Machine
end

section
/-! SUPPORT. The choice of a beam and the decisions of the locks, and O31 (R208, R209, R225, R230, R231). -/

namespace Sys2Proof.Machine

/-- An event that leaves the device as it is leaves the state. -/
theorem on_same {s : State} {f : Dev → Dev} (h : f s.dev = s.dev) : s.on f = .next s := by
  unfold State.on
  rw [h, ite_self]

/-! ## The choice of a beam (R208) -/

theorem bestOf_eq_none {d : Dev} {gs : List Nat} : d.bestOf gs = none ↔ gs = [] := by
  cases gs with
  | nil => exact iff_of_true rfl rfl
  | cons g gs =>
    simp only [Dev.bestOf, reduceCtorEq, iff_false]
    split
    · simp
    · split <;> simp

/-- Behind g stand the others: it is chosen, or the best of them is, which runs dry before it. -/
theorem bestOf_cons (d : Dev) (g : Nat) (gs : List Nat) :
    (d.bestOf (g :: gs) = some g ∧ ∀ h, d.bestOf gs = some h → d.qOf g ≤ d.qOf h) ∨
      ∃ h, d.bestOf gs = some h ∧ d.bestOf (g :: gs) = some h ∧ d.qOf h < d.qOf g := by
  cases hgs : d.bestOf gs with
  | none => simp [Dev.bestOf, hgs]
  | some h =>
    by_cases hlt : d.qOf h < d.qOf g
    · exact Or.inr ⟨h, rfl, by simp [Dev.bestOf, hgs, hlt], hlt⟩
    · exact Or.inl ⟨by simp [Dev.bestOf, hgs, hlt], by rintro _ ⟨⟩; omega⟩

/-- The beam chosen is a candidate, and none of them runs dry before it. -/
theorem bestOf_least {d : Dev} {gs : List Nat} {b : Nat} (hbest : d.bestOf gs = some b) :
    b ∈ gs ∧ ∀ h ∈ gs, d.qOf b ≤ d.qOf h := by
  induction gs generalizing b with
  | nil => cases hbest
  | cons g gs ih =>
    rcases bestOf_cons d g gs with ⟨hg, hle⟩ | ⟨c, hc, hcons, hlt⟩
    · obtain rfl : g = b := Option.some.inj (hg.symm.trans hbest)
      refine ⟨List.mem_cons_self, fun h hh => ?_⟩
      rcases List.mem_cons.mp hh with rfl | hh
      · exact le_rfl
      · cases htail : d.bestOf gs with
        | none =>
          rw [bestOf_eq_none.mp htail] at hh
          cases hh
        | some c => exact (hle c htail).trans ((ih htail).2 h hh)
    · obtain rfl : c = b := Option.some.inj (hcons.symm.trans hbest)
      obtain ⟨hmem, hleast⟩ := ih hc
      refine ⟨List.mem_cons_of_mem _ hmem, fun h hh => ?_⟩
      rcases List.mem_cons.mp hh with rfl | hh
      · exact hlt.le
      · exact hleast h hh

/-! ## One pass over the locks (R54, R230, R231) -/

theorem exec_lkCycle {s : State} (ha : Awake s) :
    exec .lkCycle s = .next { s with dev := (
      if s.dev.replay.isSome then s.dev.replayCycle
      else if s.dev.mode.cur ≠ .build ∨ s.dev.holding then s.dev
      else if s.dev.admitHalves.recommits then s.dev.admitHalves
      else (List.range 64).foldl (fun d i => if d.lockValid i then d.decideHead i else d) s.dev.admitHalves) } := by
  show execLkCycle s = _
  unfold execLkCycle
  rw [on_awake _ _ ha]

/-! ## The decision for a head entry (R208, R209) -/

/-- An entry that one lock holds is no stitch. -/
theorem needsStitch_of_lock {d : Dev} {u : WUnit} (h : (d.lockOfRecs u.recs).isSome = true) : d.needsStitch u = false := by
  have hnone : (d.lockOfRecs u.recs).isNone = false := by simpa using h
  simp [Dev.needsStitch, hnone]

section head
variable {d : Dev} {i : Nat} {u : WUnit} {rest : List WUnit} {l : Layer}
  (hhead : (d.lockQ i).queue = u :: rest) (hrun : d.running = some l) (hlayer : l.num = u.layer)
  (hwhole : u.half = none) (hlock : (d.lockOfRecs u.recs).isSome = true)
include hhead hrun hlayer hwhole hlock

/-- The decision for a whole entry of the layer in exposure that one lock holds: none takes it, or the best does where it
is in reach. -/
theorem decideHead_whole :
    (d.bestOf (d.candidates u i) = none → d.decideHead i = (d.lockPop i).noExposure u 0 stSkipped) ∧
      ∀ g, d.bestOf (d.candidates u i) = some g → d.decideHead i =
        if d.now + d.fld LK_ASSIGN_CFG 0 16 < d.qOf g then d
        else (d.lockPop i).assign u (d.stay i (d.candidates u i) g) i := by
  unfold Dev.decideHead
  simp only [hhead, hrun, hlayer, hwhole, needsStitch_of_lock hlock, beq_self_eq_true, Bool.not_true, Option.isSome_none,
    Bool.false_eq_true, if_false]
  refine ⟨fun hnone => ?_, fun g hbest => ?_⟩
  · rw [hnone]
  · rw [hbest]

theorem decideHead_reached {g : Nat} (hbest : d.bestOf (d.candidates u i) = some g)
    (hreach : d.qOf g ≤ d.now + d.fld LK_ASSIGN_CFG 0 16) :
    d.decideHead i = (d.lockPop i).assign u (d.stay i (d.candidates u i) g) i := by
  rw [(decideHead_whole hhead hrun hlayer hwhole hlock).2 g hbest]
  exact if_neg (by omega)

theorem decideHead_skipped (hnone : d.candidates u i = []) : d.decideHead i = (d.lockPop i).noExposure u 0 stSkipped :=
  (decideHead_whole hhead hrun hlayer hwhole hlock).1 (bestOf_eq_none.mpr hnone)

end head

/-- A lock that has served no beam has none to stay with. -/
theorem stay_first {d : Dev} {i : Nat} (cand : List Nat) (g : Nat) (hprev : (d.lockQ i).prev = none) : d.stay i cand g = g := by
  simp [Dev.stay, hprev]

/-- A lock stays with the beam served last where that is within the hysteresis. -/
theorem stay_within {d : Dev} {i p : Nat} {cand : List Nat} {g : Nat} (hprev : (d.lockQ i).prev = some p) (hmem : p ∈ cand)
    (hnear : d.qOf p ≤ d.qOf g + d.fld LK_ASSIGN_CFG 16 16) : d.stay i cand g = p := by
  simp [Dev.stay, hprev, hmem, hnear]

/-- Settles O31: the choice by `bestOf_least`, a pass by the branches of `exec_lkCycle`, and the decision for an entry by
`decideHead_reached`, with the hysteresis of `stay_within`, and `decideHead_skipped`. -/
theorem locksDecide : Obligations.LocksDecide := by
  refine ⟨fun d gs g => bestOf_least, fun d gs => bestOf_eq_none.mp, fun s ha hreplay hcur hhold => ?_,
    fun s ha hreplay hidle => ?_, fun r s ha hreplay => ?_,
    fun d i g u rest l hhead hrun hlayer hwhole hlock hbest hreach => ⟨fun hprev => ?_, fun p hprev hmem hnear => ?_⟩,
    fun d i u rest l hhead hrun hlayer hwhole hlock hnone => decideHead_skipped hhead hrun hlayer hwhole hlock hnone⟩
  · rw [exec_lkCycle ha]
    simp [hreplay, hcur, hhold]
  · rw [exec_lkCycle ha]
    simp [hreplay, hidle]
  · rw [exec_lkCycle ha]
    simp [hreplay]
  · rw [decideHead_reached hhead hrun hlayer hwhole hlock hbest hreach, stay_first _ _ hprev]
  · rw [decideHead_reached hhead hrun hlayer hwhole hlock hbest hreach, stay_within hprev hmem hnear]

end Sys2Proof.Machine
end

section
/-! SUPPORT. What a commit leaves of the keeper, and O32: the commits of units and the life of tracks (R214, R218, R220,
R224, R225). -/

namespace Sys2Proof.Machine

/-! ## When a unit commits -/

theorem exec_unitCommit_idle {n : Fin 18} {s : State} (hidle : s.dev.committing n = false) :
    exec (.unitCommit n) s = .next s := by
  show execUnitCommit n s = _
  unfold execUnitCommit
  exact on_same (by simp [hidle])

theorem exec_half1Commit_idle {n : Fin 18} {s : State} (hidle : s.dev.committing n = false) :
    exec (.half1Commit n) s = .next s := by
  show execHalf1Commit n s = _
  unfold execHalf1Commit
  refine on_same ?_
  cases s.dev.openRun n with
  | none => rfl
  | some r => simp [hidle]

/-- The unit that waits is submitted, but for a half 1 that waits for its half 0 (R214). -/
theorem exec_unitCommit_open {n : Fin 18} {r : Run} {s : State} (ha : Awake s) (hcommit : s.dev.committing n = true)
    (hlong : s.dev.longRun n = none) (hopen : s.dev.openRun n = some r) :
    exec (.unitCommit n) s = .next { s with dev := (
      if r.unit.half == some 1 && !r.unit.resumed && !r.unit.solo then s.dev else s.dev.submit n r) } := by
  show execUnitCommit n s = _
  unfold execUnitCommit
  rw [on_awake _ _ ha]
  simp only [hcommit, hlong, hopen, Bool.not_true, Bool.false_eq_true, if_false]

/-- The next part of a long chain that no peer must test (R224). -/
theorem exec_unitCommit_long {n : Fin 18} {r : Run} {s : State} (ha : Awake s) (hcommit : s.dev.committing n = true)
    (hlong : s.dev.longRun n = some r)
    (hpeers : s.dev.commitPeers { r with upTo := r.nextPart (r.upTo.getD 0) } = []) :
    exec (.unitCommit n) s = .next { s with dev := s.dev.extendRun n r false } := by
  show execUnitCommit n s = _
  unfold execUnitCommit
  rw [on_awake _ _ ha]
  simp only [hcommit, hlong, hpeers, Bool.not_true, Bool.false_eq_true, if_false]

/-- A half 1 that waits for its commit, with T_sync of its half 0 or without it (R214). -/
theorem exec_half1Commit_half {n : Fin 18} {r : Run} {s : State} (ha : Awake s) (hcommit : s.dev.committing n = true)
    (hopen : s.dev.openRun n = some r) (hhalf : r.unit.half = some 1) (hnew : r.unit.resumed = false) :
    (s.dev.syncOf r.unit = none → exec (.half1Commit n) s = .next s) ∧
      ∀ sync, s.dev.syncOf r.unit = some sync →
        exec (.half1Commit n) s = .next { s with dev := s.dev.submitHalf1 n r sync } := by
  show (_ → execHalf1Commit n s = _) ∧ ∀ sync, _ → execHalf1Commit n s = _
  unfold execHalf1Commit
  rw [on_awake _ _ ha]
  refine ⟨fun hnone => ?_, fun sync hsync => ?_⟩
  · simp [hopen, hcommit, hhalf, hnew, hnone]
  · simp [hopen, hcommit, hhalf, hnew, hsync]

/-! ## Submission (R220, R225) -/

section submit
variable {d : Dev} {n : Nat} {r f : Run} (hreplay : d.replay = none) (hfresh : f = d.freshStart n r)
include hreplay hfresh

/-- A unit that no peer must test commits with its shift, and one that peers must test is sent to them. -/
theorem submit_shifted {k : Nat} {c : Option Nat} (hshift : d.ownShift n f = (k, c)) :
    ((d.setLastRun n f).commitPeers (f.shift k) = [] → d.submit n r = (d.setLastRun n f).commitWith n f k c) ∧
      ((d.setLastRun n f).commitPeers (f.shift k) ≠ [] → d.submit n r =
        (d.setLastRun n f).askPeers n k c 0 f ((d.setLastRun n f).commitPeers (f.shift k))) := by
  unfold Dev.submit
  rw [← hfresh, hreplay]
  show (_ → ite _ _ _ = _) ∧ (_ → ite _ _ _ = _)
  rw [if_neg (by simp), hshift]
  dsimp only
  refine ⟨fun hnone => ?_, fun hsome => ?_⟩
  · rw [hnone]
  · split
    next hnone => exact absurd hnone hsome
    · rfl

/-- A half 1 commits co-moving where it may and no peer must test it (R214). -/
theorem submitHalf1_coMoves {sync : Nat} (hmay : d.mayCoMove n f sync = true)
    (hpeers : d.commitPeers (f.coMove sync) = []) : d.submitHalf1 n r sync = d.commitCo n f sync := by
  unfold Dev.submitHalf1
  simp only [← hfresh, hreplay, hmay, hpeers, Option.isSome_none, Bool.false_eq_true, if_false, if_true]

/-- Else it is submitted like any unit. -/
theorem submitHalf1_submits {sync : Nat} (hmay : d.mayCoMove n f sync = false) :
    d.submitHalf1 n r sync = d.submit n f := by
  unfold Dev.submitHalf1
  simp only [← hfresh, hreplay, hmay, Option.isSome_none, Bool.false_eq_true, if_false]

end submit

/-- What co-moves can meet T_sync, and is no half alone. -/
theorem mayCoMove_inTime {d : Dev} {n sync : Nat} {r : Run} (h : d.mayCoMove n r sync = true) :
    r.stamp r.holdT + (toTs r.tOn - toTs r.holdT) ≤ sync ∧ r.unit.solo = false := by
  unfold Dev.mayCoMove at h
  simp only [Bool.and_eq_true, decide_eq_true_eq, Bool.not_eq_true'] at h
  obtain ⟨⟨⟨htime, hsolo⟩, -⟩, -⟩ := h
  exact ⟨htime, hsolo⟩

/-! ## Tracks (R218) -/

/-- The lock keeper is the same. -/
def SameKeeper (a b : Dev) : Prop := b.keeper = a.keeper

theorem sameKeeper_foldl {β : Type} (f : Dev → β → Dev) (h : ∀ a b, SameKeeper a (f a b)) (l : List β) (a : Dev) :
    SameKeeper a (l.foldl f a) :=
  foldl_keeps SameKeeper (fun _ => rfl) (fun _ _ _ h k => Eq.trans k h) f h l a

/-- A prefetch is in the ledger's cache alone (R243). -/
theorem sameKeeper_prefetch (d : Dev) (r : Run) : SameKeeper d (d.prefetch r) := by
  unfold Dev.prefetch
  split
  · rfl
  · refine sameKeeper_foldl _ (fun a k => ?_) _ d
    extract_lets t
    split
    exact sameKeeper_foldl (fun x tn => x.touchTile x.onReplay tn false) (fun x tn => rfl) _ a

theorem keeper_sendTo (d : Dev) (v type : Nat) (c : List Int) : (d.sendTo v type c).keeper = d.keeper := by
  obtain ⟨_, _, h⟩ := linkSide_sendTo d v type c
  rw [h]

/-- A commit stores the track of its run behind the others. -/
theorem tracks_commitRun (d : Dev) (n : Nat) (r : Run) :
    ∃ g x, (d.commitRun n r).keeper.tracks = d.keeper.tracks ++ [⟨g, x⟩] ∧ x.unit = r.unit ∧ x.committed = true := by
  have hkeeper : (d.prefetch r).keeper = d.keeper := sameKeeper_prefetch d r
  unfold Dev.commitRun
  extract_lets y g x planned stored vec synced
  have hstored : stored.keeper.tracks = d.keeper.tracks ++ [⟨g, x⟩] :=
    congrArg (fun k : Keeper => k.tracks ++ [⟨g, x⟩]) hkeeper
  refine ⟨g, x, ?_, rfl, rfl⟩
  split
  · split
    · rw [keeper_sendTo]
      exact hstored
    · exact hstored
  · exact hstored

/-- A track stays while a tick of it or the hold is to come, or the ledger has still to take energy of it. -/
theorem exec_trackExpiry {s : State} (ha : Awake s) (hon : s.dev.keeperOn = true) :
    ∃ t, exec .trackExpiry s = .next t ∧ OnlyDevice s t ∧ t.dev = { s.dev with keeper := t.dev.keeper } ∧
      (∀ x, x ∈ t.dev.keeper.tracks ↔ x ∈ s.dev.keeper.tracks ∧
        (s.dev.tick ≤ x.run.endTick + s.dev.plumeHold ∨
          ∃ n, s.dev.engineOf (x.beam % 16) = some n ∧ (s.dev.eng n).owes x.run.seq = true)) := by
  show ∃ t, execTrackExpiry s = _ ∧ _
  unfold execTrackExpiry
  rw [on_awake _ _ ha]
  refine ⟨_, rfl, ⟨rfl, rfl⟩, ?_, fun x => ?_⟩
  · simp only [hon, Bool.not_true, Bool.false_eq_true, if_false]
    rfl
  · simp only [hon, Bool.not_true, Bool.false_eq_true, if_false, Dev.modKeeper, List.mem_filter, Bool.or_eq_true,
      decide_eq_true_eq]
    cases s.dev.engineOf (x.beam % 16) <;> simp

theorem exec_trackExpiry_off {s : State} (hoff : s.dev.keeperOn = false) : exec .trackExpiry s = .next s := by
  show execTrackExpiry s = _
  unfold execTrackExpiry
  exact on_same (by simp [hoff])

/-- Settles O32: fresh units by `exec_unitCommit_open` and `submit_shifted`, the parts of long chains by
`exec_unitCommit_long`, halves 1 by `exec_half1Commit_half` and the two ends of `Dev.submitHalf1`, and tracks by
`tracks_commitRun` and `exec_trackExpiry`. -/
theorem unitsCommit : Obligations.UnitsCommit := by
  refine ⟨fun n r s ha hreplay hlong hopen hcommit hturn f k c d hf hshift hd => ?_,
    fun n r s ha hcommit hlong hpeers => exec_unitCommit_long ha hcommit hlong hpeers,
    fun n s _ hidle => ⟨exec_unitCommit_idle hidle, exec_half1Commit_idle hidle⟩,
    fun n r s ha hopen hcommit hhalf hnew => ?_, tracks_commitRun,
    fun s ha hon => exec_trackExpiry ha hon, fun s _ hoff => exec_trackExpiry_off hoff⟩
  · subst hd
    have hmay : (r.unit.half == some 1 && !r.unit.resumed && !r.unit.solo) = false := by
      rcases hturn with h | h | h <;> simp [h]
    obtain ⟨hcommits, hasks⟩ := submit_shifted hreplay hf hshift
    rw [exec_unitCommit_open ha hcommit hlong hopen, if_neg (by simp [hmay])]
    exact ⟨fun hnone => by rw [hcommits hnone], fun hsome => by rw [hasks hsome]⟩
  · obtain ⟨hnone, hsome⟩ := exec_half1Commit_half ha hcommit hopen hhalf hnew
    refine ⟨fun hlong hsolo => ?_, hnone, fun sync f hsync hf hreplay => ⟨fun hmay hpeers => ?_, fun hmay => ?_⟩⟩
    · rw [exec_unitCommit_open ha hcommit hlong hopen, if_pos (by simp [hhalf, hnew, hsolo])]
    · obtain ⟨htime, hsolo⟩ := mayCoMove_inTime hmay
      refine ⟨htime, ?_, by rw [hsome sync hsync, submitHalf1_coMoves hreplay hf hmay hpeers]⟩
      rw [← hsolo, hf]
      rfl
    · rw [hsome sync hsync, submitHalf1_submits hreplay hf hmay]

end Sys2Proof.Machine
end

section
/-! SUPPORT. Writes of the fade table and of lock definitions, and O33 (R200, R201, R216, R236). -/

namespace Sys2Proof.Machine

/-! ## The fade table (R216, R236) -/

/-- Entry k of the fade table. -/
def Dev.fade (d : Dev) (k : Nat) : Nat := d.fld (LK_FADE k) 0 16

/-- The table never rises. -/
def Dev.fadeFalls (d : Dev) : Prop := ∀ k, k < 31 → d.fade (k + 1) ≤ d.fade k

theorem fade_inj {i k : Nat} : LK_FADE i = LK_FADE k ↔ i = k := by
  unfold LK_FADE
  omega

theorem fade_ne_err (k : Nat) : LK_FADE k ≠ LK_ERR := by
  unfold LK_FADE LK_ERR
  omega

/-- A write of one entry leaves the others. -/
theorem fade_wrN (d : Dev) (i v k : Nat) (hv : v < 2 ^ 16) :
    (d.wrN (LK_FADE i) v).fade k = if k = i then v else d.fade k := by
  unfold Dev.fade Dev.fld Dev.wrN
  rw [Dev.rd_wr]
  simp only [fade_inj]
  split
  · simp [Word.get, bitsAt]
    omega
  · rfl

/-- An entry between its neighbours keeps the table from rising. -/
theorem fadeFalls_wrN {d : Dev} {i v : Nat} (hfalls : d.fadeFalls) (hv : v < 2 ^ 16)
    (hbelow : d.fade (i + 1) ≤ v) (habove : v ≤ d.fade (i - 1)) : (d.wrN (LK_FADE i) v).fadeFalls := by
  intro k hk
  rw [fade_wrN _ _ _ _ hv, fade_wrN _ _ _ _ hv]
  by_cases hnext : k + 1 = i
  · have hprev : k = i - 1 := by omega
    have hne : ¬ k = i := by omega
    rw [if_pos hnext, if_neg hne, hprev]
    exact habove
  · rw [if_neg hnext]
    by_cases hsame : k = i
    · rw [if_pos hsame, hsame]
      exact hbelow
    · rw [if_neg hsame]
      exact hfalls k hk

theorem fade_setErr (d : Dev) (k : Nat) : (d.setBit LK_ERR 9 true).rd (LK_FADE k) = d.rd (LK_FADE k) :=
  rd_setBit_other d LK_ERR 9 true (fade_ne_err k)

theorem exec_fadeWrite_fixed {i : Fin 32} {val : Word} {s : State} (hi : i.val = 0 ∨ i.val = 31) :
    exec (.fadeWrite i val) s = .next s := by
  show execFadeWrite i val s = _
  unfold execFadeWrite
  exact whenUp_same (if_pos hi)

theorem exec_fadeWrite_elsewhere {i : Fin 32} {val : Word} {s : State} (hu : Up s) (hlow : 0 < i.val) (hhigh : i.val < 31)
    (hcur : s.dev.mode.cur ≠ .configure) (hnew : val.get 0 16 ≠ s.dev.fade i) :
    exec (.fadeWrite i val) s = .next { s with dev := s.dev.refuse (LK_FADE i) } := by
  have hi : ¬ (i.val = 0 ∨ i.val = 31) := by omega
  show execFadeWrite i val s = _
  unfold execFadeWrite
  rw [whenUp_up _ _ hu]
  dsimp only
  rw [if_neg hi, if_pos hcur, if_neg (show ¬ val.get 0 16 = s.dev.fld (LK_FADE i) 0 16 from hnew)]

/-- In CONFIGURE an entry that would make the table rise is discarded, and any other is taken. -/
theorem exec_fadeWrite_configure {i : Fin 32} {val : Word} {s : State} (hu : Up s) (hlow : 0 < i.val) (hhigh : i.val < 31)
    (hcur : s.dev.mode.cur = .configure) :
    exec (.fadeWrite i val) s = .next { s with dev := (
      if s.dev.fade (i - 1) < val.get 0 16 ∨ val.get 0 16 < s.dev.fade (i + 1) then s.dev.setBit LK_ERR 9 true
      else s.dev.wrN (LK_FADE i) (val.get 0 16)) } := by
  have hi : ¬ (i.val = 0 ∨ i.val = 31) := by omega
  show execFadeWrite i val s = _
  unfold execFadeWrite
  rw [whenUp_up _ _ hu]
  dsimp only
  rw [if_neg hi, if_neg (by simp [hcur])]
  rfl

/-- A write in CONFIGURE: the table falls on, its ends stay, and the entry is taken where the table allows it. -/
theorem fadeWrite_keeps (i : Fin 32) (val : Word) (s : State) (hu : Up s) (hcur : s.dev.mode.cur = .configure)
    (hfalls : s.dev.fadeFalls) :
    ∃ t, exec (.fadeWrite i val) s = .next t ∧ OnlyDevice s t ∧ t.dev.fadeFalls ∧
      t.dev.rd (LK_FADE 0) = s.dev.rd (LK_FADE 0) ∧ t.dev.rd (LK_FADE 31) = s.dev.rd (LK_FADE 31) ∧
      (0 < i.val → i.val < 31 → s.dev.fade (i + 1) ≤ val.get 0 16 → val.get 0 16 ≤ s.dev.fade (i - 1) →
        t.dev.fade i = val.get 0 16) ∧
      (0 < i.val → i.val < 31 → s.dev.fade (i - 1) < val.get 0 16 → t.dev.bit LK_ERR 9 = true) := by
  by_cases hi : i.val = 0 ∨ i.val = 31
  · refine ⟨s, exec_fadeWrite_fixed hi, ⟨rfl, rfl⟩, hfalls, rfl, rfl, fun _ _ => ?_, fun _ _ => ?_⟩ <;> omega
  · have hlow : 0 < i.val := by omega
    have hhigh : i.val < 31 := by omega
    have hv : val.get 0 16 < 2 ^ 16 := Word.get_lt val 0 16
    refine ⟨_, exec_fadeWrite_configure hu hlow hhigh hcur, ⟨rfl, rfl⟩, ?_⟩
    by_cases hrise : s.dev.fade (i - 1) < val.get 0 16 ∨ val.get 0 16 < s.dev.fade (i + 1)
    · simp only [if_pos hrise]
      refine ⟨fun k hk => ?_, fade_setErr _ _, fade_setErr _ _, fun _ _ _ _ => ?_,
        fun _ _ _ => bit_setBit_same _ _ _ _ (by decide)⟩
      · unfold Dev.fade Dev.fld
        rw [fade_setErr, fade_setErr]
        exact hfalls k hk
      · omega
    · simp only [if_neg hrise]
      refine ⟨fadeFalls_wrN hfalls hv (by omega) (by omega), ?_, ?_, fun _ _ _ _ => ?_, fun _ _ _ => ?_⟩
      · exact rd_wrN_other _ _ _ (mt fade_inj.mp (by omega))
      · exact rd_wrN_other _ _ _ (mt fade_inj.mp (by omega))
      · rw [fade_wrN _ _ _ _ hv, if_pos rfl]
      · omega

/-! ## Lock definitions (R200, R201) -/

/-- LK_ERR.LOCK_BAD is set. -/
def Dev.lockBad (d : Dev) : Dev := d.setBit LK_ERR 8 true

theorem bit_lockBad (d : Dev) : d.lockBad.bit LK_ERR 8 = true := bit_setBit_same _ _ _ _ (by decide)

theorem rd_lockBad {d : Dev} {off : Nat} (h : off ≠ LK_ERR) : d.lockBad.rd off = d.rd off := rd_setBit_other _ _ _ _ h

/-- The definition of lock i replaced, with XMATCH clear and its residuals forgotten. -/
def Dev.lockRedefined (d : Dev) (i : Nat) (v : Word) : Dev :=
  let x := (d.wr (LK_LOCK_CTRL i) v).setBit (LK_LOCK_STATUS i) 16 false
  { x with resids := x.resids.set i default }

theorem ctrl_ne_status (i : Nat) : LK_LOCK_CTRL i ≠ LK_LOCK_STATUS i := by
  unfold LK_LOCK_CTRL LK_LOCK_STATUS
  omega

theorem rd_lockRedefined (d : Dev) (i : Nat) (v : Word) : (d.lockRedefined i v).rd (LK_LOCK_CTRL i) = v :=
  (rd_setBit_other _ (LK_LOCK_STATUS i) 16 false (ctrl_ne_status i)).trans (Dev.rd_wr_same _ _ _)

theorem lockValid_lockRedefined (d : Dev) (i : Nat) (v : Word) : (d.lockRedefined i v).lockValid i = v.bit 31 :=
  congrArg (fun w : Word => w.bit 31) (rd_lockRedefined d i v)

theorem bit_lockRedefined (d : Dev) (i : Nat) (v : Word) : (d.lockRedefined i v).bit (LK_LOCK_STATUS i) 16 = false := by
  show ((d.wr (LK_LOCK_CTRL i) v).setBit (LK_LOCK_STATUS i) 16 false).bit (LK_LOCK_STATUS i) 16 = false
  exact bit_setBit_same _ _ _ _ (by decide)

/-- The word of LK_LOCKi_CTRL that a write stores. -/
def lockWord (val : Word) : Word := val &&& 0x80F0FFFF

/-- What a write of LK_LOCKi_CTRL makes of the device. -/
def Dev.lockDefined (d : Dev) (i : Nat) (w : Word) : Dev :=
  if d.mode.cur ≠ .configure then
    if w = d.rd (LK_LOCK_CTRL i) then d
    else (if (d.lockValid i != w.bit 31 && !d.lay.opened.isEmpty) || (!(d.lockValid i != w.bit 31) && d.lockValid i)
      then d.lockBad else d).refuse (LK_LOCK_CTRL i)
  else if d.lockValid i = w.bit 31 then
    if d.lockValid i then (if w = d.rd (LK_LOCK_CTRL i) then d else d.lockBad) else d.wr (LK_LOCK_CTRL i) w
  else if !d.lay.opened.isEmpty then d.lockBad
  else if w.bit 31 then
    if (d.lockRedefined i w).lockOk i then d.lockRedefined i w else (d.wr (LK_LOCK_CTRL i) (w.putBit 31 false)).lockBad
  else (d.lockRedefined i w).modKeeper (fun k => { k with locks := k.locks.set i default })

theorem exec_lockDefine {i : Fin 64} {val : Word} {s : State} (hu : Up s) :
    exec (.lockDefine i val) s = .next { s with dev := s.dev.lockDefined i (lockWord val) } := by
  show execLockDefine i val s = _
  unfold execLockDefine
  rw [whenUp_up _ _ hu]
  rfl

section define
variable {d : Dev} {i : Nat} {w : Word}

/-- In CONFIGURE nothing comes into or goes out of force while a layer is open, and a lock in force keeps its fields. -/
theorem lockDefined_bad (hcur : d.mode.cur = .configure)
    (hbad : (d.lockValid i ≠ w.bit 31 ∧ d.lay.opened ≠ []) ∨
      (d.lockValid i = true ∧ w.bit 31 = true ∧ w ≠ d.rd (LK_LOCK_CTRL i))) : d.lockDefined i w = d.lockBad := by
  unfold Dev.lockDefined
  rw [if_neg (by simp [hcur])]
  rcases hbad with ⟨hchange, hopen⟩ | ⟨hvalid, hset, hnew⟩
  · rw [if_neg hchange, if_pos (by simpa using hopen)]
  · rw [if_pos (hvalid.trans hset.symm), if_pos hvalid, if_neg hnew]

/-- A lock not in force takes what is written. -/
theorem lockDefined_free (hcur : d.mode.cur = .configure) (hvalid : d.lockValid i = false) (hclear : w.bit 31 = false) :
    d.lockDefined i w = d.wr (LK_LOCK_CTRL i) w := by
  unfold Dev.lockDefined
  rw [if_neg (by simp [hcur]), if_pos (hvalid.trans hclear.symm), if_neg (by simp [hvalid])]

/-- It comes into force where it meets R200; else VALID stays clear. -/
theorem lockDefined_valid (hcur : d.mode.cur = .configure) (hvalid : d.lockValid i = false) (hset : w.bit 31 = true)
    (hopen : d.lay.opened = []) :
    d.lockDefined i w = if (d.lockRedefined i w).lockOk i then d.lockRedefined i w
      else (d.wr (LK_LOCK_CTRL i) (w.putBit 31 false)).lockBad := by
  have hchange : ¬ d.lockValid i = w.bit 31 := by simp [hvalid, hset]
  unfold Dev.lockDefined
  rw [if_neg (by simp [hcur]), if_neg hchange, if_neg (by simp [hopen]), if_pos hset]

/-- It goes out of force with its queue. -/
theorem lockDefined_invalid (hcur : d.mode.cur = .configure) (hvalid : d.lockValid i = true) (hclear : w.bit 31 = false)
    (hopen : d.lay.opened = []) :
    d.lockDefined i w = (d.lockRedefined i w).modKeeper (fun k => { k with locks := k.locks.set i default }) := by
  have hchange : ¬ d.lockValid i = w.bit 31 := by simp [hvalid, hclear]
  unfold Dev.lockDefined
  rw [if_neg (by simp [hcur]), if_neg hchange, if_neg (by simp [hopen]), if_neg (by simp [hclear])]

/-- Elsewhere a write that differs is refused, and what R201 forbids sets LOCK_BAD as well. -/
theorem lockDefined_refused (hcur : d.mode.cur ≠ .configure) (hnew : w ≠ d.rd (LK_LOCK_CTRL i))
    (hbad : (d.lockValid i ≠ w.bit 31 ∧ d.lay.opened ≠ []) ∨ (d.lockValid i = true ∧ w.bit 31 = true)) :
    d.lockDefined i w = d.lockBad.refuse (LK_LOCK_CTRL i) := by
  have hforbidden : ((d.lockValid i != w.bit 31 && !d.lay.opened.isEmpty) ||
      (!(d.lockValid i != w.bit 31) && d.lockValid i)) = true := by
    rcases hbad with ⟨hchange, hopen⟩ | ⟨hvalid, hset⟩
    · simp [hchange, hopen]
    · simp [hvalid, hset]
  unfold Dev.lockDefined
  rw [if_pos hcur, if_neg hnew, if_pos hforbidden]

/-- A write of what the register holds changes nothing outside CONFIGURE. -/
theorem lockDefined_same (hcur : d.mode.cur ≠ .configure) (hsame : w = d.rd (LK_LOCK_CTRL i)) :
    d.lockDefined i w = d := by
  unfold Dev.lockDefined
  rw [if_pos hcur, if_pos hsame]

/-- A definition that comes into force meets R200; one that does not sets LOCK_BAD. -/
theorem lockDefined_sets (hcur : d.mode.cur = .configure) (hvalid : d.lockValid i = false) (hset : w.bit 31 = true)
    (hopen : d.lay.opened = []) :
    ((d.lockDefined i w).lockValid i = true → (d.lockRedefined i w).lockOk i = true ∧
      (d.lockDefined i w).rd (LK_LOCK_CTRL i) = w ∧ (d.lockDefined i w).bit (LK_LOCK_STATUS i) 16 = false) ∧
    ((d.lockDefined i w).lockValid i = false → (d.lockDefined i w).bit LK_ERR 8 = true) := by
  rw [lockDefined_valid hcur hvalid hset hopen]
  by_cases hok : (d.lockRedefined i w).lockOk i = true
  · rw [if_pos hok]
    refine ⟨fun _ => ⟨hok, rd_lockRedefined _ _ _, bit_lockRedefined _ _ _⟩, fun h => ?_⟩
    rw [lockValid_lockRedefined, hset] at h
    cases h
  · rw [if_neg hok]
    refine ⟨fun h => ?_, fun _ => bit_lockBad _⟩
    have hctrl : LK_LOCK_CTRL i ≠ LK_ERR := by
      unfold LK_LOCK_CTRL LK_ERR
      omega
    rw [Dev.lockValid, Dev.bit, rd_lockBad hctrl, Dev.rd_wr_same, Word.putBit, Word.bit_put _ _ _ _ _ (by decide)] at h
    simp at h

/-- What LOCK_BAD discards leaves every other register. -/
theorem lockDefined_discards (hcur : d.mode.cur = .configure)
    (hbad : (d.lockValid i ≠ w.bit 31 ∧ d.lay.opened ≠ []) ∨
      (d.lockValid i = true ∧ w.bit 31 = true ∧ w ≠ d.rd (LK_LOCK_CTRL i))) :
    (d.lockDefined i w).bit LK_ERR 8 = true ∧ ∀ off, off ≠ LK_ERR → (d.lockDefined i w).rd off = d.rd off := by
  rw [lockDefined_bad hcur hbad]
  exact ⟨bit_lockBad d, fun _ => rd_lockBad⟩

theorem lockDefined_clears (hcur : d.mode.cur = .configure) (hvalid : d.lockValid i = true) (hclear : w.bit 31 = false)
    (hopen : d.lay.opened = []) :
    (d.lockDefined i w).lockValid i = false ∧ (d.lockDefined i w).rd (LK_LOCK_CTRL i) = w ∧
      (d.lockDefined i w).bit (LK_LOCK_STATUS i) 16 = false := by
  rw [lockDefined_invalid hcur hvalid hclear hopen]
  exact ⟨(lockValid_lockRedefined d i w).trans hclear, rd_lockRedefined d i w, bit_lockRedefined d i w⟩

end define

/-- Settles O33: the fade table by `fadeWrite_keeps`, lock definitions by the cases of `Dev.lockDefined`. -/
theorem lockTables : Obligations.LockTables := by
  refine ⟨fadeWrite_keeps, fun i val s hu => ⟨exec_fadeWrite_fixed, exec_fadeWrite_elsewhere hu⟩,
    fun i val v s hu hcur hv => ?_, fun i val v s hu hcur hv => ?_⟩
  · obtain rfl : v = lockWord val := hv
    have hnext := exec_lockDefine (i := i) (val := val) hu
    refine ⟨fun hvalid hset hopen => ⟨_, hnext, ⟨rfl, rfl⟩, lockDefined_sets hcur hvalid hset hopen⟩,
      fun hchange hopen => ⟨_, hnext, ⟨rfl, rfl⟩, lockDefined_discards hcur (Or.inl ⟨hchange, hopen⟩)⟩,
      fun hvalid hset hnew => ⟨_, hnext, ⟨rfl, rfl⟩, lockDefined_discards hcur (Or.inr ⟨hvalid, hset, hnew⟩)⟩,
      fun hvalid hclear => ?_,
      fun hvalid hclear hopen => ⟨_, hnext, ⟨rfl, rfl⟩, lockDefined_clears hcur hvalid hclear hopen⟩⟩
    rw [hnext, lockDefined_free hcur hvalid hclear]
  · obtain rfl : v = lockWord val := hv
    have hnext := exec_lockDefine (i := i) (val := val) hu
    refine ⟨fun hsame => ?_, fun hnew hbad => ?_⟩
    · rw [hnext, lockDefined_same hcur hsame]
    · rw [hnext, lockDefined_refused hcur hnew hbad]
      rfl

end Sys2Proof.Machine
end

section
/-! SUPPORT. REPLAY_LAYER, and O35 (R228, R229). -/

namespace Sys2Proof.Machine

section checks
variable {q : Req} {e : Env} {d : Dev} {m rec : List Byte} {items : List (Nat × List Byte)}
  {barges rows : List (List Byte)}
  (hm : m = e.data) (hrec : rec = e.blob.take (bytesAt m 16 4))
  (hitems : items = parseItems rec.length ((rec.drop 128).take (bytesAt rec 80 4)))
  (hbarges : barges = cutBy ((piecesOf 16 (bytesAt m 6 2) (m.drop 64)).map (fun x => bytesAt x 8 4))
    (e.blob.drop (bytesAt m 16 4)))
  (hrows : rows = piecesOf 56 65535 (itemsOf 8 items))

include hm

/-- Check 1 of R229: the manifest's own code. -/
theorem replayLayer_crc (hcrc : crc32c (m.take 60) ≠ bytesAt m 60 4) :
    cmdReplayLayer.effect q e d = d.fail q stCrc 0x0C21 := by
  subst hm
  exact if_pos hcrc

/-- Check 2 of R229: the manifest's form. -/
theorem replayLayer_manifest (hcrc : crc32c (m.take 60) = bytesAt m 60 4) (hbad : manifestBad m = true) :
    cmdReplayLayer.effect q e d = d.fail q stMalformed 0x0C22 := by
  subst hm
  exact (if_neg (not_not_intro hcrc)).trans (if_pos hbad)

include hrec

/-- Check 3 of R229: the record's signature. -/
theorem replayLayer_unsigned (hcrc : crc32c (m.take 60) = bytesAt m 60 4) (hform : manifestBad m = false)
    (hsig : recordSigned rec = false) : cmdReplayLayer.effect q e d = d.fail q stDenied 0x0C23 := by
  subst hm hrec
  exact (if_neg (not_not_intro hcrc)).trans ((if_neg (by simp [hform])).trans (if_pos (by simp [hsig])))

include hitems hbarges hrows

/-- Check 4 of R229: the barges are those of the record. -/
theorem replayLayer_barges (hcrc : crc32c (m.take 60) = bytesAt m 60 4) (hform : manifestBad m = false)
    (hsig : recordSigned rec = true) (hnone : d.replayBarges q rec d.replayStart [] barges rows = none) :
    cmdReplayLayer.effect q e d = d.fail q stMalformed 0x0C24 := by
  subst hm hrec hitems hbarges hrows
  refine (if_neg (not_not_intro hcrc)).trans ((if_neg (by simp [hform])).trans ((if_neg (by simp [hsig])).trans ?_))
  rw [hnone]

/-- Check 5 of R229: tables and grids are loaded; a layer that passes all checks is replayed. -/
theorem replayLayer_checked (hcrc : crc32c (m.take 60) = bytesAt m 60 4) (hform : manifestBad m = false)
    (hsig : recordSigned rec = true) {bs : List Barge}
    (hsome : d.replayBarges q rec d.replayStart [] barges rows = some bs) :
    cmdReplayLayer.effect q e d = if !d.replayLoaded items then d.fail q stLimit 0x0C25
      else d.startReplay q (recordedLayer rec bs d.replayStart) (keeperEvents items) := by
  subst hm hrec hitems hbarges hrows
  refine (if_neg (not_not_intro hcrc)).trans ((if_neg (by simp [hform])).trans ((if_neg (by simp [hsig])).trans ?_))
  rw [hsome]

end checks

theorem exec_replayLayer {r : Req} {e : Env} {s : State} (h : TakesData s 0x0C20 cmdReplayLayer r e) :
    exec (.replayLayer r e) s =
      .next { s with dev := cmdReplayLayer.effect (asOp 0x0C20 r) (envOf r e) (started s 0x0C20 r) } :=
  command_takesData s 0x0C20 cmdReplayLayer r e h

/-- A replay sets aside layers, keeper and engines as they are, and leaves the operational ledger and the mode. -/
theorem startReplay_keeps (s : State) (r : Req) (q : Req) (l : Layer) (events : List (List Byte)) :
    ∃ x, ((started s 0x0C20 r).startReplay q l events).replay = some x ∧ x.req = q ∧
      x.opened = s.dev.lay.opened ∧ x.keeper = s.dev.keeper ∧ x.engines = s.dev.engines ∧
      ((started s 0x0C20 r).startReplay q l events).ldg.copy = s.dev.ldg.copy ∧
      ((started s 0x0C20 r).startReplay q l events).mode = s.dev.mode :=
  ⟨_, rfl, rfl, rfl, rfl, rfl, rfl, rfl⟩

/-- Settles O35: the checks of R229 in their order. -/
theorem replayRefusesWhatDoesNotCheck : Obligations.ReplayRefusesWhatDoesNotCheck := by
  intro r e s q d m rec items barges rows h hq hd hm hrec hitems hbarges hrows
  rw [exec_replayLayer h, ← hq, ← hd]
  have hm : m = (envOf r e).data := hm
  refine ⟨fun hcrc => ?_, fun hcrc hbad => ?_, fun hcrc hform => ⟨fun hsig => ?_, fun hsig => ⟨fun hnone => ?_,
    fun bs hsome => ?_⟩⟩⟩
  · rw [replayLayer_crc hm hcrc]
  · rw [replayLayer_manifest hm hcrc hbad]
  · rw [replayLayer_unsigned hm hrec hcrc hform hsig]
  · rw [replayLayer_barges hm hrec hitems hbarges hrows hcrc hform hsig hnone]
  · rw [replayLayer_checked hm hrec hitems hbarges hrows hcrc hform hsig hsome]
    refine ⟨fun hload => ?_, fun hload => ?_⟩
    · rw [if_pos (by simp [hload])]
    · rw [if_neg (by simp [hload]), hd]
      obtain ⟨x, hx⟩ := startReplay_keeps s r q (recordedLayer rec bs (started s 0x0C20 r).replayStart) (keeperEvents items)
      exact ⟨_, x, rfl, ⟨rfl, rfl⟩, rfl, hx⟩

end Sys2Proof.Machine
end

section
/-! SUPPORT. Messages of other devices, taken here or sent on, what the members tell, and O46 (R225, R367, R374, R383,
R384). -/

namespace Sys2Proof.Machine

/-! ## A message is taken, sent on or dropped (R367) -/

section routed
variable {s : State} {src : Dev → Nat} {dst type : Nat} {content : List Int} {take : Dev → Dev}

theorem routed_here {d : Dev} {k : Nat} (hd : dst = d.devId) : d.routed k dst type content take = take d := if_pos hd

theorem routed_away {d : Dev} {k : Nat} (hd : dst ≠ d.devId) (hin : d.byf.inside = true) :
    d.routed k dst type content take = d.sendFrom k dst type content := by
  unfold Dev.routed
  rw [if_neg hd, if_pos (by simp [hin])]

theorem routed_dropped {d : Dev} {k : Nat} (hd : dst ≠ d.devId) (hin : d.byf.inside = false) (htype : type ≠ 1) :
    d.routed k dst type content take = d := by
  unfold Dev.routed
  rw [if_neg hd, if_neg (by simp [hin, htype])]

theorem on_here (ha : Awake s) (hd : dst = s.dev.devId) :
    s.on (fun d => d.routed (src d) dst type content take) = .next { s with dev := take s.dev } := by
  rw [on_awake s _ ha, routed_here hd]

theorem on_here_same (hd : dst = s.dev.devId) (h : take s.dev = s.dev) :
    s.on (fun d => d.routed (src d) dst type content take) = .next s :=
  on_same ((routed_here hd).trans h)

theorem on_away (ha : Awake s) (hd : dst ≠ s.dev.devId) (hin : s.dev.byf.inside = true) :
    s.on (fun d => d.routed (src d) dst type content take) =
      .next { s with dev := s.dev.sendFrom (src s.dev) dst type content } := by
  rw [on_awake s _ ha, routed_away hd hin]

theorem on_dropped (hd : dst ≠ s.dev.devId) (hin : s.dev.byf.inside = false) (htype : type ≠ 1) :
    s.on (fun d => d.routed (src d) dst type content take) = .next s :=
  on_same (routed_dropped hd hin htype)

end routed

theorem next_congr {s : State} {a b : Dev} (h : a = b) :
    (Host.Outcome.next { s with dev := a } : Host.Outcome State Fault Refusal) = .next { s with dev := b } := by rw [h]

/-- A stranger's message changes nothing. -/
theorem stranger_same {d : Dev} {v : Nat} {f : Dev} (h : d.members.contains v = false) :
    (if !d.members.contains v then d else f) = d := if_pos (by rw [h]; rfl)

/-- A member's is heard. -/
theorem member_heard {d : Dev} {v : Nat} {f : Dev} (h : d.members.contains v = true) :
    (if !d.members.contains v then d else f) = f := if_neg (by rw [h]; decide)

/-! ## Time over the link (R374, R398) -/

/-- `b` has the time bases of `a`. -/
def SameTime (a b : Dev) : Prop := b.time = a.time

theorem SameTime.refl (a : Dev) : SameTime a a := rfl

theorem SameTime.trans {a b c : Dev} (h : SameTime a b) (k : SameTime b c) : SameTime a c := Eq.trans k h

theorem Recorded.sameTime {a b : Dev} (h : Recorded a b) : SameTime a b := by
  obtain ⟨_, _, _, _, _, _, _, _, rfl⟩ := h
  rfl

theorem sameTime_stopReplay (d : Dev) : SameTime d d.stopReplay := by
  unfold Dev.stopReplay Dev.endReplay
  split
  · exact SameTime.refl d
  · refine SameTime.trans ?_ (recorded_complete _ _ _ _ _).sameTime
    rfl

theorem sameTime_holdTrigger (d : Dev) (trig : Nat) (atLayerEnd quiet : Bool) :
    SameTime d (d.holdTrigger trig atLayerEnd quiet) := by
  unfold Dev.holdTrigger
  split
  · exact sameTime_stopReplay d
  · split
    · split <;> rfl
    · refine SameTime.trans ?_ (recorded_emit _ _ _ _).sameTime
      show SameTime d (match d.mode.leaveReq with | some q => d.fail q stAborted 0 | none => d)
      split
      · exact (recorded_complete _ _ _ _ _).sameTime
      · exact SameTime.refl d

/-- A fault that is recorded, or that asks for HOLD, leaves the time bases. -/
theorem sameTime_react (d : Dev) (how : How) (src cause : Nat) (p : Word) {c : Cls} (hc : c = .note ∨ c = .hold) :
    SameTime d (d.react how src cause p c) := by
  rcases hc with rfl | rfl
  · exact SameTime.refl d
  · have hlive : ∀ b, SameTime d ((d.addLive src cause .hold b).errPulse) := fun _ => rfl
    exact (hlive _).trans (sameTime_holdTrigger _ _ _ _)

theorem sameTime_raiseHow (d : Dev) (how : How) (src cause : Nat) (p : Word)
    (hc : ∀ c, how.classOf d src cause p = some c → c = .note ∨ c = .hold) :
    SameTime d (d.raiseHow how src cause p) := by
  unfold Dev.raiseHow
  split
  · exact SameTime.refl d
  · next c0 h0 =>
    have hclass : (if d.promotes src c0 then Cls.hold else c0) = .note ∨
        (if d.promotes src c0 then Cls.hold else c0) = .hold := by
      split
      · exact Or.inr rfl
      · exact hc c0 h0
    dsimp only
    split
    · exact (recorded_recordFault _ _ _ _ _ _ _).sameTime.trans (sameTime_react _ _ _ _ _ hclass)
    · exact (recorded_recordFault _ _ _ _ _ _ _).sameTime

/-- TIME_ALIGN is a NOTE-class fault, or a HOLD-class one while the device exposes (R374). -/
theorem classOf_align (d : Dev) (p : Word) (c : Cls) (h : How.real.classOf d 29 5 p = some c) : c = .note ∨ c = .hold := by
  have hclass : How.real.classOf d 29 5 p =
      if nByoft d.variant = 0 then none else some (if d.exposing then .hold else .note) := rfl
  rw [hclass] at h
  split at h
  · cases h
  · cases h
    split
    · exact Or.inr rfl
    · exact Or.inl rfl

theorem sameTime_align (d : Dev) : SameTime d (d.fault 29 5) := by
  have hfree : SameTime d d.free.2 := rfl
  exact hfree.trans (sameTime_raiseHow d.free.2 .real 29 5 _ (classOf_align _ _))

/-- The answer of a neighbour that time does not come from changes nothing. -/
theorem exec_timeReply_other {p : Fin 4} {t1 t2 t3 t4 : Word64} {s : State}
    (h : s.dev.time.follows = false ∨ s.dev.timePort ≠ some p.val) : exec (.timeReply p t1 t2 t3 t4) s = .next s := by
  show execTimeReply p t1 t2 t3 t4 s = _
  unfold execTimeReply
  exact on_same (if_pos (by simpa using h))

/-- The delay and the offset that the four stamps of a measurement give (R374). -/
def replyDelay (t1 t2 t3 t4 : Word64) : Int := (((t4.toNat : Int) - t1.toNat) - ((t3.toNat : Int) - t2.toNat)) / 2

def replyOffset (t1 t2 t3 t4 : Word64) : Int := (t2.toNat : Int) - t1.toNat - replyDelay t1 t2 t3 t4

/-- Delay and offset as the registers show them. -/
def Dev.replied (d : Dev) (p : Nat) (delay ofs : Int) : Dev :=
  (d.wrN (BYF_PORT_DELAY p) (unsigned 32 delay)).wrN BYF_TIME_OFS (unsigned 32 ofs)

/-- The correction a member takes from an offset. -/
def Dev.corrected (d : Dev) (ofs : Int) : Dev := d.modTime (fun c => { c with corr := -ofs })

/-- Whether the offset lies out of its limit is kept, and its begin or end reported. -/
def Dev.alignReport (d : Dev) (out was : Bool) : Dev :=
  if out && (!was || ((d.modByf (fun b => { b with align := out })).exposing &&
      !(d.modByf (fun b => { b with align := out })).standing 29 5)) then
    (d.modByf (fun b => { b with align := out })).fault 29 5
  else if !out then (d.modByf (fun b => { b with align := out })).endCause 29 5
  else d.modByf (fun b => { b with align := out })

theorem sameTime_alignReport (d : Dev) (out was : Bool) : SameTime d (d.alignReport out was) := by
  have hmod : SameTime d (d.modByf (fun b => { b with align := out })) := rfl
  unfold Dev.alignReport
  split
  · exact hmod.trans (sameTime_align _)
  · split
    · exact hmod.trans rfl
    · exact hmod

section reply
variable {p : Fin 4} {t1 t2 t3 t4 : Word64} {s : State} (ha : Awake s) (hf : s.dev.time.follows = true)
  (hp : s.dev.timePort = some p.val)
include ha hf hp

/-- A device that is not admitted steps by the offset. -/
theorem exec_timeReply_outside (hin : s.dev.byf.inside = false) :
    exec (.timeReply p t1 t2 t3 t4) s = .next { s with dev := (
      if replyOffset t1 t2 t3 t4 = 0 then s.dev.replied p (replyDelay t1 t2 t3 t4) (replyOffset t1 t2 t3 t4)
      else (s.dev.replied p (replyDelay t1 t2 t3 t4) (replyOffset t1 t2 t3 t4)).stepTb3 (-replyOffset t1 t2 t3 t4)) } := by
  show execTimeReply p t1 t2 t3 t4 s = _
  unfold execTimeReply
  rw [on_awake s _ ha]
  refine next_congr ?_
  refine (if_neg (by simp [hf, hp])).trans ((if_pos ?_).trans rfl)
  show (!s.dev.byf.inside) = true
  rw [hin]
  rfl

/-- A member corrects its time by the offset, and reports one beyond TIME_ALIGN's limit or its end. -/
theorem exec_timeReply_inside (hin : s.dev.byf.inside = true) :
    ∃ out, exec (.timeReply p t1 t2 t3 t4) s = .next { s with dev := ((s.dev.replied p (replyDelay t1 t2 t3 t4)
      (replyOffset t1 t2 t3 t4)).corrected (replyOffset t1 t2 t3 t4)).alignReport out s.dev.byf.align } := by
  refine ⟨decide ((((s.dev.replied p (replyDelay t1 t2 t3 t4) (replyOffset t1 t2 t3 t4)).corrected
    (replyOffset t1 t2 t3 t4)).fld BYF_TIME_CFG 0 8) < (replyOffset t1 t2 t3 t4).natAbs), ?_⟩
  show execTimeReply p t1 t2 t3 t4 s = _
  unfold execTimeReply
  rw [on_awake s _ ha]
  refine next_congr ?_
  refine (if_neg (by simp [hf, hp])).trans ((if_neg ?_).trans rfl)
  show ¬ (!s.dev.byf.inside) = true
  rw [hin]
  decide

end reply

/-- A TIME_SYNC is answered on its connection, and a step it announces is kept by a member. -/
theorem exec_timeSync_here {p : Fin 4} {dst : Fin 8} {t1 : Word64} {s : State} (ha : Awake s) (hd : dst.val = s.dev.devId)
    {v k : Nat} (hstate : (s.dev.bport p).state = 2) (hpeer : (s.dev.bport p).peer = some (v, k)) :
    exec (.timeSync ⟨p, dst⟩ t1 none) s =
      .next { s with dev := s.dev.sendTo v 0x03 [(t1.toNat : Int), (s.dev.tb3 : Int), (s.dev.tb3 : Int)] } ∧
    ∀ (j : Int) (n : Nat), s.dev.byf.inside = true →
      exec (.timeSync ⟨p, dst⟩ t1 (some (j, n))) s = .next { s with dev :=
        ((s.dev.modTime (fun c => { c with stepAt := some (n, j) })).sendTo v 0x03
          [(t1.toNat : Int), (s.dev.tb3 : Int), (s.dev.tb3 : Int)]) } := by
  refine ⟨?_, fun j n hin => ?_⟩
  · show execTimeSync ⟨p, dst⟩ t1 none s = _
    unfold execTimeSync
    rw [on_here ha hd, hstate, hpeer]
    rfl
  · show execTimeSync ⟨p, dst⟩ t1 (some (j, n)) s = _
    unfold execTimeSync
    rw [on_here ha hd, hstate, hpeer]
    dsimp only
    rw [if_pos hin]
    rfl

/-- On a port without a neighbour in link service nothing is answered. -/
theorem exec_timeSync_unlinked {p : Fin 4} {dst : Fin 8} {t1 : Word64} {s : State} (hd : dst.val = s.dev.devId)
    (step : Option (Int × Nat)) (h : (s.dev.bport p).state ≠ 2 ∨ (s.dev.bport p).peer = none) :
    exec (.timeSync ⟨p, dst⟩ t1 step) s = .next s := by
  show execTimeSync ⟨p, dst⟩ t1 step s = _
  unfold execTimeSync
  refine on_here_same hd ?_
  dsimp only
  split
  · next v k hstate hpeer =>
    rcases h with h | h
    · exact absurd hstate h
    · rw [h] at hpeer
      cases hpeer
  · rfl

theorem exec_timeSyncInterval_alone {s : State} (h : s.dev.portPeers = []) : exec .timeSyncInterval s = .next s := by
  show execTimeSyncInterval s = _
  unfold execTimeSyncInterval
  refine on_same ?_
  dsimp only
  rw [h]
  rfl

theorem exec_timeSyncInterval_master {s : State} {v : Nat} (ha : Awake s) (h : s.dev.portPeers = [v])
    (hm : s.dev.master = s.dev.devId) :
    exec .timeSyncInterval s = .next { s with dev := s.dev.sendTo v 0x02 [(s.dev.tb3 : Int)] } := by
  have hone : [v].eraseDups = [v] := rfl
  show execTimeSyncInterval s = _
  unfold execTimeSyncInterval
  rw [on_awake s _ ha]
  dsimp only
  rw [h, hone, List.filter_cons_of_pos (by simp [hm])]
  rfl

/-! ## Modes, events, progress, dry times and T_sync of the members (R225, R383, R384) -/

/-- The class a member gives its fault. -/
def heardClass (x : FwdEvent) : Cls :=
  match x.flags.toNat / 2 % 4 with | 0 => .note | 1 => .fence | 2 => .hold | _ => .safe

/-- An event of member v, in the recorder's order. -/
def Dev.heardEvent (d : Dev) (v : Nat) (x : FwdEvent) : Dev :=
  d.queueEvent ⟨x.t.toNat, v, x.src.toNat, x.code.toNat, x.flags.toNat ||| 32, pay x.payload⟩

theorem assocGet_assocPut (l : List (Nat × Nat)) (k n : Nat) : assocGet (assocPut l k n) k = n := by
  simp [assocGet, assocPut]

section heard
variable {v dst : Fin 8} {s : State} (hd : dst.val = s.dev.devId)
include hd

section member
variable (ha : Awake s) (hv : s.dev.members.contains v.val = true)
include ha hv

theorem exec_modeNote_member (m : BitVec 3) (c : BitVec 8) :
    exec (.modeNote ⟨v, dst⟩ m c) s = .next { s with dev := (if m = 4 then (s.dev.peerMode v 4).fault 29 6
      else if m = 5 then (s.dev.peerMode v 5).fault 29 7 else s.dev.peerMode v m.toNat) } := by
  show execModeNote ⟨v, dst⟩ m c s = _
  unfold execModeNote
  rw [on_here ha hd]
  refine next_congr ((member_heard hv).trans ?_)
  by_cases hhold : m = 4
  · have hcode : m.toNat = 4 := congrArg BitVec.toNat hhold
    rw [if_pos hhold, hcode]
    exact if_pos rfl
  · by_cases hsafe : m = 5
    · have hcode : m.toNat = 5 := congrArg BitVec.toNat hsafe
      rw [if_neg hhold, if_pos hsafe, hcode]
      exact (if_neg (by decide)).trans (if_pos rfl)
    · rw [if_neg hhold, if_neg hsafe]
      have hhold' : ¬ m.toNat = Mode.hold.code := fun h => hhold (BitVec.eq_of_toNat_eq h)
      have hsafe' : ¬ m.toNat = Mode.safe.code := fun h => hsafe (BitVec.eq_of_toNat_eq h)
      exact (if_neg hhold').trans (if_neg hsafe')

/-- An event of a member that is no fault enters the recorder's order; one of a mode change is noted as well. -/
theorem exec_forwardedEvent_plain {x : FwdEvent} (hfault : x.flags.getLsbD 0 = false) :
    exec (.forwardedEvent ⟨v, dst⟩ x) s = .next { s with dev := (
      if x.src = 1 ∧ x.code = 0x20 then (s.dev.heardEvent v x).peerMode v (bytesAt x.payload 0 1)
      else s.dev.heardEvent v x) } := by
  show execForwardedEvent ⟨v, dst⟩ x s = _
  unfold execForwardedEvent
  rw [on_here ha hd]
  refine next_congr ((member_heard hv).trans ?_)
  exact if_neg (by rw [hfault]; decide)

/-- A fault of a member enters the history too. -/
theorem exec_forwardedEvent_fault {x : FwdEvent} (hfault : x.flags.getLsbD 0 = true)
    (hmode : ¬ (x.src = 1 ∧ x.code = 0x20)) :
    ∃ f : Hist, f.t = x.t.toNat ∧ f.src = x.src.toNat ∧ f.cause = x.code.toNat ∧ f.dev = v.val ∧ f.forwarded = true ∧
      exec (.forwardedEvent ⟨v, dst⟩ x) s = .next { s with dev := (s.dev.heardEvent v x).enter f } := by
  refine ⟨⟨_, _, _, heardClass x, _, x.flags.getLsbD 3, _, x.flags.getLsbD 4, false,
    BitVec.ofNat 32 (bytesAt x.payload 0 4), nextSeq (s.dev.heardEvent v x).flt.seq⟩, rfl, rfl, rfl, rfl, rfl, ?_⟩
  show execForwardedEvent ⟨v, dst⟩ x s = _
  unfold execForwardedEvent
  rw [on_here ha hd]
  refine next_congr ((member_heard hv).trans ((if_pos hfault).trans ?_))
  rw [if_neg hmode]
  rfl

theorem exec_progress_member (t : Word64) : exec (.progress ⟨v, dst⟩ t) s = .next { s with dev :=
    (s.dev.modByf (fun b => { b with heard := assocPut b.heard v t.toNat })).admitHalves } := by
  show execProgress ⟨v, dst⟩ t s = _
  unfold execProgress
  rw [on_here ha hd]
  exact next_congr (if_pos hv)

/-- T_sync of a half 0 is kept for the layer that runs. -/
theorem exec_xsync_member (vec : Word) (t : Word64) :
    (s.dev.running = none → exec (.xsync ⟨v, dst⟩ vec t) s = .next s) ∧
    (∀ l : Layer, s.dev.running = some l → exec (.xsync ⟨v, dst⟩ vec t) s = .next { s with dev :=
      (s.dev.modKeeper (fun k => { k with syncs := List.cons (l.num, vec.toNat, t.toNat) k.syncs })) }) := by
  show (_ → execXsync ⟨v, dst⟩ vec t s = _) ∧ ∀ l : Layer, _ → execXsync ⟨v, dst⟩ vec t s = _
  unfold execXsync
  refine ⟨fun hrun => on_here_same hd ?_, fun l hrun => ?_⟩
  · rw [hrun]
  · rw [on_here ha hd, hrun]
    exact next_congr (if_pos hv)

/-- The dry time of a member's beam is kept. -/
theorem exec_qtime_member (q : List (Fin 16 × Word)) :
    ∃ t, exec (.qtime ⟨v, dst⟩ q) s = .next t ∧ OnlyDevice s t ∧ t.dev.regs = s.dev.regs ∧
      ∀ b w, q = [(b, w)] → assocGet t.dev.keeper.peerQ (v.val * 16 + b.val) = w.toNat := by
  refine ⟨{ s with dev := s.dev.modKeeper (fun k => { k with
    peerQ := q.foldl (fun l y => assocPut l (v.val * 16 + y.1.val) y.2.toNat) k.peerQ }) }, ?_, ⟨rfl, rfl⟩, rfl, ?_⟩
  · show execQtime ⟨v, dst⟩ q s = _
    unfold execQtime
    rw [on_here ha hd]
    exact next_congr (member_heard hv)
  · rintro b w rfl
    exact assocGet_assocPut _ _ _

end member

/-- A device that is no member is not heard. -/
theorem exec_stranger (hv : s.dev.members.contains v.val = false) (m : BitVec 3) (c : BitVec 8) (x : FwdEvent) (t : Word64)
    (q : List (Fin 16 × Word)) (vec : Word) :
    exec (.modeNote ⟨v, dst⟩ m c) s = .next s ∧ exec (.forwardedEvent ⟨v, dst⟩ x) s = .next s ∧
      exec (.progress ⟨v, dst⟩ t) s = .next s ∧ exec (.qtime ⟨v, dst⟩ q) s = .next s ∧
      exec (.xsync ⟨v, dst⟩ vec t) s = .next s := by
  have hnot : ¬ s.dev.members.contains v.val = true := by rw [hv]; decide
  refine ⟨show execModeNote ⟨v, dst⟩ m c s = _ from on_here_same hd (stranger_same hv),
    show execForwardedEvent ⟨v, dst⟩ x s = _ from on_here_same hd (stranger_same hv),
    show execProgress ⟨v, dst⟩ t s = _ from on_here_same hd (if_neg hnot),
    show execQtime ⟨v, dst⟩ q s = _ from on_here_same hd (stranger_same hv),
    show execXsync ⟨v, dst⟩ vec t s = _ from on_here_same hd ?_⟩
  dsimp only
  split
  · exact if_neg hnot
  · rfl

end heard

/-- Settles O46: each message by its branch of `Dev.routed`, the correction of a member by `sameTime_alignReport`. -/
theorem membersTell : Obligations.MembersTell := by
  refine ⟨fun p dst t1 s ha hd => ⟨fun v k => exec_timeSync_here ha hd, fun step => exec_timeSync_unlinked hd step⟩,
    fun s _ => exec_timeSyncInterval_alone, fun s v ha => exec_timeSyncInterval_master ha, ?_,
    fun p t1 t2 t3 t4 s => exec_timeReply_other, fun v dst s ha hd hv => ?_, fun v dst m c x t q vec s hd hv =>
      exec_stranger hd hv m c x t q vec, fun p v dst m c x t q vec s ha hd => ⟨fun hin => ?_, fun hin => ?_⟩⟩
  · rintro p t1 t2 t3 t4 s delay ofs ha hf hp - rfl rfl
    refine ⟨fun hin => ?_, fun hin => ⟨_, rfl, exec_timeReply_outside ha hf hp hin⟩⟩
    obtain ⟨out, hnext⟩ := exec_timeReply_inside (t1 := t1) (t2 := t2) (t3 := t3) (t4 := t4) ha hf hp hin
    exact ⟨_, hnext, ⟨rfl, rfl⟩, congrArg (·.corr) (sameTime_alignReport _ _ _)⟩
  · refine ⟨exec_modeNote_member hd ha hv, ?_, exec_progress_member hd ha hv, exec_xsync_member hd ha hv,
      exec_qtime_member hd ha hv⟩
    rintro x d rfl
    refine ⟨fun hfault => ⟨fun hmode => ?_, fun hsrc hcode => ?_⟩, exec_forwardedEvent_fault hd ha hv⟩
    · rw [exec_forwardedEvent_plain hd ha hv hfault, if_neg hmode]
      rfl
    · rw [exec_forwardedEvent_plain hd ha hv hfault, if_pos ⟨hsrc, hcode⟩]
      rfl
  · exact ⟨show execTimeSync ⟨p, dst⟩ t none s = _ from on_away ha hd hin,
      show execModeNote ⟨v, dst⟩ m c s = _ from on_away ha hd hin, show execQtime ⟨v, dst⟩ q s = _ from on_away ha hd hin,
      show execXsync ⟨v, dst⟩ vec t s = _ from on_away ha hd hin,
      show execForwardedEvent ⟨v, dst⟩ x s = _ from on_away ha hd hin,
      show execProgress ⟨v, dst⟩ t s = _ from on_away ha hd hin⟩
  · exact ⟨show execTimeSync ⟨p, dst⟩ t none s = _ from on_dropped hd hin (by decide),
      show execModeNote ⟨v, dst⟩ m c s = _ from on_dropped hd hin (by decide),
      show execQtime ⟨v, dst⟩ q s = _ from on_dropped hd hin (by decide),
      show execXsync ⟨v, dst⟩ vec t s = _ from on_dropped hd hin (by decide),
      show execForwardedEvent ⟨v, dst⟩ x s = _ from on_dropped hd hin (by decide),
      show execProgress ⟨v, dst⟩ t s = _ from on_dropped hd hin (by decide)⟩

end Sys2Proof.Machine
end

section
/-! SUPPORT. Lock entries, shifts and residuals across devices, and O47 (R225, R380, R382, R385, R388, R391). -/

namespace Sys2Proof.Machine

/-! ## Entries sent to a member (R225, R380, R388) -/

section xassign
variable {v dst : Fin 8} {x : XAssign} {s : State} (hd : dst.val = s.dev.devId)
include hd

/-- An entry for a live beam is queued, a stitch half among the halves, and acknowledged. -/
theorem exec_xassign_taken (ha : Awake s) {n : Nat} (hv : s.dev.members.contains v.val = true)
    (hbuild : s.dev.mode.cur = .build) (hlive : s.dev.beamLive x.beam = true) (heng : s.dev.engineOf x.beam = some n) :
    exec (.xassign ⟨v, dst⟩ x) s = .next { s with dev := (
      (if x.half.isSome then (s.dev.modKeeper (fun k => { k with
          halves := putHalf ⟨x.t, v, x.seq, n, XAssign.unit x v s.dev.tick, none⟩ k.halves })).admitHalves
        else s.dev.enqueue n (XAssign.unit x v s.dev.tick)).sendTo v 0x12 [((XAssign.unit x v s.dev.tick).vec : Int)]) } := by
  have hhalf : (XAssign.unit x v s.dev.tick).half.isSome = x.half.isSome := Option.isSome_map
  show execXassign ⟨v, dst⟩ x s = _
  unfold execXassign
  rw [on_here ha hd]
  dsimp only
  rw [if_neg (by rw [hv, hbuild, hlive]; decide), heng]
  dsimp only
  rw [hhalf]

/-- A stranger's entry, one outside BUILD and one for a dead beam are not taken. -/
theorem exec_xassign_same (h : s.dev.members.contains v.val = false ∨ s.dev.mode.cur ≠ .build ∨
    s.dev.beamLive x.beam = false) : exec (.xassign ⟨v, dst⟩ x) s = .next s := by
  show execXassign ⟨v, dst⟩ x s = _
  unfold execXassign
  refine on_here_same hd (if_pos ?_)
  rcases h with h | h | h <;> simp [-List.contains_eq_mem, h]

end xassign

section xack
variable {v dst : Fin 8} {vec : Word} {s : State} (hd : dst.val = s.dev.devId)
include hd

theorem exec_xack_stranger (hv : s.dev.members.contains v.val = false) : exec (.xack ⟨v, dst⟩ vec) s = .next s := by
  show execXack ⟨v, dst⟩ vec s = _
  unfold execXack
  exact on_here_same hd (stranger_same hv)

/-- The acknowledgement of an entry marks it. -/
theorem exec_xack_sent (ha : Awake s) {y : Sent} (hv : s.dev.members.contains v.val = true)
    (hsent : s.dev.keeper.sent = [y]) (hdev : y.dev = v.val) (hvec : y.vec = vec.toNat) :
    exec (.xack ⟨v, dst⟩ vec) s = .next { s with dev := (s.dev.answered v).modKeeper (fun k =>
      { k with sent := [{ y with acked := true }] }) } := by
  have hany : (s.dev.answered v).keeper.sent.any (fun y => y.dev == v.val && y.vec == vec.toNat) = true := by
    show s.dev.keeper.sent.any _ = true
    simp [hsent, hdev, hvec]
  have hmark : (s.dev.answered v).keeper.sent.map (fun y =>
      if y.dev = v.val ∧ y.vec = vec.toNat then { y with acked := true } else y) = [{ y with acked := true }] := by
    show s.dev.keeper.sent.map _ = _
    rw [hsent, List.map_singleton, if_pos ⟨hdev, hvec⟩]
  show execXack ⟨v, dst⟩ vec s = _
  unfold execXack
  rw [on_here ha hd]
  refine next_congr ((member_heard hv).trans ((if_pos hany).trans ?_))
  exact congrArg (fun l => (s.dev.answered v).modKeeper (fun k => { k with sent := l })) hmark

end xack

/-! ## What goes unanswered (R388) -/

/-- A request to member v is sent again, where its track still stands. -/
def Dev.askAgain (d : Dev) (v : Nat) (w : XWait) : Dev :=
  match d.askedRun w with
  | some r => d.sendTo v 0x14 (xtrackWords { d.xtrackOf r with t := w.t })
  | none => d

section timeout
variable {v : Fin 8} {vec : Word} {s : State}

/-- An entry unanswered returns to its lock, without that beam. -/
theorem exec_xdevAckTimeout_sent (ha : Awake s) {y : Sent} {l : Nat} (hsent : s.dev.keeper.sent = [y])
    (hdev : y.dev = v.val) (hvec : y.vec = vec.toNat) (hack : y.acked = false) (hlock : y.unit.lock = some l) :
    exec (.xdevAckTimeout v vec) s = .next { s with dev :=
      (((s.dev.modKeeper (fun k => { k with sent := [] })).modLock l (fun q =>
        q.takeBack { y.unit with excluded := y.unit.excluded ++ [y.beam] })).unanswered v) } := by
  have hfind : s.dev.keeper.sent.find? (fun y => y.dev == v.val && y.vec == vec.toNat && !y.acked) = some y := by
    simp [hsent, hdev, hvec, hack]
  have hrest : s.dev.keeper.sent.filter (fun z => !(z.dev == v.val && z.vec == vec.toNat && !z.acked)) = [] := by
    simp [hsent, hdev, hvec, hack]
  show execXdevAckTimeout v vec s = _
  unfold execXdevAckTimeout
  rw [on_awake s _ ha, hfind]
  unfold Dev.modKeeper
  dsimp only
  rw [hrest, hlock]
  rfl

/-- A request unanswered is sent again. -/
theorem exec_xdevAckTimeout_asked (ha : Awake s) {w : XWait} (hsent : s.dev.keeper.sent = [])
    (hwait : s.dev.keeper.xwait = [w]) (hdev : w.dev = v.val) (hvec : w.vec = vec.toNat) :
    exec (.xdevAckTimeout v vec) s = .next { s with dev := (((s.dev.modKeeper (fun k =>
      { k with xwait := [{ w with tries := w.tries + 1 }] })).askAgain v w).unanswered v) } := by
  have hfind : s.dev.keeper.xwait.find? (fun y => y.dev == v.val && y.vec == vec.toNat) = some w := by
    simp [hwait, hdev, hvec]
  have hagain : s.dev.keeper.xwait.map (fun y =>
      if y.dev = v.val ∧ y.vec = vec.toNat then { y with tries := y.tries + 1 } else y) = [{ w with tries := w.tries + 1 }] := by
    rw [hwait, List.map_singleton, if_pos ⟨hdev, hvec⟩]
  show execXdevAckTimeout v vec s = _
  unfold execXdevAckTimeout
  rw [on_awake s _ ha, hsent, hfind]
  unfold Dev.modKeeper
  dsimp only [List.find?_nil]
  rw [hagain]
  rfl

theorem exec_xdevAckTimeout_none (hsent : s.dev.keeper.sent = []) (hwait : s.dev.keeper.xwait = []) :
    exec (.xdevAckTimeout v vec) s = .next s := by
  show execXdevAckTimeout v vec s = _
  unfold execXdevAckTimeout
  refine on_same ?_
  rw [hsent, hwait]
  rfl

end timeout

/-! ## Reports on an entry (R380) -/

/-- The entry that a report is about. -/
theorem find_reported {l : List Sent} {y : Sent} {v vec : Nat} (hsent : l = [y]) (hdev : y.dev = v)
    (hrec : y.unit.recs.any (fun r => r.vecId == vec) = true) :
    l.find? (fun y => y.dev == v && y.unit.recs.any (fun r => r.vecId == vec)) = some y := by
  simp [-List.any_eq_true, hsent, hdev, hrec]

section xprogress
variable {v dst : Fin 8} {vec arc : Word} {t : Word64} {s : State} (hd : dst.val = s.dev.devId)
include hd

theorem exec_xprogress_none (o : Option (BitVec 8)) (hsent : s.dev.keeper.sent = []) :
    exec (.xprogress ⟨v, dst⟩ vec arc t o) s = .next s := by
  show execXprogress ⟨v, dst⟩ vec arc t o s = _
  unfold execXprogress
  refine on_here_same hd ?_
  dsimp only
  rw [hsent]
  rfl

section hit
variable (ha : Awake s) {y : Sent} (hsent : s.dev.keeper.sent = [y]) (hdev : y.dev = v.val)
  (hrec : y.unit.recs.any (fun r => r.vecId == vec.toNat) = true)
include ha hsent hdev hrec

/-- A report on the way is kept with its entry. -/
theorem exec_xprogress_report : exec (.xprogress ⟨v, dst⟩ vec arc t none) s = .next { s with dev := (
    s.dev.modKeeper (fun k => { k with sent := [{ y with prog := some (vec.toNat, arc.toNat, t.toNat) }] })) } := by
  have hmark : s.dev.keeper.sent.map (fun z => if z.dev == v.val && z.unit.recs.any (fun r => r.vecId == vec.toNat)
      then { z with prog := some (vec.toNat, arc.toNat, t.toNat) } else z) =
      [{ y with prog := some (vec.toNat, arc.toNat, t.toNat) }] := by
    rw [hsent, List.map_singleton, if_pos (by rw [hdev, hrec]; simp)]
  show execXprogress ⟨v, dst⟩ vec arc t none s = _
  unfold execXprogress
  rw [on_here ha hd]
  dsimp only
  rw [find_reported hsent hdev hrec]
  exact next_congr (congrArg (fun l => s.dev.modKeeper (fun k => { k with sent := l })) hmark)

/-- The last report gives the outcome of the entry's one vector. -/
theorem exec_xprogress_final (st : BitVec 8) (hone : y.unit.recs.length = 1) :
    exec (.xprogress ⟨v, dst⟩ vec arc t (some st)) s = .next { s with dev := (
      (s.dev.modKeeper (fun k => { k with sent := [] })).giveOutcome y.unit 0
        ⟨st.toNat, some y.beam, false, 0, arc.toNat, t.toNat, false⟩) } := by
  have hfirst : y.unit.recs.findIdx (fun r => r.vecId == vec.toNat) = 0 := by
    obtain ⟨r, hr⟩ := List.length_eq_one_iff.mp hone
    rw [hr] at hrec ⊢
    rw [List.any_cons, List.any_nil, Bool.or_false] at hrec
    rw [List.findIdx_cons, hrec]
    rfl
  have hgiven : ¬ (if y.given.contains 0 then y.given else y.given ++ [0]).length < y.unit.recs.length := by
    rw [hone]
    split
    · next h =>
      have hpos := List.length_pos_of_mem (List.contains_iff_mem.mp h)
      omega
    · simp
  have hrest : (s.dev.keeper.sent.map (fun z => if z.dev == v.val && z.unit.recs.any (fun r => r.vecId == vec.toNat)
      then { z with prog := none, given := if y.given.contains 0 then y.given else y.given ++ [0] } else z)).filter
      (fun z => decide (z.given.length < z.unit.recs.length)) = [] := by
    rw [hsent, List.map_singleton, if_pos (by rw [hdev, hrec]; simp),
      List.filter_cons_of_neg (by simpa using hgiven), List.filter_nil]
  show execXprogress ⟨v, dst⟩ vec arc t (some st) s = _
  unfold execXprogress
  rw [on_here ha hd]
  dsimp only
  rw [find_reported hsent hdev hrec]
  dsimp only
  rw [hfirst, hrest]

end hit
end xprogress

/-! ## Requests for a shift (R223, R225, R382) -/

/-- A lone request is answered, or waits. -/
theorem serveReqs_single (d : Dev) (v : Nat) (x : XTrack) :
    (d.modKeeper (fun k => { k with xreqs := [(v, x)] })).serveReqs =
      if d.mayAnswer v x.t then (d.modKeeper (fun k => { k with xreqs := [] })).sendTo v 0x15
        [(x.vec.toNat : Int), ((d.modKeeper (fun k => { k with xreqs := [] })).shiftAnswer x : Int)]
      else d.modKeeper (fun k => { k with xreqs := [(v, x)] }) := by
  show ([(v, x)].filter (fun q => d.mayAnswer q.1 q.2.t)).foldl (fun d q =>
    d.sendTo q.1 0x15 [(q.2.vec.toNat : Int), (d.shiftAnswer q.2 : Int)])
    (d.modKeeper (fun k => { k with xreqs := [(v, x)].filter (fun q => !d.mayAnswer q.1 q.2.t) })) = _
  cases hmay : d.mayAnswer v x.t with
  | true =>
    have hnow : [(v, x)].filter (fun q => d.mayAnswer q.1 q.2.t) = [(v, x)] := List.filter_cons_of_pos hmay
    have hrest : [(v, x)].filter (fun q => !d.mayAnswer q.1 q.2.t) = [] := List.filter_cons_of_neg (by simp [hmay])
    rw [hnow, hrest]
    rfl
  | false =>
    have hnow : [(v, x)].filter (fun q => d.mayAnswer q.1 q.2.t) = [] := List.filter_cons_of_neg (by simp [hmay])
    have hrest : [(v, x)].filter (fun q => !d.mayAnswer q.1 q.2.t) = [(v, x)] := List.filter_cons_of_pos (by simp [hmay])
    rw [hnow, hrest]
    rfl

section xcommitReq
variable {v dst : Fin 8} {x : XTrack} {s : State} (hd : dst.val = s.dev.devId)
include hd

theorem exec_xcommitReq_same (h : s.dev.members.contains v.val = false ∨ s.dev.mode.cur ≠ .build) :
    exec (.xcommitReq ⟨v, dst⟩ x) s = .next s := by
  show execXcommitReq ⟨v, dst⟩ x s = _
  unfold execXcommitReq
  refine on_here_same hd (if_pos ?_)
  rcases h with h | h <;> simp [-List.contains_eq_mem, h]

section asked
variable (ha : Awake s) (hv : s.dev.members.contains v.val = true) (hbuild : s.dev.mode.cur = .build)
  (hreqs : s.dev.keeper.xreqs = [])
include ha hv hbuild hreqs

/-- The one request is kept, and those that may be answered are. -/
theorem exec_xcommitReq_asked : exec (.xcommitReq ⟨v, dst⟩ x) s = .next { s with dev :=
    (s.dev.modKeeper (fun k => { k with xreqs := [(v.val, x)] })).serveReqs } := by
  have hkept : s.dev.keeper.xreqs.filter (fun q => !(q.1 == v.val && q.2.vec == x.vec)) ++ [(v.val, x)] = [(v.val, x)] := by
    rw [hreqs]
    rfl
  show execXcommitReq ⟨v, dst⟩ x s = _
  unfold execXcommitReq
  rw [on_here ha hd]
  refine next_congr ((if_neg (by rw [hv, hbuild]; decide)).trans ?_)
  exact congrArg (fun l => (s.dev.modKeeper (fun k => { k with xreqs := l })).serveReqs) hkept

/-- It is answered where no request of this device comes before it. -/
theorem exec_xcommitReq_answered (hmay : s.dev.mayAnswer v x.t = true) : exec (.xcommitReq ⟨v, dst⟩ x) s =
    .next { s with dev := s.dev.sendTo v 0x15 [(x.vec.toNat : Int), (s.dev.shiftAnswer x : Int)] } := by
  have hback : s.dev.modKeeper (fun k => { k with xreqs := [] }) = s.dev := by
    rw [← hreqs]
    rfl
  rw [exec_xcommitReq_asked hd ha hv hbuild hreqs, serveReqs_single, if_pos hmay, hback]

/-- It waits where one does. -/
theorem exec_xcommitReq_waits (hmay : s.dev.mayAnswer v x.t = false) : exec (.xcommitReq ⟨v, dst⟩ x) s =
    .next { s with dev := (s.dev.modKeeper (fun k => { k with xreqs := [(v.val, x)] })) } := by
  rw [exec_xcommitReq_asked hd ha hv hbuild hreqs, serveReqs_single, if_neg (by simp [hmay])]

end asked
end xcommitReq

/-- Without plumes and revisit time nothing is shifted. -/
theorem shiftAnswer_zero {d : Dev} {x : XTrack} (hoff : d.bit LK_PLUME_CFG 31 = false) (hrev : x.revisit = 0) :
    d.shiftAnswer x = 0 := by
  unfold Dev.shiftAnswer
  dsimp only
  rw [if_neg (by simp [hoff]), hrev, revisitAfter, if_pos (Or.inl rfl), Nat.zero_sub]

/-! ## Answers (R382) -/

/-- The cause of the shift after an answer of a member. -/
def Dev.answerCause (d : Dev) (w : XWait) (shift : Nat) : Option Nat :=
  match w.conflict with
  | some b => some b
  | none => if w.shift < shift then d.causeAt w shift else none

section xcommitRsp
variable {v dst : Fin 8} {vec shift : Word} {s : State} (hd : dst.val = s.dev.devId)
include hd

theorem exec_xcommitRsp_none (hwait : s.dev.keeper.xwait = []) : exec (.xcommitRsp ⟨v, dst⟩ vec shift) s = .next s := by
  show execXcommitRsp ⟨v, dst⟩ vec shift s = _
  unfold execXcommitRsp
  refine on_here_same hd ?_
  dsimp only
  rw [hwait]
  rfl

/-- The last answer lets the unit commit at the largest shift. -/
theorem exec_xcommitRsp_last (ha : Awake s) {w : XWait} {d : Dev} (hwait : s.dev.keeper.xwait = [w]) (hdev : w.dev = v.val)
    (hvec : w.vec = vec.toNat) (hdone : d = (s.dev.answered v).modKeeper (fun q => { q with xwait := [] })) :
    exec (.xcommitRsp ⟨v, dst⟩ vec shift) s = .next { s with dev :=
      (if d.committing w.engine then d.peersAgree w.engine (Nat.max w.shift shift.toNat) (s.dev.answerCause w shift.toNat) w.kind
        else d).serveReqs } := by
  have hfind : s.dev.keeper.xwait.find? (fun y => y.dev == v.val && y.vec == vec.toNat) = some w := by
    simp [hwait, hdev, hvec]
  have hrest : (s.dev.answered v).keeper.xwait.filter (fun y => !(y.dev == v.val && y.vec == vec.toNat)) = [] := by
    show s.dev.keeper.xwait.filter _ = []
    simp [hwait, hdev, hvec]
  show execXcommitRsp ⟨v, dst⟩ vec shift s = _
  unfold execXcommitRsp
  rw [on_here ha hd]
  refine next_congr ?_
  dsimp only
  rw [hfind]
  dsimp only
  rw [hrest, List.map_nil, ← hdone]
  have hnone : d.keeper.xwait = [] := by
    rw [hdone]
    rfl
  rw [hnone, List.any_nil, Bool.false_or]
  cases d.committing w.engine with
  | false => exact (if_pos (by decide)).trans (congrArg Dev.serveReqs (if_neg (by decide)).symm)
  | true => exact (if_neg (by decide)).trans (congrArg Dev.serveReqs (if_pos rfl).symm)

end xcommitRsp

/-! ## Residuals across devices (R385) -/

theorem getElem?_modAt_same {α : Type} {l : List α} {i : Nat} {f : α → α} {a : α} (h : l[i]? = some a) :
    (modAt l i f)[i]? = some (f a) := by
  obtain ⟨hi, -⟩ := List.getElem?_eq_some_iff.mp h
  unfold modAt
  rw [h]
  exact List.getElem?_set_self hi

/-- The job that serves a point asked for by member v: one probe for each member of the lock here. -/
def Dev.servingJob (d : Dev) (v i k : Nat) (px py : Int) (tab : Nat) (set frames : Nat) : ProbeJob :=
  { mkProbes ⟨64 + v, k, 0x0D02, 0, 0, 0, 0, 0, 0, 0, 0, 0, 0, 0, 0⟩
      (match d.table tab with | some t => t.sets | none => []) set frames k
      ((bitList 16 (d.lockMembers i)).map (fun b => Probe.mk k b px py)) with
    lock := some i, peer := some v, serves := true }

section resid
variable {v dst : Fin 8} {i : Fin 64} {s : State} (hd : dst.val = s.dev.devId)
include hd

theorem exec_resid_stranger (x : XResid) (hv : s.dev.members.contains v.val = false) :
    exec (.resid ⟨v, dst⟩ x) s = .next s := by
  show execResid ⟨v, dst⟩ x s = _
  unfold execResid
  exact on_here_same hd (stranger_same hv)

section member
variable (hv : s.dev.members.contains v.val = true)
include hv

/-- An answer that nothing waits for changes nothing. -/
theorem exec_resid_answer (k : Nat) (got : List (Nat × Option (Int × Int))) (hprobes : s.dev.probes = []) :
    exec (.resid ⟨v, dst⟩ (.answer i k got)) s = .next s := by
  show execResid ⟨v, dst⟩ (.answer i k got) s = _
  unfold execResid
  refine on_here_same hd ((member_heard hv).trans ?_)
  dsimp only
  rw [hprobes]
  rfl

theorem exec_resid_ask_same (k : Nat) (px py : Int) (tab : Word) (set : BitVec 8) (fr : Nat)
    (hcal : s.dev.mode.cur ≠ .calibrate) :
    exec (.resid ⟨v, dst⟩ (.ask i k px py tab set fr)) s = .next s := by
  show execResid ⟨v, dst⟩ (.ask i k px py tab set fr) s = _
  unfold execResid
  exact on_here_same hd ((member_heard hv).trans (if_pos hcal))

variable (ha : Awake s)
include ha

/-- An entry of the peer is written. -/
theorem exec_resid_entry (mx rms n : Word) :
    exec (.resid ⟨v, dst⟩ (.entry i mx rms n)) s = .next { s with dev := ({ s.dev with
      resids := s.dev.resids.set i.val ⟨n.bit 8, mx.toNat, rms.toNat, n.toNat, s.dev.gridCommits, true⟩ }) } := by
  show execResid ⟨v, dst⟩ (.entry i mx rms n) s = _
  unfold execResid
  rw [on_here ha hd]
  exact next_congr (member_heard hv)

/-- A grid commit of the peer makes the lock's entry stale. -/
theorem exec_resid_stale : exec (.resid ⟨v, dst⟩ (.stale i)) s = .next { s with dev := { s.dev with
    resids := modAt s.dev.resids i.val (fun r => if r.made then { r with r2 := r.r2 ||| 512 } else r) } } := by
  show execResid ⟨v, dst⟩ (.stale i) s = _
  unfold execResid
  rw [on_here ha hd]
  exact next_congr (member_heard hv)

/-- In CALIBRATE the point asked for is probed. -/
theorem exec_resid_ask_serves (k : Nat) (px py : Int) (tab : Word) (set : BitVec 8) (fr : Nat)
    (hcal : s.dev.mode.cur = .calibrate) :
    exec (.resid ⟨v, dst⟩ (.ask i k px py tab set fr)) s = .next { s with dev :=
      (({ s.dev with probes := s.dev.probes ++ [s.dev.servingJob v i k px py tab.toNat set.toNat fr] } : Dev).stepProbe
        (s.dev.servingJob v i k px py tab.toNat set.toNat fr)) } := by
  show execResid ⟨v, dst⟩ (.ask i k px py tab set fr) s = _
  unfold execResid
  rw [on_here ha hd]
  exact next_congr ((member_heard hv).trans (if_neg (not_not_intro hcal)))

end member
end resid

/-! ## O47 -/

/-- LINK_QUERY shows the link's status, and the modes of the members and of this device (R391). -/
theorem exec_linkQuery (r : Req) (e : Env) (s : State) (h : Takes s 0x0D80 cmdLinkQuery r) :
    exec (.linkQuery r e) s = .next { s with dev := ((started s 0x0D80 r).ok (asOp 0x0D80 r)
      (s.dev.rd BYF_STATUS).toNat (s.dev.byf.modes.foldl (fun x y => x + (if s.dev.members.contains y.1 then
        y.2 * 2 ^ (3 * y.1) else 0)) 0 + s.dev.mode.cur.code * 2 ^ (3 * s.dev.devId)) 0 0) } := by
  show execLinkQuery r e s = _
  unfold execLinkQuery
  exact command_takes s 0x0D80 cmdLinkQuery r e h

section away
variable {v dst : Fin 8} {x : XAssign} {y : XTrack} {z : XResid} {vec w : Word} {t : Word64} {o : Option (BitVec 8)}
  {s : State} (hd : dst.val ≠ s.dev.devId)
include hd

/-- A member sends the messages for another device on. -/
theorem work_forwarded (ha : Awake s) (hin : s.dev.byf.inside = true) :
    exec (.xassign ⟨v, dst⟩ x) s = .next { s with dev := s.dev.sendFrom v dst 0x11 (xassignWords x) } ∧
    exec (.xack ⟨v, dst⟩ vec) s = .next { s with dev := s.dev.sendFrom v dst 0x12 [(vec.toNat : Int)] } ∧
    exec (.xcommitReq ⟨v, dst⟩ y) s = .next { s with dev := s.dev.sendFrom v dst 0x14 (xtrackWords y) } ∧
    exec (.xcommitRsp ⟨v, dst⟩ vec w) s =
      .next { s with dev := s.dev.sendFrom v dst 0x15 [(vec.toNat : Int), (w.toNat : Int)] } ∧
    exec (.xprogress ⟨v, dst⟩ vec w t o) s = .next { s with dev := (s.dev.sendFrom v dst 0x16
      ([(vec.toNat : Int), (w.toNat : Int), (t.toNat : Int)] ++ (o.map (fun f => (f.toNat : Int))).toList)) } ∧
    exec (.resid ⟨v, dst⟩ z) s = .next { s with dev := s.dev.sendFrom v dst 0x33 (xresidWords z) } := by
  refine ⟨show execXassign ⟨v, dst⟩ x s = _ from on_away ha hd hin, show execXack ⟨v, dst⟩ vec s = _ from on_away ha hd hin,
    show execXcommitReq ⟨v, dst⟩ y s = _ from on_away ha hd hin,
    show execXcommitRsp ⟨v, dst⟩ vec w s = _ from on_away ha hd hin, ?_,
    show execResid ⟨v, dst⟩ z s = _ from on_away ha hd hin⟩
  show execXprogress ⟨v, dst⟩ vec w t o s = _
  unfold execXprogress
  rw [on_away ha hd hin]
  cases o <;> rfl

/-- A device that is not admitted drops them. -/
theorem work_dropped (hin : s.dev.byf.inside = false) :
    exec (.xassign ⟨v, dst⟩ x) s = .next s ∧ exec (.xack ⟨v, dst⟩ vec) s = .next s ∧
    exec (.xcommitReq ⟨v, dst⟩ y) s = .next s ∧ exec (.xcommitRsp ⟨v, dst⟩ vec w) s = .next s ∧
    exec (.xprogress ⟨v, dst⟩ vec w t o) s = .next s ∧ exec (.resid ⟨v, dst⟩ z) s = .next s :=
  ⟨show execXassign ⟨v, dst⟩ x s = _ from on_dropped hd hin (by decide),
    show execXack ⟨v, dst⟩ vec s = _ from on_dropped hd hin (by decide),
    show execXcommitReq ⟨v, dst⟩ y s = _ from on_dropped hd hin (by decide),
    show execXcommitRsp ⟨v, dst⟩ vec w s = _ from on_dropped hd hin (by decide),
    show execXprogress ⟨v, dst⟩ vec w t o s = _ from on_dropped hd hin (by decide),
    show execResid ⟨v, dst⟩ z s = _ from on_dropped hd hin (by decide)⟩

end away

/-- Settles O47: each message by the branches of its handler, its way by `Dev.routed`. -/
theorem workCrossesDevices : Obligations.WorkCrossesDevices := by
  refine ⟨fun v dst x s u ha hd hu => ?_, fun v dst vec s ha hd => ?_, fun v vec s ha => ?_,
    fun v dst vec arc t s ha hd => ?_, fun v dst x s ha hd => ?_, fun v dst vec shift s ha hd => ?_,
    fun v dst s i ha hd => ?_, exec_linkQuery, fun v dst x y z vec w t o s ha hd => ⟨work_forwarded hd ha, work_dropped hd⟩⟩
  · subst hu
    refine ⟨fun n hv hbuild hlive heng => ⟨fun hhalf => ?_, fun hhalf => ?_⟩, exec_xassign_same hd⟩
    · rw [exec_xassign_taken hd ha hv hbuild hlive heng, if_neg (by simp [hhalf])]
    · rw [exec_xassign_taken hd ha hv hbuild hlive heng, if_pos (Option.isSome_iff_ne_none.mpr hhalf)]
  · refine ⟨exec_xack_stranger hd, fun y hv hsent hdev hvec =>
      ⟨_, exec_xack_sent hd ha hv hsent hdev hvec, ⟨rfl, rfl⟩, rfl, ?_, rfl⟩⟩
    exact assocGet_assocPut s.dev.byf.missed v.val 0
  · refine ⟨fun y l => exec_xdevAckTimeout_sent ha, ?_, exec_xdevAckTimeout_none⟩
    rintro w d hsent hwait hdev hvec rfl
    exact exec_xdevAckTimeout_asked ha hsent hwait hdev hvec
  · refine ⟨fun o => exec_xprogress_none hd o, fun y hsent hdev hrec => ⟨?_, exec_xprogress_final hd ha hsent hdev hrec⟩⟩
    exact ⟨_, exec_xprogress_report hd ha hsent hdev hrec, ⟨rfl, rfl⟩, rfl, rfl⟩
  · exact ⟨exec_xcommitReq_same hd, fun hv hbuild hreqs =>
      ⟨exec_xcommitReq_answered hd ha hv hbuild hreqs, exec_xcommitReq_waits hd ha hv hbuild hreqs⟩, shiftAnswer_zero⟩
  · refine ⟨exec_xcommitRsp_none hd, ?_⟩
    rintro w d c hwait hdev hvec hdone rfl
    exact exec_xcommitRsp_last hd ha hwait hdev hvec hdone
  · refine ⟨exec_resid_stranger hd, fun hv => ⟨exec_resid_entry hd hv ha, fun x hx => ?_,
      exec_resid_answer hd hv, fun k px py tab set fr => ⟨exec_resid_ask_same hd hv k px py tab set fr, fun hcal => ?_⟩⟩⟩
    · exact ⟨_, exec_resid_stale hd hv ha, ⟨rfl, rfl⟩, getElem?_modAt_same hx, rfl⟩
    · exact ⟨s.dev.servingJob v i k px py tab.toNat set.toNat fr, rfl, rfl, rfl, rfl, rfl,
        exec_resid_ask_serves hd hv ha k px py tab set fr hcal⟩

end Sys2Proof.Machine
end

section
/-! SUPPORT. The heat ledger: what a cleared copy answers, what its updates, notices, reads and epochs leave of the
device, and O34 (R239, R246, R248, R250, R252, R258, R260, R261, R483). -/

namespace Sys2Proof.Machine

/-! ## A cleared copy (R250, R260) -/

theorem tile_cleared (now tn : Nat) : (LCopy.cleared now).tile tn = emptyTile := rfl

theorem startOf_emptyTile (now : Nat) : (LCopy.cleared now).startOf emptyTile.gen = some now := by
  simp [LCopy.startOf, LCopy.cleared, emptyTile]

theorem cell_emptyTile (c : LCopy) (k : Nat) : c.cell emptyTile k = coldCell := rfl

theorem cellDose_coldCell : cellDose coldCell = 0 := by decide

/-- No point of a cleared copy is preheated: no neighbour adds heat to it or holds a poisoned tile. -/
theorem preheat_cleared (d : Dev) (now : Nat) (cx cy : Int) (tArr : Nat) :
    d.preheat (LCopy.cleared now) cx cy tArr = (0, false) := by
  unfold Dev.preheat
  refine foldl_idle fun i _ => ?_
  extract_lets x y
  split
  · rfl
  · split
    simp only [tile_cleared, cell_emptyTile, cellDose_coldCell, startOf_emptyTile, Nat.mul_zero, Nat.zero_mul]
    rfl

/-! ## The oldest update of an engine (R246, R248, R258) -/

section update
variable {n : Fin 18} {s : State}

theorem exec_ledgerUpdate_none (hempty : (s.dev.eng n).writes = []) : exec (.ledgerUpdate n) s = .next s := by
  show s.on (fun d => d.takeUpdate n) = _
  refine on_same ?_
  unfold Dev.eng at hempty
  simp only [Dev.takeUpdate, hempty]

/-- The oldest update leaves the queue, which takes what the engine's store holds; then a fenced engine's is ghost traffic,
one within the grid is applied and forwarded, and one beyond it is counted. -/
theorem exec_ledgerUpdate_oldest (ha : Awake s) {u : LUpd} {us : List LUpd} {d : Dev} (hw : (s.dev.eng n).writes = u :: us)
    (hd : d = { s.dev with engines := modAt s.dev.engines n (fun e => { e with writes := us }.refill) }) :
    exec (.ledgerUpdate n) s = .next { s with dev := (
      if s.dev.fencedUnit n then d.ghost n 1
      else if s.dev.inGrid u.cx u.cy then (d.applyUpdate u.cx u.cy u.nj u.t).forwardUpdate u
      else d.count (LDG_CNT 3) 1) } := by
  show s.on (fun d => d.takeUpdate n) = _
  rw [on_awake _ _ ha, hd]
  unfold Dev.eng at hw
  simp only [Dev.takeUpdate, hw]
  rfl

end update

/-! ## The oldest loss notice of an engine (R248, R258) -/

/-- The members among the neighbours whose band holds the cell, or lies near it, are told of a lost update. -/
def Dev.lossTold (d : Dev) (u : LUpd) : Dev :=
  (d.bandPeers u.cx u.cy true).foldl (fun x v => if x.members.contains v then
    x.sendTo v 0x21 [(d.cellCorner u.cx u.cy).1, (d.cellCorner u.cx u.cy).2] else x) d

theorem linkSide_lossTold (d : Dev) (u : LUpd) : LinkSide d (d.lossTold u) := by
  refine foldl_keeps LinkSide LinkSide.refl (fun _ _ _ => LinkSide.trans) _ (fun a v => ?_) _ d
  split
  · exact linkSide_sendTo a v _ _
  · exact LinkSide.refl a

/-- The messages decide neither the copy in use nor the tile of a cell. -/
theorem lossTold_keeps (d : Dev) (u : LUpd) (cx cy : Nat) :
    (d.lossTold u).onReplay = d.onReplay ∧ (d.lossTold u).tileOf cx cy = d.tileOf cx cy := by
  obtain ⟨_, _, h⟩ := linkSide_lossTold d u
  rw [h]
  exact ⟨rfl, rfl⟩

section notice
variable {n : Fin 18} {s : State}

theorem exec_ledgerLossNotice_none (hempty : (s.dev.eng n).notices = []) : exec (.ledgerLossNotice n) s = .next s := by
  show s.on (fun d => d.takeNotice n) = _
  refine on_same ?_
  unfold Dev.eng at hempty
  simp only [Dev.takeNotice, hempty]

/-- The oldest notice leaves its list; a fenced engine's is ghost traffic, and any other marks the tile of its cell. -/
theorem exec_ledgerLossNotice_oldest (ha : Awake s) {u : LUpd} {rest : List LUpd} {d : Dev}
    (hn : (s.dev.eng n).notices = u :: rest)
    (hd : d = { s.dev with engines := modAt s.dev.engines n (fun e => { e with notices := rest }) }) :
    exec (.ledgerLossNotice n) s = .next { s with dev := (
      if s.dev.fencedUnit n then d.ghost n 1
      else ((d.lossTold u).markInexact s.dev.onReplay (s.dev.tileOf u.cx u.cy).1).fault 21 4) } := by
  obtain ⟨hreplay, htile⟩ := lossTold_keeps d u u.cx u.cy
  have hsame : s.dev.onReplay = d.onReplay ∧ s.dev.tileOf u.cx u.cy = d.tileOf u.cx u.cy := by
    rw [hd]
    exact ⟨rfl, rfl⟩
  rw [hsame.1, hsame.2, ← hreplay, ← htile, hd]
  show s.on (fun d => d.takeNotice n) = _
  rw [on_awake _ _ ha]
  unfold Dev.eng at hn
  simp only [Dev.takeNotice, hn]
  rfl

end notice

/-! ## A neighbour's updates and losses (R258, R261) -/

section band
variable {dev dst : Fin 8} {x y : Int} {s : State} (hd : dst.val = s.dev.devId)
include hd

section taken
variable (ha : Awake s) {cx cy : Nat} (hopen : s.dev.bandOpen dev = true) (hcell : s.dev.cellAt x y = some (cx, cy))
include ha hopen hcell

theorem exec_bandUpd_applied (nj : Word) (t : Word64) :
    exec (.bandUpd ⟨dev, dst⟩ x y nj t) s = .next { s with dev := s.dev.applyTo false cx cy nj.toNat t.toNat } := by
  show execBandUpd ⟨dev, dst⟩ x y nj t s = _
  unfold execBandUpd
  rw [on_here ha hd]
  simp only [hopen, hcell, Bool.not_true, Bool.false_eq_true, if_false]

theorem exec_bandLoss_marks :
    exec (.bandLoss ⟨dev, dst⟩ x y) s =
      .next { s with dev := (s.dev.markInexact false (s.dev.tileOf cx cy).1).fault 21 4 } := by
  show execBandLoss ⟨dev, dst⟩ x y s = _
  unfold execBandLoss
  rw [on_here ha hd]
  simp only [hopen, hcell, Bool.not_true, Bool.false_eq_true, if_false]

end taken

section idle
variable (hidle : s.dev.bandOpen dev = false ∨ s.dev.cellAt x y = none)
include hidle

theorem exec_bandUpd_idle (nj : Word) (t : Word64) : exec (.bandUpd ⟨dev, dst⟩ x y nj t) s = .next s := by
  show execBandUpd ⟨dev, dst⟩ x y nj t s = _
  unfold execBandUpd
  refine on_here_same hd ?_
  rcases hidle with hclosed | hcell
  · simp only [hclosed, Bool.not_false, if_true]
  · simp only [hcell, ite_self]

theorem exec_bandLoss_idle : exec (.bandLoss ⟨dev, dst⟩ x y) s = .next s := by
  show execBandLoss ⟨dev, dst⟩ x y s = _
  unfold execBandLoss
  refine on_here_same hd ?_
  rcases hidle with hclosed | hcell
  · simp only [hclosed, Bool.not_false, if_true]
  · simp only [hcell, ite_self]

end idle
end band

/-! ## Epochs (R239) -/

/-- Bringing the epoch registers up to date leaves the ledger and the mode. -/
theorem ldgRegs_keeps (d : Dev) : d.ldgRegs.ldg = d.ldg ∧ d.ldgRegs.mode = d.mode := by
  unfold Dev.ldgRegs
  split <;> exact ⟨rfl, rfl⟩

/-- LDG_EPOCH shows the generation of the operational copy. -/
theorem rd_ldgRegs_epoch {d : Dev} {c : LCopy} (hcopy : d.ldg.copy = some c) :
    d.ldgRegs.rd LDG_EPOCH = BitVec.ofNat 32 (c.gen % 2 ^ 24) := by
  unfold Dev.ldgRegs Dev.wr64 Dev.wrN
  rw [hcopy]
  rw [Dev.rd_wr_other _ _ _ _ (by decide), Dev.rd_wr_other _ _ _ _ (by decide), Dev.rd_wr_same]

theorem pass_eq (d : Dev) (z run : Nat) (slew : Int) :
    ∃ tb0 tb3 time, d.pass z run slew = { d with tb0 := tb0, tb3 := tb3, time := time } := ⟨_, _, _, rfl⟩

/-- Time that goes on changes the time bases alone. -/
theorem advanceTo_eq (d : Dev) (t : Nat) :
    ∃ tb0 tb3 time, d.advanceTo t = { d with tb0 := tb0, tb3 := tb3, time := time } := by
  unfold Dev.advanceTo
  extract_lets dt gap acc slew run acc0 d'
  have hpass : ∃ tb0 tb3 time, d' = { d with tb0 := tb0, tb3 := tb3, time := time } := pass_eq d _ _ _
  clear_value d'
  obtain ⟨_, _, _, rfl⟩ := hpass
  split
  · exact ⟨d.tb0, d.tb3, d.time, rfl⟩
  · exact ⟨_, _, _, rfl⟩

/-- The operational copy `c` has begun a further epoch at TB3 t, and the epoch registers show it. -/
def Dev.epochBegun (d : Dev) (c : LCopy) (t : Nat) : Dev := ((d.advanceTo t).putCopy false (c.epoch t false)).ldgRegs

theorem epochBegun_keeps (d : Dev) (c : LCopy) (t : Nat) :
    (d.epochBegun c t).ldg.copy = some (c.epoch t false) ∧
    (d.epochBegun c t).rd LDG_EPOCH = BitVec.ofNat 32 ((c.gen + 1) % 2 ^ 24) ∧
    (d.epochBegun c t).mode = d.mode := by
  obtain ⟨_, _, _, htime⟩ := advanceTo_eq d t
  unfold Dev.epochBegun
  obtain ⟨hldg, hmode⟩ := ldgRegs_keeps ((d.advanceTo t).putCopy false (c.epoch t false))
  rw [hldg, hmode, rd_ldgRegs_epoch (c := c.epoch t false) rfl, htime]
  exact ⟨rfl, rfl, rfl⟩

/-- The instant at which the present epoch of a copy ends: 32,000 ms after its start. -/
def LCopy.epochEnd (c : LCopy) : Nat := (c.startOf c.gen).getD 0 + 32000 * perMs

theorem exec_epochStart_idle {s : State} (hidle : s.dev.running = none) : exec .epochStart s = .next s := by
  show execEpochStart s = _
  unfold execEpochStart
  refine on_same ?_
  split
  · rfl
  · simp only [hidle, Option.isNone_none, Bool.true_or, if_true]

/-- In BUILD and HOLD the epoch is that of the operational copy. -/
theorem exec_epochStart {s : State} {c : LCopy} (ha : Awake s) (hcopy : s.dev.ldg.copy = some c)
    (hrun : s.dev.running.isSome = true) (hmode : s.dev.mode.cur = .build ∨ s.dev.mode.cur = .hold) :
    exec .epochStart s = .next { s with dev := s.dev.epochBegun c c.epochEnd } := by
  have hop : s.dev.onReplay = false := by
    unfold Dev.onReplay
    rcases hmode with h | h <;> rw [h] <;> rfl
  have hinUse : s.dev.ldgCopy = some c := by
    unfold Dev.ldgCopy Dev.copyOf
    rw [hop]
    exact hcopy
  have hruns : (s.dev.running.isNone || !(s.dev.building || s.dev.mode.cur == .hold)) = false := by
    obtain ⟨l, hl⟩ := Option.isSome_iff_exists.mp hrun
    rcases hmode with h | h <;> simp [Dev.building, h, hl]
  show execEpochStart s = _
  unfold execEpochStart
  rw [on_awake _ _ ha]
  simp only [hinUse, hruns, hop]
  rfl

/-! ## LEDGER_CLEAR and LEDGER_READ (R260, R261) -/

theorem exec_ledgerClear {r : Req} (e : Env) {s : State} (h : Takes s 0x0511 cmdLedgerClear r) :
    exec (.ledgerClear r e) s =
      .next { s with dev := cmdLedgerClear.effect (asOp 0x0511 r) e (started s 0x0511 r) } := by
  show s.command 0x0511 cmdLedgerClear r e = _
  exact command_takes s _ _ r e h

/-- The device with its replay copy cleared, or its operational one, whose epoch registers follow. -/
def Dev.ledgerCleared (d : Dev) (rep : Bool) : Dev :=
  let d := { d with ldg := { d.ldg with cache := d.ldg.cache.filter (fun p => p.1 % 2 != bitOf rep) } }
  if rep then d.putCopy true (LCopy.cleared d.tb3) else (d.putCopy false (LCopy.cleared d.tb3)).ldgRegs

theorem ledgerClear_effect (d : Dev) (q : Req) (e : Env) :
    cmdLedgerClear.effect q e d = (d.ledgerCleared (q.a0.bit 0)).ok q 0 0 0 0 := by
  unfold Dev.ledgerCleared
  cases h : q.a0.bit 0 <;> simp only [cmdLedgerClear, h] <;> rfl

/-- A command that completes OK leaves the ledger and the layers. -/
theorem ok_ldg_lay (d : Dev) (q : Req) (a b c e : Nat) :
    (d.ok q a b c e).ldg = d.ldg ∧ (d.ok q a b c e).lay = d.lay := by
  obtain ⟨_, _, _, _, h⟩ := hostSide_ok d q a b c e
  rw [h]
  exact ⟨rfl, rfl⟩

theorem rd_ok (d : Dev) (q : Req) (a b c e off : Nat) : (d.ok q a b c e).rd off = d.rd off := by
  obtain ⟨_, _, _, _, h⟩ := hostSide_ok d q a b c e
  have hregs := regs_ok d q a b c e
  rw [h] at hregs ⊢
  dsimp only at hregs
  rw [hregs]
  rfl

/-- A clear leaves the layers and the bands that are lost. -/
theorem ledgerClear_keeps (d : Dev) (q : Req) (e : Env) :
    (cmdLedgerClear.effect q e d).ldg.bandLost = d.ldg.bandLost ∧ (cmdLedgerClear.effect q e d).lay = d.lay := by
  rw [ledgerClear_effect, (ok_ldg_lay _ q 0 0 0 0).1, (ok_ldg_lay _ q 0 0 0 0).2]
  cases q.a0.bit 0
  · exact ⟨rfl, rfl⟩
  · exact ⟨rfl, rfl⟩

theorem ledgerClear_replay (d : Dev) {q : Req} (e : Env) (hrep : q.a0.bit 0 = true) :
    (cmdLedgerClear.effect q e d).ldg.replay = some (LCopy.cleared d.tb3) ∧
    (cmdLedgerClear.effect q e d).ldg.copy = d.ldg.copy := by
  rw [ledgerClear_effect, (ok_ldg_lay _ q 0 0 0 0).1, hrep]
  exact ⟨rfl, rfl⟩

theorem ledgerClear_copy (d : Dev) {q : Req} (e : Env) (hrep : q.a0.bit 0 = false) :
    (cmdLedgerClear.effect q e d).ldg.copy = some (LCopy.cleared d.tb3) ∧
    (cmdLedgerClear.effect q e d).ldg.replay = d.ldg.replay ∧ (cmdLedgerClear.effect q e d).rd LDG_EPOCH = 0 := by
  rw [ledgerClear_effect, (ok_ldg_lay _ q 0 0 0 0).1, rd_ok, hrep]
  refine ⟨rfl, rfl, ?_⟩
  unfold Dev.ledgerCleared
  rw [if_neg (by decide), rd_ldgRegs_epoch (c := LCopy.cleared d.tb3) rfl]
  rfl

/-- LEDGER_READ answers the cells of its rectangle, row by row. -/
theorem exec_ledgerRead {r : Req} (e : Env) {s : State} {c : LCopy} (h : Takes s 0x0590 cmdLedgerRead r)
    (hcopy : (if r.a2.bit 0 then s.dev.ldg.replay else s.dev.ldg.copy) = some c) :
    exec (.ledgerRead r e) s = .next { s with dev := ((started s 0x0590 r).okData (asOp 0x0590 r)
      ((List.range (r.a1.get 16 16)).flatMap (fun y => (List.range (r.a1.get 0 16)).flatMap (fun x =>
        s.dev.ldgEntry c (r.a0.get 0 16 + x) (r.a0.get 16 16 + y)))) 0 0 0 0) } := by
  show s.command 0x0590 cmdLedgerRead r e = _
  rw [command_takes s _ _ r e h]
  have hstarted : (if (asOp 0x0590 r).a2.bit 0 then (started s 0x0590 r).ldg.replay
      else (started s 0x0590 r).ldg.copy) = some c := hcopy
  simp only [cmdLedgerRead, hstarted]
  rfl

/-! ## The look-ahead (R250, R252) -/

/-- `b` differs from `a` at most in the tile cache of the ledger and in how many free values it has taken. -/
def CacheSide (a b : Dev) : Prop :=
  ∃ cache ctr, b = { a with ldg := { a.ldg with cache := cache }, freeCtr := ctr }

theorem CacheSide.refl (a : Dev) : CacheSide a a := ⟨a.ldg.cache, a.freeCtr, rfl⟩

theorem CacheSide.trans {a b c : Dev} (h : CacheSide a b) (k : CacheSide b c) : CacheSide a c := by
  obtain ⟨_, _, rfl⟩ := h
  obtain ⟨cache, ctr, rfl⟩ := k
  exact ⟨cache, ctr, rfl⟩

theorem CacheSide.keeps {a b : Dev} (h : CacheSide a b) :
    b.regs = a.regs ∧ b.ldg.copy = a.ldg.copy ∧ b.ldg.replay = a.ldg.replay ∧ b.engines = a.engines := by
  obtain ⟨_, _, rfl⟩ := h
  exact ⟨rfl, rfl, rfl, rfl⟩

/-- A run put in the place of another is the one that stands there. -/
theorem runs_set_same {d : Dev} {n i : Nat} {r x : Run} (hn : n < d.engines.length)
    (hr : (d.engines.getD n default).runs[i]? = some r) :
    ((d.modEng n (fun e => { e with runs := e.runs.set i x })).eng n).runs[i]? = some x := by
  rw [eng_modEng_same _ _ _ hn]
  exact List.getElem?_set_self (List.getElem?_eq_some_iff.mp hr).1

theorem cacheSide_touchTiles (d : Dev) (tns : List Nat) :
    CacheSide d (tns.foldl (fun d tn => d.touchTile d.onReplay tn false) d) :=
  foldl_keeps CacheSide CacheSide.refl (fun _ _ _ => CacheSide.trans) _ (fun a _ => ⟨_, a.freeCtr, rfl⟩) tns d

theorem cacheSide_freeErr (d : Dev) (k : Nat) : CacheSide d (d.freeErr k).2 := ⟨d.ldg.cache, _, rfl⟩

/-- An answer of the ledger brings tiles to the cache and changes no cell (R243, R250). -/
theorem cacheSide_answer (d : Dev) (x y : Int) (tArr : Nat) (set : List Byte) :
    CacheSide d (d.answer x y tArr set).2 := by
  unfold Dev.answer
  split
  · exact CacheSide.refl d
  · split
    split
    extract_lets d' h
    have hcached : CacheSide d d' := cacheSide_touchTiles d _
    refine hcached.trans ?_
    split
    next herr =>
      split at herr
      · cases herr
        exact CacheSide.refl _
      · have hdev := congrArg Prod.snd herr
        dsimp only at hdev ⊢
        rw [← hdev]
        exact cacheSide_freeErr _ _

section lookahead
variable {n : Fin 18} {s : State}

theorem exec_lookaheadRead_none
    (hnone : (s.dev.eng n).runs.findIdx? (fun r => decide (r.served < s.dev.issued n r)) = none) :
    exec (.lookaheadRead n) s = .next s := by
  show execLookaheadRead n s = _
  unfold execLookaheadRead
  refine on_same ?_
  simp only [hnone]

variable {i : Nat} {r : Run} (ha : Awake s)
  (hi : (s.dev.eng n).runs.findIdx? (fun r => decide (r.served < s.dev.issued n r)) = some i)
  (hr : (s.dev.eng n).runs[i]? = some r)
include ha hi hr

theorem exec_lookaheadRead_fenced (hfenced : s.dev.fencedUnit n = true) :
    exec (.lookaheadRead n) s = .next { s with dev := s.dev.ghost n 1 } := by
  show execLookaheadRead n s = _
  unfold execLookaheadRead
  rw [on_awake _ _ ha]
  simp only [hi, hr, hfenced, if_true]

/-- The oldest read is answered: its run has one more read served, and else the answer changed the cache alone. -/
theorem exec_lookaheadRead_served (hlive : s.dev.fencedUnit n = false) :
    ∃ b x, exec (.lookaheadRead n) s =
        .next { s with dev := b.modEng n (fun e => { e with runs := e.runs.set i x }) } ∧
      CacheSide s.dev b ∧ x.served = r.served + 1 ∧ x.unit = r.unit ∧ x.pieces = r.pieces := by
  show ∃ b x, execLookaheadRead n s = _ ∧ _
  unfold execLookaheadRead
  rw [on_awake _ _ ha]
  simp only [hi, hr, hlive, Bool.false_eq_true, if_false]
  exact ⟨_, _, rfl, cacheSide_answer _ _ _ _ _, rfl, rfl, rfl⟩

end lookahead

/-! ## O34 -/

/-- Settles O34: a cleared copy by its empty tiles, and each command of the ledger by the branches of its handler. -/
theorem ledgerWork : Obligations.LedgerWork := by
  refine ⟨preheat_cleared, fun n u us s d ha hw hd => ?_, fun n s _ => exec_ledgerUpdate_none,
    fun n u rest s d ha hn hd => ?_,
    fun n s _ => exec_ledgerLossNotice_none, fun dev dst x y nj t s ha hd => ⟨fun cx cy hopen hcell => ?_, fun hidle => ?_⟩,
    fun c s ha hcopy hrun hmode => ?_, fun s _ => exec_epochStart_idle, fun r e s h => ?_,
    fun r e s c h => exec_ledgerRead e h, fun n i r s ha hi hr hlen => ⟨exec_lookaheadRead_fenced ha hi hr, fun hlive => ?_⟩,
    fun n s _ => exec_lookaheadRead_none⟩
  · rw [exec_ledgerUpdate_oldest ha hw hd]
    refine ⟨fun hfenced => ?_, fun hlive hin => ?_, fun hlive hout => ?_⟩
    · rw [if_pos hfenced]
    · rw [if_neg (by simp [hlive]), if_pos hin]
    · rw [if_neg (by simp [hlive]), if_neg (by simp [hout])]
  · rw [exec_ledgerLossNotice_oldest ha hn hd]
    refine ⟨fun hfenced => ?_, fun hlive => ?_⟩
    · rw [if_pos hfenced]
    · rw [if_neg (by simp [hlive])]
      rfl
  · exact ⟨exec_bandUpd_applied hd ha hopen hcell nj t, exec_bandLoss_marks hd ha hopen hcell⟩
  · exact ⟨exec_bandUpd_idle hd hidle nj t, exec_bandLoss_idle hd hidle⟩
  · exact ⟨_, exec_epochStart ha hcopy hrun hmode, ⟨rfl, rfl⟩, epochBegun_keeps s.dev c c.epochEnd⟩
  · exact ⟨_, exec_ledgerClear e h, ⟨rfl, rfl⟩, ledgerClear_replay (started s 0x0511 r) (q := asOp 0x0511 r) e,
      ledgerClear_copy (started s 0x0511 r) (q := asOp 0x0511 r) e,
      ledgerClear_keeps (started s 0x0511 r) (asOp 0x0511 r) e⟩
  · obtain ⟨b, x, hexec, hcache, hserved, hunit, hpieces⟩ := exec_lookaheadRead_served ha hi hr hlive
    obtain ⟨hregs, hcopy, hreplay, hengines⟩ := hcache.keeps
    refine ⟨_, x, hexec, ⟨rfl, rfl⟩, ?_, hserved, hunit, hpieces, hregs, hcopy, hreplay⟩
    exact runs_set_same (by rwa [hengines]) (by rwa [hengines])

end Sys2Proof.Machine
end

section
/-! SUPPORT. What an update of a camera port leaves of it and of the others, and O40: triggers and the life of a frame
(R291 to R293, R306, R311). -/

namespace Sys2Proof.Machine

/-! ## One port updated -/

theorem cam_modCam_same (d : Dev) {p : Nat} (f : Cam → Cam) (h : p < d.vis.cams.length) :
    (d.modCam p f).cam p = f (d.cam p) := getD_modAt_same _ _ _ _ h

theorem cam_modCam_other (d : Dev) {p q : Nat} (f : Cam → Cam) (h : q ≠ p) : (d.modCam p f).cam q = d.cam q :=
  getD_modAt_other _ _ _ _ _ h

theorem cams_length_modCam (d : Dev) (p : Nat) (f : Cam → Cam) :
    (d.modCam p f).vis.cams.length = d.vis.cams.length := modAt_length _ _ _

/-- What an update of a port leaves alone reads the same on every port. -/
theorem cam_modCam_keeps {β : Type} (g : Cam → β) (d : Dev) (p q : Nat) {f : Cam → Cam} (hf : ∀ c, g (f c) = g c) :
    g ((d.modCam p f).cam q) = g (d.cam q) := by
  by_cases hq : q = p
  · subst hq
    by_cases hlen : q < d.vis.cams.length
    · rw [cam_modCam_same d f hlen, hf]
    · have hnone : d.vis.cams[q]? = none := List.getElem?_eq_none (not_lt.mp hlen)
      simp only [Dev.cam, Dev.modCam, modAt, hnone]
  · rw [cam_modCam_other d f hq]

/-! ## Triggers (R292, R293) -/

/-- What the changes that take effect at a trigger leave of the device. -/
def ShadowSide (a b : Dev) : Prop :=
  b.tb3 = a.tb3 ∧ b.mode = a.mode ∧ b.flt = a.flt ∧ b.vis.cams.length = a.vis.cams.length

theorem ShadowSide.refl (a : Dev) : ShadowSide a a := ⟨rfl, rfl, rfl, rfl⟩

theorem ShadowSide.trans {a b c : Dev} (h : ShadowSide a b) (k : ShadowSide b c) : ShadowSide a c := by
  obtain ⟨htime, hmode, hflt, hlen⟩ := h
  obtain ⟨htime', hmode', hflt', hlen'⟩ := k
  exact ⟨htime'.trans htime, hmode'.trans hmode, hflt'.trans hflt, hlen'.trans hlen⟩

theorem shadowSide_foldl {β : Type} (f : Dev → β → Dev) (h : ∀ a b, ShadowSide a (f a b)) (l : List β) (a : Dev) :
    ShadowSide a (l.foldl f a) := foldl_keeps ShadowSide ShadowSide.refl (fun _ _ _ => ShadowSide.trans) f h l a

theorem shadowSide_applyChanges (d : Dev) (p m : Nat) : ShadowSide d (d.applyChanges p m) := by
  refine shadowSide_foldl _ (fun a g => ?_) _ _
  refine (shadowSide_foldl (fun x w => x.wr w.1 w.2) (fun x w => ⟨rfl, rfl, rfl, rfl⟩) g.writes a).trans ?_
  exact ⟨rfl, rfl, rfl, cams_length_modCam _ _ _⟩

/-- In `b` the frame `f` of port p is open and `n` is the number of the next, and `b` has the mode and the collector of
`a`. -/
def Opens (p : Nat) (f : Frame) (n : Nat) (a b : Dev) : Prop :=
  (b.cam p).frame = some f ∧ (b.cam p).seq = n ∧ b.mode = a.mode ∧ b.flt = a.flt

section opens
variable {p n : Nat} {f : Frame} {a b c : Dev} (h : Opens p f n a b)
include h

theorem Opens.hostSide (k : HostSide b c) : Opens p f n a c := by
  obtain ⟨_, _, _, _, rfl⟩ := k
  exact h

theorem Opens.modCam {g : Cam → Cam} (hframe : ∀ c, (g c).frame = c.frame) (hseq : ∀ c, (g c).seq = c.seq) :
    Opens p f n a (b.modCam p g) := by
  obtain ⟨hf, hn, hmode, hflt⟩ := h
  exact ⟨(cam_modCam_keeps Cam.frame b p p hframe).trans hf, (cam_modCam_keeps Cam.seq b p p hseq).trans hn,
    hmode, hflt⟩

end opens

/-- The frame that a trigger of port p opens, once its changes have taken effect. -/
def Dev.openedFrame (d : Dev) (p : Nat) (host : Bool) : Frame :=
  let a := d.applyChanges p (d.cam p).seq
  let c := a.cam p
  let probe := host && (match c.hosts.find? (fun h => decide (0 < h.left)) with
    | some h => h.req.isNone
    | none => false)
  ⟨(d.cam p).seq % 2 ^ 32, a.tb3, c.tag, a.mode.cur, false, false, false, false, c.prevBad || c.tag != c.prevTag,
    probe, []⟩

/-- The CAM_TAP_SETs that take effect complete. -/
theorem hostSide_tapsTold (d : Dev) (taps : List (Req × Tap)) :
    HostSide d (taps.foldl (fun d t => d.ok t.1 0 0 0 0) d) := by
  refine foldl_keeps HostSide HostSide.refl (fun _ _ _ => HostSide.trans) _ (fun a t => ?_) taps d
  exact hostSide_ok a t.1 0 0 0 0

theorem hostSide_camRegs (d : Dev) (p last : Nat) : HostSide d (d.camRegs p last) := hostSide_wr d _ _

/-- A trigger opens its frame and counts on; counting the frames of a CAM_TRIGGER and telling the host touch neither. -/
theorem fireTrigger_opens {d : Dev} {p : Nat} (host : Bool) (hlen : p < d.vis.cams.length) :
    Opens p (d.openedFrame p host) ((d.cam p).seq + 1) d (d.fireTrigger p host) := by
  obtain ⟨-, hmode, hflt, hcams⟩ := shadowSide_applyChanges d p (d.cam p).seq
  unfold Dev.fireTrigger
  extract_lets m a c reset probe f taps open_ strobe framed counted sent numbered told
  have hframed : Opens p f (m + 1) d framed := by
    unfold Opens framed
    rw [cam_modCam_same a _ (lt_of_lt_of_eq hlen hcams.symm)]
    exact ⟨rfl, rfl, hmode, hflt⟩
  have hcounted : Opens p f (m + 1) d counted := by
    unfold counted
    split
    · exact hframed.modCam (fun c => by split <;> rfl) (fun c => by split <;> rfl)
    · exact hframed
  have hnumbered : Opens p f (m + 1) d numbered :=
    (hcounted.hostSide (hostSide_send _ _)).hostSide (hostSide_wr sent _ _)
  have htold : Opens p f (m + 1) d told :=
    hnumbered.hostSide (hostSide_tapsTold numbered taps)
  exact htold.hostSide (hostSide_camRegs told p c.tag)

section instant
variable {p : Fin 20} {s : State} {k : Option Nat} (hk : k = if s.dev.schedOn p then s.dev.schedNext p else none)
include hk

theorem exec_cameraTrigger_host (ha : Awake s) {h : Nat} (hhost : s.dev.hostNext p = some h)
    (hfirst : ∀ t, k = some t → h ≤ t) :
    exec (.cameraTrigger p) s = .next { s with dev := (s.dev.advanceTo h).fireTrigger p true } := by
  show execCameraTrigger p s = _
  unfold execCameraTrigger
  rw [on_awake _ _ ha, ← hk, hhost]
  cases k with
  | none => rfl
  | some t => simp only [hfirst t rfl, if_true]

theorem exec_cameraTrigger_scheduled (ha : Awake s) {t : Nat} (hsched : k = some t)
    (hfirst : ∀ h, s.dev.hostNext p = some h → t < h) :
    exec (.cameraTrigger p) s = .next { s with dev := s.dev.schedTrigger p t } := by
  show execCameraTrigger p s = _
  unfold execCameraTrigger
  rw [on_awake _ _ ha, ← hk, hsched]
  cases hhost : s.dev.hostNext p with
  | none => rfl
  | some h => simp only [not_le.mpr (hfirst h hhost), if_false]

theorem exec_cameraTrigger_none (hhost : s.dev.hostNext p = none) (hsched : k = none) :
    exec (.cameraTrigger p) s = .next s := by
  show execCameraTrigger p s = _
  refine on_same ?_
  rw [← hk, hhost, hsched]

end instant

/-! ## Packets (R291, R306) -/

/-- The packet is no line of a port of data type `dt`: another channel or type, or damaged. -/
def refusedAs (dt : Nat) (k : CsiPacket) : Bool := (k.vc != 0 || k.dt != dt) || (k.hdrBad || k.crcBad)

theorem refusedAs_iff (dt : Nat) (k : CsiPacket) :
    refusedAs dt k = true ↔ k.vc ≠ 0 ∨ k.dt ≠ dt ∨ k.hdrBad = true ∨ k.crcBad = true := by
  simp [refusedAs, or_assoc]

theorem refusedAs_eq_false {k : CsiPacket} {dt : Nat} (hvc : k.vc = 0) (hdt : k.dt = dt) (hhdr : k.hdrBad = false)
    (hcrc : k.crcBad = false) : refusedAs dt k = false := by simp [refusedAs, hvc, hdt, hhdr, hcrc]

theorem packet_discarded (f : Frame) (w h : Nat) (crcErr : Bool) (px : List Nat) :
    f.packet w h false crcErr px = { f with trunc := true, crcErr := f.crcErr || crcErr } := rfl

theorem packet_line (f : Frame) {w h : Nat} (crcErr : Bool) (px : List Nat) (hroom : f.rows.length < h) :
    f.packet w h true crcErr px = { f with
      rows := f.rows ++ [px.take w]
      trunc := f.trunc || decide (px.length < w)
      ovr := f.ovr || decide (w < px.length) } := by
  simp only [Frame.packet, Bool.not_true, Bool.false_eq_true, if_false, if_neg (not_le.mpr hroom)]

theorem packet_overrun (f : Frame) {w h : Nat} (crcErr : Bool) (px : List Nat) (hfull : h ≤ f.rows.length) :
    f.packet w h true crcErr px = { f with ovr := true } := by
  simp only [Frame.packet, Bool.not_true, Bool.false_eq_true, if_false, if_pos hfull]

/-- A port that is absent or whose engine is fenced hears no packet (R311). -/
theorem exec_csi_deaf {p : Fin 20} {s : State} (k : CsiPacket)
    (hdeaf : visPresent s.dev.variant p = false ∨ s.dev.fencedUnit (camUnit p) = true) :
    exec (.csiFrameStart p) s = .next s ∧ exec (.csiLongPacket p k) s = .next s := by
  have hquiet : (!visPresent s.dev.variant p || s.dev.fencedUnit (camUnit p) ||
      !(s.dev.cam p).on && (s.dev.cam p).frame.isNone) = true := by
    rcases hdeaf with h | h <;> simp [h]
  constructor
  · show execCsiFrameStart p s = _
    exact on_same (if_pos hquiet)
  · show execCsiLongPacket p k s = _
    exact on_same (if_pos hquiet)

section hears
variable {p : Fin 20} {s : State} (ha : Awake s) (hpresent : visPresent s.dev.variant p = true)
  (hlive : s.dev.fencedUnit (camUnit p) = false)

section packets
include ha hpresent hlive

section opened
variable {f : Frame} (hframe : (s.dev.cam p).frame = some f)
include hframe

theorem exec_csiFrameStart_open : exec (.csiFrameStart p) s =
    .next { s with dev := s.dev.modCam p (fun (c : Cam) => { c with frame := some { f with started := true } }) } := by
  show execCsiFrameStart p s = _
  unfold execCsiFrameStart
  rw [on_awake _ _ ha]
  simp [hpresent, hlive, hframe]

theorem exec_csiLongPacket_line {k : CsiPacket} (hline : refusedAs (s.dev.fld (VIS_PORT_CFG p) 0 6) k = false) :
    exec (.csiLongPacket p k) s = .next { s with dev := s.dev.modCam p (fun (c : Cam) => { c with
      frame := some (f.packet (s.dev.camWidth p) (s.dev.camHeight p) true (k.hdrBad || k.crcBad)
        (k.px.map (fun v => v % 2 ^ s.dev.camBits p))) }) } := by
  show execCsiLongPacket p k s = _
  unfold execCsiLongPacket
  rw [on_awake _ _ ha]
  unfold refusedAs at hline
  simp [hpresent, hlive, hframe, hline]

theorem exec_csiLongPacket_refused {k : CsiPacket} (hrefused : refusedAs (s.dev.fld (VIS_PORT_CFG p) 0 6) k = true) :
    exec (.csiLongPacket p k) s = .next { s with dev := (s.dev.count (VIS_PORT_DISC_CNT p) 1).modCam p (fun (c : Cam) =>
      { c with frame := some { f with trunc := true, crcErr := f.crcErr || (k.hdrBad || k.crcBad) } }) } := by
  show execCsiLongPacket p k s = _
  unfold execCsiLongPacket
  rw [on_awake _ _ ha]
  unfold refusedAs at hrefused
  have hsame : ((s.dev.count (VIS_PORT_DISC_CNT p) 1).cam p).frame = some f := hframe
  simp [hpresent, hlive, hframe, hrefused, hsame, packet_discarded]

end opened

section closed
variable (hframe : (s.dev.cam p).frame = none) (hon : (s.dev.cam p).on = true)
include hframe hon

theorem exec_csiFrameStart_unsolicited : exec (.csiFrameStart p) s = .next { s with dev :=
    (((s.dev.modCam p (fun (c : Cam) => { c with unsol := true })).count (VIS_PORT_DISC_CNT p) 1).camFault p 8) } := by
  show execCsiFrameStart p s = _
  unfold execCsiFrameStart
  rw [on_awake _ _ ha]
  simp [hpresent, hlive, hframe, hon]

theorem exec_csiLongPacket_closed {k : CsiPacket} (hrefused : refusedAs (s.dev.fld (VIS_PORT_CFG p) 0 6) k = true) :
    exec (.csiLongPacket p k) s = .next { s with dev := s.dev.count (VIS_PORT_DISC_CNT p) 1 } := by
  show execCsiLongPacket p k s = _
  unfold execCsiLongPacket
  rw [on_awake _ _ ha]
  unfold refusedAs at hrefused
  have hsame : ((s.dev.count (VIS_PORT_DISC_CNT p) 1).cam p).frame = none := hframe
  simp [hpresent, hlive, hframe, hon, hrefused, hsame]

end closed
end packets

/-! ## The end of a frame (R293, R306) -/

section frameEnd
include ha hlive

theorem exec_csiFrameEnd_discarded (hunsol : (s.dev.cam p).unsol = true) : exec (.csiFrameEnd p) s =
    .next { s with dev := s.dev.modCam p (fun (c : Cam) => { c with unsol := false }) } := by
  show execCsiFrameEnd p s = _
  unfold execCsiFrameEnd
  rw [on_awake _ _ ha]
  simp only [hlive, hunsol, Bool.false_eq_true, if_false, if_true]

theorem exec_csiFrameEnd_open {f : Frame} (hunsol : (s.dev.cam p).unsol = false)
    (hframe : (s.dev.cam p).frame = some f) :
    exec (.csiFrameEnd p) s = .next (if f.started then { s with dev := s.dev.endFrame p f false } else s) := by
  show execCsiFrameEnd p s = _
  unfold execCsiFrameEnd
  rw [on_awake _ _ ha]
  simp only [hlive, hunsol, hframe, Bool.false_eq_true, if_false]
  cases f.started <;> rfl

end frameEnd

section timeouts
include ha

section opened
variable {f : Frame} (hframe : (s.dev.cam p).frame = some f)
include hframe

theorem exec_frameTimeout_open : exec (.frameTimeout p) s = .next { s with dev :=
    ((s.dev.advanceTo (f.trig + camTmo p (s.dev.fld (VIS_PORT_TMO p) 16 16))).endFrame p f false) } := by
  show execFrameTimeout p s = _
  unfold execFrameTimeout
  rw [on_awake _ _ ha, hframe]

theorem exec_frameStartTimeout_missing (hstarted : f.started = false) :
    exec (.frameStartTimeout p) s = .next { s with dev :=
      ((s.dev.advanceTo (f.trig + camTmo p (s.dev.fld (VIS_PORT_TMO p) 8 8))).endFrame p f true) } := by
  show execFrameStartTimeout p s = _
  unfold execFrameStartTimeout
  rw [on_awake _ _ ha, hframe]
  simp only [hstarted, Bool.false_eq_true, if_false]

omit ha in
theorem exec_frameStartTimeout_started (hstarted : f.started = true) : exec (.frameStartTimeout p) s = .next s := by
  show execFrameStartTimeout p s = _
  refine on_same ?_
  rw [hframe]
  exact if_pos hstarted

end opened

omit ha in
theorem exec_frameTimeouts_none (hframe : (s.dev.cam p).frame = none) :
    exec (.frameTimeout p) s = .next s ∧ exec (.frameStartTimeout p) s = .next s := by
  constructor
  · show execFrameTimeout p s = _
    exact on_same (by rw [hframe])
  · show execFrameStartTimeout p s = _
    exact on_same (by rw [hframe])

include hpresent in
theorem exec_laneErr : exec (.laneErr p) s = .next { s with dev := s.dev.fault 26 4 } := by
  show execLaneErr p s = _
  unfold execLaneErr
  rw [on_awake _ _ ha, if_pos hpresent]

end timeouts
end hears

/-- Settles O40: the triggers by the instants that come, then the packets and the ends of a frame, of the open port and
of the port without a frame. That the host's trigger comes first where the two instants are equal is the model's
choice. -/
theorem cameraFrames : Obligations.CameraFrames := by
  refine ⟨fun p s k ha hk => ?_, fun d p host hlen _ => ?_, fun p s k _ hdeaf => exec_csi_deaf k hdeaf,
    fun p s ha hpresent hlive hcams => ⟨fun f hframe => ?_, fun hframe hon => ?_, exec_frameTimeouts_none,
      exec_csiFrameEnd_discarded ha hlive, exec_laneErr ha hpresent⟩⟩
  · exact ⟨fun h => exec_cameraTrigger_host hk ha, fun t => exec_cameraTrigger_scheduled hk ha,
      exec_cameraTrigger_none hk⟩
  · obtain ⟨hframe, hseq, hmode, hflt⟩ := fireTrigger_opens host hlen
    obtain ⟨htime, -, -, -⟩ := shadowSide_applyChanges d p (d.cam p).seq
    exact ⟨d.openedFrame p host, hframe, rfl, htime, rfl, rfl, hseq, hmode, hflt⟩
  · have hp : p.val < s.dev.vis.cams.length := lt_of_lt_of_eq p.isLt hcams.symm
    refine ⟨⟨_, exec_csiFrameStart_open ha hpresent hlive hframe, ⟨rfl, rfl⟩,
        congrArg Cam.frame (cam_modCam_same _ _ hp), rfl⟩, ?_, ?_,
      fun hunsol => exec_csiFrameEnd_open ha hlive hunsol hframe, exec_frameTimeout_open ha hframe,
      exec_frameStartTimeout_started hframe, exec_frameStartTimeout_missing ha hframe⟩
    · intro k hvc hdt hhdr hcrc
      have hshown : ∀ g : Frame, ((s.dev.modCam p (fun (c : Cam) => { c with frame := some g })).cam p).frame = some g :=
        fun g => congrArg Cam.frame (cam_modCam_same _ _ hp)
      refine ⟨_, exec_csiLongPacket_line ha hpresent hlive hframe (refusedAs_eq_false hvc hdt hhdr hcrc), ⟨rfl, rfl⟩, rfl,
        fun hroom => ?_, fun hfull => ?_⟩
      · rw [hshown, packet_line f _ _ hroom, List.length_map]
      · rw [hshown, packet_overrun f _ _ hfull]
    · intro k hk
      exact ⟨_, _, exec_csiLongPacket_refused ha hpresent hlive hframe ((refusedAs_iff _ k).mpr hk), ⟨rfl, rfl⟩,
        congrArg Cam.frame (cam_modCam_same _ _ hp), rfl, rfl, Dev.rd_wr_same _ _ _⟩
  · exact ⟨exec_csiFrameStart_unsolicited ha hpresent hlive hframe hon, fun k hk =>
      exec_csiLongPacket_closed ha hpresent hlive hframe hon ((refusedAs_iff _ k).mpr hk)⟩

end Sys2Proof.Machine
end

section
/-! SUPPORT. What a settings change leaves of the other camera ports, and O41: sensor writes, port settings and the
other camera commands (R292, R300 to R304, R308). -/

namespace Sys2Proof.Machine

/-! ## The writes of a controller (R301, R304) -/

theorem i2c_modI2c_same (d : Dev) {c : Nat} (f : List I2cJob → List I2cJob) (h : c < d.vis.i2c.length) :
    (d.modI2c c f).vis.i2c.getD c [] = f (d.vis.i2c.getD c []) := getD_modAt_same _ _ _ _ h

/-- The write ends before the next scheduled trigger of its port, if there is one. -/
def Dev.writeFits (d : Dev) (j : I2cJob) : Bool :=
  match (if d.schedOn j.port then d.schedNext j.port else none) with
  | some t => decide (d.tb3 + j.dur ≤ t)
  | none => true

theorem writeFits_iff (d : Dev) (j : I2cJob) : d.writeFits j = true ↔
    ∀ t, d.schedOn j.port = true → d.schedNext j.port = some t → d.tb3 + j.dur ≤ t := by
  unfold Dev.writeFits
  cases d.schedOn j.port <;> cases d.schedNext j.port <;> simp

/-- The oldest write of controller c does not start now. -/
def Dev.writeWaits (d : Dev) (c : Nat) (j : I2cJob) : Bool :=
  j.started || (d.cam j.port).frame.isSome || d.fencedUnit (18 + c) || !(d.writeFits j || j.hold)

theorem writeWaits_eq_false (d : Dev) (c : Nat) (j : I2cJob) : d.writeWaits c j = false ↔
    j.started = false ∧ (d.cam j.port).frame = none ∧ d.fencedUnit (18 + c) = false ∧ (j.hold = true ∨
      ∀ t, d.schedOn j.port = true → d.schedNext j.port = some t → d.tb3 + j.dur ≤ t) := by
  rw [← writeFits_iff, Dev.writeWaits]
  cases d.writeFits j <;> simp [and_assoc]

/-- The messages of the write in progress have gone out, up to the byte that was not acknowledged, and the change it
makes can take effect. -/
def Dev.writeSent (d : Dev) (c : Nat) (j : I2cJob) (js : List I2cJob) (bad : Option Nat) : Dev :=
  ((d.modI2c c (fun _ => js)).send (.i2c c (cutAtNack bad (j.entries.map i2cMessage)))).modCam j.port (fun (k : Cam) =>
    { k with changes := k.changes.map (fun (g : Change) => if g.of j.req then { g with
      raw := some ((d.cam j.port).seq + d.fld (VIS_PORT_SENSOR j.port) 0 2),
      tag := if bad.isSome then 0xFFFF else g.tag } else g) })

/-- The command of a write fails where a byte of it was not acknowledged. -/
def Dev.writeTold (d : Dev) (c : Nat) (j : I2cJob) : Option Nat → Dev
  | none => d
  | some k => (d.fault (22 + c) 3).complete j.req stTimeout 0x0808
      (words4 (fullEntries k (j.entries.map i2cMessage)) 0 0 0)

/-- The place of the byte that was not acknowledged, where the write has such a byte. -/
def nackIn (j : I2cJob) (nack : Option Nat) : Option Nat :=
  nack.filter (fun k => decide (k < (j.entries.map i2cMessage).flatten.length))

/-- A controller without writes has nothing to start, end or drop. -/
theorem exec_i2c_none {c : Fin 4} {s : State} (hjobs : s.dev.vis.i2c.getD c [] = []) :
    exec (.i2cWriteStart c) s = .next s ∧ (∀ nack, exec (.i2cWriteEnd c nack) s = .next s) ∧
      exec (.i2cSetTimeout c) s = .next s := by
  refine ⟨?_, fun nack => ?_, ?_⟩
  · show execI2cWriteStart c s = _
    exact on_same (by rw [hjobs])
  · show execI2cWriteEnd c nack s = _
    exact on_same (by rw [hjobs])
  · show execI2cSetTimeout c s = _
    exact on_same (by rw [hjobs]; rfl)

section oldest
variable {c : Fin 4} {s : State} {j : I2cJob} {js : List I2cJob} (hjobs : s.dev.vis.i2c.getD c [] = j :: js)
include hjobs

theorem exec_i2cWriteStart_starts (ha : Awake s) (hmay : s.dev.writeWaits c j = false) :
    exec (.i2cWriteStart c) s =
      .next { s with dev := s.dev.modI2c c (fun _ => { j with started := true } :: js) } := by
  show execI2cWriteStart c s = _
  unfold execI2cWriteStart
  rw [on_awake _ _ ha, hjobs]
  exact next_congr (if_neg (ne_true_of_eq_false hmay))

theorem exec_i2cWriteStart_waits (hwaits : s.dev.writeWaits c j = true) : exec (.i2cWriteStart c) s = .next s := by
  show execI2cWriteStart c s = _
  refine on_same ?_
  rw [hjobs]
  exact if_pos hwaits

theorem exec_i2cWriteEnd_idle (nack : Option Nat) (hidle : j.started = false ∨ s.dev.fencedUnit (18 + c) = true) :
    exec (.i2cWriteEnd c nack) s = .next s := by
  show execI2cWriteEnd c nack s = _
  refine on_same ?_
  rw [hjobs]
  exact if_pos (by rcases hidle with h | h <;> simp [h])

theorem exec_i2cWriteEnd_sent (ha : Awake s) (nack : Option Nat) (hstarted : j.started = true)
    (hlive : s.dev.fencedUnit (18 + c) = false) : exec (.i2cWriteEnd c nack) s = .next { s with dev :=
      ((((s.dev.writeSent c j js (nackIn j nack)).writeTold c j (nackIn j nack)).settleCam j.port).afterWrite
        j.port) } := by
  show execI2cWriteEnd c nack s = _
  unfold execI2cWriteEnd
  rw [on_awake _ _ ha, hjobs]
  simp only [hstarted, hlive, Bool.not_true, Bool.or_self, Bool.false_eq_true, if_false]
  rfl

end oldest

theorem exec_i2cSetTimeout_none {c : Fin 4} {s : State} (hall : ∀ i ∈ s.dev.vis.i2c.getD c [], i.started = true) :
    exec (.i2cSetTimeout c) s = .next s := by
  have hnone : (s.dev.vis.i2c.getD c []).find? (fun i => !i.started) = none := by
    rw [List.find?_eq_none]
    intro i hi
    simp [hall i hi]
  show execI2cSetTimeout c s = _
  exact on_same (by rw [hnone])

theorem exec_i2cSetTimeout_drops {c : Fin 4} {s : State} {i : I2cJob} (ha : Awake s)
    (hfind : (s.dev.vis.i2c.getD c []).find? (fun x => !x.started) = some i) :
    exec (.i2cSetTimeout c) s = .next { s with dev :=
      (((((s.dev.advanceTo (i.issued + s.dev.fld VIS_I2C_CFG 16 16 * perMs)).modI2c c
        (fun l => l.filter (fun x => x.started || x != i))).modCam i.port (fun (k : Cam) => { k with
          changes := k.changes.filter (fun g => !g.of i.req) })).fail i.req stTimeout 0x0807).settleCam i.port) } := by
  show execI2cSetTimeout c s = _
  unfold execI2cSetTimeout
  rw [on_awake _ _ ha, hfind]

/-! ## Settings changes (R302, R303) -/

theorem HostSide.cam_eq {a b : Dev} (h : HostSide a b) (p : Nat) : b.cam p = a.cam p := by
  obtain ⟨_, _, _, _, rfl⟩ := h
  rfl

/-- Settling tells the host, and changes one port. -/
theorem hostSide_settleCam (d : Dev) (p : Nat) : HostSide
    (d.modCam p (fun (c : Cam) => { c with changes := settleChanges (d.cam p).seq (d.cam p).changes }))
    (d.settleCam p) := by
  refine HostSide.trans ?_ (hostSide_camRegs _ _ _)
  refine foldl_keeps HostSide HostSide.refl (fun _ _ _ => HostSide.trans) _ (fun a g => ?_) _ _
  exact hostSide_ok a g.2.req _ 0 0 0

theorem issueChange_other (d : Dev) {p q : Nat} (g : Change) (h : q ≠ p) : (d.issueChange p g).cam q = d.cam q := by
  unfold Dev.issueChange
  rw [(hostSide_settleCam _ p).cam_eq q, cam_modCam_other _ _ h, cam_modCam_other _ _ h]

/-! ## CAM_SENSOR_SET (R301, R304) -/

theorem exec_camSensorSet {r : Req} {e : Env} {s : State} (h : TakesData s 0x0801 cmdCamSensorSet r e) :
    exec (.camSensorSet r e) s = .next { s with dev :=
      (cmdCamSensorSet.effect (asOp 0x0801 r) (envOf r e) (started s 0x0801 r)) } :=
  command_takesData s 0x0801 cmdCamSensorSet r e h

/-- The bits on the bus of an entry of a sensor write, with those that start and end it. -/
def sensorEntryBits (x : List Byte) : Nat := 9 * (1 + (bytesAt x 1 1 % 4 + 1) + (bytesAt x 1 1 / 4 % 4 + 1)) + 2

/-- The write that a CAM_SENSOR_SET of the entries `es` issues. -/
def Dev.sensorJob (d : Dev) (q : Req) (es : List (List Byte)) : I2cJob :=
  ⟨q.a0.get 0 5, q, es, (es.map sensorEntryBits).sum * d.sclTicks (camEngine (q.a0.get 0 5)) + 10 * perUs, q.a0.bit 8,
    d.tb3, false⟩

section sensor
variable {q : Req} {e : Env} {d : Dev}

theorem camSensorSet_effect_bad
    (h : ∃ x ∈ entriesOf 8 e.data, 2 ≤ bytesAt x 1 1 % 4 ∨ 16 ≤ bytesAt x 1 1 ∨ 128 ≤ bytesAt x 0 1) :
    cmdCamSensorSet.effect q e d = d.fail q stMalformed 0x0004 :=
  if_pos (by simpa [List.any_eq_true, or_assoc] using h)

theorem camSensorSet_effect_issues
    (h : ∀ x ∈ entriesOf 8 e.data, bytesAt x 1 1 % 4 < 2 ∧ bytesAt x 1 1 < 16 ∧ bytesAt x 0 1 < 128) :
    cmdCamSensorSet.effect q e d = (d.modI2c (camEngine (q.a0.get 0 5))
      (fun l => l ++ [d.sensorJob q (entriesOf 8 e.data)])).issueChange
        (q.a0.get 0 5) ⟨q, q.a1.get 0 16, none, none, [], none⟩ :=
  if_neg (by simpa [List.any_eq_true, and_assoc] using h)

end sensor

/-! ## CAM_PIPE_SET (R297, R303) -/

/-- The register and the value of each entry of a CAM_PIPE_SET. -/
def pipeEntries (b : List Byte) : List (Nat × Word) :=
  (entriesOf 8 b).map (fun x => (bytesAt x 0 4, BitVec.ofNat 32 (bytesAt x 4 4)))

/-- The entries as writes of the registers of port p. -/
def pipeWrites (p : Nat) (es : List (Nat × Word)) : List (Nat × Word) :=
  es.map (fun x => (VIS_P_BLACK p + x.1, x.2 &&& pipeMask x.1))

/-- The change of a settings command that needs no sensor write: it can take effect at the next frame. -/
def Dev.changeNow (d : Dev) (q : Req) (ws : List (Nat × Word)) (ps : Option (List (Nat × Nat))) : Change :=
  ⟨q, q.a1.get 0 16, some ((d.cam (q.a0.get 0 5)).seq + bitOf (d.trigNow (q.a0.get 0 5))), none, ws, ps⟩

/-- The effect of a CAM_PIPE_SET of the entries `es`. -/
def Dev.setPipe (d : Dev) (q : Req) (es : List (Nat × Word)) : Dev :=
  let p := q.a0.get 0 5
  if es.any (fun x => d.pipeKind p x.1 == 0 ||
      (x.1 == 0x14 && decide (4096 < Word.get x.2 0 16 * Word.get x.2 16 16))) then
    d.fail q stMalformed 0x0804
  else if es.any (fun x => d.pipeKind p x.1 == 2) then d.fail q stAbsent 0
  else if es.any (fun x => x.1 == 0x10 || x.1 == 0x14) && !d.roiFits p (pipeWrites p es) then
    d.fail q stMalformed 0x0804
  else d.issueChange p (d.changeNow q (pipeWrites p es) none)

theorem exec_camPipeSet {r : Req} {e : Env} {s : State} (h : TakesData s 0x0802 cmdCamPipeSet r e) :
    exec (.camPipeSet r e) s =
      .next { s with dev := (started s 0x0802 r).setPipe (asOp 0x0802 r) (pipeEntries (dataOf r e)) } :=
  command_takesData s 0x0802 cmdCamPipeSet r e h

section pipe
variable {d : Dev} {q : Req} {es : List (Nat × Word)}

theorem setPipe_bad (h : ∃ x ∈ es, d.pipeKind (q.a0.get 0 5) x.1 = 0 ∨
      (x.1 = 0x14 ∧ 4096 < Word.get x.2 0 16 * Word.get x.2 16 16)) :
    d.setPipe q es = d.fail q stMalformed 0x0804 :=
  if_pos (by simpa [List.any_eq_true] using h)

section good
variable (hgood : ∀ x ∈ es, d.pipeKind (q.a0.get 0 5) x.1 ≠ 0 ∧
  (x.1 = 0x14 → Word.get x.2 0 16 * Word.get x.2 16 16 ≤ 4096))
include hgood

theorem setPipe_absent (habsent : ∃ x ∈ es, d.pipeKind (q.a0.get 0 5) x.1 = 2) : d.setPipe q es = d.fail q stAbsent 0 :=
  (if_neg (by simpa [List.any_eq_true] using hgood)).trans (if_pos (by simpa [List.any_eq_true] using habsent))

/-- Entries in form of registers the port has: the region of interest decides. -/
theorem setPipe_present (hhere : ∀ x ∈ es, d.pipeKind (q.a0.get 0 5) x.1 ≠ 2) : d.setPipe q es =
    if es.any (fun x => x.1 == 0x10 || x.1 == 0x14) && !d.roiFits (q.a0.get 0 5) (pipeWrites (q.a0.get 0 5) es) then
      d.fail q stMalformed 0x0804
    else d.issueChange (q.a0.get 0 5) (d.changeNow q (pipeWrites (q.a0.get 0 5) es) none) :=
  (if_neg (by simpa [List.any_eq_true] using hgood)).trans (if_neg (by simpa [List.any_eq_true] using hhere))

theorem setPipe_outside (hhere : ∀ x ∈ es, d.pipeKind (q.a0.get 0 5) x.1 ≠ 2) (hroi : ∃ x ∈ es, x.1 = 0x10 ∨ x.1 = 0x14)
    (hout : d.roiFits (q.a0.get 0 5) (pipeWrites (q.a0.get 0 5) es) = false) :
    d.setPipe q es = d.fail q stMalformed 0x0804 :=
  (setPipe_present hgood hhere).trans (if_pos (by simpa [List.any_eq_true, hout] using hroi))

theorem setPipe_issues (hhere : ∀ x ∈ es, d.pipeKind (q.a0.get 0 5) x.1 ≠ 2)
    (hfits : (∃ x ∈ es, x.1 = 0x10 ∨ x.1 = 0x14) → d.roiFits (q.a0.get 0 5) (pipeWrites (q.a0.get 0 5) es) = true) :
    d.setPipe q es = d.issueChange (q.a0.get 0 5) (d.changeNow q (pipeWrites (q.a0.get 0 5) es) none) :=
  (setPipe_present hgood hhere).trans (if_neg (by simpa [List.any_eq_true] using hfits))

end good
end pipe

/-! ## CAM_DEFECT_LOAD (R303) -/

/-- The pixels that a CAM_DEFECT_LOAD names. -/
def defectPoints (b : List Byte) : List (Nat × Nat) := (entriesOf 4 b).map (fun x => (bytesAt x 0 2, bytesAt x 2 2))

/-- The effect of a CAM_DEFECT_LOAD of the pixels `es`. -/
def Dev.loadDefects (d : Dev) (q : Req) (es : List (Nat × Nat)) : Dev :=
  if es.any (fun x => decide (d.camWidth (q.a0.get 0 5) ≤ x.1) || decide (d.camHeight (q.a0.get 0 5) ≤ x.2)) then
    d.fail q stLimit 0x0805
  else d.issueChange (q.a0.get 0 5) (d.changeNow q [] (some es))

theorem camDefectLoad_effect (q : Req) (e : Env) (d : Dev) :
    cmdCamDefectLoad.effect q e d = d.loadDefects q (defectPoints (e.data.take q.dataLen)) := rfl

/-- Without data it loads the empty list. -/
theorem exec_camDefectLoad {r : Req} {e : Env} {s : State} {es : List (Nat × Nat)}
    (h : (TakesData s 0x0803 cmdCamDefectLoad r e ∧ es = defectPoints (dataOf r e)) ∨
      (Takes s 0x0803 cmdCamDefectLoad r ∧ es = [])) :
    exec (.camDefectLoad r e) s = .next { s with dev := (started s 0x0803 r).loadDefects (asOp 0x0803 r) es } := by
  show s.command 0x0803 cmdCamDefectLoad r e = _
  rcases h with ⟨h, rfl⟩ | ⟨h, rfl⟩
  · have htaken : (dataOf r e).take (asOp 0x0803 r).dataLen = dataOf r e :=
      List.take_of_length_le (List.length_take_le _ _)
    rw [command_takesData s _ _ r e h, camDefectLoad_effect, htaken]
  · obtain ⟨-, -, -, hlen, -⟩ := id h
    have hnone : e.data.take (asOp 0x0803 r).dataLen = [] := by
      show e.data.take r.dataLen = []
      rw [hlen, List.take_zero]
    rw [command_takes s _ _ r e h, camDefectLoad_effect, hnone]
    rfl

section defects
variable {d : Dev} {q : Req} {es : List (Nat × Nat)}

theorem loadDefects_outside (h : ∃ x ∈ es, d.camWidth (q.a0.get 0 5) ≤ x.1 ∨ d.camHeight (q.a0.get 0 5) ≤ x.2) :
    d.loadDefects q es = d.fail q stLimit 0x0805 :=
  if_pos (by simpa [List.any_eq_true] using h)

theorem loadDefects_inside (h : ∀ x ∈ es, x.1 < d.camWidth (q.a0.get 0 5) ∧ x.2 < d.camHeight (q.a0.get 0 5)) :
    d.loadDefects q es = d.issueChange (q.a0.get 0 5) (d.changeNow q [] (some es)) :=
  if_neg (by simpa [List.any_eq_true] using h)

end defects

/-! ## O41 -/

/-- Settles O41: the writes of a controller by its oldest, the settings commands by the ends of their effects, the other
commands by their effects. The statuses of entries out of form are the model's choices (log entries 8 and 48). -/
theorem cameraSettings : Obligations.CameraSettings := by
  refine ⟨fun c s _ hjobs => exec_i2c_none hjobs, fun c s j js may ha hjobs hlen hmay => ?_,
    fun r e s p d q b hp hb => ⟨fun h hd hq => ?_, fun es ws h hd hq hes hws => ?_, fun es hd hq h => ?_,
      fun d g q hq => issueChange_other d g hq⟩,
    fun r e s p hp => ?_⟩
  · have hstarts := hmay.trans (writeWaits_eq_false s.dev c j).symm
    refine ⟨fun h => ⟨_, exec_i2cWriteStart_starts hjobs ha (hstarts.mp h), ⟨rfl, rfl⟩,
        i2c_modI2c_same _ _ (lt_of_lt_of_eq c.isLt hlen.symm), rfl⟩,
      fun h => exec_i2cWriteStart_waits hjobs (eq_true_of_ne_false (mt hstarts.mpr h)),
      fun nack hidle => exec_i2cWriteEnd_idle hjobs nack hidle, fun nack ms bad d hstarted hlive hms hbad hd => ?_,
      fun hall => exec_i2cSetTimeout_none (by rwa [hjobs]),
      fun i hfind => ⟨_, rfl, exec_i2cSetTimeout_drops ha (by rwa [hjobs])⟩⟩
    have hbad' : nackIn j nack = bad := by rw [hbad, hms]; rfl
    have hd' : s.dev.writeSent c j js bad = d := by rw [hd, hms]; rfl
    rw [exec_i2cWriteEnd_sent hjobs ha nack hstarted hlive, hbad', hd', hms]
    cases bad <;> rfl
  · subst hp hb hd hq
    rw [exec_camSensorSet h]
    exact ⟨fun hbad => next_congr (camSensorSet_effect_bad hbad),
      fun hgood => ⟨(started s 0x0801 r).sensorJob (asOp 0x0801 r) (entriesOf 8 (dataOf r e)), rfl, rfl, rfl, rfl, rfl,
        rfl, next_congr (camSensorSet_effect_issues hgood)⟩⟩
  · have hes' : pipeEntries (dataOf r e) = es := by rw [hes, hb]; rfl
    have hws' : pipeWrites (r.a0.get 0 5) es = ws := by rw [hws, hp]; rfl
    rw [exec_camPipeSet h, hes', ← hws']
    subst hp hd hq
    exact ⟨fun hbad => next_congr (setPipe_bad hbad), fun hgood => ⟨
      fun habsent => next_congr (setPipe_absent hgood habsent),
      fun hhere hroi hout => next_congr (setPipe_outside hgood hhere hroi hout),
      fun hhere hfits => next_congr (setPipe_issues hgood hhere hfits)⟩⟩
  · subst hp hd hq hb
    rw [exec_camDefectLoad h]
    exact ⟨fun hout => next_congr (loadDefects_outside hout), fun hin => next_congr (loadDefects_inside hin)⟩
  · subst hp
    exact ⟨command_takes s 0x0804 cmdCamTrigger r e, command_takes s 0x0805 cmdCamTapSet r e,
      command_takes s 0x0880 cmdCamQuery r e, command_takes s 0x0881 cmdCamI2cRead r e⟩

end Sys2Proof.Machine
end
section
/-! SUPPORT. What leaves the Byoft ports in the state they are in, with the peers they know: messages, events, faults of
the link, members that are lost, and the topology; and a port that leaves link service (R366, R370, R379, R380). -/

namespace Sys2Proof.Machine

/-! ## Byoft ports that go on in their state -/

theorem bport_modBport_same (d : Dev) {p : Nat} (f : BPort → BPort) (h : p < d.byf.ports.length) :
    (d.modBport p f).bport p = f (d.bport p) := getD_modAt_same _ _ _ _ h

theorem bport_modBport_other (d : Dev) {p q : Nat} (f : BPort → BPort) (h : q ≠ p) :
    (d.modBport p f).bport q = d.bport q := getD_modAt_other _ _ _ _ _ h

/-- What the update leaves of a port stays, of any port and whether or not the device has the port updated. -/
theorem bport_modBport_keeps {β : Type} (g : BPort → β) (d : Dev) (p q : Nat) {f : BPort → BPort}
    (hf : ∀ b, g (f b) = g b) : g ((d.modBport p f).bport q) = g (d.bport q) := by
  by_cases hq : q = p
  · subst hq
    by_cases hlen : q < d.byf.ports.length
    · rw [bport_modBport_same d f hlen, hf]
    · simp [Dev.bport, Dev.modBport, Dev.modByf, modAt, List.getElem?_eq_none (Nat.le_of_not_lt hlen)]
  · rw [bport_modBport_other d f hq]

/-- Every Byoft port has the state and the peer it had. -/
def SameBports (a b : Dev) : Prop := ∀ p, (b.bport p).state = (a.bport p).state ∧ (b.bport p).peer = (a.bport p).peer

theorem SameBports.refl (a : Dev) : SameBports a a := fun _ => ⟨rfl, rfl⟩

theorem SameBports.trans {a b c : Dev} (h : SameBports a b) (k : SameBports b c) : SameBports a c :=
  fun p => ⟨(k p).1.trans (h p).1, (k p).2.trans (h p).2⟩

theorem sameBports_of_ports {a b : Dev} (h : b.byf.ports = a.byf.ports) : SameBports a b := by
  intro p
  rw [Dev.bport, h]
  exact ⟨rfl, rfl⟩

theorem HostSide.sameBports {a b : Dev} (h : HostSide a b) : SameBports a b := by
  obtain ⟨_, _, _, _, rfl⟩ := h
  exact SameBports.refl a

theorem sameBports_foldl {β : Type} (f : Dev → β → Dev) (h : ∀ a b, SameBports a (f a b)) (l : List β) (a : Dev) :
    SameBports a (l.foldl f a) := foldl_keeps SameBports SameBports.refl (fun _ _ _ => SameBports.trans) f h l a

theorem sameBports_ite (c : Prop) [Decidable c] {a x y : Dev} (h : SameBports a x) (k : SameBports a y) :
    SameBports a (if c then x else y) := by
  split <;> assumption

theorem sameBports_modByf (d : Dev) {f : Byoft → Byoft} (hf : (f d.byf).ports = d.byf.ports) : SameBports d (d.modByf f) :=
  sameBports_of_ports hf

/-! ## Messages and events (R367, R369, R384) -/

theorem sameBports_sendFlit (d : Dev) (p type src dst : Nat) (c : List Int) :
    SameBports d (d.sendFlit p type src dst c) := by
  intro q
  exact ⟨bport_modBport_keeps BPort.state d p q fun _ => rfl, bport_modBport_keeps BPort.peer d p q fun _ => rfl⟩

theorem sameBports_sendTo (d : Dev) (v type : Nat) (c : List Int) : SameBports d (d.sendTo v type c) := by
  unfold Dev.sendTo Dev.sendFrom
  split
  · exact sameBports_sendFlit _ _ _ _ _ _
  · exact SameBports.refl d

theorem sameBports_ownEvent (d : Dev) (e : Event) : SameBports d (d.ownEvent e) :=
  SameBports.trans (b := d.queueEvent e) (sameBports_of_ports rfl)
    (sameBports_foldl _ (fun a v => sameBports_sendTo a v _ _) _ _)

theorem sameBports_emit (d : Dev) (src code : Nat) (p : List Byte) : SameBports d (d.emit src code p) :=
  sameBports_ownEvent d _

theorem sameBports_complete (d : Dev) (q : Req) (st x : Nat) (b : List Byte) : SameBports d (d.complete q st x b) := by
  unfold Dev.complete
  refine SameBports.trans ?_ (hostSide_putCqe _ _ _).sameBports
  refine SameBports.trans ?_ (hostSide_retire _ _ _).sameBports
  exact sameBports_ite _ (sameBports_emit d 1 _ _) (SameBports.refl d)

/-! ## Faults that are recorded or ask for HOLD (R465) -/

theorem sameBports_faultFlush (d : Dev) (c : Cls) : SameBports d (d.faultFlush c) := by
  have hstart : SameBports d d.startFlush := by
    unfold Dev.startFlush
    split
    · exact SameBports.refl d
    · split <;> exact sameBports_of_ports rfl
  unfold Dev.faultFlush
  split
  · exact hstart
  · split
    · exact hstart
    · exact sameBports_of_ports rfl

theorem sameBports_recordFault (d : Dev) (inj : Bool) (src cause : Nat) (p : Word) (c : Cls) (b : Bool) :
    SameBports d (d.recordFault inj src cause p c b) := by
  have hlife (x : Dev) (l : Life) : SameBports x { x with life := l } := sameBports_of_ports rfl
  have henter (x : Dev) (h : Hist) : SameBports x (x.enter h) :=
    SameBports.trans (b := { x with flt := _ }) (sameBports_of_ports rfl) (hostSide_enter x h).sameBports
  unfold Dev.recordFault
  dsimp only
  refine SameBports.trans ?_ (sameBports_faultFlush _ _)
  refine SameBports.trans ?_ (hlife _ _)
  refine SameBports.trans ?_ (sameBports_ownEvent _ _)
  refine SameBports.trans ?_ (henter _ _)
  have hinj : HostSide d (if (!inj && d.flt.inj.isSome) = true then d.setBit FLT_STATUS 5 true else d) :=
    hostSide_step _ (HostSide.refl d) (hostSide_wr ..)
  refine (hostSide_step _ ?_ (hostSide_wr ..)).sameBports
  split
  · exact hinj.trans (hostSide_setErr _ _ _)
  · exact hinj

theorem sameBports_stopReplay (d : Dev) : SameBports d d.stopReplay := by
  unfold Dev.stopReplay Dev.endReplay
  split
  · exact SameBports.refl d
  · exact SameBports.trans (b := { d with
        replay := none, lay := _, keeper := _, engines := _ }) (sameBports_of_ports rfl) (sameBports_complete _ _ _ _ _)

theorem sameBports_holdTrigger (d : Dev) (trig : Nat) (atLayerEnd quiet : Bool) :
    SameBports d (d.holdTrigger trig atLayerEnd quiet) := by
  unfold Dev.holdTrigger
  split
  · exact sameBports_stopReplay d
  · split
    · split
      · exact sameBports_of_ports rfl
      · exact SameBports.refl d
    · refine SameBports.trans ?_ (sameBports_emit _ _ _ _)
      show SameBports d (match d.mode.leaveReq with | some q => d.fail q stAborted 0 | none => d)
      split
      · exact sameBports_complete _ _ _ _ _
      · exact SameBports.refl d

theorem sameBports_react (d : Dev) (how : How) (src cause : Nat) (p : Word) {c : Cls} (hc : c = .note ∨ c = .hold) :
    SameBports d (d.react how src cause p c) := by
  rcases hc with rfl | rfl
  · exact SameBports.refl d
  · have hlive (b : Bool) : SameBports d ((d.addLive src cause .hold b).errPulse) := sameBports_of_ports rfl
    exact (hlive _).trans (sameBports_holdTrigger _ _ _ _)

theorem sameBports_raiseHow (d : Dev) (how : How) (src cause : Nat) (p : Word)
    (hc : ∀ c, how.classOf d src cause p = some c → c = .note ∨ c = .hold) :
    SameBports d (d.raiseHow how src cause p) := by
  unfold Dev.raiseHow
  split
  · exact SameBports.refl d
  next c0 h0 =>
    have hclass : (if d.promotes src c0 then Cls.hold else c0) = .note ∨
        (if d.promotes src c0 then Cls.hold else c0) = .hold := by
      split
      · exact Or.inr rfl
      · exact hc c0 h0
    exact sameBports_ite _ ((sameBports_recordFault _ _ _ _ _ _ _).trans (sameBports_react _ _ _ _ _ hclass))
      (sameBports_recordFault _ _ _ _ _ _ _)

/-- A fault of no unit whose class, where it has one, is NOTE or HOLD leaves the ports. -/
theorem sameBports_raiseWith (d : Dev) (how : How) {src cause : Nat} (p : Word) (hunit : unitOfSource src = none)
    (hc : ∀ c, how.classOf d src cause p = some c → c = .note ∨ c = .hold) :
    SameBports d (d.raiseWith how src cause p) := by
  rw [raiseWith_noUnit d how cause p hunit]
  exact sameBports_raiseHow d how src cause p hc

/-- The causes of the link that this file meets are of class NOTE (R379, R380). -/
theorem classOf_link (d : Dev) {cause : Nat} (p : Word) (h : cause = 1 ∨ cause = 3 ∨ cause = 8 ∨ cause = 9) :
    How.real.classOf d 29 cause p = if nByoft d.variant = 0 then none else some .note := by
  rcases h with rfl | rfl | rfl | rfl <;> rfl

theorem sameBports_linkReport (d : Dev) {cause : Nat} (h : cause = 1 ∨ cause = 3 ∨ cause = 8 ∨ cause = 9) :
    SameBports d (d.fault 29 cause) := by
  refine SameBports.trans (b := d.free.2) (sameBports_of_ports rfl) (sameBports_raiseWith _ _ _ rfl fun c hc => ?_)
  rw [classOf_link _ _ h] at hc
  split at hc <;> cases hc
  exact Or.inl rfl

theorem sameBports_faultAs (d : Dev) {c : Cls} (cause : Nat) (hc : c = .note ∨ c = .hold) :
    SameBports d (d.faultAs c 29 cause) := by
  refine SameBports.trans (b := d.free.2) (sameBports_of_ports rfl) (sameBports_raiseWith _ _ _ rfl fun c' hc' => ?_)
  cases hc'
  exact hc

theorem sameBports_bandLost (d : Dev) (v : Nat) : SameBports d (d.bandLost v) := by
  have hmarks : SameBports d ((d.bandTiles v).foldl (fun d tn => d.markInexact false tn) d) := by
    refine sameBports_foldl _ (fun a tn => ?_) _ d
    unfold Dev.markInexact Dev.putCopy
    split
    · exact SameBports.refl a
    · exact sameBports_ite _ (sameBports_of_ports rfl) (sameBports_of_ports rfl)
  have hfault (x : Dev) : SameBports x (x.fault 21 6) := by
    refine SameBports.trans (b := x.free.2) (sameBports_of_ports rfl) (sameBports_raiseWith _ _ _ rfl fun c hc => ?_)
    cases (show some Cls.note = some c from hc)
    exact Or.inl rfl
  have hldg (x : Dev) (l : Ledger) : SameBports x { x with ldg := l } := sameBports_of_ports rfl
  unfold Dev.bandLost
  exact sameBports_ite _ (SameBports.refl d) (sameBports_ite _ hmarks ((hmarks.trans (hldg _ _)).trans (hfault _)))

/-! ## Work shared with a member (R93, R380) -/

theorem sameBports_sendVec (d : Dev) (q : Req) (layer : Nat) (r : Rec) (o : VOut) :
    SameBports d (d.sendVec q layer r o) := by
  unfold Dev.sendVec
  refine SameBports.trans ?_ (hostSide_putCqe _ _ _).sameBports
  cases o.beam <;> exact sameBports_of_ports rfl

theorem sameBports_finishRecs (d : Dev) (q : Req) (layer id : Nat) (vs : List VRec) :
    SameBports d (d.finishRecs q layer id vs) := by
  unfold Dev.finishRecs
  dsimp only
  refine SameBports.trans ?_ (hostSide_putCqe _ _ _).sameBports
  refine SameBports.trans ?_ (hostSide_retire _ _ _).sameBports
  exact sameBports_foldl _ (fun x p => sameBports_sendVec x _ _ _ _) _ d

theorem sameBports_checkBarge (d : Dev) (num id : Nat) : SameBports d (d.checkBarge num id) := by
  unfold Dev.checkBarge
  refine sameBports_ite _ (SameBports.refl d) ?_
  split
  · exact SameBports.refl d
  · split
    · exact SameBports.refl d
    · exact sameBports_ite _ (sameBports_finishRecs _ _ _ _ _) (SameBports.refl d)

theorem sameBports_checkCal (d : Dev) (key : Nat × Nat) : SameBports d (d.checkCal key) := by
  have hcals (l : List CalJob) : SameBports d { d with cals := l } := sameBports_of_ports rfl
  unfold Dev.checkCal
  split
  · exact SameBports.refl d
  next c _ =>
    split
    · extract_lets d1
      refine (hcals _).trans (?_ : SameBports d1 _)
      split
      · unfold Dev.finishEdge
        refine sameBports_ite _ (sameBports_complete _ _ _ _ _) ?_
        split <;> exact sameBports_complete _ _ _ _ _
      · exact sameBports_finishRecs _ _ _ _ _
    · exact SameBports.refl d

theorem sameBports_giveOutcome (d : Dev) (u : WUnit) (i : Nat) (o : VOut) : SameBports d (d.giveOutcome u i o) := by
  have hcals (l : List CalJob) : SameBports d { d with cals := l } := sameBports_of_ports rfl
  have hlay (f : Layer → Layer) : SameBports d (d.modLayer u.layer f) := sameBports_of_ports rfl
  unfold Dev.giveOutcome
  extract_lets k d'
  split
  · exact (hcals _).trans (sameBports_checkCal _ _)
  · exact (hlay _).trans (sameBports_checkBarge _ _ _)

theorem sameBports_returnEntry (d : Dev) (g i : Nat) (u : WUnit) : SameBports d (d.returnEntry g i u) :=
  SameBports.trans (b := (d.modLock i (fun q => q.takeBack u)).count (LK_CNT 4) 1) (sameBports_of_ports rfl)
    (sameBports_emit _ _ _ _)

theorem sameBports_settleSent (d : Dev) (x : Sent) : SameBports d (d.settleSent x) := by
  have hworam (w : Option Woram) : SameBports d { d with woram := w } := sameBports_of_ports rfl
  unfold Dev.settleSent
  extract_lets peers src u i left d1
  have hleft (k : Nat) (y : Dev) : SameBports y (left k y) :=
    sameBports_ite _ (SameBports.refl y) (sameBports_returnEntry _ _ _ _)
  split
  · exact hleft _ _
  · split
    · exact hleft _ _
    · exact ((hworam _).trans (sameBports_giveOutcome _ _ _ _)).trans (hleft _ _)

theorem sameBports_enterHalves (d : Dev) (now : XHalf → Bool) : SameBports d (d.enterHalves now) := by
  have hcount (x : Dev) : SameBports x (x.count (LK_CNT 0) 1) := sameBports_of_ports rfl
  have hjoin (x : Dev) (n : Nat) (f : Engine → Engine) : SameBports x (x.modEng n f) := sameBports_of_ports rfl
  unfold Dev.enterHalves
  refine SameBports.trans (b := d.modKeeper _) (sameBports_of_ports rfl) (sameBports_foldl _ (fun a h => ?_) _ _)
  unfold Dev.enterHalf
  dsimp only
  split
  · exact ((hcount _).trans (sameBports_emit _ _ _ _)).trans (hjoin _ _ _)
  · exact hjoin _ _ _

theorem sameBports_settleHalves (d : Dev) (v : Nat) : SameBports d (d.settleHalves v) := by
  have hlock (x : Dev) (i : Nat) (f : LockQ → LockQ) : SameBports x (x.modLock i f) := sameBports_of_ports rfl
  have heng (x : Dev) (n : Nat) (f : Engine → Engine) : SameBports x (x.modEng n f) := sameBports_of_ports rfl
  have hkeeper (x : Dev) (f : Keeper → Keeper) : SameBports x (x.modKeeper f) := sameBports_of_ports rfl
  unfold Dev.settleHalves
  extract_lets d1 hit alone d2
  have h1 : SameBports d d1 := sameBports_enterHalves d _
  have h2 : SameBports d1 d2 := sameBports_foldl _ (fun a i => hlock a i _) _ d1
  refine (h1.trans h2).trans (sameBports_foldl _ (fun a n => ?_) _ d2)
  extract_lets open_ us g d3 d4
  have h3 : SameBports a d3 := heng a n _
  have h4 : SameBports d3 d4 := sameBports_ite _ (SameBports.refl d3) (hkeeper d3 _)
  exact (h3.trans h4).trans (sameBports_foldl _ (fun x u => sameBports_returnEntry _ _ _ _) _ d4)

/-! ## The topology (R366, R377) -/

theorem sameBports_sendTopo (d : Dev) : SameBports d d.sendTopo := by
  unfold Dev.sendTopo
  extract_lets d1 d2
  have h1 : SameBports d d1 := sameBports_modByf d rfl
  have h2 : SameBports d1 d2 := sameBports_foldl _
    (fun a p => sameBports_ite _ (sameBports_sendFlit a _ _ _ _ _) (SameBports.refl a)) _ d1
  exact (h1.trans h2).trans (sameBports_foldl _ (fun a v => sameBports_sendTo _ _ _ _) _ d2)

theorem sameBports_showByf (d : Dev) (ok : Bool) : SameBports d (d.showByf ok) := by
  have htime (x : Dev) (f : TimeCtl → TimeCtl) : SameBports x (x.modTime f) := sameBports_of_ports rfl
  unfold Dev.showByf
  exact (hostSide_wr d _ _).sameBports.trans (htime _ _)

theorem sameBports_joinDev (d : Dev) (v : Nat) : SameBports d (d.joinDev v) := by
  unfold Dev.joinDev
  extract_lets d1 d2 src d3
  have h1 : SameBports d d1 := sameBports_ite _ (sameBports_modByf d rfl) (sameBports_of_ports rfl)
  have h2 : SameBports d1 d2 := sameBports_modByf d1 rfl
  have h3 : SameBports d2 d3 := sameBports_of_ports rfl
  have hend : SameBports d3 ((d3.setBit BYF_JOIN v true).endCause 29 2) := sameBports_of_ports rfl
  exact (((h1.trans h2).trans h3).trans hend).trans (sameBports_linkReport _ (by decide))

theorem sameBports_matchLock (d : Dev) (i : Nat) : SameBports d (d.matchLock i) := by
  have hset (b : Bool) : SameBports d (d.setBit (LK_LOCK_STATUS i) 16 b) := sameBports_of_ports rfl
  have hmod (x : Dev) : SameBports x (x.modByf (fun b => { b with mismatch := i :: b.mismatch })) := sameBports_of_ports rfl
  unfold Dev.matchLock
  dsimp only
  refine sameBports_ite _ (hset _) ?_
  split
  · exact hset _
  · refine sameBports_ite _ (sameBports_ite _ (hset _) (SameBports.refl d)) (sameBports_ite _ (hset _) ?_)
    exact ((hset _).trans (hmod _)).trans (sameBports_linkReport _ (by decide))

theorem sameBports_topoEval (d : Dev) : SameBports d d.topoEval := by
  have hset (x : Dev) (off i : Nat) (b : Bool) : SameBports x (x.setBit off i b) := sameBports_of_ports rfl
  have hrefused (b : Bool) : SameBports d (d.modByf (fun k => { k with refused := b })) := sameBports_of_ports rfl
  unfold Dev.topoEval
  extract_lets vs was d1 d2 d4 others own d5 new d6
  refine sameBports_ite _ ((hrefused _).trans (sameBports_showByf _ _)) (sameBports_ite _ ?_ (sameBports_ite _ ?_ ?_))
  · have h1 : SameBports d d1 := sameBports_of_ports rfl
    have h2 : SameBports d1 d2 := sameBports_foldl _ (fun a i => hset a _ _ _) _ d1
    have h3 : SameBports d2 (if was then d2 else d2.fault 29 3) :=
      sameBports_ite _ (SameBports.refl d2) (sameBports_linkReport d2 (by decide))
    exact ((h1.trans h2).trans h3).trans (sameBports_showByf _ _)
  · exact (hrefused _).trans (sameBports_showByf _ _)
  · have h5 : SameBports d4 d5 := sameBports_foldl _ (fun a v => sameBports_joinDev a v) _ d4
    have h6 : SameBports d5 d6 := sameBports_foldl _ (fun a v => sameBports_joinDev a v) _ d5
    refine (((hrefused _).trans h5).trans h6).trans ((sameBports_showByf d6 true).trans ?_)
    exact sameBports_foldl _ (fun a i => sameBports_matchLock a i) _ _

theorem sameBports_memberLost (d : Dev) (v : Nat) (test : Bool) : SameBports d (d.memberLost v test) := by
  have hset (x : Dev) (off i : Nat) (b : Bool) : SameBports x (x.setBit off i b) := sameBports_of_ports rfl
  have hfail (x : Dev) (q : Req) : SameBports x (x.fail q stAborted 0) := sameBports_complete x q stAborted 0 []
  have hprobes (x : Dev) (l : List ProbeJob) : SameBports x { x with probes := l } := sameBports_of_ports rfl
  have hout (x : Dev) : SameBports x (x.modByf (fun b => { b with inside := false })) := sameBports_modByf x rfl
  unfold Dev.memberLost
  extract_lets cls d1 d2 d3 sent d4 d5 jobs d6 d7 d8
  have h1 : SameBports d d1 := sameBports_of_ports rfl
  have h2 : SameBports d1 d2 := sameBports_modByf d1 rfl
  have h3 : SameBports d2 d3 := sameBports_foldl _
    (fun a i => sameBports_ite _ (hset a _ _ _) (SameBports.refl a)) _ d2
  have h4 : SameBports d3 d4 := sameBports_of_ports rfl
  have h5 : SameBports d4 d5 := ((sameBports_foldl _ sameBports_settleSent sent d4).trans
    (sameBports_settleHalves _ v)).trans (sameBports_bandLost _ v)
  have h6 : SameBports d5 d6 := hprobes d5 _
  have h7 : SameBports d6 d7 := sameBports_foldl _
    (fun a j => sameBports_ite _ (SameBports.refl a) (hfail a _)) _ d6
  have h8 : SameBports d7 d8 := sameBports_ite _ (hout d7) (SameBports.refl d7)
  have hcls : cls = .note ∨ cls = .hold := by
    show (if !test && d.lostHolds v then Cls.hold else .note) = .note ∨
      (if !test && d.lostHolds v then Cls.hold else .note) = .hold
    split
    · exact Or.inr rfl
    · exact Or.inl rfl
  have hend : SameBports d8 (d8.faultAs cls 29 2).topoEval := (sameBports_faultAs d8 2 hcls).trans (sameBports_topoEval _)
  exact sameBports_ite _ (SameBports.refl d)
    ((((((((h1.trans h2).trans h3).trans h4).trans h5).trans h6).trans h7).trans h8).trans hend)

/-- A port that leaves link service is in the state it leaves for, and knows no peer; the others go on (R379). -/
theorem byfLeave_sameBports (d : Dev) (p st : Nat) (test : Bool) : SameBports
    (d.modBport p (fun b => { b with state := st, peer := none, run := 0, last := none, sent := [], seq := 0 }))
    (d.byfLeave p st test) := by
  unfold Dev.byfLeave
  extract_lets d1 vs gone d2
  have h1 : SameBports _ d1 := sameBports_sendTopo _
  have h2 : SameBports d1 d2 := sameBports_ite _
    (sameBports_ite _ (SameBports.refl _) (sameBports_linkReport _ (by decide)))
    (sameBports_foldl _ (fun a v => sameBports_memberLost a v test) _ _)
  exact (h1.trans h2).trans (sameBports_topoEval _)

theorem byfLeave_bport (d : Dev) {p : Nat} (st : Nat) (test : Bool) (h : p < d.byf.ports.length) :
    ((d.byfLeave p st test).bport p).state = st ∧ ((d.byfLeave p st test).bport p).peer = none := by
  obtain ⟨hstate, hpeer⟩ := byfLeave_sameBports d p st test p
  rw [hstate, hpeer, bport_modBport_same d _ h]
  exact ⟨rfl, rfl⟩

end Sys2Proof.Machine
end

section
/-! SUPPORT. How scanner and Byoft ports train, LINK_RETRAIN, and O45: training and the replay of flits (R321, R368, R370,
R391). -/

namespace Sys2Proof.Machine

/-! ## Scanner ports that train (R321) -/

theorem port_modPort_same (d : Dev) {b : Nat} (f : Port → Port) (h : b < d.scn.ports.length) :
    (d.modPort b f).port b = f (d.port b) := getD_modAt_same _ _ _ _ h

theorem port_modPort_other (d : Dev) {b c : Nat} (f : Port → Port) (h : c ≠ b) : (d.modPort b f).port c = d.port c :=
  getD_modAt_other _ _ _ _ _ h

theorem port_sendTraining (d : Dev) (scn : Bool) (p : Nat) (ack : Bool) (c : Nat) :
    (d.sendTraining scn p ack).port c = d.port c := by
  obtain ⟨_, h⟩ := outSide_sendTraining d scn p ack
  rw [h]
  rfl

theorem endScn_scn (d : Dev) (cause : Nat) (stands : Port → Bool) : (d.endScn cause stands).scn = d.scn := by
  unfold Dev.endScn
  split <;> rfl

theorem port_endScn (d : Dev) (cause : Nat) (stands : Port → Bool) (c : Nat) :
    (d.endScn cause stands).port c = d.port c := by
  rw [Dev.port, endScn_scn, Dev.port]

/-- A scanner port as its training leaves it. -/
def Port.trained (p : Port) (polInv : Bool) : Port := { p with
  state := 2, linkFault := false, polInv := polInv, seen := false, enum := 0, bad := 0, good := false, badIn := false, cmd := 0 }

theorem scnTrained_training {d : Dev} {b : Nat} (polInv : Bool) (h : (d.port b).state = 1) :
    d.scnTrained b polInv =
      ((d.sendTraining true b true).modPort b (fun p => p.trained polInv)).endScn 1 (fun p => p.linkFault) :=
  if_neg (fun hne => hne h)

/-- A training that is complete leaves its own port trained and every other one alone. -/
theorem port_scnTrained {d : Dev} {b : Nat} (polInv : Bool) (h : (d.port b).state = 1) (hlen : b < d.scn.ports.length) :
    (d.scnTrained b polInv).port b = (d.port b).trained polInv ∧
      ∀ c, c ≠ b → (d.scnTrained b polInv).port c = d.port c := by
  have hscn : (d.sendTraining true b true).scn = d.scn := by
    obtain ⟨_, hout⟩ := outSide_sendTraining d true b true
    rw [hout]
  rw [scnTrained_training polInv h]
  refine ⟨?_, fun c hc => ?_⟩
  · rw [port_endScn, port_modPort_same _ _ (by rw [hscn]; exact hlen), port_sendTraining]
  · rw [port_endScn, port_modPort_other _ _ hc, port_sendTraining]

section scannerTraining
variable {b : Fin 16} {s : State}

theorem exec_trainingComplete_scn (a : TrainInfo) (ha : Awake s) : exec (.trainingComplete (.scn b) a) s =
    .next { s with dev := s.dev.scnTrained b (a.polInv.getLsbD 0) } :=
  on_awake s (fun d => d.scnTrained b (a.polInv.getLsbD 0)) ha

theorem exec_trainingTimeout_scn (ha : Awake s) (h : (s.dev.port b).state = 1) : exec (.trainingTimeout (.scn b)) s =
    .next { s with dev := (s.dev.count (SCN_PORT_CNT b 2) 1).sendTraining true b false } := by
  show execTrainingTimeout (.scn b) s = _
  unfold execTrainingTimeout
  rw [on_awake s _ ha]
  exact next_congr (if_pos h)

/-- A port that does not train hears of no training. -/
theorem exec_training_scn_idle (a : TrainInfo) (h : (s.dev.port b).state ≠ 1) :
    exec (.trainingComplete (.scn b) a) s = .next s ∧ exec (.trainingTimeout (.scn b)) s = .next s :=
  ⟨on_same (f := fun d => d.scnTrained b (a.polInv.getLsbD 0)) (if_pos h),
    on_same (f := fun d => d.scnTrainTimeout b) (if_neg h)⟩

end scannerTraining

/-! ## Byoft ports that train, and LINK_RETRAIN (R321, R368, R391) -/

/-- A Byoft port as its training leaves it. -/
def BPort.trained (b : BPort) (a : TrainInfo) : BPort := { b with
  state := 2, polInv := a.polInv.toNat, laneMap := a.laneMap.toNat, peer := none, run := 0, last := none }

theorem byf_sendTraining (d : Dev) (scn : Bool) (p : Nat) (ack : Bool) : (d.sendTraining scn p ack).byf = d.byf := by
  obtain ⟨_, h⟩ := outSide_sendTraining d scn p ack
  rw [h]

theorem tb3_sendTraining (d : Dev) (scn : Bool) (p : Nat) (ack : Bool) : (d.sendTraining scn p ack).tb3 = d.tb3 := by
  obtain ⟨_, h⟩ := outSide_sendTraining d scn p ack
  rw [h]

theorem modByf_retrains_same {d : Dev} {l : List (Req × List Nat × Nat)} (h : d.byf.retrains = l) :
    d.modByf (fun b => { b with retrains := l }) = d := by
  subst h
  rfl

/-- The device as the training of a Byoft port restarts: counted, and its training blocks sent. -/
def Dev.byfRestart (d : Dev) (p : Nat) : Dev := (d.count (BYF_PORT_RETRAIN_CNT p) 1).sendTraining false p false

theorem byfRestart_keeps (d : Dev) (p : Nat) : (d.byfRestart p).byf = d.byf ∧ (d.byfRestart p).tb3 = d.tb3 :=
  ⟨byf_sendTraining _ _ _ _, tb3_sendTraining _ _ _ _⟩

/-- A LINK_RETRAIN that waits for port p is 10 ms old. -/
def Dev.retrainLate (d : Dev) (p : Nat) (j : Req × List Nat × Nat) : Bool :=
  j.2.1.contains p && decide (j.2.2 + 10 * perMs ≤ d.tb3)

theorem byfTimeout_training {d : Dev} {p : Nat} (h : (d.bport p).state = 1) : d.byfTimeout p =
    (d.byf.retrains.filter (d.retrainLate p)).foldl (fun d j => d.fail j.1 stTimeout 0x0D01)
      ((d.byfRestart p).modByf (fun b => { b with retrains := b.retrains.filter (fun j => !d.retrainLate p j) })) := by
  obtain ⟨hbyf, htb3⟩ := byfRestart_keeps d p
  refine (if_neg (fun hne => hne h)).trans ?_
  extract_lets d1 late old d2
  have hlate : late = d.retrainLate p := by
    funext j
    show (j.2.1.contains p && decide (j.2.2 + 10 * perMs ≤ (d.byfRestart p).tb3)) = _
    rw [htb3]
    rfl
  show (List.filter late (d.byfRestart p).byf.retrains).foldl _ ((d.byfRestart p).modByf
    (fun b => { b with retrains := b.retrains.filter (fun j => !late j) })) = _
  rw [hlate, hbyf]

section byoftTraining
variable {p : Fin 4} {s : State}

/-- A port that is trained, where no LINK_RETRAIN waits for it, tells the topology and has it judged. -/
theorem exec_trainingComplete_byf (a : TrainInfo) (ha : Awake s) (h : (s.dev.bport p).state = 1)
    (hnone : s.dev.byf.retrains = []) : exec (.trainingComplete (.byf p) a) s = .next { s with dev :=
      (((s.dev.sendTraining false p true).modBport p (fun b => b.trained a)).sendTopo).topoEval } := by
  have hjobs : ((s.dev.sendTraining false p true).modBport p (fun b => b.trained a)).byf.retrains = [] := by
    show (s.dev.sendTraining false p true).byf.retrains = []
    rw [byf_sendTraining, hnone]
  refine (on_awake s (fun d => d.byfTrained p a) ha).trans (next_congr ?_)
  refine (if_neg (fun hne => hne h)).trans ?_
  extract_lets y jobs z w
  have hempty : jobs = [] := congrArg (List.map _) hjobs
  have hz : z = y := by
    show y.modByf (fun b => { b with retrains := jobs.filter (fun j => !j.2.1.isEmpty) }) = y
    rw [hempty]
    exact modByf_retrains_same hjobs
  have hw : w = z := by
    show (jobs.filter (fun j => j.2.1.isEmpty)).foldl (fun d j => d.ok j.1 0 0 0 0) z = z
    rw [hempty]
    rfl
  rw [hw, hz]
  rfl

/-- A training that runs over restarts; no LINK_RETRAIN ends with it while none that waits for the port is old enough. -/
theorem exec_trainingTimeout_byf (ha : Awake s) (h : (s.dev.bport p).state = 1)
    (hyoung : ∀ j ∈ s.dev.byf.retrains, p.val ∉ j.2.1 ∨ s.dev.tb3 < j.2.2 + 10 * perMs) :
    exec (.trainingTimeout (.byf p)) s = .next { s with dev := s.dev.byfRestart p } := by
  have hlate (j) (hj : j ∈ s.dev.byf.retrains) : s.dev.retrainLate p j = false := by
    rcases hyoung j hj with hp | ht
    · simp [Dev.retrainLate, hp]
    · simp [Dev.retrainLate, Nat.not_le_of_lt ht]
  have hold : s.dev.byf.retrains.filter (s.dev.retrainLate p) = [] :=
    List.filter_eq_nil_iff.mpr fun j hj => by simp [hlate j hj]
  have hrest : s.dev.byf.retrains.filter (fun j => !s.dev.retrainLate p j) = s.dev.byf.retrains :=
    List.filter_eq_self.mpr fun j hj => by simp [hlate j hj]
  obtain ⟨hbyf, -⟩ := byfRestart_keeps s.dev p
  refine (on_awake s (fun d => d.byfTimeout p) ha).trans (next_congr ?_)
  rw [byfTimeout_training h, hold]
  refine (modByf_retrains_same (l := (s.dev.byfRestart p).byf.retrains.filter _) ?_)
  rw [hbyf, hrest]

/-- A LINK_RETRAIN that has waited 10 ms for the port alone ends TIMEOUT (R391). -/
theorem exec_trainingTimeout_byf_late {q : Req} {at_ : Nat} (ha : Awake s) (h : (s.dev.bport p).state = 1)
    (hjob : s.dev.byf.retrains = [(q, [p.val], at_)]) (hold : at_ + 10 * perMs ≤ s.dev.tb3) :
    exec (.trainingTimeout (.byf p)) s = .next { s with dev :=
      ((s.dev.byfRestart p).modByf (fun k => { k with retrains := [] })).fail q stTimeout 0x0D01 } := by
  have hlate : s.dev.retrainLate p (q, [p.val], at_) = true := by simp [Dev.retrainLate, hold]
  obtain ⟨hbyf, -⟩ := byfRestart_keeps s.dev p
  refine (on_awake s (fun d => d.byfTimeout p) ha).trans (next_congr ?_)
  rw [byfTimeout_training h, hjob]
  simp only [List.filter_cons, List.filter_nil, hlate, if_true, List.foldl_cons, List.foldl_nil]
  rw [Dev.modByf, Dev.modByf, hbyf, hjob]
  simp [hlate]

/-- A port that does not train hears of no training. -/
theorem exec_training_byf_idle (a : TrainInfo) (h : (s.dev.bport p).state ≠ 1) :
    exec (.trainingComplete (.byf p) a) s = .next s ∧ exec (.trainingTimeout (.byf p)) s = .next s :=
  ⟨on_same (f := fun d => d.byfTrained p a) (if_pos h), on_same (f := fun d => d.byfTimeout p) (if_pos h)⟩

end byoftTraining

/-- The ports of a mask that train or are trained (R391). -/
def Dev.retrainPorts (d : Dev) (mask : Nat) : List Nat :=
  (bitList 4 mask).filter (fun p => (d.bport p).state == 1 || (d.bport p).state == 2)

theorem exec_linkRetrain {r : Req} (e : Env) {s : State} (h : Takes s 0x0D01 cmdLinkRetrain r) :
    exec (.linkRetrain r e) s = .next { s with dev := cmdLinkRetrain.effect (asOp 0x0D01 r) e (started s 0x0D01 r) } :=
  command_takes s 0x0D01 cmdLinkRetrain r e h

theorem byfDown_untrained {d : Dev} {p : Nat} (h : (d.bport p).state ≠ 2) : d.byfDown p = d := if_pos h

theorem byfDown_trained {d : Dev} {p : Nat} (h : (d.bport p).state = 2) :
    d.byfDown p = (d.byfRestart p).byfLeave p 1 false := if_neg (fun hne => hne h)

/-- LINK_RETRAIN takes its ports down and, where there are any, waits for them. -/
theorem linkRetrain_effect (d : Dev) (q : Req) (e : Env) : cmdLinkRetrain.effect q e d =
    if (d.retrainPorts q.a0.toNat).isEmpty then
      ((d.retrainPorts q.a0.toNat).foldl (fun d p => d.byfDown p) d).ok q 0 0 0 0
    else ((d.retrainPorts q.a0.toNat).foldl (fun d p => d.byfDown p) d).modByf (fun b => { b with
      retrains := b.retrains ++ [(q, d.retrainPorts q.a0.toNat,
        ((d.retrainPorts q.a0.toNat).foldl (fun d p => d.byfDown p) d).tb3)] }) := by
  have hdown : (fun (d : Dev) p => if (d.bport p).state = 2 then d.byfDown p else d) = fun d p => d.byfDown p := by
    funext d p
    split
    · rfl
    next hp => exact (byfDown_untrained hp).symm
  rw [← hdown]
  rfl

/-! ## Flits (R370) -/

section flits
variable {p : Fin 4} {s : State} (n : BitVec 12)

/-- A NAK, and a flit unacknowledged for 2 µs, have the flits from theirs on sent again; a bad flit is counted and
NAKed. -/
theorem exec_flit_linked (ha : Awake s) (h : (s.dev.bport p).state = 2) :
    exec (.flitNak p false n) s = .next { s with dev :=
      (s.dev.laneErrs ((List.range 4).map (fun l => 32 + 4 * p.val + l))).flitReplay p n.toNat } ∧
    exec (.flitNak p true n) s = .next { s with dev :=
      (((s.dev.send (.nak p n.toNat)).count (BYF_PORT_CRC_CNT p) 1).laneErrs
        ((List.range 4).map (fun l => 48 + 4 * p.val + l))) } ∧
    exec (.flitReplayTimeout p n) s = .next { s with dev := s.dev.flitReplay p n.toNat } := by
  have hnak (sent : Bool) := on_awake s (fun d =>
    if (d.bport p).state ≠ 2 then d
    else if sent then ((d.send (.nak p n.toNat)).count (BYF_PORT_CRC_CNT p) 1).laneErrs
      ((List.range 4).map (fun l => 48 + 4 * p.val + l))
    else (d.laneErrs ((List.range 4).map (fun l => 32 + 4 * p.val + l))).flitReplay p n.toNat) ha
  exact ⟨(hnak false).trans (next_congr (if_neg (fun hne => hne h))),
    (hnak true).trans (next_congr (if_neg (fun hne => hne h))),
    (on_awake s (fun d => if (d.bport p).state = 2 then d.flitReplay p n.toNat else d) ha).trans (next_congr (if_pos h))⟩

/-- A port out of link service takes neither. -/
theorem exec_flit_unlinked (sent : Bool) (h : (s.dev.bport p).state ≠ 2) :
    exec (.flitNak p sent n) s = .next s ∧ exec (.flitReplayTimeout p n) s = .next s := by
  constructor
  · show execFlitNak p sent n s = _
    unfold execFlitNak
    exact on_same (if_pos h)
  · show execFlitReplayTimeout p n s = _
    unfold execFlitReplayTimeout
    exact on_same (if_neg h)

end flits

section replay
variable {d : Dev} {p n : Nat}

theorem flitReplay_nothing (h : (d.bport p).sent.dropWhile (fun f => f.seq != n) = []) : d.flitReplay p n = d := by
  unfold Dev.flitReplay
  rw [h]
  rfl

/-- The flits from number n on, as they lie in the replay buffer. -/
def Dev.flitsFrom (d : Dev) (p n : Nat) : List Flit := (d.bport p).sent.dropWhile (fun f => f.seq != n)

/-- The replay counted, with the flit it starts from and how many in succession have. -/
def Dev.replayCounted (d : Dev) (p n : Nat) : Dev :=
  (d.count (BYF_PORT_RETRY_CNT p) 1).modBport p (fun b => { b with
    run := if (d.bport p).last == some n then b.run + 1 else 1, last := some n })

/-- A replay within a second of the last one reported is counted and not reported; the eighth of one flit takes the port
down, and every other one sends its flits again. -/
theorem flitReplay_unreported {t : Nat} (hsome : d.flitsFrom p n ≠ []) (hat : (d.bport p).retryAt = some t)
    (hsoon : d.tb3 < t + 1000 * perMs) : d.flitReplay p n =
      if 8 ≤ ((d.replayCounted p n).bport p).run then (d.replayCounted p n).byfDown p
      else (d.flitsFrom p n).foldl (fun d f => d.send (.flit p f)) (d.replayCounted p n) := by
  have hdue : (match ((d.count (BYF_PORT_RETRY_CNT p) 1).bport p).retryAt with
      | some t => decide (t + 1000 * perMs ≤ (d.count (BYF_PORT_RETRY_CNT p) 1).tb3) | none => true) = false := by
    show (match (d.bport p).retryAt with | some t => decide (t + 1000 * perMs ≤ d.tb3) | none => true) = false
    rw [hat]
    exact decide_eq_false (Nat.not_le_of_lt hsoon)
  unfold Dev.flitReplay
  extract_lets from_ again d1 due d2 d3
  have hd2 : d2 = d1 := if_neg (by rw [show due = false from hdue]; decide)
  have hd3 : d3 = d.replayCounted p n := congrArg (fun x : Dev => x.modBport p _) hd2
  have hfrom : ¬ from_.isEmpty = true := by
    rw [List.isEmpty_iff]
    exact hsome
  rw [if_neg hfrom]
  simp only [hd3]
  rfl

/-- The replay of a flit that is not the one sent again last is the first of it. -/
theorem replayCounted_first (h : (d.bport p).last ≠ some n) : d.replayCounted p n =
    (d.count (BYF_PORT_RETRY_CNT p) 1).modBport p (fun b => { b with run := 1, last := some n }) := by
  simp [Dev.replayCounted, h]

theorem replayCounted_again (h : (d.bport p).last = some n) : d.replayCounted p n =
    (d.count (BYF_PORT_RETRY_CNT p) 1).modBport p (fun b => { b with run := b.run + 1, last := some n }) := by
  simp [Dev.replayCounted, h]

/-- Of the port that replays, its state stays, and the count of replays is that of the flit. -/
theorem bport_replayCounted (hlen : p < d.byf.ports.length) :
    ((d.replayCounted p n).bport p).state = (d.bport p).state ∧
      ((d.replayCounted p n).bport p).run = if (d.bport p).last == some n then (d.bport p).run + 1 else 1 := by
  rw [Dev.replayCounted, bport_modBport_same (d.count (BYF_PORT_RETRY_CNT p) 1) _ hlen]
  exact ⟨rfl, rfl⟩

/-- The eighth replay of one flit is a link fault: the port trains (R370). -/
theorem flitReplay_eighth {t : Nat} (hlen : p < d.byf.ports.length) (hlink : (d.bport p).state = 2)
    (hsome : d.flitsFrom p n ≠ []) (hat : (d.bport p).retryAt = some t) (hsoon : d.tb3 < t + 1000 * perMs)
    (hlast : (d.bport p).last = some n) (hrun : (d.bport p).run = 7) : ((d.flitReplay p n).bport p).state = 1 := by
  obtain ⟨hstate, hcount⟩ := bport_replayCounted (n := n) hlen
  have hports : ((d.replayCounted p n).byfRestart p).byf.ports.length = d.byf.ports.length := by
    obtain ⟨hbyf, -⟩ := byfRestart_keeps (d.replayCounted p n) p
    rw [hbyf]
    exact modAt_length _ _ _
  rw [flitReplay_unreported hsome hat hsoon, if_pos (by simp [hcount, hlast, hrun]),
    byfDown_trained (hstate.trans hlink)]
  exact (byfLeave_bport _ 1 false (by rw [hports]; exact hlen)).1

end replay

/-- Settles O45: training by `port_scnTrained` and the rules of Byoft ports, LINK_RETRAIN by `linkRetrain_effect`, and a
replay by `flitReplay_unreported`, the link fault that ends its run by what a port leaves link service with
(`byfLeave_bport`; the deadline of LINK_RETRAIN at a training timeout: log entry 61). -/
theorem portsTrainAndReplay : Obligations.PortsTrainAndReplay := by
  refine ⟨fun p a s ha htrain hnone => exec_trainingComplete_byf a ha htrain hnone,
    fun b a s ha htrain hlen => ?_, fun p a s hidle => exec_training_byf_idle a hidle,
    fun b a s hidle => exec_training_scn_idle a hidle, fun b s ha htrain => exec_trainingTimeout_scn ha htrain,
    fun p s d ha htrain hd => ?_, fun r e s ps d h hps hd => ?_, fun p n s ha hlink => exec_flit_linked n ha hlink,
    fun p sent n s hdown => exec_flit_unlinked n sent hdown, fun d p n t fs hlen hlink hfs => ⟨fun hnil => ?_,
      fun hsome hat hsoon => ⟨fun hlast => ?_, fun hlast hrun => ?_, fun hlast hrun => ?_⟩⟩⟩
  · obtain ⟨hport, hothers⟩ := port_scnTrained (a.polInv.getLsbD 0) htrain (by rw [hlen]; exact b.isLt)
    refine ⟨_, exec_trainingComplete_scn a ha, ⟨rfl, rfl⟩, ?_, ?_, ?_, ?_, hothers⟩ <;> rw [hport] <;> rfl
  · subst hd
    exact ⟨fun hyoung => exec_trainingTimeout_byf ha htrain hyoung,
      fun q at_ hjob hold => exec_trainingTimeout_byf_late ha htrain hjob hold⟩
  · have hps' : (started s 0x0D01 r).retrainPorts (asOp 0x0D01 r).a0.toNat = ps := hps.symm
    rw [exec_linkRetrain e h, linkRetrain_effect, hps', ← hd]
    exact ⟨fun hnil => next_congr (if_pos (List.isEmpty_iff.mpr hnil)),
      fun hsome => next_congr (if_neg fun hnil => hsome (List.isEmpty_iff.mp hnil))⟩
  · exact flitReplay_nothing (hfs ▸ hnil)
  all_goals
    subst hfs
    obtain ⟨-, hcount⟩ := bport_replayCounted (n := n) hlen
  · rw [flitReplay_unreported hsome hat hsoon, if_neg (by simp [hcount, hlast]), replayCounted_first hlast]
    rfl
  · rw [flitReplay_unreported hsome hat hsoon, if_neg (by simp [hcount, hlast]; omega), replayCounted_again hlast]
    rfl
  · exact flitReplay_eighth hlen hlink hsome hat hsoon hlast hrun

end Sys2Proof.Machine
end

section
/-! SUPPORT. What a replay that a fault of the link stops does to its ring, and O48, which fails for want of a bound on the
ring that a descriptor names (R87, R339, R345, R387). -/

namespace Sys2Proof.Machine

/-! ## Faults leave the rings -/

/-- The rings are the same. -/
def SameRings (a b : Dev) : Prop := b.rings = a.rings

theorem SameRings.trans {a b c : Dev} (h : SameRings a b) (k : SameRings b c) : SameRings a c := Eq.trans k h

theorem sameRings_step (c : Prop) [Decidable c] {a x y : Dev} (h : SameRings a y) (k : SameRings y x) :
    SameRings a (if c then x else y) := by
  split
  · exact h.trans k
  · exact h

theorem sameRings_wr (d : Dev) (off : Nat) (w : Word) : SameRings d (d.wr off w) := rfl

theorem sameRings_signal (d : Dev) (lo : Nat) : SameRings d (d.signal lo) := by
  unfold Dev.signal Dev.msix
  dsimp only
  split
  · rfl
  · split <;> rfl

theorem LinkSide.sameRings {a b : Dev} (h : LinkSide a b) : SameRings a b := by
  obtain ⟨_, _, rfl⟩ := h
  rfl

theorem sameRings_setErr (d : Dev) (off bit : Nat) : SameRings d (d.setErr off bit) :=
  sameRings_step _ (sameRings_wr _ _ _) (sameRings_signal _ _)

theorem sameRings_enter (d : Dev) (h : Hist) : SameRings d (d.enter h) := by
  have hflt (f : Faults) : SameRings d { d with flt := f } := rfl
  unfold Dev.enter
  dsimp only
  refine SameRings.trans ?_ (sameRings_signal _ _)
  refine sameRings_step _ ?_ (sameRings_wr _ _ _)
  refine sameRings_step _ ?_ (sameRings_wr _ _ _)
  refine SameRings.trans ?_ (sameRings_wr _ _ _)
  refine SameRings.trans ?_ (sameRings_wr _ _ _)
  refine SameRings.trans ?_ (sameRings_wr _ _ _)
  exact sameRings_step _ (hflt _) (sameRings_wr _ _ _)

theorem sameRings_faultFlush (d : Dev) (c : Cls) : SameRings d (d.faultFlush c) := by
  have hstart : SameRings d d.startFlush := by
    unfold Dev.startFlush
    split
    · rfl
    · split <;> rfl
  unfold Dev.faultFlush
  split
  · exact hstart
  · split
    · exact hstart
    · rfl

theorem sameRings_recordFault (d : Dev) (inj : Bool) (src cause : Nat) (p : Word) (c : Cls) (b : Bool) :
    SameRings d (d.recordFault inj src cause p c b) := by
  have hlife (x : Dev) (l : Life) : SameRings x { x with life := l } := rfl
  have hown (x : Dev) (e : Event) : SameRings x (x.ownEvent e) :=
    SameRings.trans (b := x.queueEvent e) rfl (linkSide_ownEvent x e).sameRings
  have hinj : SameRings d (if (!inj && d.flt.inj.isSome) = true then d.setBit FLT_STATUS 5 true else d) :=
    sameRings_step _ rfl (sameRings_wr _ _ _)
  unfold Dev.recordFault
  dsimp only
  refine SameRings.trans ?_ (sameRings_faultFlush _ _)
  refine SameRings.trans ?_ (hlife _ _)
  refine SameRings.trans ?_ (hown _ _)
  refine SameRings.trans ?_ (sameRings_enter _ _)
  refine sameRings_step _ ?_ (sameRings_wr _ _ _)
  split
  · exact hinj.trans (sameRings_setErr _ _ _)
  · exact hinj

/-! ## The stop of a ring at a barrier that fails (R87) -/

theorem regs_signal (d : Dev) (lo : Nat) : (d.signal lo).regs = d.regs := by
  unfold Dev.signal
  dsimp only
  split
  · rfl
  · exact regs_msix _ _

theorem HostSide.variant_eq {a b : Dev} (h : HostSide a b) : b.variant = a.variant := by
  obtain ⟨_, _, _, _, rfl⟩ := h
  rfl

/-- The barrier of a ring that does not complete OK sets the ring's bit of HIF_BARRIER_STOP. -/
theorem bit_retire_barrier {d : Dev} {q : Req} {st : Nat} (hbarrier : (d.ring q.ring).barrier = some q) (hst : st ≠ stOk) :
    (d.retire q st).bit (HIF_BARRIER_STOP (q.ring / 32)) (q.ring % 32) = true := by
  have hstop : ((d.ring q.ring).barrier == some q && st != stOk) = true := by simp [hbarrier, hst]
  unfold Dev.retire
  extract_lets was d1
  rw [if_pos hstop, Dev.bit, rd_congr (regs_signal _ _) (hostSide_signal _ _).variant_eq]
  exact bit_setBit_same d1 _ _ _ (Nat.mod_lt _ (by decide))

/-- So it is once the entry of the command is written. -/
theorem bit_fail_barrier {d : Dev} {q : Req} {st : Nat} (x : Nat) (hbarrier : (d.ring q.ring).barrier = some q)
    (hst : st ≠ stOk) (hrej : st ≠ stReject) :
    (d.fail q st x).bit (HIF_BARRIER_STOP (q.ring / 32)) (q.ring % 32) = true := by
  unfold Dev.fail Dev.complete
  rw [if_neg hrej, Dev.bit, rd_congr (regs_putCqe _ _ _) (hostSide_putCqe _ _ _).variant_eq]
  exact bit_retire_barrier hbarrier hst

theorem stopReplay_running {d : Dev} {r : Replay} (h : d.replay = some r) : d.stopReplay = Dev.fail { d with
    replay := none, lay := { d.lay with opened := r.opened, active := r.active }
    keeper := { r.keeper with peerQ := d.keeper.peerQ }
    engines := List.zipWith Engine.back d.engines r.engines } r.req stAborted 0 := by
  unfold Dev.stopReplay Dev.endReplay
  rw [h]
  rfl

/-! ## A topology that breaks R366, with its fault promoted to HOLD (R467) -/

/-- A reaction of class HOLD outside CALIBRATE and BUILD stops the replay and moves no mode. -/
theorem react_hold_idle {y : Dev} (how : How) (src cause : Nat) (p : Word) (hidle : y.exposing = false) :
    ∃ f, y.react how src cause p .hold = Dev.stopReplay { y with flt := f } := by
  obtain ⟨f, hf⟩ : ∃ f, (y.addLive src cause .hold (how.injected || !lasting src cause p)).errPulse = { y with flt := f } :=
    ⟨_, rfl⟩
  have hexp : (!({ y with flt := f } : Dev).exposing) = true := congrArg not hidle
  refine ⟨f, ?_⟩
  unfold Dev.react
  rw [hf]
  exact if_pos hexp

/-- A NOTE-class fault that is promoted is recorded and reacts as HOLD (R467). -/
theorem raiseHow_promoted {d : Dev} {src cause : Nat} {p : Word} (hclass : How.real.classOf d src cause p = some .note)
    (hpromotes : d.promotes src .note = true) :
    d.raiseHow .real src cause p = (d.recordFault false src cause p .hold true).react .real src cause p .hold := by
  have hreact : How.real.react = true := rfl
  have hreal : How.real.injected = false := rfl
  unfold Dev.raiseHow
  simp only [hclass, hpromotes, hreact, hreal, if_true]

/-- The record of a fault leaves the rings, the replay and the mode. -/
theorem recordFault_keeps (d : Dev) (inj : Bool) (src cause : Nat) (p : Word) (c : Cls) (b : Bool) :
    ∃ y, d.recordFault inj src cause p c b = y ∧ y.rings = d.rings ∧ y.replay = d.replay ∧ y.exposing = d.exposing := by
  have hrings := sameRings_recordFault d inj src cause p c b
  obtain ⟨_, _, _, _, _, _, _, _, h⟩ := recorded_recordFault d inj src cause p c b
  exact ⟨_, rfl, hrings, by rw [h], by rw [h]; rfl⟩

/-- Outside CALIBRATE and BUILD a fault of the link that is promoted to HOLD stops the replay. -/
theorem fault_link_promoted {d : Dev} {cause : Nat} (hcause : cause = 1 ∨ cause = 3 ∨ cause = 8 ∨ cause = 9)
    (hlink : nByoft d.variant ≠ 0) (hpromoted : d.bit FLT_PROMOTE0 29 = true) (hidle : d.exposing = false) :
    ∃ x : Dev, d.fault 29 cause = x.stopReplay ∧ x.rings = d.rings ∧ x.replay = d.replay := by
  obtain ⟨p, hp⟩ : ∃ p, d.fault 29 cause = d.free.2.raiseWith .real 29 cause p := ⟨_, rfl⟩
  have hclass : How.real.classOf d.free.2 29 cause p = some .note := (classOf_link _ _ hcause).trans (if_neg hlink)
  have hpromotes : d.free.2.promotes 29 .note = true := by
    have h : d.free.2.bit FLT_PROMOTE0 29 = true := hpromoted
    simp [Dev.promotes, h]
  obtain ⟨y, hy, hrings, hreplay, hexposing⟩ := recordFault_keeps d.free.2 false 29 cause p .hold true
  obtain ⟨f, hf⟩ := react_hold_idle .real 29 cause p (hexposing.trans hidle)
  refine ⟨{ y with flt := f }, ?_, hrings, hreplay⟩
  rw [hp, raiseWith_noUnit _ _ _ _ rfl, raiseHow_promoted hclass hpromotes, hy, hf]

/-- The device that a topology which breaks R366 leaves before its fault: no members, no cross-device lock matched. -/
def Dev.topoRefused (d : Dev) : Dev := (List.range 64).foldl (fun d i => d.setBit (LK_LOCK_STATUS i) 16 false)
  (({ d with members := [] } : Dev).modByf (fun b => { b with refused := true, inside := false }))

theorem topoEval_refused {d : Dev} (hmany : ¬ ((d.graphFrom d.devId).map (fun x => x.1)).length ≤ 1)
    (hbad : d.topoBad ((d.graphFrom d.devId).map (fun x => x.1)) = true) (hnew : d.byf.refused = false) :
    d.topoEval = (d.topoRefused.fault 29 3).showByf false := by
  unfold Dev.topoEval
  dsimp only
  rw [if_neg hmany, if_pos hbad, hnew]
  rfl

/-- `b` differs from `a` at most in the registers, the members, the Byoft link and what has left the device. -/
def TopoSide (a b : Dev) : Prop :=
  ∃ regs members byf out, b = { a with regs := regs, members := members, byf := byf, out := out }

theorem TopoSide.refl (a : Dev) : TopoSide a a := ⟨a.regs, a.members, a.byf, a.out, rfl⟩

theorem TopoSide.trans {a b c : Dev} (h : TopoSide a b) (k : TopoSide b c) : TopoSide a c := by
  obtain ⟨r, m, y, o, rfl⟩ := h
  obtain ⟨r', m', y', o', rfl⟩ := k
  exact ⟨r', m', y', o', rfl⟩

theorem topoSide_wr (d : Dev) (off : Nat) (w : Word) : TopoSide d (d.wr off w) := ⟨_, d.members, d.byf, d.out, rfl⟩

theorem topoSide_foldl {β : Type} (f : Dev → β → Dev) (h : ∀ a b, TopoSide a (f a b)) (l : List β) (a : Dev) :
    TopoSide a (l.foldl f a) := foldl_keeps TopoSide TopoSide.refl (fun _ _ _ => TopoSide.trans) f h l a

theorem LinkSide.topoSide {a b : Dev} (h : LinkSide a b) : TopoSide a b := by
  obtain ⟨y, o, rfl⟩ := h
  exact ⟨a.regs, a.members, y, o, rfl⟩

theorem linkSide_sendTopo (d : Dev) : LinkSide d d.sendTopo := by
  have hfold {β : Type} (f : Dev → β → Dev) (h : ∀ a b, LinkSide a (f a b)) (l : List β) (a : Dev) :
      LinkSide a (l.foldl f a) := foldl_keeps LinkSide LinkSide.refl (fun _ _ _ => LinkSide.trans) f h l a
  unfold Dev.sendTopo
  extract_lets d1 d2
  have h1 : LinkSide d d1 := ⟨_, d.out, rfl⟩
  have h2 : LinkSide d1 d2 := hfold _ (fun a p => by
    split
    · exact ⟨_, _, rfl⟩
    · exact LinkSide.refl a) _ d1
  exact (h1.trans h2).trans (hfold _ (fun a v => linkSide_sendTo a v _ _) _ d2)

theorem topoSide_topoRefused (d : Dev) : TopoSide d d.topoRefused :=
  TopoSide.trans ⟨d.regs, [], _, d.out, rfl⟩ (topoSide_foldl _ (fun a _ => topoSide_wr a _ _) _ _)

/-! ## O48 -/

/-- A REPLAY_LAYER on ring 24,681,980, whose bit of HIF_BARRIER_STOP would be bit 28 of LT_LANE32_CFG. -/
def strayReplay : Req := ⟨24681980, 0, 0x0C20, 0, 0, 0, 0, 0, 0, 0, 0, 0, 0, 0, 0⟩

theorem strayReplay_stop : HIF_BARRIER_STOP (strayReplay.ring / 32) = LT_CFG 32 ∧ strayReplay.ring % 32 = 28 := by decide

/-- A ring that stands at that replay as its barrier. -/
def strayRing : Ring := { (default : Ring) with barrier := some strayReplay }

/-- A device in CONFIGURE that holds so many rings, with that replay in progress as the barrier of its ring; two of its
Byoft ports name one and the same port of a neighbour, and the faults of the link are promoted. -/
def strayDev : Dev := { State.reset.dev with
  mode := { ModeCtl.reset with boot := 4 }
  regs := [(FLT_PROMOTE0, 0x20000000)]
  rings := List.replicate (strayReplay.ring + 1) strayRing
  replay := some ⟨strayReplay, [], [], 0, 0, 0, [], none, [], default⟩
  byf := { Byoft.reset with ports := [default, { (default : BPort) with state := 2, peer := some (3, 0) },
    { (default : BPort) with state := 2, peer := some (3, 0) }] } }

/-- EN and LOOP of lane 32 written. -/
def strayWritten : Dev := (strayDev.wrN (LT_CFG 32) 0x88000000).laneZero 32

/-- Its port has left link service and told the topology. -/
def strayTold : Dev := (strayWritten.modBport 0 (fun b => { b with
  state := 4, peer := none, run := 0, last := none, sent := [], seq := 0 })).sendTopo

/-- The barrier of that ring is the replay. -/
theorem barrier_of_strayRings {x : Dev} (h : x.rings = List.replicate (strayReplay.ring + 1) strayRing) :
    (x.ring strayReplay.ring).barrier = some strayReplay := by
  unfold Dev.ring
  rw [h]
  exact congrArg Ring.barrier (List.getD_replicate strayRing (Nat.lt_succ_self strayReplay.ring))

theorem laneCfg_strayDev : strayDev.laneCfg 32 true true 0 0 = (strayTold.topoEval).send (.prbs 32 0) := by
  have hold : strayDev.rd (LT_CFG 32) = 0 := by decide +kernel
  have hleave : strayWritten.byfLeave 0 4 true = strayTold.topoEval := rfl
  unfold Dev.laneCfg
  dsimp only
  rw [hold]
  exact congrArg (fun d => d.send (.prbs 32 0)) hleave

/-- Nothing of it but the registers, the link and what has left the device has changed. -/
theorem strayTold_side : TopoSide strayDev strayTold := by
  have hzero : TopoSide strayDev strayWritten := ⟨_, strayDev.members, strayDev.byf, strayDev.out, rfl⟩
  have hport (d : Dev) (p : Nat) (f : BPort → BPort) : TopoSide d (d.modBport p f) := ⟨d.regs, d.members, _, d.out, rfl⟩
  exact (hzero.trans (hport _ _ _)).trans (linkSide_sendTopo _).topoSide

/-- Its two remaining ports name one port of one neighbour, so the topology is refused and the fault stops the replay. -/
theorem topoEval_strayTold : ∃ x : Dev, strayTold.topoEval = (x.stopReplay).showByf false ∧
    x.rings = strayDev.rings ∧ x.replay = strayDev.replay := by
  have hmany : ¬ ((strayTold.graphFrom strayTold.devId).map (fun x => x.1)).length ≤ 1 := by decide +kernel
  have hbad : strayTold.topoBad ((strayTold.graphFrom strayTold.devId).map (fun x => x.1)) = true := by decide +kernel
  have hnew : strayTold.byf.refused = false := by decide +kernel
  have hpromoted : strayTold.topoRefused.bit FLT_PROMOTE0 29 = true := by decide +kernel
  obtain ⟨regs, members, byf, out, hside⟩ := strayTold_side.trans (topoSide_topoRefused strayTold)
  have hlink : nByoft strayTold.topoRefused.variant ≠ 0 := by
    rw [hside]
    exact show nByoft strayDev.variant ≠ 0 by decide
  have hidle : strayTold.topoRefused.exposing = false := by
    rw [hside]
    exact show strayDev.exposing = false by decide
  obtain ⟨x, hx, hrings, hreplay⟩ := fault_link_promoted (.inr (.inl rfl)) hlink hpromoted hidle
  refine ⟨x, ?_, by rw [hrings, hside], by rw [hreplay, hside]⟩
  rw [topoEval_refused hmany hbad hnew, hx]

/-- The stop of the replay sets the bit of its ring, in what is the configuration of lane 32. -/
theorem laneCfg_strayDev_bit : (strayDev.laneCfg 32 true true 0 0).bit (LT_CFG 32) 28 = true := by
  obtain ⟨x, hx, hrings, hreplay⟩ := topoEval_strayTold
  obtain ⟨hreg, hbit⟩ := strayReplay_stop
  have hrd : (strayDev.laneCfg 32 true true 0 0).rd (LT_CFG 32) = x.stopReplay.rd (LT_CFG 32) := by
    rw [laneCfg_strayDev, hx, Dev.send_rd, rd_showByf _ _ (by decide)]
  rw [Dev.bit, hrd, stopReplay_running hreplay, ← hreg, ← hbit]
  exact bit_fail_barrier 0 (barrier_of_strayRings hrings) (by decide) (by decide)

/-- LT_LANEl_CFG is written in CONFIGURE. -/
theorem exec_laneCfgWrite_configure {l : Fin 64} (val : Word) {s : State} (hup : Up s)
    (hlane : lanePresent s.dev.variant l = true) (hmode : s.dev.mode.cur = .configure) :
    exec (.laneCfgWrite l val) s = .next { s with dev := (s.dev.laneCfg l ((val &&& 0xB800FF00).bit 31)
      ((val &&& 0xB800FF00).bit 27) ((val &&& 0xB800FF00).get 28 2) ((val &&& 0xB800FF00).get 8 8)) } := by
  change execLaneCfgWrite l val s = _
  unfold execLaneCfgWrite
  rw [whenUp_up s _ hup]
  simp [hlane, hmode]

/-- Refutes O48: its clause on LT_LANEl_CFG speaks of every state, and there a descriptor's ring is any number and the list
of rings of any length. EN and LOOP written for a Byoft lane take its port out of link service; where that breaks the
topology and the fault is promoted to HOLD, a replay ends, and the stop bit of a ring beyond the 64 of R73 falls into the
lane's own register. With the rings that the device has, no stop bit reaches it. -/
theorem not_lanesAreTested : ¬ Obligations.LanesAreTested := by
  unfold Obligations.LanesAreTested
  rintro ⟨-, -, hcfg, -⟩
  have hup : Up ⟨strayDev, [], []⟩ := ⟨by decide, by decide⟩
  have hlane : lanePresent strayDev.variant (32 : Fin 64) = true := by decide
  obtain ⟨t, hexec, -, -, -, hpattern, -⟩ := ((hcfg 32 0x88000000 ⟨strayDev, [], []⟩).2 hup hlane).1 rfl
  have hdev := congrArg State.dev (Host.Outcome.next.inj ((exec_laneCfgWrite_configure _ hup hlane rfl).symm.trans hexec))
  obtain ⟨hen, hloop, hpat, hburst⟩ : (0x88000000 &&& 0xB800FF00 : Word).bit 31 = true ∧
      (0x88000000 &&& 0xB800FF00 : Word).bit 27 = true ∧ (0x88000000 &&& 0xB800FF00 : Word).get 28 2 = 0 ∧
      (0x88000000 &&& 0xB800FF00 : Word).get 8 8 = 0 := by decide
  rw [hen, hloop, hpat, hburst] at hdev
  have hset : (t.dev.rd (LT_CFG 32)).bit 28 = true := hdev ▸ laneCfg_strayDev_bit
  have hbit : (t.dev.fld (LT_CFG 32) 28 2).testBit 0 = true := by
    rw [Dev.fld, Word.testBit_get]
    exact hset
  rw [show t.dev.fld (LT_CFG 32) 28 2 = (0x88000000 : Word).get 28 2 from hpattern] at hbit
  exact absurd hbit (by decide)

end Sys2Proof.Machine
end

section
/-! SUPPORT. Feedback frames, head commands and the port commands, and O38 (R317 to R328, R338). -/

namespace Sys2Proof.Machine

/-! ## Feedback (R317, R320) -/

/-- A port that hears its head. -/
def Port.hearing (p : Port) : Prop := (p.state = 2 ∨ p.state = 3) ∧ p.rxSleep = false

theorem Port.hearing.not_deaf {p : Port} (h : p.hearing) : ¬ ((p.state ≠ 2 ∧ p.state ≠ 3) ∨ p.rxSleep = true) := by
  obtain ⟨hstate, hawake⟩ := h
  rintro (⟨h2, h3⟩ | hasleep)
  · exact hstate.elim h2 h3
  · rw [hawake] at hasleep
    exact absurd hasleep (by decide)

theorem exec_feedbackFrame_good {b : Fin 16} {f : FbFrame} {s : State} (ha : Awake s) (hport : (s.dev.port b).hearing)
    (hgood : frameGood f = true) :
    exec (.feedbackFrame b f) s = .next { s with dev := s.dev.goodFeedback b f.bytes } := by
  show execFeedbackFrame b f s = _
  unfold execFeedbackFrame
  rw [on_awake s _ ha]
  exact next_congr ((if_neg hport.not_deaf).trans (if_pos hgood))

theorem exec_feedbackFrame_bad {b : Fin 16} {f : FbFrame} {s : State} (ha : Awake s) (hport : (s.dev.port b).hearing)
    (hbad : frameGood f = false) : exec (.feedbackFrame b f) s =
      .next { s with dev := (s.dev.modPort b (fun (p : Port) => { p with badIn := true })).badFeedback b } := by
  show execFeedbackFrame b f s = _
  unfold execFeedbackFrame
  rw [on_awake s _ ha]
  exact next_congr ((if_neg hport.not_deaf).trans (if_neg (by simp [hbad])))

theorem exec_feedbackWindowEnd_hearing {b : Fin 16} {s : State} {d : Dev} (ha : Awake s) (hport : (s.dev.port b).hearing)
    (hd : d = s.dev.modPort b (fun (p : Port) => { p with good := false, badIn := false })) :
    exec (.feedbackWindowEnd b) s = .next { s with dev :=
      (if ((s.dev.port b).good || (s.dev.port b).badIn) = true then d else d.badFeedback b) } := by
  subst hd
  show execFeedbackWindowEnd b s = _
  unfold execFeedbackWindowEnd
  rw [on_awake s _ ha]
  exact next_congr (if_neg hport.not_deaf)

theorem exec_symbolLockLoss_hearing {b : Fin 16} {s : State} (ha : Awake s) (hport : (s.dev.port b).hearing) :
    exec (.scannerSymbolLockLoss b) s = .next { s with dev := s.dev.linkFault b } := by
  obtain ⟨hstate, hawake⟩ := hport
  show execScannerSymbolLockLoss b s = _
  unfold execScannerSymbolLockLoss
  rw [on_awake s _ ha]
  exact next_congr (if_pos ⟨hstate, by simp [hawake]⟩)

theorem exec_deaf_port {b : Fin 16} (f : FbFrame) {s : State}
    (hdeaf : ((s.dev.port b).state ≠ 2 ∧ (s.dev.port b).state ≠ 3) ∨ (s.dev.port b).rxSleep = true) :
    exec (.feedbackFrame b f) s = .next s ∧ exec (.feedbackWindowEnd b) s = .next s ∧
      exec (.scannerSymbolLockLoss b) s = .next s := by
  have hnot : ¬ (((s.dev.port b).state = 2 ∨ (s.dev.port b).state = 3) ∧ (!(s.dev.port b).rxSleep) = true) := by
    rintro ⟨hstate, hawake⟩
    exact Port.hearing.not_deaf ⟨hstate, by simpa using hawake⟩ hdeaf
  refine ⟨?_, ?_, ?_⟩
  · show execFeedbackFrame b f s = _
    unfold execFeedbackFrame
    exact on_same (if_pos hdeaf)
  · show execFeedbackWindowEnd b s = _
    unfold execFeedbackWindowEnd
    exact on_same (if_pos hdeaf)
  · show execScannerSymbolLockLoss b s = _
    unfold execScannerSymbolLockLoss
    exact on_same (if_neg hnot)

/-- The registers that a good frame shows (R317). -/
def Dev.showFeedback (d : Dev) (b : Nat) (f : List Byte) : Dev :=
  (((d.wrN (SCN_PORT_ENC b 0) (unsigned 24 (intAt f 4 3))).wrN (SCN_PORT_ENC b 1) (unsigned 24 (intAt f 7 3))).wrN
    (SCN_PORT_ENC b 2) (unsigned 24 (intAt f 10 3))).wrN (SCN_PORT_TEMP b) (bytesAt f 13 3)

theorem rd_wrN_same (d : Dev) (o v : Nat) : (d.wrN o v).rd o = BitVec.ofNat 32 v := Dev.rd_wr_same d o _

theorem rd_showFeedback (d : Dev) (b : Nat) (f : List Byte) :
    (d.showFeedback b f).rd (SCN_PORT_ENC b 0) = BitVec.ofNat 32 (unsigned 24 (intAt f 4 3)) ∧
    (d.showFeedback b f).rd (SCN_PORT_ENC b 1) = BitVec.ofNat 32 (unsigned 24 (intAt f 7 3)) ∧
    (d.showFeedback b f).rd (SCN_PORT_ENC b 2) = BitVec.ofNat 32 (unsigned 24 (intAt f 10 3)) ∧
    (d.showFeedback b f).rd (SCN_PORT_TEMP b) = BitVec.ofNat 32 (bytesAt f 13 3) := by
  have henc {i j : Nat} (h : i ≠ j) : SCN_PORT_ENC b i ≠ SCN_PORT_ENC b j := by
    unfold SCN_PORT_ENC
    omega
  have htemp {i : Nat} (h : i < 3) : SCN_PORT_ENC b i ≠ SCN_PORT_TEMP b := by
    unfold SCN_PORT_ENC SCN_PORT_TEMP
    omega
  unfold Dev.showFeedback
  refine ⟨?_, ?_, ?_, rd_wrN_same _ _ _⟩
  · rw [rd_wrN_other _ _ _ (htemp (by decide)), rd_wrN_other _ _ _ (henc (by decide)),
      rd_wrN_other _ _ _ (henc (by decide)), rd_wrN_same]
  · rw [rd_wrN_other _ _ _ (htemp (by decide)), rd_wrN_other _ _ _ (henc (by decide)), rd_wrN_same]
  · rw [rd_wrN_other _ _ _ (htemp (by decide)), rd_wrN_same]

/-- A port that has heard a good frame without a flag. -/
def Port.heard (p : Port) (f : List Byte) : Port :=
  { p with bad := 0, good := true, badRun := bytesAt f 16 2, seen := true, fault := false, hot := false }

theorem endScn_keeps (d : Dev) (cause : Nat) (stands : Port → Bool) :
    (d.endScn cause stands).mode = d.mode ∧ ∀ off, (d.endScn cause stands).rd off = d.rd off := by
  unfold Dev.endScn
  split <;> exact ⟨rfl, fun _ => rfl⟩

theorem sendEnum_of_ready {d : Dev} {b : Nat} (h : (d.port b).state = 3) : d.sendEnum b = d :=
  if_neg fun hsend => absurd (h.symm.trans hsend.1) (by decide)

/-- Where a frame has been seen before, a good one without a flag at a READY port shows what it reports, and no more. -/
theorem goodFeedback_plain {d : Dev} {b : Nat} {f : List Byte} (hstate : (d.port b).state = 3)
    (hseen : (d.port b).seen = true) (hflags : bytesAt f 1 1 = 0) (hlen : b < d.scn.ports.length) :
    d.goodFeedback b f = ((d.showFeedback b f).modPort b (fun p => p.heard f)).endScn 6 (fun p => p.fault) := by
  have hready : ((((d.showFeedback b f).modPort b (fun p => p.heard f)).endScn 6 (fun p => p.fault)).port b).state = 3 := by
    rw [port_endScn, port_modPort_same (d.showFeedback b f) _ hlen]
    exact hstate
  refine Eq.trans ?_ (sendEnum_of_ready hready)
  unfold Dev.goodFeedback
  simp only [hflags, hseen, Nat.zero_testBit, Bool.not_true, Bool.false_eq_true, false_and, if_false]
  rfl

theorem goodFeedback_plain_effect {d : Dev} {b : Nat} {f : List Byte} (hstate : (d.port b).state = 3)
    (hseen : (d.port b).seen = true) (hflags : bytesAt f 1 1 = 0) (hlen : b < d.scn.ports.length) :
    (d.goodFeedback b f).port b = (d.port b).heard f ∧ (d.goodFeedback b f).mode = d.mode ∧
      ∀ off, (d.goodFeedback b f).rd off = (d.showFeedback b f).rd off := by
  obtain ⟨hmode, hrd⟩ := endScn_keeps ((d.showFeedback b f).modPort b (fun p => p.heard f)) 6 (fun p => p.fault)
  rw [goodFeedback_plain hstate hseen hflags hlen]
  refine ⟨?_, hmode, hrd⟩
  rw [port_endScn]
  exact port_modPort_same (d.showFeedback b f) _ hlen

/-! ## Training -/

theorem port_retrain (d : Dev) {b : Nat} (hlen : b < d.scn.ports.length) :
    ((d.retrain b).port b).state = 1 ∧ ((d.retrain b).port b).cmd = 0 ∧ ((d.retrain b).port b).txSleep = false ∧
      ∀ c, c ≠ b → (d.retrain b).port c = d.port c := by
  have hscn : (d.sendTraining true b false).scn = d.scn := by
    obtain ⟨_, hout⟩ := outSide_sendTraining d true b false
    rw [hout]
  have hlen' : b < (d.sendTraining true b false).scn.ports.length := by rwa [hscn]
  unfold Dev.retrain
  rw [port_endScn, port_modPort_same _ _ hlen']
  refine ⟨rfl, rfl, rfl, fun c hc => ?_⟩
  rw [port_endScn, port_modPort_other _ _ hc, port_sendTraining]

/-! ## PORT_SLEEPs that wait (R338) -/

/-- What the update leaves of a port stays, of any port and whether or not the device has the port updated. -/
theorem port_modPort_keeps {β : Type} (g : Port → β) (d : Dev) (b c : Nat) {f : Port → Port}
    (hf : ∀ p, g (f p) = g p) : g ((d.modPort b f).port c) = g (d.port c) := by
  by_cases hc : c = b
  · subst hc
    by_cases hlen : c < d.scn.ports.length
    · rw [port_modPort_same d f hlen, hf]
    · simp [Dev.port, Dev.modPort, modAt, List.getElem?_eq_none (Nat.le_of_not_lt hlen)]
  · rw [port_modPort_other d f hc]

/-- The PORT_SLEEPs whose ports are all done leave the list, and their commands complete. -/
theorem hostSide_endSleeps (d : Dev) : HostSide { d with scn := { d.scn with
    sleeps := d.scn.sleeps.filter (fun j => !(j.sleeps.isEmpty && j.wakes.isEmpty)) } } d.endSleeps := by
  unfold Dev.endSleeps
  exact foldl_keeps HostSide HostSide.refl (fun _ _ _ => HostSide.trans)
    (fun (x : Dev) (j : SleepJob) => x.ok j.req 0 0 0 0) (fun x j => hostSide_ok x j.req 0 0 0 0) _ _

theorem HostSide.scn_eq {a b : Dev} (h : HostSide a b) : b.scn = a.scn := by
  obtain ⟨_, _, _, _, rfl⟩ := h
  rfl

theorem HostSide.port_eq {a b : Dev} (h : HostSide a b) (c : Nat) : b.port c = a.port c := by
  rw [Dev.port, h.scn_eq, Dev.port]

theorem port_endSleeps (d : Dev) (c : Nat) : d.endSleeps.port c = d.port c := (hostSide_endSleeps d).port_eq c

theorem sendSleepTx_none {d : Dev} (b : Nat) (h : d.scn.sleeps = []) : d.sendSleepTx b = d :=
  if_neg fun ⟨_, _, hany⟩ => by
    rw [h] at hany
    exact absurd hany Bool.false_ne_true

/-- A port with SLEEP_TX in flight. -/
def Port.sleepSent (p : Port) : Port := { p with cmd := 2, arg := 0 }

theorem sendSleepTx_cases (d : Dev) (b : Nat) :
    d.sendSleepTx b = d ∨ d.sendSleepTx b = d.modPort b (fun p => p.sleepSent) := by
  unfold Dev.sendSleepTx
  split
  · exact .inr rfl
  · exact .inl rfl

/-- What a change of the command in flight leaves of a port. -/
theorem sendSleepTx_keeps {β : Type} (g : Port → β) (hg : ∀ p : Port, g p.sleepSent = g p) (d : Dev) (b c : Nat) :
    g ((d.sendSleepTx b).port c) = g (d.port c) := by
  obtain h | h := sendSleepTx_cases d b
  · rw [h]
  · rw [h, port_modPort_keeps g d b c hg]

theorem sendSleepTx_other (d : Dev) {b c : Nat} (hc : c ≠ b) : (d.sendSleepTx b).port c = d.port c := by
  obtain h | h := sendSleepTx_cases d b
  · rw [h]
  · rw [h, port_modPort_other _ _ hc]

theorem regs_sendSleepTx (d : Dev) (b : Nat) : (d.sendSleepTx b).regs = d.regs := by
  obtain h | h := sendSleepTx_cases d b
  · rw [h]
  · rw [h, Dev.modPort_regs]

/-! ## Answers of a head (R323 to R326) -/

section answers

variable {b : Fin 16} {rsp : BitVec 8} {s : State}

/-- What the device does with the answer to the command in flight. -/
def Dev.headAnswer (d : Dev) (b : Nat) (data : List Byte) : Dev :=
  if (d.port b).cmd = 1 then (d.enumResult b (bytesAt data 0 4) (bytesAt data 4 1 % 16)).sendSleepTx b
  else if (d.port b).cmd = 2 then
    ((d.modPort b (fun (p : Port) => { p with cmd := 0, arg := 0, rxSleep := true, good := false })).modSleeps
      (fun j => { j with sleeps := j.sleeps.filter (fun x => x != b) })).endSleeps
  else if (d.port b).cmd = 3 then d.modPort b (fun (p : Port) => { p with cmd := 0, arg := 0 })
  else (d.setEmit b false).modPort b (fun (p : Port) => { p with cmd := 0, arg := 0, state := 4 })

theorem exec_headResponse_answer (data : List Byte) (ha : Awake s)
    (hstate : (s.dev.port b).state = 2 ∨ (s.dev.port b).state = 3) (hrsp : rsp.toNat = 0x80 + (s.dev.port b).cmd) (hcmd : (s.dev.port b).cmd ≠ 0) :
    exec (.headResponse b rsp data) s = .next { s with dev := s.dev.headAnswer b data } := by
  show execHeadResponse b rsp data s = _
  unfold execHeadResponse
  rw [on_awake s _ ha]
  refine next_congr (if_neg ?_)
  rintro (h0 | hother | ⟨h2, h3⟩)
  · exact hcmd h0
  · exact hother hrsp
  · exact hstate.elim h2 h3

theorem exec_headResponse_ignored (data : List Byte) (h : (s.dev.port b).cmd = 0 ∨ rsp.toNat ≠ 0x80 + (s.dev.port b).cmd ∨
    ((s.dev.port b).state ≠ 2 ∧ (s.dev.port b).state ≠ 3)) : exec (.headResponse b rsp data) s = .next s := by
  show execHeadResponse b rsp data s = _
  unfold execHeadResponse
  exact on_same (if_pos h)

theorem exec_headCmdTimeout_idle (h : (s.dev.port b).cmd = 0) : exec (.headCmdTimeout b) s = .next s := by
  show execHeadCmdTimeout b s = _
  unfold execHeadCmdTimeout
  exact on_same (if_pos h)

theorem exec_headCmdTimeout_sent (ha : Awake s) (h : (s.dev.port b).cmd ≠ 0) :
    exec (.headCmdTimeout b) s = .next { s with dev :=
      ((if (s.dev.port b).cmd = 1 then s.dev.fault 30 3 else s.dev).linkFault b) } := by
  show execHeadCmdTimeout b s = _
  unfold execHeadCmdTimeout
  rw [on_awake s _ ha]
  exact next_congr (if_neg h)

theorem exec_enumRetry_idle (h : (s.dev.port b).enum ≠ 2) : exec (.enumRetry b) s = .next s := by
  show execEnumRetry b s = _
  unfold execEnumRetry
  exact on_same (if_neg h)

theorem exec_enumRetry_failed (ha : Awake s) (h : (s.dev.port b).enum = 2) : exec (.enumRetry b) s =
    .next { s with dev := (s.dev.modPort b (fun (p : Port) => { p with enum := 0 })).sendEnum b } := by
  show execEnumRetry b s = _
  unfold execEnumRetry
  rw [on_awake s _ ha]
  exact next_congr (if_pos h)

end answers

/-- A port that owes ENUM. -/
def Port.owingEnum (p : Port) : Port := { p with enum := 0 }

/-- A TRAINED port in STANDBY or HOLD that owes ENUM and has no command in flight sends it (R324). -/
theorem sendEnum_sends {d : Dev} {b : Nat} (hstate : (d.port b).state = 2) (hseen : (d.port b).seen = true)
    (hidle : (d.port b).cmd = 0) (hmode : d.mode.cur = .standby ∨ d.mode.cur = .hold) (hlen : b < d.scn.ports.length) :
    (((d.modPort b Port.owingEnum).sendEnum b).port b).cmd = 1 ∧
      (((d.modPort b Port.owingEnum).sendEnum b).port b).enum = 1 ∧
      ((d.modPort b Port.owingEnum).sendEnum b).regs = d.regs := by
  have hport := port_modPort_same d Port.owingEnum hlen
  have hsend : (d.modPort b Port.owingEnum).sendEnum b =
      (d.modPort b Port.owingEnum).modPort b (fun (p : Port) => { p with cmd := 1, arg := 0, enum := 1 }) := by
    unfold Dev.sendEnum
    simp only [hport]
    exact if_pos ⟨hstate, hseen, rfl, hidle, hmode⟩
  have hlen' : b < (d.modPort b Port.owingEnum).scn.ports.length := (modAt_length _ _ _).symm ▸ hlen
  rw [hsend, port_modPort_same _ _ hlen']
  exact ⟨rfl, rfl, rfl⟩

/-- A port whose ENUM is answered. -/
def Port.enumDone (p : Port) : Port := { p with cmd := 0, arg := 0, enum := 3 }

/-- In STANDBY an answer to ENUM that owes no CEILING capability, from a head seen before or the first, makes the port
READY (R324, R325). -/
theorem enumResult_standby {d : Dev} {b id cap : Nat} (hmode : d.mode.cur = .standby)
    (hcap : d.bit (LAS_CFG b) 30 = true → cap.testBit 1 = true)
    (hhead : (d.port b).prevHead = none ∨ (d.port b).prevHead = some id) :
    d.enumResult b id cap = (d.modPort b Port.enumDone).scnReady b id cap := by
  have hlacks : (d.bit (LAS_CFG b) 30 && !cap.testBit 1) = false := by
    cases hbit : d.bit (LAS_CFG b) 30
    · rfl
    · simp [hcap hbit]
  unfold Dev.enumResult
  extract_lets d1 hold p changed d2
  have hcur : d1.mode.cur = .standby := hmode
  have hhold : hold = false := congrArg (· == Mode.hold) hcur
  have hprev : p.prevHead = (d.port b).prevHead := port_modPort_keeps Port.prevHead d b b fun _ => rfl
  have hchanged : changed = false := by
    show (match p.prevHead with | some h => h != id | none => false) = false
    rw [hprev]
    obtain h | h := hhead <;> simp [h]
  have hd2 : d2 = d1 := if_neg (by simp [hchanged])
  have hlacks' : ¬ (d1.bit (LAS_CFG b) 30 && !cap.testBit 1) = true := (Bool.eq_false_iff).mp hlacks
  rw [if_neg (by simp [hcur]), if_neg hlacks', if_neg (by simp [hhold]), hd2]
  rfl

/-- A port that its head's answer to ENUM makes READY. -/
theorem port_scnReady (d : Dev) {b : Nat} (id cap : Nat) (hlen : b < d.scn.ports.length) :
    ((d.scnReady b id cap).port b).state = 3 ∧ ((d.scnReady b id cap).port b).headId = id ∧
      ((d.scnReady b id cap).port b).cap = cap ∧ ((d.scnReady b id cap).port b).cmd = (d.port b).cmd ∧
      ∀ c, c ≠ b → (d.scnReady b id cap).port c = d.port c := by
  unfold Dev.scnReady
  rw [port_modPort_same _ _ hlen]
  exact ⟨rfl, rfl, rfl, rfl, fun c hc => port_modPort_other _ _ hc⟩

theorem headAnswer_enum {d : Dev} {b : Nat} {data : List Byte} (hcmd : (d.port b).cmd = 1) (hmode : d.mode.cur = .standby)
    (hcap : d.bit (LAS_CFG b) 30 = true → (bytesAt data 4 1).testBit 1 = true)
    (hhead : (d.port b).prevHead = none ∨ (d.port b).prevHead = some (bytesAt data 0 4)) (hlen : b < d.scn.ports.length) :
    ((d.headAnswer b data).port b).state = 3 ∧ ((d.headAnswer b data).port b).headId = bytesAt data 0 4 ∧
      ((d.headAnswer b data).port b).cap = bytesAt data 4 1 % 16 ∧
      (d.scn.sleeps = [] → ((d.headAnswer b data).port b).cmd = 0) ∧ (d.headAnswer b data).regs = d.regs ∧
      ∀ c, c ≠ b → (d.headAnswer b data).port c = d.port c := by
  have hcap' : d.bit (LAS_CFG b) 30 = true → (bytesAt data 4 1 % 16).testBit 1 = true := fun h => by
    rw [show 16 = 2 ^ 4 from rfl, Nat.testBit_mod_two_pow, hcap h]
    rfl
  have hlen' : b < (d.modPort b Port.enumDone).scn.ports.length := (modAt_length _ _ _).symm ▸ hlen
  obtain ⟨hstate, hid, hcaps, hsent, hother⟩ := port_scnReady _ (bytesAt data 0 4) (bytesAt data 4 1 % 16) hlen'
  unfold Dev.headAnswer
  rw [if_pos hcmd, enumResult_standby hmode hcap' hhead]
  refine ⟨(sendSleepTx_keeps Port.state (fun _ => rfl) _ b b).trans hstate,
    (sendSleepTx_keeps Port.headId (fun _ => rfl) _ b b).trans hid,
    (sendSleepTx_keeps Port.cap (fun _ => rfl) _ b b).trans hcaps, fun hnone => ?_, regs_sendSleepTx _ b, fun c hc => ?_⟩
  · rw [sendSleepTx_none (d := (d.modPort b Port.enumDone).scnReady b _ _) b hnone, hsent, port_modPort_same _ _ hlen]
    rfl
  · rw [sendSleepTx_other _ hc, hother c hc, port_modPort_other _ _ hc]

/-- A port whose receive side has gone to sleep. -/
def Port.rxAsleep (p : Port) : Port := { p with cmd := 0, arg := 0, rxSleep := true, good := false }

theorem headAnswer_sleep {d : Dev} {b : Nat} {data : List Byte} (hcmd : (d.port b).cmd = 2)
    (hlen : b < d.scn.ports.length) :
    ((d.headAnswer b data).port b).rxSleep = true ∧ ((d.headAnswer b data).port b).cmd = 0 ∧
      ∀ c, c ≠ b → (d.headAnswer b data).port c = d.port c := by
  have hport (c : Nat) : (d.headAnswer b data).port c = (d.modPort b Port.rxAsleep).port c := by
    unfold Dev.headAnswer
    rw [if_neg (by rw [hcmd]; decide), if_pos hcmd]
    exact port_endSleeps _ c
  rw [hport, port_modPort_same d _ hlen]
  exact ⟨rfl, rfl, fun c hc => (hport c).trans (port_modPort_other d _ hc)⟩

/-! ## HEAD_JOG (R328, R338) -/

/-- The run of a HEAD_JOG on engine n of beam b: the laser-off move from where the engine's last run ends. -/
def Dev.jogRun (d : Dev) (q : Req) (n : Nat) (err : Int) : Run :=
  let e := d.eng n
  let set := (d.calSet q.a4.toNat (q.a5.get 0 8)).getD []
  let dest := (signed 32 q.a1.toNat * 2 ^ 24, signed 32 q.a2.toNat * 2 ^ 24)
  let from_ := match e.runs.getLast? with | some r => r.endPt | none => (e.px, e.py)
  let foc0 := match e.runs.getLast? with | some r => r.endFocus (d.zRamp n) | none => e.focus
  let m := movePieces from_ dest set 0 (d.settle n) err
  { unit := default, start := (e.runs.map (fun r => r.endTick)).foldl Nat.max (d.tick + 1)
    pieces := m.1 ++ [holdPiece m.2 0 dest.1 dest.2 0], tOn := m.2, tOff := m.2, tEnd := m.2, holdAt := m.1.length
    hold := 0, committed := true, delays := [], sync := 0, foc := [(0, signed 16 (q.a3.get 0 16))], focus := foc0
    started := false, ended := false, given := 0, cut := false, ffs := [], served := 0, late := false
    seq := e.seq + 1, pre := true, upTo := none }

/-- That run joins engine n, and the command waits for it. -/
def Dev.jogged (d : Dev) (q : Req) (n : Nat) (r : Run) : Dev :=
  Dev.modPort { d.modEng n (fun e => { e with runs := e.runs ++ [r], seq := r.seq }) with
    scn := { d.scn with jogs := d.scn.jogs ++ [(q, n, r.seq)] } } (q.a0.get 0 5) (fun (p : Port) => { p with jog := true })

theorem headJog_effect {d : Dev} {q : Req} {e : Env} {n : Nat} (hengine : d.engineOf (q.a0.get 0 5) = some n) :
    cmdHeadJog.effect q e d = (d.freeErr 1).2.jogged q n (d.jogRun q n (d.freeErr 1).1) := by
  simp only [cmdHeadJog, hengine, Option.getD_some]
  rfl

theorem jogged_scn (d : Dev) (q : Req) (n : Nat) (r : Run) : (d.jogged q n r).scn.jogs = d.scn.jogs ++ [(q, n, r.seq)] ∧
    (d.jogged q n r).scn.lasers = d.scn.lasers ∧ (d.jogged q n r).mode = d.mode := ⟨rfl, rfl, rfl⟩

theorem port_jogged {d : Dev} {q : Req} (n : Nat) (r : Run) (hlen : q.a0.get 0 5 < d.scn.ports.length) :
    ((d.jogged q n r).port (q.a0.get 0 5)).jog = true := congrArg Port.jog (port_modPort_same _ _ hlen)

theorem runs_jogged {d : Dev} {n : Nat} (q : Req) (r : Run) (hn : n < d.engines.length) :
    ((d.jogged q n r).eng n).runs = (d.eng n).runs ++ [r] :=
  congrArg Engine.runs (eng_modEng_same d n (fun e => { e with runs := e.runs ++ [r], seq := r.seq }) hn)

theorem endPt_jogRun (d : Dev) (q : Req) (n : Nat) (err : Int) :
    (d.jogRun q n err).endPt = (signed 32 q.a1.toNat * 2 ^ 24, signed 32 q.a2.toNat * 2 ^ 24) := by
  have hlast : (d.jogRun q n err).pieces.getLast? = some (holdPiece (d.jogRun q n err).tEnd 0
      (signed 32 q.a1.toNat * 2 ^ 24) (signed 32 q.a2.toNat * 2 ^ 24) 0) := List.getLast?_concat
  rw [Run.endPt, hlast]
  rfl

theorem beamLive_of_served {d : Dev} {b : Nat} (hb : b < 16) (h : d.unserved (2 ^ b) = false) : d.beamLive b = true := by
  have hin : b ∈ bitList 16 (2 ^ b) := by simp [bitList, hb]
  have hlive := List.any_eq_false.mp h b hin
  simpa using hlive

theorem engineOf_of_beamLive {d : Dev} {b : Nat} (h : d.beamLive b = true) : ∃ n, d.engineOf b = some n := by
  unfold Dev.beamLive at h
  cases hengine : d.engineOf b with
  | none => simp [hengine] at h
  | some n => exact ⟨n, rfl⟩

/-- A HEAD_JOG that passes its checks names a beam, below 16, that an engine serves. -/
theorem headJog_checked {d : Dev} {q : Req} (h : cmdHeadJog.check d q = none) :
    q.a0.get 0 5 < 16 ∧ ∃ n, d.engineOf (q.a0.get 0 5) = some n := by
  have hall := (firstFail_none_iff _).mp h
  have hbeam := hall (limitIf (decide (16 ≤ q.a0.get 0 5)) scnLim) (by simp)
  have hfenced := hall (fencedIf (decide (q.a0.get 0 5 < 16) && d.unserved (2 ^ q.a0.get 0 5))) (by simp)
  have hlt : q.a0.get 0 5 < 16 := Nat.lt_of_not_le (of_decide_eq_false hbeam)
  exact ⟨hlt, engineOf_of_beamLive (beamLive_of_served hlt (by simpa [fencedIf, hlt] using hfenced))⟩

theorem exec_headJog {r : Req} {e : Env} {s : State} (h : Takes s 0x0521 cmdHeadJog r)
    (hlen : s.dev.scn.ports.length = 16) :
    ∃ (t : State) (n : Nat) (run : Run), exec (.headJog r e) s = .next t ∧ OnlyDevice s t ∧
      s.dev.engineOf (r.a0.get 0 5) = some n ∧
      run.endPt = (signed 32 r.a1.toNat * 2 ^ 24, signed 32 r.a2.toNat * 2 ^ 24) ∧ run.tOn = run.tOff ∧
      run.foc = [(0, signed 16 (r.a3.get 0 16))] ∧ run.started = false ∧
      t.dev.scn.jogs = s.dev.scn.jogs ++ [(asOp 0x0521 r, n, run.seq)] ∧ (t.dev.port (r.a0.get 0 5)).jog = true ∧
      t.dev.mode = s.dev.mode ∧ t.dev.scn.lasers = s.dev.scn.lasers ∧
      (n < s.dev.engines.length → (t.dev.eng n).runs = (s.dev.eng n).runs ++ [run]) := by
  obtain ⟨hbeam, n, hengine⟩ := headJog_checked h.2.2.2.2
  have hexec : exec (.headJog r e) s = .next { s with dev := cmdHeadJog.effect (asOp 0x0521 r) e (started s 0x0521 r) } :=
    command_takes s 0x0521 cmdHeadJog r e h
  rw [headJog_effect hengine] at hexec
  exact ⟨_, n, _, hexec, ⟨rfl, rfl⟩, hengine, endPt_jogRun _ _ _ _, rfl, rfl, rfl, rfl,
    port_jogged (q := asOp 0x0521 r) n _ (hlen.symm ▸ hbeam), rfl, rfl, runs_jogged (asOp 0x0521 r) _⟩

/-! ## PORT_SLEEP (R326, R338) -/

/-- `b` differs from `a` at most in the ports and in what has left the device. -/
def PortsOnly (a b : Dev) : Prop := ∃ ports out, b = { a with scn := { a.scn with ports := ports }, out := out }

theorem PortsOnly.refl (a : Dev) : PortsOnly a a := ⟨a.scn.ports, a.out, rfl⟩

theorem PortsOnly.trans {a b c : Dev} (h : PortsOnly a b) (k : PortsOnly b c) : PortsOnly a c := by
  obtain ⟨p, o, rfl⟩ := h
  obtain ⟨p', o', rfl⟩ := k
  exact ⟨p', o', rfl⟩

theorem portsOnly_modPort (d : Dev) (b : Nat) (f : Port → Port) : PortsOnly d (d.modPort b f) := ⟨_, d.out, rfl⟩

theorem portsOnly_foldl (f : Dev → Nat → Dev) (h : ∀ a b, PortsOnly a (f a b)) (l : List Nat) (a : Dev) :
    PortsOnly a (l.foldl f a) := foldl_keeps PortsOnly PortsOnly.refl (fun _ _ _ => PortsOnly.trans) f h l a

theorem portsOnly_sendSleep (d : Dev) (b : Nat) : PortsOnly d (d.sendSleep b) := ⟨d.scn.ports, _, rfl⟩

theorem portsOnly_sendSleepTx (d : Dev) (b : Nat) : PortsOnly d (d.sendSleepTx b) := by
  obtain h | h := sendSleepTx_cases d b
  · rw [h]
    exact PortsOnly.refl d
  · rw [h]
    exact portsOnly_modPort d b _

/-- A device with `n` ports. -/
def Dev.hasPorts (d : Dev) (n : Nat) : Prop := d.scn.ports.length = n

theorem hasPorts_modPort {d : Dev} {n : Nat} (b : Nat) (f : Port → Port) (h : d.hasPorts n) : (d.modPort b f).hasPorts n :=
  (modAt_length _ _ _).trans h

/-- Where a step changes its own port alone, the steps for different ports change each of theirs. -/
theorem port_foldl {I : Dev → Prop} {f : Dev → Nat → Dev} {F : Port → Port} {l : List Nat} (hnodup : l.Nodup)
    (hkeeps : ∀ d b, I d → I (f d b)) (hself : ∀ d b, I d → b ∈ l → (f d b).port b = F (d.port b))
    (hother : ∀ d b c, c ≠ b → (f d b).port c = d.port c) {d : Dev} (hd : I d) (c : Nat) :
    (l.foldl f d).port c = if c ∈ l then F (d.port c) else d.port c := by
  induction l generalizing d with
  | nil => rfl
  | cons b l ih =>
    obtain ⟨hb, hl⟩ := List.nodup_cons.mp hnodup
    have hrest := ih hl (fun d x hd hx => hself d x hd (List.mem_cons_of_mem b hx)) (hkeeps d b hd)
    rw [List.foldl_cons, hrest]
    by_cases hc : c = b
    · subst hc
      rw [if_neg hb, if_pos List.mem_cons_self, hself d c hd List.mem_cons_self]
    · rw [hother d b c hc]
      simp [hc]

/-- A port whose named directions begin to wake. -/
def Port.waking (tx rx : Bool) (p : Port) : Port := { p with
  wakeTx := p.wakeTx || (tx && p.txSleep), wakeRx := p.wakeRx || (rx && p.rxSleep)
  cmd := if rx && p.rxSleep then 3 else p.cmd, arg := if rx && p.rxSleep then 0 else p.arg }

/-- A port whose transmit side sleeps. -/
def Port.txAsleep (p : Port) : Port := { p with txSleep := true }

/-- A port that a PORT_SLEEP puts to sleep on its receive side: SLEEP_TX goes out unless another command is in flight. -/
def Port.rxLulled (p : Port) : Port := if p.cmd = 0 ∧ !p.rxSleep then p.sleepSent else p

theorem startWake_eq (d : Dev) (b : Nat) (tx rx : Bool) :
    d.startWake b tx rx = (if (tx && (d.port b).txSleep) = true then d.sendTraining true b false else d).modPort b
      (fun p => p.waking tx rx) := rfl

theorem portsOnly_startWake (d : Dev) (b : Nat) (tx rx : Bool) : PortsOnly d (d.startWake b tx rx) := by
  obtain ⟨_, hout⟩ := outSide_sendTraining d true b false
  rw [startWake_eq]
  refine PortsOnly.trans ?_ (portsOnly_modPort _ _ _)
  split
  · rw [hout]
    exact ⟨d.scn.ports, _, rfl⟩
  · exact PortsOnly.refl d

/-- The ports are those of the device with the port updated. -/
theorem ports_startWake (d : Dev) (b : Nat) (tx rx : Bool) :
    (d.startWake b tx rx).scn.ports = (d.modPort b (fun p => p.waking tx rx)).scn.ports := by
  obtain ⟨_, hout⟩ := outSide_sendTraining d true b false
  rw [startWake_eq, hout]
  split <;> rfl

section command

variable (d : Dev) (q : Req)

/-- The ports that the command names and that are TRAINED or READY. -/
def Dev.sleepPorts : List Nat := (bitList 16 q.a0.toNat).filter (fun b => (d.port b).state == 2 || (d.port b).state == 3)

/-- Those of them whose receive side it puts to sleep. -/
def Dev.portsToSleep : List Nat :=
  if q.a1.get 2 2 = 1 then (d.sleepPorts q).filter (fun b => !(d.port b).rxSleep) else []

/-- Those of them whose transmit side it puts to sleep. -/
def Dev.portsToTxSleep : List Nat := if q.a1.get 0 2 = 1 then d.sleepPorts q else []

/-- Those of them that it wakes. -/
def Dev.portsToWake : List Nat := (d.sleepPorts q).filter (fun b =>
  (q.a1.get 0 2 == 2 && (d.port b).txSleep) || (q.a1.get 2 2 == 2 && (d.port b).rxSleep))

/-- Waking begins. -/
def Dev.portsWoken : Dev :=
  (d.portsToWake q).foldl (fun d b => d.startWake b (q.a1.get 0 2 == 2) (q.a1.get 2 2 == 2)) d

/-- Transmit sides go to sleep. -/
def Dev.portsTxAsleep (d : Dev) (l : List Nat) : Dev :=
  l.foldl (fun d b => (d.modPort b (fun p => p.txAsleep)).sendSleep b) d

/-- The command joins those that wait. -/
def Dev.sleepWaits (d : Dev) (j : SleepJob) : Dev := { d with scn := { d.scn with sleeps := d.scn.sleeps ++ [j] } }

/-- What it waits for. -/
def Dev.sleepJob : SleepJob := ⟨q, d.portsToSleep q, d.portsToWake q⟩

theorem portSleep_effect (e : Env) : cmdPortSleep.effect q e d = ((d.portsToSleep q).foldl (fun d b => d.sendSleepTx b)
    (((d.portsWoken q).portsTxAsleep (d.portsToTxSleep q)).sleepWaits (d.sleepJob q))).endSleeps := by
  have htx : (d.portsWoken q).portsTxAsleep (d.portsToTxSleep q) =
      if q.a1.get 0 2 = 1 then (d.portsWoken q).portsTxAsleep (d.sleepPorts q) else d.portsWoken q := by
    unfold Dev.portsToTxSleep
    split <;> rfl
  rw [htx]
  rfl

theorem sublist_sleepPorts : (d.sleepPorts q).Sublist (List.range 16) :=
  List.filter_sublist.trans List.filter_sublist

theorem sublist_portsToWake : (d.portsToWake q).Sublist (List.range 16) :=
  List.filter_sublist.trans (sublist_sleepPorts d q)

theorem sublist_portsToSleep : (d.portsToSleep q).Sublist (List.range 16) := by
  unfold Dev.portsToSleep
  split
  · exact List.filter_sublist.trans (sublist_sleepPorts d q)
  · exact List.nil_sublist _

theorem sublist_portsToTxSleep : (d.portsToTxSleep q).Sublist (List.range 16) := by
  unfold Dev.portsToTxSleep
  split
  · exact sublist_sleepPorts d q
  · exact List.nil_sublist _

end command

section ports

variable {d : Dev} (hlen : d.hasPorts 16) (c : Nat)

include hlen

/-- Where each step updates its own port alone, the steps over some of the 16 ports update each of those. -/
theorem port_foldl_modPort {f : Dev → Nat → Dev} {F : Port → Port} {l : List Nat} (hl : l.Sublist (List.range 16))
    (hf : ∀ d b, (f d b).scn.ports = (d.modPort b F).scn.ports) :
    (l.foldl f d).port c = if c ∈ l then F (d.port c) else d.port c := by
  have hport (d : Dev) (b c : Nat) : (f d b).port c = (d.modPort b F).port c := congrArg (List.getD · c default) (hf d b)
  refine port_foldl (I := fun d => d.hasPorts 16) (hl.nodup List.nodup_range) (fun d b hd => ?_) (fun d b hd hb => ?_)
    (fun d b c hc => (hport d b c).trans (port_modPort_other d F hc)) hlen c
  · exact (congrArg List.length (hf d b)).trans (hasPorts_modPort b F hd)
  · have hlt : b < d.scn.ports.length := lt_of_lt_of_eq (List.mem_range.mp (hl.subset hb)) hd.symm
    exact (hport d b b).trans (port_modPort_same d F hlt)

theorem hasPorts_foldl_modPort {f : Dev → Nat → Dev} {F : Port → Port} (l : List Nat)
    (hf : ∀ d b, (f d b).scn.ports = (d.modPort b F).scn.ports) : (l.foldl f d).hasPorts 16 :=
  foldl_keeps (fun a b => a.hasPorts 16 → b.hasPorts 16) (fun _ => id) (fun _ _ _ h k => k ∘ h) f
    (fun d b hd => (congrArg List.length (hf d b)).trans (hasPorts_modPort b F hd)) l d hlen

theorem port_portsWoken (q : Req) : (d.portsWoken q).port c =
    if c ∈ d.portsToWake q then (d.port c).waking (q.a1.get 0 2 == 2) (q.a1.get 2 2 == 2) else d.port c :=
  port_foldl_modPort hlen c (sublist_portsToWake d q) (fun d b => ports_startWake d b _ _)

theorem port_portsTxAsleep {l : List Nat} (hl : l.Sublist (List.range 16)) :
    (d.portsTxAsleep l).port c = if c ∈ l then (d.port c).txAsleep else d.port c :=
  port_foldl_modPort hlen c hl (fun _ _ => rfl)

/-- SLEEP_TX goes out at each port of a PORT_SLEEP that waits for it, where nothing else is in flight. -/
theorem port_foldl_sendSleepTx {l : List Nat} (hl : l.Sublist (List.range 16)) {j : SleepJob} (hj : j ∈ d.scn.sleeps)
    (hwaits : ∀ b ∈ l, j.sleeps.contains b = true) :
    (l.foldl (fun d b => d.sendSleepTx b) d).port c = if c ∈ l then (d.port c).rxLulled else d.port c := by
  refine port_foldl (I := fun d => d.hasPorts 16 ∧ j ∈ d.scn.sleeps) (hl.nodup List.nodup_range)
    (fun d b hd => ?_) (fun d b hd hb => ?_) (fun d b c hc => sendSleepTx_other d hc) ⟨hlen, hj⟩ c
  · obtain h | h := sendSleepTx_cases d b
    · rwa [h]
    · rw [h]
      exact ⟨hasPorts_modPort b _ hd.1, hd.2⟩
  · have hlt : b < d.scn.ports.length := lt_of_lt_of_eq (List.mem_range.mp (hl.subset hb)) hd.1.symm
    have hany : d.scn.sleeps.any (fun j => j.sleeps.contains b) = true := List.any_eq_true.mpr ⟨j, hd.2, hwaits b hb⟩
    unfold Dev.sendSleepTx Port.rxLulled
    by_cases hidle : (d.port b).cmd = 0 ∧ (!(d.port b).rxSleep) = true
    · rw [if_pos ⟨hidle.1, hidle.2, hany⟩, if_pos hidle]
      exact port_modPort_same d _ hlt
    · rw [if_neg fun h => hidle ⟨h.1, h.2.1⟩, if_neg hidle]

/-- What PORT_SLEEP makes of each port. -/
theorem port_portSleep (q : Req) (e : Env) : ∃ p1 p2 : Port,
    p1 = (if c ∈ d.portsToWake q then (d.port c).waking (q.a1.get 0 2 == 2) (q.a1.get 2 2 == 2) else d.port c) ∧
    p2 = (if c ∈ d.portsToTxSleep q then p1.txAsleep else p1) ∧
    (cmdPortSleep.effect q e d).port c = if c ∈ d.portsToSleep q then p2.rxLulled else p2 := by
  have hwoken : (d.portsWoken q).hasPorts 16 := hasPorts_foldl_modPort hlen _ fun d b => ports_startWake d b _ _
  have hasleep := hasPorts_foldl_modPort (F := Port.txAsleep) hwoken (d.portsToTxSleep q)
    (f := fun d b => (d.modPort b (fun p => p.txAsleep)).sendSleep b) fun _ _ => rfl
  refine ⟨_, _, port_portsWoken hlen c q, port_portsTxAsleep hwoken c (sublist_portsToTxSleep d q), ?_⟩
  rw [portSleep_effect, port_endSleeps]
  exact port_foldl_sendSleepTx (d := Dev.sleepWaits _ _) hasleep c (sublist_portsToSleep d q) (List.mem_concat_self ..)
    fun b hb => List.contains_iff_mem.mpr hb

end ports

theorem Port.rxLulled_keeps {β : Type} (g : Port → β) (hg : ∀ p : Port, g p.sleepSent = g p) (p : Port) :
    g p.rxLulled = g p := by
  unfold Port.rxLulled
  split
  · exact hg p
  · rfl

/-- PORT_SLEEP changes no port's state. -/
theorem state_portSleep {d : Dev} (hlen : d.hasPorts 16) (q : Req) (e : Env) (c : Nat) :
    ((cmdPortSleep.effect q e d).port c).state = (d.port c).state := by
  obtain ⟨p1, p2, h1, h2, h⟩ := port_portSleep hlen c q e
  have hp1 : p1.state = (d.port c).state := by
    rw [h1]
    split <;> rfl
  have hp2 : p2.state = p1.state := by
    rw [h2]
    split <;> rfl
  rw [h, ← hp1, ← hp2]
  split
  · exact p2.rxLulled_keeps Port.state fun _ => rfl
  · rfl

theorem portsOnly_keeps {a b : Dev} (h : PortsOnly a b) : b.mode = a.mode ∧ b.scn.sleeps = a.scn.sleeps := by
  obtain ⟨_, _, rfl⟩ := h
  exact ⟨rfl, rfl⟩

/-- The command waits with the others, and those whose ports are all done end; the mode stays. -/
theorem portSleep_keeps (d : Dev) (q : Req) (e : Env) : (cmdPortSleep.effect q e d).mode = d.mode ∧
    (cmdPortSleep.effect q e d).scn.sleeps = (d.scn.sleeps ++ [d.sleepJob q]).filter
      (fun j => !(j.sleeps.isEmpty && j.wakes.isEmpty)) := by
  obtain ⟨hmode1, hsleeps1⟩ := portsOnly_keeps (portsOnly_foldl
    (fun d b => d.startWake b (q.a1.get 0 2 == 2) (q.a1.get 2 2 == 2)) (fun d b => portsOnly_startWake d b _ _)
    (d.portsToWake q) d)
  obtain ⟨hmode2, hsleeps2⟩ := portsOnly_keeps (portsOnly_foldl
    (fun d b => (d.modPort b (fun p => p.txAsleep)).sendSleep b)
    (fun d b => (portsOnly_modPort d b _).trans (portsOnly_sendSleep _ b)) (d.portsToTxSleep q) (d.portsWoken q))
  obtain ⟨hmode3, hsleeps3⟩ := portsOnly_keeps (portsOnly_foldl (fun d b => d.sendSleepTx b) portsOnly_sendSleepTx
    (d.portsToSleep q) (((d.portsWoken q).portsTxAsleep (d.portsToTxSleep q)).sleepWaits (d.sleepJob q)))
  have hlisted : (((d.portsWoken q).portsTxAsleep (d.portsToTxSleep q)).sleepWaits (d.sleepJob q)).scn.sleeps =
      d.scn.sleeps ++ [d.sleepJob q] := congrArg (· ++ [_]) (hsleeps2.trans hsleeps1)
  rw [portSleep_effect]
  obtain ⟨_, _, _, _, hend⟩ := hostSide_endSleeps ((d.portsToSleep q).foldl (fun d b => d.sendSleepTx b)
    (((d.portsWoken q).portsTxAsleep (d.portsToTxSleep q)).sleepWaits (d.sleepJob q)))
  rw [hend]
  exact ⟨hmode3.trans (hmode2.trans hmode1), congrArg (List.filter _) (hsleeps3.trans hlisted)⟩

/-! ## What PORT_SLEEP asks for, by A1 -/

section asked

variable {d : Dev} {q : Req} {named : Nat → Bool}
  (hnamed : ∀ b, named b = (q.a0.toNat.testBit b && ((d.port b).state == 2 || (d.port b).state == 3)))

include hnamed

theorem mem_sleepPorts {c : Nat} (hc : c < 16) : c ∈ d.sleepPorts q ↔ named c = true := by
  rw [hnamed c]
  simp [Dev.sleepPorts, bitList, hc, and_comm]

theorem mem_portsToWake {c : Nat} (hc : c < 16) : c ∈ d.portsToWake q ↔ named c = true ∧
    ((q.a1.get 0 2 == 2 && (d.port c).txSleep) || (q.a1.get 2 2 == 2 && (d.port c).rxSleep)) = true := by
  rw [Dev.portsToWake, List.mem_filter, mem_sleepPorts hnamed hc]

theorem mem_portsToSleep {c : Nat} (hc : c < 16) :
    c ∈ d.portsToSleep q ↔ q.a1.get 2 2 = 1 ∧ named c = true ∧ (d.port c).rxSleep = false := by
  unfold Dev.portsToSleep
  split
  · next h => simp [h, mem_sleepPorts hnamed hc]
  · next h => simp [h]

theorem mem_portsToTxSleep {c : Nat} (hc : c < 16) : c ∈ d.portsToTxSleep q ↔ q.a1.get 0 2 = 1 ∧ named c = true := by
  unfold Dev.portsToTxSleep
  split
  · next h => simp [h, mem_sleepPorts hnamed hc]
  · next h => simp [h]

variable (hlen : d.hasPorts 16) (e : Env)

include hlen

/-- A1 = 1: transmit sides sleep, and the command is done. -/
theorem portSleep_tx (ha1 : q.a1 = 1) (hnone : d.scn.sleeps = []) : (cmdPortSleep.effect q e d).scn.sleeps = [] ∧
    ∀ b, b < 16 → ((cmdPortSleep.effect q e d).port b).txSleep = ((d.port b).txSleep || named b) := by
  have htx : q.a1.get 0 2 = 1 := by rw [ha1]; decide
  have hrx : q.a1.get 2 2 = 0 := by rw [ha1]; decide
  have hwakes : d.portsToWake q = [] := by simp [Dev.portsToWake, htx, hrx]
  have hsleeps : d.portsToSleep q = [] := if_neg (by rw [hrx]; decide)
  refine ⟨?_, fun b hb => ?_⟩
  · rw [(portSleep_keeps d q e).2, hnone, Dev.sleepJob, hwakes, hsleeps]
    rfl
  · obtain ⟨p1, p2, h1, h2, h⟩ := port_portSleep hlen b q e
    rw [hwakes] at h1
    rw [hsleeps] at h
    simp only [List.not_mem_nil, if_false] at h1 h
    simp only [mem_portsToTxSleep hnamed hb, htx, true_and] at h2
    rw [h, h2, h1]
    cases named b <;> simp [Port.txAsleep]

/-- A1 = 4: SLEEP_TX goes out at the named ports that are awake and send nothing. -/
theorem portSleep_rx (ha1 : q.a1 = 4) {b : Nat} (hb : b < 16) : ((cmdPortSleep.effect q e d).port b).cmd =
    if named b = true ∧ (d.port b).rxSleep = false ∧ (d.port b).cmd = 0 then 2 else (d.port b).cmd := by
  have htx : q.a1.get 0 2 = 0 := by rw [ha1]; decide
  have hrx : q.a1.get 2 2 = 1 := by rw [ha1]; decide
  obtain ⟨p1, p2, h1, h2, h⟩ := port_portSleep hlen b q e
  have hp2 : p2 = d.port b := by
    rw [h2, h1]
    simp [mem_portsToTxSleep hnamed hb, mem_portsToWake hnamed hb, htx, hrx]
  rw [h, hp2]
  simp only [mem_portsToSleep hnamed hb, hrx, true_and]
  by_cases hn : named b = true ∧ (d.port b).rxSleep = false
  · obtain ⟨hn, hawake⟩ := hn
    rw [if_pos ⟨hn, hawake⟩]
    unfold Port.rxLulled
    by_cases hidle : (d.port b).cmd = 0
    · rw [if_pos ⟨hidle, by simp [hawake]⟩, if_pos ⟨hn, hawake, hidle⟩]
      rfl
    · rw [if_neg (fun h => hidle h.1), if_neg (fun h => hidle h.2.2)]
  · rw [if_neg hn, if_neg (fun h => hn ⟨h.1, h.2.1⟩)]

/-- Without a side that goes to sleep, the named sides that sleep begin to wake. -/
theorem portSleep_wakes (htx : q.a1.get 0 2 ≠ 1) (hrx : q.a1.get 2 2 ≠ 1) {b : Nat} (hb : b < 16) :
    ((cmdPortSleep.effect q e d).port b).wakeTx =
      ((d.port b).wakeTx || (named b && (q.a1.get 0 2 == 2 && (d.port b).txSleep))) ∧
    ((cmdPortSleep.effect q e d).port b).wakeRx =
      ((d.port b).wakeRx || (named b && (q.a1.get 2 2 == 2 && (d.port b).rxSleep))) := by
  obtain ⟨p1, p2, h1, h2, h⟩ := port_portSleep hlen b q e
  have hlast : (cmdPortSleep.effect q e d).port b = p1 := by
    rw [h, h2]
    simp [mem_portsToTxSleep hnamed hb, mem_portsToSleep hnamed hb, htx, hrx]
  rw [hlast, h1]
  simp only [mem_portsToWake hnamed hb]
  split
  · next h => simp [Port.waking, h.1]
  · next h =>
    rw [not_and, Bool.not_eq_true, Bool.or_eq_false_iff] at h
    cases hn : named b with
    | false => simp
    | true =>
      obtain ⟨hnotx, hnorx⟩ := h hn
      rw [Bool.true_and, Bool.true_and, hnotx, hnorx, Bool.or_false, Bool.or_false]
      exact ⟨rfl, rfl⟩

/-- A1 = 2: the named transmit sides. -/
theorem portSleep_wakeTx (ha1 : q.a1 = 2) {b : Nat} (hb : b < 16) : ((cmdPortSleep.effect q e d).port b).wakeTx =
    ((d.port b).wakeTx || (named b && (d.port b).txSleep)) := by
  have htx : q.a1.get 0 2 = 2 := by rw [ha1]; decide
  have hrx : q.a1.get 2 2 = 0 := by rw [ha1]; decide
  obtain ⟨hwakes, -⟩ := portSleep_wakes hnamed hlen e (by omega) (by omega) hb
  simpa [htx] using hwakes

/-- A1 = 8: the named receive sides. -/
theorem portSleep_wakeRx (ha1 : q.a1 = 8) {b : Nat} (hb : b < 16) : ((cmdPortSleep.effect q e d).port b).wakeRx =
    ((d.port b).wakeRx || (named b && (d.port b).rxSleep)) := by
  have htx : q.a1.get 0 2 = 0 := by rw [ha1]; decide
  have hrx : q.a1.get 2 2 = 2 := by rw [ha1]; decide
  obtain ⟨-, hwakes⟩ := portSleep_wakes hnamed hlen e (by omega) (by omega) hb
  simpa [hrx] using hwakes

end asked

theorem exec_portSleep {r : Req} {e : Env} {s : State} (h : Takes s 0x0523 cmdPortSleep r) : exec (.portSleep r e) s =
    .next { s with dev := cmdPortSleep.effect (asOp 0x0523 r) e (started s 0x0523 r) } :=
  command_takes s 0x0523 cmdPortSleep r e h

/-! ## HEAD_MOOR and PORT_QUERY (R328, R338) -/

theorem exec_headMoor {r : Req} {e : Env} {s : State} (h : Takes s 0x0522 cmdHeadMoor r) : exec (.headMoor r e) s =
    .next { s with dev := cmdHeadMoor.effect (asOp 0x0522 r) e (started s 0x0522 r) } :=
  command_takes s 0x0522 cmdHeadMoor r e h

theorem exec_portQuery {r : Req} {e : Env} {s : State} (h : Takes s 0x0582 cmdPortQuery r) : exec (.portQuery r e) s =
    .next { s with dev := cmdPortQuery.effect (asOp 0x0582 r) e (started s 0x0582 r) } :=
  command_takes s 0x0582 cmdPortQuery r e h

/-! ## O38 -/

/-- Settles O38, command by command: each answers one device, whose ports, registers and lists the lemmas above give. -/
theorem scannerPorts : Obligations.ScannerPorts := by
  have hin {s : State} (b : Fin 16) (hlen : s.dev.scn.ports.length = 16) : b.val < s.dev.scn.ports.length :=
    hlen.symm ▸ b.isLt
  refine ⟨fun b s ha hstate hawake => ?_, fun b f s _ hdeaf => exec_deaf_port f hdeaf, fun d b hlen => port_retrain d hlen,
    fun b rsp data s ha hstate hrsp hlen => ?_, fun b rsp data s _ h => exec_headResponse_ignored data h,
    fun b s ha => ⟨exec_headCmdTimeout_idle, exec_headCmdTimeout_sent ha⟩, fun b s ha hlen => ?_,
    fun r e s b h hlen hb => ?_, fun r e s h => ⟨_, rfl, exec_headMoor h⟩, fun r e s named h hnone hlen hnamed => ?_,
    fun r e s b h hb => ?_⟩
  case refine_1 =>
    have hport : (s.dev.port b).hearing := ⟨hstate, hawake⟩
    refine ⟨fun f hgood => ⟨exec_feedbackFrame_good ha hport hgood, fun hready hseen hflags hlen => ?_⟩,
      fun f hbad => exec_feedbackFrame_bad ha hport hbad, ⟨_, rfl, fun hheard => ?_, fun hgood hbadIn => ?_⟩,
      exec_symbolLockLoss_hearing ha hport⟩
    · obtain ⟨hheard, hmode, hrd⟩ := goodFeedback_plain_effect hready hseen hflags (hin b hlen)
      obtain ⟨hx, hy, hz, htemp⟩ := rd_showFeedback s.dev b f.bytes
      refine ⟨_, exec_feedbackFrame_good ha hport hgood, ⟨rfl, rfl⟩, (hrd _).trans hx, (hrd _).trans hy, (hrd _).trans hz,
        (hrd _).trans htemp, ?_⟩
      rw [hheard]
      exact ⟨rfl, rfl, rfl, rfl, hready, hmode⟩
    · exact (exec_feedbackWindowEnd_hearing ha hport rfl).trans (next_congr (if_pos (by simpa using hheard)))
    · exact (exec_feedbackWindowEnd_hearing ha hport rfl).trans (next_congr (if_neg (by simp [hgood, hbadIn])))
  case refine_2 =>
    have hanswer (hcmd : (s.dev.port b).cmd ≠ 0) := exec_headResponse_answer data ha hstate hrsp hcmd
    refine ⟨fun hcmd hmode hcap hhead => ?_, fun hcmd => ?_, fun hcmd => ?_, fun hcmd => ?_⟩
    · obtain ⟨hready, hid, hcaps, hsent, hregs, hother⟩ := headAnswer_enum hcmd hmode hcap hhead (hin b hlen)
      exact ⟨_, hanswer (by rw [hcmd]; decide), ⟨rfl, rfl⟩, hready, hid, hcaps, hsent, hregs, hother⟩
    · obtain ⟨hasleep, hidle, hother⟩ := headAnswer_sleep (data := data) hcmd (hin b hlen)
      exact ⟨_, hanswer (by rw [hcmd]; decide), ⟨rfl, rfl⟩, hasleep, hidle, hother⟩
    · refine (hanswer (by rw [hcmd]; decide)).trans (next_congr ?_)
      simp [Dev.headAnswer, hcmd]
    · refine (hanswer (by rw [hcmd]; decide)).trans (next_congr ?_)
      simp [Dev.headAnswer, hcmd]
  case refine_3 =>
    refine ⟨exec_enumRetry_idle, fun hstate hseen hfailed hidle hmode => ?_⟩
    exact ⟨_, exec_enumRetry_failed ha hfailed, ⟨rfl, rfl⟩, sendEnum_sends hstate hseen hidle hmode (hin b hlen)⟩
  case refine_4 =>
    subst hb
    exact exec_headJog h hlen
  case refine_5 =>
    have hports : (started s 0x0523 r).hasPorts 16 := hlen
    have hnamed' : ∀ b, named b = ((asOp 0x0523 r).a0.toNat.testBit b &&
        (((started s 0x0523 r).port b).state == 2 || ((started s 0x0523 r).port b).state == 3)) := hnamed
    obtain ⟨hmode, -⟩ := portSleep_keeps (started s 0x0523 r) (asOp 0x0523 r) e
    refine ⟨_, exec_portSleep h, ⟨rfl, rfl⟩, fun b => state_portSleep hports (asOp 0x0523 r) e b, hmode, fun ha1 => ?_,
      fun ha1 b hb => ?_, fun ha1 b hb => ?_, fun ha1 b hb => ?_⟩
    · exact portSleep_tx hnamed' hports e ha1 hnone
    · exact portSleep_rx hnamed' hports e ha1 hb
    · exact portSleep_wakeTx hnamed' hports e ha1 hb
    · exact portSleep_wakeRx hnamed' hports e ha1 hb
  case refine_6 =>
    subst hb
    exact exec_portQuery h

end Sys2Proof.Machine
end

section
/-! SUPPORT. What a command does to the memory, and O3 and O4: it is left alone but by the commands that reach it, and
its canonical form is kept (R57, R72, R347, R348). -/

namespace Sys2Proof.Machine

/-- A command that does not reach the memory changes the device alone. -/
theorem exec_device_only {c : Instr} (hmem : touchesMemory c = false) (s : State) :
    ∃ d, exec c s = .next { s with dev := d } := by
  cases hreset : actsInReset c with
  | false => exact (exec_acts hmem hreset).goes s
  | true =>
    cases c
    case resetReleaseBoot b => exact execResetReleaseBoot_goes b s
    case powerOnReset | rstNReset | perstNReset | softwareResetFire => exact absurd hmem.symm Bool.false_ne_true
    all_goals exact absurd hreset Bool.false_ne_true

/-- Settles O3: such a command leaves the memory as it is (`exec_device_only`). -/
theorem memoryFrame : Obligations.MemoryFrame := by
  intro c s t hmem ht a
  obtain ⟨d, hd⟩ := exec_device_only hmem s
  obtain rfl := Host.Outcome.next.inj (hd.symm.trans ht)
  rfl

/-- The command answers a state whose memory is the old one, an empty one, or the old one with bytes written to it. -/
def KeepsCanonical (f : Meaning) (s : State) : Prop :=
  ∃ d m, f s = .next { s with dev := d, mem := m } ∧ (Memory.wf s.mem = true → Memory.wf m = true)

theorem keepsCanonical_of_dev {f : Meaning} {s : State} (h : ∃ d, f s = .next { s with dev := d }) :
    KeepsCanonical f s := by
  obtain ⟨d, hd⟩ := h
  exact ⟨d, s.mem, hd, id⟩

theorem keepsCanonical_of_emptied {f : Meaning} {s : State}
    (h : ∃ d m, f s = .next { s with dev := d, mem := m } ∧ (m = s.mem ∨ m = [])) : KeepsCanonical f s := by
  obtain ⟨d, m, hd, rfl | rfl⟩ := h
  · exact ⟨d, s.mem, hd, id⟩
  · exact ⟨d, [], hd, fun _ => memoryWf_nil⟩

theorem bar2Write_keepsCanonical (addr : BitVec 26) (bytes : List Byte) (s : State) :
    KeepsCanonical (execBar2Write addr bytes) s := by
  rcases execBar2Write_goes addr bytes s with hdev | ⟨a, bs, hwrite⟩
  · exact keepsCanonical_of_dev hdev
  · exact ⟨s.dev, memWrite s.mem a bs, hwrite, memoryWf_write s.mem a bs⟩

theorem dramRequest_keepsCanonical (arrive : List DramReq) (sc : Fin 4) (s : State) :
    KeepsCanonical (execDramRequest arrive sc) s := by
  obtain ⟨d, m, hd, rfl | ⟨use, a, bs, rfl⟩⟩ := execDramRequest_goes arrive sc s
  · exact ⟨d, s.mem, hd, id⟩
  · exact ⟨d, _, hd, memoryWf_copies use s.mem a bs⟩

theorem registerWrite_keepsCanonical (off : BitVec 25) (val hwMask hwVal : Word) (s : State) :
    KeepsCanonical (execRegisterWrite off val hwMask hwVal) s := by
  rcases registerWrite_answers off val hwMask hwVal s with hdev | ⟨-, d, htrain⟩
  · exact keepsCanonical_of_dev hdev
  · exact ⟨d, [], htrain, fun _ => memoryWf_nil⟩

theorem exec_keepsCanonical (c : Instr) (s : State) : KeepsCanonical (exec c) s := by
  cases hmem : touchesMemory c with
  | false => exact keepsCanonical_of_dev (exec_device_only hmem s)
  | true =>
    cases c
    case registerWrite off val hwMask hwVal => exact registerWrite_keepsCanonical off val hwMask hwVal s
    case bar2Write addr bytes => exact bar2Write_keepsCanonical addr bytes s
    case dramRequest arrive sc => exact dramRequest_keepsCanonical arrive sc s
    case dramTrain => exact keepsCanonical_of_emptied (execDramTrain_goes s)
    case dramTrainDone t => exact keepsCanonical_of_emptied (execDramTrainDone_goes t s)
    case powerOnReset => exact ⟨_, [], rfl, fun _ => memoryWf_nil⟩
    case rstNReset ns => exact keepsCanonical_of_emptied (execRstNReset_goes ns s)
    case perstNReset => exact ⟨_, [], rfl, fun _ => memoryWf_nil⟩
    case softwareResetFire => exact keepsCanonical_of_emptied (execSoftwareResetFire_goes s)
    case pfailNLow => exact keepsCanonical_of_emptied (execPfailNLow_goes s)
    all_goals exact absurd hmem Bool.false_ne_true

/-- Settles O4: a step idles or runs a command, and each command keeps the form (`exec_keepsCanonical`). -/
theorem memoryStaysCanonical : Obligations.MemoryStaysCanonical := by
  intro s t hwf ht
  unfold step at ht
  split at ht
  · obtain rfl := Host.Outcome.next.inj ht
    exact hwf
  · next c rest hpending =>
    obtain ⟨d, m, hnext, hkeep⟩ := exec_keepsCanonical c { s with pending := rest }
    obtain rfl := Host.Outcome.next.inj (hnext.symm.trans ht)
    exact hkeep hwf

end Sys2Proof.Machine
end

section
/-! SUPPORT. O52 and O53: the sine tables, and a move of an axis that is not at rest (R425, R440). -/

namespace Sys2Proof.Machine

/-! ## Sine tables (R440) -/

/-- Entry `k` of the sine table of axis `a`; the one past the end is 0x8000. -/
def Dev.sine (d : Dev) (a k : Nat) : Nat := if k = 256 then 0x8000 else d.fld (MOT_AX_SIN a k) 0 16

/-- A value would make the table fall at entry `i`, or T[0] rise above 0. -/
def Dev.sineFalls (d : Dev) (a i v : Nat) : Prop :=
  (i = 0 ∧ v ≠ 0) ∨ (0 < i ∧ v < d.sine a (i - 1)) ∨ d.sine a (i + 1) < v

section
variable {a : Fin 8} {i : Fin 256} {val : Word} {s : State} (hu : Up s) (ha : a.val < nAxes s.dev.variant)
  (hcur : s.dev.mode.cur = .configure)
include hu ha hcur

theorem exec_sineTableWrite_falls (h : s.dev.sineFalls a i (val.get 0 16)) :
    exec (.sineTableWrite a i val) s = .next { s with dev := s.dev.setBit MOT_ERR 10 true } := by
  show execSineTableWrite a i val s = _
  unfold execSineTableWrite
  rw [whenUp_up _ _ hu]
  dsimp only
  rw [if_neg (by omega), if_neg (by simp [hcur])]
  exact congrArg (fun d => Host.Outcome.next { s with dev := d }) (if_pos h)

theorem exec_sineTableWrite_taken (h : ¬ s.dev.sineFalls a i (val.get 0 16)) :
    exec (.sineTableWrite a i val) s = .next { s with dev := s.dev.wrN (MOT_AX_SIN a i) (val.get 0 16) } := by
  show execSineTableWrite a i val s = _
  unfold execSineTableWrite
  rw [whenUp_up _ _ hu]
  dsimp only
  rw [if_neg (by omega), if_neg (by simp [hcur])]
  exact congrArg (fun d => Host.Outcome.next { s with dev := d }) (if_neg h)

end

/-- A register that takes a number of 16 bits shows it. -/
theorem get_ofNat (v n : Nat) (hn : n ≤ 32) : Word.get (BitVec.ofNat 32 v) 0 n = v % 2 ^ n := by
  simp only [Word.get, bitsAt, BitVec.toNat_ofNat, Nat.shiftRight_zero]
  exact Nat.mod_mod_of_dvd v (pow_dvd_pow 2 hn)

/-- Settles O52: the write by its two cases in CONFIGURE. -/
theorem sineTablesNeverFall : Obligations.SineTablesNeverFall := by
  rintro a i val s tab hu ha hcur rfl
  refine ⟨fun h => exec_sineTableWrite_falls hu ha hcur h, fun h => ?_⟩
  refine ⟨_, exec_sineTableWrite_taken hu ha hcur h, ⟨rfl, rfl⟩, ?_, fun k _ hne => ?_⟩
  · show Word.get (Dev.rd _ _) 0 16 = _
    rw [rd_wrN_same, get_ofNat _ _ (by decide), Nat.mod_eq_of_lt (Word.get_lt val 0 16)]
  · show Word.get (Dev.rd _ _) 0 16 = Word.get (Dev.rd _ _) 0 16
    rw [rd_wrN_other _ _ _ (by unfold MOT_AX_SIN; omega)]

/-! ## MOT_MOVE (R425) -/

/-- A mode with motion is not WIND-DOWN: its queries-only rule (R69) does not bear on it. -/
theorem modeIs_motModes {d : Dev} (q : Req) (h : motModes.contains d.mode.cur = true) : (d.modeIs q motModes).1 = false := by
  have hdown : (d.mode.cur == Mode.windDown) = false := by
    cases hcur : d.mode.cur <;> simp_all [motModes]
  simp only [Dev.modeIs, Dev.wdDone, h, hdown, Bool.not_true, Bool.false_and, Bool.or_self]

/-- A native axis that moves turns MOT_MOVE away, whatever else is asked of it. -/
theorem motMove_check_moving {d : Dev} {q : Req} (hshape : firstFail (shape q [7, anyW, anyW, anyW] none 0) = none)
    (hpresent : q.a0.get 0 3 < nAxes d.variant) (hmode : motModes.contains d.mode.cur = true)
    (hnative : d.bit (MOT_AX_CFG (q.a0.get 0 3)) 28 = false) (hmoves : (d.axis (q.a0.get 0 3)).mv.isSome = true) :
    cmdMotMove.check d q = some (stReject, 0) := by
  have habsent : (d.axAbsent q).1 = false := by simp [Dev.axAbsent, absentIf, hpresent]
  show firstFail (shape q [7, anyW, anyW, anyW] none 0 ++ _) = _
  rw [firstFail_append hshape]
  simp only [firstFail, habsent, modeIs_motModes q hmode, hnative, hmoves, Bool.not_false, Bool.true_and, Bool.or_true,
    Bool.false_eq_true, if_true, if_false]

theorem Recorded.mot_eq {a b : Dev} (h : Recorded a b) : b.mot = a.mot := by
  obtain ⟨r, g, i, e, f, l, y, o, rfl⟩ := h
  rfl

/-- Settles O53: the checks of MOT_MOVE by `motMove_check_moving`, its effect at rest by definition. -/
theorem nativeAxesRejectAMove : Obligations.NativeAxesRejectAMove := by
  rintro r e s a rfl hu htake hgroup hshape hpresent hmode hnative
  refine ⟨fun hmoves => ⟨?_, ?_⟩, fun _ h => ?_⟩
  · exact command_fails s 0x0601 cmdMotMove r e hu htake hgroup
      (motMove_check_moving hshape hpresent hmode hnative hmoves)
  · exact (recorded_complete _ _ _ _ _).mot_eq
  · refine (command_takes s 0x0601 cmdMotMove r e h).trans ?_
    exact congrArg (fun d => Host.Outcome.next { s with dev := d })
      (if_neg (show ¬ s.dev.bit (MOT_AX_CFG (r.a0.get 0 3)) 28 = true by simp [hnative]))

end Sys2Proof.Machine
end

section
/-! SUPPORT. What the record of a fault leaves in the collector, and O9: a NOTE-class fault (R465, R467, R472). -/

namespace Sys2Proof.Machine

theorem HostSide.flt_eq {a b : Dev} (h : HostSide a b) : b.flt = a.flt := h.kept.2.1

theorem LinkSide.flt_eq {a b : Dev} (h : LinkSide a b) : b.flt = a.flt := by
  obtain ⟨_, _, rfl⟩ := h
  rfl

theorem LinkSide.rd_eq {a b : Dev} (h : LinkSide a b) (off : Nat) : b.rd off = a.rd off := by
  obtain ⟨_, _, rfl⟩ := h
  rfl

/-- A flush that a fault starts changes the recorder alone. -/
theorem faultFlush_eq (d : Dev) (c : Cls) : ∃ r, d.faultFlush c = { d with rcd := r } := by
  have hstart : ∃ r, d.startFlush = { d with rcd := r } := by
    unfold Dev.startFlush
    split
    · exact ⟨d.rcd, rfl⟩
    · split <;> exact ⟨_, rfl⟩
  unfold Dev.faultFlush
  split
  · exact hstart
  · split
    · exact hstart
    · exact ⟨_, rfl⟩

/-- The history entry of a fault that is detected now (R472). -/
def Dev.histOf (d : Dev) (inj : Bool) (src cause : Nat) (p : Word) (c : Cls) (promoted : Bool) : Hist :=
  ⟨d.tb3, src, cause, c, d.devId, inj, false, promoted, false, p, nextSeq d.flt.seq⟩

/-- A fault is recorded by its history entry; the error bits of its unit come first, its event and the flush after. -/
theorem recordFault_eq (d : Dev) (inj : Bool) (src cause : Nat) (p : Word) (c : Cls) (promoted : Bool) :
    ∃ y r l, HostSide d y ∧ d.recordFault inj src cause p c promoted =
      { (y.enter (d.histOf inj src cause p c promoted)).ownEvent (d.histOf inj src cause p c promoted).event with
        rcd := r, life := l } := by
  unfold Dev.recordFault
  extract_lets d1 d2 d3 h d4 life d5
  have hd1 : HostSide d d1 := hostSide_step _ (HostSide.refl d) (hostSide_wr ..)
  have hd2 : HostSide d d2 := by
    cases herr : errBit src cause p with
    | none => simpa only [d2, herr] using hd1
    | some x => simpa only [d2, herr] using hd1.trans (hostSide_setErr d1 x.1 x.2)
  have hrec : HostSide d d3 := hostSide_step _ hd2 (hostSide_wr ..)
  obtain ⟨r, hr⟩ := faultFlush_eq d5 c
  refine ⟨d3, r, d5.life, hrec, ?_⟩
  have hh : h = d.histOf inj src cause p c promoted := by
    obtain ⟨_, _, _, _, he⟩ : HostSide d d3 := hrec
    show (⟨d3.tb3, src, cause, c, d3.devId, inj, false, promoted, false, p, nextSeq d3.flt.seq⟩ : Hist) = _
    rw [he]
    rfl
  rw [hr, ← hh]

/-- The record of a fault puts its entry in front of the history queue, with the next sequence number; nothing else of the
collector changes. -/
theorem recordFault_flt (d : Dev) (inj : Bool) (src cause : Nat) (p : Word) (c : Cls) (promoted : Bool) :
    (d.recordFault inj src cause p c promoted).flt = { d.flt with
      hist := (d.histOf inj src cause p c promoted :: d.flt.hist).take 32, seq := nextSeq d.flt.seq } := by
  obtain ⟨y, r, l, hy, heq⟩ := recordFault_eq d inj src cause p c promoted
  rw [heq]
  show (Dev.ownEvent _ _).flt = _
  rw [(linkSide_ownEvent _ _).flt_eq, Dev.queueEvent_flt, (hostSide_enter y _).flt_eq, hy.flt_eq]
  rfl

/-- FLT_HIST_CNT shows the sequence number of the entry that is newest. -/
theorem rd_enter_count (d : Dev) (h : Hist) : (d.enter h).rd FLT_HIST_CNT = BitVec.ofNat 32 h.seq := by
  have hseen (k : Nat) : FLT_HIST_CNT ≠ FLT_SEEN k := by unfold FLT_HIST_CNT FLT_SEEN; omega
  have hstep (b : Prop) [Decidable b] (x : Dev) (off v : Nat) (hoff : FLT_HIST_CNT ≠ off) :
      (if b then x.wrN off v else x).rd FLT_HIST_CNT = x.rd FLT_HIST_CNT := by
    split
    · exact rd_wrN_other _ _ _ hoff
    · rfl
  unfold Dev.enter
  extract_lets wrap flt d1 d2 d3 d4 d5 first d6 d7
  rw [rd_congr (regs_signal _ _) (hostSide_signal _ _).variant_eq]
  calc d7.rd FLT_HIST_CNT = d6.rd FLT_HIST_CNT := hstep _ _ _ _ (by decide)
    _ = d5.rd FLT_HIST_CNT := hstep _ _ _ _ (by decide)
    _ = d4.rd FLT_HIST_CNT := rd_setBit_other _ _ _ _ (hseen _)
    _ = d3.rd FLT_HIST_CNT := rd_setBit_other _ _ _ _ (by decide)
    _ = BitVec.ofNat 32 h.seq := rd_wrN_same _ _ _

theorem rd_recordFault_count (d : Dev) (inj : Bool) (src cause : Nat) (p : Word) (c : Cls) (promoted : Bool) :
    (d.recordFault inj src cause p c promoted).rd FLT_HIST_CNT = BitVec.ofNat 32 (nextSeq d.flt.seq) := by
  obtain ⟨y, r, l, _, heq⟩ := recordFault_eq d inj src cause p c promoted
  rw [heq]
  show (Dev.ownEvent _ _).rd FLT_HIST_CNT = _
  rw [(linkSide_ownEvent _ _).rd_eq]
  exact rd_enter_count _ _

/-- Settles O9: such a report is recorded (`raise_note`), and the record leaves the units (`recorded_recordFault`). -/
theorem noteFaultIsRecorded : Obligations.NoteFaultIsRecorded := by
  intro f s ha hplain hclass hpromotes
  have hlost : ¬ (f.src.toNat = 20 ∧ f.cause.toNat = 7) := by
    rintro ⟨hsrc, hcause⟩
    rw [hsrc, hcause, faultClass_stateLost] at hclass
    cases hclass
  have hexec := exec_faultDetected_plain ha hplain hlost
  rw [raise_note _ _ _ _ hclass hpromotes] at hexec
  have hflt := recordFault_flt s.dev false f.src.toNat f.cause.toNat f.payload .note false
  have hcount := rd_recordFault_count s.dev false f.src.toNat f.cause.toNat f.payload .note false
  have hrec := recorded_recordFault s.dev false f.src.toNat f.cause.toNat f.payload .note false
  generalize s.dev.recordFault false f.src.toNat f.cause.toNat f.payload .note false = d at hexec hflt hcount hrec
  refine ⟨_, hexec, ⟨rfl, rfl⟩, ⟨s.dev.histOf false f.src.toNat f.cause.toNat f.payload .note false, ?_, rfl, rfl, rfl, rfl,
    rfl, rfl⟩, ?_, hcount, ?_, ?_, ?_⟩
  · show d.flt.hist = _
    rw [hflt]
  · show d.flt.seq = _
    rw [hflt]
  · show d.flt.live = _
    rw [hflt]
  · show d.flt.fenced = _
    rw [hflt]
  · obtain ⟨_, _, _, _, _, _, _, _, rfl⟩ := hrec
    exact ⟨rfl, rfl, rfl, rfl, rfl, rfl, rfl⟩

end Sys2Proof.Machine
end

section
/-! SUPPORT. The end of a condition, thermal samples, and O11 (R469, R477, R538, R550). -/

namespace Sys2Proof.Machine

/-! ## The end of a cause (R469) -/

/-- The end of one cause raises no other. -/
theorem standing_endCause_of (d : Dev) (src cause : Nat) {src' cause' : Nat} (h : d.standing src' cause' = false) :
    (d.endCause src cause).standing src' cause' = false := by
  simp only [Dev.standing, Dev.endCause, List.any_eq_false, List.mem_filter, List.mem_map] at h ⊢
  rintro _ ⟨⟨l, hl, rfl⟩, -⟩
  have hno := h l hl
  split
  · simp
  · exact hno

/-- Beside the live causes, the end of a cause changes nothing. -/
theorem endCause_keeps (d : Dev) (src cause : Nat) : (d.endCause src cause).mode = d.mode ∧
    (d.endCause src cause).life = d.life ∧ ∀ off, (d.endCause src cause).rd off = d.rd off :=
  ⟨rfl, rfl, fun _ => rfl⟩

theorem exec_safeWorkSettle {s : State} (ha : Awake s) :
    exec .safeWorkSettle s = .next { s with dev := s.dev.settleSafe } := on_awake s Dev.settleSafe ha

theorem railLimits_lt (r : Fin 8) : (railLimits r).2 < 65536 := by revert r; decide

/-- A voltage within the limits of its rail is shown with neither flag. -/
theorem railWord_within {r : Fin 8} {mv : Nat} (hlow : (railLimits r).1 ≤ mv) (hhigh : mv ≤ (railLimits r).2) :
    railWord r mv = mv := by
  have hlt := railLimits_lt r
  rw [railWord_eq, if_neg (by omega), if_neg (by omega), Nat.mod_eq_of_lt (by omega), Nat.add_zero]

/-- A supply back at a voltage within its limits ends the condition when every rail is (R469). -/
def Dev.supplyBack (d : Dev) (r mv : Nat) : Dev :=
  if (d.rails.set r mv).all (fun w => decide (w < 65536)) then Dev.endCause { d with rails := d.rails.set r mv } 38 3
  else { d with rails := d.rails.set r mv }

theorem exec_supplyRestored {r : Fin 8} {mv : Nat} {s : State} (ha : Awake s) (hlow : (railLimits r).1 ≤ mv)
    (hhigh : mv ≤ (railLimits r).2) :
    exec (.supplyRestored r mv) s = .next { s with dev := s.dev.supplyBack r mv } := by
  show execSupplyRestored r mv s = _
  unfold execSupplyRestored
  rw [on_awake _ _ ha, railWord_within hlow hhigh]
  rfl

theorem supplyBack_keeps (d : Dev) (r mv : Nat) :
    (d.supplyBack r mv).rails = d.rails.set r mv ∧ (d.supplyBack r mv).mode = d.mode := by
  unfold Dev.supplyBack
  split <;> exact ⟨rfl, rfl⟩

/-! ## Thermal samples (R550) -/

/-- CLK_TJn: the reading, with the bit of an invalid one. -/
def tempWord (v : Int) : Nat := unsigned 16 v + bitOf (!tjValid v) * 65536

theorem tempWord_valid {v : Int} (h : tjValid v = true) : tempWord v = unsigned 16 v := by
  simp [tempWord, h, bitOf]

/-- The four readings in their registers. -/
def Dev.writeTemps (d : Dev) (a b c e : Int) : Dev :=
  (((d.wrN (CLK_TJ 0) (tempWord a)).wrN (CLK_TJ 1) (tempWord b)).wrN (CLK_TJ 2) (tempWord c)).wrN (CLK_TJ 3) (tempWord e)

/-- A temperature counts in its lifetime bin. -/
def Dev.countTemp (d : Dev) (m : Int) : Dev :=
  { d with life := { d.life with tjHist := modAt d.life.tjHist (tjBin m) (· + 1) } }

theorem countTemp_keeps (d : Dev) (m : Int) : (d.countTemp m).flt = d.flt ∧ (d.countTemp m).mode = d.mode ∧
    (d.countTemp m).life.tjHist = modAt d.life.tjHist (tjBin m) (· + 1) ∧ ∀ off, (d.countTemp m).rd off = d.rd off :=
  ⟨rfl, rfl, rfl, fun _ => rfl⟩

/-- The four readings shown, the highest of them, and its lifetime bin. -/
def Dev.showTemps (d : Dev) (a b c e m : Int) : Dev :=
  ((d.writeTemps a b c e).wrN CLK_TJ_MAX (unsigned 16 m)).countTemp m

/-- What four valid readings, with the highest `m`, leave of the device before any threshold. -/
theorem showTemps_shows {d : Dev} {a e : Int} (b c m : Int) (ha : tjValid a = true) (he : tjValid e = true) :
    (d.showTemps a b c e m).rd CLK_TJ_MAX = BitVec.ofNat 32 (unsigned 16 m) ∧
    (d.showTemps a b c e m).rd (CLK_TJ 0) = BitVec.ofNat 32 (unsigned 16 a) ∧
    (d.showTemps a b c e m).rd (CLK_TJ 3) = BitVec.ofNat 32 (unsigned 16 e) := by
  obtain ⟨-, -, -, hrd⟩ := countTemp_keeps ((d.writeTemps a b c e).wrN CLK_TJ_MAX (unsigned 16 m)) m
  unfold Dev.showTemps
  rw [hrd, hrd, hrd, rd_wrN_same, rd_wrN_other _ _ _ (by decide), rd_wrN_other _ _ _ (by decide)]
  unfold Dev.writeTemps
  rw [rd_wrN_other _ _ _ (by decide), rd_wrN_other _ _ _ (by decide), rd_wrN_other _ _ _ (by decide), rd_wrN_same,
    rd_wrN_same, tempWord_valid ha, tempWord_valid he]
  exact ⟨rfl, rfl, rfl⟩

theorem showTemps_keeps (d : Dev) (a b c e m : Int) : (d.showTemps a b c e m).flt = d.flt ∧
    (d.showTemps a b c e m).mode = d.mode ∧
    (d.showTemps a b c e m).life.tjHist = modAt d.life.tjHist (tjBin m) (· + 1) := by
  obtain ⟨hflt, hmode, hbin, -⟩ := countTemp_keeps ((d.writeTemps a b c e).wrN CLK_TJ_MAX (unsigned 16 m)) m
  obtain ⟨_, _, _, _, hside⟩ : HostSide d ((d.writeTemps a b c e).wrN CLK_TJ_MAX (unsigned 16 m)) :=
    ((((hostSide_wr ..).trans (hostSide_wr ..)).trans (hostSide_wr ..)).trans (hostSide_wr ..)).trans (hostSide_wr ..)
  unfold Dev.showTemps
  rw [hflt, hmode, hbin, hside]
  exact ⟨rfl, rfl, rfl⟩

/-- The reaction to the highest reading: the thresholds crossed, then the conditions that have ended (R550). -/
def Dev.judgeTemp (x : Dev) (m : Int) : Dev :=
  let x := if 2080 ≤ m ∧ !x.standing 38 2 then x.raiseTrig 2 0x05 else x
  let x := if 1920 ≤ m ∧ !x.standing 38 1 then x.raiseTrig 1 0x04 else x
  let x := if m < 2000 then x.endCause 38 2 else x
  if m < 1840 then x.endCause 38 1 else x

theorem exec_thermalSample {a b c e m : Int} {s : State} (ha : Awake s) (hmax : tjMax [a, b, c, e] = some m) :
    exec (.thermalSample [a, b, c, e]) s =
      .next { s with dev := (s.dev.showTemps a b c e m).judgeTemp m } := by
  show execThermalSample [a, b, c, e] s = _
  unfold execThermalSample
  refine (on_awake s _ ha).trans (congrArg (fun d => Host.Outcome.next { s with dev := d }) ?_)
  have hwrite : (List.range [a, b, c, e].length).foldl (fun d n => d.wrN (CLK_TJ n)
      (unsigned 16 ([a, b, c, e].getD n 0) + bitOf (!tjValid ([a, b, c, e].getD n 0)) * 65536)) s.dev =
    s.dev.writeTemps a b c e := rfl
  unfold Dev.showTemps
  rw [← hwrite]
  extract_lets ts x
  rw [show tjMax ts = some m from hmax]
  change _ = ((x.wrN CLK_TJ_MAX (unsigned 16 m)).countTemp m).judgeTemp m
  clear_value x
  rfl

theorem tjValid_of {v : Int} (hlow : -800 ≤ v) (hhigh : v ≤ 2560) : tjValid v = true := by
  simp [tjValid, hlow, hhigh]

/-- Of four valid readings the highest is one of them. -/
theorem tjMax_of_valid {a b c e : Int} (h : ∀ v ∈ [a, b, c, e], tjValid v = true) :
    ∃ m, tjMax [a, b, c, e] = some m ∧ m ∈ [a, b, c, e] := by
  have hkeep : [a, b, c, e].filter tjValid = [a, b, c, e] := List.filter_eq_self.mpr h
  unfold tjMax
  rw [hkeep]
  refine ⟨_, rfl, ?_⟩
  simp only [List.mem_cons, List.not_mem_nil, or_false]
  split_ifs <;> simp

/-- Below 115 °C no threshold is crossed, and both conditions end. -/
theorem judgeTemp_cool {x : Dev} {m : Int} (h : m < 1840) : x.judgeTemp m = (x.endCause 38 2).endCause 38 1 := by
  unfold Dev.judgeTemp
  simp only [if_neg (show ¬ (2080 ≤ m ∧ (!x.standing 38 2) = true) by omega),
    if_neg (show ¬ (1920 ≤ m ∧ (!x.standing 38 1) = true) by omega), if_pos (show m < 2000 by omega), if_pos h]

theorem judgeTemp_cool_keeps {x : Dev} {m : Int} (h : m < 1840) : (x.judgeTemp m).standing 38 1 = false ∧
    (x.judgeTemp m).standing 38 2 = false ∧ (x.judgeTemp m).mode = x.mode ∧ (x.judgeTemp m).life = x.life ∧
    ∀ off, (x.judgeTemp m).rd off = x.rd off := by
  obtain ⟨hmode, hlife, hrd⟩ := endCause_keeps x 38 2
  obtain ⟨hmode', hlife', hrd'⟩ := endCause_keeps (x.endCause 38 2) 38 1
  rw [judgeTemp_cool h]
  exact ⟨standing_endCause _ _ _, standing_endCause_of _ _ _ (standing_endCause _ _ _), hmode'.trans hmode,
    hlife'.trans hlife, fun off => (hrd' off).trans (hrd off)⟩

/-- The fault of a temperature at 130 °C or above takes the device to SAFE with its own cause (R48). -/
theorem raiseTrig_safe (d : Dev) (hsafe : d.mode.cur ≠ .safe) (hdown : d.mode.cur ≠ .windDown) :
    (d.raiseTrig 2 0x05).mode.cur = .safe ∧ (d.raiseTrig 2 0x05).mode.lastCause = 0x05 := by
  unfold Dev.raiseTrig
  dsimp only
  rw [raiseWith_noUnit _ _ _ _ (by decide)]
  obtain ⟨hcur, -, hcause, -⟩ := raise_safe_mode d.free.2 ⟨false, some 0x05, none, true⟩ 38 2
    (BitVec.ofNat 32 d.free.1) (Or.inr ⟨rfl, rfl⟩) rfl hsafe hdown
  exact ⟨hcur, hcause⟩

/-- The HOLD-class fault of a temperature at 120 °C or above changes no mode in SAFE. -/
theorem raiseTrig_hold_safe (d : Dev) (hsafe : d.mode.cur = .safe) : (d.raiseTrig 1 0x04).mode = d.mode := by
  have hidle : d.free.2.exposing = false := by
    show (d.mode.cur == .calibrate || d.mode.cur == .build) = false
    rw [hsafe]
    rfl
  unfold Dev.raiseTrig
  dsimp only
  rw [raiseWith_noUnit _ _ _ _ (by decide)]
  exact raise_hold_idle d.free.2 ⟨false, some 0x04, none, true⟩ 38 1 _ (Or.inr ⟨rfl, rfl⟩) hidle

/-- Once the device is in SAFE, the lower threshold, crossed too or not, changes no mode. -/
theorem holdTrig_mode {y : Dev} (c : Prop) [Decidable c] (hsafe : y.mode.cur = .safe) :
    (if c then y.raiseTrig 1 0x04 else y).mode = y.mode := by
  split
  · exact raiseTrig_hold_safe y hsafe
  · rfl

/-- At 130 °C or above, from every mode but SAFE and WIND-DOWN. -/
theorem judgeTemp_hot {x : Dev} {m : Int} (hm : 2080 ≤ m) (hnew : x.standing 38 2 = false) (hsafe : x.mode.cur ≠ .safe)
    (hdown : x.mode.cur ≠ .windDown) :
    (x.judgeTemp m).mode.cur = .safe ∧ (x.judgeTemp m).mode.lastCause = 0x05 := by
  obtain ⟨hcur, hcause⟩ := raiseTrig_safe x hsafe hdown
  have hcrossed : 2080 ≤ m ∧ (!x.standing 38 2) = true := ⟨hm, by simp [hnew]⟩
  have hwarm : ¬ m < 2000 := by omega
  have hcool : ¬ m < 1840 := by omega
  unfold Dev.judgeTemp
  simp only [if_pos hcrossed, if_neg hwarm, if_neg hcool]
  generalize x.raiseTrig 2 0x05 = y at hcur hcause
  rw [holdTrig_mode _ hcur]
  exact ⟨hcur, hcause⟩

/-- Settles O11: each end of a condition by its command, a thermal sample by `exec_thermalSample`. -/
theorem conditionsEnd : Obligations.ConditionsEnd := by
  refine ⟨fun r mv s ha hlow hhigh => ?_, fun s ha => ?_, fun s ha hdue hsafe hpf => ?_, fun s ha hdone => ?_,
    fun a b c e s ha hcool => ?_, fun a s ha hlow hhigh hnew hsafe hdown => ?_⟩
  · obtain ⟨hrails, hmode⟩ := supplyBack_keeps s.dev r mv
    refine ⟨_, exec_supplyRestored ha hlow hhigh, ⟨rfl, rfl⟩, hrails, fun hall => ?_, hmode⟩
    show (Dev.supplyBack _ _ _).standing 38 3 = false
    rw [Dev.supplyBack, if_pos hall]
    exact standing_endCause _ _ _
  · exact ⟨_, on_awake s (fun d => (d.setBit CLK_STATUS 0 true).endCause 35 1) ha, ⟨rfl, rfl⟩, Dev.rd_wr_same _ _ _,
      standing_endCause _ _ _, rfl⟩
  · rw [exec_safeWorkSettle ha]
    have hdue' : ¬ ((!s.dev.flt.settleDue) = true ∨ s.dev.mode.cur ≠ .safe ∨ s.dev.flt.pfail = true) := by
      simp [hdue, hsafe, hpf]
    exact congrArg (fun d => Host.Outcome.next { s with dev := d }) (if_neg hdue')
  · have hdone' : (!s.dev.flt.settleDue) = true := by simp [hdone]
    rw [exec_safeWorkSettle ha]
    exact congrArg (fun d => Host.Outcome.next { s with dev := d }) (if_pos (Or.inl hdone'))
  · have hvalid : ∀ v ∈ [a, b, c, e], tjValid v = true := fun v hv => by
      obtain ⟨hl, hh⟩ := hcool v hv
      exact tjValid_of hl (by omega)
    obtain ⟨m, hmax, hm⟩ := tjMax_of_valid hvalid
    have hexec := exec_thermalSample ha hmax
    obtain ⟨hshowmax, hfirst, hlast⟩ :=
      showTemps_shows (d := s.dev) b c m (hvalid a (List.mem_cons_self ..)) (hvalid e (by simp))
    obtain ⟨-, hmode, hbin⟩ := showTemps_keeps s.dev a b c e m
    generalize s.dev.showTemps a b c e m = x at hexec hshowmax hfirst hlast hmode hbin
    obtain ⟨hhold, hsafe, hjmode, hjlife, hjrd⟩ := judgeTemp_cool_keeps (x := x) (hcool m hm).2
    generalize x.judgeTemp m = y at hexec hhold hsafe hjmode hjlife hjrd
    exact ⟨_, m, hmax, hexec, ⟨rfl, rfl⟩, (hjrd _).trans hshowmax, (hjrd _).trans hfirst, (hjrd _).trans hlast,
      (congrArg Life.tjHist hjlife).trans hbin, hhold, hsafe, hjmode.trans hmode⟩
  · have hvalid := tjValid_of (show -800 ≤ a by omega) hhigh
    have hmax : tjMax [a, a, a, a] = some a := by simp [tjMax, hvalid]
    obtain ⟨hflt, hmode, -⟩ := showTemps_keeps s.dev a a a a a
    have hexec := exec_thermalSample ha hmax
    generalize s.dev.showTemps a a a a a = x at hexec hflt hmode
    have hnone : x.standing 38 2 = false := by rw [← hnew, Dev.standing, hflt, Dev.standing]
    exact ⟨_, hexec, ⟨rfl, rfl⟩, judgeTemp_hot hlow hnone (by rwa [hmode]) (by rwa [hmode])⟩

end Sys2Proof.Machine
end

section
/-! SUPPORT. ERR_N, ghost traffic, the history registers, the fault commands and injection: O12 (R470, R471, R473, R474,
R483, R485, R489). -/

namespace Sys2Proof.Machine

/-! ## Acknowledgement (R470) -/

/-- A cause that an acknowledgement leaves live is acknowledged, where it is named, and its condition lasts. -/
theorem ackFaults_live {d : Dev} {hit : Nat → Nat → Bool} {l : Live} (hl : l ∈ (d.ackFaults hit).flt.live)
    (hhit : hit l.src l.cause = true) : l.acked = true ∧ l.ended = false := by
  obtain ⟨hmem, hkept⟩ := List.mem_filter.mp hl
  obtain ⟨l', -, rfl⟩ := List.mem_map.mp hmem
  by_cases h : hit l'.src l'.cause = true
  · simp_all
  · rw [if_neg h] at hhit
    exact absurd hhit h

/-- With no fault of the same cycle, no acknowledged cause stands unacknowledged again. -/
theorem ackFaults_loses_none (d : Dev) (hit : Nat → Nat → Bool) :
    (d.flt.live.filter (fun l => hit l.src l.cause)).filter
      (fun l => (d.ackFaults hit).flt.live.any (fun x => x.src == l.src && x.cause == l.cause && !x.acked)) = [] := by
  rw [List.filter_eq_nil_iff]
  intro l hl hany
  obtain ⟨x, hx, hsame⟩ := List.any_eq_true.mp hany
  simp only [Bool.and_eq_true, beq_iff_eq, Bool.not_eq_true'] at hsame
  obtain ⟨⟨hsrc, hcause⟩, hopen⟩ := hsame
  have hhit : hit x.src x.cause = true := by rw [hsrc, hcause]; exact (List.mem_filter.mp hl).2
  rw [(ackFaults_live hx hhit).1] at hopen
  cases hopen

theorem raiseAll_nil (d : Dev) : Dev.raiseAll [] d = d := by rw [Dev.raiseAll.eq_2 _ _ (by intros; simp_all)]

/-- What FAULT_ACK names. -/
def ackHit (r : Req) (src cause : Nat) : Bool :=
  r.a0 == 0xFFFFFFFF || (src == r.a0.get 0 6 && cause == r.a0.get 8 8)

theorem faultAck_effect {q : Req} {e : Env} (d : Dev) (hvals : e.vals = []) :
    cmdFaultAck.effect q e d = (d.ackFaults (ackHit q)).ok q (d.ackFaults (ackHit q)).flt.live.length 0 0 0 := by
  unfold cmdFaultAck
  dsimp -zeta only
  extract_lets hit acked d1 lost d2
  have hd1 : d1 = d.ackFaults hit := by
    show Dev.raiseAll e.vals (d.ackFaults hit) = _
    rw [hvals, raiseAll_nil]
  have hlost : lost = [] := by
    show acked.filter (fun l => d1.flt.live.any _) = _
    rw [hd1]
    exact ackFaults_loses_none d hit
  have hd2 : d2 = d.ackFaults hit := by
    show lost.foldl _ d1 = _
    rw [hlost, hd1, List.foldl_nil]
  rw [hd2]
  rfl

/-! ## The sticky records (R471) -/

/-- Bits cleared in registers, one after the other. -/
def Dev.clearBits (d : Dev) (l : List (Nat × Word)) : Dev := l.foldl (fun d b => d.wr b.1 (d.rd b.1 &&& ~~~b.2)) d

theorem hostSide_clearBits (d : Dev) (l : List (Nat × Word)) : HostSide d (d.clearBits l) :=
  foldl_keeps HostSide HostSide.refl (fun _ _ _ => HostSide.trans) _ (fun _ _ => hostSide_wr ..) l d

/-- A bit that is 0 stays 0. -/
theorem rd_clearBits_zero {off : Nat} {m : Word} (l : List (Nat × Word)) :
    ∀ d : Dev, d.rd off &&& m = 0 → (d.clearBits l).rd off &&& m = 0 := by
  induction l with
  | nil => exact fun d h => h
  | cons b l ih =>
    intro d h
    refine ih _ ?_
    by_cases hoff : off = b.1
    · rw [hoff, Dev.rd_wr_same, ← hoff, BitVec.and_assoc, BitVec.and_comm (~~~b.2), ← BitVec.and_assoc, h]
      exact BitVec.zero_and
    · rwa [Dev.rd_wr_other _ _ _ _ hoff]

/-- The bits of an entry are 0 after it. -/
theorem rd_clearBits {off : Nat} {m : Word} {l : List (Nat × Word)} (hmem : (off, m) ∈ l) :
    ∀ d : Dev, (d.clearBits l).rd off &&& m = 0 := by
  induction l with
  | nil => cases hmem
  | cons b l ih =>
    intro d
    rcases List.mem_cons.mp hmem with rfl | hmem
    · refine rd_clearBits_zero l _ ?_
      rw [Dev.rd_wr_same, BitVec.and_assoc, BitVec.and_comm _ m, BitVec.and_not_self]
      exact BitVec.and_zero
    · exact ih hmem _

theorem popCount_zero : popCount 0 = 0 := by decide

theorem lostSticky_none {d : Dev} {off : Nat} {m : Word} (h : d.rd off &&& m = 0) : d.lostSticky off m = d := by
  unfold Dev.lostSticky
  dsimp only
  rw [h, popCount_zero, Dev.lostClear_none]

/-- The history forgotten with its count, where FAULT_CLEAR asks for it. -/
def Dev.forgetHist (d : Dev) (hist : Bool) : Dev :=
  if hist then ({ d with flt := { d.flt with hist := [], seq := 0 } }).wr FLT_HIST_CNT 0 else d

theorem forgetHist_keeps (d : Dev) (hist : Bool) : (d.forgetHist hist).flt.live = d.flt.live ∧
    (d.forgetHist hist).flt.hist = (if hist then [] else d.flt.hist) ∧
    ∀ off, off ≠ FLT_HIST_CNT → (d.forgetHist hist).rd off = d.rd off := by
  cases hist with
  | false => exact ⟨rfl, rfl, fun _ _ => rfl⟩
  | true => exact ⟨rfl, rfl, fun off hoff => Dev.rd_wr_other _ _ _ _ hoff⟩

/-- After FAULT_CLEAR has cleared, every bit it names is 0. -/
theorem rd_cleared {off : Nat} {m : Word} (d : Dev) (hist : Bool) (hmem : (off, m) ∈ clearedBits)
    (hoff : off ≠ FLT_HIST_CNT) : ((d.clearBits clearedBits).forgetHist hist).rd off &&& m = 0 := by
  obtain ⟨-, -, hrd⟩ := forgetHist_keeps (d.clearBits clearedBits) hist
  rw [hrd _ hoff]
  exact rd_clearBits hmem d

/-- A whole register among them reads 0. -/
theorem rd_cleared_all {off : Nat} (d : Dev) (hist : Bool) (hmem : (off, BitVec.allOnes 32) ∈ clearedBits)
    (hoff : off ≠ FLT_HIST_CNT) : ((d.clearBits clearedBits).forgetHist hist).rd off = 0 := by
  have h := rd_cleared d hist hmem hoff
  rwa [BitVec.and_allOnes] at h

/-- With no fault of the same cycle no clear is lost. -/
theorem faultClear_effect {q : Req} {e : Env} (d : Dev) (hvals : e.vals = []) :
    cmdFaultClear.effect q e d = ((d.clearBits clearedBits).forgetHist (q.a0.bit 0)).ok q 0 0 0 0 := by
  have hseen (k : Nat) (hk : k < 2) : (FLT_SEEN k, BitVec.allOnes 32) ∈ clearedBits := by
    rcases (by omega : k = 0 ∨ k = 1) with rfl | rfl <;> simp [clearedBits]
  have hseen0 := rd_cleared d (q.a0.bit 0) (hseen 0 (by decide)) (by decide)
  have hseen1 := rd_cleared d (q.a0.bit 0) (hseen 1 (by decide)) (by decide)
  have hrec := rd_cleared (off := REC_STATUS) (m := 0x40000000) d (q.a0.bit 0) (by simp [clearedBits]) (by decide)
  have hsafe := rd_cleared_all (off := FLT_FIRST_SAFE) d (q.a0.bit 0) (by simp [clearedBits]) (by decide)
  have hhold := rd_cleared_all (off := FLT_FIRST_HOLD) d (q.a0.bit 0) (by simp [clearedBits]) (by decide)
  show Dev.ok (List.foldl _ (Dev.lostSticky (List.foldl _ (Dev.raiseAll e.vals
    ((d.clearBits clearedBits).forgetHist (q.a0.bit 0))) _) _ _) _) q 0 0 0 0 = _
  rw [hvals]
  generalize (d.clearBits clearedBits).forgetHist (q.a0.bit 0) = y at *
  have hbit (off : Nat) (h : y.rd off = 0) : y.bit off 16 = false := by
    rw [Dev.bit, h]
    rfl
  simp only [raiseAll_nil, List.foldl_cons, List.foldl_nil, lostSticky_none hseen0, lostSticky_none hseen1,
    lostSticky_none hrec, hbit _ hsafe, hbit _ hhold, Bool.false_eq_true, if_false]

/-! ## The history registers (R473) -/

/-- Words written one after the other to registers at different offsets. -/
theorem rd_foldl_wr {f : Nat → Nat} {w : Nat → Word} (hf : f.Injective) (l : List Nat) :
    ∀ d : Dev, (∀ i ∈ l, (l.foldl (fun d i => d.wr (f i) (w i)) d).rd (f i) = w i) ∧
      ∀ off, (∀ i ∈ l, off ≠ f i) → (l.foldl (fun d i => d.wr (f i) (w i)) d).rd off = d.rd off := by
  induction l with
  | nil => exact fun d => ⟨fun i hi => absurd hi (List.not_mem_nil), fun _ _ => rfl⟩
  | cons k l ih =>
    intro d
    obtain ⟨hin, hout⟩ := ih (d.wr (f k) (w k))
    refine ⟨fun i hi => ?_, fun off hoff => ?_⟩
    · by_cases hl : i ∈ l
      · exact hin i hl
      · obtain rfl : i = k := (List.mem_cons.mp hi).resolve_right hl
        rw [List.foldl_cons, hout _ (fun j hj heq => hl (by rwa [hf heq])), Dev.rd_wr_same]
    · rw [List.foldl_cons, hout off (fun i hi => hoff i (List.mem_cons_of_mem _ hi)),
        Dev.rd_wr_other _ _ _ _ (hoff k (List.mem_cons_self ..))]

/-- The words of a history entry are those of the queue; a write of a register leaves them. -/
theorem histWords_wr (d : Dev) (off : Nat) (w : Word) (k : Nat) : (d.wr off w).histWords k = d.histWords k := by
  unfold Dev.histWords
  rfl

/-- The words of a history entry, copied: the queue they come from stays, so each is the word of the start. -/
theorem histSelect_fold {ws : List Word} {k : Nat} (l : List Nat) : ∀ d : Dev, d.histWords k = ws →
    l.foldl (fun d i => d.wr (FLT_HIST_D i) ((d.histWords k).getD i 0)) d =
      l.foldl (fun x i => x.wr (FLT_HIST_D i) (ws.getD i 0)) d := by
  induction l with
  | nil => exact fun _ _ => rfl
  | cons i l ih =>
    intro d hws
    rw [List.foldl_cons, List.foldl_cons, hws]
    exact ih _ ((histWords_wr ..).trans hws)

/-- Entry k in FLT_HIST_D0 to D4. -/
def Dev.showHist (d : Dev) (k : Nat) : Dev :=
  (List.range 5).foldl (fun x i => x.wr (FLT_HIST_D i) ((d.histWords k).getD i 0)) d

theorem exec_histSelect (k : Fin 32) {s : State} (hu : Up s) : 
    exec (.histSelect k) s = .next { s with dev := s.dev.showHist k } := by
  show execHistSelect k s = _
  unfold execHistSelect
  rw [whenUp_up s _ hu, histSelect_fold _ _ rfl]
  rfl

/-! ## Injection (R485) -/

/-- An injected NOTE-class fault that is not promoted is recorded as injected, and takes no reaction. -/
theorem raise_injected_note {d : Dev} {src cause : Nat} {p : Word} (hclass : d.faultClass src cause p = some .note)
    (hpromotes : d.promotes src .note = false) :
    d.raiseHow ⟨true, none, none, true⟩ src cause p = d.recordFault true src cause p .note false := by
  unfold Dev.raiseHow How.classOf
  simp only [hclass, hpromotes, Bool.false_eq_true, if_false, if_true, Dev.react]

/-- An injection that fires is counted and completes. -/
def Dev.injected (d : Dev) (q : Req) : Dev :=
  (Dev.injStatus { d with flt := { d.flt with injCount := d.flt.injCount + 1 } }).ok q d.flt.seq 0 0 0

theorem injected_keeps (d : Dev) (q : Req) :
    (d.injected q).flt = { d.flt with injCount := d.flt.injCount + 1 } ∧ (d.injected q).mode = d.mode := by
  obtain ⟨_, _, _, _, h⟩ : HostSide { d with flt := { d.flt with injCount := d.flt.injCount + 1 } } (d.injected q) :=
    (hostSide_wr ..).trans (hostSide_ok ..)
  rw [h]
  exact ⟨rfl, rfl⟩

/-- The device at the instant of an injection, which is spent. -/
def Dev.atInjection (d : Dev) (i : Inject) : Dev :=
  { d with tb3 := Nat.max d.tb3 i.at_, flt := { d.flt with inj := none } }

theorem fireInject_note {d : Dev} {i : Inject} (hclass : d.faultClass i.src i.cause i.payload = some .note)
    (hpromotes : d.promotes i.src .note = false)
    (hunit : ∀ u, unitOfSource i.src = some u → d.fencedUnit u = false) :
    Dev.fireInject { d with tb3 := Nat.max d.tb3 i.at_ } i false =
      ((d.atInjection i).recordFault true i.src i.cause i.payload .note false).injected i.req := by
  have hfenced : (match unitOfSource i.src with
      | some u => (d.atInjection i).fencedUnit u && !false
      | none => false) = false := by
    cases hsrc : unitOfSource i.src with
    | none => rfl
    | some u => exact (Bool.and_true _).trans (hunit u hsrc)
  have hraise := raise_injected_note (d := d.atInjection i) hclass hpromotes
  show (if (match unitOfSource i.src with
      | some u => (d.atInjection i).fencedUnit u && !false
      | none => false) = true then _ else Dev.injected (Dev.raiseHow _ _ _ _ _) _) = _
  rw [hfenced]
  exact congrArg (fun y => Dev.injected y i.req) hraise

theorem exec_faultInjectFire {i : Inject} {s : State} (ha : Awake s) (hinj : s.dev.flt.inj = some i) :
    exec (.faultInjectFire none) s =
      .next { s with dev := Dev.fireInject { s.dev with tb3 := Nat.max s.dev.tb3 i.at_ } i false } := by
  show execFaultInjectFire none s = _
  unfold execFaultInjectFire
  rw [on_awake _ _ ha, hinj]

/-- FAULT_INJECT with an instant to come arms the injection. -/
theorem faultInject_armed {q : Req} {e : Env} (d : Dev) (hat : q.a1.toNat + q.a2.toNat * 2 ^ 32 ≠ 0) :
    HostSide { d with flt := { d.flt with
        inj := some ⟨q.a0.get 0 6, q.a0.get 8 8, q.a1.toNat + q.a2.toNat * 2 ^ 32, q.a3, q⟩
        injSrc := q.a0.get 0 6, injCause := q.a0.get 8 8 } } (cmdFaultInject.effect q e d) := by
  show HostSide _ (if q.a1.toNat + q.a2.toNat * 2 ^ 32 = 0 then _ else Dev.injStatus _)
  rw [if_neg hat]
  exact hostSide_wr ..

/-! ## ERR_N and ghost traffic (R474, R483) -/

/-- Traffic within 1 ms of the last report is counted, and reported no further. -/
theorem ghost_counted {d : Dev} {u k last : Nat} {g : Ghost} (hg : d.flt.ghosts.find? (fun g => g.unit == u) = some g)
    (hlast : g.last = some last) (hsoon : d.tb3 < last + perMs) :
    d.ghost u k = { d.count FLT_GHOST_CNT k with flt := { d.flt with
      ghosts := ⟨u, g.count + k, g.last⟩ :: d.flt.ghosts.filter (fun g => g.unit != u) } } := by
  unfold Dev.ghost
  extract_lets d1 g1 rest n due
  have hflt : d1.flt = d.flt := rfl
  have hg1 : g1 = g := by
    show (d1.flt.ghosts.find? _).getD _ = g
    rw [hflt, hg]
    rfl
  have hdue : due = false := by
    have htb : d1.tb3 = d.tb3 := rfl
    show (match g1.last with | none => true | some t => decide (t + perMs ≤ d1.tb3)) = false
    rw [hg1, hlast, htb]
    exact decide_eq_false (by omega)
  rw [hdue, if_neg (by decide)]
  show ({ d1 with flt := { d1.flt with ghosts := ⟨u, g1.count + k, g1.last⟩ :: rest } } : Dev) = _
  rw [hg1]
  rfl

/-- The pulse on ERR_N ends, and the ERR_LEVELs that waited for it complete. -/
def Dev.pulseEnded (d : Dev) (levels : List Req) : Dev :=
  levels.foldl (fun d q => d.ok q 0 0 0 0) { d with flt := { d.flt with pulse := none, levels := [] } }

theorem exec_errNPulseEnd_pulse {s : State} {t : Nat} (ha : Awake s) (hpulse : s.dev.flt.pulse = some t) :
    exec .errNPulseEnd s = .next { s with dev := (s.dev.advanceTo t).pulseEnded s.dev.flt.levels } := by
  obtain ⟨tb0, tb3, time, htime⟩ := advanceTo_eq s.dev t
  have hflt : (s.dev.advanceTo t).flt = s.dev.flt := by rw [htime]
  show execErrNPulseEnd s = _
  unfold execErrNPulseEnd
  rw [on_awake _ _ ha, hpulse, ← hflt]
  rfl

/-! ## The statement -/

/-- Settles O12: the acknowledgement by `ackFaults_live`, the clear by `rd_clearBits`, the injection by
`fireInject_note`; the other commands complete as their rows say. -/
theorem faultCommands : Obligations.FaultCommands := by
  refine ⟨fun s ha hpulse => ?_, fun t s d ha hpulse hd => ?_, fun u k last g s ha hunit hg hlast hsoon => ?_,
    fun k s hu => ?_, fun r e s => ⟨fun h hvals => ?_, fun h hvals => ?_, fun h hpulse => ?_, fun h hpulse => ?_,
      fun h => ?_, fun h => ?_⟩, fun r e s h hat => ?_, fun i s ha hinj hclass hpromotes hunit => ?_⟩
  · show execErrNPulseEnd s = _
    unfold execErrNPulseEnd
    refine on_same ?_
    rw [hpulse]
  · rw [hd]
    exact exec_errNPulseEnd_pulse ha hpulse
  · have hghost := ghost_counted (k := k) hg hlast hsoon
    have hexec : exec (.ghostTraffic u k) s = .next { s with dev := s.dev.ghost u k } :=
      (on_awake s _ ha).trans (congrArg (fun d => Host.Outcome.next { s with dev := d }) (if_pos hunit))
    rw [hghost] at hexec
    exact ⟨_, hexec, ⟨rfl, rfl⟩, Dev.rd_wr_same _ _ _, rfl, rfl⟩
  · have hinj : Function.Injective FLT_HIST_D := fun i j h => by unfold FLT_HIST_D at h; omega
    obtain ⟨hin, hout⟩ := rd_foldl_wr (w := fun i => (s.dev.histWords k).getD i 0) hinj (List.range 5) s.dev
    have hside : HostSide s.dev (s.dev.showHist k) :=
      foldl_keeps HostSide HostSide.refl (fun _ _ _ => HostSide.trans) _ (fun _ _ => hostSide_wr ..) _ _
    exact ⟨_, exec_histSelect k hu, ⟨rfl, rfl⟩, fun i hi => hin i (List.mem_range.mpr hi),
      fun off hoff => hout off (fun i hi => hoff i (List.mem_range.mp hi)), hside.flt_eq⟩
  · have hexec := command_takes s 0x0B01 cmdFaultAck r e h
    rw [faultAck_effect _ hvals] at hexec
    refine ⟨_, rfl, hexec, fun hall l hl => ackFaults_live hl ?_⟩
    simp [hall]
  · have hexec := command_takes s 0x0B02 cmdFaultClear r e h
    rw [faultClear_effect _ hvals] at hexec
    have hclear (off : Nat) (hmem : (off, BitVec.allOnes 32) ∈ clearedBits) (hoff : off ≠ FLT_HIST_CNT) :=
      rd_cleared_all (started s 0x0B02 r) ((asOp 0x0B02 r).a0.bit 0) hmem hoff
    have hstart : ((started s 0x0B02 r).clearBits clearedBits).flt = s.dev.flt :=
      ((hostSide_started s 0x0B02 r).trans (hostSide_clearBits _ _)).flt_eq
    obtain ⟨hlive, hhist, -⟩ := forgetHist_keeps ((started s 0x0B02 r).clearBits clearedBits) ((asOp 0x0B02 r).a0.bit 0)
    generalize ((started s 0x0B02 r).clearBits clearedBits).forgetHist ((asOp 0x0B02 r).a0.bit 0) = y at *
    have hok := hostSide_ok y (asOp 0x0B02 r) 0 0 0 0
    have hrd (off : Nat) : (y.ok (asOp 0x0B02 r) 0 0 0 0).rd off = y.rd off := rd_congr (regs_ok ..) hok.variant_eq off
    refine ⟨_, hexec, ⟨rfl, rfl⟩, (hrd _).trans (hclear _ (by simp [clearedBits]) (by decide)),
      (hrd _).trans (hclear _ (by simp [clearedBits]) (by decide)),
      (hrd _).trans (hclear _ (by simp [clearedBits]) (by decide)),
      (hrd _).trans (hclear _ (by simp [clearedBits]) (by decide)),
      (hrd _).trans (hclear _ (by simp [clearedBits]) (by decide)), ?_, ?_⟩
    · show (y.ok _ 0 0 0 0).flt.hist = _
      rw [hok.flt_eq, hhist, hstart]
      rfl
    · show (y.ok _ 0 0 0 0).flt.live = _
      rw [hok.flt_eq, hlive, hstart]
  · refine (command_takes s 0x0B05 cmdErrLevel r e h).trans (congrArg (fun d => Host.Outcome.next { s with dev := d }) ?_)
    exact if_pos (Option.isNone_iff_eq_none.mpr hpulse)
  · refine (command_takes s 0x0B05 cmdErrLevel r e h).trans (congrArg (fun d => Host.Outcome.next { s with dev := d }) ?_)
    exact if_neg (fun hnone => hpulse (Option.isNone_iff_eq_none.mp hnone))
  · exact command_takes s 0x0B80 cmdFaultQuery r e h
  · exact command_takes s 0x0B81 cmdHistRead r e h
  · have hexec := command_takes s 0x0B03 cmdFaultInject r e h
    obtain ⟨_, _, _, _, harmed⟩ := faultInject_armed (q := asOp 0x0B03 r) (e := e) (started s 0x0B03 r) hat
    rw [harmed] at hexec
    exact ⟨_, hexec, ⟨rfl, rfl⟩, rfl, rfl, rfl⟩
  · have hexec := exec_faultInjectFire ha hinj
    rw [fireInject_note hclass hpromotes hunit] at hexec
    have hflt := recordFault_flt (s.dev.atInjection i) true i.src i.cause i.payload .note false
    have hmode := (recorded_recordFault (s.dev.atInjection i) true i.src i.cause i.payload .note false).sameMode
    obtain ⟨h, hh⟩ : ∃ h, h = (s.dev.atInjection i).histOf true i.src i.cause i.payload .note false := ⟨_, rfl⟩
    rw [← hh] at hflt
    generalize (s.dev.atInjection i).recordFault true i.src i.cause i.payload .note false = y at hexec hflt hmode
    obtain ⟨hyflt, hymode⟩ := injected_keeps y i.req
    refine ⟨_, h, hexec, ⟨rfl, rfl⟩, ?_⟩
    show (y.injected i.req).flt.inj = _ ∧ (y.injected i.req).flt.injCount = _ ∧ (y.injected i.req).flt.hist = _ ∧ _ ∧ _ ∧ _ ∧
      (y.injected i.req).mode = _
    rw [hyflt, hymode, hflt, hh]
    exact ⟨rfl, rfl, rfl, rfl, rfl, rfl, hmode⟩

end Sys2Proof.Machine
end

section
/-! SUPPORT. What a field and a bit of a register read after another one has been set. -/

namespace Sys2Proof.Machine

theorem fld_setFld_same (d : Dev) (off lo n v : Nat) (h : lo + n ≤ 32) : (d.setFld off lo n v).fld off lo n = v % 2 ^ n := by
  rw [Dev.fld, Dev.setFld, Dev.rd_wr_same, Word.get_put_same _ _ _ _ h]

theorem fld_setFld_apart (d : Dev) (off lo n v : Nat) {lo' n' : Nat} (h : lo' + n' ≤ 32)
    (hapart : lo' + n' ≤ lo ∨ lo + n ≤ lo') : (d.setFld off lo n v).fld off lo' n' = d.fld off lo' n' := by
  rw [Dev.fld, Dev.setFld, Dev.rd_wr_same, Word.get_put_apart _ _ _ _ _ _ h hapart, Dev.fld]

theorem bit_setFld_apart (d : Dev) (off lo n v : Nat) {i : Nat} (hi : i < 32) (hapart : i < lo ∨ lo + n ≤ i) :
    (d.setFld off lo n v).bit off i = d.bit off i := by
  rw [Dev.bit, Dev.setFld, Dev.rd_wr_same, Word.bit_put _ _ _ _ _ hi, if_neg (by omega), Dev.bit]

theorem fld_setBit_clear (d : Dev) (off i : Nat) (b : Bool) {lo n : Nat} (h : lo + n ≤ 32)
    (hapart : i < lo ∨ lo + n ≤ i) : (d.setBit off i b).fld off lo n = d.fld off lo n := by
  rw [Dev.fld, Dev.setBit, Dev.rd_wr_same, Word.putBit, Word.get_put_apart _ _ _ _ _ _ h (by omega), Dev.fld]

theorem bit_other {d e : Dev} {off : Nat} (h : d.rd off = e.rd off) (i : Nat) : d.bit off i = e.bit off i := by
  rw [Dev.bit, h, Dev.bit]

theorem fld_other {d e : Dev} {off : Nat} (h : d.rd off = e.rd off) (lo n : Nat) : d.fld off lo n = e.fld off lo n := by
  rw [Dev.fld, h, Dev.fld]

end Sys2Proof.Machine
end

section
/-! SUPPORT. The DRAM controller: training, refresh, temperature, power-down and scrub, and O42 (R348, R355 to R357, R360,
R362). -/

namespace Sys2Proof.Machine

/-! ## Training starts (R348) -/

/-- The status word of a training that runs. -/
def trainingWord (w : Word) : Word := (w.put 0 4 1).put 5 7 0

theorem trainingWord_state (w : Word) : (trainingWord w).get 0 3 = 1 := by
  have hfour : (trainingWord w).get 0 4 = 1 := by
    rw [trainingWord, Word.get_put_apart _ _ _ _ _ _ (by decide) (Or.inl (by decide)), Word.get_put_same _ _ _ _ (by decide)]
    rfl
  simp only [Word.get, bitsAt, Nat.shiftRight_zero] at hfour ⊢
  omega

/-- The device in which a training has just begun. -/
def Dev.trainBegun (d : Dev) : Dev :=
  ((d.wr DRAM_STATUS (trainingWord (d.rd DRAM_STATUS))).dramLose).modDram
    (fun m => { m with training := true, queue := [], open_ := [] })

theorem exec_dramTrain {s : State} (hu : Up s) (hmode : s.dev.mode.cur = .configure) (hidle : s.dev.dram.training = false) :
    exec .dramTrain s = .next { s with dev := s.dev.trainBegun, mem := [] } := by
  obtain ⟨hboot, hpf⟩ := hu
  exact if_neg (by simp [hmode, hidle, hpf]; omega)

theorem exec_dramTrain_refused {s : State} (h : s.dev.mode.cur ≠ .configure ∨ s.dev.dram.training = true) :
    exec .dramTrain s = .next s := if_pos (by tauto)

/-! ## Training ends (R348, R362) -/

theorem DRAM_TRAIN_injective : Function.Injective (fun k => DRAM_TRAIN (k / 5) (k % 5)) := by
  intro i j h
  simp only [DRAM_TRAIN] at h
  omega

/-- The results of a training in their registers. -/
def Dev.trainShown (d : Dev) (a : DramTrain) : Dev :=
  (List.range 20).foldl (fun d k => d.wr (DRAM_TRAIN (k / 5) (k % 5)) (a.results.getD k 0))
    (d.modDram (fun m => { m with training := false }))

theorem hostSide_trainShown (d : Dev) (a : DramTrain) :
    HostSide (d.modDram (fun m => { m with training := false })) (d.trainShown a) :=
  foldl_keeps HostSide HostSide.refl (fun _ _ _ => HostSide.trans) _ (fun _ _ => hostSide_wr ..) _ _

theorem rd_trainShown_same (d : Dev) (a : DramTrain) {k : Nat} (hk : k < 20) :
    (d.trainShown a).rd (DRAM_TRAIN (k / 5) (k % 5)) = a.results.getD k 0 :=
  (rd_foldl_wr (w := fun k => a.results.getD k 0) DRAM_TRAIN_injective (List.range 20) _).1 k (List.mem_range.mpr hk)

theorem rd_trainShown_other (d : Dev) (a : DramTrain) {off : Nat} (hoff : off < 0x41000) :
    (d.trainShown a).rd off = d.rd off :=
  (rd_foldl_wr (w := fun k => a.results.getD k 0) DRAM_TRAIN_injective (List.range 20) _).2 off
    (fun k _ => by simp only [DRAM_TRAIN]; omega)

/-- The ranks as a training leaves them: none refreshes or is powered down, and their refreshes are spread (log entry 52). -/
def Dev.ranksFresh (d : Dev) : Dev := d.modDram (fun m => { m with
  down := List.replicate 8 false, refUntil := List.replicate 8 0
  refAt := (List.range 8).map (fun r => d.tb3 + (r + 1) * (d.trefi / 8)) })

theorem ranksFresh_keeps (d : Dev) : d.ranksFresh.mode = d.mode ∧ d.ranksFresh.dram.training = d.dram.training ∧
    ∀ off, d.ranksFresh.rd off = d.rd off := ⟨rfl, rfl, fun _ => rfl⟩

/-- The map's rules look at four registers. -/
theorem mapOk_congr {a b : Dev} (h : ∀ off < 0x41000, a.rd off = b.rd off) : a.mapOk = b.mapOk := by
  have hbytes : a.dramBytes = b.dramBytes := by
    unfold Dev.dramBytes Dev.bit
    rw [h DRAM_GEOM (by decide)]
  unfold Dev.mapOk Dev.rd64 Dev.fld
  rw [hbytes, h DRAM_BASIN_BASE_LO (by decide), h DRAM_BASIN_BASE_HI (by decide), h DRAM_BASIN_SIZE (by decide)]

/-- The device once a training has ended well: its results shown, its ranks fresh. -/
def Dev.trained (d : Dev) (a : DramTrain) : Dev := (d.trainShown a).ranksFresh

theorem trained_keeps (d : Dev) (a : DramTrain) : (d.trained a).mode = d.mode ∧ (d.trained a).dram.training = false ∧
    (d.trained a).mapOk = d.mapOk ∧ ∀ k, k < 20 → (d.trained a).rd (DRAM_TRAIN (k / 5) (k % 5)) = a.results.getD k 0 := by
  obtain ⟨hmode, htraining, hrd⟩ := ranksFresh_keeps (d.trainShown a)
  obtain ⟨_, _, _, _, hside⟩ := hostSide_trainShown d a
  refine ⟨hmode.trans (by rw [hside]; rfl), htraining.trans (by rw [hside]; rfl), ?_, fun k hk => ?_⟩
  · exact mapOk_congr (fun off hoff => (hrd off).trans (rd_trainShown_other d a hoff))
  · exact (hrd _).trans (rd_trainShown_same d a hk)

/-- DRAM is ready. -/
def Dev.dramUp (d : Dev) : Dev :=
  { d.setFld DRAM_STATUS 0 3 4 with mode := { (d.setFld DRAM_STATUS 0 3 4).mode with dram := true } }

theorem dramUp_keeps (d : Dev) : d.dramUp.dramState = 4 ∧ d.dramUp.dram = d.dram ∧ d.dramUp.mode.dram = true ∧
    ∀ off, off ≠ DRAM_STATUS → d.dramUp.rd off = d.rd off :=
  ⟨fld_setFld_same d DRAM_STATUS 0 3 4 (by decide), rfl, rfl, fun _ hoff => rd_setFld_other d _ _ _ _ hoff⟩

/-- The map that DRAM was trained with breaks the rules: STATE 3 (log entry 51). -/
def Dev.mapBad (d : Dev) : Dev := (d.setFld DRAM_STATUS 0 3 3).setBit DRAM_STATUS 5 true

theorem mapBad_keeps (d : Dev) : d.mapBad.dramState = 3 ∧ d.mapBad.bit DRAM_STATUS 5 = true ∧ d.mapBad.dram = d.dram ∧
    d.mapBad.mode = d.mode := by
  refine ⟨?_, bit_setBit_same _ _ _ _ (by decide), rfl, rfl⟩
  unfold Dev.mapBad Dev.dramState
  rw [fld_setBit_clear _ _ _ _ (by decide) (by decide), fld_setFld_same _ _ _ _ _ (by decide)]
  rfl

/-- The subchannel and lane that a training failed on are shown, and DRAM is untrained. -/
def Dev.laneFailed (d : Dev) (sc lane : Nat) (geomBad : Bool) : Dev :=
  ((((d.setFld DRAM_STATUS 7 2 sc).setFld DRAM_STATUS 9 3 lane).setBit DRAM_STATUS 6 true).setBit DRAM_STATUS 3
    geomBad).setFld DRAM_STATUS 0 3 0

theorem laneFailed_shows (d : Dev) {sc lane : Nat} (geomBad : Bool) (hsc : sc < 4) (hlane : lane < 8) :
    (d.laneFailed sc lane geomBad).dramState = 0 ∧ (d.laneFailed sc lane geomBad).bit DRAM_STATUS 6 = true ∧
    (d.laneFailed sc lane geomBad).fld DRAM_STATUS 7 2 = sc ∧ (d.laneFailed sc lane geomBad).fld DRAM_STATUS 9 3 = lane ∧
    (d.laneFailed sc lane geomBad).bit DRAM_STATUS 3 = geomBad := by
  unfold Dev.laneFailed Dev.dramState
  refine ⟨fld_setFld_same _ _ _ _ _ (by decide), ?_, ?_, ?_, ?_⟩
  · rw [bit_setFld_apart _ _ _ _ _ (by decide) (by decide), bit_setBit_apart _ _ _ _ _ (by decide) (by decide),
      bit_setBit_same _ _ _ _ (by decide)]
  · rw [fld_setFld_apart _ _ _ _ _ (by decide) (by decide), fld_setBit_clear _ _ _ _ (by decide) (by decide),
      fld_setBit_clear _ _ _ _ (by decide) (by decide), fld_setFld_apart _ _ _ _ _ (by decide) (by decide),
      fld_setFld_same _ _ _ _ _ (by decide), Nat.mod_eq_of_lt (by omega)]
  · rw [fld_setFld_apart _ _ _ _ _ (by decide) (by decide), fld_setBit_clear _ _ _ _ (by decide) (by decide),
      fld_setBit_clear _ _ _ _ (by decide) (by decide), fld_setFld_same _ _ _ _ _ (by decide), Nat.mod_eq_of_lt (by omega)]
  · rw [bit_setFld_apart _ _ _ _ _ (by decide) (by decide), bit_setBit_same _ _ _ _ (by decide)]

theorem laneFailed_keeps (d : Dev) (sc lane : Nat) (geomBad : Bool) : (d.laneFailed sc lane geomBad).dram = d.dram ∧
    (d.laneFailed sc lane geomBad).mode = d.mode := ⟨rfl, rfl⟩

theorem trainShown_keeps (d : Dev) (a : DramTrain) : (d.trainShown a).dram.training = false ∧
    (d.trainShown a).mode = d.mode := by
  obtain ⟨_, _, _, _, hside⟩ := hostSide_trainShown d a
  rw [hside]
  exact ⟨rfl, rfl⟩

section
variable {a : DramTrain} {s : State}

theorem exec_dramTrainDone_idle (h : s.dev.dram.training = false) : exec (.dramTrainDone a) s = .next s := if_pos (Or.inr h)

variable (ha : Awake s) (hrun : s.dev.dram.training = true)
include ha hrun

/-- A training that runs ends: the branches of its answer. -/
theorem exec_dramTrainDone : exec (.dramTrainDone a) s = .next { s with
    dev := match a.fail with
      | some (sc, lane) => ((s.dev.trainShown a).laneFailed sc lane a.geomBad).fault 27 5
      | none => if (s.dev.trained a).mapOk then (s.dev.trained a).dramUp else (s.dev.trained a).mapBad.fault 27 7
    mem := [] } := by
  have hend : ¬ (s.dev.mode.boot = 0 ∨ s.dev.dram.training = false) := by
    rw [hrun]
    exact fun h => h.elim ha (by decide)
  show execDramTrainDone a s = _
  unfold execDramTrainDone
  rw [if_neg hend]
  unfold State.onMem
  dsimp only
  cases a.fail with
  | some x => rfl
  | none =>
    have hend {c : Prop} [Decidable c] {x y : Dev} : (Host.Outcome.next
        { s with dev := (if c then (x, ([] : List Host.Cell)) else (y, [])).1, mem := (if c then (x, ([] : List Host.Cell)) else (y, [])).2 }
        : Host.Outcome State Fault Refusal) = .next { s with dev := if c then x else y, mem := [] } := by
      split <;> rfl
    exact hend

end

/-! ## Refresh, power-down and scrub (R355 to R357, R360) -/

/-- Rank r takes its refresh now: its rows close, and it is kept for tRFC. -/
def Dev.refreshed (d : Dev) (r : Nat) : Dev := d.modDram (fun m => { m with
  refUntil := m.refUntil.set r (d.tb3 + (if d.bit DRAM_GEOM 1 then 410 * 16 else 295 * 16))
  refAt := m.refAt.set r (m.refAt.getD r 0 + d.trefi)
  open_ := m.open_.filter (fun b => b.1 / 32 != r) })

section
variable {s : State} (ha : Awake s)
include ha

theorem exec_refresh {r : Fin 8} (hrun : s.dev.rankRuns r = true) :
    exec (.refresh r) s = .next { s with dev := (s.dev.advanceTo (s.dev.dram.refAt.getD r 0)).refreshed r } := by
  show execRefresh r s = _
  unfold execRefresh
  rw [on_awake _ _ ha]
  have hgo : ¬ (!s.dev.rankRuns r) = true := by simp [hrun]
  exact congrArg (fun d => Host.Outcome.next { s with dev := d }) (if_neg hgo)

theorem exec_mr4Poll (hot : Bool) (hrun : 3 ≤ s.dev.dramState) :
    exec (.mr4Poll hot) s = .next { s with dev :=
      (if hot && !s.dev.bit DRAM_STATUS 4 then (s.dev.setBit DRAM_STATUS 4 hot).fault 27 6
        else s.dev.setBit DRAM_STATUS 4 hot) } := by
  show execMr4Poll hot s = _
  unfold execMr4Poll
  have hgo : ¬ s.dev.dramState < 3 := by omega
  rw [on_awake _ _ ha]
  exact congrArg (fun d => Host.Outcome.next { s with dev := d }) (if_neg hgo)

theorem exec_powerDownEntry {r : Fin 8} (hrun : s.dev.rankRuns r = true) (hpwr : s.dev.fld DRAM_PWR 0 16 ≠ 0)
    (hidle : ∀ w ∈ s.dev.dram.queue, (s.dev.dramLoc w.req.addr.toNat).rs ≠ r) :
    exec (.powerDownEntry r) s = .next { s with dev := s.dev.modDram (fun m => { m with down := m.down.set r true }) } := by
  have hgo : ¬ (!s.dev.rankRuns r || s.dev.fld DRAM_PWR 0 16 == 0 ||
      s.dev.dram.queue.any (fun w => (s.dev.dramLoc w.req.addr.toNat).rs == r.val)) = true := by
    simpa [hrun, hpwr] using hidle
  show execPowerDownEntry r s = _
  unfold execPowerDownEntry
  rw [on_awake _ _ ha]
  exact congrArg (fun d => Host.Outcome.next { s with dev := d }) (if_neg hgo)

end

/-- A request waits for rank r. -/
theorem rankBusy_iff (d : Dev) (r : Nat) : d.dram.queue.any (fun w => (d.dramLoc w.req.addr.toNat).rs == r) = true ↔
    ∃ w ∈ d.dram.queue, (d.dramLoc w.req.addr.toNat).rs = r := by
  simp

/-- The burst at an offset is opened for a read of the scrubber. -/
def Dev.scrubOpened (d : Dev) (a : Nat) : Dev := d.modDram (fun r => { r with
  down := r.down.set (d.dramLoc a).rs false, open_ := bankSet r.open_ (d.dramLoc a).bank (d.dramLoc a).row })

theorem exec_scrubRead {off : BitVec 36} {ecc : Ecc} {s : State} (ha : Awake s) (hrun : 3 ≤ s.dev.dramState)
    (hon : s.dev.bit DRAM_SCRUB 31 = true) (hin : off.toNat < s.dev.dramBytes) :
    exec (.scrubRead off ecc) s = .next { s with dev := match ecc with
      | .clean => s.dev.scrubOpened off.toNat
      | .corrected => (s.dev.scrubOpened off.toNat).dramCorrected
      | .uncorrectable => ((s.dev.scrubOpened off.toNat).dramUe off.toNat).fault 27 3 } := by
  show execScrubRead off ecc s = _
  unfold execScrubRead
  rw [on_awake _ _ ha]
  dsimp only
  rw [if_neg (by simp [hon]; omega)]
  refine congrArg (fun d => Host.Outcome.next { s with dev := d }) ?_
  cases ecc with
  | clean => exact if_neg (by decide)
  | corrected => exact if_neg (by decide)
  | uncorrectable => exact if_pos rfl

theorem exec_scrubRead_idle {off : BitVec 36} {ecc : Ecc} {s : State}
    (h : s.dev.dramState < 3 ∨ (!s.dev.bit DRAM_SCRUB 31) = true ∨ s.dev.dramBytes ≤ off.toNat) :
    exec (.scrubRead off ecc) s = .next s := by
  show execScrubRead off ecc s = _
  unfold execScrubRead
  exact on_same (if_pos h)

theorem exec_powerDownEntry_idle {r : Fin 8} {s : State} (h : (!s.dev.rankRuns r || s.dev.fld DRAM_PWR 0 16 == 0 ||
      s.dev.dram.queue.any (fun w => (s.dev.dramLoc w.req.addr.toNat).rs == r.val)) = true) :
    exec (.powerDownEntry r) s = .next s := by
  show execPowerDownEntry r s = _
  unfold execPowerDownEntry
  exact on_same (if_pos h)

theorem exec_refresh_idle {r : Fin 8} {s : State} (h : s.dev.rankRuns r = false) : exec (.refresh r) s = .next s := by
  have hstop : (!s.dev.rankRuns r) = true := by simp [h]
  show execRefresh r s = _
  unfold execRefresh
  exact on_same (if_pos hstop)

theorem exec_mr4Poll_idle {hot : Bool} {s : State} (h : s.dev.dramState < 3) : exec (.mr4Poll hot) s = .next s := by
  show execMr4Poll hot s = _
  unfold execMr4Poll
  exact on_same (if_pos h)

/-! ## The statement -/

/-- Settles O42: each end of a training by `exec_dramTrainDone`; refresh, temperature, power-down and scrub by their
branches. That a refresh closes the rows of its rank is log entry 52, STATE 3 of a bad map log entry 51, and the memory a
training leaves log entry 53. -/
theorem dramTrains : Obligations.DramTrains := by
  refine ⟨fun s hu hmode hidle => ?_, fun s h => exec_dramTrain_refused h, fun a s ha hrun hfail hok => ?_,
    fun a s ha hrun hfail hok => ?_, fun a s sc lane ha hrun hfail => ?_, fun a s h => exec_dramTrainDone_idle h,
    fun r s d ha hrun hd => ?_, fun r s hrun => ⟨exec_refresh_idle hrun, exec_powerDownEntry_idle ?_⟩,
    fun off ecc hot s h => ⟨exec_scrubRead_idle (Or.inl h), exec_mr4Poll_idle h⟩,
    fun off ecc s h => ?_, fun hot s ha hrun => exec_mr4Poll ha hot hrun, fun r s ha hrun hpwr hidle => ?_,
    fun r s h => ?_, fun off ecc s ha hrun hon hin => ?_⟩
  · exact ⟨_, exec_dramTrain hu hmode hidle, rfl, rfl, (congrArg (Word.get · 0 3) (Dev.rd_wr_same _ _ _)).trans
      (trainingWord_state _), rfl, rfl, rfl, rfl, rfl⟩
  · have hexec := exec_dramTrainDone (a := a) ha hrun
    obtain ⟨-, htraining, hmap, hrd⟩ := trained_keeps s.dev a
    rw [hfail] at hexec
    dsimp only at hexec
    rw [if_pos (hmap.trans hok)] at hexec
    obtain ⟨hstate, hdram, hup, hother⟩ := dramUp_keeps (s.dev.trained a)
    generalize s.dev.trained a = y at *
    refine ⟨_, hexec, rfl, rfl, hstate, (congrArg Dram.training hdram).trans htraining, hup, fun k hk => ?_⟩
    exact (hother _ (by simp only [DRAM_TRAIN, DRAM_STATUS]; omega)).trans (hrd k hk)
  · have hexec := exec_dramTrainDone (a := a) ha hrun
    obtain ⟨hmode, htraining, hmap, -⟩ := trained_keeps s.dev a
    rw [hfail] at hexec
    dsimp only at hexec
    rw [if_neg (by rw [hmap, hok]; decide)] at hexec
    obtain ⟨hstate, hbit, hdram, hmode'⟩ := mapBad_keeps (s.dev.trained a)
    generalize s.dev.trained a = y at *
    exact ⟨_, hexec, hstate, hbit, (congrArg Dram.training hdram).trans htraining, hmode'.trans hmode⟩
  · have hexec := exec_dramTrainDone (a := a) ha hrun
    obtain ⟨htraining, hmode⟩ := trainShown_keeps s.dev a
    rw [hfail] at hexec
    generalize s.dev.trainShown a = y at *
    obtain ⟨hstate, hbit, hsc, hlane, hgeom⟩ := laneFailed_shows y (sc := sc) (lane := lane) a.geomBad (by omega) (by omega)
    obtain ⟨hdram, hmode'⟩ := laneFailed_keeps y sc lane a.geomBad
    exact ⟨_, hexec, hstate, hbit, hsc, hlane, hgeom, (congrArg Dram.training hdram).trans htraining, hmode'.trans hmode⟩
  · obtain ⟨_, _, _, htime⟩ := advanceTo_eq s.dev (s.dev.dram.refAt.getD r 0)
    rw [exec_refresh ha hrun, ← hd]
    rw [← hd] at htime
    have hgeom : d.bit DRAM_GEOM 1 = s.dev.bit DRAM_GEOM 1 := by rw [htime]; rfl
    have hhot : d.trefi = s.dev.trefi := by rw [htime]; rfl
    have hdram : d.dram = s.dev.dram := by rw [htime]
    unfold Dev.refreshed
    rw [hgeom, hhot]
    unfold Dev.modDram
    rw [hdram]
    rfl
  · simp [hrun]
  · refine exec_scrubRead_idle (Or.inr (h.imp (fun hoff => ?_) id))
    rw [hoff]
    rfl
  · exact exec_powerDownEntry ha hrun hpwr hidle
  · refine exec_powerDownEntry_idle ?_
    rcases h with hoff | hbusy
    · simp [hoff]
    · simp only [(rankBusy_iff s.dev r).mpr hbusy, Bool.or_true]
  · exact ⟨s.dev.scrubOpened off.toNat, exec_scrubRead ha hrun hon hin, rfl, rfl⟩

end Sys2Proof.Machine
end

section
/-! SUPPORT. Which request the DRAM controller serves and what it does: O43 (R352, R359, R364). -/

namespace Sys2Proof.Machine

/-! ## The choice of a request (R352, R353) -/

/-- A request that may be served waits, and no older one is to its burst. -/
theorem dramReady_spec {d : Dev} {sc i : Nat} {w : DramWait} {l : DramLoc} (h : d.dramReady sc i = some (w, l)) :
    d.dram.queue[i]? = some w ∧
    (d.dram.queue.take i).any (fun o => o.req.addr.toNat / 64 == w.req.addr.toNat / 64) = false := by
  unfold Dev.dramReady at h
  split at h
  · cases h
  · next v hv =>
    dsimp only at h
    split at h
    · next hready =>
      obtain ⟨-, -, hfirst⟩ := hready
      obtain ⟨rfl, -⟩ := Prod.mk.inj (Option.some.inj h)
      exact ⟨hv, (Bool.not_eq_true' _).mp hfirst⟩
    · cases h

/-- The requests that subchannel sc may serve, oldest first, with their positions. -/
def Dev.dramCands (d : Dev) (sc : Nat) : List (Nat × DramReq × DramLoc) :=
  (List.range d.dram.queue.length).filterMap (fun i => (d.dramReady sc i).map (fun x => (i, x.1.req, x.2)))

theorem mem_dramCands {d : Dev} {sc : Nat} {x : Nat × DramReq × DramLoc} :
    x ∈ d.dramCands sc ↔ ∃ w, d.dramReady sc x.1 = some (w, x.2.2) ∧ w.req = x.2.1 := by
  obtain ⟨i, q, l⟩ := x
  simp only [Dev.dramCands, List.mem_filterMap, List.mem_range, Option.map_eq_some_iff, Prod.exists, Prod.mk.injEq]
  constructor
  · rintro ⟨j, -, w, k, hready, rfl, rfl, rfl⟩
    exact ⟨w, hready, rfl⟩
  · rintro ⟨w, hready, rfl⟩
    obtain ⟨hlt, -⟩ := List.getElem?_eq_some_iff.mp (dramReady_spec hready).1
    exact ⟨i, hlt, w, l, hready, rfl, rfl, rfl⟩

theorem foldl_min_le_start {α : Type} (f : α → Nat) (l : List α) (m : Nat) :
    l.foldl (fun m x => Nat.min m (f x)) m ≤ m :=
  foldl_keeps (fun a b => b ≤ a) (fun _ => Nat.le_refl _) (fun _ _ _ h k => Nat.le_trans k h) _
    (fun _ _ => Nat.min_le_left _ _) l m

/-- The minimum over a list is below each of its terms. -/
theorem foldl_min_le {α : Type} (f : α → Nat) {x : α} : ∀ (l : List α) (m : Nat), x ∈ l →
    l.foldl (fun m x => Nat.min m (f x)) m ≤ f x
  | y :: l, m, hx => by
    rcases List.mem_cons.mp hx with rfl | hx
    · exact Nat.le_trans (foldl_min_le_start f l _) (Nat.min_le_right _ _)
    · exact foldl_min_le f l _ hx

/-- The best class among the requests that may be served. -/
def Dev.dramPrio (d : Dev) (sc : Nat) : Nat := (d.dramCands sc).foldl (fun m x => Nat.min m x.2.1.prio.val) 4

/-- What a subchannel picks may be served; where its slot is not reserved it is of the best class. -/
theorem dramPick_spec {d : Dev} {sc i : Nat} {res : Bool} (h : d.dramPick sc = some (i, res)) :
    ∃ w l, d.dramReady sc i = some (w, l) ∧ (res = false → w.req.prio.val = d.dramPrio sc) := by
  have hcand {x : Nat × DramReq × DramLoc} (hx : x ∈ d.dramCands sc) :
      ∃ w l, d.dramReady sc x.1 = some (w, l) ∧ w.req = x.2.1 := by
    obtain ⟨w, hready, hreq⟩ := mem_dramCands.mp hx
    exact ⟨w, _, hready, hreq⟩
  have htop {x : Nat × DramReq × DramLoc}
      (hx : x ∈ (d.dramCands sc).filter (fun x => x.2.1.prio.val == d.dramPrio sc)) :
      ∃ w l, d.dramReady sc x.1 = some (w, l) ∧ w.req.prio.val = d.dramPrio sc := by
    obtain ⟨hx, hprio⟩ := List.mem_filter.mp hx
    obtain ⟨w, l, hready, hreq⟩ := hcand hx
    exact ⟨w, l, hready, by rw [hreq]; exact beq_iff_eq.mp hprio⟩
  unfold Dev.dramPick at h
  dsimp only at h
  split at h
  · obtain ⟨x, hx, heq⟩ := Option.map_eq_some_iff.mp h
    obtain ⟨rfl, rfl⟩ := Prod.mk.inj heq
    obtain ⟨w, l, hready, -⟩ := hcand (List.mem_of_mem_filter (List.mem_of_find?_eq_some hx))
    exact ⟨w, l, hready, fun hres => by cases hres⟩
  · split at h
    · next x hx =>
      obtain ⟨rfl, rfl⟩ := Prod.mk.inj (Option.some.inj h)
      obtain ⟨w, l, hready, hprio⟩ := htop (List.mem_of_find?_eq_some hx)
      exact ⟨w, l, hready, fun _ => hprio⟩
    · obtain ⟨x, hx, heq⟩ := Option.map_eq_some_iff.mp h
      obtain ⟨rfl, rfl⟩ := Prod.mk.inj heq
      obtain ⟨w, l, hready, hprio⟩ := htop (List.mem_of_head? hx)
      exact ⟨w, l, hready, fun _ => hprio⟩

/-! ## Service -/

section
variable {arrive : List DramReq} {sc : Fin 4} {s : State} {d : Dev}

theorem exec_dramRequest_down (h : s.dev.dramState < 3) : exec (.dramRequest arrive sc) s = .next s := if_pos (Or.inr h)

variable (ha : Awake s) (hrun : 3 ≤ s.dev.dramState)
  (hd : d = s.dev.modDram (fun r => { r with queue := r.queue ++ arrive.map (fun q => DramWait.mk q s.dev.tb3) }))
include ha hrun hd

theorem exec_dramRequest_serves {i : Nat} {res : Bool} (hpick : d.dramPick sc = some (i, res)) :
    exec (.dramRequest arrive sc) s =
      .next { s with dev := (d.dramServe sc i res s.mem).1, mem := (d.dramServe sc i res s.mem).2 } := by
  have hgo : ¬ (s.dev.mode.boot = 0 ∨ s.dev.dramState < 3) := fun h => h.elim ha (by omega)
  show execDramRequest arrive sc s = _
  unfold execDramRequest State.onMem
  dsimp only
  rw [if_neg hgo, ← hd, hpick]

theorem exec_dramRequest_waits (hpick : d.dramPick sc = none) :
    exec (.dramRequest arrive sc) s = .next { s with dev := d } := by
  have hgo : ¬ (s.dev.mode.boot = 0 ∨ s.dev.dramState < 3) := fun h => h.elim ha (by omega)
  show execDramRequest arrive sc s = _
  unfold execDramRequest State.onMem
  dsimp only
  rw [if_neg hgo, ← hd, hpick]

end

/-- A served write leaves the queue and is stored, at its mirror too. -/
theorem dramServe_write {d : Dev} {i : Nat} {w : DramWait} {bs : List Byte} (sc : Nat) (res : Bool) (m : List Host.Cell)
    (hw : d.dram.queue[i]? = some w) (hdata : w.req.data = some bs) (hfit : w.req.addr.toNat % 64 + bs.length ≤ 64) :
    (d.dramServe sc i res m).1.dram.queue = d.dram.queue.eraseIdx i ∧ (d.dramServe sc i res m).1.regs = d.regs ∧
    (d.dramServe sc i res m).2 = writeCopies w.req.use m w.req.addr.toNat bs := by
  have htake : bs.take (64 - w.req.addr.toNat % 64) = bs := List.take_of_length_le (by omega)
  unfold Dev.dramServe
  rw [hw]
  dsimp only
  rw [hdata]
  dsimp only
  rw [htake]
  exact ⟨rfl, rfl, rfl⟩

/-- A byte after a write: one of those written, or as it was. -/
theorem memRead_memWrite (m : List Host.Cell) (a : Nat) (bs : List Byte) (i : Nat) :
    memRead (memWrite m a bs) i = if a ≤ i ∧ i < a + bs.length then bs.getD (i - a) 0 else memRead m i := by
  split
  · next hin =>
    obtain ⟨j, rfl⟩ : ∃ j, i = a + j := ⟨i - a, by omega⟩
    have hj : j < bs.length := by omega
    rw [memRead_write_inside m a j bs hj, Nat.add_sub_cancel_left, List.getD_eq_getElem _ _ hj]
  · exact memRead_write_outside _ _ _ _ (by omega)

/-! ## Time-out (R364) -/

section
variable {sc : Fin 4} {s : State}

theorem exec_dramTimeout (ha : Awake s) {i : Nat} {w : DramWait}
    (hfind : s.dev.dram.queue.findIdx? (fun v => (s.dev.dramLoc v.req.addr.toNat).sc == sc.val) = some i)
    (hw : s.dev.dram.queue[i]? = some w) {d : Dev}
    (hd : d = (((s.dev.advanceTo (w.at_ + 50 * perUs)).modDram
      (fun r => { r with queue := r.queue.eraseIdx i })).fault 27 4)) :
    exec (.dramTimeout sc) s = .next { s with dev := if w.req.data.isSome then d else d.badRead w.req } := by
  show execDramTimeout sc s = _
  unfold execDramTimeout
  rw [on_awake _ _ ha, hfind]
  dsimp only
  rw [hw]
  dsimp only
  rw [← hd]

theorem exec_dramTimeout_none (h : ∀ w ∈ s.dev.dram.queue, (s.dev.dramLoc w.req.addr.toNat).sc ≠ sc.val) :
    exec (.dramTimeout sc) s = .next s := by
  have hfind : s.dev.dram.queue.findIdx? (fun v => (s.dev.dramLoc v.req.addr.toNat).sc == sc.val) = none :=
    List.findIdx?_eq_none_iff.mpr (fun w hw => by simpa using h w hw)
  show execDramTimeout sc s = _
  unfold execDramTimeout
  refine on_same ?_
  rw [hfind]

end

/-- Settles O43: the choice by `dramPick_spec`, a stored write by `dramServe_write`, the time-out by its branches. -/
theorem dramServes : Obligations.DramServes := by
  refine ⟨fun arrive sc s d ha hrun hd => ⟨fun i res hpick => exec_dramRequest_serves ha hrun hd hpick,
      fun hpick => exec_dramRequest_waits ha hrun hd hpick⟩, fun arrive sc s h => exec_dramRequest_down h,
    fun d sc i hpick => ?_, fun d sc i res w hpick hw j v hj hv => ?_, fun d sc i res m w bs _ hw hdata hfit => ?_,
    fun sc s i w d ha hfind hw hd => exec_dramTimeout ha hfind hw hd, fun sc s h => exec_dramTimeout_none h⟩
  · obtain ⟨w, l, hready, hprio⟩ := dramPick_spec hpick
    refine ⟨w, l, hready, fun j v k hother => ?_⟩
    have hmem : (j, v.req, k) ∈ d.dramCands sc := mem_dramCands.mpr ⟨v, hother, rfl⟩
    have hle : d.dramPrio sc ≤ v.req.prio.val := foldl_min_le (fun x => x.2.1.prio.val) _ 4 hmem
    exact Fin.le_def.mpr ((hprio rfl).trans_le hle)
  · obtain ⟨w', l, hready, -⟩ := dramPick_spec hpick
    obtain ⟨hw', hfirst⟩ := dramReady_spec hready
    obtain rfl : w = w' := Option.some.inj (hw.symm.trans hw')
    have hmem : v ∈ d.dram.queue.take i := List.mem_of_getElem? ((List.getElem?_take_of_lt hj).trans hv)
    simpa using List.any_eq_false.mp hfirst v hmem
  · obtain ⟨hqueue, hregs, hmem⟩ := dramServe_write sc res m hw hdata hfit
    refine ⟨hqueue, hregs, fun a => ?_⟩
    rw [hmem, writeCopies]
    cases mirrorOf w.req.use w.req.addr.toNat with
    | none => exact memRead_memWrite ..
    | some c =>
      dsimp only
      rw [memRead_memWrite, memRead_memWrite]

end Sys2Proof.Machine
end

section
/-! SUPPORT. O44, which fails for want of a bound on what a replay has set aside (R51, R228, R379, R467). -/

namespace Sys2Proof.Machine

/-- A REPLAY_LAYER in progress. -/
def asideReplay : Req := ⟨0, 0, 0x0C20, 0, 0, 0, 0, 0, 0, 0, 0, 0, 0, 0, 0⟩

/-- An entry that member 1 has acknowledged. -/
def asideEntry : Sent := ⟨1, 0, 16, default, true, none, []⟩

/-- A device in SERVICE whose one member is device 1. A replay runs, which has set aside a lock keeper with an entry sent to
that member; the faults of the link are promoted to HOLD. -/
def asideDev : Dev := { State.reset.dev with
  mode := { ModeCtl.reset with boot := 4, cur := .service }
  regs := [(FLT_PROMOTE0, 0x20000000)]
  members := [1]
  replay := some ⟨asideReplay, [], [], 0, 0, 0, [], none, [], { (default : Keeper) with sent := [asideEntry] }⟩ }

theorem exec_memberLost {v : Fin 8} {s : State} (ha : Awake s) :
    exec (.memberLost v) s = .next { s with dev := s.dev.memberLost v false } := by
  show execMemberLost v s = _
  unfold execMemberLost
  exact on_awake s _ ha

/-- The loss of member 1 is a promoted fault, which stops the replay: what it set aside is in place again. -/
theorem memberLost_asideDev : (asideDev.memberLost (1 : Fin 8) false).keeper.sent = [asideEntry] := by decide +kernel

/-- Refutes O44: its clause on the loss of a member speaks of every state. In SERVICE a DEV_LOST that is promoted to HOLD
stops the replay in progress, whose lock keeper comes back, and with it the entry for the member that is lost. (That TOPO
goes out again where the peers changed is log entry 103, that lock definitions are kept whole log entry 60; those clauses
are not at issue.) -/
theorem not_membersJoinAndAreLost : ¬ Obligations.MembersJoinAndAreLost := by
  unfold Obligations.MembersJoinAndAreLost
  rintro ⟨-, -, -, -, hlost, -⟩
  have ha : Awake ⟨asideDev, [], []⟩ := show (4 : Nat) ≠ 0 by decide
  obtain ⟨t, hexec, -, -, -, hsent⟩ := hlost 1 ⟨asideDev, [], []⟩ ha (by decide)
  rw [exec_memberLost ha] at hexec
  have hdev := congrArg State.dev (Host.Outcome.next.inj hexec)
  dsimp only at hdev
  rw [← hdev, memberLost_asideDev] at hsent
  exact hsent asideEntry (List.mem_singleton_self _) rfl

end Sys2Proof.Machine
end

section
/-! SUPPORT. What a fault of class NOTE or HOLD leaves alone: time, motion, lamps, trims and all the units' own state; and
the bits of a register, which it can set alone (R87, R465, R467). -/

namespace Sys2Proof.Machine

/-- `b` differs from `a` at most in what a fault that asks at most for HOLD touches: the collector, the recorder, the host
interface, the Byoft link, the mode controller, and what a replay set aside. -/
def HeldSide (a b : Dev) : Prop :=
  ∃ regs rings hif rcd flt life byf out mode replay lay keeper engines free, b = { a with
    regs := regs, rings := rings, hif := hif, rcd := rcd, flt := flt, life := life, byf := byf, out := out
    mode := mode, replay := replay, lay := lay, keeper := keeper, engines := engines, freeCtr := free }

theorem HeldSide.refl (a : Dev) : HeldSide a a :=
  ⟨a.regs, a.rings, a.hif, a.rcd, a.flt, a.life, a.byf, a.out, a.mode, a.replay, a.lay, a.keeper, a.engines, a.freeCtr, rfl⟩

theorem HeldSide.trans {a b c : Dev} (h : HeldSide a b) (k : HeldSide b c) : HeldSide a c := by
  obtain ⟨_, _, _, _, _, _, _, _, _, _, _, _, _, _, rfl⟩ := h
  obtain ⟨_, _, _, _, _, _, _, _, _, _, _, _, _, _, rfl⟩ := k
  exact ⟨_, _, _, _, _, _, _, _, _, _, _, _, _, _, rfl⟩

theorem Recorded.held {a b : Dev} (h : Recorded a b) : HeldSide a b := by
  obtain ⟨_, _, _, _, _, _, _, _, rfl⟩ := h
  exact ⟨_, _, _, _, _, _, _, _, a.mode, a.replay, a.lay, a.keeper, a.engines, a.freeCtr, rfl⟩

theorem heldSide_mode (d : Dev) (m : ModeCtl) : HeldSide d { d with mode := m } :=
  ⟨d.regs, d.rings, d.hif, d.rcd, d.flt, d.life, d.byf, d.out, m, d.replay, d.lay, d.keeper, d.engines, d.freeCtr, rfl⟩

/-- What such a fault leaves of the device that the later chapters speak of. -/
theorem HeldSide.keeps {a b : Dev} (h : HeldSide a b) : b.variant = a.variant ∧ b.tb0 = a.tb0 ∧ b.tb3 = a.tb3 ∧
    b.time = a.time ∧ b.mot = a.mot ∧ b.ill = a.ill ∧ b.trim = a.trim ∧ b.bist = a.bist := by
  obtain ⟨_, _, _, _, _, _, _, _, _, _, _, _, _, _, rfl⟩ := h
  exact ⟨rfl, rfl, rfl, rfl, rfl, rfl, rfl, rfl⟩

/-! ## Bits that only rise -/

/-- Every bit set in the register at `off` stays set. -/
def RisesAt (off : Nat) (a b : Dev) : Prop := ∀ i, i < 32 → a.bit off i = true → b.bit off i = true

theorem RisesAt.refl (off : Nat) (a : Dev) : RisesAt off a a := fun _ _ h => h

theorem RisesAt.trans {off : Nat} {a b c : Dev} (h : RisesAt off a b) (k : RisesAt off b c) : RisesAt off a c :=
  fun i hi hset => k i hi (h i hi hset)

theorem risesAt_of_rd {off : Nat} {a b : Dev} (h : b.rd off = a.rd off) : RisesAt off a b := by
  intro i _ hset
  rwa [bit_other h]

theorem risesAt_of_regs (off : Nat) {a b : Dev} (hregs : b.regs = a.regs) (hvariant : b.variant = a.variant) :
    RisesAt off a b := risesAt_of_rd (rd_congr hregs hvariant off)

theorem risesAt_setBit (off : Nat) (d : Dev) (o j : Nat) : RisesAt off d (d.setBit o j true) := by
  intro i hi hset
  by_cases hoff : off = o
  · subst hoff
    by_cases hij : i = j
    · rw [hij]
      exact bit_setBit_same _ _ _ _ (by omega)
    · rwa [bit_setBit_apart _ _ _ _ _ hi hij]
  · rwa [bit_other (rd_setBit_other d _ _ _ hoff)]

theorem risesAt_wr_other {off o : Nat} (d : Dev) (w : Word) (h : off ≠ o) : RisesAt off d (d.wr o w) :=
  risesAt_of_rd (Dev.rd_wr_other _ _ _ _ h)

theorem risesAt_step {off : Nat} (c : Prop) [Decidable c] {a x y : Dev} (h : RisesAt off a y) (k : RisesAt off y x) :
    RisesAt off a (if c then x else y) := by
  split
  · exact h.trans k
  · exact h

theorem LinkSide.rises {a b : Dev} (off : Nat) (h : LinkSide a b) : RisesAt off a b := risesAt_of_rd (h.rd_eq off)

theorem risesAt_signal (off : Nat) (d : Dev) (lo : Nat) : RisesAt off d (d.signal lo) :=
  risesAt_of_regs off (regs_signal _ _) (hostSide_signal _ _).variant_eq

theorem risesAt_emit (off : Nat) (d : Dev) (src code : Nat) (p : List Byte) : RisesAt off d (d.emit src code p) :=
  RisesAt.trans (b := d.queueEvent ⟨d.tb3, d.devId, src, code, 0, pay p⟩) (risesAt_of_regs off rfl rfl)
    ((linkSide_ownEvent d _).rises off)

theorem risesAt_setErr (off : Nat) (d : Dev) (o j : Nat) : RisesAt off d (d.setErr o j) :=
  risesAt_step _ (risesAt_setBit off d o j) (risesAt_signal off _ _)

theorem risesAt_retire (off : Nat) (d : Dev) (q : Req) (st : Nat) : RisesAt off d (d.retire q st) := by
  have hring (f : Ring → Ring) : RisesAt off d (d.modRing q.ring f) := risesAt_of_regs off rfl rfl
  unfold Dev.retire
  dsimp only
  exact risesAt_step _ (hring _) ((risesAt_setBit off _ _ _).trans (risesAt_signal off _ _))

/-- A command that completes sets at most the stop bit of a ring (R87). -/
theorem risesAt_complete (off : Nat) (d : Dev) (q : Req) (st x : Nat) (b : List Byte) :
    RisesAt off d (d.complete q st x b) := by
  unfold Dev.complete
  dsimp only
  refine RisesAt.trans ?_ (risesAt_of_regs off (regs_putCqe _ _ _) (hostSide_putCqe _ _ _).variant_eq)
  exact (risesAt_step _ (RisesAt.refl off d) (risesAt_emit off d _ _ _)).trans (risesAt_retire off _ _ _)

/-! ## The record of a fault -/

/-- The registers of the collector that the record of a fault writes anew; in every other one it sets bits alone. -/
def notRewritten (off : Nat) : Prop := off ≠ FLT_HIST_CNT ∧ off ≠ FLT_FIRST_SAFE ∧ off ≠ FLT_FIRST_HOLD

theorem risesAt_enter {off : Nat} (hoff : notRewritten off) (d : Dev) (h : Hist) : RisesAt off d (d.enter h) := by
  obtain ⟨hcount, hsafe, hhold⟩ := hoff
  have hflt (f : Faults) : RisesAt off d { d with flt := f } := risesAt_of_regs off rfl rfl
  unfold Dev.enter
  dsimp only
  refine RisesAt.trans ?_ (risesAt_signal off _ _)
  refine risesAt_step _ ?_ (risesAt_wr_other _ _ hhold)
  refine risesAt_step _ ?_ (risesAt_wr_other _ _ hsafe)
  refine RisesAt.trans ?_ (risesAt_setBit off _ _ _)
  refine RisesAt.trans ?_ (risesAt_setBit off _ _ _)
  refine RisesAt.trans ?_ (risesAt_wr_other _ _ hcount)
  exact risesAt_step _ (hflt _) (risesAt_setBit off _ _ _)

theorem risesAt_recordFault {off : Nat} (hoff : notRewritten off) (d : Dev) (inj : Bool) (src cause : Nat) (p : Word)
    (c : Cls) (b : Bool) : RisesAt off d (d.recordFault inj src cause p c b) := by
  have hlife (x : Dev) (l : Life) : RisesAt off x { x with life := l } := risesAt_of_regs off rfl rfl
  have hflush (x : Dev) : RisesAt off x (x.faultFlush c) := by
    obtain ⟨_, h⟩ := faultFlush_eq x c
    rw [h]
    exact risesAt_of_regs off rfl rfl
  have hown (x : Dev) (e : Event) : RisesAt off x (x.ownEvent e) :=
    RisesAt.trans (b := x.queueEvent e) (risesAt_of_regs off rfl rfl) ((linkSide_ownEvent x e).rises off)
  have hinj : RisesAt off d (if (!inj && d.flt.inj.isSome) = true then d.setBit FLT_STATUS 5 true else d) :=
    risesAt_step _ (RisesAt.refl off d) (risesAt_setBit off _ _ _)
  unfold Dev.recordFault
  dsimp only
  refine RisesAt.trans ?_ (hflush _)
  refine RisesAt.trans ?_ (hlife _ _)
  refine RisesAt.trans ?_ (hown _ _)
  refine RisesAt.trans ?_ (risesAt_enter hoff _ _)
  refine risesAt_step _ ?_ (risesAt_setBit off _ _ _)
  split
  · exact hinj.trans (risesAt_setErr off _ _ _)
  · exact hinj

/-! ## The reaction of class HOLD -/

/-- What the stop of a replay puts back (R51). -/
def Dev.backFrom (d : Dev) (r : Replay) : Dev := { d with
  replay := none, lay := { d.lay with opened := r.opened, active := r.active }
  keeper := { r.keeper with peerQ := d.keeper.peerQ }
  engines := List.zipWith Engine.back d.engines r.engines }

theorem backFrom_held (d : Dev) (r : Replay) : HeldSide d (d.backFrom r) ∧ ∀ off, RisesAt off d (d.backFrom r) :=
  ⟨⟨d.regs, d.rings, d.hif, d.rcd, d.flt, d.life, d.byf, d.out, d.mode, _, _, _, _, d.freeCtr, rfl⟩,
    fun off => risesAt_of_regs off rfl rfl⟩

theorem stopReplay_held (d : Dev) : HeldSide d d.stopReplay ∧ ∀ off, RisesAt off d d.stopReplay := by
  cases hr : d.replay with
  | none =>
    have hsame : d.stopReplay = d := by
      unfold Dev.stopReplay Dev.endReplay
      rw [hr]
    rw [hsame]
    exact ⟨HeldSide.refl d, fun off => RisesAt.refl off d⟩
  | some r =>
    obtain ⟨hheld, hrises⟩ := backFrom_held d r
    rw [stopReplay_running hr]
    exact ⟨hheld.trans (recorded_complete _ _ _ _ _).held, fun off => (hrises off).trans (risesAt_complete off _ _ _ _ _)⟩

theorem holdTrigger_held (d : Dev) (trig : Nat) (atLayerEnd quiet : Bool) :
    HeldSide d (d.holdTrigger trig atLayerEnd quiet) ∧ ∀ off, RisesAt off d (d.holdTrigger trig atLayerEnd quiet) := by
  have hmode (x : Dev) (m : ModeCtl) : HeldSide x { x with mode := m } ∧ ∀ off, RisesAt off x { x with mode := m } :=
    ⟨heldSide_mode x m, fun off => risesAt_of_regs off rfl rfl⟩
  unfold Dev.holdTrigger
  split
  · exact stopReplay_held d
  · split
    · split
      · exact hmode d _
      · exact ⟨HeldSide.refl d, fun off => RisesAt.refl off d⟩
    · extract_lets d1 src d2
      have hleave : HeldSide d d1 ∧ ∀ off, RisesAt off d d1 := by
        show HeldSide d (match d.mode.leaveReq with | some q => d.fail q stAborted 0 | none => d) ∧
          ∀ off, RisesAt off d (match d.mode.leaveReq with | some q => d.fail q stAborted 0 | none => d)
        split
        · exact ⟨(recorded_complete _ _ _ _ _).held, fun off => risesAt_complete off _ _ _ _ _⟩
        · exact ⟨HeldSide.refl d, fun off => RisesAt.refl off d⟩
      obtain ⟨hheld, hrises⟩ := hleave
      obtain ⟨hheld', hrises'⟩ := hmode d1 d2.mode
      exact ⟨(hheld.trans hheld').trans (recorded_emit _ _ _ _).held,
        fun off => ((hrises off).trans (hrises' off)).trans (risesAt_emit off _ _ _ _)⟩

theorem react_held (d : Dev) (how : How) (src cause : Nat) (p : Word) {c : Cls} (hc : c = .note ∨ c = .hold) :
    HeldSide d (d.react how src cause p c) ∧ ∀ off, RisesAt off d (d.react how src cause p c) := by
  rcases hc with rfl | rfl
  · exact ⟨HeldSide.refl d, fun off => RisesAt.refl off d⟩
  · have hlive (b : Bool) : HeldSide d ((d.addLive src cause .hold b).errPulse) ∧
        ∀ off, RisesAt off d ((d.addLive src cause .hold b).errPulse) :=
      ⟨(recorded_flt d _).held, fun off => risesAt_of_regs off rfl rfl⟩
    obtain ⟨hheld, hrises⟩ := hlive (how.injected || !lasting src cause p)
    obtain ⟨hheld', hrises'⟩ := holdTrigger_held ((d.addLive src cause .hold (how.injected || !lasting src cause p)).errPulse)
      (how.trig.getD 0x03) (src == 28 && cause == 1 && !how.injected) (src == 29 && cause == 6)
    exact ⟨hheld.trans hheld', fun off => (hrises off).trans (hrises' off)⟩

/-! ## A report of class NOTE or HOLD -/

/-- The report's class, where it has one, is NOTE or HOLD. -/
def Mild (d : Dev) (how : How) (src cause : Nat) (p : Word) : Prop :=
  ∀ c, how.classOf d src cause p = some c → c = .note ∨ c = .hold

theorem raiseHow_held {d : Dev} {how : How} {src cause : Nat} {p : Word} (hc : Mild d how src cause p) :
    HeldSide d (d.raiseHow how src cause p) ∧ ∀ off, notRewritten off → RisesAt off d (d.raiseHow how src cause p) := by
  unfold Dev.raiseHow
  split
  · exact ⟨HeldSide.refl d, fun off _ => RisesAt.refl off d⟩
  · next c0 h0 =>
    extract_lets promoted c d1
    have hclass : c = .note ∨ c = .hold := by
      show (if promoted then Cls.hold else c0) = .note ∨ (if promoted then Cls.hold else c0) = .hold
      split
      · exact Or.inr rfl
      · exact hc c0 h0
    have hheld : HeldSide d d1 := (recorded_recordFault ..).held
    have hrises : ∀ off, notRewritten off → RisesAt off d d1 := fun off hoff => risesAt_recordFault hoff d _ _ _ _ _ _
    obtain ⟨hheld', hrises'⟩ := react_held d1 how src cause p hclass
    split
    · exact ⟨hheld.trans hheld', fun off hoff => (hrises off hoff).trans (hrises' off)⟩
    · exact ⟨hheld, hrises⟩

/-- A report of a source that is no unit leaves the units and lowers no bit. -/
theorem raise_held {d : Dev} {src cause : Nat} (p : Word) (hunit : unitOfSource src = none)
    (hc : Mild d How.real src cause p) :
    HeldSide d (d.raise src cause p) ∧ ∀ off, notRewritten off → RisesAt off d (d.raise src cause p) := by
  unfold Dev.raise
  rw [raiseWith_noUnit d _ cause p hunit]
  exact raiseHow_held hc

/-- So does a fault whose payload no chapter gives. -/
theorem fault_held {src cause : Nat} (d : Dev) (hunit : unitOfSource src = none)
    (hc : ∀ (x : Dev) (p : Word), Mild x How.real src cause p) :
    HeldSide d (d.fault src cause) ∧ ∀ off, notRewritten off → RisesAt off d (d.fault src cause) := by
  have hfree : HeldSide d d.free.2 := ⟨d.regs, d.rings, d.hif, d.rcd, d.flt, d.life, d.byf, d.out, d.mode, d.replay, d.lay,
    d.keeper, d.engines, _, rfl⟩
  obtain ⟨hheld, hrises⟩ := raise_held (d := d.free.2) (BitVec.ofNat 32 d.free.1) hunit (hc _ _)
  exact ⟨hfree.trans hheld, fun off hoff => (risesAt_of_regs off rfl rfl).trans (hrises off hoff)⟩

/-- The faults of the time unit but one are of class NOTE (R465). -/
theorem mild_time {cause : Nat} (hcause : cause ≠ 1) (d : Dev) (p : Word) : Mild d How.real 35 cause p := by
  intro c hc
  have hclass : How.real.classOf d 35 cause p =
      if cause = 1 then some Cls.safe else if 1 ≤ cause ∧ cause ≤ 8 then some .note else none := rfl
  rw [hclass, if_neg hcause] at hc
  split at hc <;> cases hc
  exact Or.inl rfl

end Sys2Proof.Machine
end

section
/-! SUPPORT. The time bases: counting, comparison, steps and snapshots, and O49 (R392 to R399, R401, R411). -/

namespace Sys2Proof.Machine

/-! ## What a release of the merge leaves of time (R35, R399) -/

/-- `b` has TB3 and the time unit of `a`. -/
def SameBases (a b : Dev) : Prop := b.tb3 = a.tb3 ∧ b.time = a.time

theorem SameBases.refl (a : Dev) : SameBases a a := ⟨rfl, rfl⟩

theorem SameBases.trans {a b c : Dev} (h : SameBases a b) (k : SameBases b c) : SameBases a c :=
  ⟨k.1.trans h.1, k.2.trans h.2⟩

theorem HeldSide.bases {a b : Dev} (h : HeldSide a b) : SameBases a b := by
  obtain ⟨-, -, htb3, htime, -⟩ := h.keeps
  exact ⟨htb3, htime⟩

theorem HostSide.bases {a b : Dev} (h : HostSide a b) : SameBases a b := h.recorded.held.bases

theorem sameBases_ite (c : Prop) [Decidable c] {a x y : Dev} (h : SameBases a x) (k : SameBases a y) :
    SameBases a (if c then x else y) := by split <;> assumption

theorem sameBases_foldl {β : Type} (f : Dev → β → Dev) (h : ∀ a b, SameBases a (f a b)) (l : List β) (a : Dev) :
    SameBases a (l.foldl f a) := foldl_keeps SameBases SameBases.refl (fun _ _ _ => SameBases.trans) f h l a

theorem hostSide_closeBuf (d : Dev) (n st : Nat) : HostSide d (d.closeBuf n st) := by
  unfold Dev.closeBuf
  split
  · exact HostSide.refl d
  · exact ((hostSide_modRing ..).trans (hostSide_modRing ..)).trans (hostSide_putCqe ..)

theorem hostSide_dropRec (d : Dev) (n : Nat) : HostSide d (d.dropRec n) := (hostSide_wr ..).trans (hostSide_modRing ..)

theorem hostSide_fillBufs (n : Nat) : ∀ (k : Nat) (d : Dev), HostSide d (Dev.fillBufs n k d)
  | 0, d => HostSide.refl d
  | k + 1, d => by
    unfold Dev.fillBufs
    dsimp only
    split
    · split
      · exact (hostSide_step _ ((hostSide_send ..).trans (hostSide_modRing ..)) (hostSide_closeBuf ..)).trans
          (hostSide_fillBufs n k _)
      · split
        · exact (hostSide_closeBuf ..).trans (hostSide_fillBufs n k _)
        · exact ((hostSide_modRing ..).trans (hostSide_dropRec ..)).trans (hostSide_fillBufs n k _)
    · exact HostSide.refl d

theorem hostSide_fillRing (d : Dev) (n : Nat) : HostSide d (d.fillRing n) :=
  hostSide_step _ (HostSide.refl d) (hostSide_fillBufs ..)

/-- The faults of the host interface are of class HOLD at most (R465). -/
theorem mild_host (d : Dev) (cause : Nat) (p : Word) : Mild d How.real 28 cause p := by
  intro c hc
  have hclass : How.real.classOf d 28 cause p =
      if cause = 1 then some Cls.hold else if 1 ≤ cause ∧ cause ≤ 3 then some .note else none := rfl
  rw [hclass] at hc
  split_ifs at hc <;> cases hc
  · exact Or.inr rfl
  · exact Or.inl rfl

/-- So are those of the recorder. -/
theorem mild_recorder (d : Dev) (cause : Nat) (p : Word) : Mild d How.real 36 cause p := by
  intro c hc
  by_cases hhold : cause = 1 ∨ cause = 2 ∨ cause = 5
  · have hclass : How.real.classOf d 36 cause p = some Cls.hold := by rcases hhold with rfl | rfl | rfl <;> rfl
    exact Or.inr (Option.some.inj (hc.symm.trans hclass))
  · have hclass : How.real.classOf d 36 cause p = if 1 ≤ cause ∧ cause ≤ 4 then some .note else none := by
      show Dev.faultClass d 36 cause p = _
      unfold Dev.faultClass
      simp only [Nat.reduceEqDiff, Nat.reduceLeDiff, if_false, if_true]
      split <;> simp_all
    rw [hclass] at hc
    split at hc <;> cases hc
    exact Or.inl rfl

theorem sameBases_hifError (d : Dev) (bit ring : Nat) : SameBases d (d.hifError bit ring) :=
  (raise_held _ rfl (mild_host d 2 _)).1.bases

theorem sameBases_streamDrop (d : Dev) (n : Nat) : SameBases d (d.streamDrop n) := by
  unfold Dev.streamDrop
  extract_lets d1 due
  have h1 : SameBases d d1 := (hostSide_dropRec d n).bases
  exact sameBases_ite _ ((h1.trans (hostSide_modRing ..).bases).trans (sameBases_hifError ..))
    (h1.trans (hostSide_setErr ..).bases)

theorem sameBases_offer (d : Dev) (n : Nat) (x : StreamRec) : SameBases d (d.offer n x) := by
  unfold Dev.offer
  refine sameBases_ite _ (sameBases_ite _ (sameBases_streamDrop d n) ?_) (sameBases_ite _ ?_ (SameBases.refl d))
  · exact ((hostSide_modRing ..).trans (hostSide_fillRing ..)).bases
  · exact (hostSide_dropRec d n).bases

theorem sameBases_stream (d : Dev) (src sel : Nat) (bs : List Byte) (ends : Bool) :
    SameBases d (d.stream src sel bs ends) :=
  sameBases_foldl _ (fun a n => sameBases_ite _ (sameBases_offer a n _) (SameBases.refl a)) _ d

theorem sameBases_bufAdd (d : Dev) (b : List Byte) : SameBases d (d.bufAdd b) := by
  have hrcd (x : Dev) (r : Recorder) : SameBases x { x with rcd := r } := ⟨rfl, rfl⟩
  have hdiscard (x : Dev) : SameBases x x.recDiscard := ⟨rfl, rfl⟩
  have hflush (x : Dev) : SameBases x x.startFlush := (recorded_startFlush x).held.bases
  have hmram : SameBases d (d.mramAppend [b] false) :=
    sameBases_ite _ ((hrcd d _).trans (fault_held _ rfl (fun x => mild_recorder x 3)).1.bases) (hrcd d _)
  unfold Dev.bufAdd
  dsimp only
  refine sameBases_ite _ (sameBases_ite _ hmram (hdiscard d)) (sameBases_ite _ (hrcd d _) (sameBases_ite _ ?_ ?_))
  · exact sameBases_ite _ ((hrcd d _).trans (hflush _)) (hrcd d _)
  · refine sameBases_ite _ ?_ (hdiscard d)
    split
    · exact (hrcd d _).trans (hdiscard _)
    · exact hdiscard d

theorem sameBases_releaseOne (d : Dev) : SameBases d d.releaseOne := by
  have hrcd (x : Dev) (r : Recorder) : SameBases x { x with rcd := r } := ⟨rfl, rfl⟩
  have hworam (x : Dev) (w : Option Woram) (l : List Woram) : SameBases x { x with woram := w, closing := l } := ⟨rfl, rfl⟩
  unfold Dev.releaseOne
  split
  · exact SameBases.refl d
  · extract_lets b src d1 old d2 src' d3 put
    have h2 : SameBases d d2 :=
      (hrcd d d1.rcd).trans (sameBases_ite _ (sameBases_bufAdd d1 b) (SameBases.refl d1))
    have h3 : SameBases d2 d3 := by
      show SameBases d2 (match d2.rcd.clearing with | some q => _ | none => d2)
      split
      · exact sameBases_ite _ ((hrcd d2 _).trans (hostSide_ok ..).bases) (SameBases.refl d2)
      · exact SameBases.refl d2
    exact (h2.trans h3).trans ((hworam d3 _ _).trans (sameBases_stream ..))

theorem sameBases_iter {f : Dev → Dev} (hf : ∀ d, SameBases d (f d)) : ∀ (n : Nat) (d : Dev), SameBases d (iter f n d)
  | 0, d => SameBases.refl d
  | n + 1, d => (hf d).trans (sameBases_iter hf n (f d))

theorem sameBases_releaseAll (d : Dev) : SameBases d d.releaseAll := sameBases_iter sameBases_releaseOne _ d

/-! ## Steps (R397 to R399) -/

/-- What a step that outputs follow leaves: TB3 and TB1. -/
def SameCounts (a b : Dev) : Prop := b.tb3 = a.tb3 ∧ b.time.tb1 = a.time.tb1

theorem SameCounts.trans {a b c : Dev} (h : SameCounts a b) (k : SameCounts b c) : SameCounts a c :=
  ⟨k.1.trans h.1, k.2.trans h.2⟩

theorem SameBases.counts {a b : Dev} (h : SameBases a b) : SameCounts a b := ⟨h.1, congrArg TimeCtl.tb1 h.2⟩

theorem sameCounts_skipEdges (d : Dev) (i now : Nat) : SameCounts d (d.skipEdges i now) := by
  have hcount (x : Dev) (off n : Nat) : SameCounts x (x.count off n) := ⟨rfl, rfl⟩
  have htout (x : Dev) (f : Tout → Tout) : SameCounts x (x.modTout i f) := ⟨rfl, rfl⟩
  have hshow (x : Dev) : SameCounts x (x.showNext i) := ⟨rfl, rfl⟩
  have hset (x : Dev) (off j : Nat) (b : Bool) : SameCounts x (x.setBit off j b) := ⟨rfl, rfl⟩
  unfold Dev.skipEdges
  dsimp only
  split
  · exact ((hcount d _ _).trans (htout _ _)).trans (hshow _)
  · exact (hset d _ _ _).trans (hset _ _ _ _)

theorem sameCounts_toutStep (d : Dev) (k old : Nat) : SameCounts d (d.toutStep k old) :=
  foldl_keeps SameCounts (fun _ => ⟨rfl, rfl⟩) (fun _ _ _ => SameCounts.trans) _ (fun a i => by
    split
    · exact sameCounts_skipEdges _ _ _
    · exact ⟨rfl, rfl⟩) _ d

theorem sameBases_ldgRegs (d : Dev) : SameBases d d.ldgRegs := by
  unfold Dev.ldgRegs
  split <;> exact ⟨rfl, rfl⟩

/-- TB3 steps by as much as it is told to; TB1 goes on as it did. -/
theorem stepTb3_counts (d : Dev) (k : Int) :
    (d.stepTb3 k).tb3 = ((d.tb3 : Int) + k).toNat ∧ (d.stepTb3 k).time.tb1 = d.time.tb1 := by
  unfold Dev.stepTb3
  extract_lets old add move d1 src d2 d3
  obtain ⟨htb3, htime⟩ : SameBases d d1 := sameBases_releaseAll d
  have h2 : d2.tb3 = ((d.tb3 : Int) + k).toNat ∧ d2.time.tb1 = d.time.tb1 := by
    constructor
    · show ((d1.tb3 : Int) + k).toNat = _
      rw [htb3]
    · show d1.time.tb1 = _
      rw [htime]
  have h3 : SameBases d2 d3 := sameBases_ite _ (sameBases_ldgRegs d2) (SameBases.refl d2)
  have hraise : SameBases d3 (d3.raise 35 5 (BitVec.ofInt 32 k)) := (raise_held _ rfl (mild_time (by decide) d3 _)).1.bases
  obtain ⟨hend, hend1⟩ := (h3.trans hraise).counts.trans (sameCounts_toutStep _ 3 old)
  exact ⟨hend.trans h2.1, hend1.trans h2.2⟩

/-! ## Counting (R393) -/

/-- A REFCLK cycle adds 640 units to TB0, and 640 × (1 + FREQ) to TB1 with the remainder carried. -/
theorem refCycle_counts (d : Dev) : d.refCycle.tb0 = d.tb0 + 640 ∧
    (d.time.tb1 + (d.time.rem1 + 640 * d.rate1) / 2 ^ 41 < 2 ^ 64 →
      d.refCycle.time.tb1 * 2 ^ 41 + d.refCycle.time.rem1 = d.time.tb1 * 2 ^ 41 + d.time.rem1 + 640 * d.rate1) := by
  refine ⟨rfl, fun hlt => ?_⟩
  have htb1 : d.refCycle.time.tb1 = (d.time.tb1 + (d.time.rem1 + 640 * d.rate1) / 2 ^ 41) % 2 ^ 64 := rfl
  have hrem : d.refCycle.time.rem1 = (d.time.rem1 + 640 * d.rate1) % 2 ^ 41 := rfl
  rw [htb1, hrem, Nat.mod_eq_of_lt hlt]
  omega

/-! ## The comparison of TB3 with TB1 (R396, R397) -/

/-- Inside a step window an offset beyond STEP_LIM is stepped by, alone, or announced to the members. -/
def Dev.compareInside (d : Dev) (diff : Int) : Dev :=
  let k := divRound diff 8000 * 8000
  if diff.natAbs ≤ (d.rd TIME_STEP_LIM).toNat * 16 ∨ k = 0 ∨ d.time.stepAt.isSome then d
  else if d.members.isEmpty then d.stepTb3 k
  else
    let at_ := ((d.tb3 + 100 * perUs) / perTick + 1) * perTick
    let d := d.modTime (fun c => { c with stepAt := some (at_, k) })
    d.members.foldl (fun g v => g.sendTo v 0x02 [(g.tb3 : Int), k, (at_ : Int)]) d

/-- TB3 compared with TB1, once a REFCLK cycle has been counted; `x` is the device with LOCKED shown. -/
def Dev.compareTb3 (x : Dev) (diff : Int) (lock : Nat) (peersOpen : Bool) : Dev :=
  if x.time.follows then x
  else if x.stepWindow && (x.members.isEmpty || peersOpen) then
    (x.modTime (fun c => { c with apart := false })).compareInside diff
  else if lock < diff.natAbs ∧ !x.time.apart then (x.modTime (fun c => { c with apart := true })).fault 35 6
  else x

/-- A follower shows LOCKED alone. -/
theorem compareTb3_follower {x : Dev} (diff : Int) (lock : Nat) (open_ : Bool) (hfollows : x.time.follows = true) :
    x.compareTb3 diff lock open_ = x := if_pos hfollows

/-- Outside a step window, or where a member is outside one, an offset beyond LOCK_LIM is reported once. -/
theorem compareTb3_outside {x : Dev} {open_ : Bool} (diff : Int) (lock : Nat) (hmaster : x.time.follows = false)
    (hwin : x.stepWindow = false ∨ (x.members ≠ [] ∧ open_ = false)) :
    x.compareTb3 diff lock open_ = if lock < diff.natAbs ∧ !x.time.apart then
      (x.modTime (fun c => { c with apart := true })).fault 35 6 else x := by
  have hout : ¬ (x.stepWindow && (x.members.isEmpty || open_)) = true := by
    rcases hwin with hwin | ⟨hmembers, hopen⟩
    · simp [hwin]
    · simp [hmembers, hopen]
  unfold Dev.compareTb3
  rw [if_neg (by simp [hmaster]), if_neg hout]

theorem compareTb3_inside {x : Dev} {open_ : Bool} (diff : Int) (lock : Nat) (hmaster : x.time.follows = false)
    (hwin : x.stepWindow = true) (hmembers : x.members = [] ∨ open_ = true) :
    x.compareTb3 diff lock open_ = (x.modTime (fun c => { c with apart := false })).compareInside diff := by
  have hin : (x.stepWindow && (x.members.isEmpty || open_)) = true := by
    rcases hmembers with hmembers | hopen
    · simp [hwin, hmembers]
    · simp [hwin, hopen]
  unfold Dev.compareTb3
  rw [if_neg (by simp [hmaster]), if_pos hin]

section
variable {x : Dev} {diff : Int}

theorem compareInside_near (h : diff.natAbs ≤ (x.rd TIME_STEP_LIM).toNat * 16) : x.compareInside diff = x :=
  if_pos (Or.inl h)

variable (hfar : (x.rd TIME_STEP_LIM).toNat * 16 < diff.natAbs) (hk : divRound diff 8000 ≠ 0) (hstep : x.time.stepAt = none)
include hfar hk hstep

/-- A device that stands alone steps. -/
theorem compareInside_alone (hmembers : x.members = []) :
    x.compareInside diff = x.stepTb3 (divRound diff 8000 * 8000) := by
  unfold Dev.compareInside
  dsimp only
  rw [if_neg (by rw [hstep]; simp; omega), if_pos (by rw [hmembers]; rfl)]

/-- A master announces the step to its members. -/
theorem compareInside_announced (hmembers : x.members ≠ []) {at_ : Nat}
    (hat : at_ = ((x.tb3 + 100 * perUs) / perTick + 1) * perTick) :
    x.compareInside diff = x.members.foldl
      (fun g v => g.sendTo v 0x02 [(g.tb3 : Int), divRound diff 8000 * 8000, (at_ : Int)])
      (x.modTime (fun c => { c with stepAt := some (at_, divRound diff 8000 * 8000) })) := by
  have hmod (f : TimeCtl → TimeCtl) : (x.modTime f).members = x.members := rfl
  subst hat
  exact ((if_neg (by rw [hstep]; simp; omega)).trans (if_neg (by simpa using hmembers))).trans
    (congrArg (List.foldl _ _) (hmod _))

end

theorem exec_tb3StepApply {s : State} {t : Nat} {k : Int} (ha : Awake s) (hstep : s.dev.time.stepAt = some (t, k)) :
    exec .tb3StepApply s = .next { s with dev :=
      (((s.dev.advanceTo t).modTime (fun c => { c with stepAt := none })).stepTb3 k) } := by
  show execTb3StepApply s = _
  unfold execTb3StepApply
  rw [on_awake _ _ ha, hstep]

theorem exec_tb3StepApply_none {s : State} (hstep : s.dev.time.stepAt = none) : exec .tb3StepApply s = .next s := by
  show execTb3StepApply s = _
  unfold execTb3StepApply
  refine on_same ?_
  rw [hstep]

/-! ## TIME_SNAP (R394) -/

theorem rd64_wr64_same (d : Dev) {lo hi : Nat} (v : Nat) (h : lo ≠ hi) : (d.wr64 lo hi v).rd64 lo hi = v % 2 ^ 64 := by
  unfold Dev.rd64 Dev.wr64
  rw [rd_wrN_same, rd_wrN_other _ _ _ h, rd_wrN_same, BitVec.toNat_ofNat, BitVec.toNat_ofNat]
  omega

theorem rd64_wr64_other (d : Dev) {lo hi lo' hi' : Nat} (v : Nat) (hlo : lo' ≠ lo ∧ lo' ≠ hi) (hhi : hi' ≠ lo ∧ hi' ≠ hi) :
    (d.wr64 lo hi v).rd64 lo' hi' = d.rd64 lo' hi' := by
  unfold Dev.rd64 Dev.wr64
  rw [rd_wrN_other _ _ _ hlo.2, rd_wrN_other _ _ _ hlo.1, rd_wrN_other _ _ _ hhi.2, rd_wrN_other _ _ _ hhi.1]

/-- Base k latched. -/
def Dev.snapBase (d : Dev) (k : Nat) : Dev := d.wr64 (TIME_SNAP_LO k) (TIME_SNAP_HI k) (d.base k)

theorem snapBase_same (d : Dev) (k : Nat) :
    (d.snapBase k).rd64 (TIME_SNAP_LO k) (TIME_SNAP_HI k) = d.base k % 2 ^ 64 :=
  rd64_wr64_same d _ (by unfold TIME_SNAP_LO TIME_SNAP_HI; omega)

theorem snapBase_other (d : Dev) {j k : Nat} (h : j ≠ k) :
    (d.snapBase k).rd64 (TIME_SNAP_LO j) (TIME_SNAP_HI j) = d.rd64 (TIME_SNAP_LO j) (TIME_SNAP_HI j) :=
  rd64_wr64_other d _ (by unfold TIME_SNAP_LO TIME_SNAP_HI; omega) (by unfold TIME_SNAP_LO TIME_SNAP_HI; omega)

theorem base_snapBase (d : Dev) (j k : Nat) : (d.snapBase k).base j = d.base j := rfl

/-- The bases latched, one after the other, are those of one instant. -/
theorem snapBases (l : List Nat) : ∀ (d : Dev) (j : Nat),
    (j ∈ l → (l.foldl Dev.snapBase d).rd64 (TIME_SNAP_LO j) (TIME_SNAP_HI j) = d.base j % 2 ^ 64) ∧
    (j ∉ l → (l.foldl Dev.snapBase d).rd64 (TIME_SNAP_LO j) (TIME_SNAP_HI j) =
      d.rd64 (TIME_SNAP_LO j) (TIME_SNAP_HI j)) := by
  induction l with
  | nil => exact fun d j => ⟨fun h => absurd h List.not_mem_nil, fun _ => rfl⟩
  | cons k l ih =>
    intro d j
    obtain ⟨hin, hout⟩ := ih (d.snapBase k) j
    rw [List.foldl_cons]
    refine ⟨fun hj => ?_, fun hj => ?_⟩
    · by_cases hl : j ∈ l
      · rw [hin hl, base_snapBase]
      · obtain rfl : j = k := (List.mem_cons.mp hj).resolve_right hl
        rw [hout hl, snapBase_same]
    · rw [hout (fun h => hj (List.mem_cons_of_mem _ h)), snapBase_other d (fun h => hj (by rw [h]; exact List.mem_cons_self))]

theorem exec_timeSnap {s : State} (hu : Up s) :
    exec .timeSnap s = .next { s with dev := (List.range 4).foldl Dev.snapBase s.dev } := by
  show execTimeSnap s = _
  unfold execTimeSnap
  exact whenUp_up s _ hu

/-! ## TIME_BUILD_START (R395) -/

/-- TB2 as a TIME_BUILD_START at TB3 = `now` leaves it: from zero, to run from `at_` on. -/
def TimeCtl.tb2Start (c : TimeCtl) (now at_ : Nat) : TimeCtl :=
  ({ c with tb2 := 0, tb2Run := false, build := some at_ }).tb2Go now 0

theorem tb2Start_now (c : TimeCtl) {now at_ : Nat} (h : at_ = now) : (c.tb2Start now at_).tb2 = 0 ∧
    (c.tb2Start now at_).tb2Run = true := by
  subst h
  have hgo : c.tb2Start at_ at_ = { c with tb2 := at_ - at_, tb2Run := true, build := none } := if_pos (Nat.le_refl at_)
  rw [hgo]
  exact ⟨Nat.sub_self at_, rfl⟩

theorem tb2Start_later (c : TimeCtl) {now at_ : Nat} (h : now < at_) : (c.tb2Start now at_).tb2 = 0 ∧
    (c.tb2Start now at_).tb2Run = false ∧ (c.tb2Start now at_).build = some at_ := by
  have hgo : c.tb2Start now at_ = { c with tb2 := 0, tb2Run := false, build := some at_ } := if_neg (by omega)
  rw [hgo]
  exact ⟨rfl, rfl, rfl⟩

/-- The instant that a TIME_BUILD_START names: none is now. -/
def buildAt (q : Req) (now : Nat) : Nat :=
  if q.a0.toNat + q.a1.toNat * 2 ^ 32 = 0 then now else q.a0.toNat + q.a1.toNat * 2 ^ 32

theorem timeBuildStart_time (d : Dev) (q : Req) (e : Env) :
    (cmdTimeBuildStart.effect q e d).time = d.time.tb2Start d.tb3 (buildAt q d.tb3) :=
  (hostSide_ok ..).bases.2

/-- An instant that is past is refused. -/
theorem timeBuildStart_check {d : Dev} {q : Req} (h : cmdTimeBuildStart.check d q = none) :
    q.a0.toNat + q.a1.toNat * 2 ^ 32 = 0 ∨ d.tb3 ≤ q.a0.toNat + q.a1.toNat * 2 ^ 32 := by
  unfold cmdTimeBuildStart at h
  have hlim := (firstFail_none_iff _).mp h (limitIf (q.a0.toNat + q.a1.toNat * 2 ^ 32 != 0 &&
    decide (q.a0.toNat + q.a1.toNat * 2 ^ 32 < d.tb3)) 0x0901) (by simp)
  simpa [limitIf, imp_iff_not_or] using hlim

/-! ## The statement -/

theorem stepWindow_setBit (d : Dev) (off i : Nat) (b : Bool) : (d.setBit off i b).stepWindow = d.stepWindow := rfl

/-- The device with LOCKED shown, and no longer apart. -/
def Dev.shownApart (d : Dev) (near : Bool) : Dev :=
  (d.setBit TIME_STATUS 29 near).modTime (fun c => { c with apart := false })

/-- The limits, the members and the steps are as they were. -/
theorem shownApart_keeps (d : Dev) (near : Bool) : (d.shownApart near).rd TIME_STEP_LIM = d.rd TIME_STEP_LIM ∧
    (d.shownApart near).members = d.members ∧ (d.shownApart near).time.stepAt = d.time.stepAt ∧
    (d.shownApart near).tb3 = d.tb3 := by
  have hmod (x : Dev) : (x.modTime (fun c => { c with apart := false })).time.stepAt = x.time.stepAt := rfl
  unfold Dev.shownApart
  rw [rd_modTime, rd_setBit_other d _ _ _ (by decide), hmod, Dev.modTime_members, Dev.modTime_tb3, Dev.setBit_members,
    Dev.setBit_time, Dev.setBit_tb3]
  exact ⟨rfl, rfl, rfl, rfl⟩

section
variable {open_ : Bool} {s : State} {d : Dev} {diff : Int} (hboot : 2 ≤ s.dev.mode.boot)
  (hd : d = s.dev.refCycle.endStops) (hdiff : diff = (d.time.tb1 : Int) - d.tb3)
include hboot hd hdiff

theorem exec_tb3Compare_off : exec (.tb3Compare open_) s = .next { s with dev := (Dev.compareTb3
      (d.setBit TIME_STATUS 29 (decide (diff.natAbs ≤ (d.rd TIME_LOCK_LIM).toNat * 16))) diff
      ((d.rd TIME_LOCK_LIM).toNat * 16) open_) } := by
  subst hd hdiff
  have hgo : ¬ s.dev.mode.boot < 2 := by omega
  show execTb3Compare open_ s = _
  unfold execTb3Compare
  rw [on_awake s _ (show s.dev.mode.boot ≠ 0 by omega)]
  refine next_congr ((if_neg hgo).trans ?_)
  unfold Dev.compareTb3 Dev.compareInside
  rfl

variable (hmaster : d.time.follows = false)
include hmaster

theorem exec_tb3Compare_near (hout : d.stepWindow = false ∨ (d.members ≠ [] ∧ open_ = false))
    (hnear : diff.natAbs ≤ (d.rd TIME_LOCK_LIM).toNat * 16) :
    exec (.tb3Compare open_) s = .next { s with dev := d.setBit TIME_STATUS 29 true } := by
  rw [exec_tb3Compare_off hboot hd hdiff, decide_eq_true hnear, compareTb3_outside _ _ (by rwa [Dev.setBit_time])
    (by rwa [stepWindow_setBit, Dev.setBit_members]), if_neg (by omega)]

theorem exec_tb3Compare_apart (hout : d.stepWindow = false ∨ (d.members ≠ [] ∧ open_ = false))
    (hfar : (d.rd TIME_LOCK_LIM).toNat * 16 < diff.natAbs) (hapart : d.time.apart = false) :
    exec (.tb3Compare open_) s = .next { s with dev :=
      (((d.setBit TIME_STATUS 29 false).modTime (fun c => { c with apart := true })).fault 35 6) } := by
  rw [exec_tb3Compare_off hboot hd hdiff, decide_eq_false (by omega), compareTb3_outside _ _ (by rwa [Dev.setBit_time])
    (by rwa [stepWindow_setBit, Dev.setBit_members]), if_pos ⟨hfar, by rw [Dev.setBit_time, hapart]; rfl⟩]

theorem exec_tb3Compare_inside (hwin : d.stepWindow = true) (hmembers : d.members = [] ∨ open_ = true) :
    exec (.tb3Compare open_) s = .next { s with dev := (Dev.compareInside
      (d.shownApart (decide (diff.natAbs ≤ (d.rd TIME_LOCK_LIM).toNat * 16))) diff) } := by
  rw [exec_tb3Compare_off hboot hd hdiff, compareTb3_inside _ _ (by rwa [Dev.setBit_time]) (by rwa [stepWindow_setBit])
    (by rwa [Dev.setBit_members]), Dev.shownApart]

end

theorem timeQuery_bases (d : Dev) : (List.range 4).flatMap (fun k => leBytes 8 (d.base k)) =
    leBytes 8 d.tb0 ++ leBytes 8 d.time.tb1 ++ leBytes 8 d.time.tb2 ++ leBytes 8 d.tb3 := by
  have hrange : List.range 4 = [0, 1, 2, 3] := rfl
  rw [hrange]
  simp [Dev.base]

/-- The rest bytes of either port's addresses are zero, or one of them is not. -/
theorem ptpAddrSet_good {q : Req} {e : Env} (d : Dev) (hv4 : allZero (((e.data.take 64).drop 20).take 12) = true)
    (hv6 : allZero (((e.data.take 64).drop 52).take 12) = true) :
    cmdPtpAddrSet.effect q e d = (d.modTime (fun c => { c with addrs := e.data.take 64 })).ok q 0 0 0 0 := by
  have hgood : ¬ ((!allZero (((e.data.take 64).drop (32 * 0 + 20)).take 12) ||
      !allZero (((e.data.take 64).drop (32 * 1 + 20)).take 12)) = true) := by simp [hv4, hv6]
  exact if_neg hgood

theorem ptpAddrSet_bad {q : Req} {e : Env} (d : Dev) (hbad : allZero (((e.data.take 64).drop 20).take 12) = false ∨
    allZero (((e.data.take 64).drop 52).take 12) = false) :
    cmdPtpAddrSet.effect q e d = d.fail q stMalformed 0x0004 := by
  have hfail : (!allZero (((e.data.take 64).drop (32 * 0 + 20)).take 12) ||
      !allZero (((e.data.take 64).drop (32 * 1 + 20)).take 12)) = true := by simpa using hbad
  exact if_pos hfail

/-- TB2 is zero at a TIME_BUILD_START, and runs once its instant has come. -/
theorem buildStarted {y : Dev} {c : TimeCtl} {q : Req} {now : Nat} (hy : y.time = c.tb2Start now (buildAt q now))
    (hpast : q.a0.toNat + q.a1.toNat * 2 ^ 32 = 0 ∨ now ≤ q.a0.toNat + q.a1.toNat * 2 ^ 32) :
    y.time.tb2 = 0 ∧
    (now < q.a0.toNat + q.a1.toNat * 2 ^ 32 →
      y.time.tb2Run = false ∧ y.time.build = some (q.a0.toNat + q.a1.toNat * 2 ^ 32)) ∧
    ((q.a0.toNat + q.a1.toNat * 2 ^ 32 = now ∨ q.a0.toNat + q.a1.toNat * 2 ^ 32 = 0) → y.time.tb2Run = true) := by
  rw [hy]
  by_cases hlater : now < q.a0.toNat + q.a1.toNat * 2 ^ 32
  · have hat : buildAt q now = q.a0.toNat + q.a1.toNat * 2 ^ 32 := if_neg (by omega)
    rw [hat]
    obtain ⟨hzero, hrun, hbuild⟩ := tb2Start_later c hlater
    exact ⟨hzero, fun _ => ⟨hrun, hbuild⟩, fun hnow => by omega⟩
  · have hat : buildAt q now = now := by unfold buildAt; split <;> omega
    obtain ⟨hzero, hrun⟩ := tb2Start_now c hat
    exact ⟨hzero, fun h => absurd h hlater, fun _ => hrun⟩

/-- Settles O49: the comparison by `exec_tb3Compare` and its branches, a step by `stepTb3_counts`. That bytes of
PTP_ADDR_SET beyond the addresses are MALFORMED with 0x0004 is log entries 8 and 58. -/
theorem timeBases : Obligations.TimeBases := by
  refine ⟨refCycle_counts, fun open_ s d diff hboot hd hdiff hmaster => ⟨fun hout => ⟨fun hnear =>
        exec_tb3Compare_near hboot hd hdiff hmaster hout hnear, fun hfar hapart =>
        exec_tb3Compare_apart hboot hd hdiff hmaster hout hfar hapart⟩,
      fun g hg => ⟨fun hwin hmembers hnear => ?_, fun hwin hfar hk hstep => ⟨fun hmembers => ?_, fun hmembers hopen at_ hat => ?_⟩⟩⟩,
    fun open_ s d hboot hd hfollows => ?_, fun open_ s hboot => ?_, fun s t k ha hstep => exec_tb3StepApply ha hstep,
    fun s hstep => exec_tb3StepApply_none hstep, fun d k hpos => ?_, fun s hu => ?_,
    fun r e s => ⟨fun h => ?_, fun h => ?_, fun h => ?_, fun b hb h => ⟨fun hv4 hv6 => ?_, fun hbad => ?_⟩⟩⟩
  · obtain ⟨hlim, -, -, -⟩ := shownApart_keeps d (decide (diff.natAbs ≤ (d.rd TIME_LOCK_LIM).toNat * 16))
    rw [exec_tb3Compare_inside hboot hd hdiff hmaster hwin hmembers, show g = d.shownApart _ from hg]
    exact next_congr (compareInside_near (by rwa [← hlim] at hnear))
  · obtain ⟨hlim, hmem, hat, -⟩ := shownApart_keeps d (decide (diff.natAbs ≤ (d.rd TIME_LOCK_LIM).toNat * 16))
    rw [exec_tb3Compare_inside hboot hd hdiff hmaster hwin (Or.inl hmembers), show g = d.shownApart _ from hg]
    exact next_congr (compareInside_alone (by rwa [← hlim] at hfar) hk (hat.trans hstep) (hmem.trans hmembers))
  · obtain ⟨hlim, hmem, hstep', htb3⟩ := shownApart_keeps d (decide (diff.natAbs ≤ (d.rd TIME_LOCK_LIM).toNat * 16))
    rw [exec_tb3Compare_inside hboot hd hdiff hmaster hwin (Or.inr hopen), show g = d.shownApart _ from hg]
    exact next_congr ((compareInside_announced (at_ := at_) (by rwa [← hlim] at hfar) hk (hstep'.trans hstep)
      (by rwa [← hmem] at hmembers) (by rw [htb3]; exact hat)).trans (by rw [hmem]))
  · rw [exec_tb3Compare_off hboot hd rfl, compareTb3_follower _ _ _ (by rwa [Dev.setBit_time])]
  · show execTb3Compare open_ s = _
    unfold execTb3Compare
    exact on_same (if_pos hboot)
  · obtain ⟨htb3, htb1⟩ := stepTb3_counts d k
    exact ⟨by rw [htb3]; exact Int.toNat_of_nonneg hpos, htb1⟩
  · exact ⟨_, exec_timeSnap hu, ⟨rfl, rfl⟩, fun k hk => (snapBases (List.range 4) s.dev k).1 (List.mem_range.mpr hk)⟩
  · have hexec := command_takes s 0x0901 cmdTimeBuildStart r e h
    obtain ⟨-, -, -, -, hcheck⟩ := h
    obtain ⟨htb3, htime⟩ := (hostSide_started s 0x0901 r).bases
    have hstart := timeBuildStart_time (started s 0x0901 r) (asOp 0x0901 r) e
    have hpast := timeBuildStart_check hcheck
    rw [htb3, htime] at hstart
    rw [htb3] at hpast
    generalize cmdTimeBuildStart.effect (asOp 0x0901 r) e (started s 0x0901 r) = y at hexec hstart
    exact ⟨_, hexec, ⟨rfl, rfl⟩, buildStarted hstart hpast⟩
  · exact command_takes s 0x0904 cmdTimeTb1Set r e h
  · refine (command_takes s 0x0980 cmdTimeQuery r e h).trans (next_congr ?_)
    show (started s 0x0980 r).okData _ ((List.range 4).flatMap _) 0 0 0 0 = _
    rw [timeQuery_bases]
    rfl
  · have hexec := command_takesData s 0x0905 cmdPtpAddrSet r e h
    subst hb
    rw [ptpAddrSet_good _ hv4 hv6] at hexec
    exact ⟨_, hexec, ⟨rfl, rfl⟩, congrArg TimeCtl.addrs (hostSide_ok ..).bases.2⟩
  · subst hb
    exact (command_takesData s 0x0905 cmdPtpAddrSet r e h).trans (next_congr (ptpAddrSet_bad _ hbad))

end Sys2Proof.Machine
end

section
/-! SUPPORT. Network time, and O50 (R400 to R404). -/

namespace Sys2Proof.Machine

/-! ## TB1_STATE (R404) -/

theorem tb1State_testBit (d : Dev) {j : Nat} (hj : j < 2) : d.tb1State.testBit j = d.bit TIME_STATUS (30 + j) := by
  rw [Dev.tb1State, Dev.fld, Word.testBit_get, decide_eq_true hj, Bool.true_and]
  rfl

theorem tb1State_lt (d : Dev) : d.tb1State < 4 := Word.get_lt _ _ _

/-- An odd state keeps its low bit where bits only rise. -/
theorem RisesAt.tb1State_odd {a b : Dev} (h : RisesAt TIME_STATUS a b) (hodd : a.tb1State.testBit 0 = true) :
    b.tb1State ≠ 2 := by
  have hb : b.tb1State.testBit 0 = true := by
    rw [tb1State_testBit _ (by decide)] at hodd ⊢
    exact h _ (by decide) hodd
  intro htwo
  rw [htwo] at hb
  exact absurd hb (by decide)

/-- HOLDOVER stays where bits only rise. -/
theorem RisesAt.tb1State_holdover {a b : Dev} (h : RisesAt TIME_STATUS a b) (hhold : a.tb1State = 3) : b.tb1State = 3 := by
  have hbit (j : Nat) (hj : j < 2) : b.tb1State.testBit j = true := by
    have ha : a.tb1State.testBit j = true := by
      rw [hhold]
      rcases (by omega : j = 0 ∨ j = 1) with rfl | rfl <;> rfl
    rw [tb1State_testBit _ hj] at ha ⊢
    exact h _ (by omega) ha
  have hthree : ∀ n < 4, n.testBit 0 = true → n.testBit 1 = true → n = 3 := by decide
  exact hthree _ (tb1State_lt b) (hbit 0 (by decide)) (hbit 1 (by decide))

theorem tb1State_setTb1State (d : Dev) {x : Nat} (hx : x < 4) : (d.setTb1State x).tb1State = x := by
  have hset : (d.setFld TIME_STATUS 30 2 x).tb1State = x := by
    rw [Dev.tb1State, fld_setFld_same _ _ _ _ _ (by decide), Nat.mod_eq_of_lt (show x < 2 ^ 2 from hx)]
  have hworam (y : Dev) (w : Option Woram) : Dev.tb1State { y with woram := w } = y.tb1State := rfl
  unfold Dev.setTb1State
  dsimp only
  split
  · exact hset
  · rw [hworam, hset]

theorem setTb1State_time (d : Dev) (x : Nat) : (d.setTb1State x).time = d.time := by
  have hworam (y : Dev) (w : Option Woram) : Dev.time { y with woram := w } = y.time := rfl
  unfold Dev.setTb1State
  dsimp only
  split
  · rw [Dev.setFld_time]
  · rw [hworam, Dev.setFld_time]

theorem tb1State_modTime (d : Dev) (f : TimeCtl → TimeCtl) : (d.modTime f).tb1State = d.tb1State := rfl

theorem holdover_shows (d : Dev) : d.holdover.tb1State = 3 ∧ d.holdover.bit TIME_ERR 8 = true := by
  have h : (d.setTb1State 3).tb1State = 3 := tb1State_setTb1State d (by decide)
  unfold Dev.holdover
  generalize d.setTb1State 3 = y at h
  refine ⟨?_, bit_setBit_same _ _ _ _ (by decide)⟩
  rw [Dev.tb1State, fld_other (rd_setBit_other _ _ _ _ (by decide)), ← Dev.tb1State, h]

theorem risesAt_modTime (off : Nat) (d : Dev) (f : TimeCtl → TimeCtl) : RisesAt off d (d.modTime f) :=
  risesAt_of_regs off rfl rfl

/-- The faults of the time unit that network time raises lower no bit. -/
theorem fault_time_rises (d : Dev) {cause : Nat} (hcause : cause ≠ 1) {off : Nat} (hoff : notRewritten off) :
    RisesAt off d (d.fault 35 cause) := (fault_held d rfl (fun x => mild_time hcause x)).2 off hoff

theorem notRewritten_status : notRewritten TIME_STATUS := by unfold notRewritten; decide

theorem notRewritten_err : notRewritten TIME_ERR := by unfold notRewritten; decide

/-- The loss of the source of time in LOCKING or LOCKED is HOLDOVER, with HOLD_FLAG. -/
theorem ptpLost_holdover {d : Dev} (h : d.tb1State = 1 ∨ d.tb1State = 2) :
    d.ptpLost.tb1State = 3 ∧ d.ptpLost.bit TIME_ERR 8 = true := by
  obtain ⟨hstate, hflag⟩ := holdover_shows d
  unfold Dev.ptpLost
  rw [if_pos h]
  generalize d.holdover = y at hstate hflag
  dsimp only
  have hrises {off : Nat} (hoff : notRewritten off) :=
    (risesAt_modTime off y (fun c => { c with good := 0, bad := 0 })).trans
      (fault_time_rises _ (show (2 : Nat) ≠ 1 by decide) hoff)
  exact ⟨(hrises notRewritten_status).tb1State_holdover hstate, hrises notRewritten_err 8 (by decide) hflag⟩

/-! ## A Sync that steers TB1 (R403) -/

theorem rd_skipEdges {d : Dev} {i now off : Nat} (hoff : off < 0x2C1000) : (d.skipEdges i now).rd off = d.rd off := by
  have htout (x : Dev) (f : Tout → Tout) : (x.modTout i f).rd off = x.rd off := rfl
  unfold Dev.skipEdges Dev.showNext Dev.wr64
  dsimp only
  split
  · rw [rd_wrN_other _ _ _ (by unfold TIME_TOUT_NEXT_HI; omega), rd_wrN_other _ _ _ (by unfold TIME_TOUT_NEXT_LO; omega),
      htout]
    exact Dev.rd_wr_other _ _ _ _ (by unfold TIME_TOUT_SKIP_CNT; omega)
  · rw [rd_setBit_other _ _ _ _ (by unfold TIME_TOUT_CFG; omega), rd_setBit_other _ _ _ _ (by unfold TIME_TOUT_CFG; omega)]

theorem rd_toutStep (d : Dev) (k old : Nat) {off : Nat} (hoff : off < 0x2C1000) : (d.toutStep k old).rd off = d.rd off :=
  foldl_keeps (fun a b => b.rd off = a.rd off) (fun _ => rfl) (fun (a b c : Dev) (h : b.rd off = a.rd off) (k : c.rd off = b.rd off) => k.trans h) _ (fun a i => by
    split
    · exact rd_skipEdges hoff
    · rfl) _ d

theorem steer_rises (d : Dev) (ofs : Int) : RisesAt TIME_STATUS d (d.steer ofs) := by
  have hstep : RisesAt TIME_STATUS d (d.stepTb1 (-ofs)) := risesAt_of_rd (rd_toutStep _ _ _ (by decide))
  have hfree : RisesAt TIME_STATUS d (d.freeErr 1099511628).2 := risesAt_of_regs _ rfl rfl
  unfold Dev.steer
  split
  · exact hstep.trans (fault_time_rises _ (by decide) notRewritten_status)
  · exact hfree.trans (risesAt_of_rd (rd_wrN_other _ _ _ (by decide)))

/-- A Sync begins LOCKING where TB1 is free or in HOLDOVER. -/
def Dev.syncBegun (d : Dev) : Dev :=
  if d.tb1State = 0 ∨ d.tb1State = 3 then (d.setTb1State 1).modTime (fun c => { c with good := 0, bad := 0 }) else d

theorem syncBegun_state {d : Dev} (h : d.tb1State ≠ 2) : d.syncBegun.tb1State = 1 ∧
    (d.syncBegun.time.good = 0 ∨ (d.tb1State = 1 ∧ d.syncBegun.time.good = d.time.good)) := by
  have hlt := tb1State_lt d
  unfold Dev.syncBegun
  split
  · rw [tb1State_modTime, tb1State_setTb1State _ (by decide)]
    exact ⟨rfl, Or.inl rfl⟩
  · exact ⟨by omega, Or.inr ⟨by omega, rfl⟩⟩

/-- The seconds of the epoch are taken from the first Sync. -/
def Dev.syncEpoch (d : Dev) (sec : Nat) : Dev :=
  if d.epoch = 0 then d.wr64 TIME_TB1_EPOCH_LO TIME_TB1_EPOCH_HI (sec / 86400 * 86400) else d

theorem syncEpoch_keeps (d : Dev) (sec : Nat) :
    (d.syncEpoch sec).tb1State = d.tb1State ∧ (d.syncEpoch sec).time = d.time := by
  unfold Dev.syncEpoch
  split
  · refine ⟨fld_other ?_ _ _, Dev.wr64_time ..⟩
    rw [Dev.wr64, rd_wrN_other _ _ _ (by decide), rd_wrN_other _ _ _ (by decide)]
  · exact ⟨rfl, rfl⟩

/-- A Sync is good where it is near, and sixteen running are LOCKED, or no longer. -/
def Dev.syncCounted (d : Dev) (near : Bool) : Dev :=
  let d := d.modTime (fun c => { c with good := if near then c.good + 1 else 0, bad := if near then 0 else c.bad + 1 })
  if d.tb1State = 1 ∧ 16 ≤ d.time.good then d.setTb1State 2
  else if d.tb1State = 2 ∧ 16 ≤ d.time.bad then d.setTb1State 1 else d

/-- From LOCKING it stays LOCKING, unless fifteen good ones came before. -/
theorem syncCounted_state {d : Dev} (near : Bool) (h : d.tb1State = 1) :
    15 ≤ d.time.good ∨ (d.syncCounted near).tb1State = 1 := by
  have hgood (f : TimeCtl → TimeCtl) : (d.modTime f).time = f d.time := rfl
  by_cases hg : 15 ≤ d.time.good
  · exact Or.inl hg
  · refine Or.inr ?_
    unfold Dev.syncCounted
    dsimp only
    rw [tb1State_modTime, hgood, h]
    have hfew : ¬ 16 ≤ if near then d.time.good + 1 else 0 := by split <;> omega
    rw [if_neg (fun hc => hfew hc.2), if_neg (by omega), tb1State_modTime, h]

theorem syncIn_eq (d : Dev) (p : PtpSync) : ∃ near ofs, d.syncIn p =
    if p.sec.toNat < (d.syncBegun.syncEpoch p.sec.toNat).epoch ∨
        2 ^ 64 ≤ (p.sec.toNat - (d.syncBegun.syncEpoch p.sec.toNat).epoch) * 16000000000 + p.sub then
      (d.syncBegun.syncEpoch p.sec.toNat).ptpLost
    else ((d.syncBegun.syncEpoch p.sec.toNat).syncCounted near).steer ofs := ⟨_, _, rfl⟩

/-- TB1 becomes LOCKED by a Sync alone, the sixteenth good one running. -/
theorem syncIn_locked {d : Dev} {p : PtpSync} (hlocked : (d.syncIn p).tb1State = 2) (hnot : d.tb1State ≠ 2) :
    15 ≤ d.time.good ∧ d.tb1State = 1 := by
  obtain ⟨near, ofs, heq⟩ := syncIn_eq d p
  obtain ⟨hstate, hgood⟩ := syncBegun_state hnot
  obtain ⟨hstate', htime⟩ := syncEpoch_keeps d.syncBegun p.sec.toNat
  rw [heq] at hlocked
  rw [← htime] at hgood
  rw [hstate] at hstate'
  generalize d.syncBegun.syncEpoch p.sec.toNat = y at hlocked hgood hstate'
  split at hlocked
  · rw [(ptpLost_holdover (Or.inl hstate')).1] at hlocked
    cases hlocked
  · rcases syncCounted_state near hstate' with hmany | hone
    · rcases hgood with hzero | ⟨hone, hsame⟩
      · omega
      · exact ⟨by omega, hone⟩
    · exact absurd hlocked ((steer_rises _ ofs).tb1State_odd (by rw [hone]; rfl))

/-! ## Sync messages (R400, R401) -/

/-- A Sync of a grandmaster that the device follows: another one than before is a change, else it steers TB1 once the
change before has settled. -/
def Dev.syncHeard (d : Dev) (p : PtpSync) : Dev :=
  if d.time.gm.isSome ∧ d.time.gm ≠ some p.gm.toNat then d.gmChange (some p.gm.toNat)
  else
    let d := d.modTime (fun c => { c with gm := some p.gm.toNat })
    if d.time.settle then d else d.syncIn p

theorem syncHeard_known {d : Dev} {p : PtpSync} (h : d.time.gm = none ∨ d.time.gm = some p.gm.toNat) :
    d.syncHeard p = if d.time.settle then d.modTime (fun c => { c with gm := some p.gm.toNat })
      else (d.modTime (fun c => { c with gm := some p.gm.toNat })).syncIn p := by
  have hno : ¬ (d.time.gm.isSome = true ∧ d.time.gm ≠ some p.gm.toNat) := by
    rintro ⟨hsome, hother⟩
    rcases h with h | h
    · simp [h] at hsome
    · exact hother h
  exact if_neg hno

theorem syncHeard_other {d : Dev} {p : PtpSync} {g : Nat} (h : d.time.gm = some g) (hg : g ≠ p.gm.toNat) :
    d.syncHeard p = d.gmChange (some p.gm.toNat) := if_pos (by rw [h]; simpa using hg)

section
variable {p : PtpSync} {s : State} {d : Dev} (ha : Awake s) (hd : d = s.dev.ethUp p.port p.fast)
include ha hd

theorem exec_ptpSync_deaf (h : d.ptpRuns = false ∨ p.port.val ≠ d.fld TIME_STATUS 27 1 ∨
      p.domain.toNat ≠ d.fld TIME_CFG 16 8 ∨ p.followUp = false) :
    exec (.ptpSync p) s = .next { s with dev := d } := by
  show execPtpSync p s = _
  unfold execPtpSync
  rw [on_awake _ _ ha]
  dsimp only
  rw [← hd, if_pos (by simpa using h)]

variable (hruns : d.ptpRuns = true) (hport : p.port.val = d.fld TIME_STATUS 27 1)
  (hdomain : p.domain.toNat = d.fld TIME_CFG 16 8) (hfollow : p.followUp = true)
include hruns hport hdomain hfollow

theorem exec_ptpSync_heard : exec (.ptpSync p) s = .next { s with dev :=
    (if d.bit TIME_CFG 30 && d.ownBetter p then d.setBit TIME_STATUS 26 true
      else (d.setBit TIME_STATUS 26 false).syncHeard p) } := by
  show execPtpSync p s = _
  unfold execPtpSync
  rw [on_awake _ _ ha]
  dsimp only
  rw [← hd, if_neg (by simp [hruns, hport, hdomain, hfollow])]
  rfl

end

/-! ## The loss of Syncs, and the end of the settling time (R401, R404) -/

section
variable {s : State}

theorem exec_ptpSyncLoss_stopped (hruns : s.dev.ptpRuns = false) : exec .ptpSyncLoss s = .next s := by
  show execPtpSyncLoss s = _
  unfold execPtpSyncLoss
  exact on_same (if_pos (by simp [hruns]))

/-- A device that may act as time transmitter does so once the Syncs have ended. -/
theorem exec_ptpSyncLoss (ha : Awake s) (hruns : s.dev.ptpRuns = true) {d : Dev}
    (hd : d = if s.dev.bit TIME_CFG 30 then s.dev.setBit TIME_STATUS 26 true else s.dev) :
    exec .ptpSyncLoss s = .next { s with dev := (if d.tb1State = 1 ∨ d.tb1State = 2 then d.ptpLost else d) } := by
  subst hd
  show execPtpSyncLoss s = _
  unfold execPtpSyncLoss
  rw [on_awake _ _ ha]
  exact next_congr (if_neg (by simp [hruns]))

theorem tb1State_setBit (d : Dev) {i : Nat} (hi : i < 30) (b : Bool) : (d.setBit TIME_STATUS i b).tb1State = d.tb1State :=
  fld_setBit_clear d _ _ _ (by decide) (Or.inl hi)

/-- The settling time of a grandmaster ends in LOCKING. -/
def Dev.settled (d : Dev) : Dev := (d.setTb1State 1).modTime (fun c => { c with settle := false, good := 0, bad := 0 })

theorem settled_state (d : Dev) : d.settled.tb1State = 1 ∧ d.settled.time.settle = false := by
  unfold Dev.settled
  rw [tb1State_modTime, tb1State_setTb1State _ (by decide)]
  exact ⟨rfl, rfl⟩

theorem exec_gmSettleExpiry (ha : Awake s) (hsettle : s.dev.time.settle = true) (hstate : s.dev.tb1State = 3) :
    exec .gmSettleExpiry s = .next { s with dev := s.dev.settled } := by
  show execGmSettleExpiry s = _
  unfold execGmSettleExpiry
  rw [on_awake _ _ ha]
  exact next_congr (if_pos ⟨hsettle, hstate⟩)

theorem exec_gmSettleExpiry_none (h : s.dev.time.settle = false ∨ s.dev.tb1State ≠ 3) :
    exec .gmSettleExpiry s = .next s := by
  show execGmSettleExpiry s = _
  unfold execGmSettleExpiry
  exact on_same (if_neg (by rintro ⟨hsettle, hstate⟩; simp_all))

end

/-! ## Links and frames (R401) -/

theorem ptpRuns_congr {a b : Dev} (hmode : a.mode = b.mode) (hcfg : a.rd TIME_CFG = b.rd TIME_CFG)
    (hdone : a.rd MODE_WD_STATUS = b.rd MODE_WD_STATUS) : a.ptpRuns = b.ptpRuns := by
  unfold Dev.ptpRuns Dev.wdDone Dev.bit
  rw [hmode, hcfg, hdone]

/-- The loss of a link bears on PTP where the stack runs and may change over, its port is this one, and the other is up. -/
theorem exec_ethLinkLoss {p : Fin 2} {s : State} {d : Dev} {other : Nat} (ha : Awake s)
    (hd : d = s.dev.setBit (TIME_ETH_STATUS p) 31 false) (hother : other = 1 - p.val) :
    exec (.ethLinkLoss p) s = .next { s with dev :=
      (if s.dev.ptpRuns && s.dev.bit TIME_CFG 24 && s.dev.fld TIME_STATUS 27 1 == p.val && s.dev.bit (TIME_ETH_STATUS other) 31
        then (d.setFld TIME_STATUS 27 1 other).gmChange s.dev.time.gm else d) } := by
  have hapart {off : Nat} (h : off ≠ TIME_ETH_STATUS p) : d.rd off = s.dev.rd off := by
    rw [hd, rd_setBit_other _ _ _ _ h]
  have hmode : d.mode = s.dev.mode := by rw [hd, Dev.setBit_mode]
  have htime : d.time = s.dev.time := by rw [hd, Dev.setBit_time]
  have hcfg := hapart (off := TIME_CFG) (by unfold TIME_CFG TIME_ETH_STATUS; omega)
  have hruns := ptpRuns_congr hmode hcfg (hapart (by unfold MODE_WD_STATUS TIME_ETH_STATUS; omega))
  have hport := fld_other (hapart (off := TIME_STATUS) (by unfold TIME_STATUS TIME_ETH_STATUS; omega)) 27 1
  have hup := bit_other (hapart (off := TIME_ETH_STATUS other) (by unfold TIME_ETH_STATUS; omega)) 31
  show execEthLinkLoss p s = _
  unfold execEthLinkLoss
  rw [on_awake _ _ ha]
  dsimp only
  rw [← hd, ← hother, hruns, bit_other hcfg, hport, hup, htime]

theorem ethUp_keeps (d : Dev) (e : Nat) (fast : Bool) : (d.ethUp e fast).mode = d.mode ∧ (d.ethUp e fast).time = d.time := by
  unfold Dev.ethUp
  exact ⟨Dev.wrN_mode .., Dev.wrN_time ..⟩

section
variable {p : Fin 2} {k : EthFrame} {s : State} {d : Dev} (ha : Awake s) (hd : d = s.dev.ethUp p k.fast)
include ha hd

/-- The port's own address `own` is asked for. -/
def asksFor (x : Option (List Byte)) (own : List Byte) : Bool :=
  match x with
  | some t => t == own && !allZero own
  | none => false

theorem exec_ethFrameReceived : exec (.ethFrameReceived p k) s = .next { s with dev :=
    (if !s.dev.mode.fwSup then d
      else if asksFor k.arp ((s.dev.time.addrs.drop (32 * p.val)).take 4) then d.send (.ethReply p false)
      else if asksFor k.nd (((s.dev.time.addrs.drop (32 * p.val)).drop 4).take 16) then d.send (.ethReply p true)
      else d) } := by
  show execEthFrameReceived p k s = _
  unfold execEthFrameReceived
  obtain ⟨hmode, htime⟩ := ethUp_keeps s.dev p k.fast
  rw [← hd] at hmode htime
  rw [on_awake _ _ ha]
  dsimp only
  rw [← hd, hmode, htime]
  rfl

theorem exec_ethFrameReceived_quiet (h : s.dev.mode.fwSup = false ∨ (k.arp = none ∧ k.nd = none)) :
    exec (.ethFrameReceived p k) s = .next { s with dev := d } := by
  rw [exec_ethFrameReceived ha hd]
  rcases h with h | ⟨harp, hnd⟩
  · rw [if_pos (by simp [h])]
  · rw [harp, hnd]
    simp [asksFor]

end

/-! ## What an interval sends (R402) -/

section
variable {s : State} (ha : Awake s)

theorem exec_ptpTxInterval_stopped (hruns : s.dev.ptpRuns = false) : exec .ptpTxInterval s = .next s := by
  show execPtpTxInterval s = _
  unfold execPtpTxInterval
  exact on_same (if_pos (by simp [hruns]))

include ha

theorem exec_ptpTxInterval {p stamp : Nat} (hp : p = s.dev.fld TIME_STATUS 27 1)
    (hstamp : stamp = s.dev.epoch * 16000000000 + s.dev.time.tb1 + s.dev.fld (TIME_ETH_EGR_LAT p) 0 16)
    (hruns : s.dev.ptpRuns = true) : exec .ptpTxInterval s = .next { s with dev :=
      (if s.dev.bit TIME_STATUS 26 then
        if s.dev.bit TIME_CFG 28 then s.dev.send (.ptp p 0 stamp) else (s.dev.send (.ptp p 0 0)).send (.ptp p 8 stamp)
      else if s.dev.tb1State = 1 ∨ s.dev.tb1State = 2 then s.dev.send (.ptp p (if s.dev.bit TIME_CFG 29 then 2 else 1) stamp)
      else s.dev) } := by
  show execPtpTxInterval s = _
  unfold execPtpTxInterval
  rw [on_awake _ _ ha]
  dsimp only
  rw [← hp, ← hstamp, if_neg (by simp [hruns])]

end

/-! ## The statement -/

theorem not_both {a b : Bool} (h : a = false ∨ b = false) : ¬ (a && b) = true := by
  rcases h with rfl | rfl <;> simp

theorem asksFor_own {x : Option (List Byte)} {own a : List Byte} (hx : x = some a) (ha : a = own) (hzero : allZero a = false) :
    asksFor x own = true := by
  subst hx ha
  simp [asksFor, hzero]

/-- Settles O50: a Sync by `exec_ptpSync_heard`, LOCKED by `syncIn_locked`, HOLDOVER by `ptpLost_holdover`. That the end of
Syncs with ROLE 1 makes the device a time transmitter, and that a received frame raises LINK, is log entry 58. -/
theorem networkTime : Obligations.NetworkTime := by
  refine ⟨fun p s d ha hd => ⟨fun h => exec_ptpSync_deaf ha hd h, fun hruns hport hdomain hfollow =>
      ⟨fun hrole hbetter => ?_, fun hno => ⟨fun hgm g hg => ?_, fun g hgm hg => ?_⟩⟩⟩,
    fun d p hlocked hnot => syncIn_locked hlocked hnot,
    fun s ha => ⟨fun hruns => exec_ptpSyncLoss_stopped hruns, fun hruns hrole => ⟨fun hstate => ?_, fun hstate => ?_⟩,
      fun hruns hrole hstate => ?_⟩,
    fun d hstate => ptpLost_holdover (Or.inr hstate),
    fun s ha hsettle hstate => ?_, fun s h => exec_gmSettleExpiry_none h,
    fun p s d other ha hd hother => ⟨fun h => ?_, fun hruns hcfg hport hup => ?_⟩,
    fun p k s d ha hd => ⟨fun h => exec_ethFrameReceived_quiet ha hd h, fun a hfw harp hown hzero => ?_,
      fun a hfw harp hnd hown hzero => ?_⟩,
    fun s p stamp ha hp hstamp => ⟨fun hruns => exec_ptpTxInterval_stopped hruns, fun hruns hrole => ?_,
      fun hruns hrole => ⟨fun hstate => ?_, fun hstate => ?_⟩⟩⟩
  · rw [exec_ptpSync_heard ha hd hruns hport hdomain hfollow, hrole, hbetter]
    rfl
  · rw [exec_ptpSync_heard ha hd hruns hport hdomain hfollow, if_neg (not_both hno),
      syncHeard_known (by rwa [Dev.setBit_time]), Dev.setBit_time, ← hg]
  · rw [exec_ptpSync_heard ha hd hruns hport hdomain hfollow, if_neg (not_both hno),
      syncHeard_other (by rw [Dev.setBit_time, hgm]) hg]
  · exact (exec_ptpSyncLoss ha hruns (if_neg (by simp [hrole])).symm).trans (next_congr (if_pos hstate))
  · exact (exec_ptpSyncLoss ha hruns (if_neg (by simp [hrole])).symm).trans (next_congr (if_neg (by omega)))
  · refine (exec_ptpSyncLoss ha hruns (if_pos hrole).symm).trans (next_congr (if_pos ?_))
    rwa [tb1State_setBit _ (by decide)]
  · obtain ⟨hlocking, hdone⟩ := settled_state s.dev
    exact ⟨_, exec_gmSettleExpiry ha hsettle hstate, ⟨rfl, rfl⟩, hlocking, hdone⟩
  · rw [exec_ethLinkLoss ha hd hother, if_neg]
    rcases h with h | h | h | h <;> simp [h]
  · rw [exec_ethLinkLoss ha hd hother, if_pos (by simp [hruns, hcfg, hport, hup])]
  · rw [exec_ethFrameReceived ha hd, if_neg (by simp [hfw]), if_pos (asksFor_own harp hown hzero)]
  · rw [exec_ethFrameReceived ha hd, if_neg (by simp [hfw]), if_neg (by simp [asksFor, harp]),
      if_pos (asksFor_own hnd hown hzero)]
  · rw [exec_ptpTxInterval ha hp hstamp hruns, if_pos hrole]
  · rw [exec_ptpTxInterval ha hp hstamp hruns, if_neg (by simp [hrole]), if_pos hstate]
  · rw [exec_ptpTxInterval ha hp hstamp hruns, if_neg (by simp [hrole]), if_neg (by omega)]

end Sys2Proof.Machine
end

section
/-! SUPPORT. Timed outputs and captures, and O51 (R405 to R410). -/

namespace Sys2Proof

theorem Word.bit_putBit_same (w : Word) {i : Nat} (hi : i < 32) (b : Bool) : (w.putBit i b).bit i = b := by
  rw [Word.putBit, Word.bit_put _ _ _ _ _ hi, if_pos (by omega)]
  cases b <;> simp

theorem Word.bit_putBit_apart (w : Word) {i j : Nat} (hj : j < 32) (h : j ≠ i) (b : Bool) : (w.putBit i b).bit j = w.bit j := by
  rw [Word.putBit, Word.bit_put _ _ _ _ _ hj, if_neg (by omega)]

theorem Word.get_putBit_apart (w : Word) {i lo n : Nat} (hn : lo + n ≤ 32) (h : lo + n ≤ i ∨ i < lo) (b : Bool) :
    (w.putBit i b).get lo n = w.get lo n := by
  rw [Word.putBit, Word.get_put_apart _ _ _ _ _ _ hn (by omega)]

/-- The low bits of a field. -/
theorem Word.get_low (w : Word) (lo : Nat) {n m : Nat} (h : m ≤ n) : w.get lo m = w.get lo n % 2 ^ m :=
  (Nat.mod_mod_of_dvd _ (pow_dvd_pow 2 h)).symm

end Sys2Proof

namespace Sys2Proof.Machine

/-! ## The outputs (R405, R406) -/

theorem tout_modTout_same (d : Dev) {i : Nat} (f : Tout → Tout) (h : i < d.time.outs.length) :
    (d.modTout i f).tout i = f (d.tout i) := getD_modAt_same _ _ _ _ h

theorem tout_modTout_other (d : Dev) {i j : Nat} (f : Tout → Tout) (h : j ≠ i) : (d.modTout i f).tout j = d.tout j :=
  getD_modAt_other _ _ _ _ _ h

theorem modTout_keeps (d : Dev) (i : Nat) (f : Tout → Tout) : (∀ k, (d.modTout i f).base k = d.base k) ∧
    ∀ off, (d.modTout i f).rd off = d.rd off := ⟨fun _ => rfl, fun _ => rfl⟩

theorem showNext_keeps (d : Dev) (i : Nat) : (d.showNext i).time = d.time ∧ (∀ k, (d.showNext i).base k = d.base k) ∧
    ∀ off, off ≠ TIME_TOUT_NEXT_LO i → off ≠ TIME_TOUT_NEXT_HI i → (d.showNext i).rd off = d.rd off := by
  refine ⟨rfl, fun _ => rfl, fun off hlo hhi => ?_⟩
  unfold Dev.showNext Dev.wr64
  rw [rd_wrN_other _ _ _ hhi, rd_wrN_other _ _ _ hlo]

theorem tout_of_time {a b : Dev} (h : a.time = b.time) (i : Nat) : a.tout i = b.tout i := by rw [Dev.tout, h, Dev.tout]

theorem base_of_bases {a b : Dev} (htb0 : a.tb0 = b.tb0) (h : SameBases b a) (k : Nat) : a.base k = b.base k := by
  unfold Dev.base
  rw [htb0, h.1, h.2]

/-! ## TIME_TOUT_ARM (R405 to R407) -/

/-- The start of a command writes no register. -/
theorem rd_started (s : State) (op : Nat) (r : Req) (off : Nat) : (started s op r).rd off = s.dev.rd off := rfl

/-- The configuration of an output that is armed on base k. -/
def armedWord (w : Word) (k : Nat) (inv per : Bool) : Word := (((w.put 24 8 k).putBit 29 inv).putBit 30 per).putBit 31 true

theorem armedWord_shows (w : Word) {k : Nat} (hk : k < 4) (inv per : Bool) : (armedWord w k inv per).bit 31 = true ∧
    (armedWord w k inv per).bit 30 = per ∧ (armedWord w k inv per).get 24 2 = k := by
  unfold armedWord
  refine ⟨Word.bit_putBit_same _ (by decide) _, ?_, ?_⟩
  · rw [Word.bit_putBit_apart _ (by decide) (by decide), Word.bit_putBit_same _ (by decide)]
  · rw [Word.get_putBit_apart _ (by decide) (by decide), Word.get_putBit_apart _ (by decide) (by decide),
      Word.get_putBit_apart _ (by decide) (by decide), Word.get_low _ 24 (show 2 ≤ 8 by decide),
      Word.get_put_same _ _ _ _ (by decide)]
    omega

/-- The instant a TIME_TOUT_ARM names. -/
def armStart (q : Req) : Nat := q.a1.toNat + q.a2.toNat * 2 ^ 32

/-- An output, armed as the descriptor says. -/
def armedOut (q : Req) (x : Tout) : Tout :=
  { x with next := armStart q, period := if q.a0.bit 8 then q.a3.toNat * 16 else 0, width := q.a4.toNat * 16 }

theorem armedOut_pulse (q : Req) (x : Tout) : (armedOut q x).pulse = x.pulse := by
  unfold armedOut
  rfl

/-- Output i armed on base k, as the descriptor says. -/
def Dev.armed (d : Dev) (q : Req) (i k : Nat) : Dev :=
  ((((d.wr (TIME_TOUT_CFG i) (armedWord (d.rd (TIME_TOUT_CFG i)) k (q.a0.bit 9) (q.a0.bit 8))).wr (TIME_TOUT_PERIOD i) q.a3).wr
    (TIME_TOUT_WIDTH i) q.a4).modTout i (armedOut q)).showNext i

/-- The registers of an armed output: its own configuration, and the count of skipped edges as it was. -/
theorem armed_regs (d : Dev) (q : Req) (i k : Nat) :
    (d.armed q i k).rd (TIME_TOUT_CFG i) = armedWord (d.rd (TIME_TOUT_CFG i)) k (q.a0.bit 9) (q.a0.bit 8) ∧
    (d.armed q i k).rd (TIME_TOUT_SKIP_CNT i) = d.rd (TIME_TOUT_SKIP_CNT i) := by
  unfold Dev.armed
  constructor
  · rw [(showNext_keeps _ i).2.2 _ (by unfold TIME_TOUT_CFG TIME_TOUT_NEXT_LO; omega)
      (by unfold TIME_TOUT_CFG TIME_TOUT_NEXT_HI; omega), (modTout_keeps _ i _).2,
      Dev.rd_wr_other _ _ _ _ (by unfold TIME_TOUT_CFG TIME_TOUT_WIDTH; omega),
      Dev.rd_wr_other _ _ _ _ (by unfold TIME_TOUT_CFG TIME_TOUT_PERIOD; omega), Dev.rd_wr_same]
  · rw [(showNext_keeps _ i).2.2 _ (by unfold TIME_TOUT_SKIP_CNT TIME_TOUT_NEXT_LO; omega)
      (by unfold TIME_TOUT_SKIP_CNT TIME_TOUT_NEXT_HI; omega), (modTout_keeps _ i _).2,
      Dev.rd_wr_other _ _ _ _ (by unfold TIME_TOUT_SKIP_CNT TIME_TOUT_WIDTH; omega),
      Dev.rd_wr_other _ _ _ _ (by unfold TIME_TOUT_SKIP_CNT TIME_TOUT_PERIOD; omega),
      Dev.rd_wr_other _ _ _ _ (by unfold TIME_TOUT_SKIP_CNT TIME_TOUT_CFG; omega)]

theorem armed_shows (d : Dev) (q : Req) {i k : Nat} (hk : k < 4) :
    (d.armed q i k).bit (TIME_TOUT_CFG i) 31 = true ∧ (d.armed q i k).bit (TIME_TOUT_CFG i) 30 = q.a0.bit 8 := by
  obtain ⟨hcfg, -⟩ := armed_regs d q i k
  obtain ⟨hon, hper, -⟩ := armedWord_shows (d.rd (TIME_TOUT_CFG i)) hk (q.a0.bit 9) (q.a0.bit 8)
  unfold Dev.bit
  rw [hcfg]
  exact ⟨hon, hper⟩

/-- What an armed output will do; the others go on. -/
theorem armed_tout (d : Dev) (q : Req) {i : Nat} (k : Nat) (hi : i < d.time.outs.length) :
    (d.armed q i k).tout i = armedOut q (d.tout i) ∧
    ∀ j, j ≠ i → (d.armed q i k).tout j = d.tout j := by
  have hwr (x : Dev) (off : Nat) (w : Word) : (x.wr off w).time = x.time := Dev.wr_time ..
  have htime : (((d.wr (TIME_TOUT_CFG i) (armedWord (d.rd (TIME_TOUT_CFG i)) k (q.a0.bit 9) (q.a0.bit 8))).wr
      (TIME_TOUT_PERIOD i) q.a3).wr (TIME_TOUT_WIDTH i) q.a4).time = d.time := by rw [hwr, hwr, hwr]
  unfold Dev.armed
  refine ⟨?_, fun j hj => ?_⟩
  · rw [tout_of_time (showNext_keeps _ i).1, tout_modTout_same _ _ (by rw [htime]; exact hi), tout_of_time htime]
  · rw [tout_of_time (showNext_keeps _ i).1, tout_modTout_other _ _ hj, tout_of_time htime]

theorem armed_base (d : Dev) (q : Req) (i k j : Nat) : (d.armed q i k).base j = d.base j := by
  have hwr (x : Dev) (off : Nat) (w : Word) : (x.wr off w).base j = x.base j := rfl
  unfold Dev.armed
  rw [(showNext_keeps _ i).2.1, (modTout_keeps _ i _).1, hwr, hwr, hwr]

theorem armed_outs (d : Dev) (q : Req) (i k : Nat) : (d.armed q i k).time.outs.length = d.time.outs.length := by
  have hwr (x : Dev) (off : Nat) (w : Word) : (x.wr off w).time = x.time := Dev.wr_time ..
  have hmod (x : Dev) (f : Tout → Tout) : (x.modTout i f).time.outs.length = x.time.outs.length := modAt_length ..
  unfold Dev.armed
  rw [(showNext_keeps _ i).1, hmod, hwr, hwr, hwr]

/-- A TIME_TOUT_ARM arms its output; what has passed by then is skipped, with its fault. -/
theorem timeToutArm_effect (d : Dev) (q : Req) (e : Env) {i k : Nat} (hi : i = q.a0.get 0 3) (hk : k = q.a0.get 4 2) :
    cmdTimeToutArm.effect q e d = (if armStart q < (d.armed q i k).base k then
        ((d.armed q i k).skipEdges i ((d.armed q i k).base k)).fault 35 7 else d.armed q i k).ok q 0 0 0 0 := by
  subst hi hk
  rfl

/-- A one-shot whose start has passed is off, and late. -/
theorem skipEdges_late {d : Dev} {i : Nat} (now : Nat) (hone : d.bit (TIME_TOUT_CFG i) 30 = false) :
    (d.skipEdges i now).bit (TIME_TOUT_CFG i) 31 = false ∧ (d.skipEdges i now).bit (TIME_TOUT_CFG i) 28 = true := by
  unfold Dev.skipEdges
  dsimp only
  rw [if_neg (by simp [hone])]
  refine ⟨?_, bit_setBit_same _ _ _ _ (by decide)⟩
  rw [bit_setBit_apart _ _ _ _ _ (by decide) (by decide), bit_setBit_same _ _ _ _ (by decide)]

/-- How many periods of `per` from `start` have passed by `now`, with the one in which it lies. -/
def periodsPast (start per now : Nat) : Nat := (now - start) / Nat.max 1 per + 1

/-- The first edge that has not passed lies within a period of now. -/
theorem periodsPast_next {start per now : Nat} (hper : 0 < per) (h : start < now) :
    now < start + periodsPast start per now * per ∧ start + periodsPast start per now * per ≤ now + per := by
  have hmax : Nat.max 1 per = per := Nat.max_eq_right hper
  have hdiv := Nat.div_add_mod (now - start) per
  have hmod := Nat.mod_lt (now - start) hper
  unfold periodsPast
  rw [hmax, Nat.add_mul, Nat.mul_comm ((now - start) / per), Nat.one_mul]
  omega

/-- A periodic output skips the edges that have passed, counts them, and stays armed. -/
theorem skipEdges_periodic {d : Dev} {i : Nat} (now : Nat) (hi : i < d.time.outs.length)
    (hper : d.bit (TIME_TOUT_CFG i) 30 = true) :
    (d.skipEdges i now).bit (TIME_TOUT_CFG i) 31 = d.bit (TIME_TOUT_CFG i) 31 ∧
    ((d.skipEdges i now).tout i).next =
      (d.tout i).next + periodsPast (d.tout i).next (d.tout i).period now * (d.tout i).period ∧
    (d.skipEdges i now).rd (TIME_TOUT_SKIP_CNT i) =
      satInc (d.rd (TIME_TOUT_SKIP_CNT i)) (periodsPast (d.tout i).next (d.tout i).period now) := by
  unfold Dev.skipEdges
  dsimp only
  rw [if_pos hper]
  change ((((d.count (TIME_TOUT_SKIP_CNT i) (periodsPast (d.tout i).next (d.tout i).period now)).modTout i (fun x => { x with
      next := x.next + periodsPast (d.tout i).next (d.tout i).period now * x.period })).showNext i).bit (TIME_TOUT_CFG i) 31 = _ ∧
    Tout.next ((((d.count (TIME_TOUT_SKIP_CNT i) (periodsPast (d.tout i).next (d.tout i).period now)).modTout i (fun x => { x with
      next := x.next + periodsPast (d.tout i).next (d.tout i).period now * x.period })).showNext i).tout i) = _ ∧
    (((d.count (TIME_TOUT_SKIP_CNT i) (periodsPast (d.tout i).next (d.tout i).period now)).modTout i (fun x => { x with
      next := x.next + periodsPast (d.tout i).next (d.tout i).period now * x.period })).showNext i).rd (TIME_TOUT_SKIP_CNT i) = _)
  generalize periodsPast (d.tout i).next (d.tout i).period now = n
  have htime : (d.count (TIME_TOUT_SKIP_CNT i) n).time = d.time := Dev.count_time ..
  refine ⟨bit_other ?_ 31, ?_, ?_⟩
  · rw [(showNext_keeps _ i).2.2 _ (by unfold TIME_TOUT_CFG TIME_TOUT_NEXT_LO; omega)
      (by unfold TIME_TOUT_CFG TIME_TOUT_NEXT_HI; omega), (modTout_keeps _ i _).2]
    exact Dev.rd_wr_other _ _ _ _ (by unfold TIME_TOUT_CFG TIME_TOUT_SKIP_CNT; omega)
  · rw [tout_of_time (showNext_keeps _ i).1, tout_modTout_same _ _ (by rw [htime]; exact hi), tout_of_time htime]
  · rw [(showNext_keeps _ i).2.2 _ (by unfold TIME_TOUT_SKIP_CNT TIME_TOUT_NEXT_LO; omega)
      (by unfold TIME_TOUT_SKIP_CNT TIME_TOUT_NEXT_HI; omega), (modTout_keeps _ i _).2]
    exact Dev.rd_wr_same _ _ _

/-- A period of fewer than 100 is refused. -/
theorem timeToutArm_check {d : Dev} {q : Req} (h : cmdTimeToutArm.check d q = none) (hper : q.a0.bit 8 = true) :
    0 < q.a3.toNat := by
  unfold cmdTimeToutArm at h
  have hlim := (firstFail_none_iff _).mp h (limitIf (decide (q.a4.toNat < 10) ||
    (q.a0.bit 8 && (decide (q.a3.toNat < 100) || decide (q.a3.toNat ≤ q.a4.toNat)))) 0x0902) (by simp)
  simp [limitIf, hper] at hlim
  omega

/-- A periodic output that is armed late skips to the first edge to come. -/
theorem armed_late (d : Dev) {q : Req} {i k now : Nat} (hk : k < 4) (hi : i < d.time.outs.length) (hper : q.a0.bit 8 = true)
    (hpos : 0 < q.a3.toNat) (hstart : armStart q < now) :
    ((d.armed q i k).skipEdges i now).bit (TIME_TOUT_CFG i) 31 = true ∧
    now < (((d.armed q i k).skipEdges i now).tout i).next ∧
    (((d.armed q i k).skipEdges i now).tout i).next ≤ now + q.a3.toNat * 16 ∧
    ∃ n, (((d.armed q i k).skipEdges i now).tout i).next = armStart q + n * (q.a3.toNat * 16) ∧
      ((d.armed q i k).skipEdges i now).rd (TIME_TOUT_SKIP_CNT i) = satInc (d.rd (TIME_TOUT_SKIP_CNT i)) n := by
  obtain ⟨hon, hbit⟩ := armed_shows d q (i := i) hk
  obtain ⟨-, hskip⟩ := armed_regs d q i k
  obtain ⟨hout, -⟩ := armed_tout d q k hi
  rw [← armed_outs d q i k] at hi
  generalize d.armed q i k = a at *
  have hnext : (a.tout i).next = armStart q := congrArg Tout.next hout
  have hperiod : (a.tout i).period = q.a3.toNat * 16 := (congrArg Tout.period hout).trans (if_pos hper)
  obtain ⟨hon', hnext', hcnt⟩ := skipEdges_periodic now hi (hbit.trans hper)
  have hpast := periodsPast_next (Nat.mul_pos hpos (show 0 < 16 by decide)) hstart
  rw [hperiod, hnext] at hnext' hcnt
  rw [hskip] at hcnt
  exact ⟨hon'.trans hon, by rw [hnext']; exact hpast.1, by rw [hnext']; exact hpast.2, _, hnext', hcnt⟩

/-- An output that starts in time is armed. -/
theorem exec_timeToutArm_armed {r : Req} {e : Env} {s : State} {i k : Nat} (h : Takes s 0x0902 cmdTimeToutArm r)
    (hi : i = r.a0.get 0 3) (hk : k = r.a0.get 4 2) (hlen : s.dev.time.outs.length = 8)
    (hstart : s.dev.base k ≤ armStart r) :
    ∃ d : Dev, exec (.timeToutArm r e) s = .next { s with dev := d } ∧ d.bit (TIME_TOUT_CFG i) 31 = true ∧
      d.fld (TIME_TOUT_CFG i) 24 2 = k ∧ d.bit (TIME_TOUT_CFG i) 30 = r.a0.bit 8 ∧
      d.tout i = armedOut r (s.dev.tout i) ∧
      ∀ j, j ≠ i → d.tout j = s.dev.tout j := by
  have hexec := command_takes s 0x0902 cmdTimeToutArm r e h
  have hi8 : i < (started s 0x0902 r).time.outs.length := hi ▸ hlen.symm ▸ Word.get_lt r.a0 0 3
  have hk4 : k < 4 := hk ▸ Word.get_lt r.a0 4 2
  obtain ⟨hcfg, -⟩ := armed_regs (started s 0x0902 r) (asOp 0x0902 r) i k
  obtain ⟨hout, hother⟩ := armed_tout (started s 0x0902 r) (asOp 0x0902 r) k hi8
  have hbase := armed_base (started s 0x0902 r) (asOp 0x0902 r) i k
  rw [timeToutArm_effect (q := asOp 0x0902 r) _ e hi hk, if_neg (by rw [hbase]; exact Nat.not_lt.mpr hstart)] at hexec
  generalize hd : (started s 0x0902 r).armed (asOp 0x0902 r) i k = d at hexec hcfg hout hother
  have hreg : (d.ok (asOp 0x0902 r) 0 0 0 0).rd (TIME_TOUT_CFG i) = d.rd (TIME_TOUT_CFG i) := rd_ok ..
  have htime : (d.ok (asOp 0x0902 r) 0 0 0 0).time = d.time := (hostSide_ok ..).bases.2
  obtain ⟨hon, hper, hof⟩ := armedWord_shows ((started s 0x0902 r).rd (TIME_TOUT_CFG i)) hk4
    ((asOp 0x0902 r).a0.bit 9) ((asOp 0x0902 r).a0.bit 8)
  rw [← hcfg] at hon hper hof
  exact ⟨_, hexec, (bit_other hreg 31).trans hon, (fld_other hreg 24 2).trans hof, (bit_other hreg 30).trans hper,
    (tout_of_time htime i).trans hout, fun j hj => (tout_of_time htime j).trans (hother j hj)⟩

/-- What a TIME_TOUT_ARM that comes late skips. -/
theorem exec_timeToutArm_late {r : Req} {e : Env} {s : State} {i k : Nat} (h : Takes s 0x0902 cmdTimeToutArm r)
    (hi : i = r.a0.get 0 3) (hk : k = r.a0.get 4 2) (hstart : armStart r < s.dev.base k) :
    exec (.timeToutArm r e) s = .next { s with dev :=
      ((((started s 0x0902 r).armed (asOp 0x0902 r) i k).skipEdges i (s.dev.base k)).fault 35 7).ok (asOp 0x0902 r) 0 0 0 0 } := by
  refine (command_takes s 0x0902 cmdTimeToutArm r e h).trans (next_congr ?_)
  have hbase : ((started s 0x0902 r).armed (asOp 0x0902 r) i k).base k = s.dev.base k := armed_base ..
  rw [timeToutArm_effect (q := asOp 0x0902 r) _ e hi hk, hbase]
  exact congrArg (fun d : Dev => d.ok (asOp 0x0902 r) 0 0 0 0) (if_pos hstart)

/-! ## Edges of an output (R406) -/

theorem pass_outs (d : Dev) (z run : Nat) (k : Int) : (d.pass z run k).time.outs = d.time.outs ∧
    (d.pass z run k).time.stops = d.time.stops := by
  have htb2 (c : TimeCtl) (t : Nat) : (c.tb2Go t run).outs = c.outs ∧ (c.tb2Go t run).stops = c.stops := by
    unfold TimeCtl.tb2Go
    split
    · exact ⟨rfl, rfl⟩
    · split
      · split <;> exact ⟨rfl, rfl⟩
      · exact ⟨rfl, rfl⟩
  exact htb2 d.time (((d.tb3 + run : Nat) : Int) + k).toNat

theorem advanceTo_pass (d : Dev) (t : Nat) : d.advanceTo t = d ∨ ∃ z run k r0 rs, d.advanceTo t =
    { d.pass z run k with time := { (d.pass z run k).time with rem0 := r0, remSlew := rs } } := by
  unfold Dev.advanceTo
  dsimp only
  split
  · exact Or.inl rfl
  · exact Or.inr ⟨_, _, _, _, _, rfl⟩

/-- Time that goes on leaves the outputs and the stops that wait. -/
theorem advanceTo_outs (d : Dev) (t : Nat) : (d.advanceTo t).time.outs = d.time.outs ∧
    (d.advanceTo t).time.stops = d.time.stops := by
  rcases advanceTo_pass d t with h | ⟨z, run, k, _, _, h⟩
  · rw [h]
    exact ⟨rfl, rfl⟩
  · have hpass := pass_outs d z run k
    rw [h]
    generalize d.pass z run k = y at hpass
    exact hpass

/-- Where no stop waits, none ends. -/
theorem endStops_out {d : Dev} (h : d.time.stops = []) : d.endStops.out = d.out := by
  unfold Dev.endStops
  dsimp only
  rw [h, List.filter_nil, List.foldl_nil, Dev.modTime_out]

/-- Stops that end leave the outputs and the registers. -/
theorem endStops_keeps (d : Dev) : d.endStops.time.outs = d.time.outs ∧ ∀ off, d.endStops.rd off = d.rd off := by
  have hfold (l : List Req) (x : Dev) : HostSide x (l.foldl (fun d q => d.ok q 0 0 0 0) x) ∧
      ∀ off, (l.foldl (fun d q => d.ok q 0 0 0 0) x).rd off = x.rd off :=
    ⟨foldl_keeps HostSide HostSide.refl (fun _ _ _ => HostSide.trans) _ (fun _ _ => hostSide_ok ..) l x,
      fun off => foldl_keeps (fun a b : Dev => b.rd off = a.rd off) (fun _ => rfl)
        (fun (a b c : Dev) (h : b.rd off = a.rd off) (k : c.rd off = b.rd off) => k.trans h) _
        (fun _ _ => rd_ok ..) l x⟩
  unfold Dev.endStops
  extract_lets ovr done d1
  obtain ⟨hside, hrd⟩ := hfold done d1
  have hmod : d1.time.outs = d.time.outs := rfl
  exact ⟨(congrArg TimeCtl.outs hside.bases.2).trans hmod, hrd⟩

/-- Output i pulses: its edge leaves the device. -/
def Dev.pulsed (d : Dev) (i : Nat) (edge : Output) : Dev :=
  (d.send edge).modTout i (fun x => { x with pulse := some ((d.send edge).tb0 + x.width), next := x.next + x.period })

/-- It goes on where it is periodic, and is off else. -/
def Dev.pulseOver (d : Dev) (i : Nat) : Dev :=
  if d.bit (TIME_TOUT_CFG i) 30 then d.showNext i else d.setBit (TIME_TOUT_CFG i) 31 false

theorem pulsed_keeps (d : Dev) {i : Nat} (edge : Output) (hi : i < d.time.outs.length) :
    (d.pulsed i edge).out = edge :: d.out ∧
    (d.pulsed i edge).tout i = { d.tout i with
      pulse := some (d.tb0 + (d.tout i).width), next := (d.tout i).next + (d.tout i).period } ∧
    (d.pulsed i edge).time.stops = d.time.stops ∧ ∀ off, (d.pulsed i edge).rd off = d.rd off :=
  ⟨rfl, tout_modTout_same (d.send edge) _ hi, rfl, fun _ => rfl⟩

theorem showNext_out (d : Dev) (i : Nat) : (d.showNext i).out = d.out := Dev.wr64_out ..

theorem pulseOver_keeps (d : Dev) (i : Nat) : (d.pulseOver i).out = d.out ∧ (d.pulseOver i).time = d.time ∧
    (d.bit (TIME_TOUT_CFG i) 31 = true →
      (d.pulseOver i).bit (TIME_TOUT_CFG i) 31 = d.bit (TIME_TOUT_CFG i) 30) := by
  unfold Dev.pulseOver
  split
  · next hper =>
    refine ⟨showNext_out d i, (showNext_keeps d i).1, fun hon => ?_⟩
    rw [bit_other ((showNext_keeps d i).2.2 _ (by unfold TIME_TOUT_CFG TIME_TOUT_NEXT_LO; omega)
      (by unfold TIME_TOUT_CFG TIME_TOUT_NEXT_HI; omega)), hon, hper]
  · next hone =>
    refine ⟨Dev.setBit_out .., Dev.setBit_time .., fun _ => ?_⟩
    rw [bit_setBit_same _ _ _ _ (by decide)]
    simpa using hone

theorem exec_toutEdge {i : Fin 8} {s : State} {k : Nat} {d : Dev} (ha : Awake s) (hon : s.dev.bit (TIME_TOUT_CFG i) 31 = true)
    (hrun : s.dev.fld (TIME_TOUT_CFG i) 24 2 = 2 → s.dev.time.tb2Run = true) (hk : k = s.dev.fld (TIME_TOUT_CFG i) 24 2)
    (hd : d = s.dev.advanceTo (s.dev.tb3 + ((s.dev.tout i).next - s.dev.base k))) :
    exec (.toutEdge i) s = .next { s with dev := ((d.pulsed i (.tout i k (s.dev.tout i).next
      (s.dev.tout i).width (d.bit (TIME_TOUT_CFG i) 29))).pulseOver i).endStops } := by
  show execToutEdge i s = _
  unfold execToutEdge
  rw [on_awake _ _ ha]
  refine next_congr ((if_neg (by simpa [hon] using hrun)).trans ?_)
  subst hk hd
  unfold Dev.pulseOver Dev.pulsed
  with_reducible rfl

theorem exec_toutEdge_idle {i : Fin 8} {s : State} (h : s.dev.bit (TIME_TOUT_CFG i) 31 = false ∨
    (s.dev.fld (TIME_TOUT_CFG i) 24 2 = 2 ∧ s.dev.time.tb2Run = false)) : exec (.toutEdge i) s = .next s := by
  show execToutEdge i s = _
  unfold execToutEdge
  exact on_same (if_pos (by simpa using h))

/-! ## TIME_TOUT_STOP, and captures (R406, R409, R410) -/

/-- Outputs turned off: those that are named. -/
theorem touts_off (l : List Nat) (d : Dev) {i : Nat} :
    (l.foldl (fun d j => d.setBit (TIME_TOUT_CFG j) 31 false) d).bit (TIME_TOUT_CFG i) 31 =
      (d.bit (TIME_TOUT_CFG i) 31 && !decide (i ∈ l)) := by
  induction l generalizing d with
  | nil => simp
  | cons j l ih =>
    rw [List.foldl_cons, ih]
    by_cases hij : i = j
    · subst hij
      simp [bit_setBit_same _ _ 31 _ (by decide)]
    · have hne : TIME_TOUT_CFG i ≠ TIME_TOUT_CFG j := by unfold TIME_TOUT_CFG; omega
      rw [bit_other (rd_setBit_other _ _ _ _ hne) 31]
      simp [hij]

theorem touts_off_time (l : List Nat) (d : Dev) :
    (l.foldl (fun d j => d.setBit (TIME_TOUT_CFG j) 31 false) d).time = d.time :=
  foldl_keeps (fun a b : Dev => b.time = a.time) (fun _ => rfl)
    (fun (a b c : Dev) (h : b.time = a.time) (k : c.time = b.time) => k.trans h) _ (fun _ _ => Dev.setBit_time ..) l d

/-- An edge that is captured: the bases are latched, and it is an event. -/
def Dev.latched (d : Dev) (i : Nat) (payload : List Byte) : Dev :=
  let d := d.modTime (fun c => { c with caps := c.caps.set i (some d.tb0) })
  let d := (d.wr64 (TIME_TCAP_TB3_LO i) (TIME_TCAP_TB3_HI i) d.tb3).wr64 (TIME_TCAP_TB1_LO i) (TIME_TCAP_TB1_HI i)
    d.time.tb1
  d.emit 35 0x41 payload

theorem rd64_of_rd {a b : Dev} (h : ∀ off, b.rd off = a.rd off) (lo hi : Nat) : b.rd64 lo hi = a.rd64 lo hi := by
  unfold Dev.rd64
  rw [h, h]

/-- The registers of a capture show its instants. -/
theorem latched_shows (d : Dev) (i : Nat) (payload : List Byte) :
    (d.latched i payload).rd64 (TIME_TCAP_TB3_LO i) (TIME_TCAP_TB3_HI i) = d.tb3 % 2 ^ 64 ∧
    (d.latched i payload).rd64 (TIME_TCAP_TB1_LO i) (TIME_TCAP_TB1_HI i) = d.time.tb1 % 2 ^ 64 := by
  unfold Dev.latched
  extract_lets d1 d2
  have hemit (off : Nat) : (d2.emit 35 0x41 payload).rd off = d2.rd off := (linkSide_emit d2 35 0x41 payload).rd_eq off
  rw [rd64_of_rd hemit, rd64_of_rd hemit]
  constructor
  · refine (rd64_wr64_other _ _ ?_ ?_).trans (rd64_wr64_same _ _ ?_)
    · unfold TIME_TCAP_TB3_LO TIME_TCAP_TB1_LO TIME_TCAP_TB1_HI
      omega
    · unfold TIME_TCAP_TB3_HI TIME_TCAP_TB1_LO TIME_TCAP_TB1_HI
      omega
    · unfold TIME_TCAP_TB3_LO TIME_TCAP_TB3_HI
      omega
  · exact rd64_wr64_same _ _ (by unfold TIME_TCAP_TB1_LO TIME_TCAP_TB1_HI; omega)

/-- TIME_TOUT_STOP turns its outputs off. -/
theorem exec_timeToutStop {r : Req} {e : Env} {s : State} (h : Takes s 0x0903 cmdTimeToutStop r) :
    ∃ d : Dev, exec (.timeToutStop r e) s = .next { s with dev := d } ∧
      (∀ i, i < 8 → d.bit (TIME_TOUT_CFG i) 31 = (s.dev.bit (TIME_TOUT_CFG i) 31 && !r.a0.bit i)) ∧
      d.time.outs = s.dev.time.outs := by
  have hexec : exec (.timeToutStop r e) s = .next { s with dev :=
      (((bitList 8 r.a0.toNat).foldl (fun d j => d.setBit (TIME_TOUT_CFG j) 31 false) (started s 0x0903 r)).modTime
        (fun c => { c with stops := c.stops ++ [asOp 0x0903 r] })).endStops } := command_takes s 0x0903 cmdTimeToutStop r e h
  have hbit (i : Nat) := touts_off (bitList 8 r.a0.toNat) (started s 0x0903 r) (i := i)
  have htime := touts_off_time (bitList 8 r.a0.toNat) (started s 0x0903 r)
  generalize (bitList 8 r.a0.toNat).foldl (fun d j => d.setBit (TIME_TOUT_CFG j) 31 false) (started s 0x0903 r) = d
    at hexec hbit htime
  obtain ⟨houts, hregs⟩ := endStops_keeps (d.modTime (fun c => { c with stops := c.stops ++ [asOp 0x0903 r] }))
  refine ⟨_, hexec, fun i hi => ?_, houts.trans (Eq.trans (b := d.time.outs) rfl (congrArg TimeCtl.outs htime))⟩
  have hmem : decide (i ∈ bitList 8 r.a0.toNat) = r.a0.bit i := by
    rw [Bool.eq_iff_iff, decide_eq_true_iff, mem_bitList_toNat]
    exact and_iff_right hi
  rw [bit_other (hregs _) 31, ← hmem]
  exact (hbit i).trans (congrArg (· && _) (bit_other (rd_started s 0x0903 r _) 31))

/-- An edge of an output that is armed and runs. -/
theorem exec_toutEdge_pulses {i : Fin 8} {s : State} {d : Dev} (ha : Awake s)
    (hon : s.dev.bit (TIME_TOUT_CFG i) 31 = true) (hlen : s.dev.time.outs.length = 8) (hstops : s.dev.time.stops = [])
    (hrun : s.dev.fld (TIME_TOUT_CFG i) 24 2 = 2 → s.dev.time.tb2Run = true)
    (hd : d = s.dev.advanceTo (s.dev.tb3 + ((s.dev.tout i).next - s.dev.base (s.dev.fld (TIME_TOUT_CFG i) 24 2)))) :
    ∃ y : Dev, exec (.toutEdge i) s = .next { s with dev := y } ∧
      y.out = .tout i (s.dev.fld (TIME_TOUT_CFG i) 24 2) (s.dev.tout i).next (s.dev.tout i).width
        (s.dev.bit (TIME_TOUT_CFG i) 29) :: s.dev.out ∧
      y.tout i = { s.dev.tout i with pulse := some (d.tb0 + (s.dev.tout i).width)
                                     next := (s.dev.tout i).next + (s.dev.tout i).period } ∧
      y.bit (TIME_TOUT_CFG i) 31 = s.dev.bit (TIME_TOUT_CFG i) 30 := by
  have hexec := exec_toutEdge ha hon hrun rfl hd
  have hadv : d.time.outs = s.dev.time.outs ∧ d.time.stops = s.dev.time.stops := hd ▸ advanceTo_outs s.dev _
  obtain ⟨hrd, hsent⟩ : (∀ off, d.rd off = s.dev.rd off) ∧ d.out = s.dev.out := by
    obtain ⟨_, _, _, h⟩ := advanceTo_eq s.dev (s.dev.tb3 + ((s.dev.tout i).next - s.dev.base (s.dev.fld (TIME_TOUT_CFG i) 24 2)))
    rw [hd, h]
    exact ⟨fun _ => rfl, rfl⟩
  obtain ⟨houts, hwait⟩ := hadv
  clear hd
  have htout : d.tout i = s.dev.tout i := by rw [Dev.tout, houts, Dev.tout]
  generalize hedge : Output.tout i (s.dev.fld (TIME_TOUT_CFG i) 24 2) (s.dev.tout i).next (s.dev.tout i).width
    (d.bit (TIME_TOUT_CFG i) 29) = edge at hexec
  rw [bit_other (hrd _) 29] at hedge
  obtain ⟨hout, hpulse, hstop, hregs⟩ := pulsed_keeps d (i := i) edge (by rw [houts, hlen]; exact i.isLt)
  obtain ⟨hout', htime, hoff⟩ := pulseOver_keeps (d.pulsed i edge) i
  generalize d.pulsed i edge = p at hexec hout hpulse hstop hregs hout' htime hoff
  generalize p.pulseOver i = o at hexec hout' htime hoff
  have hnone : o.time.stops = [] := by rw [htime, hstop, hwait, hstops]
  have hsame := hoff (by rw [bit_other (hregs _) 31, bit_other (hrd _) 31, hon])
  obtain ⟨hkeep, hregs'⟩ := endStops_keeps o
  refine ⟨_, hexec, ?_, ?_, ?_⟩
  · rw [endStops_out hnone, hout', hout, hsent, hedge]
  · rw [Dev.tout, hkeep, htime]
    exact hpulse.trans (by rw [htout])
  · rw [bit_other (hregs' _) 31, hsame, bit_other (hregs _) 30, bit_other (hrd _) 30]

/-- An edge is dropped that comes within 100 ns of the last, or with 64 captures waiting. -/
def Dev.capSoon (d : Dev) (i : Nat) : Bool :=
  (match d.time.caps.getD i none with | some t => decide (d.tb0 < t + 1600) | none => false) ||
    decide (64 ≤ (d.rcd.waiting.filter (fun (x : Event) => x.src == 35 && x.dev == d.devId)).length)

theorem capSoon_iff (d : Dev) (i : Nat) : d.capSoon i = true ↔
    (64 ≤ (d.rcd.waiting.filter (fun (x : Event) => x.src == 35 && x.dev == d.devId)).length ∨
      ∃ t, d.time.caps.getD i none = some t ∧ d.tb0 < t + 1600) := by
  unfold Dev.capSoon
  rw [Bool.or_eq_true, decide_eq_true_iff, or_comm]
  refine or_congr Iff.rfl ?_
  cases d.time.caps.getD i none <;> simp

theorem exec_tcapEdge {i : Fin 8} {rising : Bool} {sub : Nat} {stepped : Bool} {s : State} {d : Dev} (ha : Awake s)
    (hd : d = s.dev.advanceTo (s.dev.tb3 + sub)) :
    exec (.tcapEdge i rising sub stepped) s = .next { s with dev :=
      (if !(d.fld (TIME_TCAP_CFG i) 0 2).testBit (if rising then 0 else 1) then d
      else if d.capSoon i then d.tcapDrop i
      else d.latched i (leBytes 8 d.time.tb1 ++ leBytes 1 i ++ leBytes 1 (bitOf rising + 2 * bitOf stepped))) } := by
  show execTcapEdge i rising sub stepped s = _
  unfold execTcapEdge
  rw [on_awake _ _ ha]
  subst hd
  rfl

/-- Settles O51: an arming by `timeToutArm_effect`, an edge by `exec_toutEdge_pulses`, a capture by `latched_shows`.
That the 100 ns of R410 are counted in TB0 is log entry 59. -/
theorem outputsAndCaptures : Obligations.OutputsAndCaptures := by
  refine ⟨fun r e s i k start h hi hk hst hlen => ⟨fun hle => ?_, fun hlt hone => ?_, fun hlt hper => ?_⟩,
    fun i s d ha hon hlen hstops hrun hd => ?_, fun i s h => exec_toutEdge_idle h, fun r e s h => ?_,
    fun i rising sub stepped s d takes soon ha hd htakes hsoon => ⟨fun hn => ?_, fun ht hs => ?_, fun ht hn => ?_⟩⟩
  · subst hst
    obtain ⟨d, hexec, hon, hof, hbit, htout, hother⟩ := exec_timeToutArm_armed (e := e) h hi hk hlen hle
    have hnext : (d.tout i).next = armStart r := congrArg Tout.next htout
    have hwidth : (d.tout i).width = r.a4.toNat * 16 := congrArg Tout.width htout
    have hperiod : (d.tout i).period = (if r.a0.bit 8 then r.a3.toNat * 16 else 0) := congrArg Tout.period htout
    have hpulse := (congrArg Tout.pulse htout).trans (armedOut_pulse r _)
    exact ⟨_, hexec, ⟨rfl, rfl⟩, hon, hof, hbit, hnext, hwidth, hperiod, hpulse, hother⟩
  · subst hst
    have hper := (armed_shows (started s 0x0902 r) (asOp 0x0902 r) (i := i) (hk ▸ Word.get_lt r.a0 4 2)).2
    have hexec := exec_timeToutArm_late (e := e) h hi hk hlt
    generalize (started s 0x0902 r).armed (asOp 0x0902 r) i k = d at hexec hper
    exact ⟨_, hexec, skipEdges_late _ (hper.trans hone)⟩
  · subst hst
    have hexec := exec_timeToutArm_late (e := e) h hi hk hlt
    have hskip := armed_late (i := i) (started s 0x0902 r) (q := asOp 0x0902 r) (hk ▸ Word.get_lt r.a0 4 2)
      (hi ▸ hlen.symm ▸ Word.get_lt r.a0 0 3) hper (timeToutArm_check (q := asOp 0x0902 r) h.2.2.2.2 hper) hlt
    rw [rd_started] at hskip
    generalize ((started s 0x0902 r).armed (asOp 0x0902 r) i k).skipEdges i (s.dev.base k) = d at hexec hskip
    exact ⟨d, hexec, hskip⟩
  · obtain ⟨y, hexec, hout, htout, hbit⟩ := exec_toutEdge_pulses ha hon hlen hstops hrun hd
    exact ⟨_, hexec, ⟨rfl, rfl⟩, hout, congrArg Tout.pulse htout, congrArg Tout.next htout, hbit⟩
  · obtain ⟨d, hexec, hbits, houts⟩ := exec_timeToutStop (e := e) h
    exact ⟨_, hexec, ⟨rfl, rfl⟩, hbits, houts⟩
  · exact (exec_tcapEdge ha hd).trans (next_congr (if_pos (by simpa using mt htakes.mpr hn)))
  · rw [exec_tcapEdge ha hd, if_neg (by simpa using htakes.mp ht), if_pos ((capSoon_iff d i).mpr (hsoon.mp hs))]
  · refine ⟨_, exec_tcapEdge ha hd, ⟨rfl, rfl⟩, ?_⟩
    rw [if_neg (by simpa using htakes.mp ht), if_neg (mt (fun hs => hsoon.mpr ((capSoon_iff d i).mp hs)) hn)]
    exact latched_shows d i _

end Sys2Proof.Machine
end
section
/-! SUPPORT. The axes, their commands and the recoat sequence, and O54 (R417, R424, R426, R427, R431, R433 to R435). -/

namespace Sys2Proof.Machine

/-! ## The axes of a device -/

theorem axis_modAxis_same (d : Dev) {a : Nat} (f : Axis → Axis) (h : a < d.mot.axes.length) :
    (d.modAxis a f).axis a = f (d.axis a) := getD_modAt_same _ _ _ _ h

theorem axis_modAxis_other (d : Dev) {a b : Nat} (f : Axis → Axis) (h : b ≠ a) : (d.modAxis a f).axis b = d.axis b :=
  getD_modAt_other _ _ _ _ _ h

theorem axes_modAxis_length (d : Dev) (a : Nat) (f : Axis → Axis) : (d.modAxis a f).mot.axes.length = d.mot.axes.length :=
  modAt_length _ _ _

theorem axis_of_mot {a b : Dev} (h : b.mot = a.mot) (i : Nat) : b.axis i = a.axis i := by rw [Dev.axis, h, Dev.axis]

theorem axis_of_axes {a b : Dev} (h : b.mot.axes = a.mot.axes) (i : Nat) : b.axis i = a.axis i := by
  rw [Dev.axis, h, Dev.axis]

/-- An axis that is left as it is leaves the device as it is. -/
theorem modAxis_idle (d : Dev) {a : Nat} {f : Axis → Axis} (h : f (d.axis a) = d.axis a) : d.modAxis a f = d := by
  have haxes : modAt d.mot.axes a f = d.mot.axes := by
    by_cases ha : a < d.mot.axes.length
    · have hget : d.axis a = d.mot.axes[a] := List.getD_eq_getElem _ _ ha
      rw [hget] at h
      unfold modAt
      rw [List.getElem?_eq_getElem ha]
      exact (congrArg _ h).trans (List.set_getElem_self ha)
    · unfold modAt
      rw [List.getElem?_eq_none (by omega)]
  unfold Dev.modAxis
  rw [haxes]

/-- An axis that has something is one of the device's. -/
theorem axis_lt_of_mv {d : Dev} {a : Nat} {m : Move} (h : (d.axis a).mv = some m) : a < d.mot.axes.length := by
  by_contra hout
  have hdef : d.axis a = default := List.getD_eq_default _ _ (by omega)
  rw [hdef] at h
  exact absurd h (by simp [default, instInhabitedAxis.default])

theorem HostSide.mot_eq {a b : Dev} (h : HostSide a b) : b.mot = a.mot := h.recorded.mot_eq

theorem mot_fail (d : Dev) (q : Req) (st x : Nat) : (d.fail q st x).mot = d.mot := (recorded_complete ..).mot_eq

/-- Commands that complete leave the axes. -/
theorem okFold_mot {α : Type} (g : α → Req) (l : List α) (d : Dev) :
    (l.foldl (fun d s => d.ok (g s) 0 0 0 0) d).mot = d.mot :=
  foldl_keeps (fun a b : Dev => b.mot = a.mot) (fun _ => rfl)
    (fun (a b c : Dev) (h : b.mot = a.mot) (k : c.mot = b.mot) => k.trans h) _ (fun _ _ => (hostSide_ok ..).mot_eq) l d

theorem endMotStops_axes (d : Dev) : d.endMotStops.mot.axes = d.mot.axes := by
  unfold Dev.endMotStops
  extract_lets ovr done axes d1
  rw [okFold_mot (fun s : Nat × Req => s.2) done d1]

theorem dropQueue_mot (d : Dev) (a : Nat) : (d.dropQueue a).mot = (d.modAxis a (fun x => { x with queue := [] })).mot := by
  unfold Dev.dropQueue
  extract_lets qs d1
  refine foldl_keeps (fun a b : Dev => b.mot = a.mot) (fun _ => rfl)
    (fun (a b c : Dev) (h : b.mot = a.mot) (k : c.mot = b.mot) => k.trans h) _ (fun x g => ?_) qs d1
  split
  · exact mot_fail ..
  · rfl

/-- An axis with no target queued drops none. -/
theorem dropQueue_idle {d : Dev} {a : Nat} (h : (d.axis a).queue = []) : d.dropQueue a = d := by
  have hsame : d.modAxis a (fun x => { x with queue := [] }) = d := by
    refine modAxis_idle d ?_
    generalize d.axis a = x at h
    cases x
    cases h
    rfl
  unfold Dev.dropQueue
  extract_lets qs d1
  rw [show qs = [] from h, List.foldl_nil]
  exact hsame

/-! ## The profile update (R424, R426, R427) -/

/-- An axis at rest with nothing to do is left alone. -/
theorem axUpdate_idle {d : Dev} {a : Nat} (hmv : (d.axis a).mv = none) (hem : (d.axis a).emission = none)
    (hq : (d.axis a).queue = []) : d.axUpdate a = d := by
  unfold Dev.axUpdate
  simp only [hmv, hem, hq]

section
variable {d : Dev} {a : Nat} {m : Move} (hmv : (d.axis a).mv = some m) (hclamp : m.clamp = none)
include hmv hclamp

theorem axUpdate_ended (hends : m.ends ≤ d.tb3) : d.axUpdate a = d.axArrive a m := by
  unfold Dev.axUpdate
  simp only [hmv, hclamp, if_pos hends]

/-- A move that goes on, with no retune and no homing, is shown where it has come. -/
theorem axUpdate_moving (hretune : m.retune = none) (hhome : m.home = none) (hends : d.tb3 < m.ends) :
    d.axUpdate a = d.axShow a (d.toUs a (m.at_ d.tb3).1)
      (if m.plus then divRound (m.at_ d.tb3).2 motV else -divRound (m.at_ d.tb3).2 motV) := by
  have hsame : d.axRetune a m = d := by
    unfold Dev.axRetune
    rw [hretune]
  unfold Dev.axUpdate
  simp only [hmv, hclamp, if_neg (Nat.not_le.mpr hends), hsame, hhome, Option.isSome_none, Bool.false_eq_true, false_and,
    if_false]

end

/-- A move that is no step, no homing and was not stopped completes without touching an axis. -/
theorem moveDone_axes (d : Dev) (a : Nat) {m : Move} (us : Int) (hstop : m.stop = none) (hhome : m.home = none)
    (hseq : m.seq = false) : (d.moveDone a m us).mot.axes = d.mot.axes := by
  unfold Dev.moveDone
  simp only [hstop, hhome, hseq, Bool.false_eq_true, if_false]
  rw [endMotStops_axes]
  split
  · rfl
  · rw [(hostSide_ok ..).mot_eq]

/-- At its end the axis rests on its target. -/
theorem axArrive_rests {d : Dev} {a : Nat} {m : Move} (ha : a < d.mot.axes.length) (hretune : m.retune = none)
    (hstop : m.stop = none) (hhome : m.home = none) (hturn : m.turn = false) (hseq : m.seq = false)
    (hq : (d.axis a).queue = []) :
    ((d.axArrive a m).axis a).us = m.goal.tgt ∧ ((d.axArrive a m).axis a).mv = none := by
  have hrest (n : Move) (hstop : n.stop = none) (hhome : n.home = none) (hseq : n.seq = false) (us : Int) :
      ((d.axRest a n us).axis a).us = us ∧ ((d.axRest a n us).axis a).mv = none := by
    unfold Dev.axRest
    extract_lets lvl d1
    rw [axis_of_axes (moveDone_axes d1 a us hstop hhome hseq), axis_of_mot (hostSide_axShow ..).mot_eq,
      axis_modAxis_same _ _ ha]
    exact ⟨rfl, rfl⟩
  unfold Dev.axArrive
  simp only [hretune, hstop, hturn, hq, Option.isSome_none, Bool.false_eq_true, if_false]
  refine hrest _ ?_ ?_ ?_ _
  · rfl
  · exact hhome
  · exact hseq

theorem exec_profileUpdate {s : State} (h : 2 ≤ s.dev.mode.boot) :
    exec .profileUpdate s = .next { s with dev := ((List.range (nAxes s.dev.variant)).foldl (fun d a => d.axUpdate a)
      (s.dev.advanceTo ((s.dev.tb3 / (10 * perUs) + 1) * (10 * perUs)))) } := by
  have ha : Awake s := by show s.dev.mode.boot ≠ 0; omega
  show execProfileUpdate s = _
  unfold execProfileUpdate
  rw [on_awake _ _ ha]
  exact next_congr (if_neg (by omega))

theorem exec_profileUpdate_booting {s : State} (h : s.dev.mode.boot < 2) : exec .profileUpdate s = .next s := by
  show execProfileUpdate s = _
  unfold execProfileUpdate
  exact on_same (if_pos h)

/-! ## MOT_STOP (R430, R435) -/

/-- What MOT_STOP does with one axis it names. -/
def Dev.stopOne (q : Req) (d : Dev) (a : Nat) : Dev :=
  let d := match (d.axis a).mv with
    | some m =>
      if m.ends ≤ d.tb3 && !m.turn then (if m.vEnd = 0 then d.dropQueue a else d).axArrive a m else d
    | none => d
  match (d.axis a).mv with
  | some m => d.axStop a (if q.a0.bit 8 then (d.rd (MOT_AX_EDEC a)).toNat else m.goal.a) stPartial 0
  | none => d.dropQueue a

/-- A stop joins those that wait for their axes to rest. -/
def Dev.queueStop (d : Dev) (q : Req) : Dev :=
  { d with mot := { d.mot with stops := d.mot.stops ++ [(q.a0.get 0 8, q)] } }

theorem motStop_effect (d : Dev) (q : Req) (e : Env) :
    cmdMotStop.effect q e d = (((bitList 8 (q.a0.get 0 8)).foldl (Dev.stopOne q) d).queueStop q).endMotStops := rfl

theorem stopOne_idle {d : Dev} {q : Req} {a : Nat} (hmv : (d.axis a).mv = none) (hq : (d.axis a).queue = []) :
    d.stopOne q a = d := by
  unfold Dev.stopOne
  simp only [hmv]
  exact dropQueue_idle hq

theorem stopOne_moving {d : Dev} {q : Req} {a : Nat} {m : Move} (hmv : (d.axis a).mv = some m) (hends : d.tb3 < m.ends) :
    d.stopOne q a = d.axStop a (if q.a0.bit 8 then (d.rd (MOT_AX_EDEC a)).toNat else m.goal.a) stPartial 0 := by
  have hgoes : ¬ (decide (m.ends ≤ d.tb3) && !m.turn) = true := by simp [Nat.not_le.mpr hends]
  unfold Dev.stopOne
  simp only [hmv, if_neg hgoes]

/-- An axis that is stopped decelerates from here, with no target queued. -/
theorem axStop_moving {d : Dev} {a : Nat} {m : Move} (rate st x : Nat) (hmv : (d.axis a).mv = some m) (hstop : m.stop = none) :
    ∃ n, ((d.axStop a rate st x).axis a).mv = some n ∧ ((d.axStop a rate st x).axis a).queue = [] ∧
      n.vEnd = 0 ∧ n.t0 = d.tb3 ∧ n.stop = some (st, x, Nat.max 1 rate) := by
  have ha := axis_lt_of_mv hmv
  have hdrop (f : Axis → Axis) : ((d.modAxis a f).dropQueue a).axis a = { f (d.axis a) with queue := [] } := by
    rw [axis_of_mot (dropQueue_mot _ _), axis_modAxis_same _ _ (by rwa [axes_modAxis_length]), axis_modAxis_same _ _ ha]
  unfold Dev.axStop
  simp only [hmv, hstop]
  split
  · rw [axis_of_mot (mot_fail ..), hdrop]
    exact ⟨_, rfl, rfl, rfl, rfl, rfl⟩
  · rw [hdrop]
    exact ⟨_, rfl, rfl, rfl, rfl, rfl⟩

/-- The one bit of a power of two. -/
theorem bitList_two_pow {k : Nat} (hk : k < 8) : bitList 8 (2 ^ k) = [k] := by
  interval_cases k <;> rfl

/-- Where nothing moves, a stop completes at once. -/
theorem endMotStops_rest {d : Dev} {q : Req} (hstops : d.mot.stops = []) (hrest : ∀ a, a < 8 → (d.axis a).moving = false) :
    (d.queueStop q).endMotStops = d.ok q 0 0 0 0 := by
  have hovr : (bitList 8 (q.a0.get 0 8)).all (fun a => !(d.axis a).moving) = true := by
    rw [List.all_eq_true]
    intro a ha
    have ha8 : a < 8 := by
      unfold bitList at ha
      exact List.mem_range.mp (List.mem_of_mem_filter ha)
    simp [hrest a ha8]
  have haxis (a : Nat) : (d.queueStop q).axis a = d.axis a := rfl
  have hwait : (d.queueStop q).mot.stops = [(q.a0.get 0 8, q)] := congrArg (· ++ [(q.a0.get 0 8, q)]) hstops
  unfold Dev.endMotStops
  simp only [hwait, haxis, List.filter_cons, List.filter_nil, hovr, Bool.not_true, Bool.false_eq_true, if_true, if_false,
    List.foldl_cons, List.foldl_nil]
  refine congrArg (fun d : Dev => d.ok q 0 0 0 0) ?_
  show { d with mot := { d.mot with stops := [] } } = d
  rw [← hstops]

/-! ## MOT_ENABLE, MOT_HOME (R431, R435) -/

/-- An axis as MOT_ENABLE leaves it. -/
def Axis.energise (on : Bool) (x : Axis) : Axis :=
  if on then { x with on := true, faulted := false } else { x with on := false, homed := false }

theorem energise_twice (on : Bool) (x : Axis) : (x.energise on).energise on = x.energise on := by
  cases on <;> rfl

/-- What MOT_ENABLE does with one axis it names. -/
def Dev.enableOne (q : Req) (d : Dev) (a : Nat) : Dev :=
  (d.modAxis a (Axis.energise (q.a1.bit a))).send (.axisEn a (q.a1.bit a && d.bit (MOT_AX_CFG a) 31))

theorem motEnable_effect (d : Dev) (q : Req) (e : Env) :
    cmdMotEnable.effect q e d = ((bitList 8 (q.a0.get 0 8)).foldl (Dev.enableOne q) d).ok q 0 0 0 0 := rfl

/-- The axes of a mask are energised or not as the second says, the others left. -/
theorem enable_axes (q : Req) (l : List Nat) (d : Dev) {a : Nat} (ha : a < d.mot.axes.length) :
    (l.foldl (Dev.enableOne q) d).axis a = (if a ∈ l then (d.axis a).energise (q.a1.bit a) else d.axis a) := by
  induction l generalizing d with
  | nil => rfl
  | cons b l ih =>
    have haxis := ih (d.enableOne q b) (by rw [← axes_modAxis_length d b (Axis.energise (q.a1.bit b))] at ha; exact ha)
    rw [List.foldl_cons, haxis]
    by_cases hab : a = b
    · subst hab
      have hone : (d.enableOne q a).axis a = (d.axis a).energise (q.a1.bit a) := axis_modAxis_same _ _ ha
      rw [hone, energise_twice, ite_self, if_pos (by simp)]
    · have hone : (d.enableOne q b).axis a = d.axis a := axis_modAxis_other _ _ hab
      simp [hone, hab]

theorem enable_mode (q : Req) (l : List Nat) (d : Dev) : (l.foldl (Dev.enableOne q) d).mode = d.mode :=
  foldl_keeps (fun a b : Dev => b.mode = a.mode) (fun _ => rfl)
    (fun (a b c : Dev) (h : b.mode = a.mode) (k : c.mode = b.mode) => k.trans h) (Dev.enableOne q) (fun _ _ => rfl) l d

/-- MOT_ENABLE, axis by axis. -/
theorem motEnable_energises {d : Dev} {q : Req} {e : Env} (hlen : d.mot.axes.length = 8) :
    (cmdMotEnable.effect q e d).mode = d.mode ∧ ∀ a, a < 8 →
      (q.a0.bit a = false → (cmdMotEnable.effect q e d).axis a = d.axis a) ∧
      (q.a0.bit a = true → q.a1.bit a = true →
        (cmdMotEnable.effect q e d).axis a = { d.axis a with on := true, faulted := false }) ∧
      (q.a0.bit a = true → q.a1.bit a = false →
        (cmdMotEnable.effect q e d).axis a = { d.axis a with on := false, homed := false }) := by
  have hok (x : Dev) : HostSide x (x.ok q 0 0 0 0) := hostSide_ok ..
  rw [motEnable_effect]
  refine ⟨Eq.trans (hok _).sameMode (enable_mode q _ d), fun a ha => ?_⟩
  have hmem : a ∈ bitList 8 (q.a0.get 0 8) ↔ q.a0.bit a = true := by
    have hbit : (q.a0.get 0 8).testBit a = q.a0.bit a := by
      rw [Word.testBit_get, decide_eq_true ha, Bool.true_and, Nat.zero_add]
    rw [bitList, List.mem_filter, hbit, List.mem_range]
    exact and_iff_right ha
  rw [axis_of_mot (hok _).mot_eq, enable_axes q _ d (by omega)]
  refine ⟨fun hout => if_neg (by simp [hmem, hout]), fun hin hon => ?_, fun hin hoff => ?_⟩
  · rw [if_pos (hmem.mpr hin), hon]
    rfl
  · rw [if_pos (hmem.mpr hin), hoff]
    rfl

/-- A start from rest shows its goal. -/
theorem axStart_axis {d : Dev} {a : Nat} (g : Goal) (v1 : Nat) (seq : Bool) (ha : a < d.mot.axes.length) :
    (d.axStart a g v1 seq).axis a = { d.axis a with
      mv := some (d.mkMove a g d.tb3 (d.ofUs a (d.axis a).us) 0 v1 seq (d.ofUs a (d.axis a).us)), level := 0 } :=
  axis_modAxis_same _ _ ha

theorem mkMove_shows (d : Dev) (a : Nat) (g : Goal) (t0 : Nat) (p : Int) (v0 v1 : Nat) (seq : Bool) (org : Int) :
    (d.mkMove a g t0 p v0 v1 seq org).goal = g ∧ (d.mkMove a g t0 p v0 v1 seq org).stop = none ∧
    (d.mkMove a g t0 p v0 v1 seq org).t0 = t0 ∧ (d.mkMove a g t0 p v0 v1 seq org).seq = seq ∧
    (d.mkMove a g t0 p v0 v1 seq org).plus = decide (p ≤ d.ofUs a g.tgt) := by
  unfold Dev.mkMove
  exact ⟨rfl, rfl, rfl, rfl, rfl⟩

/-- The scale of an axis is a register, and at least 1. -/
theorem axScale_range (d : Dev) (a : Nat) : 1 ≤ d.axScale a ∧ d.axScale a < 2 ^ 32 := by
  unfold Dev.axScale
  have hlt := (d.rd (MOT_AX_SCALE a)).isLt
  have hmax : Nat.max 1 (d.rd (MOT_AX_SCALE a)).toNat = max 1 (d.rd (MOT_AX_SCALE a)).toNat := rfl
  omega

/-- The far target of a homing lies to its side. -/
theorem ofUs_far (d : Dev) (a : Nat) (us : Int) :
    d.ofUs a us ≤ d.ofUs a (us + 2 ^ 60) ∧ d.ofUs a (us - 2 ^ 60) < d.ofUs a us := by
  obtain ⟨hpos, hlt⟩ := axScale_range d a
  unfold Dev.ofUs
  generalize d.axScale a = k at hpos hlt
  have hk : (0 : Int) < k := by omega
  constructor
  · exact Int.ediv_le_ediv hk (by omega)
  · have hle : (us - 2 ^ 60) * 2 ^ 56 + k ≤ us * 2 ^ 56 := by omega
    have := Int.ediv_le_ediv hk hle
    rw [Int.add_ediv_of_dvd_right (Int.dvd_refl _), Int.ediv_self (by omega)] at this
    omega

/-- The move that MOT_HOME starts. -/
def Dev.homeGoal (d : Dev) (q : Req) : Goal :=
  ⟨if q.a0.bit 8 then (d.axis (q.a0.get 0 3)).us + 2 ^ 60 else (d.axis (q.a0.get 0 3)).us - 2 ^ 60,
    if q.a1 = 0 then (d.rd (MOT_AX_VMAX (q.a0.get 0 3))).toNat else q.a1.toNat, (d.rd (MOT_AX_ACC (q.a0.get 0 3))).toNat, some q⟩

theorem motHome_effect (d : Dev) (q : Req) (e : Env) : cmdMotHome.effect q e d =
    (d.axStart (q.a0.get 0 3) (d.homeGoal q) 0 false).modAxis (q.a0.get 0 3)
      (fun x => { x with mv := x.mv.map (fun m => { m with home := some (signed 32 q.a2.toNat) }) }) := rfl

/-- A homing starts toward its side. -/
theorem motHome_starts {d : Dev} {q : Req} {e : Env} (ha : q.a0.get 0 3 < d.mot.axes.length) :
    ∃ m, ((cmdMotHome.effect q e d).axis (q.a0.get 0 3)).mv = some m ∧ m.home = some (signed 32 q.a2.toNat) ∧
      m.plus = q.a0.bit 8 ∧ m.stop = none ∧ m.t0 = d.tb3 ∧ m.goal.v = (d.homeGoal q).v := by
  obtain ⟨hgoal, hstop, ht0, -, hplus⟩ := mkMove_shows d (q.a0.get 0 3) (d.homeGoal q) d.tb3
    (d.ofUs (q.a0.get 0 3) (d.axis (q.a0.get 0 3)).us) 0 0 false (d.ofUs (q.a0.get 0 3) (d.axis (q.a0.get 0 3)).us)
  obtain ⟨hup, hdown⟩ := ofUs_far d (q.a0.get 0 3) (d.axis (q.a0.get 0 3)).us
  have hside : decide (d.ofUs (q.a0.get 0 3) (d.axis (q.a0.get 0 3)).us ≤ d.ofUs (q.a0.get 0 3) (d.homeGoal q).tgt) =
      q.a0.bit 8 := by
    unfold Dev.homeGoal
    cases q.a0.bit 8
    · exact decide_eq_false (Int.not_le.mpr hdown)
    · exact decide_eq_true hup
  rw [motHome_effect, axis_modAxis_same _ _ (by rwa [← axes_modAxis_length d] at ha), axStart_axis _ _ _ ha]
  exact ⟨_, rfl, rfl, hplus.trans hside, hstop, ht0, congrArg Goal.v hgoal⟩

/-! ## The recoat sequence (R433, R434) -/

theorem motRecoatSet_malformed {q : Req} {e : Env} (d : Dev)
    (h : ∃ b ∈ entriesOf 8 e.data, 1 < bytesAt b 1 1 ∨ bytesAt b 2 2 ≠ 0) :
    cmdMotRecoatSet.effect q e d = d.fail q stMalformed 0x0004 :=
  if_pos (by simpa using h)

section
variable {q : Req} {e : Env} (hform : ∀ b ∈ entriesOf 8 e.data, bytesAt b 1 1 < 2 ∧ bytesAt b 2 2 = 0 ∧ bytesAt b 0 1 < 8)
include hform

theorem motRecoatSet_absent (d : Dev) (h : ∃ b ∈ entriesOf 8 e.data, nAxes d.variant ≤ bytesAt b 0 1) :
    cmdMotRecoatSet.effect q e d = d.fail q stAbsent 0 := by
  refine (if_neg ?_).trans ((if_neg ?_).trans (if_pos (by simpa using h)))
  · simpa using fun b hb => ⟨Nat.le_of_lt_succ (hform b hb).1, (hform b hb).2.1⟩
  · simpa using fun b hb => (hform b hb).2.2

theorem motRecoatSet_stored (d : Dev) (h : ∀ b ∈ entriesOf 8 e.data, bytesAt b 0 1 < nAxes d.variant) :
    cmdMotRecoatSet.effect q e d = { d with mot := { d.mot with
      prog := (entriesOf 8 e.data).map (fun b => (bytesAt b 0 1, bytesAt b 1 1 == 1, intAt b 4 4)) } }.ok q 0 0 0 0 := by
  refine (if_neg ?_).trans ((if_neg ?_).trans (if_neg (by simpa using h)))
  · simpa using fun b hb => ⟨Nat.le_of_lt_succ (hform b hb).1, (hform b hb).2.1⟩
  · simpa using fun b hb => (hform b hb).2.2

end

theorem nAxes_le (v : Config.Variant) : nAxes v ≤ 8 := by cases v <;> decide

/-- With no sequence, or one whose steps still move, none starts. -/
theorem seqNext_idle {d : Dev} (h : d.mot.seq = none ∨ ∃ q, d.mot.seq = some q ∧ q.left ≠ []) : d.seqNext = d := by
  unfold Dev.seqNext
  rcases h with hnone | ⟨q, hseq, hleft⟩
  · rw [hnone]
  · rw [hseq]
    exact if_pos (by simpa using hleft)

/-- The goal of a step of the sequence. -/
def Dev.stepGoal (d : Dev) (x : Nat × Bool × Int) : Goal :=
  ⟨(d.axis x.1).us + divRound (x.2.2 * d.axScale x.1) 65536, (d.rd (MOT_AX_VMAX x.1)).toNat, (d.rd (MOT_AX_ACC x.1)).toNat, none⟩

/-- A sequence of which the step of axis a is the one that moves. -/
def Dev.stepTaken (d : Dev) (q : RecoatSeq) (a : Nat) : Dev :=
  { d with mot := { d.mot with seq := some { q with next := q.next + 1, left := [a] } } }

/-- A single step whose axis can move starts. -/
theorem seqNext_starts {d : Dev} {q : RecoatSeq} {x : Nat × Bool × Int} (hseq : d.mot.seq = some q) (hleft : q.left = [])
    (hgroup : seqGroup q.steps q.next = [x]) (hready : d.axReady x.1 = true) (hrest : (d.axis x.1).moving = false)
    (hfree : d.towardLimit x.1 (d.stepGoal x).tgt = false) :
    d.seqNext = (d.stepTaken q x.1).axStart x.1 (d.stepGoal x) 0 true := by
  have hfree' : d.towardLimit x.1 ((d.axis x.1).us + divRound (x.2.2 * d.axScale x.1) 65536) = false := hfree
  unfold Dev.seqNext
  simp only [hseq, hleft, hgroup, List.isEmpty_nil, Bool.not_true, Bool.false_eq_true, if_false, List.map_cons, List.map_nil,
    List.any_cons, List.any_nil, hready, hrest, hfree', Bool.or_false, List.length_cons, List.length_nil,
    List.foldl_cons, List.foldl_nil]
  rw [if_neg (by simp [List.eraseDups_cons])]
  rfl

theorem exec_recoatStepStart {s : State} (ha : Awake s) :
    exec .recoatStepStart s = .next { s with dev := s.dev.seqNext } := on_awake _ _ ha

theorem exec_recoatStepStart_idle {s : State} (h : s.dev.mot.seq = none ∨ ∃ q, s.dev.mot.seq = some q ∧ q.left ≠ []) :
    exec .recoatStepStart s = .next s := on_same (f := fun d => d.seqNext) (seqNext_idle h)

/-! ## The statement -/

/-- A target of MOT_MOVE joins the queue of a compat axis. -/
theorem motMove_queues {d : Dev} {q : Req} {e : Env} (hcompat : d.bit (MOT_AX_CFG (q.a0.get 0 3)) 28 = true)
    (ha : q.a0.get 0 3 < d.mot.axes.length) :
    ((cmdMotMove.effect q e d).axis (q.a0.get 0 3)).queue = (d.axis (q.a0.get 0 3)).queue ++ [d.moveGoal q] ∧
    ((cmdMotMove.effect q e d).axis (q.a0.get 0 3)).mv = (d.axis (q.a0.get 0 3)).mv ∧
    (cmdMotMove.effect q e d).regs = d.regs := by
  have heffect : cmdMotMove.effect q e d = d.modAxis (q.a0.get 0 3) (fun x => { x with queue := x.queue ++ [d.moveGoal q] }) :=
    if_pos hcompat
  rw [heffect, axis_modAxis_same _ _ ha]
  exact ⟨rfl, rfl, rfl⟩

/-- MOT_RETUNE is taken while the axis moves. -/
theorem motRetune_moves {d : Dev} {q : Req} (h : cmdMotRetune.check d q = none) : ∃ m, (d.axis (q.a0.get 0 3)).mv = some m := by
  cases hmv : (d.axis (q.a0.get 0 3)).mv with
  | some m => exact ⟨m, rfl⟩
  | none =>
    have hrefused := (firstFail_none_iff _).mp h (true, stReject, 0) (by simp [hmv])
    exact absurd hrefused (by decide)

theorem motRetune_waits {d : Dev} {q : Req} {e : Env} {m : Move} (hmv : (d.axis (q.a0.get 0 3)).mv = some m) :
    ((cmdMotRetune.effect q e d).axis (q.a0.get 0 3)).mv =
      some { m with retune := some ((d.moveGoal q).v, (d.moveGoal q).a, q) } := by
  have heffect : cmdMotRetune.effect q e d = d.modAxis (q.a0.get 0 3) (fun x => { x with mv := x.mv.map (fun m =>
    { m with retune := some ((d.moveGoal q).v, (d.moveGoal q).a, q) }) }) := rfl
  rw [heffect, axis_modAxis_same _ _ (axis_lt_of_mv hmv), hmv]
  rfl

/-- MOT_STOP of one moving axis. -/
theorem motStop_stops {d : Dev} {q : Req} {e : Env} {k : Nat} {m : Move} (hmask : q.a0.get 0 8 = 2 ^ k)
    (hmv : (d.axis k).mv = some m) (hstop : m.stop = none) (hends : d.tb3 < m.ends) :
    ∃ n, ((cmdMotStop.effect q e d).axis k).mv = some n ∧ ((cmdMotStop.effect q e d).axis k).queue = [] ∧
      n.vEnd = 0 ∧ n.t0 = d.tb3 ∧
      n.stop = some (stPartial, 0, Nat.max 1 (if q.a0.bit 8 then (d.rd (MOT_AX_EDEC k)).toNat else m.goal.a)) := by
  have hk : k < 8 := (Nat.pow_lt_pow_iff_right (a := 2) (by decide)).mp (hmask ▸ Word.get_lt q.a0 0 8)
  have hwait (x : Dev) : (x.queueStop q).axis k = x.axis k := rfl
  rw [motStop_effect, hmask, bitList_two_pow hk, List.foldl_cons, List.foldl_nil, axis_of_axes (endMotStops_axes _), hwait,
    stopOne_moving hmv hends]
  exact axStop_moving _ _ _ hmv hstop

/-- MOT_STOP with every axis at rest. -/
theorem motStop_rest {d : Dev} {q : Req} {e : Env} (hstops : d.mot.stops = [])
    (hrest : ∀ k, k < 8 → (d.axis k).moving = false ∧ (d.axis k).queue = []) :
    cmdMotStop.effect q e d = d.ok q 0 0 0 0 := by
  have hone (k : Nat) (hk : k ∈ bitList 8 (q.a0.get 0 8)) : d.stopOne q k = d := by
    unfold bitList at hk
    obtain ⟨hmove, hq⟩ := hrest k (List.mem_range.mp (List.mem_of_mem_filter hk))
    unfold Axis.moving at hmove
    exact stopOne_idle (by simp_all) hq
  rw [motStop_effect, foldl_idle hone]
  exact endMotStops_rest hstops (fun a h => (hrest a h).1)

/-- Settles O54: the profile by `axUpdate_moving` and `axArrive_rests`, the commands by their effects on the axes. The speed
0 of MOT_HOME is VMAX by log entry 63, and 0x0004 of a malformed recoat programme is log entry 8. -/
theorem axesMove : Obligations.AxesMove := by
  refine ⟨fun s h => exec_profileUpdate h, fun d a => axUpdate_idle, fun s h => exec_profileUpdate_booting h,
    fun d a m hmv hclamp hretune hhome => ⟨axUpdate_moving hmv hclamp hretune hhome, fun hends hstop hturn hseq hq ha => ?_⟩,
    fun r e s a har => ⟨fun h hcompat ha => ?_, fun h ha => ?_, fun h hstops hrest => ?_,
      fun k m h hmask hmv hstop hends => ?_, fun h => ?_⟩,
    fun r e s => ⟨fun h hlen => ?_, fun h ha => ?_, fun h hform => ?_, fun h => ⟨fun hbad => ?_, fun hform habsent => ?_⟩,
      fun h => ?_, fun h => exec_recoatStepStart_idle (Or.inl h), fun q a g ha hseq hleft hgroup hready hrest hlt hfree => ?_,
      fun q hseq hleft => exec_recoatStepStart_idle (Or.inr ⟨q, hseq, hleft⟩)⟩⟩
  · rw [axUpdate_ended hmv hclamp hends]
    exact axArrive_rests ha hretune hstop hhome hturn hseq hq
  · subst har
    obtain ⟨hqueue, hmv, hregs⟩ := motMove_queues (d := started s 0x0601 r) (q := asOp 0x0601 r) (e := e) hcompat ha
    exact ⟨_, _, command_takes s 0x0601 cmdMotMove r e h, ⟨rfl, rfl⟩, rfl, hqueue, hmv, hregs⟩
  · subst har
    obtain ⟨m, hmv⟩ := motRetune_moves h.2.2.2.2
    exact ⟨_, m, command_takes s 0x0602 cmdMotRetune r e h, ⟨rfl, rfl⟩, hmv, motRetune_waits (e := e) hmv, rfl⟩
  · exact (command_takes s 0x0603 cmdMotStop r e h).trans (next_congr (motStop_rest (d := started s 0x0603 r) hstops hrest))
  · obtain ⟨n, hmv', hq, hv, ht0, hst⟩ := motStop_stops (d := started s 0x0603 r) (q := asOp 0x0603 r) (e := e) hmask hmv hstop hends
    exact ⟨_, n, command_takes s 0x0603 cmdMotStop r e h, ⟨rfl, rfl⟩, hmv', hq, hv, ht0, hst⟩
  · subst har
    exact command_takes s 0x0680 cmdMotQuery r e h
  · obtain ⟨hmode, haxes⟩ := motEnable_energises (d := started s 0x0605 r) (q := asOp 0x0605 r) (e := e) hlen
    exact ⟨_, command_takes s 0x0605 cmdMotEnable r e h, ⟨rfl, rfl⟩, hmode, haxes⟩
  · obtain ⟨m, hmv, hhome, hplus, hstop, ht0, hv⟩ := motHome_starts (d := started s 0x0604 r) (q := asOp 0x0604 r) (e := e) ha
    exact ⟨_, m, command_takes s 0x0604 cmdMotHome r e h, ⟨rfl, rfl⟩, hmv, hhome, hplus, hstop, ht0, hv⟩
  · refine ⟨_, rfl, (command_takesData s 0x0606 cmdMotRecoatSet r e h).trans (next_congr ?_)⟩
    exact motRecoatSet_stored (fun b hb => ⟨(hform b hb).2.1, (hform b hb).2.2, (hform b hb).1.trans_le (nAxes_le _)⟩) _
      (fun b hb => (hform b hb).1)
  · exact (command_takesData s 0x0606 cmdMotRecoatSet r e h).trans (next_congr (motRecoatSet_malformed _ hbad))
  · exact (command_takesData s 0x0606 cmdMotRecoatSet r e h).trans (next_congr (motRecoatSet_absent hform _ habsent))
  · exact ⟨_, rfl, command_takes s 0x0607 cmdMotRecoatRun r e h⟩
  · have hstart := seqNext_starts (x := (a, g)) hseq hleft hgroup hready hrest hfree
    obtain ⟨hgoal, -, -, hstep, -⟩ := mkMove_shows (s.dev.stepTaken q a) a (s.dev.stepGoal (a, g)) s.dev.tb3
      ((s.dev.stepTaken q a).ofUs a (s.dev.axis a).us) 0 0 true ((s.dev.stepTaken q a).ofUs a (s.dev.axis a).us)
    exact ⟨_, _, (exec_recoatStepStart ha).trans (next_congr hstart), ⟨rfl, rfl⟩,
      congrArg Axis.mv (axStart_axis (d := s.dev.stepTaken q a) _ _ _ hlt), hstep, congrArg Goal.tgt hgoal, rfl⟩

end Sys2Proof.Machine
end
section
/-! SUPPORT. The lamps, and O56 (R442 to R449). -/

namespace Sys2Proof.Machine

/-! ## Pulse spreading (R442) -/

/-- Reversing eight bits twice changes nothing. -/
theorem bitrev8_twice : ∀ k < 256, bitrev8 k < 256 ∧ bitrev8 (bitrev8 k) = k := by decide +kernel

theorem bitOf_le (b : Bool) : bitOf b ≤ 1 := by cases b <;> decide

theorem sum_range_list (n : Nat) (f : Nat → Nat) : ((List.range n).map f).sum = ∑ k ∈ Finset.range n, f k := by
  rw [Finset.sum_eq_multiset_sum, Finset.range_val, Multiset.range, Multiset.map_coe, Multiset.sum_coe]

/-- As many slices are one cycle longer as the rest of a division by 256 says. -/
theorem longSlices {m : Nat} (h : m < 256) : ((List.range 256).map (fun k => bitOf (decide (bitrev8 k < m)))).sum = m := by
  have hcount : ∑ k ∈ Finset.range 256, bitOf (decide (k < m)) = m := by
    have hbit (k : Nat) : bitOf (decide (k < m)) = if k < m then 1 else 0 := by
      by_cases hk : k < m <;> simp [bitOf, hk]
    simp only [hbit, Finset.sum_boole, Nat.cast_id]
    rw [show (Finset.range 256).filter (fun k => k < m) = Finset.range m by ext k; simp; omega, Finset.card_range]
  rw [sum_range_list]
  refine Eq.trans ?_ hcount
  refine Finset.sum_nbij' bitrev8 bitrev8 ?_ ?_ ?_ ?_ ?_ <;> intro k hk <;> have hrev := bitrev8_twice k (Finset.mem_range.mp hk)
  · exact Finset.mem_range.mpr hrev.1
  · exact Finset.mem_range.mpr hrev.1
  · exact hrev.2
  · exact hrev.2
  · rfl

theorem lampSlices_sum (d slice : Nat) : (lampSlices d slice).sum = d * slice / 256 := by
  unfold lampSlices onCycles
  generalize d * slice / 256 = n
  rw [List.sum_map_add, longSlices (Nat.mod_lt n (by decide))]
  rw [List.map_const', List.sum_replicate, List.length_range, smul_eq_mul]
  omega

theorem onCycles_even (d slice j k : Nat) : onCycles d slice j ≤ onCycles d slice k + 1 := by
  unfold onCycles
  have := bitOf_le (decide (bitrev8 j < d * slice / 256 % 256))
  dsimp only
  omega

/-! ## The channels of a device -/

theorem lampC_modLamp_same (d : Dev) {c : Nat} (f : Lamp → Lamp) (h : c < d.ill.lamps.length) :
    (d.modLamp c f).lampC c = f (d.lampC c) := getD_modAt_same _ _ _ _ h

theorem lampC_modLamp_other (d : Dev) {c k : Nat} (f : Lamp → Lamp) (h : k ≠ c) : (d.modLamp c f).lampC k = d.lampC k :=
  getD_modAt_other _ _ _ _ _ h

theorem lamps_modLamp_length (d : Dev) (c : Nat) (f : Lamp → Lamp) : (d.modLamp c f).ill.lamps.length = d.ill.lamps.length :=
  modAt_length _ _ _

/-- A part of a channel that an update leaves alone stays, whether the channel is one of the device's or not. -/
theorem lampC_modLamp_keeps {α : Type} (d : Dev) (c k : Nat) {f : Lamp → Lamp} (p : Lamp → α) (h : ∀ l, p (f l) = p l) :
    p ((d.modLamp c f).lampC k) = p (d.lampC k) := by
  by_cases hk : k = c
  · subst hk
    by_cases hin : k < d.ill.lamps.length
    · rw [lampC_modLamp_same d f hin, h]
    · have hout (x : Dev) (hx : x.ill.lamps.length = d.ill.lamps.length) : x.lampC k = default :=
        List.getD_eq_default _ _ (by omega)
      rw [hout _ (lamps_modLamp_length d k f), hout d rfl]
  · rw [lampC_modLamp_other d f hk]

theorem lampC_of_ill {a b : Dev} (h : b.ill = a.ill) (c : Nat) : b.lampC c = a.lampC c := by rw [Dev.lampC, h, Dev.lampC]

theorem HostSide.ill_eq {a b : Dev} (h : HostSide a b) : b.ill = a.ill := by
  obtain ⟨_, _, _, _, rfl⟩ := h
  rfl

theorem lampSafe_of_mode {a b : Dev} (h : b.mode = a.mode) : b.lampSafe = a.lampSafe := by
  unfold Dev.lampSafe Dev.safeState
  rw [h]

/-! ## Levels (R447) -/

section
variable {a b : Dev} (hregs : ∀ off, b.rd off = a.rd off)
include hregs

theorem bloomOf_congr (hblooms : b.ill.blooms = a.ill.blooms) (c : Nat) : b.bloomOf c = a.bloomOf c := by
  unfold Dev.bloomOf
  rw [bit_other (hregs _), hblooms]

/-- The level goes by registers, mode, engines and the host's level. -/
theorem lampLevel_congr (hmode : b.mode = a.mode) (hblooms : b.ill.blooms = a.ill.blooms) {c : Nat}
    (hhost : (b.lampC c).host = (a.lampC c).host) : b.lampLevel c = a.lampLevel c := by
  unfold Dev.lampLevel Dev.lampLatch
  rw [bit_other (hregs _) 31, bit_other (hregs _) (16 + c), lampSafe_of_mode hmode, hmode, hblooms, fld_other (hregs _),
    bloomOf_congr hregs hblooms, hhost]

end

theorem lampTarget_congr {a b : Dev} {c : Nat} (htarget : b.rd (ILL_CH_TARGET c) = a.rd (ILL_CH_TARGET c))
    (hnum : (b.lampC c).fNum = (a.lampC c).fNum) (hden : (b.lampC c).fDen = (a.lampC c).fDen) (strobe : Bool) :
    b.lampTarget c strobe = a.lampTarget c strobe := by
  unfold Dev.lampTarget Lamp.derate
  rw [hnum, hden, fld_other htarget 16 10, fld_other htarget 0 10]

section
variable {d : Dev} {c : Nat}

theorem lampLevel_off (h : d.bit (ILL_CH_CFG c) 31 = false) : d.lampLevel c = 0 := by
  unfold Dev.lampLevel
  rw [h]
  rfl

variable (hon : d.bit (ILL_CH_CFG c) 31 = true) (hcur : d.mode.cur ≠ .configure) (hsafe : d.lampSafe = false)
include hon hcur hsafe

/-- The level of a channel that is on, outside CONFIGURE and the safe pattern. -/
theorem lampLevel_on : d.lampLevel c = if d.lampLatch c then 0 else (d.bloomOf c).getD (d.lampC c).host := by
  unfold Dev.lampLevel
  rw [hon, hsafe, beq_eq_false_iff_ne.mpr hcur]
  rfl

end

/-! ## A period start (R442, R447, R450) -/

/-- The newest LED_SET that has come into force by now. -/
def Dev.lampDue (d : Dev) (c : Nat) : Dev :=
  match ((d.lampC c).next.filter (fun x => decide (x.2.2.2 < d.motCycle))).getLast? with
  | some (v, set, strobe, _) =>
    (d.modLamp c (fun (l : Lamp) => { l with host := v })).wrN (ILL_CH_TARGET c) (set + strobe * 2 ^ 16)
  | none => d

/-- Only LED_SETs to come are left. -/
def Dev.lampNext (d : Dev) (c : Nat) : Dev :=
  d.modLamp c (fun (l : Lamp) => { l with next := l.next.filter (fun x => decide (d.motCycle ≤ x.2.2.2)), dark := false })

/-- The channel takes its level. -/
def Dev.lampTake (d : Dev) (c : Nat) : Dev :=
  (d.lampForce c (d.lampLevel c)).send (.lamp c (lampSlices (d.lampLevel c)
    ((d.lampForce c (d.lampLevel c)).fld (ILL_CH_CFG c) 0 16)) ((d.lampForce c (d.lampLevel c)).lampTarget c false))

theorem exec_ledPeriodStart {c : Fin 12} {s : State} (hboot : 2 ≤ s.dev.mode.boot) (hon : s.dev.lampOn c = true) :
    exec (.ledPeriodStart c) s =
      .next { s with dev := (((s.dev.lampDue c).lampNext c).lampTake c).lampSetDone c } := by
  have ha : Awake s := by show s.dev.mode.boot ≠ 0; omega
  show execLedPeriodStart c s = _
  unfold execLedPeriodStart
  rw [on_awake _ _ ha]
  refine next_congr ((if_neg (by simp only [hon]; simp; omega)).trans ?_)
  unfold Dev.lampTake Dev.lampNext Dev.lampDue
  rfl

/-- The registers of a level: the level itself and the channel's bit of ILL_STATUS. -/
theorem lampForce_regs (d : Dev) {c : Nat} (v : Nat) (hc : c < 32) :
    (d.lampForce c v).fld (ILL_CH_LEVEL c) 0 16 = v % 65536 ∧ (d.lampForce c v).bit ILL_STATUS c = decide (0 < v) ∧
    (∀ k, k ≠ c → k < 32 → (d.lampForce c v).bit ILL_STATUS k = d.bit ILL_STATUS k) ∧
    ∀ off, off ≠ ILL_CH_LEVEL c → off ≠ ILL_STATUS → (d.lampForce c v).rd off = d.rd off := by
  unfold Dev.lampForce
  refine ⟨?_, bit_setBit_same _ _ _ _ hc, fun k hk hlt => ?_, fun off hlev hst => ?_⟩
  · rw [fld_other (rd_setBit_other _ _ _ _ (by unfold ILL_CH_LEVEL ILL_STATUS; omega)) 0 16]
    show Word.get (Dev.rd _ _) 0 16 = _
    rw [rd_wrN_same, get_ofNat _ _ (by decide)]
    rfl
  · rw [bit_setBit_apart _ _ _ _ _ hlt hk]
    exact bit_other (rd_wrN_other _ _ _ (by unfold ILL_CH_LEVEL ILL_STATUS; omega)) k
  · rw [rd_setBit_other _ _ _ _ hst, rd_wrN_other _ _ _ hlev]

theorem lampForce_keeps (d : Dev) (c v : Nat) : (d.lampForce c v).ill = d.ill ∧ (d.lampForce c v).mode = d.mode ∧
    (d.lampForce c v).flt = d.flt ∧ (d.lampForce c v).out = d.out ∧ (d.lampForce c v).tb3 = d.tb3 := by
  unfold Dev.lampForce
  exact ⟨(Dev.setBit_ill ..).trans (Dev.wrN_ill ..), (Dev.setBit_mode ..).trans (Dev.wrN_mode ..),
    (Dev.setBit_flt ..).trans (Dev.wrN_flt ..), (Dev.setBit_out ..).trans (Dev.wrN_out ..),
    (Dev.setBit_tb3 ..).trans (Dev.wrN_tb3 ..)⟩

/-- The slices of a level go out with the target in force. -/
theorem lampTake_out (d : Dev) (c : Nat) :
    (d.lampTake c).out = .lamp c (lampSlices (d.lampLevel c) (d.fld (ILL_CH_CFG c) 0 16)) (d.lampTarget c false) :: d.out := by
  have hregs (v off : Nat) (h : off = ILL_CH_CFG c ∨ off = ILL_CH_TARGET c) : (d.lampForce c v).rd off = d.rd off := by
    unfold Dev.lampForce
    rw [rd_setBit_other _ _ _ _ (by unfold ILL_CH_CFG ILL_CH_TARGET at h; unfold ILL_STATUS; omega),
      rd_wrN_other _ _ _ (by unfold ILL_CH_CFG ILL_CH_TARGET at h; unfold ILL_CH_LEVEL; omega)]
  unfold Dev.lampTake
  generalize d.lampLevel c = v
  obtain ⟨hill, -, -, hout, -⟩ := lampForce_keeps d c v
  rw [fld_other (hregs v _ (Or.inl rfl)) 0 16, lampTarget_congr (hregs v _ (Or.inr rfl)) (by rw [lampC_of_ill hill])
    (by rw [lampC_of_ill hill])]
  exact congrArg (_ :: ·) hout

/-- LED_SETs that complete leave the registers and the channels. -/
theorem lampSetDone_keeps (d : Dev) (c : Nat) : (∀ k, (d.lampSetDone c).lampC k = d.lampC k) ∧
    ∀ off, (d.lampSetDone c).rd off = d.rd off := by
  have hfold (l : List (Req × Nat × Nat)) (x : Dev) : HostSide x (l.foldl (fun d s => d.ok s.1 0 0 0 0) x) ∧
      ∀ off, (l.foldl (fun d s => d.ok s.1 0 0 0 0) x).rd off = x.rd off :=
    ⟨foldl_keeps HostSide HostSide.refl (fun _ _ _ => HostSide.trans) _ (fun _ _ => hostSide_ok ..) l x,
      fun off => foldl_keeps (fun a b : Dev => b.rd off = a.rd off) (fun _ => rfl)
        (fun (a b c : Dev) (h : b.rd off = a.rd off) (k : c.rd off = b.rd off) => k.trans h) _
        (fun _ _ => rd_ok ..) l x⟩
  unfold Dev.lampSetDone
  extract_lets hit sets ill d1
  obtain ⟨hside, hrd⟩ := hfold (sets.filter (fun x => x.2.1 == 0)) d1
  exact ⟨fun k => lampC_of_ill hside.ill_eq k, hrd⟩

/-- Where no LED_SET is in flight, none completes. -/
theorem lampSetDone_none {d : Dev} (c : Nat) (h : d.ill.sets = []) : d.lampSetDone c = d := by
  unfold Dev.lampSetDone
  simp only [h, List.map_nil, List.filter_nil, List.foldl_nil]
  rw [← h]

theorem lampDue_none {d : Dev} {c : Nat} (h : (d.lampC c).next = []) : d.lampDue c = d := by
  unfold Dev.lampDue
  simp [h]

theorem lampDue_one {d : Dev} {c v set strobe at_ : Nat} (h : (d.lampC c).next = [(v, set, strobe, at_)])
    (hat : at_ < d.motCycle) : d.lampDue c =
      (d.modLamp c (fun (l : Lamp) => { l with host := v })).wrN (ILL_CH_TARGET c) (set + strobe * 2 ^ 16) := by
  unfold Dev.lampDue
  simp [h, hat]

/-- A period start of a channel that no LED_SET bears on. -/
theorem periodStart_shows {d : Dev} {c : Nat} (hc : c < 12) (hnext : (d.lampC c).next = []) (hsets : d.ill.sets = []) :
    ∃ y, ((((d.lampDue c).lampNext c).lampTake c).lampSetDone c) = y ∧
      y.fld (ILL_CH_LEVEL c) 0 16 = d.lampLevel c % 65536 ∧ y.bit ILL_STATUS c = decide (0 < d.lampLevel c) ∧
      y.mode = d.mode ∧ y.flt = d.flt ∧
      y.out = .lamp c (lampSlices (d.lampLevel c) (d.fld (ILL_CH_CFG c) 0 16)) (d.lampTarget c false) :: d.out := by
  rw [lampDue_none hnext]
  obtain ⟨hregs, hmode, hflt, hout, hsets'⟩ : (∀ off, (d.lampNext c).rd off = d.rd off) ∧ (d.lampNext c).mode = d.mode ∧
      (d.lampNext c).flt = d.flt ∧ (d.lampNext c).out = d.out ∧ (d.lampNext c).ill.sets = [] :=
    ⟨fun _ => rfl, rfl, rfl, rfl, hsets⟩
  have hlevel : (d.lampNext c).lampLevel c = d.lampLevel c :=
    lampLevel_congr hregs hmode rfl (lampC_modLamp_keeps d c c Lamp.host (fun _ => rfl))
  have htarget : (d.lampNext c).lampTarget c false = d.lampTarget c false :=
    lampTarget_congr (hregs _) (lampC_modLamp_keeps d c c Lamp.fNum (fun _ => rfl))
      (lampC_modLamp_keeps d c c Lamp.fDen (fun _ => rfl)) false
  generalize d.lampNext c = n at *
  have hlast := lampTake_out n c
  obtain ⟨hlev, hst, -, -⟩ := lampForce_regs n (n.lampLevel c) (show c < 32 by omega)
  obtain ⟨hill, hmode', hflt', -, -⟩ := lampForce_keeps n c (n.lampLevel c)
  have hnone : (n.lampTake c).ill.sets = [] := (congrArg Illum.sets hill).trans hsets'
  rw [lampSetDone_none c hnone]
  rw [hlevel, htarget, fld_other (hregs _), hout] at hlast
  rw [hlevel] at hlev hst
  exact ⟨_, rfl, by rw [← hlev, ← hlevel]; rfl, by rw [← hst, ← hlevel]; rfl, hmode'.trans hmode, hflt'.trans hflt, hlast⟩

/-- A period start with one LED_SET to come into force. -/
theorem periodStart_sets {d : Dev} {c v set strobe at_ : Nat} (hc : c < 12) (hin : c < d.ill.lamps.length)
    (hnext : (d.lampC c).next = [(v, set, strobe, at_)]) (hat : at_ < d.motCycle) :
    ∃ y, ((((d.lampDue c).lampNext c).lampTake c).lampSetDone c) = y ∧
      (y.lampC c).host = v ∧ (y.lampC c).next = [] ∧ y.rd (ILL_CH_TARGET c) = BitVec.ofNat 32 (set + strobe * 2 ^ 16) := by
  rw [lampDue_one hnext hat]
  have htarget := rd_wrN_same (d.modLamp c (fun (l : Lamp) => { l with host := v })) (ILL_CH_TARGET c) (set + strobe * 2 ^ 16)
  have hlamp : ((d.modLamp c (fun (l : Lamp) => { l with host := v })).wrN (ILL_CH_TARGET c) (set + strobe * 2 ^ 16)).lampC c =
      { d.lampC c with host := v } :=
    (lampC_of_ill (Dev.wrN_ill ..) c).trans (lampC_modLamp_same d _ hin)
  have hlen : c < ((d.modLamp c (fun (l : Lamp) => { l with host := v })).wrN (ILL_CH_TARGET c)
      (set + strobe * 2 ^ 16)).ill.lamps.length := by
    rw [Dev.wrN_ill, lamps_modLamp_length]
    exact hin
  have hcycle : ((d.modLamp c (fun (l : Lamp) => { l with host := v })).wrN (ILL_CH_TARGET c)
      (set + strobe * 2 ^ 16)).motCycle = d.motCycle := rfl
  generalize (d.modLamp c (fun (l : Lamp) => { l with host := v })).wrN (ILL_CH_TARGET c) (set + strobe * 2 ^ 16) = x at *
  have hnew : (x.lampNext c).lampC c = { x.lampC c with
      next := (x.lampC c).next.filter (fun y => decide (x.motCycle ≤ y.2.2.2)), dark := false } :=
    lampC_modLamp_same x _ hlen
  have hsame : (x.lampNext c).rd (ILL_CH_TARGET c) = x.rd (ILL_CH_TARGET c) := rfl
  generalize x.lampNext c = n at *
  obtain ⟨hill, -⟩ := lampForce_keeps n c (n.lampLevel c)
  have hreg : (n.lampTake c).rd (ILL_CH_TARGET c) = n.rd (ILL_CH_TARGET c) := by
    exact (lampForce_regs n _ (show c < 32 by omega)).2.2.2 _ (by unfold ILL_CH_TARGET ILL_CH_LEVEL; omega)
      (by unfold ILL_CH_TARGET ILL_STATUS; omega)
  have hkept : (n.lampTake c).lampC c = n.lampC c := lampC_of_ill hill c
  obtain ⟨hdone, hregs⟩ := lampSetDone_keeps (n.lampTake c) c
  refine ⟨_, rfl, ?_, ?_, ?_⟩
  · rw [hdone, hkept, hnew, hlamp]
  · rw [hdone, hkept, hnew, hlamp, hcycle]
    simp [hnext, hat]
  · rw [hregs, hreg, hsame, htarget]

/-- A channel that is absent does nothing. -/
theorem lamp_absent {c : Fin 12} {s : State} (h : s.dev.lampOn c = false) : exec (.ledPeriodStart c) s = .next s ∧
    exec (.ledDerate c) s = .next s ∧ ∀ on off, exec (.ledDiagnostic c on off) s = .next s := by
  refine ⟨?_, ?_, fun on off => ?_⟩
  · show execLedPeriodStart c s = _
    unfold execLedPeriodStart
    exact on_same (if_pos (by simp [h]))
  · show execLedDerate c s = _
    unfold execLedDerate
    exact on_same (if_pos (by simp [h]))
  · show execLedDiagnostic c on off s = _
    unfold execLedDiagnostic
    exact on_same (if_pos (by simp [h]))

/-! ## Bloom engines (R444) -/

theorem exec_bloomUpdate {k : Fin 2} {s : State} (ha : Awake s) (h : k.val = 0 ∨ s.dev.lampSafe = false) :
    exec (.bloomUpdate k) s = .next { s with dev := s.dev.bloomSet k } := by
  show execBloomUpdate k s = _
  unfold execBloomUpdate
  rw [on_awake _ _ ha]
  refine next_congr (if_neg ?_)
  rcases h with h | h <;> simp [h]

theorem exec_bloomUpdate_safe {s : State} (h : s.dev.lampSafe = true) : exec (.bloomUpdate 1) s = .next s := by
  show execBloomUpdate 1 s = _
  unfold execBloomUpdate
  exact on_same (if_pos (by simp [h]))

/-- What an engine gives its members. -/
def Dev.bloomPut (d : Dev) (k : Nat) (v : List (Nat × Nat)) : Dev :=
  { d with ill := { d.ill with blooms := modAt d.ill.blooms k (fun (b : Bloom) => { b with vals := v }) } }

theorem bloomPut_vals (d : Dev) {k : Nat} (v : List (Nat × Nat)) (hk : k < d.ill.blooms.length) :
    ((d.bloomPut k v).ill.blooms.getD k default).vals = v := by
  unfold Dev.bloomPut
  exact congrArg Bloom.vals (getD_modAt_same _ _ _ _ hk)

/-- A running light lights one member after the other. -/
theorem bloomSet_runs {d : Dev} {k per : Nat} {ms : List Nat} (hmode : d.fld (ILL_BLOOM_MODE k) 0 3 = 4)
    (hper : per = d.fld (ILL_BLOOM_PERIOD k) 0 16) (hpos : per ≠ 0) (hms : ms = bitList 12 (d.fld (ILL_BLOOM_MODE k) 16 12)) :
    d.bloomSet k = d.bloomPut k (ms.mapIdx (fun i c => (c,
      if i = (d.tb3 - (d.ill.blooms.getD k default).start) / perMs % per * ms.length / per
        then d.fld (ILL_BLOOM_LEVEL k) 16 16 else d.fld (ILL_BLOOM_LEVEL k) 0 16))) := by
  have hmax : Nat.max 1 per = per := Nat.max_eq_right (Nat.one_le_iff_ne_zero.mpr hpos)
  unfold Dev.bloomSet
  simp only [hmode, ← hper, ← hms, hmax]
  rw [if_neg (by decide), if_neg (fun h => hpos h.1)]
  rfl

/-! ## Strobe windows (R443) -/

/-- With nothing waiting, the trim unit only shows that it is idle. -/
theorem pumpTrim_idle {d : Dev} (hqueue : d.trim.queue = []) (hcommits : d.trim.commits = []) :
    d.pumpTrim = d.setBit ANA_STATUS 31 false := by
  have hpump : Dev.pumpTrimN 1 d = d.setBit ANA_STATUS 31 false := by
    rw [Dev.pumpTrimN, hqueue]
  have htrim : (d.setBit ANA_STATUS 31 false).trim.commits = [] := by rw [Dev.setBit_trim, hcommits]
  unfold Dev.pumpTrim
  rw [hqueue, List.length_nil, hpump]
  unfold Dev.pumpCommits
  rw [htrim]
  rfl

theorem exec_strobeWindow {c : Fin 12} {opens : Bool} {s : State} (hboot : 2 ≤ s.dev.mode.boot) :
    exec (.strobeWindow c opens) s = .next { s with dev := (s.dev.strobeWindow c opens).pumpTrim } := by
  have ha : Awake s := by show s.dev.mode.boot ≠ 0; omega
  show execStrobeWindow c opens s = _
  unfold execStrobeWindow
  rw [on_awake _ _ ha]
  exact next_congr (if_neg (by omega))

/-- A window opens: the channel takes its strobe target. -/
def Dev.lampOpens (d : Dev) (c cl : Nat) : Dev :=
  (d.modLamp c (fun (l : Lamp) => { l with win := some cl, dark := false })).send (.lampWindow c (d.lampTarget c true) true)

theorem strobeWindow_opens {d : Dev} {c o cl : Nat} (hstrobes : d.lampStrobes c = true) (hwin : (d.lampC c).win = none)
    (hfind : (d.cam (16 + d.fld (ILL_CH_CFG c) 28 2)).strobes.find? (fun w => decide (d.tb3 < w.2)) = some (o, cl)) :
    d.strobeWindow c true = (d.advanceTo o).lampOpens c cl := by
  unfold Dev.strobeWindow
  simp only [hwin, hfind, hstrobes, if_true]
  rfl

theorem strobeWindow_closes {d : Dev} {c cl : Nat} (hwin : (d.lampC c).win = some cl) :
    d.strobeWindow c false = (d.advanceTo cl).lampClose c := by
  unfold Dev.strobeWindow
  simp only [hwin]

/-- Time that goes on leaves the lamps, the trim unit and the registers. -/
theorem advanceTo_lamps (d : Dev) (t : Nat) : (d.advanceTo t).ill = d.ill ∧ (d.advanceTo t).out = d.out ∧
    (d.advanceTo t).trim = d.trim ∧ (∀ off, (d.advanceTo t).rd off = d.rd off) ∧
    ∀ c strobe, (d.advanceTo t).lampTarget c strobe = d.lampTarget c strobe := by
  obtain ⟨_, _, _, h⟩ := advanceTo_eq d t
  rw [h]
  exact ⟨rfl, rfl, rfl, fun _ => rfl, fun _ _ => rfl⟩

/-- With nothing waiting, the trim unit leaves the lamps. -/
theorem pumpTrim_lamps {d : Dev} (hqueue : d.trim.queue = []) (hcommits : d.trim.commits = []) :
    (∀ c, d.pumpTrim.lampC c = d.lampC c) ∧ d.pumpTrim.out = d.out := by
  rw [pumpTrim_idle hqueue hcommits]
  exact ⟨lampC_of_ill (Dev.setBit_ill ..), Dev.setBit_out ..⟩

/-- A channel with a window is one of the device's. -/
theorem lamp_lt_of_win {d : Dev} {c cl : Nat} (h : (d.lampC c).win = some cl) : c < d.ill.lamps.length := by
  by_contra hout
  have hdef : d.lampC c = default := List.getD_eq_default _ _ (by omega)
  rw [hdef] at h
  exact absurd h (by simp [default, instInhabitedLamp.default])

section
variable {s : State} {c : Fin 12} (hboot : 2 ≤ s.dev.mode.boot) (hqueue : s.dev.trim.queue = [])
  (hcommits : s.dev.trim.commits = [])
include hboot hqueue hcommits

/-- What a window leaves, with nothing in the trim unit: its end and its light. -/
theorem exec_strobeWindow_shows {x : Dev} {opens : Bool} {w : Option Nat} {l : Output} (h : s.dev.strobeWindow c opens = x)
    (htrim : x.trim = s.dev.trim) (hwin : (x.lampC c).win = w) (hout : x.out = l :: s.dev.out) :
    ∃ y : Dev, exec (.strobeWindow c opens) s = .next { s with dev := y } ∧ (y.lampC c).win = w ∧ y.out = l :: s.dev.out := by
  obtain ⟨hlamp, hsent⟩ := pumpTrim_lamps (d := x) (by rw [htrim, hqueue]) (by rw [htrim, hcommits])
  rw [exec_strobeWindow hboot, h]
  exact ⟨_, rfl, by rw [hlamp, hwin], by rw [hsent, hout]⟩

theorem exec_strobeWindow_opens {o cl : Nat} (hstrobes : s.dev.lampStrobes c = true) (hwin : (s.dev.lampC c).win = none)
    (hfind : (s.dev.cam (16 + s.dev.fld (ILL_CH_CFG c) 28 2)).strobes.find? (fun w => decide (s.dev.tb3 < w.2)) = some (o, cl))
    (hin : c.val < s.dev.ill.lamps.length) :
    ∃ y : Dev, exec (.strobeWindow c true) s = .next { s with dev := y } ∧ (y.lampC c).win = some cl ∧
      y.out = .lampWindow c (s.dev.lampTarget c true) true :: s.dev.out := by
  obtain ⟨hill, hout, htrim, -, htarget⟩ := advanceTo_lamps s.dev o
  have hopens := strobeWindow_opens hstrobes hwin hfind
  rw [← htarget, ← hout]
  rw [← hill] at hin
  generalize s.dev.advanceTo o = x at *
  rw [hout]
  exact exec_strobeWindow_shows hboot hqueue hcommits hopens htrim (congrArg Lamp.win (lampC_modLamp_same x _ hin))
    (congrArg (_ :: ·) hout)

theorem exec_strobeWindow_closes {cl : Nat} (hwin : (s.dev.lampC c).win = some cl) :
    ∃ y : Dev, exec (.strobeWindow c false) s = .next { s with dev := y } ∧ (y.lampC c).win = none ∧
      y.out = .lampWindow c (s.dev.lampTarget c false) false :: s.dev.out := by
  obtain ⟨hill, hout, htrim, -, htarget⟩ := advanceTo_lamps s.dev cl
  have hin := lamp_lt_of_win hwin
  have hcloses := strobeWindow_closes hwin
  rw [← htarget]
  rw [← hill] at hin
  generalize s.dev.advanceTo cl = x at *
  exact exec_strobeWindow_shows hboot hqueue hcommits hcloses htrim (congrArg Lamp.win (lampC_modLamp_same x _ hin))
    (congrArg (_ :: ·) hout)

end

/-! ## Derating (R445) -/

/-- f lies between FLOOR / 256 and 1. -/
theorem derateOf_range {cfg : Word} {t : Int} {f : Nat × Nat} (h : derateOf cfg t = some f) :
    0 < f.2 ∧ f.1 ≤ f.2 ∧ cfg.get 24 8 * f.2 ≤ f.1 * 256 := by
  have hfloor : cfg.get 24 8 < 256 := Word.get_lt cfg 24 8
  unfold derateOf at h
  extract_lets knee den num floor at h
  have hfl : floor = (cfg.get 24 8 : Int) := rfl
  clear_value knee den num floor
  generalize cfg.get 24 8 = k at *
  split at h
  · cases h
  split at h
  · cases h
    exact ⟨by decide, by decide, by omega⟩
  split at h
  · cases h
    exact ⟨Nat.zero_lt_succ 255, hfloor.le, le_refl (k * 256)⟩
  · next hpos hlt hover =>
    cases h
    subst hfl
    have hden : (0 : Int) < den := by omega
    have hnum : 0 < num := by
      have := mul_nonneg (Int.natCast_nonneg k) hden.le
      omega
    refine ⟨by omega, by omega, ?_⟩
    have hz : ((k * den.toNat : Nat) : Int) ≤ ((num.toNat * 256 : Nat) : Int) := by
      push_cast
      rw [Int.toNat_of_nonneg hden.le, Int.toNat_of_nonneg hnum.le]
      omega
    exact_mod_cast hz

/-- DERATE is raised once, as f falls below 1. -/
theorem setDerate_quiet (d : Dev) (c : Nat) {f : Nat × Nat} (h : f.2 ≤ f.1 ∨ (d.lampC c).below = true) :
    d.setDerate c f = d.modLamp c (fun (l : Lamp) => { l with fNum := f.1, fDen := f.2, below := decide (f.1 < f.2) }) := by
  unfold Dev.setDerate
  refine if_neg ?_
  rcases h with h | h
  · simp [Nat.not_lt.mpr h]
  · simp [h]

theorem setDerate_raises (d : Dev) (c : Nat) {f : Nat × Nat} (hlt : f.1 < f.2) (h : (d.lampC c).below = false) :
    d.setDerate c f = (d.modLamp c (fun (l : Lamp) => { l with fNum := f.1, fDen := f.2, below := true })).fault 33 4 := by
  unfold Dev.setDerate
  simp [h, hlt]

/-- The channel takes its f, a free one where no rule gives it. -/
def Dev.derated (d : Dev) (c : Nat) (f : Option (Nat × Nat)) : Dev :=
  match f with
  | some f => d.setDerate c f
  | none => d.free.2.setDerate c (d.free.1 % 257, 256)

/-- Where no input is bad, there is none to forget. -/
theorem ntcGood (d : Dev) (m : Nat) (h : d.ill.ntcBad = 0) :
    { d with ill := { d.ill with ntcBad := d.ill.ntcBad - (d.ill.ntcBad &&& m) } } = d := by
  have hsame : d.ill.ntcBad - (d.ill.ntcBad &&& m) = d.ill.ntcBad := by simp [h]
  rw [hsame]

section
variable {c : Fin 12} {s : State} {n : Nat} (hboot : 2 ≤ s.dev.mode.boot) (hon : s.dev.lampOn c = true)
  (hn : n = s.dev.fld (ILL_CH_CFG c) 26 2)
include hboot hon hn

theorem exec_ledDerate_bad (hbad : s.dev.bit (ILL_NTC n) 16 = true) :
    exec (.ledDerate c) s = .next { s with dev :=
      ((if s.dev.ill.ntcBad.testBit n then s.dev
        else ({ s.dev with ill := { s.dev.ill with ntcBad := s.dev.ill.ntcBad ||| 2 ^ n } } : Dev).fault 33 3).setDerate c
          ((s.dev.rd ILL_DERATE).get 24 8, 256)) } := by
  have ha : Awake s := by show s.dev.mode.boot ≠ 0; omega
  show execLedDerate c s = _
  unfold execLedDerate
  rw [on_awake _ _ ha]
  refine next_congr ((if_neg (by simp only [hon]; simp; omega)).trans ?_)
  subst hn
  exact if_pos hbad

theorem exec_ledDerate_good (hgood : s.dev.bit (ILL_NTC n) 16 = false) (hnone : s.dev.ill.ntcBad = 0) :
    exec (.ledDerate c) s = .next { s with dev :=
      (s.dev.derated c (derateOf (s.dev.rd ILL_DERATE) (signed 16 (s.dev.fld (ILL_NTC n) 0 16)))) } := by
  have ha : Awake s := by show s.dev.mode.boot ≠ 0; omega
  show execLedDerate c s = _
  unfold execLedDerate
  rw [on_awake _ _ ha]
  refine next_congr ((if_neg (by simp only [hon]; simp; omega)).trans ?_)
  subst hn
  refine (if_neg (by simp [hgood])).trans ?_
  dsimp only
  rw [ntcGood _ _ hnone]
  rfl

end

/-! ## Open and short (R446) -/

/-- The findings of a diagnosis are kept, and its samples shown. -/
def Dev.lampFound (d : Dev) (c on off : Nat) (isOpen isShort : Bool) : Dev :=
  ((d.setFld (ILL_CH_SENSE c) 16 10 off).setFld (ILL_CH_SENSE c) 0 10 on).modLamp c
    (fun (l : Lamp) => { l with wasOpen := isOpen, wasShort := isShort })

theorem lampFound_shows (d : Dev) (c : Nat) {on off : Nat} (isOpen isShort : Bool) (hon : on < 2 ^ 10) (hoff : off < 2 ^ 10) :
    (d.lampFound c on off isOpen isShort).fld (ILL_CH_SENSE c) 0 10 = on ∧
    (d.lampFound c on off isOpen isShort).fld (ILL_CH_SENSE c) 16 10 = off ∧
    (d.lampFound c on off isOpen isShort).flt = d.flt := by
  have hmod (x : Dev) (f : Lamp → Lamp) (lo n : Nat) : (x.modLamp c f).fld (ILL_CH_SENSE c) lo n = x.fld (ILL_CH_SENSE c) lo n := rfl
  have hflt (x : Dev) (f : Lamp → Lamp) : (x.modLamp c f).flt = x.flt := rfl
  unfold Dev.lampFound
  rw [hmod, hmod, hflt, Dev.setFld_flt, Dev.setFld_flt]
  refine ⟨?_, ?_, rfl⟩
  · rw [fld_setFld_same _ _ _ _ _ (by decide), Nat.mod_eq_of_lt hon]
  · rw [fld_setFld_apart _ _ _ _ _ (by decide) (by decide), fld_setFld_same _ _ _ _ _ (by decide), Nat.mod_eq_of_lt hoff]

theorem lampFound_lamp {d : Dev} {c : Nat} (on off : Nat) (isOpen isShort : Bool) (hc : c < d.ill.lamps.length) :
    (d.lampFound c on off isOpen isShort).lampC c = { d.lampC c with wasOpen := isOpen, wasShort := isShort } := by
  have hill : ((d.setFld (ILL_CH_SENSE c) 16 10 off).setFld (ILL_CH_SENSE c) 0 10 on).ill = d.ill :=
    (Dev.setFld_ill ..).trans (Dev.setFld_ill ..)
  unfold Dev.lampFound
  rw [lampC_modLamp_same _ _ (by rw [hill]; exact hc), lampC_of_ill hill]

theorem lampPulse_keeps (d : Dev) (c : Nat) : (d.lampPulse c).flt = d.flt ∧ (d.lampPulse c).ill = d.ill := by
  unfold Dev.lampPulse
  dsimp only
  split <;> exact ⟨rfl, rfl⟩

section
variable {c : Fin 12} {on off : BitVec 10} {s : State} (hboot : 2 ≤ s.dev.mode.boot) (hpresent : s.dev.lampOn c = true)
  (hcfg : s.dev.bit (ILL_CH_CFG c) 31 = true) (hdim : s.dev.bit (ILL_CH_CFG c) 30 = false)
  (hwin : (s.dev.lampC c).win = none) (hlevel : 0 < s.dev.fld (ILL_CH_LEVEL c) 0 16)
include hboot hpresent hcfg hdim hwin hlevel

/-- A diagnosis of a dimmed channel that does not find it open. -/
theorem exec_ledDiagnostic {isShort : Bool} (hnotOpen : s.dev.lampTarget c false ≤ 4 * on.toNat)
    (hshort : isShort = (decide (3 * s.dev.lampTarget c false < 2 * on.toNat) || decide (16 < off.toNat))) :
    exec (.ledDiagnostic c on off) s = .next { s with dev :=
      (if isShort && (s.dev.lampC c).wasShort then ((s.dev.lampPulse c).lampFound c on.toNat off.toNat false isShort).lampShort c
      else (s.dev.lampPulse c).lampFound c on.toNat off.toNat false isShort) } := by
  have ha : Awake s := by show s.dev.mode.boot ≠ 0; omega
  have hstrobe : s.dev.lampStrobes c = false := by
    unfold Dev.lampStrobes
    rw [hdim]
    simp
  obtain ⟨hlev, htarget, hlamp⟩ : (s.dev.lampPulse c).fld (ILL_CH_LEVEL c) 0 16 = s.dev.fld (ILL_CH_LEVEL c) 0 16 ∧
      (s.dev.lampPulse c).lampTarget c false = s.dev.lampTarget c false ∧ (s.dev.lampPulse c).lampC c = s.dev.lampC c := by
    unfold Dev.lampPulse
    dsimp only
    split <;> exact ⟨rfl, rfl, rfl⟩
  have hopen : decide (4 * on.toNat < s.dev.lampTarget c false) = false := decide_eq_false (by omega)
  show execLedDiagnostic c on off s = _
  unfold execLedDiagnostic
  rw [on_awake _ _ ha]
  refine next_congr ((if_neg (by simp only [hpresent, hcfg]; simp; omega)).trans ?_)
  simp only [hwin, hstrobe, Bool.false_eq_true, if_false, hlev, htarget, hlamp, Bool.false_or, decide_eq_true hlevel, if_true,
    Bool.true_and, hopen, Bool.false_and, ← hshort]
  rfl

end

/-- The latch of a short, and the gate low. -/
theorem lampShort_latches {d : Dev} {c : Nat} (hsafe : d.lampSafe = false) (hc : c < 12) :
    ∃ x : Dev, d.lampShort c = x.fault 33 2 ∧ x.lampLatch c = true ∧ x.fld (ILL_CH_LEVEL c) 0 16 = 0 := by
  have hlatch : (d.setBit ILL_STATUS (16 + c) true).bit ILL_STATUS (16 + c) = true := bit_setBit_same _ _ _ _ (by omega)
  have hsafe' : (d.setBit ILL_STATUS (16 + c) true).lampSafe = false := (lampSafe_of_mode (Dev.setBit_mode ..)).trans hsafe
  unfold Dev.lampShort
  generalize d.setBit ILL_STATUS (16 + c) true = y at hlatch hsafe'
  dsimp only
  have hmod (f : Lamp → Lamp) : (y.modLamp c f).lampSafe = false ∧ (y.modLamp c f).bit ILL_STATUS (16 + c) = true :=
    ⟨hsafe', hlatch⟩
  generalize hf : (fun (l : Lamp) => { l with shortAt := some y.motCycle, win := none }) = f
  obtain ⟨hsafe, hbit⟩ := hmod f
  generalize y.modLamp c f = z at hsafe hbit
  rw [if_neg (by simp [hsafe])]
  obtain ⟨hlev, -, hother, -⟩ := lampForce_regs z 0 (show c < 32 by omega)
  exact ⟨_, rfl, (hother (16 + c) (by omega) (by omega)).trans hbit, hlev⟩

/-! ## Commands (R449) -/

/-- A LED_SET joins those of channel c. -/
def Dev.lampQueue (v set strobe : Nat) (d : Dev) (c : Nat) : Dev :=
  d.modLamp c (fun (l : Lamp) => { l with next := l.next ++ [(v, set, strobe, d.motCycle)] })

section
variable (v set strobe : Nat)

theorem lampQueue_fold (l : List Nat) (d : Dev) :
    (l.foldl (Dev.lampQueue v set strobe) d).regs = d.regs ∧ (l.foldl (Dev.lampQueue v set strobe) d).motCycle = d.motCycle ∧
    (l.foldl (Dev.lampQueue v set strobe) d).ill.sets = d.ill.sets := by
  induction l generalizing d with
  | nil => exact ⟨rfl, rfl, rfl⟩
  | cons b l ih => exact ih (d.lampQueue v set strobe b)

/-- Each named channel has it once. -/
theorem lampQueue_lamps {l : List Nat} (hnodup : l.Nodup) (d : Dev) {c : Nat} (hc : c < d.ill.lamps.length) :
    ((l.foldl (Dev.lampQueue v set strobe) d).lampC c) =
      { d.lampC c with next := (d.lampC c).next ++ if c ∈ l then [(v, set, strobe, d.motCycle)] else [] } := by
  induction l generalizing d with
  | nil => simp
  | cons b l ih =>
    obtain ⟨hb, hl⟩ := List.nodup_cons.mp hnodup
    have hcycle : (d.lampQueue v set strobe b).motCycle = d.motCycle := rfl
    rw [List.foldl_cons, ih hl (d.lampQueue v set strobe b) (hc.trans_eq (lamps_modLamp_length _ _ _).symm), hcycle]
    by_cases hcb : c = b
    · subst hcb
      have hone : (d.lampQueue v set strobe c).lampC c =
          { d.lampC c with next := (d.lampC c).next ++ [(v, set, strobe, d.motCycle)] } := lampC_modLamp_same _ _ hc
      simp [hone, hb]
    · have hone : (d.lampQueue v set strobe b).lampC c = d.lampC c := lampC_modLamp_other _ _ hcb
      simp [hone, hcb]

end

/-- A LED_SET is in flight until its channels have started a period. -/
def Dev.lampSetFlies (d : Dev) (q : Req) : Dev :=
  { d with ill := { d.ill with sets := d.ill.sets ++ [(q, q.a0.get 0 12, d.motCycle)] } }

theorem ledSet_effect {d : Dev} {q : Req} {e : Env} (hm : q.a0.get 0 12 ≠ 0) : cmdLedSet.effect q e d =
    ((bitList 12 (q.a0.get 0 12)).foldl (Dev.lampQueue (q.a1.get 0 16) (q.a2.get 0 10) (q.a2.get 16 10)) d).lampSetFlies q :=
  if_neg hm

/-- LED_REARM clears a latch, but of a short found in this cycle. -/
def Dev.lampRearm (d : Dev) (c : Nat) : Dev :=
  if (d.lampC c).shortAt = some d.motCycle then d else d.setBit ILL_STATUS (16 + c) false

theorem ledRearm_effect (d : Dev) (q : Req) (e : Env) :
    cmdLedRearm.effect q e d = ((bitList 12 (q.a0.get 0 12)).foldl Dev.lampRearm d).ok q 0 0 0 0 := rfl

theorem lampRearm_fold (l : List Nat) (d : Dev) {c : Nat} (hl : ∀ k ∈ l, k < 12) (hc : c < 12) :
    (l.foldl Dev.lampRearm d).lampLatch c =
      (d.lampLatch c && !(decide (c ∈ l) && decide ((d.lampC c).shortAt ≠ some d.motCycle))) := by
  induction l generalizing d with
  | nil => simp
  | cons b l ih =>
    have hb := hl b (by simp)
    have hsame : (d.lampRearm b).lampC c = d.lampC c ∧ (d.lampRearm b).motCycle = d.motCycle := by
      unfold Dev.lampRearm
      split
      · exact ⟨rfl, rfl⟩
      · exact ⟨lampC_of_ill (Dev.setBit_ill ..) c, by rw [Dev.motCycle, Dev.setBit_tb3, Dev.motCycle]⟩
    rw [List.foldl_cons, ih (d.lampRearm b) (fun k hk => hl k (List.mem_cons_of_mem _ hk)), hsame.1, hsame.2]
    unfold Dev.lampRearm Dev.lampLatch
    by_cases hcb : c = b
    · subst hcb
      by_cases hshort : (d.lampC c).shortAt = some d.motCycle
      · simp [hshort]
      · rw [if_neg hshort, bit_setBit_same _ _ _ _ (by omega)]
        simp [hshort]
    · have hbit : (if (d.lampC b).shortAt = some d.motCycle then d else d.setBit ILL_STATUS (16 + b) false).bit
          ILL_STATUS (16 + c) = d.bit ILL_STATUS (16 + c) := by
        split
        · rfl
        · exact bit_setBit_apart _ _ _ _ _ (by omega) (by omega)
      rw [hbit]
      simp [hcb]

/-- The channels a LED_SET names, as bits of its mask. -/
theorem mem_mask12 (w : Word) {c : Nat} (hc : c < 12) : c ∈ bitList 12 (w.get 0 12) ↔ w.bit c = true := by
  rw [bitList, List.mem_filter, List.mem_range, Word.testBit_get, decide_eq_true hc, Bool.true_and, Nat.zero_add]
  exact and_iff_right hc

/-- A LED_SET waits for the period starts of the channels it names. -/
theorem ledSet_waits {d : Dev} {q : Req} {e : Env} (hm : q.a0.get 0 12 ≠ 0) (hlen : d.ill.lamps.length = 12) :
    (cmdLedSet.effect q e d).regs = d.regs ∧
    (∀ c, c < 12 → ((cmdLedSet.effect q e d).lampC c).host = (d.lampC c).host ∧
      ((cmdLedSet.effect q e d).lampC c).next = (d.lampC c).next ++ (if q.a0.bit c then
        [(q.a1.get 0 16, q.a2.get 0 10, q.a2.get 16 10, d.motCycle)] else [])) ∧
    (cmdLedSet.effect q e d).ill.sets = d.ill.sets ++ [(q, q.a0.get 0 12, d.motCycle)] := by
  obtain ⟨hregs, hcycle, hsets⟩ := lampQueue_fold (q.a1.get 0 16) (q.a2.get 0 10) (q.a2.get 16 10) (bitList 12 (q.a0.get 0 12)) d
  have hlamps (c : Nat) (hc : c < 12) := lampQueue_lamps (q.a1.get 0 16) (q.a2.get 0 10) (q.a2.get 16 10)
    (l := bitList 12 (q.a0.get 0 12)) (List.nodup_range.filter _) d (c := c) (by omega)
  rw [ledSet_effect hm]
  generalize (bitList 12 (q.a0.get 0 12)).foldl (Dev.lampQueue (q.a1.get 0 16) (q.a2.get 0 10) (q.a2.get 16 10)) d = x at *
  refine ⟨hregs, fun c hc => ?_, ?_⟩
  · have hx : (x.lampSetFlies q).lampC c = x.lampC c := rfl
    rw [hx, hlamps c hc]
    simp only [mem_mask12 _ hc, true_and]
  · unfold Dev.lampSetFlies
    rw [hcycle, hsets]

/-- LED_REARM, channel by channel. -/
theorem ledRearm_clears (d : Dev) (q : Req) (e : Env) {c : Nat} (hc : c < 12) : (cmdLedRearm.effect q e d).lampLatch c =
    (d.lampLatch c && !(q.a0.bit c && (d.lampC c).shortAt != some d.motCycle)) := by
  have hmem : decide (c ∈ bitList 12 (q.a0.get 0 12)) = q.a0.bit c := by
    rw [Bool.eq_iff_iff, decide_eq_true_iff, mem_mask12 _ hc]
  have hfold := lampRearm_fold (bitList 12 (q.a0.get 0 12)) d (c := c)
    (fun k hk => List.mem_range.mp (List.mem_of_mem_filter hk)) hc
  rw [hmem] at hfold
  rw [ledRearm_effect]
  refine (bit_other (rd_ok ..) _).trans (hfold.trans ?_)
  rw [bne, beq_eq_decide, ← decide_not]

/-- Settles O56: the period start by its three parts, the engines by `bloomSet_runs`, f by `derateOf_range`. That BLOOM_SET
counts t from 0 at once is log entry 65, the free f where ZERO is not above KNEE log entry 66; NTC_BAD once per input
and the latch that a re-arm of the same cycle keeps are log entry 68. -/
theorem lamps : Obligations.Lamps := by
  refine ⟨lampSlices_sum, onCycles_even, fun d c => ⟨lampLevel_off, fun hon hcur hsafe => ⟨fun h => ?_, fun h v hv => ?_,
      fun h hv => ?_⟩⟩,
    fun c s hboot hon hnext hsets => ?_, fun c s v set strobe at_ hboot hon hin hnext hat => ?_, fun c s => lamp_absent,
    fun k s ha h => exec_bloomUpdate ha h, fun k s ha hsafe hmode hper hlen => ?_, fun s h => exec_bloomUpdate_safe h,
    fun c s o cl hboot hstrobes hqueue hcommits hidle => ⟨fun hwin hfind hin => ?_, fun hwin => ?_⟩,
    fun cfg t f => derateOf_range,
    fun c s n hboot hon hn => ⟨fun hbad hold => ?_, fun hbad hold => ?_, fun hgood hnone hfree => ?_,
      fun f hgood hnone hf => ?_⟩,
    fun d c f _ => ⟨setDerate_quiet d c, setDerate_raises d c⟩,
    fun c on off s hboot hon hcfg hdim hwin hlevel hin => ⟨fun hopen hhigh hoff => ?_, fun hopen hoff hwas => ?_⟩,
    fun d c hsafe hc _ => lampShort_latches hsafe hc, fun r e s => ⟨fun h hm hlen => ?_, fun h hm => ?_, fun h => ?_, fun h => ?_,
      fun h => ?_⟩⟩
  · rw [lampLevel_on hon hcur hsafe, if_pos h]
  · rw [lampLevel_on hon hcur hsafe, if_neg (by simp [h]), hv, Option.getD_some]
  · rw [lampLevel_on hon hcur hsafe, if_neg (by simp [h]), hv, Option.getD_none]
  · obtain ⟨y, hy, hlev, hst, hmode, hflt, hout⟩ := periodStart_shows c.isLt hnext hsets
    exact ⟨_, (exec_ledPeriodStart hboot hon).trans (next_congr hy), ⟨rfl, rfl⟩, hlev, hst, hmode, hflt, hout⟩
  · obtain ⟨y, hy, hhost, hnone, htarget⟩ := periodStart_sets c.isLt hin hnext hat
    exact ⟨_, (exec_ledPeriodStart hboot hon).trans (next_congr hy), ⟨rfl, rfl⟩, hhost, hnone, htarget⟩
  · have hexec := exec_bloomUpdate (k := k) ha (Or.inr hsafe)
    rw [bloomSet_runs hmode rfl hper rfl] at hexec
    exact ⟨_, hexec, ⟨rfl, rfl⟩, rfl, bloomPut_vals _ _ (by rw [hlen]; exact k.isLt)⟩
  · obtain ⟨y, hexec, hwindow, hout⟩ := exec_strobeWindow_opens hboot hqueue hcommits hstrobes hwin hfind hin
    exact ⟨_, hexec, ⟨rfl, rfl⟩, hwindow, hout⟩
  · obtain ⟨y, hexec, hwindow, hout⟩ := exec_strobeWindow_closes hboot hqueue hcommits hwin
    exact ⟨_, hexec, ⟨rfl, rfl⟩, hwindow, hout⟩
  · rw [exec_ledDerate_bad hboot hon hn hbad, if_pos hold]
  · rw [exec_ledDerate_bad hboot hon hn hbad, if_neg (by simp [hold])]
  · exact (exec_ledDerate_good hboot hon hn hgood hnone).trans (next_congr (congrArg (s.dev.derated c) hfree))
  · exact (exec_ledDerate_good hboot hon hn hgood hnone).trans (next_congr (congrArg (s.dev.derated c) hf))
  · have hexec := exec_ledDiagnostic (off := off) hboot hon hcfg hdim hwin hlevel hopen (isShort := false)
      (by rw [decide_eq_false (by omega), decide_eq_false (by omega)]; rfl)
    obtain ⟨hshowOn, hshowOff, hflt⟩ := lampFound_shows (s.dev.lampPulse c) c false false on.isLt off.isLt
    obtain ⟨hpulse, hlamps⟩ := lampPulse_keeps s.dev c
    have hlamp := lampFound_lamp (d := s.dev.lampPulse c) on.toNat off.toNat false false (by rw [hlamps]; exact hin)
    rw [if_neg (by simp)] at hexec
    exact ⟨_, hexec, ⟨rfl, rfl⟩, hflt.trans hpulse, hshowOn, hshowOff, congrArg Lamp.wasOpen hlamp, congrArg Lamp.wasShort hlamp⟩
  · have hexec := exec_ledDiagnostic (off := off) hboot hon hcfg hdim hwin hlevel hopen (isShort := true)
      (by rw [decide_eq_true hoff, Bool.or_true])
    rw [if_pos (by simp [hwas])] at hexec
    exact ⟨_, hexec, (lampFound_shows _ c false true on.isLt off.isLt).2.1⟩
  · exact ⟨_, command_takes s 0x0701 cmdLedSet r e h, ⟨rfl, rfl⟩, ledSet_waits (d := started s 0x0701 r) (q := asOp 0x0701 r) (e := e) hm hlen⟩
  · exact (command_takes s 0x0701 cmdLedSet r e h).trans (next_congr (if_pos hm))
  · exact command_takes s 0x0702 cmdBloomSet r e h
  · exact ⟨_, command_takes s 0x0703 cmdLedRearm r e h, ⟨rfl, rfl⟩, fun c hc => ledRearm_clears (started s 0x0703 r) _ e hc⟩
  · exact command_takes s 0x0780 cmdLedQuery r e h

end Sys2Proof.Machine
end
section
/-! SUPPORT. O57, which fails for want of a bound on the ring of a descriptor (R73, R87, R228, R453, R467). -/

namespace Sys2Proof.Machine

/-! ## A routine that finds its measurements apart (R453, R457) -/

/-- Two measurements that disagree leave the trim unit as it is. -/
theorem takeMeasures_apart (d : Dev) {m : Measure} (h : m.judge.1 = .disagree) : d.takeMeasures [m] = (.disagree, d) := by
  have hjoin : joinVerdict .accepted .disagree = .disagree := by decide
  unfold Dev.takeMeasures
  simp only [List.foldl_cons, h, hjoin, List.foldl_nil]
  rfl

theorem judge_apart {m : Measure} (h : m.tol < (m.t1 - m.t2).natAbs) : m.judge.1 = .disagree := by
  have hjudge (lo hi : Int) : (judgeTrim m.tol lo hi m.t1 m.t2).1 = .disagree := by
    unfold judgeTrim
    dsimp only
    rw [if_pos h]
  unfold Measure.judge
  split <;> exact hjudge _ _

/-- A lamp's routine whose two means lie 640000 / 64 apart, which is beyond any tolerance of eight bits. -/
theorem trimOne_lampApart (d : Dev) : d.trimOne 5 0 [0] [640000] = (.disagree, d) := by
  have htol : d.fld ANA_TOL2 0 8 < 2 ^ 8 := Word.get_lt _ 0 8
  have hcand : divRound 0 64 = 0 ∧ divRound 640000 64 = 10000 := by decide
  refine takeMeasures_apart d (judge_apart ?_)
  show ((d.fld ANA_TOL2 0 8 : Nat) : Int) < ((d.trimGet (0xB00 + 0 * 4) 0 8 true - divRound 0 64
    - (d.trimGet (0xB00 + 0 * 4) 0 8 true - divRound 640000 64)).natAbs : Nat)
  rw [hcand.1, hcand.2]
  omega

/-- TRIM_RUN of routine 5 over lamp 0. -/
def lampRoutine : Req := ⟨0, 0, 0x0531, 0, 0, 5, 1, 0, 0, 0, 0, 0, 0, 0, 0⟩

/-- Its two measurements. -/
def lampMeans : Env := ⟨[], none, [], [0, 640000], true, 0, .ok⟩

/-- It counts a rejected trim unit, and reports it. -/
theorem trimRun_lampApart (d : Dev) (h : bitList (nLeds d.variant) 1 = [0]) : d.trimRun lampRoutine lampMeans =
    ((d.count ANA_REJECT_CNT 1).fault 34 1).ok lampRoutine 0 1 0 0 := by
  have hroutine : Dev.trimRoutine 5 [0] [0, 640000] [] d = ([(0, .disagree)], [], d) := by
    show (match d.trimOne 5 0 [0] [640000] with | (v, d) => Dev.trimRoutine 5 [] [] [(0, v)] d) = _
    rw [trimOne_lampApart]
    rfl
  have hsteps : trimSteps (lampRoutine.a0.get 0 3) = [5] := by decide
  have hlamps : bitList (trimCount d.variant 5) lampRoutine.a1.toNat = [0] := h
  have hvals : lampMeans.vals = [0, 640000] := rfl
  have hcount (v : Verdict) : ([((0 : Nat), Verdict.disagree)].filter (fun x => x.2 == v)).length =
      if v = .disagree then 1 else 0 := by cases v <;> decide
  unfold Dev.trimRun
  simp only [hsteps, List.foldl_cons, List.foldl_nil, hlamps, hvals, hroutine, hcount, if_true, reduceCtorEq, if_false,
    Nat.add_zero, Nat.one_ne_zero]
  rfl

/-! ## A promoted fault that stops a replay on a ring that no register of R87 stands for -/

/-- A REPLAY_LAYER on ring 19,430,880, whose bit of HIF_BARRIER_STOP would be bit 0 of the first active trim register. -/
def farReplay : Req := ⟨19430880, 0, 0x0C20, 0, 0, 0, 0, 0, 0, 0, 0, 0, 0, 0, 0⟩

theorem farReplay_stop : HIF_BARRIER_STOP (farReplay.ring / 32) = trimActive 0 ∧ farReplay.ring % 32 = 0 := by decide

/-- A ring that stands at that replay as its barrier. -/
def farRing : Ring := { (default : Ring) with barrier := some farReplay }

/-- A device in SERVICE that holds so many rings, with that replay in progress as the barrier of its ring; the faults of the
trim unit are promoted. -/
def farDev : Dev := { State.reset.dev with
  mode := { ModeCtl.reset with boot := 4, cur := .service }
  regs := [(FLT_PROMOTE1, 4)]
  rings := List.replicate (farReplay.ring + 1) farRing
  replay := some ⟨farReplay, [], [], 0, 0, 0, [], none, [], default⟩ }

/-- The barrier of that ring is the replay. -/
theorem barrier_of_farRings {x : Dev} (h : x.rings = List.replicate (farReplay.ring + 1) farRing) :
    (x.ring farReplay.ring).barrier = some farReplay := by
  unfold Dev.ring
  rw [h]
  exact congrArg Ring.barrier (List.getD_replicate farRing (Nat.lt_succ_self farReplay.ring))

/-- Outside CALIBRATE and BUILD a rejection that is promoted to HOLD stops the replay. -/
theorem fault_trim_promoted {d : Dev} (hpromoted : d.bit FLT_PROMOTE1 2 = true) (hidle : d.exposing = false) :
    ∃ x : Dev, d.fault 34 1 = x.stopReplay ∧ x.rings = d.rings ∧ x.replay = d.replay := by
  obtain ⟨p, hp⟩ : ∃ p, d.fault 34 1 = d.free.2.raiseWith .real 34 1 p := ⟨_, rfl⟩
  have hclass : How.real.classOf d.free.2 34 1 p = some .note := rfl
  have hpromotes : d.free.2.promotes 34 .note = true := by
    have h : d.free.2.bit FLT_PROMOTE1 2 = true := hpromoted
    simp [Dev.promotes, h]
  obtain ⟨y, hy, hrings, hreplay, hexposing⟩ := recordFault_keeps d.free.2 false 34 1 p .hold true
  obtain ⟨f, hf⟩ := react_hold_idle .real 34 1 p (hexposing.trans hidle)
  refine ⟨{ y with flt := f }, ?_, hrings, hreplay⟩
  rw [hp, raiseWith_noUnit _ _ _ _ rfl, raiseHow_promoted hclass hpromotes, hy, hf]

/-- The routine's fault stops the replay, whose stop bit falls into the first active trim register. -/
theorem trimRun_farDev_bit : (farDev.trimRun lampRoutine lampMeans).bit (trimActive 0) 0 = true := by
  have hpromoted : (farDev.count ANA_REJECT_CNT 1).bit FLT_PROMOTE1 2 = true := by decide +kernel
  have hidle : (farDev.count ANA_REJECT_CNT 1).exposing = false := show farDev.exposing = false by decide
  obtain ⟨x, hx, hrings, hreplay⟩ := fault_trim_promoted hpromoted hidle
  obtain ⟨hreg, hbit⟩ := farReplay_stop
  have hstopped : x.replay = some ⟨farReplay, [], [], 0, 0, 0, [], none, [], default⟩ := hreplay
  rw [trimRun_lampApart _ (by decide), hx, Dev.bit, rd_ok, stopReplay_running hstopped, ← hreg, ← hbit]
  exact bit_fail_barrier 0 (barrier_of_farRings hrings) (by decide) (by decide)

/-- Refutes O57: its clause that a routine touches no active register speaks of every state, and there a descriptor's ring is
any number and the list of rings of any length. A rejected trim unit is a fault; promoted to HOLD it stops a replay in
progress outside CALIBRATE and BUILD, and the stop bit of a ring beyond the 64 of R73 falls into an active trim register.
With the rings that the device has, no stop bit reaches one. -/
theorem not_trimsAndReferences : ¬ Obligations.TrimsAndReferences := by
  unfold Obligations.TrimsAndReferences
  rintro ⟨-, -, hactive, -⟩
  have hkept := hactive farDev lampRoutine lampMeans 0 (by decide) (by decide)
  have hset := trimRun_farDev_bit
  rw [Dev.bit, hkept] at hset
  have hclear : (farDev.rd (trimActive 0)).bit 0 = false := by decide +kernel
  rw [hclear] at hset
  exact absurd hset (by decide)

end Sys2Proof.Machine
end
section
/-! SUPPORT. The window of the recorder and the monitor slots, and O59 (R501, R503, R515 to R518). -/

namespace Sys2Proof.Machine

/-! ## The window (R501) -/

/-- The window shows the record at the cursor, and nothing else of the recorder changes. -/
theorem loadWindow_shows (d : Dev) (i : Nat) : (d.loadWindow i).rd REC_CURSOR = BitVec.ofNat 32 i ∧
    (d.loadWindow i).rcd = d.rcd ∧ (d.loadWindow i).out = d.out ∧
    ∀ w, w < 8 → (d.loadWindow i).rd (REC_WIN w) = BitVec.ofNat 32 (bytesAt ((d.recAt i).getD []) (4 * w) 4) := by
  have hinj : REC_WIN.Injective := fun a b h => by unfold REC_WIN at h; omega
  obtain ⟨hin, hout⟩ := rd_foldl_wr (w := fun w => BitVec.ofNat 32 (bytesAt ((d.recAt i).getD []) (4 * w) 4)) hinj
    (List.range 8) (d.wrN REC_CURSOR i)
  have hkeep := foldl_keeps (fun a b : Dev => b.rcd = a.rcd ∧ b.out = a.out) (fun _ => ⟨rfl, rfl⟩)
    (fun (a b c : Dev) (h : b.rcd = a.rcd ∧ b.out = a.out) (k : c.rcd = b.rcd ∧ c.out = b.out) =>
      ⟨k.1.trans h.1, k.2.trans h.2⟩)
    (fun (d' : Dev) w => d'.wr (REC_WIN w) (BitVec.ofNat 32 (bytesAt ((d.recAt i).getD []) (4 * w) 4)))
    (fun _ _ => ⟨rfl, rfl⟩) (List.range 8) (d.wrN REC_CURSOR i)
  obtain ⟨hrcd, hsent⟩ := hkeep
  refine ⟨?_, hrcd.trans (Dev.wrN_rcd ..), hsent.trans (Dev.wrN_out ..), fun w hw => hin w (List.mem_range.mpr hw)⟩
  exact (hout REC_CURSOR (fun w hw => by unfold REC_CURSOR REC_WIN; omega)).trans (rd_wrN_same ..)

theorem exec_recCursorLoad {idx : Word} {s : State} (hu : Up s) :
    exec (.recCursorLoad idx) s = .next { s with dev := s.dev.loadWindow idx.toNat } := by
  show execRecCursorLoad idx s = _
  unfold execRecCursorLoad
  exact whenUp_up _ _ hu

theorem exec_recWin7Read {s : State} (hu : Up s) : exec .recWin7Read s = .next { s with dev :=
    ((s.dev.send (.regRead (REC_WIN 7) (s.dev.rd (REC_WIN 7)))).loadWindow (((s.dev.rd REC_CURSOR).toNat + 1) % 2 ^ 32)) } := by
  show execRecWin7Read s = _
  unfold execRecWin7Read
  exact whenUp_up _ _ hu

theorem recRun_congr {a b : Dev} (h : b.rcd = a.rcd) (n i : Nat) : b.recRun n i = a.recRun n i := by
  induction n generalizing i with
  | zero => rfl
  | succ n ih =>
    rw [Dev.recRun, Dev.recRun, show b.recAt i = a.recAt i by unfold Dev.recAt; rw [h], ih]

theorem recRead_effect (d : Dev) (q : Req) (e : Env) : cmdRecRead.effect q e d =
    d.okData q (d.recRun q.a1.toNat q.a0.toNat).flatten (d.recRun q.a1.toNat q.a0.toNat).length 0 0 0 := rfl

/-- The three words of an entry of the shadow log. -/
def Dev.shadowShown (d : Dev) (x y z : Nat) : Dev :=
  ((d.wrN (REC_SHADOW_D 0) x).wrN (REC_SHADOW_D 1) y).wrN (REC_SHADOW_D 2) z

theorem shadowShown_shows (d : Dev) (x y z : Nat) : (d.shadowShown x y z).rd (REC_SHADOW_D 0) = BitVec.ofNat 32 x ∧
    (d.shadowShown x y z).rd (REC_SHADOW_D 1) = BitVec.ofNat 32 y ∧
    (d.shadowShown x y z).rd (REC_SHADOW_D 2) = BitVec.ofNat 32 z := by
  unfold Dev.shadowShown
  refine ⟨?_, ?_, rd_wrN_same ..⟩
  · rw [rd_wrN_other _ _ _ (by decide), rd_wrN_other _ _ _ (by decide), rd_wrN_same]
  · rw [rd_wrN_other _ _ _ (by decide), rd_wrN_same]

theorem exec_recShadowSelect {k : Fin 16} {s : State} (hu : Up s) : exec (.recShadowSelect k) s = .next { s with dev :=
    (match s.dev.rcd.shadow[k.val]? with
      | some x => s.dev.shadowShown x.t (x.t / 2 ^ 32) (x.kind * 2 ^ 29 + x.addr)
      | none => s.dev.shadowShown 0 0 0) } := by
  show execRecShadowSelect k s = _
  unfold execRecShadowSelect
  rw [whenUp_up _ _ hu]
  refine next_congr ?_
  cases s.dev.rcd.shadow[k.val]? <;> rfl

/-! ## Monitor slots (R515) -/

/-- A number of 32 bits survives its two's complement. -/
theorem signed_unsigned {v : Int} (hlo : -(2 ^ 31) ≤ v) (hhi : v < 2 ^ 31) : signed 32 (unsigned 32 v) = v := by
  unfold signed unsigned
  have hmod := Int.emod_emod_of_dvd v (show (2 ^ 32 : Int) ∣ 2 ^ 32 from dvd_refl _)
  split <;> omega

/-- A register that takes a signed number of 32 bits shows it. -/
theorem rdI_wrN_same (d : Dev) (off : Nat) {v : Int} (hlo : -(2 ^ 31) ≤ v) (hhi : v < 2 ^ 31) :
    (d.wrN off (unsigned 32 v)).rdI off = v := by
  have hword : (BitVec.ofNat 32 (unsigned 32 v)).toNat = unsigned 32 v := by
    rw [BitVec.toNat_ofNat]
    exact Nat.mod_eq_of_lt (by unfold unsigned; omega)
  unfold Dev.rdI
  rw [rd_wrN_same, hword, signed_unsigned hlo hhi]

theorem rdI_other {a b : Dev} {off : Nat} (h : b.rd off = a.rd off) : b.rdI off = a.rdI off := by
  unfold Dev.rdI
  rw [h]

/-- The bin of a sample. -/
def Dev.monBin (d : Dev) (k : Nat) (v : Int) : Nat :=
  (clampInt 0 63 ((v - d.rdI (MON_LO k)) / (2 ^ d.fld (MON_CFG k) 0 5 : Nat))).toNat

theorem monBin_range (d : Dev) (k : Nat) (v : Int) : d.monBin k v < 64 ∧
    (d.monBin k v : Int) = max 0 (min 63 ((v - d.rdI (MON_LO k)) / (2 ^ d.fld (MON_CFG k) 0 5 : Nat))) := by
  unfold Dev.monBin clampInt
  generalize (v - d.rdI (MON_LO k)) / (2 ^ d.fld (MON_CFG k) 0 5 : Nat) = x
  split
  · omega
  split <;> omega

/-- The least sample. -/
def Dev.monLow (d : Dev) (k : Nat) (v : Int) : Dev := if v < d.rdI (MON_MIN k) then d.wrN (MON_MIN k) (unsigned 32 v) else d

/-- The greatest sample. -/
def Dev.monHigh (d : Dev) (k : Nat) (v : Int) : Dev := if d.rdI (MON_MAX k) < v then d.wrN (MON_MAX k) (unsigned 32 v) else d

/-- One more sample. -/
def Dev.monOne (d : Dev) (k : Nat) : Dev :=
  d.wr64 (MON_COUNT_LO k) (MON_COUNT_HI k) (d.rd64 (MON_COUNT_LO k) (MON_COUNT_HI k) + 1)

/-- The sum of the samples. -/
def Dev.monSum (d : Dev) (k : Nat) (v : Int) : Dev :=
  d.wr64 (MON_SUM_LO k) (MON_SUM_HI k) ((d.rd64 (MON_SUM_LO k) (MON_SUM_HI k) + unsigned 64 v) % 2 ^ 64)

section
variable {v : Int} (hlo : -(2 ^ 31) ≤ v) (hhi : v < 2 ^ 31)
include hlo hhi

theorem monTake_eq (d : Dev) (k : Nat) : d.monTake k v =
    ((((d.monLow k v).monHigh k v).monOne k).monSum k v).count (MON_BIN k (d.monBin k v)) 1 := by
  unfold Dev.monTake
  rw [signed_unsigned hlo hhi]
  rfl

theorem monLow_shows (d : Dev) (k : Nat) : (d.monLow k v).rdI (MON_MIN k) = min (d.rdI (MON_MIN k)) v ∧
    ∀ off, off ≠ MON_MIN k → (d.monLow k v).rd off = d.rd off := by
  unfold Dev.monLow
  split
  · next h => exact ⟨(rdI_wrN_same _ _ hlo hhi).trans (min_eq_right h.le).symm, fun off hoff => rd_wrN_other _ _ _ hoff⟩
  · next h => exact ⟨(min_eq_left (not_lt.mp h)).symm, fun _ _ => rfl⟩

theorem monHigh_shows (d : Dev) (k : Nat) : (d.monHigh k v).rdI (MON_MAX k) = max (d.rdI (MON_MAX k)) v ∧
    ∀ off, off ≠ MON_MAX k → (d.monHigh k v).rd off = d.rd off := by
  unfold Dev.monHigh
  split
  · next h => exact ⟨(rdI_wrN_same _ _ hlo hhi).trans (max_eq_right h.le).symm, fun off hoff => rd_wrN_other _ _ _ hoff⟩
  · next h => exact ⟨(max_eq_left (not_lt.mp h)).symm, fun _ _ => rfl⟩

end

theorem rd_wr64_other (d : Dev) {lo hi off : Nat} (v : Nat) (hlo : off ≠ lo) (hhi : off ≠ hi) :
    (d.wr64 lo hi v).rd off = d.rd off := by
  unfold Dev.wr64
  rw [rd_wrN_other _ _ _ hhi, rd_wrN_other _ _ _ hlo]

theorem rd64_congr {a b : Dev} {lo hi : Nat} (hlo : b.rd lo = a.rd lo) (hhi : b.rd hi = a.rd hi) :
    b.rd64 lo hi = a.rd64 lo hi := by
  unfold Dev.rd64
  rw [hlo, hhi]

/-- The sum takes a sample modulo 2^64. -/
theorem sum_emod (x : Nat) (v : Int) : (((x + unsigned 64 v) % 2 ^ 64 % 2 ^ 64 : Nat) : Int) = ((x : Int) + v) % 2 ^ 64 := by
  have hv : ((unsigned 64 v : Nat) : Int) = v % 2 ^ 64 := Int.toNat_of_nonneg (Int.emod_nonneg _ (by decide))
  rw [Nat.mod_mod, Int.natCast_mod, Int.natCast_add, hv]
  exact Int.add_emod_emod ..

/-- A sample: what each register of its slot shows then. -/
theorem monTake_shows {v : Int} (hlo : -(2 ^ 31) ≤ v) (hhi : v < 2 ^ 31) (d : Dev) {k : Nat} (hk : k < 32) :
    (d.monTake k v).rdI (MON_MIN k) = min (d.rdI (MON_MIN k)) v ∧ (d.monTake k v).rdI (MON_MAX k) = max (d.rdI (MON_MAX k)) v ∧
    (d.monTake k v).rd64 (MON_COUNT_LO k) (MON_COUNT_HI k) = (d.rd64 (MON_COUNT_LO k) (MON_COUNT_HI k) + 1) % 2 ^ 64 ∧
    ((d.monTake k v).rd64 (MON_SUM_LO k) (MON_SUM_HI k) : Int) = (d.rd64 (MON_SUM_LO k) (MON_SUM_HI k) + v) % 2 ^ 64 ∧
    (d.monTake k v).rd (MON_BIN k (d.monBin k v)) = satInc (d.rd (MON_BIN k (d.monBin k v))) 1 ∧
    ∀ j, j < 64 → j ≠ d.monBin k v → (d.monTake k v).rd (MON_BIN k j) = d.rd (MON_BIN k j) := by
  rw [monTake_eq hlo hhi]
  obtain ⟨hmin, hlow⟩ := monLow_shows hlo hhi d k
  generalize d.monLow k v = a at *
  obtain ⟨hmax, hhigh⟩ := monHigh_shows hlo hhi a k
  generalize a.monHigh k v = b at *
  have hone : (b.monOne k).rd64 (MON_COUNT_LO k) (MON_COUNT_HI k) = (b.rd64 (MON_COUNT_LO k) (MON_COUNT_HI k) + 1) % 2 ^ 64 :=
    rd64_wr64_same _ _ (by unfold MON_COUNT_LO MON_COUNT_HI; omega)
  have hones (off : Nat) (hl : off ≠ MON_COUNT_LO k) (hh : off ≠ MON_COUNT_HI k) : (b.monOne k).rd off = b.rd off :=
    rd_wr64_other _ _ hl hh
  generalize b.monOne k = c at *
  have hsum : (c.monSum k v).rd64 (MON_SUM_LO k) (MON_SUM_HI k) =
      (c.rd64 (MON_SUM_LO k) (MON_SUM_HI k) + unsigned 64 v) % 2 ^ 64 % 2 ^ 64 :=
    rd64_wr64_same _ _ (by unfold MON_SUM_LO MON_SUM_HI; omega)
  have hsums (off : Nat) (hl : off ≠ MON_SUM_LO k) (hh : off ≠ MON_SUM_HI k) : (c.monSum k v).rd off = c.rd off :=
    rd_wr64_other _ _ hl hh
  generalize c.monSum k v = e at *
  obtain ⟨hbin, -⟩ := monBin_range d k v
  generalize d.monBin k v = n at *
  have hcount (off : Nat) (h : off ≠ MON_BIN k n) : (e.count (MON_BIN k n) 1).rd off = e.rd off := Dev.rd_wr_other _ _ _ _ h
  have hupper (off : Nat) (hmin : off ≠ MON_MIN k) (hmax : off ≠ MON_MAX k) : b.rd off = d.rd off :=
    (hhigh off hmax).trans (hlow off hmin)
  have hbins (j : Nat) (hj : j < 64) : e.rd (MON_BIN k j) = d.rd (MON_BIN k j) := by
    unfold MON_BIN
    rw [hsums _ (by unfold MON_SUM_LO; omega) (by unfold MON_SUM_HI; omega), hones _ (by unfold MON_COUNT_LO; omega)
      (by unfold MON_COUNT_HI; omega), hupper _ (by unfold MON_MIN; omega) (by unfold MON_MAX; omega)]
  refine ⟨?_, ?_, ?_, ?_, ?_, fun j hj hne => ?_⟩
  · rw [rdI_other (hcount _ (by unfold MON_MIN MON_BIN; omega)),
      rdI_other (hsums _ (by unfold MON_MIN MON_SUM_LO; omega) (by unfold MON_MIN MON_SUM_HI; omega)),
      rdI_other (hones _ (by unfold MON_MIN MON_COUNT_LO; omega) (by unfold MON_MIN MON_COUNT_HI; omega)),
      rdI_other (hhigh _ (by unfold MON_MIN MON_MAX; omega)), hmin]
  · rw [rdI_other (hcount _ (by unfold MON_MAX MON_BIN; omega)),
      rdI_other (hsums _ (by unfold MON_MAX MON_SUM_LO; omega) (by unfold MON_MAX MON_SUM_HI; omega)),
      rdI_other (hones _ (by unfold MON_MAX MON_COUNT_LO; omega) (by unfold MON_MAX MON_COUNT_HI; omega)), hmax,
      rdI_other (hlow _ (by unfold MON_MIN MON_MAX; omega))]
  · rw [rd64_congr (hcount _ (by unfold MON_COUNT_LO MON_BIN; omega)) (hcount _ (by unfold MON_COUNT_HI MON_BIN; omega)),
      rd64_congr (hsums _ (by unfold MON_COUNT_LO MON_SUM_LO; omega) (by unfold MON_COUNT_LO MON_SUM_HI; omega))
        (hsums _ (by unfold MON_COUNT_HI MON_SUM_LO; omega) (by unfold MON_COUNT_HI MON_SUM_HI; omega)), hone,
      rd64_congr (hupper _ (by unfold MON_COUNT_LO MON_MIN; omega) (by unfold MON_COUNT_LO MON_MAX; omega))
        (hupper _ (by unfold MON_COUNT_HI MON_MIN; omega) (by unfold MON_COUNT_HI MON_MAX; omega))]
  · rw [rd64_congr (hcount _ (by unfold MON_SUM_LO MON_BIN; omega)) (hcount _ (by unfold MON_SUM_HI MON_BIN; omega)), hsum,
      rd64_congr (hones _ (by unfold MON_SUM_LO MON_COUNT_LO; omega) (by unfold MON_SUM_LO MON_COUNT_HI; omega))
        (hones _ (by unfold MON_SUM_HI MON_COUNT_LO; omega) (by unfold MON_SUM_HI MON_COUNT_HI; omega)),
      rd64_congr (hupper _ (by unfold MON_SUM_LO MON_MIN; omega) (by unfold MON_SUM_LO MON_MAX; omega))
        (hupper _ (by unfold MON_SUM_HI MON_MIN; omega) (by unfold MON_SUM_HI MON_MAX; omega))]
    exact sum_emod _ v
  · rw [← hbins n hbin]
    exact Dev.rd_wr_same ..
  · rw [hcount _ (by unfold MON_BIN; omega), hbins j hj]

theorem exec_monitorSample {k : Fin 32} {x : Int} {s : State} (ha : Awake s) (hon : s.dev.bit (MON_CFG k) 31 = true)
    (hpresent : monPresent s.dev.variant (s.dev.fld (MON_CFG k) 16 8) (s.dev.fld (MON_CFG k) 8 5) = some true) :
    exec (.monitorSample k x) s = .next { s with dev :=
      (s.dev.monTake k ((s.dev.monValue (s.dev.fld (MON_CFG k) 16 8) (s.dev.fld (MON_CFG k) 8 5)).getD x)) } := by
  show execMonitorSample k x s = _
  unfold execMonitorSample
  rw [on_awake _ _ ha]
  exact next_congr (if_pos (by simp [hon, hpresent]))

theorem exec_monitorSample_off {k : Fin 32} {x : Int} {s : State} (h : s.dev.bit (MON_CFG k) 31 = false ∨
    monPresent s.dev.variant (s.dev.fld (MON_CFG k) 16 8) (s.dev.fld (MON_CFG k) 8 5) ≠ some true) :
    exec (.monitorSample k x) s = .next s := by
  show execMonitorSample k x s = _
  unfold execMonitorSample
  refine on_same (if_neg ?_)
  rcases h with h | h <;> simp [h]

/-! ## A slot that restarts, and captures (R517, R518) -/

theorem monEmpty_shows (d : Dev) {k : Nat} (hk : k < 32) : (d.monEmpty k).rd (MON_MIN k) = 0x7FFFFFFF ∧
    (d.monEmpty k).rd (MON_MAX k) = 0x80000000 ∧ (d.monEmpty k).rd64 (MON_COUNT_LO k) (MON_COUNT_HI k) = 0 ∧
    (d.monEmpty k).rd64 (MON_SUM_LO k) (MON_SUM_HI k) = 0 ∧ (∀ i, i < 64 → (d.monEmpty k).rd (MON_BIN k i) = 0) ∧
    ∀ off, off < MON_MIN k → (d.monEmpty k).rd off = d.rd off := by
  have hinj : (MON_BIN k).Injective := fun a b h => by unfold MON_BIN at h; omega
  unfold Dev.monEmpty
  extract_lets d1 d2
  obtain ⟨hin, hout⟩ := rd_foldl_wr (w := fun _ => 0) hinj (List.range 64) d2
  have hlow (off : Nat) (h : off < 0x314000) := hout off (fun i hi => by unfold MON_BIN; omega)
  have h1 : d1.rd (MON_MIN k) = 0x7FFFFFFF ∧ d1.rd (MON_MAX k) = 0x80000000 ∧ ∀ off, off < MON_MIN k → d1.rd off = d.rd off :=
    ⟨(rd_wrN_other _ _ _ (by unfold MON_MIN MON_MAX; omega)).trans (rd_wrN_same ..), rd_wrN_same .., fun off hoff =>
      (rd_wrN_other _ _ _ (by unfold MON_MIN at hoff; unfold MON_MAX; omega)).trans (rd_wrN_other _ _ _ (by omega))⟩
  have h2 (off : Nat) (hoff : off < MON_COUNT_LO k) : d2.rd off = d1.rd off :=
    (rd_wr64_other _ _ (by unfold MON_COUNT_LO at hoff; unfold MON_SUM_LO; omega)
      (by unfold MON_COUNT_LO at hoff; unfold MON_SUM_HI; omega)).trans (rd_wr64_other _ _ (by omega)
        (by unfold MON_COUNT_LO at hoff; unfold MON_COUNT_HI; omega))
  obtain ⟨hmin, hmax, hfirst⟩ := h1
  have hcount : d2.rd64 (MON_COUNT_LO k) (MON_COUNT_HI k) = 0 :=
    (rd64_wr64_other _ _ (by unfold MON_COUNT_LO MON_SUM_LO MON_SUM_HI; omega) (by unfold MON_COUNT_HI MON_SUM_LO MON_SUM_HI; omega)).trans
      (rd64_wr64_same _ _ (by unfold MON_COUNT_LO MON_COUNT_HI; omega))
  have hsum : d2.rd64 (MON_SUM_LO k) (MON_SUM_HI k) = 0 := rd64_wr64_same _ _ (by unfold MON_SUM_LO MON_SUM_HI; omega)
  refine ⟨?_, ?_, ?_, ?_, fun i hi => hin i (List.mem_range.mpr hi), fun off hoff => ?_⟩
  · rw [hlow _ (by unfold MON_MIN; omega), h2 _ (by unfold MON_MIN MON_COUNT_LO; omega), hmin]
  · rw [hlow _ (by unfold MON_MAX; omega), h2 _ (by unfold MON_MAX MON_COUNT_LO; omega), hmax]
  · rw [rd64_congr (hlow _ (by unfold MON_COUNT_LO; omega)) (hlow _ (by unfold MON_COUNT_HI; omega)), hcount]
  · rw [rd64_congr (hlow _ (by unfold MON_SUM_LO; omega)) (hlow _ (by unfold MON_SUM_HI; omega)), hsum]
  · rw [hlow _ (by unfold MON_MIN at hoff; omega), h2 _ (by unfold MON_MIN at hoff; unfold MON_COUNT_LO; omega), hfirst off hoff]

/-- A capture record has 320 bytes. -/
theorem length_capture (d : Dev) (k : Nat) : (d.capture k).length = 320 := by
  have hbins : ((List.range 64).flatMap (fun i => leBytes 4 (d.rd (MON_BIN k i)).toNat)).length = 256 := by
    rw [List.length_flatMap]
    simp only [length_leBytes, List.map_const', List.sum_replicate, List.length_range]
    rfl
  unfold Dev.capture
  simp only [List.length_append, length_leBytes, List.length_cons, List.length_nil, List.length_replicate, hbins]

/-- The registers of a slot that MON_SET sets. -/
def Dev.monSet (d : Dev) (q : Req) (k : Nat) : Dev := ((d.wr (MON_CFG k) q.a1).wr (MON_LO k) q.a2).wr (MON_SAMPLE k) q.a3

theorem monSet_shows (d : Dev) (q : Req) (k : Nat) : (d.monSet q k).rd (MON_CFG k) = q.a1 ∧ (d.monSet q k).rd (MON_LO k) = q.a2 ∧
    (d.monSet q k).rd (MON_SAMPLE k) = q.a3 := by
  unfold Dev.monSet
  refine ⟨?_, ?_, Dev.rd_wr_same ..⟩
  · rw [Dev.rd_wr_other _ _ _ _ (by unfold MON_CFG MON_SAMPLE; omega), Dev.rd_wr_other _ _ _ _ (by unfold MON_CFG MON_LO; omega),
      Dev.rd_wr_same]
  · rw [Dev.rd_wr_other _ _ _ _ (by unfold MON_LO MON_SAMPLE; omega), Dev.rd_wr_same]

theorem monSet_effect (d : Dev) (q : Req) (e : Env) :
    cmdMonSet.effect q e d = ((d.monSet q (q.a0.get 0 5)).monEmpty (q.a0.get 0 5)).ok q 0 0 0 0 := rfl

/-- A slot that is set restarts empty. -/
theorem monSet_restarts (d : Dev) (q : Req) (e : Env) {k : Nat} (hk : k = q.a0.get 0 5) :
    (cmdMonSet.effect q e d).rd (MON_CFG k) = q.a1 ∧ (cmdMonSet.effect q e d).rd (MON_LO k) = q.a2 ∧
    (cmdMonSet.effect q e d).rd (MON_SAMPLE k) = q.a3 ∧ (cmdMonSet.effect q e d).rd (MON_MIN k) = 0x7FFFFFFF ∧
    (cmdMonSet.effect q e d).rd (MON_MAX k) = 0x80000000 ∧
    (cmdMonSet.effect q e d).rd64 (MON_COUNT_LO k) (MON_COUNT_HI k) = 0 ∧
    (cmdMonSet.effect q e d).rd64 (MON_SUM_LO k) (MON_SUM_HI k) = 0 ∧
    ∀ i, i < 64 → (cmdMonSet.effect q e d).rd (MON_BIN k i) = 0 := by
  have hk32 : k < 32 := hk ▸ Word.get_lt q.a0 0 5
  obtain ⟨hcfg, hlo, hsample⟩ := monSet_shows d q k
  obtain ⟨hmin, hmax, hcount, hsum, hbins, hfirst⟩ := monEmpty_shows (d.monSet q k) hk32
  rw [monSet_effect, ← hk]
  have hok (off : Nat) : (((d.monSet q k).monEmpty k).ok q 0 0 0 0).rd off = ((d.monSet q k).monEmpty k).rd off := rd_ok ..
  simp only [hok, rd64_congr (hok _) (hok _)]
  exact ⟨(hfirst _ (by unfold MON_CFG MON_MIN; omega)).trans hcfg, (hfirst _ (by unfold MON_LO MON_MIN; omega)).trans hlo,
    (hfirst _ (by unfold MON_SAMPLE MON_MIN; omega)).trans hsample, hmin, hmax, hcount, hsum, hbins⟩

/-- Settles O59: the window by `loadWindow_shows`, a sample by `monTake_shows`, a restart by `monEmpty_shows`. That a sample
of a quantity the state holds takes its present value is log entry 105. -/
theorem recorderIsRead : Obligations.RecorderIsRead := by
  refine ⟨fun idx s hu => ?_, fun s hu => ?_, fun k s hu => ⟨fun x hx => ?_, fun hlen => ?_⟩,
    fun r e s => ⟨fun h => ?_, fun h => ?_, fun h => ?_⟩, fun k v x s ha hon hpresent hlo hhi hv => ?_,
    fun k x s h => exec_monitorSample_off h, fun r e s k h hk => ?_, fun r e s f h hf => ?_,
    fun d k hk => ?_, length_capture⟩
  · obtain ⟨hcursor, hrcd, -, hwin⟩ := loadWindow_shows s.dev idx.toNat
    exact ⟨_, exec_recCursorLoad hu, ⟨rfl, rfl⟩, by rw [hcursor]; simp, hrcd, hwin⟩
  · have hnext : BitVec.ofNat 32 (((s.dev.rd REC_CURSOR).toNat + 1) % 2 ^ 32) = s.dev.rd REC_CURSOR + 1 := by
      apply BitVec.eq_of_toNat_eq
      rw [BitVec.toNat_ofNat, BitVec.toNat_add, Nat.mod_mod]
      rfl
    have hindex : ((s.dev.rd REC_CURSOR).toNat + 1) % 2 ^ 32 = (s.dev.rd REC_CURSOR + 1).toNat := by
      rw [BitVec.toNat_add]
      rfl
    have hexec := exec_recWin7Read hu
    have hat (i : Nat) : (s.dev.send (.regRead (REC_WIN 7) (s.dev.rd (REC_WIN 7)))).recAt i = s.dev.recAt i := rfl
    obtain ⟨hcursor, -, hout, hwin⟩ := loadWindow_shows (s.dev.send (.regRead (REC_WIN 7) (s.dev.rd (REC_WIN 7))))
      (((s.dev.rd REC_CURSOR).toNat + 1) % 2 ^ 32)
    rw [hat, hindex] at hwin
    exact ⟨_, hexec, ⟨rfl, rfl⟩, hout, hcursor.trans hnext, hwin⟩
  · have hexec := exec_recShadowSelect (k := k) hu
    rw [hx] at hexec
    exact ⟨_, hexec, ⟨rfl, rfl⟩, shadowShown_shows ..⟩
  · have hexec := exec_recShadowSelect (k := k) hu
    rw [List.getElem?_eq_none hlen] at hexec
    obtain ⟨h0, h1, h2⟩ := shadowShown_shows s.dev 0 0 0
    refine ⟨_, hexec, ⟨rfl, rfl⟩, fun i hi => ?_⟩
    interval_cases i
    · exact h0
    · exact h1
    · exact h2
  · refine (command_takes s 0x0A80 cmdRecRead r e h).trans (next_congr ?_)
    rw [recRead_effect, recRun_congr (hostSide_started s 0x0A80 r).rcd_eq]
    rfl
  · exact command_takes s 0x0A81 cmdLifeRead r e h
  · exact command_takes s 0x0A82 cmdWoramQuery r e h
  · obtain ⟨hmin, hmax, hcount, hsum, hbin, hother⟩ := monTake_shows hlo hhi s.dev k.isLt
    obtain ⟨hlt, hval⟩ := monBin_range s.dev k v
    have hexec := exec_monitorSample (x := x) ha hon hpresent
    rw [← hv] at hexec
    exact ⟨_, hexec, ⟨rfl, rfl⟩, hmin, hmax, hcount, hsum, _, hlt, hval, hbin, hother⟩
  · exact ⟨_, command_takes s 0x0A03 cmdMonSet r e h, ⟨rfl, rfl⟩, monSet_restarts (started s 0x0A03 r) (asOp 0x0A03 r) e hk⟩
  · obtain rfl : f = _ := funext fun d => funext fun k => hf d k
    exact command_takes s 0x0A04 cmdMonCapture r e h
  · obtain ⟨hmin, hmax, hcount, hsum, hbins, -⟩ := monEmpty_shows d hk
    exact ⟨hmin, hmax, hcount, hsum, hbins⟩

end Sys2Proof.Machine
end
section
/-! SUPPORT. The life-cycle, memory self-test and repair, and O60 (R522 to R533). -/

namespace Sys2Proof.Machine

/-! ## The life-cycle (R522, R523) -/

/-- The state of the life-cycle, by what is burnt. -/
theorem fuses_state (f : Fuses) : (f.retire = true ∧ f.state = 4) ∨
    (f.retire = false ∧ f.deploy = true ∧ f.returns < f.entries ∧ f.state = 3) ∨
    (f.retire = false ∧ f.deploy = true ∧ f.entries ≤ f.returns ∧ f.state = 2) ∨
    (f.retire = false ∧ f.deploy = false ∧ f.manuf = true ∧ f.state = 1) ∨
    (f.retire = false ∧ f.deploy = false ∧ f.manuf = false ∧ f.state = 0) := by
  obtain ⟨manuf, deploy, retire, entries, returns⟩ := f
  unfold Fuses.state
  by_cases h : returns < entries <;> cases retire <;> cases deploy <;> cases manuf <;> simp [h] <;> omega

/-- A burnt group: what it leaves sound, and nothing unburnt. -/
def Burns (f g : Fuses) (target : Nat) : Prop := g.sound ∧ g.state = target ∧ f.entries ≤ g.entries ∧ f.returns ≤ g.returns ∧
  (f.manuf = true → g.manuf = true) ∧ (f.deploy = true → g.deploy = true) ∧ (f.retire = true → g.retire = true)

section
variable {f : Fuses} (hs : f.sound)
include hs

theorem burns_manuf (h : f.state = 0) : Burns f { f with manuf := true } 1 := by
  obtain ⟨hret, hent, hmax, hnone, hdep⟩ := hs
  obtain ⟨hretire, hdeploy, -⟩ : f.retire = false ∧ f.deploy = false ∧ f.manuf = false := by have := fuses_state f; grind
  exact ⟨⟨hret, hent, hmax, hnone, fun _ => rfl⟩, by simp [Fuses.state, hretire, hdeploy], le_refl _, le_refl _, fun _ => rfl,
    id, id⟩

theorem burns_deploy (h : f.state = 1) : Burns f { f with deploy := true } 2 := by
  obtain ⟨hret, hent, hmax, hnone, hdep⟩ := hs
  obtain ⟨hretire, hdeploy, hmanuf⟩ : f.retire = false ∧ f.deploy = false ∧ f.manuf = true := by have := fuses_state f; grind
  have hzero := hnone hdeploy
  exact ⟨⟨hret, hent, hmax, fun h => by simp at h, fun _ => hmanuf⟩, by simp [Fuses.state, hretire, hzero], le_refl _,
    le_refl _, id, fun _ => rfl, id⟩

theorem burns_entry (h : f.state = 2) (hlt : f.entries < 7) : Burns f { f with entries := f.entries + 1 } 3 := by
  obtain ⟨hret, hent, hmax, hnone, hdep⟩ := hs
  obtain ⟨hretire, hdeploy, hclosed⟩ : f.retire = false ∧ f.deploy = true ∧ f.entries ≤ f.returns := by
    have := fuses_state f; grind
  exact ⟨⟨by dsimp only; omega, by dsimp only; omega, by dsimp only; omega, fun h => by simp [hdeploy] at h, hdep⟩,
    by simp [Fuses.state, hretire, hdeploy]; omega, Nat.le_succ _, le_refl _, id, id, id⟩

theorem burns_return (h : f.state = 3) : Burns f { f with returns := f.returns + 1 } 2 := by
  obtain ⟨hret, hent, hmax, hnone, hdep⟩ := hs
  obtain ⟨hretire, hdeploy, hopen⟩ : f.retire = false ∧ f.deploy = true ∧ f.returns < f.entries := by
    have := fuses_state f; grind
  exact ⟨⟨by dsimp only; omega, by dsimp only; omega, hmax, fun h => by simp [hdeploy] at h, hdep⟩,
    by simp [Fuses.state, hretire, hdeploy]; omega, le_refl _, Nat.le_succ _, id, id, id⟩

theorem burns_retire : Burns f { f with retire := true } 4 :=
  ⟨hs, by simp [Fuses.state], le_refl _, le_refl _, id, id, fun _ => rfl⟩

/-- A transition is one of those that R523 allows, and burns its group. -/
theorem advance_burns {g : Fuses} {target confirm : Nat} (h : f.advance target confirm = some g) : Burns f g target ∧
    ((f.state, target) = (0, 1) ∨ (f.state, target) = (1, 2) ∨ (f.state, target) = (2, 3) ∨ (f.state, target) = (3, 2) ∨
      (f.state ≠ 4 ∧ target = 4 ∧ confirm = 0x52544952)) := by
  unfold Fuses.advance at h
  split at h
  · next hst => cases h; exact ⟨burns_manuf hs hst, by simp [hst]⟩
  · next hst => cases h; exact ⟨burns_deploy hs hst, by simp [hst]⟩
  · next hst =>
    split at h
    · next hlt => cases h; exact ⟨burns_entry hs hst hlt, by simp [hst]⟩
    · cases h
  · next hst => cases h; exact ⟨burns_return hs hst, by simp [hst]⟩
  · cases h
  · next hst =>
    split at h
    · next hconfirm => cases h; exact ⟨burns_retire hs, by simp [hconfirm]; exact hst⟩
    · cases h
  · cases h

end

/-! ## LC_ADVANCE (R523, R524) -/

section
variable {d : Dev} {q : Req} {e : Env}

theorem lcAdvance_unauthorised (htarget : q.a0.get 0 3 = 3) (hbad : authorised d.bist.fuses e.data = false) :
    cmdLcAdvance.effect q e d = d.fail q stDenied 0x0C03 := if_pos ⟨htarget, by simp [hbad]⟩

/-- A transition that is allowed, and authorised where it leads to SERVICE. -/
theorem lcAdvance_effect {f : Fuses} (hauth : q.a0.get 0 3 ≠ 3 ∨ authorised d.bist.fuses e.data = true)
    (hf : d.bist.fuses.advance (q.a0.get 0 3) q.a1.toNat = some f) :
    cmdLcAdvance.effect q e d = if e.ok then ({ d with bist := { d.bist with fuses := f } } : Dev).ok q 0 0 0 0
      else (d.fault 37 4).fail q stLimit 0x0C02 := by
  have hgo : ¬ (q.a0.get 0 3 = 3 ∧ (!authorised d.bist.fuses e.data) = true) := by
    rintro ⟨htarget, hbad⟩
    rcases hauth with h | h
    · exact h htarget
    · simp [h] at hbad
  refine (if_neg hgo).trans ?_
  dsimp only
  rw [hf]

theorem HostSide.bist_eq {a b : Dev} (h : HostSide a b) : b.bist = a.bist := by
  obtain ⟨_, _, _, _, rfl⟩ := h
  rfl

/-- The group is burnt at once; what was latched at boot stays. -/
theorem lcAdvance_burns {f : Fuses} (hauth : q.a0.get 0 3 ≠ 3 ∨ authorised d.bist.fuses e.data = true)
    (hf : d.bist.fuses.advance (q.a0.get 0 3) q.a1.toNat = some f) (hok : e.ok = true) :
    (cmdLcAdvance.effect q e d).bist.fuses = f ∧ (cmdLcAdvance.effect q e d).bist.latched = d.bist.latched := by
  have hbist := (hostSide_ok ({ d with bist := { d.bist with fuses := f } } : Dev) q 0 0 0 0).bist_eq
  rw [lcAdvance_effect hauth hf, if_pos hok, hbist]
  exact ⟨rfl, rfl⟩

end

/-! ## Repair maps (R530, R531) -/

section
variable {map : Option (List Byte)} {s : State} (hu : Up s)
include hu

theorem exec_repairApply_closed (h : s.dev.mode.cur ≠ .configure ∨ s.dev.mode.fwSup = true) :
    exec (.repairApply map) s = .next { s with dev := s.dev.mapRefused stReject } := by
  show execRepairApply map s = _
  unfold execRepairApply
  rw [whenUp_up _ _ hu]
  exact next_congr (if_pos h)

variable (hcur : s.dev.mode.cur = .configure) (hsup : s.dev.mode.fwSup = false)
include hcur hsup

theorem exec_repairApply_none (h : map = none) :
    exec (.repairApply map) s = .next { s with dev := (s.dev.send (.aer true)).mapRefused stTimeout } := by
  subst h
  show execRepairApply none s = _
  unfold execRepairApply
  rw [whenUp_up _ _ hu]
  exact next_congr (if_neg (by simp [hcur, hsup]))

/-- A map that was fetched is checked as far as its length says. -/
theorem exec_repairApply_map {c : List Byte} (h : map = some c) : exec (.repairApply map) s = .next { s with dev :=
    (if (c.take (s.dev.fld BIST_REPAIR_LEN 0 14)).length ≠ s.dev.fld BIST_REPAIR_LEN 0 14 then s.dev.mapRefused stMalformed
    else if repairCheck (c.take (s.dev.fld BIST_REPAIR_LEN 0 14)) = stOk then
      s.dev.mapInForce (c.take (s.dev.fld BIST_REPAIR_LEN 0 14)) 2
    else s.dev.mapRefused (repairCheck (c.take (s.dev.fld BIST_REPAIR_LEN 0 14)))) } := by
  subst h
  show execRepairApply (some c) s = _
  unfold execRepairApply
  rw [whenUp_up _ _ hu]
  exact next_congr (if_neg (by simp [hcur, hsup]))

end

/-- A map in force, with where it came from. -/
theorem mapInForce_shows (d : Dev) (b : List Byte) (n : Nat) : (d.mapInForce b n).bist.map = b ∧
    (d.mapInForce b n).mode.repair = true ∧
    (d.mapInForce b n).rd BIST_REPAIR_STATUS = BitVec.ofNat 32 (n * 2 ^ 28 + bytesAt b 6 2) := by
  unfold Dev.mapInForce
  exact ⟨congrArg Bist.map (Dev.wrN_bist ..), congrArg ModeCtl.repair (Dev.wrN_mode ..), rd_wrN_same ..⟩

/-- A map that is refused leaves the one in force, with its status. -/
theorem mapRefused_shows (d : Dev) {code : Nat} (h : code < 256) : (d.mapRefused code).bist = d.bist ∧
    (d.mapRefused code).fld BIST_REPAIR_STATUS 28 4 = 3 ∧ (d.mapRefused code).fld BIST_REPAIR_STATUS 16 8 = code := by
  unfold Dev.mapRefused
  refine ⟨(Dev.setFld_bist ..).trans (Dev.setFld_bist ..), ?_, ?_⟩
  · rw [fld_setFld_apart _ _ _ _ _ (by decide) (by decide), fld_setFld_same _ _ _ _ _ (by decide)]
    rfl
  · rw [fld_setFld_same _ _ _ _ _ (by decide)]
    exact Nat.mod_eq_of_lt h

theorem repairCheck_lt (b : List Byte) : repairCheck b < 256 := by
  unfold repairCheck
  dsimp only
  split
  · decide
  split
  · decide
  split <;> decide

theorem exec_bistMemSelect {id : BitVec 10} {s : State} (hu : Up s) :
    exec (.bistMemSelect id) s = .next { s with dev := s.dev.wr BIST_MEM_INFO (Config.memInfo id.toNat) } := by
  show execBistMemSelect id s = _
  unfold execBistMemSelect
  exact whenUp_up _ _ hu

/-! ## Memory self-test (R529, R533) -/

/-- A self-test is under way. -/
def Dev.mbistRuns (d : Dev) (q : Req) (blob : List Byte) : Dev :=
  ({ d with bist := { d.bist with run := some (q, blob), mbist := [] } } : Dev).wrN BIST_MBIST_STATUS (2 ^ 28)

theorem mbistRuns_shows (d : Dev) (q : Req) (blob : List Byte) : (d.mbistRuns q blob).bist.run = some (q, blob) ∧
    (d.mbistRuns q blob).bist.mbist = [] ∧ (d.mbistRuns q blob).rd BIST_MBIST_STATUS = BitVec.ofNat 32 (2 ^ 28) ∧
    (d.mbistRuns q blob).rcd = d.rcd := by
  unfold Dev.mbistRuns
  exact ⟨congrArg Bist.run (Dev.wrN_bist ..), congrArg Bist.mbist (Dev.wrN_bist ..), rd_wrN_same .., Dev.wrN_rcd ..⟩

theorem mbistRun_effect (d : Dev) (q : Req) (e : Env) : cmdMbistRun.effect q e d =
    if (d.mbistRuns q e.blob).rcd.mram.usable then (d.mbistRuns q e.blob).flushFor q else (d.mbistRuns q e.blob).mbistEnd q := rfl

/-- As many blocks of 16 as whole ones there are, each where it lies. -/
theorem blocks16_whole : ∀ (n k : Nat) (b : List Byte), b.length = 16 * n → n ≤ k → (blocks16 k b).length = n ∧
    ∀ i, i < n → (blocks16 k b)[i]? = some ((b.drop (16 * i)).take 16)
  | 0, 0, _, _, _ => ⟨rfl, fun _ h => absurd h (Nat.not_lt_zero _)⟩
  | 0, k + 1, b, hlen, _ => by
    rw [blocks16, if_pos (by omega)]
    exact ⟨rfl, fun _ h => absurd h (Nat.not_lt_zero _)⟩
  | n + 1, 0, _, _, hk => absurd hk (by omega)
  | n + 1, k + 1, b, hlen, hk => by
    obtain ⟨hcount, hat⟩ := blocks16_whole n k (b.drop 16) (by rw [List.length_drop]; omega) (by omega)
    rw [blocks16, if_neg (by omega)]
    refine ⟨by rw [List.length_cons, hcount], fun i hi => ?_⟩
    cases i with
    | zero => rfl
    | succ i =>
      rw [List.getElem?_cons_succ, hat i (by omega), List.drop_drop]
      exact congrArg (fun j => some ((b.drop j).take 16)) (by omega)

/-- A self-test that has ended, with the failures it holds and how many more there were. -/
def Dev.mbistDone (d : Dev) (all : List (List Byte)) : Dev :=
  ({ d with bist := { d.bist with mbist := all.take 256, run := none } } : Dev).wrN BIST_MBIST_STATUS
    (2 * 2 ^ 28 + (all.take 256).length * 65536 + Nat.min 0xFFFF (all.length - 256))

theorem mbistEnd_eq {d : Dev} {q p : Req} {blob : List Byte} (h : d.bist.run = some (p, blob)) : d.mbistEnd q =
    (if (blocks16 blob.length blob).isEmpty then d.mbistDone (blocks16 blob.length blob)
      else (d.mbistDone (blocks16 blob.length blob)).fault 37 2).ok q ((blocks16 blob.length blob).take 256).length
        (Nat.min 0xFFFF ((blocks16 blob.length blob).length - 256)) 0 0 := by
  unfold Dev.mbistEnd
  rw [h]
  rfl

theorem mbistDone_shows (d : Dev) (all : List (List Byte)) : (d.mbistDone all).bist.run = none ∧
    (d.mbistDone all).bist.mbist = all.take 256 ∧ (d.mbistDone all).rd BIST_MBIST_STATUS =
      BitVec.ofNat 32 (2 * 2 ^ 28 + (all.take 256).length * 65536 + Nat.min 0xFFFF (all.length - 256)) := by
  unfold Dev.mbistDone
  exact ⟨congrArg Bist.run (Dev.wrN_bist ..), congrArg Bist.mbist (Dev.wrN_bist ..), rd_wrN_same ..⟩

/-! ## REPAIR_STORE and BIST_QUERY (R531, R533) -/

section
variable {d : Dev} {q : Req} {e : Env}

theorem repairStore_unusable (h : d.rcd.mram.usable = false) : cmdRepairStore.effect q e d = d.fail q stTimeout 0x0C04 :=
  if_pos (by simp [h])

variable (h : d.rcd.mram.usable = true)
include h

theorem repairStore_copies (hx : e.xspi = .ok) : (cmdRepairStore.effect q e d).rcd.mram.repairCopy = d.bist.map ∧
    (cmdRepairStore.effect q e d).bist = d.bist := by
  have heffect : cmdRepairStore.effect q e d =
      ({ d with rcd := { d.rcd with mram := { d.rcd.mram with repairCopy := d.bist.map } } } : Dev).ok q 0 0 0 0 := by
    refine (if_neg (by simp [h])).trans ?_
    rw [hx]
  have hside := hostSide_ok ({ d with rcd := { d.rcd with mram := { d.rcd.mram with repairCopy := d.bist.map } } } : Dev) q 0 0 0 0
  rw [heffect, hside.rcd_eq, hside.bist_eq]
  exact ⟨rfl, rfl⟩

theorem repairStore_fails {x : Xspi} {kind : Nat} (hkind : x = .badVerify ∧ kind = 2 ∨ x = .noResponse ∧ kind = 3)
    (hx : e.xspi = x) :
    cmdRepairStore.effect q e d = ((d.shadowLog kind 0x20000).fault 36 2).fail q stTimeout 0x0C04 := by
  refine (if_neg (by simp [h])).trans ?_
  rcases hkind with ⟨rfl, rfl⟩ | ⟨rfl, rfl⟩ <;> rw [hx]

end

/-- The results of the last self-test, padded to 4096 bytes. -/
def Dev.mbistShown (d : Dev) : List Byte := (d.bist.mbist.flatten ++ List.replicate 4096 0).take 4096

theorem length_mbistShown (d : Dev) : d.mbistShown.length = 4096 := by
  unfold Dev.mbistShown
  rw [List.length_take, List.length_append, List.length_replicate]
  omega

theorem bistQuery_effect (d : Dev) (q : Req) (e : Env) : cmdBistQuery.effect q e d =
    d.okData q (if q.a0.bit 0 then d.mbistShown else []) d.bistLc (d.rd BIST_LBIST_FAIL).toNat 0 0 := rfl

/-- A query is taken in every mode. -/
theorem modeIs_query {d : Dev} {q : Req} (h : reqQuery q = true) : (d.modeIs q allModes).1 = false := by
  unfold Dev.modeIs
  rw [h]
  cases d.mode.cur <;> simp [allModes]

/-- While a self-test runs, BIST_QUERY is refused. -/
theorem bistQuery_busy {d : Dev} {q : Req} (hop : q.op = 0x0C80)
    (hshape : firstFail (shape q [1] none (if q.a0.bit 0 then 4096 else 0)) = none) (h : d.bist.run.isSome) :
    cmdBistQuery.check d q = some (stLimit, 0x0C05) := by
  have hquery : reqQuery q = true := by
    unfold reqQuery
    rw [hop]
    decide
  have hbusy : d.bistBusy = (true, stLimit, 0x0C05) := by
    unfold Dev.bistBusy limitIf
    rw [h]
  show firstFail (shape q [1] none (if q.a0.bit 0 then 4096 else 0) ++ _) = _
  rw [firstFail_append hshape]
  simp only [firstFail, modeIs_query hquery, hbusy, if_true, Bool.false_eq_true, if_false]

/-- Settles O60: a transition by `advance_burns`, the self-test by `mbistDone_shows` and `blocks16_whole`, a map by
`mapInForce_shows` and `mapRefused_shows`. That MBIST_RUN ends with the recorder's flush is log entry 106. -/
theorem lifeCycleAndRepair : Obligations.LifeCycleAndRepair := by
  refine ⟨fun f g target confirm hs h => ?_, by decide, fun r e s f h htarget hf => ⟨fun hok => ?_, fun hok => ?_⟩,
    fun r e s h htarget hbad => ?_, fun r e s f h htarget hauth hf hok => ?_,
    fun map s hu => ⟨fun h => exec_repairApply_closed hu h, fun hcur hsup h => exec_repairApply_none hu hcur hsup h,
      fun b hcur hsup h hshort => ?_, fun c b hcur hsup h hb hlen => ⟨fun hgood => ?_, fun hbad => ?_⟩⟩,
    fun id s hu => exec_bistMemSelect hu,
    fun r e s => ⟨fun h => ?_, fun h husable hx => ?_, fun h husable => ?_, fun x kind h husable hkind hx => ?_, fun h hbit => ?_,
      fun h hbit => ?_, fun hu htake hgroup hshape hrun => ?_⟩,
    fun d q p blob n hrun hlen => ?_, fun d good q hop => if_pos hop⟩
  · obtain ⟨⟨hsound, hstate, hent, hret, hman, hdep, hretire⟩, hallowed⟩ := advance_burns hs h
    exact ⟨hsound, hstate, hallowed, hent, hret, hman, hdep, hretire⟩
  · obtain ⟨hfuses, hlatched⟩ := lcAdvance_burns (d := started s 0x0C01 r) (q := asOp 0x0C01 r) (Or.inl htarget) hf hok
    exact ⟨_, command_takes s 0x0C01 cmdLcAdvance r e h, ⟨rfl, rfl⟩, hfuses, hlatched, congrArg Fuses.state hlatched⟩
  · refine (command_takes s 0x0C01 cmdLcAdvance r e h).trans (next_congr ?_)
    exact (lcAdvance_effect (d := started s 0x0C01 r) (q := asOp 0x0C01 r) (Or.inl htarget) hf).trans (if_neg (by simp [hok]))
  · exact (command_takesData s 0x0C01 cmdLcAdvance r e h).trans (next_congr (lcAdvance_unauthorised htarget hbad))
  · have hadvance : (started s 0x0C01 r).bist.fuses.advance ((asOp 0x0C01 r).a0.get 0 3) (asOp 0x0C01 r).a1.toNat = some f :=
      (congrArg (fun k => s.dev.bist.fuses.advance k r.a1.toNat) htarget).trans hf
    obtain ⟨hfuses, hlatched⟩ := lcAdvance_burns (d := started s 0x0C01 r) (q := asOp 0x0C01 r)
      (e := { e with data := dataOf r e }) (Or.inr hauth) hadvance hok
    exact ⟨_, command_takesData s 0x0C01 cmdLcAdvance r e h, ⟨rfl, rfl⟩, hfuses, hlatched⟩
  · rw [exec_repairApply_map hu hcur hsup h, if_pos (by rw [List.length_take]; omega)]
  · subst hb
    have hexec := exec_repairApply_map hu hcur hsup h
    rw [if_neg (not_not.mpr hlen), if_pos hgood] at hexec
    obtain ⟨hmap, hrepair, hstatus⟩ := mapInForce_shows s.dev (c.take (s.dev.fld BIST_REPAIR_LEN 0 14)) 2
    exact ⟨_, hexec, ⟨rfl, rfl⟩, hmap, hrepair, hstatus⟩
  · subst hb
    have hexec := exec_repairApply_map hu hcur hsup h
    rw [if_neg (not_not.mpr hlen), if_neg hbad] at hexec
    obtain ⟨hbist, hstate, hcode⟩ := mapRefused_shows s.dev (repairCheck_lt (c.take (s.dev.fld BIST_REPAIR_LEN 0 14)))
    exact ⟨_, hexec, ⟨rfl, rfl⟩, hbist, hstate, hcode⟩
  · obtain ⟨hrun, hnone, hstatus, hrcd⟩ := mbistRuns_shows (started s 0x0C02 r) (asOp 0x0C02 r) e.blob
    have hexec := (command_takes s 0x0C02 cmdMbistRun r e h).trans (next_congr (mbistRun_effect ..))
    generalize (started s 0x0C02 r).mbistRuns (asOp 0x0C02 r) e.blob = d at *
    rw [hrcd] at hexec
    exact ⟨d, hrun, hnone, hstatus, hrcd, fun h => hexec.trans (next_congr (if_pos h)),
      fun h => hexec.trans (next_congr (if_neg (Bool.eq_false_iff.mp h)))⟩
  · obtain ⟨hcopy, hbist⟩ := repairStore_copies (d := started s 0x0C03 r) (q := asOp 0x0C03 r) husable hx
    exact ⟨_, command_takes s 0x0C03 cmdRepairStore r e h, ⟨rfl, rfl⟩, hcopy, hbist⟩
  · exact (command_takes s 0x0C03 cmdRepairStore r e h).trans (next_congr (repairStore_unusable (d := started s 0x0C03 r) husable))
  · exact (command_takes s 0x0C03 cmdRepairStore r e h).trans
      (next_congr (repairStore_fails (d := started s 0x0C03 r) husable hkind hx))
  · refine (command_takes s 0x0C80 cmdBistQuery r e h).trans (next_congr ?_)
    rw [bistQuery_effect, if_neg (show ¬ (asOp 0x0C80 r).a0.bit 0 = true by rw [Bool.not_eq_true]; exact hbit)]
    rfl
  · refine ⟨_, length_mbistShown s.dev, rfl, (command_takes s 0x0C80 cmdBistQuery r e h).trans (next_congr ?_)⟩
    rw [bistQuery_effect, if_pos (show (asOp 0x0C80 r).a0.bit 0 = true from hbit)]
    rfl
  · exact command_fails s 0x0C80 cmdBistQuery r e hu htake hgroup (bistQuery_busy (d := started s 0x0C80 r) rfl hshape hrun)
  · obtain ⟨hcount, hat⟩ := blocks16_whole n blob.length blob hlen (by omega)
    obtain ⟨hdone, hheld, hstatus⟩ := mbistDone_shows d (blocks16 blob.length blob)
    have hend := mbistEnd_eq (q := q) hrun
    have htake : ((blocks16 blob.length blob).take 256).length = Nat.min 256 n := by rw [List.length_take, hcount]
    have hempty : (blocks16 blob.length blob).isEmpty = true ↔ n = 0 := by
      rw [List.isEmpty_iff_length_eq_zero, hcount]
    refine ⟨d.mbistDone (blocks16 blob.length blob), ?_, hdone, ?_, ?_, fun i hlt hin => ?_⟩
    · rw [hend, htake, hcount]
      simp only [hempty]
    · rw [hheld, htake]
    · rw [hstatus, htake, hcount]
    · rw [hheld, List.getElem?_take_of_lt hlt, hat i hin]

end Sys2Proof.Machine
end
section
/-! SUPPORT. The drive of an axis, its inputs and encoder, and O55 (R418 to R423, R429 to R432). -/

namespace Sys2Proof.Machine

/-! ## Chopping (R419, R420) -/

/-- The correction stays within half a hysteresis. -/
theorem ofsNext_range (td h tr tf : Nat) (ofs : Int) :
    -(32 * (h : Int)) ≤ ofsNext td h tr tf ofs ∧ ofsNext td h tr tf ofs ≤ 32 * (h : Int) := by
  unfold ofsNext clampInt
  extract_lets target quot step
  generalize ofs + step = x
  split
  · omega
  split <;> omega

/-- A phase's chopper, as a crossing leaves it. -/
def Dev.putChop (d : Dev) (a ph : Nat) (c : Chop) : Dev := d.modAxis a (fun x => { x with chop := x.chop.set ph c })

/-- An upper crossing turns the bridge off; the third early one in a row is a short. -/
def Dev.crossUpper (d : Dev) (a ph ns : Nat) (c : Chop) (m n : Nat) : Dev :=
  let g := (d.putChop a ph { c with tr := ns, mUp := some m, early := n }).send (.bridge a ph false
    ((d.putChop a ph { c with tr := ns, mUp := some m, early := n }).phasePlus a ph)
    ((d.putChop a ph { c with tr := ns, mUp := some m, early := n }).thresholds a ph).2)
  if 3 ≤ n then g.phaseShort a else g

/-- A lower crossing turns it on. -/
def Dev.crossLower (d : Dev) (a ph : Nat) (c : Chop) (m : Nat) (ofs : Int) : Dev :=
  (d.putChop a ph { c with mLow := some m, mUp := none, ofs := ofs }).send (.bridge a ph true
    ((d.putChop a ph { c with mLow := some m, mUp := none, ofs := ofs }).phasePlus a ph)
    ((d.putChop a ph { c with mLow := some m, mUp := none, ofs := ofs }).thresholds a ph).1)

section
variable {a : Fin 8} {ph : Fin 2} {ns : Nat} {first : Bool} {s : State} {c : Chop} {m : Nat} (ha : Awake s)
  (hready : s.dev.axReady a = true) (hdrive : s.dev.axDrive a % 2 = 0) (hc : c = (s.dev.axis a).chop.getD ph default)
  (hm : m = s.dev.phaseTarget a ph)
include ha hready hdrive hc hm

theorem exec_chopperCrossing_upper : exec (.chopperCrossing a ph true ns first) s =
    .next { s with dev := s.dev.crossUpper a ph ns c m (if first then c.early + 1 else 0) } := by
  show execChopperCrossing a ph true ns first s = _
  unfold execChopperCrossing
  rw [on_awake _ _ ha]
  refine next_congr ((if_neg (by simp [hready, hdrive])).trans ?_)
  subst hc hm
  rfl

/-- The correction is formed from a whole cycle at one target alone. -/
theorem exec_chopperCrossing_lower : exec (.chopperCrossing a ph false ns first) s =
    .next { s with dev := s.dev.crossLower a ph c m (if s.dev.bit (MOT_AX_CHOP a) 31 = false then 0
      else if c.mLow = some m ∧ c.mUp = some m ∧ c.tr ≠ 0 ∧ ns ≠ 0 then
        ofsNext (s.dev.fld (MOT_AX_CHOP a) 8 12) (s.dev.fld (MOT_AX_CHOP a) 0 8) c.tr ns c.ofs
      else c.ofs) } := by
  show execChopperCrossing a ph false ns first s = _
  unfold execChopperCrossing
  rw [on_awake _ _ ha]
  refine next_congr ((if_neg (by simp [hready, hdrive])).trans ?_)
  subst hc hm
  refine congrArg (s.dev.crossLower a ph _ _) ?_
  cases s.dev.bit (MOT_AX_CHOP a) 31
  · simp
  · simp [and_assoc]

end

theorem crossing_idle {a : Fin 8} {ph : Fin 2} {up first : Bool} {ns : Nat} {s : State}
    (h : s.dev.axReady a = false ∨ s.dev.axDrive a % 2 = 1) :
    exec (.chopperCrossing a ph up ns first) s = .next s ∧ exec (.phaseOpen a ph) s = .next s := by
  constructor
  · show execChopperCrossing a ph up ns first s = _
    unfold execChopperCrossing
    exact on_same (if_pos (by simpa using h))
  · show execPhaseOpen a ph s = _
    unfold execPhaseOpen
    refine on_same (if_neg ?_)
    rcases h with h | h <;> simp [h]

/-- A short of a phase is of class NOTE, or HOLD in BUILD (R465). -/
theorem mild_phaseShort (d : Dev) (p : Word) : Mild d How.real 32 7 p := by
  intro c hc
  have hclass : How.real.classOf d 32 7 p = some (if d.mode.cur == .build then Cls.hold else .note) := rfl
  rw [hclass] at hc
  split at hc <;> cases hc
  · exact Or.inr rfl
  · exact Or.inl rfl

/-- A short turns its axis off. -/
theorem phaseShort_off {d : Dev} {a : Nat} (ha : a < d.mot.axes.length) (hmv : (d.axis a).mv = none) :
    ((d.phaseShort a).axis a).faulted = true ∧ (d.phaseShort a).axReady a = false := by
  have hfault : ((d.phaseShort a).axis a).faulted = true := by
    have hshort : d.phaseShort a =
        ((d.modAxis a (fun y => { y with faulted := true, homed := false })).send (.axisEn a false)).fault 32 7 := by
      unfold Dev.phaseShort
      simp only [hmv]
    have hkeep := (fault_held ((d.modAxis a (fun y => { y with faulted := true, homed := false })).send (.axisEn a false))
      (src := 32) (cause := 7) rfl mild_phaseShort).1
    obtain ⟨-, -, -, -, hmot, -⟩ := hkeep.keeps
    have hsend : ((d.modAxis a (fun y => { y with faulted := true, homed := false })).send (.axisEn a false)).axis a =
        { d.axis a with faulted := true, homed := false } := axis_modAxis_same _ _ ha
    rw [hshort, axis_of_mot hmot, hsend]
  refine ⟨hfault, ?_⟩
  unfold Dev.axReady
  rw [hfault]
  simp

theorem exec_phaseOpen {a : Fin 8} {ph : Fin 2} {s : State} (ha : Awake s) (hready : s.dev.axReady a = true)
    (hdrive : s.dev.axDrive a % 2 = 0) :
    exec (.phaseOpen a ph) s = .next (if s.dev.fld (MOT_AX_CUR a) 0 10 ≤ 4 * s.dev.phaseTarget a ph
      then { s with dev := s.dev.fault 32 6 } else s) := by
  show execPhaseOpen a ph s = _
  unfold execPhaseOpen
  by_cases h : s.dev.fld (MOT_AX_CUR a) 0 10 ≤ 4 * s.dev.phaseTarget a ph
  · rw [on_awake _ _ ha, if_pos h]
    exact next_congr (if_pos (by simp [hready, hdrive, h]))
  · rw [if_neg h]
    exact on_same (if_neg (by simp [h]))

/-- The level falls to I_HOLD once the axis has rested (R421). -/
theorem exec_holdCurrentTimer {a : Fin 8} {s : State} (ha : Awake s) (hrest : (s.dev.axis a).moving = false)
    (hlevel : (s.dev.axis a).level = 0) :
    exec (.holdCurrentTimer a) s = .next { s with dev := s.dev.modAxis a (fun x => { x with level := 1 }) } := by
  show execHoldCurrentTimer a s = _
  unfold execHoldCurrentTimer
  rw [on_awake _ _ ha]
  exact next_congr (if_pos (by simp [hrest, hlevel]))

theorem exec_holdCurrentTimer_idle {a : Fin 8} {s : State} (h : (s.dev.axis a).moving = true ∨ (s.dev.axis a).level ≠ 0) :
    exec (.holdCurrentTimer a) s = .next s := by
  show execHoldCurrentTimer a s = _
  unfold execHoldCurrentTimer
  refine on_same (if_neg ?_)
  rcases h with h | h <;> simp [h]

/-! ## Inputs (R429 to R431) -/

theorem exec_debouncedInputEdge_absent {a : Fin 8} {k : AxInput} {level chatter : Bool} {s : State}
    (h : nAxes s.dev.variant ≤ a.val) : exec (.debouncedInputEdge a k level chatter) s = .next s := by
  show execDebouncedInputEdge a k level chatter s = _
  unfold execDebouncedInputEdge
  exact on_same (if_pos h)

/-- Input i of axis a has a new level. -/
def Dev.inputTaken (d : Dev) (a i : Nat) (level : Bool) : Dev :=
  d.modAxis a (fun x => { x with inp := x.inp.set i (some level) })

/-- A new level moves nothing. -/
theorem inputTaken_mv (d : Dev) (a i : Nat) (level : Bool) : ((d.inputTaken a i level).axis a).mv = (d.axis a).mv := by
  unfold Dev.inputTaken
  by_cases ha : a < d.mot.axes.length
  · rw [axis_modAxis_same d _ ha]
  · have hout (x : Dev) (hx : x.mot.axes.length = d.mot.axes.length) : x.axis a = default :=
      List.getD_eq_default _ _ (by omega)
    rw [hout _ (axes_modAxis_length d a _), hout d rfl]

/-- A limit input whose level is not its rest level is active. -/
theorem inputTaken_active {d : Dev} {a i : Nat} {level : Bool} (ha : a < d.mot.axes.length) (hi : i < (d.axis a).inp.length)
    (hlevel : level ≠ d.bit (MOT_AX_CFG a) i) : (d.inputTaken a i level).axActive a i = true := by
  have hinp : ((d.inputTaken a i level).axis a).inp.getD i none = some level := by
    rw [show (d.inputTaken a i level).axis a = { d.axis a with inp := (d.axis a).inp.set i (some level) } from
      axis_modAxis_same d _ ha]
    simp [hi]
  have hbit : (d.inputTaken a i level).bit (MOT_AX_CFG a) i = d.bit (MOT_AX_CFG a) i := rfl
  unfold Dev.axActive
  rw [hinp, hbit]
  simpa using hlevel

/-- What a new level at limit input i does to a moving axis. -/
def Dev.limitEdge (d : Dev) (a i edec : Nat) (m : Move) : Dev :=
  if d.axActive a i && m.plus == (i == 0) && m.stop != some (stLimit, 0x0605, Nat.max 1 edec) then
    if m.home.isSome then (d.axStop a edec stLimit 0x0605).fault 32 2 else (d.axStop a edec stPartial 0).fault 32 1
  else d

/-- The index of an input among those of its axis. -/
def inputIndex : AxInput → Nat
  | .limp => 0
  | .limn => 1
  | .home => 2

/-- A chattering input ends a homing alone. -/
theorem exec_inputEdge_chatter_rest {a : Fin 8} {k : AxInput} {level : Bool} {s : State}
    (hpresent : a.val < nAxes s.dev.variant) (hmv : (s.dev.axis a).mv = none) :
    exec (.debouncedInputEdge a k level true) s = .next s := by
  show execDebouncedInputEdge a k level true s = _
  unfold execDebouncedInputEdge
  refine on_same ((if_neg (by omega)).trans ?_)
  simp only [hmv, if_true, Bool.false_and, Bool.false_eq_true, if_false]

section
variable {a : Fin 8} {k : AxInput} {level : Bool} {s : State} (ha : Awake s) (hpresent : a.val < nAxes s.dev.variant)
include ha hpresent

/-- An edge of an axis at rest. -/
theorem exec_inputEdge_rest (hmv : (s.dev.axis a).mv = none) :
    exec (.debouncedInputEdge a k level false) s = .next { s with dev :=
      (if k ≠ .home && (s.dev.inputTaken a (inputIndex k) level).limited a then
        ((s.dev.inputTaken a (inputIndex k) level).axHalt a).fault 32 1
      else s.dev.inputTaken a (inputIndex k) level) } := by
  have hkeep (i : Nat) : ((s.dev.inputTaken a i level).axis a).mv = none := (inputTaken_mv s.dev a i level).trans hmv
  unfold Dev.inputTaken at hkeep
  show execDebouncedInputEdge a k level false s = _
  unfold execDebouncedInputEdge
  rw [on_awake _ _ ha]
  refine next_congr ((if_neg (by omega)).trans ?_)
  cases k <;> simp only [Bool.false_eq_true, if_false, hkeep] <;> rfl

variable {m : Move} (hmv : (s.dev.axis a).mv = some m) (hstop : m.stop = none)
include hmv hstop

/-- A limit input of a moving axis. -/
theorem exec_inputEdge_limit (hk : k ≠ .home) :
    exec (.debouncedInputEdge a k level false) s = .next { s with dev :=
      ((s.dev.inputTaken a (inputIndex k) level).limitEdge a (inputIndex k) (s.dev.rd (MOT_AX_EDEC a)).toNat m) } := by
  have hkeep (i : Nat) : ((s.dev.inputTaken a i level).axis a).mv = some m := (inputTaken_mv s.dev a i level).trans hmv
  unfold Dev.inputTaken at hkeep
  show execDebouncedInputEdge a k level false s = _
  unfold execDebouncedInputEdge
  rw [on_awake _ _ ha]
  refine next_congr ((if_neg (by omega)).trans ?_)
  unfold Dev.limitEdge Dev.inputTaken
  cases k with
  | home => exact absurd rfl hk
  | limp => simp [hkeep, hmv, hstop, inputIndex]
  | limn => simp [hkeep, hmv, hstop, inputIndex]

/-- The home edge latches (R431). -/
theorem exec_inputEdge_home {h : Int} (hhome : m.home = some h) (hwas : (s.dev.axis a).inp.getD 2 none ≠ some level) :
    exec (.debouncedInputEdge a .home level false) s =
      .next { s with dev := (s.dev.inputTaken a 2 level).homeLatch a m h } := by
  have hkeep (i : Nat) : ((s.dev.inputTaken a i level).axis a).mv = some m := (inputTaken_mv s.dev a i level).trans hmv
  unfold Dev.inputTaken at hkeep
  show execDebouncedInputEdge a .home level false s = _
  unfold execDebouncedInputEdge
  rw [on_awake _ _ ha]
  refine next_congr ((if_neg (by omega)).trans ?_)
  simp only [Bool.false_eq_true, if_false, if_true, hkeep, hmv, hstop, hhome, Option.isSome_some, Option.isNone_none,
    Bool.true_and, bne_iff_ne, ne_eq, hwas, not_false_eq_true]
  rfl

/-- A home input that chatters ends the homing (R430). -/
theorem exec_inputEdge_chatter_homing (hhome : m.home.isSome = true) :
    exec (.debouncedInputEdge a .home level true) s =
      .next { s with dev := (s.dev.axStop a (s.dev.rd (MOT_AX_EDEC a)).toNat stLimit 0x0606).fault 32 3 } := by
  show execDebouncedInputEdge a .home level true s = _
  unfold execDebouncedInputEdge
  rw [on_awake _ _ ha]
  refine next_congr ((if_neg (by omega)).trans ?_)
  simp only [if_true, hmv, hstop, hhome, Option.isNone_none, Bool.and_self, decide_true]

end

/-- A limit toward which an axis moves stops it (R430). -/
theorem limitEdge_reached {d : Dev} {a i edec : Nat} {m : Move} (hactive : d.axActive a i = true)
    (hplus : m.plus = (i == 0)) (hstop : m.stop = none) :
    d.limitEdge a i edec m = if m.home.isSome then (d.axStop a edec stLimit 0x0605).fault 32 2
      else (d.axStop a edec stPartial 0).fault 32 1 := by
  unfold Dev.limitEdge
  exact if_pos (by simp [hactive, hplus, hstop])

/-! ## Encoders (R432) -/

theorem exec_quadratureEdge_off {a : Fin 2} {ch up both : Bool} {s : State} (h : s.dev.encOn a = false) :
    exec (.quadratureEdge a ch up both) s = .next s := by
  show execQuadratureEdge a ch up both s = _
  unfold execQuadratureEdge
  exact on_same (if_pos (by simp [h]))

theorem exec_encoderCheck_off {a : Fin 2} {s : State} (h : s.dev.encOn a = false) :
    exec (.encoderCheck a) s = .next s := by
  show execEncoderCheck a s = _
  unfold execEncoderCheck
  exact on_same (if_pos (by simp [h]))

/-- The position error of an encoder. -/
def Dev.encError (d : Dev) (a : Nat) : Nat :=
  (divRound (d.rdI (MOT_AX_ENC a) * (d.rd (MOT_AX_ENC_SCALE a)).toNat) 65536 - d.rdI (MOT_AX_POS a)).natAbs

section
variable {a : Fin 2} {s : State} (hon : s.dev.encOn a = true)
include hon

theorem exec_encoderCheck_within (h : s.dev.encError a ≤ (s.dev.rd (MOT_AX_FE_LIM a)).toNat) :
    exec (.encoderCheck a) s = .next s := by
  show execEncoderCheck a s = _
  unfold execEncoderCheck
  exact on_same ((if_neg (by simp [hon])).trans (if_neg (Nat.not_lt.mpr h)))

variable (ha : Awake s)
include ha

theorem exec_encoderCheck_lost (h : (s.dev.rd (MOT_AX_FE_LIM a)).toNat < s.dev.encError a) :
    exec (.encoderCheck a) s = .next { s with dev := s.dev.stall a } := by
  show execEncoderCheck a s = _
  unfold execEncoderCheck
  rw [on_awake _ _ ha]
  exact next_congr ((if_neg (by simp [hon])).trans (if_pos h))

theorem exec_quadratureEdge (ch up both : Bool) :
    exec (.quadratureEdge a ch up both) s = .next { s with dev := (if both then s.dev.stall a
      else s.dev.wrN (MOT_AX_ENC a) (unsigned 32 (s.dev.rdI (MOT_AX_ENC a) + (if up then 1 else -1)))) } := by
  show execQuadratureEdge a ch up both s = _
  unfold execQuadratureEdge
  rw [on_awake _ _ ha]
  exact next_congr (if_neg (by simp [hon]))

end

/-! ## Coarse steps (R423) -/

theorem exec_coarseStepEdge_idle {a : Fin 8} {dir : Bool} {ns : Nat} {s : State}
    (h : s.dev.axReady a = false ∨ s.dev.axDrive a < 2 ∨ s.dev.safeState = true ∨ s.dev.mode.cur = .configure ∨
      s.dev.axActive a (if dir then 0 else 1) = true) :
    exec (.coarseStepEdge a dir ns) s = .next s := by
  show execCoarseStepEdge a dir ns s = _
  unfold execCoarseStepEdge
  refine on_same (if_pos ?_)
  simpa [or_assoc] using h

/-- The first coarse step starts an interpolation of 100 µs from where the axis stands. -/
theorem exec_coarseStepEdge_first {a : Fin 8} {dir : Bool} {ns : Nat} {s : State} {n : Int} (ha : Awake s)
    (hready : s.dev.axReady a = true) (hdrive : 2 ≤ s.dev.axDrive a) (hsafe : s.dev.safeState = false)
    (hmode : s.dev.mode.cur ≠ .configure) (hfree : s.dev.axActive a (if dir then 0 else 1) = false)
    (hfirst : (s.dev.axis a).coarseAt = none) (hstill : (s.dev.axis a).emission = none)
    (hn : n = 2 ^ Nat.min 8 (s.dev.fld (MOT_AX_CFG a) 20 4)) :
    exec (.coarseStepEdge a dir ns) s = .next { s with dev := (s.dev.modAxis a (fun x => { x with
      level := 0, us := (s.dev.axis a).us, coarseAt := some s.dev.tb3, coarseUp := dir
      emission := some ⟨s.dev.tb3, (s.dev.axis a).us, 0, if dir then n else -n, 100 * perUs⟩ })) } := by
  have hpos : 0 ≤ n := hn ▸ Int.pow_nonneg (by decide)
  show execCoarseStepEdge a dir ns s = _
  unfold execCoarseStepEdge
  rw [on_awake _ _ ha]
  refine next_congr ((if_neg ?_).trans ?_)
  · simp [hready, hsafe, hmode, hfree, show 1 < s.dev.axDrive a from hdrive]
  · simp only [hfirst, hstill, ← hn, true_or, if_true, Int.sub_self]
    exact if_neg (by simpa using hpos)

/-! ## O55 -/

/-- Settles O55. That coarse steps toward an active limit move nothing, that the first interval of an interpolation is
100 µs, and that an interpolated axis stops at once, is the model's reading (log entry 64). -/
theorem axesAreDriven : Obligations.AxesAreDriven := by
  unfold Obligations.AxesAreDriven
  refine ⟨ofsNext_range, ?chopping, fun _ _ _ _ _ _ h => crossing_idle h, fun _ _ ha hmv => phaseShort_off ha hmv,
    fun _ _ _ ha hready hdrive => exec_phaseOpen ha hready hdrive,
    fun _ _ ha => ⟨fun hrest hlevel => exec_holdCurrentTimer ha hrest hlevel, fun h => exec_holdCurrentTimer_idle h⟩,
    fun _ _ _ _ _ h => exec_debouncedInputEdge_absent h, ?inputs, ?encoders,
    fun _ _ _ _ h => exec_coarseStepEdge_idle h,
    fun _ _ _ _ _ ha hready hdrive hsafe hmode hfree hfirst hstill hn =>
      exec_coarseStepEdge_first ha hready hdrive hsafe hmode hfree hfirst hstill hn⟩
  case chopping =>
    rintro a ph ns first s c m ha hready hdrive hc hm
    refine ⟨?_, ?_⟩
    · rintro n d g rfl rfl rfl
      exact exec_chopperCrossing_upper ha hready hdrive hc hm
    · rintro ofs d rfl rfl
      exact exec_chopperCrossing_lower ha hready hdrive hc hm
  case inputs =>
    intro a k level s i d edec ha hpresent hi hedec hd
    have hindex : i = inputIndex k := by cases k <;> exact hi
    subst hindex hedec hd
    refine ⟨fun hmv => ⟨fun hfree => ?_, fun hk hlim => ?_, exec_inputEdge_chatter_rest hpresent hmv⟩,
      fun m hmv hstop hinp haxes => ⟨fun hk hplus hlevel => ?_, fun h hk hhome hwas => ?_, fun hk hhome => ?_⟩⟩
    · refine (exec_inputEdge_rest ha hpresent hmv).trans (next_congr (if_neg ?_))
      unfold Dev.inputTaken
      rcases hfree with hfree | hfree <;> simp [hfree]
    · refine (exec_inputEdge_rest ha hpresent hmv).trans (next_congr (if_pos ?_))
      unfold Dev.inputTaken
      simp [hk, hlim]
    · have hlt : inputIndex k < (s.dev.axis a).inp.length := by rw [hinp]; cases k <;> decide
      exact (exec_inputEdge_limit ha hpresent hmv hstop hk).trans
        (next_congr (limitEdge_reached (inputTaken_active (haxes.symm ▸ a.isLt) hlt hlevel) hplus hstop))
    · subst hk
      exact exec_inputEdge_home ha hpresent hmv hstop hhome hwas
    · subst hk
      exact exec_inputEdge_chatter_homing ha hpresent hmv hstop hhome
  case encoders =>
    intro a ch up s ha
    refine ⟨fun hon => ⟨?_, ?_, fun h => exec_encoderCheck_lost hon ha h, fun h => exec_encoderCheck_within hon h⟩,
      fun hoff => ⟨exec_encoderCheck_off hoff, fun _ => exec_quadratureEdge_off hoff⟩⟩
    · exact exec_quadratureEdge hon ha ch up false
    · exact exec_quadratureEdge hon ha ch up true

end Sys2Proof.Machine
end
